-- ==== Sys2Proof/Word.lean ====
section
/-! DEFINITION. The words of the machine: bytes, 32-bit register words, 64-bit times, descriptors. -/

namespace Sys2Proof

/-- One byte. -/
abbrev Byte := BitVec 8
/-- A register word (R8: registers are 32 bits wide). -/
abbrev Word := BitVec 32
/-- A 64-bit value: the timebase (R41), a host address (R69). -/
abbrev DWord := BitVec 64
/-- A 64-byte command descriptor (R65), byte 0 in the lowest bits (R8: little-endian). -/
abbrev Desc := BitVec 512

end Sys2Proof
end

