-- ==== Sys2Proof/Machine/Bytes.lean ====
section
/-! DEFINITION. Byte order, bit fields, sparse tables and vectors: the helpers every other file uses. -/

namespace Sys2Proof.Machine
open Sys2Proof

/-! ### Bytes and bit fields -/

/-- The `n` bytes of `v`, least significant first (R8). -/
def leBytes : Nat → Nat → List Byte
  | 0, _ => []
  | n + 1, v => BitVec.ofNat 8 v :: leBytes n (v / 256)

/-- The number that bytes spell, least significant first (R8). -/
def leNat : List Byte → Nat
  | [] => 0
  | b :: t => b.toNat + 256 * leNat t

/-- Bits `hi` to `lo` of a number. -/
def bits (v hi lo : Nat) : Nat := (v >>> lo) % 2 ^ (hi - lo + 1)

/-- Bit `i` of a number. -/
def bit (v i : Nat) : Bool := v.testBit i

/-- A Boolean as a bit. -/
def b2n (b : Bool) : Nat := if b then 1 else 0

/-- `v` saturated at `m`. -/
def satTo (m v : Nat) : Nat := min m v

/-- Field of `size` bytes at byte `off` of a descriptor (R65, R8). -/
def descField (d : Desc) (off size : Nat) : Nat := (d.toNat >>> (8 * off)) % 2 ^ (8 * size)

/-- Byte `off` of a descriptor. -/
def descByte (d : Desc) (off : Nat) : Nat := descField d off 1

/-- Bytes `off` to `off + n - 1` of a descriptor. -/
def descBytes (d : Desc) (off n : Nat) : List Byte := leBytes n (descField d off n)

/-- The low `n` bits of `v` as a signed number. -/
def signedOf (n v : Nat) : Int := if v % 2 ^ n < 2 ^ (n - 1) then (v % 2 ^ n : Nat) else (v % 2 ^ n : Nat) - (2 ^ n : Nat)

/-- A signed number as `n` bits, two's complement. -/
def ofSigned (n : Nat) (v : Int) : Nat := (v % (2 ^ n : Nat)).toNat

/-- A byte list padded with zeros to at least `n` bytes. -/
def padTo (n : Nat) (l : List Byte) : List Byte := l ++ List.replicate (n - l.length) 0

/-- A byte list padded with zeros to a whole number of `m`-byte units. -/
def padUnit (m : Nat) (l : List Byte) : List Byte := padTo ((l.length + m - 1) / m * m) l

/-- Byte `i` of a list, 0 beyond its end. -/
def byteAt (l : List Byte) (i : Nat) : Nat := (l.getD i 0).toNat

/-- Cut a list into pieces of `n`, at most `fuel` of them. -/
def chunks (α : Type) (n : Nat) : Nat → List α → List (List α)
  | 0, _ => []
  | fuel + 1, l => if l.length ≤ n then [l] else l.take n :: chunks α n fuel (l.drop n)

/-- Run `f` on a state when `c` holds. -/
def when {σ : Type} (c : Bool) (f : σ → σ) (s : σ) : σ := if c then f s else s

/-- Run `f` with the value of an option, when there is one. -/
def onSome {σ α : Type} (o : Option α) (f : α → σ → σ) (s : σ) : σ :=
  match o with
  | some a => f a s
  | none => s

/-- Run `f` for every element of a list, first to last. -/
def forAll {σ α : Type} (l : List α) (f : α → σ → σ) (s : σ) : σ := l.foldl (fun s a => f a s) s

/-! ### Sparse tables in canonical form -/

/-- A sparse table: key and value pairs, keys strictly rising, no value equal to the default. -/
abbrev Tab (α : Type) := List (Nat × α)

/-- The value at key `a`; `d` where the table lists none. -/
def tabGet {α : Type} (d : α) : Tab α → Nat → α
  | [], _ => d
  | (k, v) :: t, a => if k = a then v else tabGet d t a

/-- The table without key `a`. -/
def tabErase {α : Type} (t : Tab α) (a : Nat) : Tab α := t.filter (fun p => p.1 ≠ a)

/-- The pair placed before the first larger key. -/
def tabIns {α : Type} (a : Nat) (v : α) : Tab α → Tab α
  | [] => [(a, v)]
  | (k, w) :: t => if a < k then (a, v) :: (k, w) :: t else (k, w) :: tabIns a v t

/-- Set key `a` to `v`; a value equal to the default `d` is not listed. -/
def tabSet {α : Type} [DecidableEq α] (d : α) (t : Tab α) (a : Nat) (v : α) : Tab α :=
  if v = d then tabErase t a else tabIns a v (tabErase t a)

/-- The table without the keys that satisfy `p` (they read as the default again). -/
def tabDrop {α : Type} (p : Nat → Bool) (t : Tab α) : Tab α := t.filter (fun c => !p c.1)

/-- Keys strictly rising. -/
def tabSorted {α : Type} : Tab α → Bool
  | [] => true
  | [_] => true
  | (k, _) :: (k', w) :: t => decide (k < k') && tabSorted ((k', w) :: t)

/-- The canonical form: keys strictly rising and no value equal to the default of its key. -/
def tabWf {α : Type} [DecidableEq α] (d : Nat → α) (t : Tab α) : Bool :=
  tabSorted t && t.all (fun p => decide (p.2 ≠ d p.1))

/-! ### Vectors by index -/

/-- Element `i` of a vector. -/
def vget {α : Type} {n : Nat} (v : Vector α n) (i : Fin n) : α := v.get i

/-- The vector with element `i` replaced. -/
def vset {α : Type} {n : Nat} (v : Vector α n) (i : Fin n) (a : α) : Vector α n := v.set i.val a i.isLt

/-- The vector with `f` applied to element `i`. -/
def vmod {α : Type} {n : Nat} (v : Vector α n) (i : Fin n) (f : α → α) : Vector α n := vset v i (f (vget v i))

/-- A number taken as an index below `n + 1`. -/
def ix (n : Nat) (k : Nat) : Fin (n + 1) := Fin.ofNat (n + 1) k

end Sys2Proof.Machine
end

