-- ==== Sys2Proof/Machine/Types.lean ====
section
/-! DEFINITION. The spec's numbered vocabularies as types: roles, power domains, status codes, event codes, record
types, rings, units. -/

namespace Sys2Proof.Machine

/-- Roles (R3). -/
inductive Role | head | satellite | standalone | reserved
  deriving DecidableEq, Repr

/-- The role that a sampled ROLE[1:0] selects (R3). -/
def roleOf (pins : Nat) : Role :=
  if pins % 4 = 0 then .head else if pins % 4 = 1 then .satellite else if pins % 4 = 2 then .standalone else .reserved

/-- Power domains (R26), in the order of the PD unit numbers of R82. -/
inductive Domain | aon | core | host | ring | hfa | hfb | lf | uhf | crypto | keys | plan | board
  deriving DecidableEq, Repr

/-- Number of a domain, 0 AON to 11 BOARD (R82). -/
def Domain.num : Domain → Fin 12
  | .aon => 0 | .core => 1 | .host => 2 | .ring => 3 | .hfa => 4 | .hfb => 5
  | .lf => 6 | .uhf => 7 | .crypto => 8 | .keys => 9 | .plan => 10 | .board => 11

/-- All domains in number order. -/
def Domain.all : List Domain := [.aon, .core, .host, .ring, .hfa, .hfb, .lf, .uhf, .crypto, .keys, .plan, .board]

/-- The domain of a number. -/
def Domain.ofNum (n : Nat) : Domain := (Domain.all)[n % 12]?.getD .aon

/-- Power domain of a register address (R17 and the chapter of each block). -/
def domainOf (a : Nat) : Domain :=
  if a < 0x1000 then .core
  else if a < 0x3000 then .host
  else if a < 0x5000 then .aon
  else if a < 0x5F00 then .core
  else if a < 0x6000 then .aon
  else if a < 0x6C00 then .hfa
  else if a < 0x7800 then .hfb
  else if a < 0x8000 then .core
  else if a < 0x8800 then .core
  else if a < 0x9000 then .lf
  else if a < 0xA000 then .uhf
  else if a < 0xA400 then .keys
  else if a < 0xB000 then .crypto
  else if a = 0xB048 then .plan
  else if a < 0xC000 then .board
  else if a < 0xC800 then .ring
  else if a < 0xF800 then .core
  else .aon

/-- Status codes of completions and records (R84). -/
inductive Status
  | ok | noResponse | crcError | collision | timeout | late | flushed | keyRevoked | authFail | lengthError
  | domainOff | fieldBudget | regulatory | checksumFail | penalty | relaySuspect | proximityFail | busyTimeout
  | badDescriptor | aborted
  deriving DecidableEq, Repr

/-- Value of a status code (R84). -/
def Status.code : Status → Nat
  | .ok => 0 | .noResponse => 1 | .crcError => 2 | .collision => 3 | .timeout => 4 | .late => 5 | .flushed => 6
  | .keyRevoked => 7 | .authFail => 8 | .lengthError => 9 | .domainOff => 0x0A | .fieldBudget => 0x0B
  | .regulatory => 0x0C | .checksumFail => 0x0D | .penalty => 0x0E | .relaySuspect => 0x0F | .proximityFail => 0x10
  | .busyTimeout => 0x11 | .badDescriptor => 0x12 | .aborted => 0x13

/-- Event codes (R83). -/
inductive EventCode
  | roundDone | tallyWake | thermalThrottle | thermalShutdown | pwrState | pwrRefused | wake | tileFail | fifoOverrun
  | eccUncorrected | ringJoin | ringLeave | ringBreak | ringLatencyDrop | beamClaim | interlock | releaseFault
  | revocation | timer | gpioChange | timeSyncLost | hostFault | eqOverflow | resetCause | debugHalt
  deriving DecidableEq, Repr

/-- Value of an event code (R83). -/
def EventCode.code : EventCode → Nat
  | .roundDone => 1 | .tallyWake => 2 | .thermalThrottle => 3 | .thermalShutdown => 4 | .pwrState => 5
  | .pwrRefused => 6 | .wake => 7 | .tileFail => 8 | .fifoOverrun => 9 | .eccUncorrected => 0x0A | .ringJoin => 0x0B
  | .ringLeave => 0x0C | .ringBreak => 0x0D | .ringLatencyDrop => 0x0E | .beamClaim => 0x0F | .interlock => 0x10
  | .releaseFault => 0x11 | .revocation => 0x12 | .timer => 0x13 | .gpioChange => 0x14 | .timeSyncLost => 0x15
  | .hostFault => 0x16 | .eqOverflow => 0x17 | .resetCause => 0x18 | .debugHalt => 0x19

/-- Record types (R76); `none` values of the table are never written. -/
inductive RecType
  | pad | result | tag | frame | survey | access | tokenFrame | uhfFrame | cipher | random | serial | beam | crc | bist
  deriving DecidableEq, Repr

/-- Value of a record type (R76). -/
def RecType.code : RecType → Nat
  | .pad => 0x01 | .result => 0x02 | .tag => 0x10 | .frame => 0x11 | .survey => 0x12 | .access => 0x20
  | .tokenFrame => 0x21 | .uhfFrame => 0x22 | .cipher => 0x30 | .random => 0x31 | .serial => 0x40 | .beam => 0x41
  | .crc => 0x42 | .bist => 0x50

/-- Unit numbers of R82 other than rods. -/
def unitAcc : Nat := 0x18
/-- UHF radio (R82). -/
def unitUhf : Nat := 0x19
/-- Cipher request queue (R82). -/
def unitCph : Nat := 0x1A
/-- System and power unit (R82). -/
def unitSys : Nat := 0x1C
/-- Beam bridge (R82). -/
def unitBeam : Nat := 0x1D
/-- Serial master (R82). -/
def unitSpi : Nat := 0x1E
/-- Ring link (R82). -/
def unitRing : Nat := 0x1F
/-- Power domain `d` as a unit (R82). -/
def unitPd (d : Domain) : Nat := 0x40 + d.num.val
/-- Timer `i` as a unit (R82). -/
def unitTmr (i : Nat) : Nat := 0x60 + i
/-- CRC unit `i` (R82). -/
def unitCrc (i : Nat) : Nat := 0x70 + i
/-- General-purpose inputs (R82). -/
def unitGpio : Nat := 0x80
/-- The device as a whole (R82). -/
def unitDev : Nat := 0xFF

/-- The unit that a submission ring feeds (R18, R82): its own number, and SQ27 shares the cipher queue with SQ26. -/
def sqUnit (n : Nat) : Nat := if n = 27 then 26 else n

/-- A unit whose completions keep the order of submission (R18, R19). -/
def unitInOrder (u : Nat) : Bool := u != 26

/-- Kinds of host rings the device writes (R55, R83). -/
inductive DevRing | cq (m : Fin 16) | rq (k : Fin 4) | eq
  deriving DecidableEq, Repr

/-- Index of a device-written ring: CQ0–15, RQ0–3, EQ. -/
def DevRing.idx : DevRing → Fin 21
  | .cq m => ⟨m.val, by omega⟩
  | .rq k => ⟨16 + k.val, by omega⟩
  | .eq => 20

/-- Which slot a transaction holds (R28, R29, R164). -/
inductive SlotKind | rod | borrowed | general | none
  deriving DecidableEq, Repr

end Sys2Proof.Machine
end

