-- ==== Sys2Proof/Machine/PartsCore.lean ====
section
/-! DEFINITION. Plain data of the scheduler, the host rings, the record FIFOs and the counting board
(spec/01_architecture.md, spec/02_host_rings.md, spec/11_record_memory.md). -/

namespace Sys2Proof.Machine
open Sys2Proof

/-- Settings of a chip select (R567, R569). -/
structure SpiSet where
  div : Nat
  cpol : Bool
  cpha : Bool
  setup : Nat
  hold : Nat
  idle : Nat
  deriving DecidableEq, Repr

/-- What a serial-master frame sends before its data (R568): command and address bits in the order of the wire, dummy
cycles, whether a status byte follows, and the lanes of command, address and data. -/
structure SpiHead where
  cmd : List Bool
  addr : List Bool
  dummy : Nat
  status : Bool
  lanes : List Nat
  deriving DecidableEq, Repr

/-- How the cells drive the AC-coupled lanes (R627): a level, one pulse, or a train of pulses of their value (IEEE 1149.6). -/
inductive AcDrive | level | pulse | train
  deriving DecidableEq, Repr

/-- What drives the balls that boundary cells can take (R627 to R629). -/
inductive BallDrive
  /-- the units -/
  | units
  /-- the boundary cells, in the order of the chain; on the AC-coupled lanes as `ac` says -/
  | cells (values : List Bool) (ac : AcDrive)
  /-- nothing -/
  | highZ
  deriving DecidableEq, Repr

/-- What leaves the device, newest first in the state's log: the model's own record of what a host, a bus, the air or a
token could observe of a step. -/
inductive Output
  /-- a posted write of bytes to host memory (R38, R86) -/
  | hostWrite (addr : Nat) (bytes : List Byte)
  /-- an MSI-X message of a vector (R95) -/
  | msi (vector : Nat)
  /-- a register read result returned to the reader -/
  | readData (addr : Nat) (value : Nat)
  /-- a PCIe read that completes with Unsupported Request (R51) -/
  | unsupported (addr : Nat)
  /-- a reader frame on the air of a rod: bytes as sent, CRC included, the bits of the last byte (0: all), and the parity
  bits sent, one after each whole byte of a Type A frame (R130) -/
  | rodFrame (rod : Nat) (bytes : List Byte) (lastBits : Nat) (parity : List Bool)
  /-- the reader frame on the air of a rod ends early: at its next symbol boundary with the protocol's EOF, its CRC
  missing (R165) -/
  | rodFrameCut (rod : Nat)
  /-- an LF downlink frame on a channel: its lead, TOK_DL_CFG.CW in bit cells or for a transponder exchange CHARGE in ms,
  then MARK and these bytes (R307, R325) -/
  | lfFrame (chan : Nat) (tp : Bool) (lead : Nat) (bytes : List Byte)
  /-- the bridge inputs LF_GH and LF_GL of a channel over a span (R296 to R299): for each run of driven cycles the cycles
  of BRAKE before it and the conduction width W of each cycle; `damp`: antiphase half cycles at each off edge -/
  | lfDrive (chan damp : Nat) (runs : List (Nat × List Nat))
  /-- a UHF frame: channel, power code, and its bytes from the preamble on: preamble, sync word, payload, CRC (R427) -/
  | uhfFrame (chan power : Nat) (bytes : List Byte)
  /-- a serial-master frame begins on a chip select: settings, what it sends before its data, and SPI_IO[0] to SPI_IO[3] in
  each SCK cycle from its command to its status phase, none where a lane is not driven (R568) -/
  | spiFrame (cs : Nat) (set : SpiSet) (head : SpiHead) (io : List (List (Option Bool)))
  /-- the data phase of a serial-master frame: bytes sent or read, and the lanes in each SCK cycle (R568) -/
  | spiData (cs : Nat) (bytes : List Byte) (io : List (List (Option Bool)))
  /-- the tally burst of a rod: TLY_CFG.LEVEL, 0 to 3 for amplitude 0.125, 0.25, 0.5 and 1.0 (R274) -/
  | tallyBurst (rod level : Nat)
  /-- what drives the balls changes (R629) -/
  | balls (drive : BallDrive)
  /-- a frame on the beam: bytes with CRC -/
  | beamFrame (bytes : List Byte)
  /-- a data-class frame on a ring link (true: UP) -/
  | ringFrame (up : Bool) (bytes : List Byte)
  /-- a control token on a ring link (true: UP): type, TSEQ, payload, and whether its CRC is good (R515, R517) -/
  | ringToken (up : Bool) (type tseq : Nat) (payload : List Byte) (crc : Nat)
  /-- a flow-control symbol on a ring link (true: UP; true: XOFF) -/
  | ringFlow (up : Bool) (xoff : Bool)
  /-- a UHF ranging train (R321, R323): aerial that transmits it and aerial that receives, 0 A and 1 B, the spacing of its
  cells in units of 250 ns, and their challenge bits -/
  | rangingTrain (chan power tx rx spacing : Nat) (bitsSent : List Bool)
  /-- a release output is driven to a level (R383) -/
  | release (lock : Nat) (level : Bool)
  /-- a UHF carrier: channel, power code, modulation -/
  | uhfCarrier (chan power : Nat) (modulated : Bool)
  /-- a claim frame on the beam in arbitration mode: offered address and device serial -/
  | claimFrame (addr : Nat) (serial : DWord)
  /-- the identification register of the TAP, when IDCODE is selected (R627) -/
  | tapId (value : Nat)
  /-- bits that TDO shifts out of the selected data register, first bit first (R627) -/
  | tdo (bits : List Bool)
  deriving DecidableEq, Repr

/-- Phase of a transaction from its fetch to the commit of its completion (R27, R69, R85). -/
inductive TxPhase
  /-- in host staging, not dispatched -/
  | staged
  /-- dispatched, waiting in its unit's queue -/
  | queued
  /-- being carried out by its unit -/
  | running
  /-- ended; its completion waits to be committed with this status -/
  | done (st : Status)
  deriving DecidableEq, Repr

/-- A protocol profile as an exchange uses it (R126, R134, R139). Times in carrier cycles, defaults filled in. -/
structure Profile where
  proto : Nat
  l4 : Bool
  txRate : Nat
  rxRate : Nat
  subc : Bool
  depth : Nat
  pause : Nat
  fdtMin : Nat
  respWait : Nat
  nextMin : Nat
  deriving DecidableEq, Repr

/-- The rod settings a transaction keeps from its dispatch on (R22): the four profiles, power, phase, receiver and GUARD. -/
structure RodSnap where
  profs : List Profile
  power : Nat
  phase : Nat
  gain : Nat
  agc : Bool
  guard : Nat
  /-- FLD_CTL.COMB_EN and ROD_SPEC_CFG.WRITE_WAIT -/
  comb : Bool
  writeWait : Nat
  deriving DecidableEq, Repr

/-- Settings of a transaction that kept none. -/
def RodSnap.none : RodSnap := ⟨[], 0, 0, 0, false, 0, false, 0⟩

/-- A descriptor from its fetch to the commit of its completion, or an internal request. The list order of these is the
order of fetch. -/
structure Txn where
  /-- the model's own identity of the transaction -/
  id : Nat
  /-- unit that carries it out (R18, R82) -/
  unit : Nat
  /-- submission ring that receives the completion; none: it came over the beam (R20) -/
  sq : Option Nat
  desc : Desc
  slot : SlotKind
  phase : TxPhase
  /-- it produced at least one record (R71 REC) -/
  hasRec : Bool
  /-- a record of it was poisoned, discarded or lost (R479) -/
  failed : Bool
  /-- settings in force at dispatch, for a rod (R22) -/
  snap : Option RodSnap
  /-- bytes that its data fetch brought (R69), when it names a host buffer -/
  data : List Byte
  /-- group number below which its unit's packets were published before it ended (R484) -/
  barrier : Nat
  /-- a HOST reset came while it was dispatched: its completion is discarded (R103) -/
  orphan : Bool
  /-- AON microseconds at its dispatch (R593) -/
  since : Nat
  /-- for an SQ25 TRANSMIT or RECEIVE: the sync word that SYNC_SEL selects, and UHF_CTL.DIV_EN, in force at its dispatch (R22) -/
  sync : Nat
  divEn : Bool
  /-- settings of its chip select in force at its dispatch, for an XFER (R22) -/
  spi : Option SpiSet
  /-- BEAM_CFG.RETRY in force at its dispatch, for a beam transaction (R22) -/
  retry : Nat
  deriving DecidableEq, Repr

/-- An event pair's contents before commit (R80). `lastSeq` is R40's value, none its NONE flag: for an event that came over
the ring it is the origin's; an event of this device takes its own when it is committed. -/
structure Event where
  code : Nat
  unit : Nat
  detail : List Byte
  lastSeq : Option Word
  /-- for an event that arrived over the ring: its origin serial, origin SEQ and origin stamp -/
  origin : Option (Nat × Word × DWord)
  deriving DecidableEq, Repr

/-- A record before commit: everything of R73 and R74 that its producer knows. -/
structure RecordData where
  type : RecType
  status : Status
  source : Nat
  tag : Nat
  tagSq : Nat
  stamp : DWord
  content : List Byte
  /-- FRAG of its first fragment, and whether MORE is set in its last one: not 0 and false only in the groups of a SERIAL
  record (R467, R573) -/
  frag : Nat
  more : Bool
  deriving DecidableEq, Repr

/-- A packet in a record FIFO (R464). -/
structure Packet where
  type : Nat
  status : Nat
  source : Nat
  tag : Nat
  tagSq : Nat
  frag : Nat
  more : Bool
  stamp : DWord
  content : List Byte
  /-- words were dropped (R473) -/
  ovr : Bool
  /-- word address of LENW in its bank, and words it occupies, LENW included -/
  addr : Nat
  words : Nat
  /-- the transaction that produced it, kept outside the FIFO words (R478) -/
  txn : Option Nat
  /-- the model's own number of its group, rising (R484) -/
  pid : Nat
  deriving DecidableEq, Repr

/-- A group whose words are being written (R465, R472): its transaction, the credits of the packets begun, and its need in words.
`discarded`: it found no room at its start, is not open, and produces no record (R474). -/
structure OpenGroup where
  txn : Option Nat
  credits : Nat
  need : Nat
  discarded : Bool
  deriving DecidableEq, Repr

/-- One record FIFO (R468 to R477): the packets published in the fill bank and in the drain bank. -/
structure Fifo where
  /-- fill bank: false A, true B -/
  bank : Bool
  fill : List Packet
  drain : List Packet
  /-- words written below the fill bank's published pointer -/
  fillWords : Nat
  openGroup : Option OpenGroup
  /-- credits held for the group of an exchange on the air (R476) -/
  reserved : Nat
  /-- groups of records whose start waits for credits (R475), with their transaction -/
  waiting : List (List RecordData × Option Nat)
  /-- words dropped since the last FIFO_OVERRUN event (R473) -/
  dropped : Nat
  /-- the mode in force (R477): true credit mode -/
  credit : Bool
  deriving DecidableEq, Repr

/-- An empty FIFO in native or credit mode. -/
def Fifo.empty (credit : Bool) : Fifo := ⟨false, [], [], 0, none, 0, [], 0, credit⟩

/-- A record in a counting-board tile (R486). -/
structure BoardRec where
  seq : Word
  /-- first 16-byte unit of the tile, and length in units -/
  unit : Nat
  len : Nat
  /-- it has left the device (R489) -/
  left : Bool
  txn : Option Nat
  source : Nat
  remote : Bool
  /-- an event pair that a satellite commits to its board (R508) -/
  event : Bool
  /-- timebase at its commit (R512) -/
  time : Nat
  deriving DecidableEq, Repr

/-- An item that arrived over the ring and waits in ring ingress (R482, R513): a record's bytes as its origin stored
them, or an event pair. -/
structure RingItem where
  event : Bool
  bytes : List Byte
  /-- it came on the UP link -/
  fromUp : Bool
  deriving DecidableEq, Repr

/-- States of a counting-board tile (R485), with sealing in progress (R487) shown apart. -/
inductive TileState | free | opened | sealing | sealed | out
  deriving DecidableEq, Repr

/-- Value of a tile state (R485). -/
def TileState.code : TileState → Nat
  | .free => 0 | .opened => 1 | .sealing => 2 | .sealed => 2 | .out => 3

/-- A counting-board tile's descriptor (R485, R487). -/
structure Tile where
  st : TileState
  recs : List BoardRec
  crc : Word
  deriving DecidableEq, Repr

/-- States of a plan tile (R492). -/
inductive PlanTileState | empty | ready | loading | out
  deriving DecidableEq, Repr

/-- Value of a plan tile state (R492). -/
def PlanTileState.code : PlanTileState → Nat
  | .empty => 0 | .ready => 1 | .loading => 2 | .out => 3

/-- A plan tile's state and stored checksum (R492, R493). -/
structure PlanTile where
  st : PlanTileState
  crc : Word
  deriving DecidableEq, Repr

/-- The counting board and plan memory apart from their bytes. -/
structure BoardPart where
  tiles : Vector Tile 64
  /-- the drain engine has stopped for lack of a FREE tile (R491) -/
  full : Bool
  /-- the source served last in the drain rotation (R482) -/
  lastSource : Nat
  /-- capture of BRD_TILE_INFO, CRC, FIRST, LAST lives in the register file; the tile verified for the present burst -/
  burst : Option Nat
  /-- microseconds since the last record of the present burst left; none: none has left yet (R488) -/
  lastLeft : Option Nat
  /-- the age of the OPEN tile has run out, and it could not be sealed yet (R487) -/
  ageOut : Bool
  planTiles : Vector PlanTile 16
  /-- tile of the open window load (R496) -/
  window : Option Nat
  /-- counting-board tiles whose verification has been asked for, the one in progress first, and verified tiles of which no record
  has left since (R488) -/
  verify : List Nat
  verified : List Nat
  deriving DecidableEq, Repr

/-- Host interface state outside its registers (spec/02_host_rings.md). -/
structure HostPart where
  bme : Bool
  d3 : Bool
  speed : Nat
  width : Nat
  msixEnable : Bool
  msixMask : Bool
  /-- MSI-X pending bits -/
  pba : Word
  /-- per device-written ring: unsignalled entries as (producer count after the entry, write time) (R92) -/
  unsig : Vector (List (Nat × DWord)) 21
  /-- SQs whose EN was cleared while not idle (R101) -/
  tearing : Vector Bool 32
  /-- events waiting for the EQ (R90) -/
  staging : List Event
  /-- internal overflow count (R90) -/
  overflow : Nat
  /-- writes to host buffers that wait until memory requests may be issued (R102), oldest first -/
  owed : List (Nat × List Byte)
  deriving DecidableEq, Repr

/-- Scheduler and order (spec/01_architecture.md). -/
structure SysPart where
  role : Role
  /-- ROLE[1:0] as driven on the pins -/
  rolePins : Nat
  seq : Word
  timebase : DWord
  /-- low half staged by a write of SYS_TB_LO (R47) -/
  tbStaged : Word
  /-- high half latched by a read of SYS_TB_LO (R46) -/
  tbLatch : Option Word
  /-- next transaction identity -/
  nextId : Nat
  /-- the ring that received a general slot last (R31); 32 access sequencer, 33 plans -/
  lastGeneral : Nat
  /-- last record committed by each unit since CORE reset: (unit, SEQ) (R40) -/
  lastSeq : List (Nat × Word)
  /-- events held while BOARD is not ON (R670), oldest first, and the count of those beyond 32 -/
  heldEvents : List Event
  heldLost : Nat
  /-- events of a SATELLITE that wait for room in the counting board (R508) -/
  waitEvents : List Event
  /-- position in the supply of free values -/
  fresh : Nat
  deriving DecidableEq, Repr

end Sys2Proof.Machine
end

