-- ==== Sys2Proof/Machine/PartsPwr.lean ====
section
/-! DEFINITION. Plain data of the power controller, clocks, reset, start-up and OTP
(spec/14_power_clocks_reset.md). -/

namespace Sys2Proof.Machine
open Sys2Proof

/-- Domain states (R578). -/
inductive PState | off | ret | on | transit
  deriving DecidableEq, Repr

/-- Value of a domain state (R578). -/
def PState.code : PState → Nat
  | .off => 0 | .ret => 1 | .on => 2 | .transit => 3

/-- What brought a power change about (R83 PWR_STATE cause; start-up commits no such event). -/
inductive PwrCause | descriptor | register | wake | startup
  deriving DecidableEq, Repr

/-- A power request or wake in progress (R586 to R596). -/
structure PwrRun where
  cause : PwrCause
  /-- 1 entering, 2 rolling back, 3 waking (PWR_STAT.PHASE) -/
  phase : Nat
  force : Bool
  /-- lowered members still to be tested, in entry order, with their targets -/
  todo : List (Domain × PState)
  /-- the member now entering, with its target -/
  cur : Option (Domain × PState)
  /-- members that have entered, newest first, with the state each left -/
  entered : List (Domain × PState)
  /-- domains to bring ON -/
  up : List Domain
  /-- domains of the wake position in progress -/
  pos : List Domain
  /-- state each woken domain left, and the target states of the request (R587, R591 report) -/
  left : List (Domain × PState)
  /-- a wake is a replay (R595) -/
  replay : Bool
  /-- waiting for the 27.12 MHz crystal before position 1 (R597) -/
  xtalWait : Bool
  /-- domains named directly by each source: (source, domain) (R598) -/
  named : List (Nat × Domain)
  deriving DecidableEq, Repr

/-- A SET_POWER being carried out (R593). -/
structure SetPower where
  txn : Nat
  tries : Nat
  /-- last start time allowed for an attempt -/
  deadline : Nat
  refuser : Nat
  reason : Nat
  /-- an attempt runs -/
  active : Bool
  deriving DecidableEq, Repr

/-- What SFDP discovery finds of a flash (R611): 32-bit addresses; the 1-1-4 fast read with its opcode and dummy cycles; the
opcode that erases 4 KiB; the page size. -/
structure Flash where
  addr4 : Bool
  fast : Option (Nat × Nat)
  erase : Nat
  page : Nat
  deriving DecidableEq, Repr

/-- Without valid SFDP: reads by command 0x03 with 24-bit addresses (R611), and the family's erase command.
PRESUMED (log entry 77). -/
def Flash.plain : Flash := ⟨false, none, 0x20, 256⟩

/-- Power controller outside its registers. -/
structure PwrPart where
  st : Vector PState 12
  run : Option PwrRun
  setPower : Option SetPower
  /-- banks that latched TALLY wakes name (R594) -/
  tallyBanks : List Domain
  /-- latched wakes that will run as a replay (R595) -/
  replay : Bool
  /-- XTAL27 runs (R603) -/
  xtal27 : Bool
  /-- XTAL32K oscillator started -/
  xtal32 : Bool
  /-- HF PLL locked (R603) -/
  hfLock : Bool
  /-- AON microseconds and 32.768 kHz cycles since reset, for RETENTION catch-up (R43) and the wake timer (R594) -/
  aonMicros : Nat
  aonCycles : Nat
  /-- timebase microseconds that CORE's next wake adds (R43) -/
  coreAway : Nat
  /-- microseconds that the watchdog has counted (R607) -/
  wdt : Nat
  /-- reset sources since the previous RESET_CAUSE event (R606) -/
  unreported : Nat
  /-- step of start-up in progress, 0 when complete (R608) -/
  step : Nat
  /-- start-up halted: reserved role (R3) or failed start-up self-test (R625) -/
  halted : Bool
  /-- INT_N is held low by the halt of the reserved role (R3) -/
  haltInt : Bool
  /-- start-up goes on after a reset that leaves AON (R673) -/
  warm : Bool
  /-- tile table and register list still to be applied (R611): (tile, image offset, expected CRC) and (address, value) -/
  imageTiles : List (Nat × Nat × Word)
  imageRegs : List (Nat × Nat)
  /-- commands of the flash as discovered (R611) -/
  flash : Flash
  /-- a beam write is being carried out and not yet answered, and the request that it holds until then (R586): FORCE and
  targets -/
  answering : Bool
  staged : Option (Bool × List Nat)
  deriving DecidableEq, Repr

/-- The OTP records (R612) as the values their users take from them. Blank OTP: every bit 0. -/
structure Otp where
  serial : DWord
  idVersion : Nat
  idMaker : Nat
  aonSrc : Bool
  /-- JTAG debug is disabled (R630) -/
  debugLocked : Bool
  region : Nat
  f0 : Nat
  spacing : Nat
  nChan : Nat
  /-- sub-band of each channel 0–255, four bits each, channel 0 first -/
  chmap : List Nat
  /-- MAX_POWER and DUTY of each sub-band 0–7 -/
  subBands : List (Nat × Nat)
  maxPower : Option Nat
  maxIpk : Option Nat
  regLocked : Bool
  vendor : Nat
  revision : Nat
  subVendor : Nat
  subSystem : Nat
  /-- root key and its programmed flag -/
  rootKey : List Byte
  rootOk : Bool
  bootCs : Nat
  bootAddr : Nat
  bootDiv : Nat
  bistStartup : Bool
  bistHalt : Bool
  /-- expected MISR of each logic partition and signature of each memory; none where not programmed -/
  misr : List (Option Nat)
  msig : List (Option Nat)
  deriving DecidableEq, Repr

/-- A blank OTP (R612: an unprogrammed bit reads 0). -/
def Otp.blank : Otp :=
  ⟨0, 0, 0, false, false, 0, 0, 0, 0, [], [], none, none, false, 0, 0, 0, 0, [], false, 0, 0, 0, false, false, [], []⟩

/-- Power controller right after power-on reset (R608 step 1): only AON is ON. DESIGN CHOICE (log entry 3). -/
def PwrPart.reset : PwrPart :=
  ⟨(Vector.replicate 12 PState.off).set 0 .on, none, none, [], false, false, false, false, 0, 0, 0, 0, 1, 1, false, false,
    false, [], [], Flash.plain, false, none⟩

end Sys2Proof.Machine
end

