-- ==== Sys2Proof/Syntax.lean ====
section
/-! DEFINITION. The commands of the block, one constructor for each row of spec/opcode_table.json, and the types of
their operands. -/

namespace Sys2Proof

/-- What a rod's framer reports of a response (R129 to R132): its data bits packed into bytes from bit 0 of byte 0 in the
order received, their number, the first collided bit if there was one, the parity bits received, one after each whole byte
as stored, and ADC clipping. -/
structure RxReport where
  data : List Byte
  nbits : Nat
  coll : Option Nat
  parity : List Bool
  clip : Bool
  deriving DecidableEq, Repr

/-- What an LF channel measured over a driven span (R298, R336): the carrier cycles for which the channel was off before it, for
a transponder frame the driven cycles before MARK, the highest LF_ISNS sample in µV of each driven cycle, and the delay from
the GH rise to the peak. -/
structure LfSpan where
  off : Nat
  lead : Nat
  peaks : List Nat
  phase : Nat
  deriving DecidableEq, Repr

/-- A response cell of a ranging train (R323): the rising edge of its pulse in 0.25 ns from the start of the challenge cell,
and whether the pulse lies in the second half of the response cell. -/
structure TrainCell where
  edge : Nat
  second : Bool
  deriving DecidableEq, Repr

/-- How a transponder answer begins (R327, R328): carrier cycles from t_E to it, and the unloaded P before the window. -/
structure TpHead where
  start : Nat
  base : Nat
  deriving DecidableEq, Repr

/-- A received uplink or UHF frame (R314, R427): its bytes with the CRC bytes still in them, and the frequency offset. -/
structure UhfRx where
  bytes : List Byte
  ferr : Nat
  deriving DecidableEq, Repr

/-- An instruction that is shifted into the TAP, and the scan of the data register that it selects which follows, if one does
(R627): the levels at the balls with boundary cells at Capture-DR, in the order of the chain, and the bits shifted in at TDI
up to Update-DR; none: no scan. -/
structure TapScan where
  ir : Nat
  balls : List Bool
  tdi : List Bool
  deriving DecidableEq, Repr

/-- A control token received whole (R515): the link it came on, TYPE, TSEQ, payload, and the CRC-16 that stands behind it. -/
structure TokenRx where
  up : Bool
  type : Nat
  tseq : Nat
  payload : List Byte
  crc : Nat
  deriving DecidableEq, Repr

/-- The end of a serial frame (R568, R570, R574): whether it was a frame of the mirror, the status byte (none where the frame
has no status phase or was cut before it), and the bytes read, or for a write the number of bytes that went out. -/
structure SpiEnd where
  mirror : Bool
  status : Option Nat
  data : List Byte
  sent : Nat
  deriving DecidableEq, Repr

/-- What start-up reads at its next step (R608 to R612, R624): the OTP records, results of the start-up self-test (item,
signature, March C− clean), the bytes read from SFDP address 0, the bytes of the image read from its header on, and the
bytes of a tile. -/
structure StartInput where
  otp : Machine.Otp
  results : List (Nat × Nat × Bool)
  sfdp : List Byte
  image : List Byte
  tile : List Byte
  deriving DecidableEq, Repr

/-- What a pilot period brought (R181 to R183): per rod, the 63 chip averages of its baseband before cancellation, in units of
10⁻⁹ of ADC full scale; and per rod whose envelope was not steady (a ramp, an exchange), its 63 chip averages in units of
10⁻⁹. -/
structure PilotReport where
  base : List (Nat × List (Int × Int))
  env : List (Nat × List Int)
  deriving DecidableEq, Repr

/-- The commands of the block: one constructor for each row of the opcode table. Operands are what the sender (the
host, the bus, the air or the physical world) supplies with the command. -/
inductive Instr
  /-- POWER_ON_RESET (R635): Power-on reset releases once the monitored supplies have been in range for 200 µs, resetting every domain including AON. -/
  | powerOnReset (pins : Nat)
  /-- RESET_N (R605): A recognised RESET_N pulse resets every domain including AON and samples ROLE again. -/
  | resetN (pins : Nat)
  /-- PERST_RESET (R103): PERST_N resets HOST, discarding fetched descriptors and pending completions and events and setting SYS_HOST_MARK. -/
  | perstReset
  /-- WATCHDOG_EXPIRY (R607): The watchdog count reaches TIMEOUT without a kick and resets every domain except AON. -/
  | watchdogExpiry
  /-- SOFTWARE_RESET (R607): A write of 0x5A3C to RST_SW causes a reset of every domain except AON. -/
  | softwareReset (w : Word)
  /-- WATCHDOG_KICK (R607): A write of 0x4B1D to RST_WDT_KICK restarts the watchdog count. -/
  | watchdogKick (w : Word)
  /-- STARTUP_ADVANCE (R608): Start-up moves to its next step once the wait of the present step ends, loading OTP, waking domains, discovering flash and applying the image. -/
  | startupAdvance (inp : StartInput)
  /-- REGISTER_WRITE (R9): A write to a register that has no row of its own, applying access types, reserved-encoding handling, empty offsets and off domains. -/
  | registerWrite (addr : Nat) (w : Word) (hi : Option Word)
  /-- BAR0_BAD_ACCESS (R51): A BAR0 access of unsupported size or alignment completes with Unsupported Request on a read, or is dropped and sets ACC_SIZE on a write. -/
  | bar0BadAccess (write : Bool) (addr size : Nat)
  /-- BAR2_WRITE (R52): A write to BAR2 is dropped and sets HOST_ERR.BAR2_WR. -/
  | bar2Write (off : Nat)
  /-- SYS_TB_LO_READ (R46): A read of SYS_TB_LO returns the low timebase bits and latches the high bits. -/
  | sysTbLoRead
  /-- SYS_TB_HI_READ (R46): A read of SYS_TB_HI returns the latched high bits, or the live bits with UNLATCHED set. -/
  | sysTbHiRead
  /-- SYS_TB_LO_WRITE (R47): A write of SYS_TB_LO stages the low half of a new timebase value. -/
  | sysTbLoWrite (w : Word)
  /-- SYS_TB_HI_WRITE (R47): A write of SYS_TB_HI loads the timebase with the staged low half and clears COARSE. -/
  | sysTbHiWrite (w : Word)
  /-- SLOT_PEAK_CLR (R48): Writing 1 to SYS_SLOT_PEAK.CLR sets PEAK to the present slot occupancy. -/
  | slotPeakClr (w : Word)
  /-- SYS_HOST_DROP_CLR (R103): Writing 1 to SYS_HOST_DROP.CLR sets both drop counts to 0. -/
  | sysHostDropClr (w : Word)
  /-- SQ_TAIL_DOORBELL (R61): The host writes an SQ tail doorbell, which is accepted if within range and makes descriptors fetchable. -/
  | sqTailDoorbell (q : Fin 32) (w : Word)
  /-- HEAD_DOORBELL (R62): The host writes a CQ, RQ or EQ head doorbell, consuming entries and cancelling pending signals. -/
  | headDoorbell (r : Machine.DevRing) (w : Word)
  /-- HOST_RING_CFG_WRITE (R97): A write to a ring's BASE, CFG or MOD registers is checked against EN and the SQ-to-CQ mapping, and may enable, stop or disable the ring. -/
  | hostRingCfgWrite (addr : Nat) (w : Word)
  /-- SQ_TEARDOWN_DONE (R101): An SQ whose EN was cleared becomes idle and EN reads 0. -/
  | sqTeardownDone (q : Fin 32)
  /-- PCIE_BME_D3_CHANGE (R102): A change of Bus Master Enable or D3hot stops or resumes memory requests and MSI-X messages. The command carries with them MSI-X Enable and the Function Mask, the other two configuration-space bits that gate messages (R95). -/
  | pcieBmeD3Change (bme d3 msixOn msixMask : Bool)
  /-- DESCRIPTOR_FETCH (R69): The device fetches a descriptor from an SQ into host staging once a doorbell covers it and a slot is available. -/
  | descriptorFetch (q : Fin 32) (d : Desc)
  /-- FETCH_FAIL (R104): A descriptor fetch ends in error, stopping fetches from that SQ and committing HOST_FAULT. -/
  | fetchFail (q : Fin 32)
  /-- DATA_FETCH_FAIL (R104): A data-buffer read fails and its descriptor completes ABORTED. -/
  | dataFetchFail (q : Fin 32) (addr : DWord)
  /-- DESCRIPTOR_DISPATCH (R668): The scheduler dispatches a descriptor to its unit, applying BAD_DESCRIPTOR, DOMAIN_OFF, shutdown and LATE checks in order. -/
  | descriptorDispatch (q : Fin 32)
  /-- NOP (R66): A NOP descriptor completes OK with no effect. -/
  | nop (q : Fin 32)
  /-- COMPLETION_COMMIT (R85): A completion is committed and written to its CQ once the CQ has room and every record of its descriptor has been written. -/
  | completionCommit (q : Fin 32)
  /-- RECORD_EGRESS (R89): A committed record is written from the counting board to its RQ once the RQ has room. -/
  | recordEgress (k : Fin 4)
  /-- EVENT_EGRESS (R90): An event pair waiting in host staging is committed and written to the EQ. -/
  | eventEgress
  /-- RING_MOD_TIME_EXPIRY (R92): MOD_TIME runs out for the oldest unsignalled entry and the ring signals. -/
  | ringModTimeExpiry (r : Machine.DevRing)
  /-- HF_PLL_LOCK (R603): The HF PLL reports lock or loss of lock, allowing carriers and the radio to leave their lowest states. -/
  | hfPllLock (locked : Bool)
  /-- FIELD_ON (R148): Rod descriptor that brings the carrier to ON and waits for GUARD. -/
  | fieldOn (n : Fin 24)
  /-- FIELD_ON_PLL_TIMEOUT (R148): PLL_LOCK stays 0 for 1 ms after a FIELD_ON, which completes TIMEOUT. -/
  | fieldOnPllTimeout (n : Fin 24)
  /-- FIELD_OFF (R149): Rod descriptor that ramps the carrier down into HOLD. -/
  | fieldOff (n : Fin 24)
  /-- TRANSCEIVE (R150): Rod descriptor that sends one reader frame and receives at most one response. -/
  | transceive (n : Fin 24) (buf : List Byte)
  /-- MEASURE (R158): Rod descriptor that measures the carrier or the noise at HF_RX. -/
  | measure (n : Fin 24)
  /-- MEASURE_DONE (R159): A measurement ends after its averaging time and writes its RESULT record. -/
  | measureDone (n : Fin 24) (amp phase noise : Nat) (clip : Bool)
  /-- RUN_PLAN (R161): Rod descriptor that starts a plan invocation after its tiles are verified. -/
  | runPlan (n : Fin 24) (crcs : List (Nat × Word))
  /-- STOP_PLAN (R163): Rod descriptor that ends the running plan at its next step boundary or at the end of its pass. -/
  | stopPlan (n : Fin 24)
  /-- ROD_FLUSH (R166): Rod descriptor, carried out at fetch, that flushes earlier descriptors, the plan, held records and the FIFO producer side. -/
  | rodFlush (n : Fin 24) (d : Desc)
  /-- ROD_ABORT (R167): Rod descriptor, carried out at fetch, that ends every transaction already dispatched to the rod. -/
  | rodAbort (n : Fin 24) (d : Desc)
  /-- CARRIER_RAMP_UP_DONE (R109): A carrier ramp reaches full amplitude and the carrier is ON. -/
  | carrierRampUpDone (n : Fin 24) (below : List Bool)
  /-- CARRIER_RAMP_DOWN_DONE (R114): A carrier ramp-down reaches zero and the rod enters HOLD. -/
  | carrierRampDownDone (n : Fin 24)
  /-- HOLD_EXPIRY (R114): OFF_MIN passes in HOLD and the carrier enters OFF. -/
  | holdExpiry (n : Fin 24)
  /-- GUARD_EXPIRY (R112): GUARD passes after ON and reader frames become allowed. -/
  | guardExpiry (n : Fin 24)
  /-- IDLE_OFF_EXPIRY (R113): IDLE_OFF passes with no transaction or listening duty and the rod ramps its carrier down. -/
  | idleOffExpiry (n : Fin 24)
  /-- POWER_STEP (R117): Every 10 µs of power stepping, the carrier moves 1 dB toward the new code. -/
  | powerStep (n : Fin 24)
  /-- FRAME_START (R667): A reader frame starts at the carrier-cycle boundary after every condition holding it has cleared. -/
  | frameStart (n : Fin 24)
  /-- FRAME_TX_END (R133): A reader frame's last modulation ends, fixing the reference point for its response timing. -/
  | frameTxEnd (n : Fin 24)
  /-- WINDOW_OPEN (R134): FDT_MIN passes after the reference point and the response window opens. -/
  | windowOpen (n : Fin 24)
  /-- WINDOW_CLOSE (R137): RESP_WAIT passes; with no SOF detected the reception completes NO_RESPONSE. -/
  | windowClose (n : Fin 24)
  /-- SOF_DETECT (R134): The framer recognises a response SOF and records FDT_MEAS, or flags an early or late SOF. -/
  | sofDetect (n : Fin 24) (fdt : Nat) (chans : List (Nat × Nat × Nat))
  /-- RESPONSE_END (R138): The end of a response is recognised and the reception completes with its status and record. -/
  | responseEnd (n : Fin 24) (rx : RxReport)
  /-- NEXT_MIN_EXPIRY (R138): NEXT_MIN passes after the last end event and the next reader frame may start. -/
  | nextMinExpiry (n : Fin 24)
  /-- ROD_NLT_EXPIRY (R154): NLT passes before a rod frame or carrier start, completing LATE or FIELD_BUDGET. -/
  | rodNltExpiry (n : Fin 24)
  /-- ROD_CNT_CLR (R170): Writing 1 to ROD_CTL.CNT_CLR sets the six rod counters to 0. -/
  | rodCntClr (n : Fin 24) (w : Word)
  /-- SURVEY_START (R173): Writing 1 to FLD_SURVEY_CTL.START stops new air exchanges and ramps carriers down for a coupling survey. -/
  | surveyStart (w : Word)
  /-- SURVEY_BEGIN (R174): Once every carrier has reached zero, the survey begins its first slot. -/
  | surveyBegin
  /-- SURVEY_AVERAGE_END (R174): The 160 µs averaging of a slot ends and the tone ramps down. -/
  | surveyAverageEnd (v : List (Int × Int)) (clipped : List Nat)
  /-- SURVEY_SLOT_END (R176): A survey slot ends, writing its FLD_COUP row and committing a SURVEY record. -/
  | surveySlotEnd
  /-- PILOT_PERIOD_END (R183): A pilot period of 63 chips ends and each used tap weight is updated. -/
  | pilotPeriodEnd (x : PilotReport) (clipped : List Nat)
  /-- TAP_WRITE (R186): A write to FLD_TAPW or FLD_TAPSEL takes effect at the next pilot-period boundary. -/
  | tapWrite (addr : Nat) (w : Word)
  /-- ZONE_MAP_WRITE (R189): A write to FLD_ZMAP requests zone membership changes. -/
  | zoneMapWrite (g : Fin 3) (w : Word)
  /-- ZONE_CHANGE_EFFECT (R189): A pending zone change takes effect at the next arbitration boundary at which the rod is silent. -/
  | zoneChangeEffect (n : Fin 24)
  /-- ZONE_GRANT (R193): A zone grants the speaker role to the next requesting rod by class and rotation. -/
  | zoneGrant (z : Fin 8)
  /-- BUDGET_START_ALLOWED (R203): The start at the head of the budget queue fits under the limit and is allowed. -/
  | budgetStartAllowed
  /-- BUDGET_LIMIT_WRITE (R205): A write to FLD_BUDGET changes LIMIT or THR_LIMIT and retests the queue. -/
  | budgetLimitWrite (w : Word)
  /-- TEMP_SAMPLE (R206): The four die sensors are sampled every 100 µs and throttle and shutdown are evaluated. -/
  | tempSample (t0 t1 t2 t3 : Int)
  /-- SHUTDOWN_CLEAR (R209): Writing 1 to FLD_THERM.SD_CLR ends shutdown when every reading is at or below 115 °C. -/
  | shutdownClear (w : Word)
  /-- END (R214): Plan step that ends the pass or the invocation. -/
  | endStep (n : Fin 24) (crcs : List (Nat × Word))
  /-- INVENTORY (R222): Plan step that runs anticollision cycles, with a per-tag list for each UID found. -/
  | inventory (n : Fin 24)
  /-- INVENTORY_CYCLE (R224): One anticollision cycle of an INVENTORY step, a unit of the plan. -/
  | inventoryCycle (n : Fin 24)
  /-- SELECT (R232): Per-tag step that puts the tag into its selected state. -/
  | selectStep (n : Fin 24)
  /-- READ_BLOCKS (R232): Per-tag step that reads blocks with 8-bit block numbers. -/
  | readBlocks (n : Fin 24)
  /-- READ_BLOCKS_EXT (R232): Per-tag step that reads blocks with 16-bit block numbers. -/
  | readBlocksExt (n : Fin 24)
  /-- GET_INFO (R232): Per-tag step that reads ISO/IEC 15693 system information. -/
  | getInfo (n : Fin 24)
  /-- WAIT (R219): Plan step that pauses, optionally with the carrier off. -/
  | waitStep (n : Fin 24)
  /-- WAIT_EXPIRY (R219): The TIME of a WAIT step passes and the plan continues. -/
  | waitExpiry (n : Fin 24)
  /-- BRANCH_IF (R220): Plan step that jumps to TARGET when its condition holds. -/
  | branchIf (n : Fin 24)
  /-- EMIT (R221): Plan step that commits a marker record. -/
  | emitStep (n : Fin 24)
  /-- EMIT_SYNC_WRITE (R221): An EMIT with SYNC = 1 writes its record once the rod holds no held record. -/
  | emitSyncWrite (n : Fin 24)
  /-- WRITE_BLOCKS (R234): Per-tag step that writes blocks from write data in the tile. -/
  | writeBlocks (n : Fin 24)
  /-- LOCK_BLOCK (R234): Per-tag step that locks one ISO/IEC 15693 block. -/
  | lockBlock (n : Fin 24)
  /-- FILTER_VERDICT (R239): The allow-list verdict for a decoded UID becomes known. -/
  | filterVerdict (n : Fin 24) (j : Nat)
  /-- HELD_RECORD_CARRY (R246): A held record meets the carry conditions and its packet writing starts. -/
  | heldRecordCarry (n : Fin 24) (j : Nat)
  /-- CARRY_LENGTH_WORD (R249): The carried packet's length word is written, the record is carried and its UID becomes CARRIED. -/
  | carryLengthWord (n : Fin 24)
  /-- WRITE_WAIT_EXPIRY (R250): WRITE_WAIT passes before carry and the unit ends without its write steps. -/
  | writeWaitExpiry (n : Fin 24)
  /-- ROUND_END (R262): SQ28 descriptor that starts a round boundary. -/
  | roundEnd
  /-- ROUND_CTL_END (R261): Writing 1 to ROD_ROUND_CTL.END starts a round boundary. -/
  | roundCtlEnd (w : Word)
  /-- ROUND_BOUNDARY (R264): A round boundary starts or a start joins one in progress. -/
  | roundBoundary
  /-- ROUND_STEP_END (R264): The present step of a round boundary reaches its end condition and the next step begins. -/
  | roundStepEnd
  /-- SPEC_CNT_CLR (R268): Writing 1 to ROD_SPEC_CTL.CLR sets the eight speculation counters to 0. -/
  | specCntClr (n : Fin 24) (w : Word)
  /-- FILTER_CFG_WRITE (R270): A write to ROD_FILT_CFG is dropped if its tiles run past tile 15, and otherwise applies to later invocations. -/
  | filterCfgWrite (w : Word)
  /-- DEDUP_CFG_WRITE (R247): A write to ROD_DEDUP_CFG is checked and takes effect at the next round boundary. -/
  | dedupCfgWrite (w : Word)
  /-- TALLY_RUN_WRITE (R277): A write of TLY_CTL.RUN starts scan instants or ends the sequence in progress. -/
  | tallyRunWrite (w : Word)
  /-- TALLY_EN_WRITE (R290): Clearing a TLY_EN bit resets the rod's count and rearms it. -/
  | tallyEnWrite (w : Word)
  /-- TALLY_BASE_WRITE (R282): A write to TLY_BASE sets the baseline or requests relearning, and rearms the rod. -/
  | tallyBaseWrite (n : Fin 24) (w : Word)
  /-- SCAN_INSTANT (R278): A scan instant falls; the eligible rods are fixed and the tally oscillator starts. -/
  | scanInstant
  /-- TALLY_BURST (R278): A rod's slot begins and its tally burst is driven and measured. -/
  | tallyBurst
  /-- TALLY_EVALUATE (R285): A rod's sample is converted and evaluated against its baseline and thresholds. -/
  | tallyEvaluate (amp ph : Nat)
  /-- TALLY_WAKE_EVENT (R287): Once CORE is ON, a TALLY_WAKE event is committed for each set TLY_WAKE bit. -/
  | tallyWakeEvent
  /-- DOWNLINK_END (R307): A Lorle downlink frame reaches t_E, opening its slots, train or transponder window. -/
  | downlinkEnd (sp : LfSpan)
  /-- BURST_SEGMENT (R311): A burst segment starts or ends on its named channel or as silence. -/
  | burstSegment (sp : LfSpan)
  /-- LF_OVERCURRENT (R300): The coil current exceeds IOC, the channel's gates go low and it enters FAULT. -/
  | lfOvercurrent (n : Fin 8) (sp : LfSpan)
  /-- LF_OPEN_FAULT (R301): W stays at its maximum through 64 regulation updates with low current and the channel enters FAULT. -/
  | lfOpenFault (n : Fin 8) (sp : LfSpan)
  /-- LF_ERR_WRITE (R302): Clearing the fault bits of LF_ERR takes the channel out of FAULT. -/
  | lfErrWrite (n : Fin 8) (w : Word)
  /-- LF_CHANNEL_CFG_WRITE (R304): A write to LF_CFG, LF_DRV or LF_SNS is checked against MAX_IPK and takes effect at the next frame or segment. -/
  | lfChannelCfgWrite (addr : Nat) (w : Word)
  /-- SLOT_OPEN (R317): An uplink slot starts at its scheduled time. -/
  | slotOpen
  /-- SYNC_DETECT (R318): The end of an uplink sync word is detected and accepted if inside the slot's window. -/
  | syncDetect (t : Nat) (w : Word)
  /-- UPLINK_FRAME_END (R314): An uplink frame ends and its CRC is checked. -/
  | uplinkFrameEnd (rx : UhfRx)
  /-- SLOT_END (R320): A slot's period ends and its outcome is decided, counted and passed on. -/
  | slotEnd (energy : List (Int × Nat)) (early : Bool)
  /-- TRAIN_START (R321): The ranging train starts at t_0 after a RANGE frame. -/
  | trainStart
  /-- TRAIN_END (R324): The 32 cells of a ranging train end and the responses are measured and classified. -/
  | trainEnd (cells : List (Option TrainCell))
  /-- TP_CHARGE_END (R325): The transponder charge time ends and the modulated frame begins. -/
  | tpChargeEnd
  /-- TP_ANSWER_END (R328): A transponder answer ends and its outcome is decided. -/
  | tpAnswerEnd (head : TpHead) (halves : List (Nat × Nat))
  /-- TP_WINDOW_END (R328): The transponder answer window passes with no header, giving EMPTY. -/
  | tpWindowEnd
  /-- TOK_REG_WRITE (R334): A write to a TOK register takes effect at the start of the next downlink frame. -/
  | tokRegWrite (addr : Nat) (w : Word)
  /-- TOK_CNT_CLR (R335): Writing 1 to TOK_CFG.CNT_CLR sets the five link counters to 0. -/
  | tokCntClr (w : Word)
  /-- OPEN (R342): Access command that runs one exchange on a lock. -/
  | openLock
  /-- ACC_LOCK_START (R340): Writing 1 to ACC_LOCK_CTL.START is a START trigger, dropped if one is already pending. -/
  | accLockStart (l : Fin 4) (w : Word)
  /-- ACC_GPIO_TRIGGER (R338): The selected GPIO edge is a trigger for its lock. -/
  | accGpioTrigger (k : Fin 16) (level : Bool)
  /-- ACC_PERIODIC_TRIGGER (R338): POLL_INT runs out and a PERIODIC trigger arises for the lock. -/
  | accPeriodicTrigger (l : Fin 4)
  /-- EXCHANGE_START (R339): The sequencer starts the next requested exchange when the radio and sequencer are free. -/
  | exchangeStart (crcs : List (Nat × Word))
  /-- ACC_NLT_EXPIRY (R350): NLT passes before an OPEN's first frame, ending it with one LATE record. -/
  | accNltExpiry
  /-- CANDIDATE_JUDGE (R360): A candidate answer is taken through its path of tests to a grant or a refusal and its ACCESS record. -/
  | candidateJudge
  /-- INTERLOCK_WAIT_EXPIRY (R382): IL_WAIT passes without the interlock agreeing and the candidate is refused INTERLOCK. -/
  | interlockWaitExpiry
  /-- REL_FB_DEBOUNCE (R384): A new REL_FB level is accepted after 8 equal samples and an INTERLOCK event is committed. -/
  | relFbDebounce (l : Fin 4) (level : Bool)
  /-- RELEASE_NO_MOVE (R384): FB_TIME passes after a pulse start with REL_FB still closed and RELEASE_FAULT NO_MOVE is committed. -/
  | releaseNoMove (l : Fin 4)
  /-- RELEASE_PULSE_END (R385): A release pulse reaches its time and REL_OUT returns inactive. -/
  | releasePulseEnd (l : Fin 4)
  /-- PENALTY_WAIT_END (R375): A lock or token failure wait ends. -/
  | penaltyWaitEnd (token : Bool) (i : Nat)
  /-- ACC_CALIBRATE (R372): Access command that measures TCAL with a token at a known distance. -/
  | accCalibrate (crcs : List (Nat × Word))
  /-- ENROL (R387): Access command that writes a token entry as ENROLLED. -/
  | enrol
  /-- REVOKE (R388): Access command, carried out at fetch, that revokes a token entry and erases its key slot. -/
  | revoke (d : Desc)
  /-- CLEAR_PENALTY (R376): Access command that sets a lock's or token's count to 0 and ends its wait. -/
  | clearPenalty
  /-- VERIFY_DECRYPT (R396): Access command that verifies a CMAC tag and only then decrypts into a host buffer. -/
  | verifyDecrypt (src : List Byte) (crcs : List (Nat × Word))
  /-- ACC_ABORT (R395): Access command, carried out at fetch, that ends the sequencer's running transaction. -/
  | accAbort (d : Desc)
  /-- SKIP_RESTORE (R341): Writing 1 to ACC_CFG.SKIP_RESTORE clears NEED_RESTORE without a restore. -/
  | skipRestore (w : Word)
  /-- ACC_PLOCK (R398): Writing 1 to ACC_CFG.PLOCK locks the RWL fields of the ACC registers until CORE reset. -/
  | accPlock (w : Word)
  /-- MIRROR_RESTORE_START (R380): The first write of EN = 1 to ACC_MIRROR_CFG while NEED_RESTORE = 1 starts reading the mirror sectors. -/
  | mirrorRestoreStart (w : Word)
  /-- MIRROR_RESTORE_DONE (R380): The mirror read ends, counts and epoch are loaded or RESTORE is flagged, and NEED_RESTORE clears. -/
  | mirrorRestoreDone (a b : List Byte)
  /-- MIRROR_WRITE_DONE (R379): A mirror image write to flash ends, succeeding or setting ACC_ERR.MIRROR, and a gathered change may follow. -/
  | mirrorWriteDone (ok : Bool) (pages : Nat)
  /-- SET_REST (R404): Radio command that sets the rest state and brings the radio to it. -/
  | setRest
  /-- TRANSMIT (R427): Radio command that sends one frame. -/
  | transmit (buf : List Byte)
  /-- RECEIVE (R428): Radio command that opens a reception window. -/
  | receive
  /-- UHF_CALIBRATE (R416): Radio command that makes a calibration cycle due and runs it to its end. -/
  | uhfCalibrate
  /-- CW (R427): Radio command that transmits carrier for a fixed time. -/
  | cwCommand
  /-- UHF_ABORT (R430): Radio command, carried out at fetch, that ends the running radio transaction. -/
  | uhfAbort (d : Desc)
  /-- UHF_TRANSITION_DONE (R401): A radio state transition reaches its target state. -/
  | uhfTransitionDone
  /-- SYNTH_LOCK_TIMEOUT (R403): The synthesiser has not locked 180 µs after a lock began, so the radio goes to STANDBY. -/
  | synthLockTimeout
  /-- CAL_STEP_DONE (R415): A calibration step ends, and after the 32nd the cycle completes and VALID is set. -/
  | calStepDone
  /-- CAL_INTERVAL_EXPIRY (R416): INTERVAL seconds pass since the last cycle and a calibration cycle becomes due. -/
  | calIntervalExpiry
  /-- DUTY_BUCKET_ROTATE (R411): Every 60 s of AON time the oldest ledger bucket is zeroed and becomes current. -/
  | dutyBucketRotate
  /-- UHF_NLT_EXPIRY (R421): A radio descriptor's foreseen or actual start lies after NLT and it completes LATE. -/
  | uhfNltExpiry (earliest : Nat)
  /-- UHF_TX_END (R412): A TRANSMIT frame or ranging train ends, TX is left and the ledger charge is corrected. -/
  | uhfTxEnd (actual : Nat)
  /-- CW_END (R427): A CW reaches its DUR and completes. -/
  | cwEnd (actual : Nat)
  /-- UHF_FRAME_RECEIVED (R428): A frame accepted by RECEIVE ends and writes its UHF_FRAME record. -/
  | uhfFrameReceived (rx : UhfRx)
  /-- RECEIVE_WINDOW_END (R428): A RECEIVE window reaches DUR and closes. -/
  | receiveWindowEnd
  /-- IMPORT_128 (R443): Key command that unwraps and loads an AES-128 key into its slot. -/
  | import128
  /-- IMPORT_256 (R443): Key command that unwraps and loads an AES-256 key into its slot. -/
  | import256
  /-- ERASE (R446): Key command, carried out at fetch, that zeroes a slot and stops requests that use it. -/
  | erase (sq27 : Bool) (d : Desc)
  /-- KGEN_WRITE (R441): A change of KEY_CFG.KGEN derives the key-encryption key again. -/
  | kgenWrite (w : Word)
  /-- KEY_PLOCK (R462): Writing 1 to KEY_CFG.PLOCK locks the RWL fields of the KEY registers until a KEYS reset. -/
  | keyPlock (w : Word)
  /-- TOKEN_ENTRY_CAPTURE (R440): A write to KEY_TOK_SEL captures the whole selected token entry. -/
  | tokenEntryCapture (w : Word)
  /-- CIPHER (R451): Cipher command that requests raw ECB block operations over LEN bytes. -/
  | cipher (buf : List Byte)
  /-- CIPHER_ABORT (R455): Cipher command, carried out at fetch, that ends earlier requests from its SQ. -/
  | cipherAbort (sq27 : Bool) (d : Desc)
  /-- CIPHER_REQUEST_START (R448): A queued cipher request starts on the preloaded or lowest idle core and takes its key. -/
  | cipherRequestStart
  /-- KEY_PRELOAD (R449): The scheduler preloads the key of the head request into an idle core. -/
  | keyPreload (c : Fin 4)
  /-- CIPHER_BLOCK_DONE (R450): A core finishes a block and outputs it, and after the last block the request completes. -/
  | cipherBlockDone (c : Fin 4)
  /-- RANDOM (R461): Command that requests random bytes from the generator. -/
  | random
  /-- RESEED (R461): Command that reseeds the generator. -/
  | reseed
  /-- RNG_GENERATE (R459): The generator serves its next waiting request, reseeding first when required. -/
  | rngGenerate (entropy : List Byte)
  /-- RNG_READY (R458): Instantiation ends and READY becomes 1. -/
  | rngReady (startup : List Bool) (raw : List Byte)
  /-- RNG_HEALTH_FAIL (R460): A noise-source health test fails, zeroing the generator and failing its requests. -/
  | rngHealthFail (run window : List Bool)
  /-- RNG_RESTART (R460): Writing 1 to CPH_RNG_CTL.RESTART clears FAIL and runs start-up test and instantiation again. -/
  | rngRestart (w : Word)
  /-- BANK_SWAP (R471): A FIFO's fill and drain banks swap once the drain bank is empty and the fill bank holds a published packet. -/
  | bankSwap (f : Fin 25)
  /-- DRAIN_TAKE (R483): The drain engine takes the next published packet or ring record in rotation and commits it with its SEQ. -/
  | drainTake (ecc : List (Nat × Bool))
  /-- FIFO_MODE_WRITE (R477): A write changing FIFO_CFG.CREDIT requests a mode change. -/
  | fifoModeWrite (f : Fin 25) (w : Word)
  /-- FIFO_MODE_CHANGE (R477): The requested FIFO mode takes effect once both banks are empty and no group is open. -/
  | fifoModeChange (f : Fin 25)
  /-- TILE_SEAL_DONE (R487): A tile's checksum is stored and the tile becomes SEALED. -/
  | tileSealDone (t : Fin 64)
  /-- SEAL_AGE_EXPIRY (R487): SEAL_AGE passes since the OPEN tile's first record, sealing it when enough tiles are FREE. -/
  | sealAgeExpiry
  /-- BRD_SEAL_WRITE (R487): Writing 1 to BRD_CTL.SEAL seals the OPEN tile. -/
  | brdSealWrite (w : Word)
  /-- TILE_VERIFY_DONE (R490): A tile verification ends; a failed counting-board tile becomes OUT and its pending records are lost. -/
  | tileVerifyDone (t : Fin 64) (crc : Word)
  /-- TILE_FREE (R489): A SEALED tile whose records have all left is zeroed and becomes FREE, resuming a stalled drain. -/
  | tileFree (t : Fin 64)
  /-- TILE_RESTORE (R490): Writing BRD_TILE_CTL.RESTORE zeroes and checks an OUT tile, making it FREE or OUT again. -/
  | tileRestore (w : Word) (bad : Bool)
  /-- LOAD_TILE (R495): SQ28 command that loads a plan tile from host memory and checks its CRC. -/
  | loadTile
  /-- LOAD_TILE_DONE (R493): A tile load ends and the tile becomes READY or OUT by its CRC. -/
  | loadTileDone (src : List Byte)
  /-- PLAN_WINDOW_OPEN (R494): Writing 1 to BRD_PLAN_CTL.OPEN starts a window load of a tile unless it is referenced or a load is open. -/
  | planWindowOpen (w : Word)
  /-- PLAN_WINDOW_CLOSE (R493): Writing 1 to BRD_PLAN_CTL.CLOSE ends the window load and checks it against BRD_PLAN_CRC. -/
  | planWindowClose (w : Word)
  /-- PLAN_DATA_WRITE (R496): A write to BRD_PLAN_DATA stores a word in the open tile and advances ADDR, or is dropped. -/
  | planDataWrite (w : Word)
  /-- UCODE_PLOCK (R494): Writing 1 to BRD_UCODE.PLOCK locks the microcode tile mask until BOARD reset. -/
  | ucodePlock (w : Word)
  /-- RING_CFG_WRITE (R503): A write to RING_CFG enables or disables the links and sets ring behaviour. -/
  | ringCfgWrite (w : Word)
  /-- LINK_UP (R504): A link finds alignment in 16 consecutive link frames and enters UP. -/
  | linkUp (up : Bool)
  /-- LINK_LOSS (R504): A link loses signal, alignment or code integrity and returns to TRAINING. -/
  | linkLoss (up : Bool)
  /-- DATA_FRAME_RECEIVED (R510): A data frame is received whole and forwarded, taken into ring ingress, or discarded. -/
  | dataFrameReceived (up : Bool) (bytes : List Byte)
  /-- DATA_FRAME_SEND (R511): A device starts sending its next forwarded frame or own item on an outgoing link. -/
  | dataFrameSend (up : Bool) (res : Nat)
  /-- LATENCY_DROP_REPORT (R513): One millisecond after a latency drop for an origin, RING_LATENCY_DROP is committed. -/
  | latencyDropReport (origin : Nat)
  /-- FLOW_SYMBOL_RECEIVED (R514): An XOFF or XON is received and data frames are stopped or allowed to start. -/
  | flowSymbolReceived (up xoff : Bool)
  /-- XOFF_REPEAT (R514): Every 64 link frames while the queue condition lasts, XOFF or XON is sent again. -/
  | xoffRepeat (up : Bool)
  /-- ROUND_TOKEN (R519): A ROUND token is received, forwarded and acted on as a round boundary start. -/
  | roundToken (t : TokenRx)
  /-- HALT_TOKEN (R520): A HALT token aimed at the satellite sets HALT_AIR or HALT_EGRESS. -/
  | haltToken (t : TokenRx)
  /-- RESUME_TOKEN (R520): A RESUME token aimed at the satellite clears the halt bits it names. -/
  | resumeToken (t : TokenRx)
  /-- TIME_SYNC_TOKEN (R522): A TIME_SYNC token sets the satellite's timebase and clears COARSE. -/
  | timeSyncToken (t : TokenRx) (since res : Nat)
  /-- TIME_SYNC_SEND (R521): Every TS_INT ms the head sends TIME_SYNC. -/
  | timeSyncSend (frac : Nat)
  /-- TIME_SYNC_TIMEOUT (R523): No TIME_SYNC arrives within twice NEXT and the satellite sets COARSE and commits TIME_SYNC_LOST. -/
  | timeSyncTimeout
  /-- ECHO_TOKEN (R524): An ECHO is received and returned, or its return yields the cable delay. -/
  | echoToken (t : TokenRx) (span : Nat)
  /-- CABLE_MEASURE (R524): Each second, a link sends ECHO to measure its cable delay. -/
  | cableMeasure (up : Bool)
  /-- WALK_TOKEN (R526): A WALK is received and appended to, reflected, forwarded, or evaluated by the head. -/
  | walkToken (t : TokenRx)
  /-- WALK_SEND (R526): Every 10 ms the head sends a WALK. -/
  | walkSend
  /-- WALK_TIMEOUT (R529): A WALK has not returned 5 ms after it left and is lost. -/
  | walkTimeout (up : Bool)
  /-- WALK_ABSENCE_TIMEOUT (R527): A satellite receives no WALK for 50 ms and leaves the ring. -/
  | walkAbsenceTimeout
  /-- RESET_TOKEN (R525): A RESET token aimed at a satellite with RST_EN is forwarded and then resets the device. -/
  | resetToken (t : TokenRx)
  /-- BREAK_TOKEN (R530): A BREAK token makes the satellite set REVERSED and forward it. -/
  | breakToken (t : TokenRx)
  /-- RING_HALT (R532): Ring command that sends a HALT token. -/
  | ringHalt
  /-- RING_RESUME (R532): Ring command that sends a RESUME token. -/
  | ringResume
  /-- RING_RESET (R532): Ring command that sends a RESET token. -/
  | ringReset
  /-- RING_WALK (R532): Ring command that sends a WALK at once and reports it. -/
  | ringWalk
  /-- BEAM_READ (R544): Beam bridge command that reads words from a beam slave. -/
  | beamRead
  /-- BEAM_WRITE (R544): Beam bridge command that writes words to a slave, or broadcasts them. -/
  | beamWrite (buf : List Byte)
  /-- BEAM_START (R544): Beam bridge command that starts a plan on a satellite's rod. -/
  | beamStart (buf : List Byte)
  /-- BEAM_STOP (R544): Beam bridge command that stops, flushes or aborts a satellite's rod. -/
  | beamStop (buf : List Byte)
  /-- BEAM_CLAIM_CALL (R544): Beam bridge command that sends a CLAIM_CALL. -/
  | beamClaimCall (buf : List Byte)
  /-- BEAM_RESPONSE (R545): The master receives a response, writing a BEAM record or retrying on a bad CRC. -/
  | beamResponse (bytes : List Byte)
  /-- BEAM_RESPONSE_TIMEOUT (R545): No response start bit arrives within 6 µs and the transaction is retried or completes TIMEOUT. -/
  | beamResponseTimeout
  /-- BEAM_NLT_EXPIRY (R545): NLT passes before a beam request frame starts and it completes LATE. -/
  | beamNltExpiry
  /-- BEAM_REQ_READ (R538): A slave receives a READ request and responds with the words. -/
  | beamReqRead (bytes : List Byte)
  /-- BEAM_REQ_WRITE (R538): A slave receives a WRITE or broadcast WRITE and writes the words. -/
  | beamReqWrite (bytes : List Byte)
  /-- BEAM_REQ_START (R540): A satellite receives START and places a RUN_PLAN in the rod's queue. -/
  | beamReqStart (bytes : List Byte)
  /-- BEAM_REQ_STOP (R540): A satellite receives STOP and places a STOP_PLAN, FLUSH or ABORT in the rod's queue. -/
  | beamReqStop (bytes : List Byte)
  /-- BEAM_REQ_CLAIM_CALL (R541): A slave without an address receives CLAIM_CALL and schedules its claim frame. -/
  | beamReqClaimCall (bytes : List Byte)
  /-- CLAIM_FRAME (R541): 20 µs after a CLAIM_CALL, a slave sends its claim frame in arbitration mode and may take the address. -/
  | claimFrame (won : Bool)
  /-- CLAIM_WINDOW_END (R541): 450 µs after a CLAIM_CALL, the master commits BEAM_CLAIM if a claim arrived. -/
  | claimWindowEnd (serial : Option DWord)
  /-- AUTO_CLAIM_CALL (R543): Every 10 ms with AUTO_CLAIM, the master offers the lowest free address. -/
  | autoClaimCall
  /-- BEAM_ADDR_WRITE (R542): A write of BEAM_ADDR takes effect after its response. -/
  | beamAddrWrite (w : Word)
  /-- BEAM_TILE_REL (R543): Writing BEAM_TILE_REL frees a SEALED tile on a satellite without a ring. -/
  | beamTileRel (w : Word)
  /-- TMR_START (R553): Timer command that zeroes the count and runs. -/
  | tmrStart (n : Fin 16) (w : Word)
  /-- TMR_RESUME (R553): Timer command that runs from the present count. -/
  | tmrResume (n : Fin 16) (w : Word)
  /-- TMR_STOP (R553): Timer command that stops the timer. -/
  | tmrStop (n : Fin 16) (w : Word)
  /-- TMR_SWCAPT (R556): Timer command that takes a software capture. -/
  | tmrSwcapt (n : Fin 16) (w : Word)
  /-- TIMER_MATCH (R551): A tick brings the count to PERIOD or above and the timer matches. -/
  | timerMatch (n : Fin 16) (tgate : Nat)
  /-- TIMER_OVERFLOW (R551): A tick wraps the count to 0 and OVF is set. -/
  | timerOverflow (n : Fin 16) (tgate : Nat)
  /-- TIMER_CAPTURE_EDGE (R556): The capture input shows its selected edge and the count is captured. -/
  | timerCaptureEdge (n : Fin 16) (rising : Bool)
  /-- TMR_LO_WRITE (R554): A write of TMR_CNT_LO or TMR_PER_LO stages the low half. -/
  | tmrLoWrite (addr : Nat) (w : Word)
  /-- TMR_HI_WRITE (R554): A write of TMR_CNT_HI or TMR_PER_HI loads the full 64-bit value. -/
  | tmrHiWrite (addr : Nat) (w : Word)
  /-- TMR_CNT_LO_READ (R557): A read of TMR_CNT_LO returns the low bits and latches the high bits. -/
  | tmrCntLoRead (n : Fin 16)
  /-- TMR_CNT_HI_READ (R557): A read of TMR_CNT_HI returns the latched or live high bits. -/
  | tmrCntHiRead (n : Fin 16)
  /-- TMR_CAPT_LO_READ (R558): A read of TMR_CAPT_LO opens a capture pair. -/
  | tmrCaptLoRead (n : Fin 16)
  /-- TMR_CAPT_HI_READ (R558): A read of TMR_CAPT_HI closes the capture pair and moves the shadow in. -/
  | tmrCaptHiRead (n : Fin 16)
  /-- CRC_START (R563): CRC unit command that makes the unit ACTIVE. -/
  | crcStart (u : Fin 4) (w : Word)
  /-- CRC_STOP (R563): CRC unit command that makes the unit IDLE and produces a CONTINUOUS result. -/
  | crcStop (u : Fin 4) (w : Word)
  /-- CRC_CFG_WRITE (R564): A write to CRC_CFG, CRC_SEED or CRC_MATCH is refused while the unit is ACTIVE. -/
  | crcCfgWrite (addr : Nat) (w : Word)
  /-- CRC_FRAME_END (R563): A snooped frame ends in FRAME mode and a result is produced and counted. -/
  | crcFrameEnd (u : Fin 4)
  /-- XFER (R572): Serial master command that runs a transfer. -/
  | xfer (buf : List Byte)
  /-- SPI_FLUSH (R574): Serial master command, carried out at fetch, that ends every earlier XFER. -/
  | spiFlush (d : Desc)
  /-- SPI_ABORT (R574): Serial master command, carried out at fetch, that ends the running XFER. -/
  | spiAbort (d : Desc)
  /-- SPI_FRAME_END (R568): A serial frame ends, including after a busy status byte. -/
  | spiFrameEnd (e : SpiEnd)
  /-- SPI_RETRY_EXPIRY (R570): RETRY_INT passes after a busy status and the frame is sent again. -/
  | spiRetryExpiry
  /-- SPI_NLT_EXPIRY (R574): NLT passes before an XFER's first frame and it completes LATE. -/
  | spiNltExpiry
  /-- GPIO_EDGE (R577): An enabled GPIO pin changes level and a gathering window opens. -/
  | gpioEdge (k : Fin 16) (level : Bool)
  /-- GPIO_WINDOW_END (R577): The 10 µs gathering window ends and a GPIO_CHANGE event is committed. -/
  | gpioWindowEnd
  /-- PWR_REQ_WRITE (R586): A write of PWR_REQ starts a power request, which is checked as a whole. -/
  | pwrReqWrite (w : Word)
  /-- SET_POWER (R593): SQ28 command that makes a power request with retries. -/
  | setPower
  /-- SET_POWER_RETRY (R593): 1 ms after a refused attempt's rollback, SET_POWER makes the next attempt. -/
  | setPowerRetry
  /-- MEMBER_ENTRY_DONE (R588): A lowered member finishes entering, and the next member is tested or the targeted domains wake. -/
  | memberEntryDone
  /-- WAKE_SOURCE (R594): An enabled wake source fires and latches its bit. -/
  | wakeSource (src : Nat) (k : Fin 4) (rising : Bool)
  /-- WAKE_TIMER_EXPIRY (R594): PWR_WAKE_TIMER reaches 0 and fires the TIMER wake source. -/
  | wakeTimerExpiry
  /-- WAKE_START (R595): A latched wake starts when no request or wake is in progress. -/
  | wakeStart
  /-- XTAL_START_DONE (R597): The 27.12 MHz crystal has run 380 µs and is stable. -/
  | xtalStartDone
  /-- WAKE_POSITION_DONE (R596): The domains of a wake position reach ON and the next position starts. -/
  | wakePositionDone
  /-- PAD_RELEASE (R600): Writing 1 to a PWR_PAD_RELEASE bit releases that group's latched pads. -/
  | padRelease (w : Word)
  /-- AON_SRC_WRITE (R603): A write of CLK_CFG.AON_SRC starts or leaves the XTAL32K source. -/
  | aonSrcWrite (w : Word)
  /-- XTAL32K_STABLE (R603): The XTAL32K crystal becomes stable and AON switches to it at a cycle boundary. -/
  | xtal32kStable
  /-- BIST_RUN (R618): SQ28 command, or BIST_CTL.START, that starts a runtime self-test run. -/
  | bistRun
  /-- BIST_CANCEL (R620): Writing 1 to BIST_CTL.CANCEL ends a register-started run's wait. -/
  | bistCancel (w : Word)
  /-- BIST_TARGETS_READY (R621): Every target passes the busy and records tests and the targets are entered for testing. -/
  | bistTargetsReady
  /-- BIST_ITEM_DONE (R617): A partition or memory test ends and the next begins, or the run ends and writes its BIST record. -/
  | bistItemDone (sig : Nat) (clean : Bool)
  /-- JTAG_INSTRUCTION (R627): A new TAP instruction is selected and acts on the boundary cells or debug port. -/
  | jtagInstruction (x : TapScan)
  /-- TAP_RESET (R627): TRST_N or the TAP reset state selects IDCODE. -/
  | tapReset
  /-- DEBUG_HALT (R630): Writing DBG_CTL.HALT halts the plan engine. -/
  | debugHalt (jtag : Bool) (w : Word)
  /-- DEBUG_STOPPED (R631): Every invocation and the sequencer reach rest, STOPPED is set and DEBUG_HALT is committed. -/
  | debugStopped
  /-- DEBUG_RESUME (R630): Writing DBG_CTL.RESUME ends the halt and commits DEBUG_HALT with detail 0. -/
  | debugResume (w : Word)
  /-- DEBUG_STEP (R632): Writing DBG_CTL.STEP lets each halted invocation run one unit. -/
  | debugStep (w : Word)
  /-- PCIE_LINK_CHANGE (R609): The PCIe link finishes training or goes down, setting or clearing HOST_STAT.SPEED and WIDTH. -/
  | pcieLinkChange (speed width : Nat)
  /-- DIVERSITY_CHOICE (R422): At the end of preamble bit 15, after energy first crossed ENERGY_TH, the radio picks an aerial and writes UHF_DIV_RSSI and UHF_DIV_STAT. -/
  | diversityChoice (rssiA rssiB : Nat)
  /-- IMPORT_WRITE_CYCLE (R443): An import finishes unwrapping up to 2 µs after dispatch, writes its slot in one CORE cycle and completes. -/
  | importWriteCycle
  /-- TIMER_TICK (R549): A tick of the selected source (timebase, crystal or an EXT pin edge) advances a running, gated timer's count. -/
  | timerTick (n : Fin 16) (tgate : Nat)
  /-- RESERVED_TYPE_TOKEN (R518): A control token with a reserved TYPE is received whole and forwarded without being acted on. -/
  | reservedTypeToken (t : TokenRx)
  /-- BEAM_FRAME_ABORT (R534): A gap of more than 2 bit times between characters aborts the beam frame being received. -/
  | beamFrameAbort
  deriving DecidableEq, Repr

end Sys2Proof
end

