-- ==== Sys2Proof/Decode.lean ====
section
/-! DEFINITION. The commands that a word spells by the opcode table's bits: no row of the table gives any. -/

namespace Sys2Proof

/-- The command that a word of the opcode table spells. The table gives no row bits, so no word spells a command.
DESIGN CHOICE (log entry 7). -/
def decodeTableWord (_nbits _w : Nat) : Option Instr := none

end Sys2Proof
end

