-- ==== Sys2Proof/Machine/Crc.lean ====
section
/-! DEFINITION. The CRCs of the spec: CRC-32C (R238), CRC-16 of HF frames (R129), and the reflected shift register they
share. -/

namespace Sys2Proof.Machine
open Sys2Proof

/-- One shift of a reflected CRC register. -/
def crcShift {n : Nat} (poly c : BitVec n) : BitVec n := if c.getLsbD 0 then (c >>> 1) ^^^ poly else c >>> 1

/-- One byte into a reflected CRC register, least significant bit first. -/
def crcByte {n : Nat} (poly c : BitVec n) (b : Byte) : BitVec n :=
  crcShift poly (crcShift poly (crcShift poly (crcShift poly (crcShift poly (crcShift poly (crcShift poly
    (crcShift poly (c ^^^ b.setWidth n))))))))

/-- A reflected CRC over bytes: preset, then each byte, then the final XOR. -/
def crcRefl {n : Nat} (poly init final : BitVec n) (l : List Byte) : BitVec n := l.foldl (crcByte poly) init ^^^ final

/-- CRC-32C: init 0xFFFF_FFFF, reflected, final XOR 0xFFFF_FFFF (R238). -/
def crc32c (l : List Byte) : Word := crcRefl 0x82F63B78#32 0xFFFFFFFF#32 0xFFFFFFFF#32 l

/-- CRC-16 of ISO/IEC 13239 with the standard preset and inversion: ISO/IEC 15693 and Type B (R129). -/
def crc16B (l : List Byte) : BitVec 16 := crcRefl 0x8408#16 0xFFFF#16 0xFFFF#16 l

/-- CRC-16 of Type A: preset 0x6363, not inverted (R129). -/
def crc16A (l : List Byte) : BitVec 16 := crcRefl 0x8408#16 0x6363#16 0#16 l

/-- CRC-16 that a rod appends and checks for a protocol (R129). -/
def rodCrc (proto : Nat) (l : List Byte) : BitVec 16 := if proto = 1 then crc16A l else crc16B l

end Sys2Proof.Machine
end

