-- ==== Sys2Proof/Config.lean ====
section
/-! DEFINITION. What the spec leaves open: values that no proof can see (log entries name each one). -/

namespace Sys2Proof.Config
open Sys2Proof

/-- The spec states no value here: the `n`-th free value drawn by the state's counter `fresh`.
DESIGN CHOICE (log entry 4). -/
opaque freeNat : Nat → Nat

/-- R198 does not state how a strength is rounded to 0.25 dB: whether the strength of a sum of squared channel estimates
goes up to the unit above. DESIGN CHOICE (log entry 4). -/
opaque strengthUp : Nat → Bool

/-- The strength reported for no signal at all, whose logarithm R198 does not state. DESIGN CHOICE (log entry 4). -/
opaque strengthNone : BitVec 16

/-- R183 does not state how a weight is rounded to its register: whether the quotient of the two numbers, where it is no whole
number, goes up to the next one. DESIGN CHOICE (log entry 73). -/
opaque tapUp : Int → Int → Bool

/-- The conduction width that LF channel `n` has at time `t` amid a driven span, whose samples its end reports (R298).
DESIGN CHOICE (log entry 74). -/
opaque lfWidth (n t : Nat) : Nat

/-- The words of the group open in FIFO `f` that are written at time `t`: its producer writes them as they become known, and the
record's end reports them (R465, R469). DEDUCED (log entry 49). -/
opaque openWords (f t : Nat) : Nat

end Sys2Proof.Config
end

