-- ==== Sys2Proof/Machine/RegTypes.lean ====
section
/-! DEFINITION. How a register and its fields are described: access types (R9), reserved encodings (R11), reset values. -/

namespace Sys2Proof.Machine

/-- Access types of register fields (R9). -/
inductive Access | rw | ro | w1c | w1s | wo | rwl
  deriving DecidableEq, Repr

/-- One field of a register: its bits, its access type, its reset value (`rst + step·i` for instance `i` of the
register), and the ranges of legal values (an empty list: every value is legal; R11 for the others). -/
structure FieldSpec where
  hi : Nat
  lo : Nat
  acc : Access
  rst : Nat
  step : Nat
  legal : List (Nat × Nat)
  deriving DecidableEq, Repr

/-- One row of the register map: name, address of the first instance, the distance and count of instances (outermost
first; empty for a single register), and the fields. -/
structure RegSpec where
  name : String
  base : Nat
  dims : List (Nat × Nat)
  fields : List FieldSpec
  deriving DecidableEq, Repr

/-- A register field by name: address of the first instance, distance between instances, bits, reset value. -/
structure Fld where
  addr : Nat
  stride : Nat
  hi : Nat
  lo : Nat
  rst : Nat
  step : Nat
  deriving DecidableEq, Repr

/-- The key of a field in the register file: its register's address and its low bit. -/
def fldKey (addr lo : Nat) : Nat := addr * 32 + lo

/-- Key of instance `i` of a named field. -/
def Fld.key (f : Fld) (i : Nat) : Nat := fldKey (f.addr + f.stride * i) f.lo

/-- Reset value of instance `i` of a named field. -/
def Fld.dflt (f : Fld) (i : Nat) : Nat := f.rst + f.step * i

/-- Number of values of a field. -/
def Fld.size (f : Fld) : Nat := 2 ^ (f.hi - f.lo + 1)

/-- Does an offset from a register row's base name one of its instances? -/
def offInDims : List (Nat × Nat) → Nat → Bool
  | [], o => o == 0
  | (s, c) :: t, o => decide (o / s < c) && offInDims t (o % s)

/-- Does the register row have an instance at this address? -/
def RegSpec.covers (r : RegSpec) (a : Nat) : Bool := decide (r.base ≤ a) && offInDims r.dims (a - r.base)

/-- The index of the instance at an address (outermost index of the row). -/
def RegSpec.index (r : RegSpec) (a : Nat) : Nat :=
  match r.dims with
  | [] => 0
  | (s, _) :: _ => (a - r.base) / s

/-- The register row at an address; none where the offset holds no register (R12). -/
def findReg (m : List RegSpec) (a : Nat) : Option RegSpec := m.find? (fun r => r.covers a)

/-- A legal encoding of the field (R11). -/
def FieldSpec.ok (f : FieldSpec) (v : Nat) : Bool :=
  f.legal.isEmpty || f.legal.any (fun p => decide (p.1 ≤ v) && decide (v ≤ p.2))

end Sys2Proof.Machine
end

