-- ==== Sys2Proof/Machine/Fields.lean ====
section
/-! DEFINITION. The register fields by name, REGISTER_FIELD as the spec writes REGISTER.FIELD: address of the first
instance, distance between instances, bit range and reset value, from the register tables of every chapter. -/

namespace Sys2Proof.Machine.F

/-! ### spec/01_architecture.md -/
/-- SYS_SEQ.SEQ (R32). -/
abbrev SYS_SEQ_SEQ : Fld := ⟨0x40, 0, 31, 0, 0, 0⟩
/-- SYS_TB_LO.TB_LO (R46). -/
abbrev SYS_TB_LO_TB_LO : Fld := ⟨0x48, 0, 31, 0, 0, 0⟩
/-- SYS_TB_HI.TB_HI (R46). -/
abbrev SYS_TB_HI_TB_HI : Fld := ⟨0x4c, 0, 31, 0, 0, 0⟩
/-- SYS_TB_STAT.COARSE (R43). -/
abbrev SYS_TB_STAT_COARSE : Fld := ⟨0x50, 0, 0, 0, 1, 0⟩
/-- SYS_TB_STAT.SYNCED (R43). -/
abbrev SYS_TB_STAT_SYNCED : Fld := ⟨0x50, 0, 1, 1, 0, 0⟩
/-- SYS_TB_STAT.UNLATCHED (R43). -/
abbrev SYS_TB_STAT_UNLATCHED : Fld := ⟨0x50, 0, 2, 2, 0, 0⟩
/-- SYS_SLOT_STAT.IN_USE (R48). -/
abbrev SYS_SLOT_STAT_IN_USE : Fld := ⟨0x60, 0, 8, 0, 0, 0⟩
/-- SYS_SLOT_STAT.GEN_IN_USE (R48). -/
abbrev SYS_SLOT_STAT_GEN_IN_USE : Fld := ⟨0x60, 0, 22, 16, 0, 0⟩
/-- SYS_SLOT_STAT.ROD_BORROW (R48). -/
abbrev SYS_SLOT_STAT_ROD_BORROW : Fld := ⟨0x60, 0, 29, 24, 0, 0⟩
/-- SYS_SLOT_PEAK.PEAK (R48). -/
abbrev SYS_SLOT_PEAK_PEAK : Fld := ⟨0x64, 0, 8, 0, 0, 0⟩
/-- SYS_SLOT_PEAK.CLR (R48). -/
abbrev SYS_SLOT_PEAK_CLR : Fld := ⟨0x64, 0, 31, 31, 0, 0⟩
/-! ### spec/02_host_rings.md -/
/-- SYS_HOST_DROP.COMPL (R103). -/
abbrev SYS_HOST_DROP_COMPL : Fld := ⟨0x70, 0, 15, 0, 0, 0⟩
/-- SYS_HOST_DROP.EVT (R103). -/
abbrev SYS_HOST_DROP_EVT : Fld := ⟨0x70, 0, 30, 16, 0, 0⟩
/-- SYS_HOST_DROP.CLR (R103). -/
abbrev SYS_HOST_DROP_CLR : Fld := ⟨0x70, 0, 31, 31, 0, 0⟩
/-- SYS_HOST_MARK.SEQ (R103). -/
abbrev SYS_HOST_MARK_SEQ : Fld := ⟨0x74, 0, 31, 0, 0, 0⟩
/-! ### spec/14_power_clocks_reset.md -/
/-- SYS_BOOT_STAT.DONE (R608). -/
abbrev SYS_BOOT_STAT_DONE : Fld := ⟨0x80, 0, 0, 0, 0, 0⟩
/-- SYS_BOOT_STAT.NO_IMAGE (R608). -/
abbrev SYS_BOOT_STAT_NO_IMAGE : Fld := ⟨0x80, 0, 1, 1, 0, 0⟩
/-- SYS_BOOT_STAT.BAD_IMAGE (R608). -/
abbrev SYS_BOOT_STAT_BAD_IMAGE : Fld := ⟨0x80, 0, 2, 2, 0, 0⟩
/-- SYS_BOOT_STAT.SFDP_FAIL (R608). -/
abbrev SYS_BOOT_STAT_SFDP_FAIL : Fld := ⟨0x80, 0, 3, 3, 0, 0⟩
/-- SYS_BOOT_STAT.LOADED (R608). -/
abbrev SYS_BOOT_STAT_LOADED : Fld := ⟨0x80, 0, 31, 16, 0, 0⟩
/-! ### spec/02_host_rings.md -/
/-- DOORBELL_SQ.COUNT (R61). -/
abbrev DOORBELL_SQ_COUNT : Fld := ⟨0x1000, 8, 15, 0, 0, 0⟩
/-- DOORBELL_CQ.COUNT (R62). -/
abbrev DOORBELL_CQ_COUNT : Fld := ⟨0x1100, 8, 15, 0, 0, 0⟩
/-- DOORBELL_RQ.COUNT (R62). -/
abbrev DOORBELL_RQ_COUNT : Fld := ⟨0x1180, 8, 15, 0, 0, 0⟩
/-- DOORBELL_EQ.COUNT (R62). -/
abbrev DOORBELL_EQ_COUNT : Fld := ⟨0x11a0, 0, 15, 0, 0, 0⟩
/-- HOST_CTL.SPLIT_PHASE (R86). -/
abbrev HOST_CTL_SPLIT_PHASE : Fld := ⟨0x2000, 0, 0, 0, 1, 0⟩
/-- HOST_CTL.INTN_EN (R86). -/
abbrev HOST_CTL_INTN_EN : Fld := ⟨0x2000, 0, 1, 1, 0, 0⟩
/-- HOST_STAT.READY (R99). -/
abbrev HOST_STAT_READY : Fld := ⟨0x2004, 0, 0, 0, 0, 0⟩
/-- HOST_STAT.BME (R99). -/
abbrev HOST_STAT_BME : Fld := ⟨0x2004, 0, 1, 1, 0, 0⟩
/-- HOST_STAT.D3 (R99). -/
abbrev HOST_STAT_D3 : Fld := ⟨0x2004, 0, 2, 2, 0, 0⟩
/-- HOST_STAT.SPEED (R99). -/
abbrev HOST_STAT_SPEED : Fld := ⟨0x2004, 0, 4, 3, 0, 0⟩
/-- HOST_STAT.WIDTH (R99). -/
abbrev HOST_STAT_WIDTH : Fld := ⟨0x2004, 0, 6, 5, 0, 0⟩
/-- HOST_ERR.FETCH (R104). -/
abbrev HOST_ERR_FETCH : Fld := ⟨0x2008, 0, 0, 0, 0, 0⟩
/-- HOST_ERR.DATA_FETCH (R104). -/
abbrev HOST_ERR_DATA_FETCH : Fld := ⟨0x2008, 0, 1, 1, 0, 0⟩
/-- HOST_ERR.DB_RANGE (R104). -/
abbrev HOST_ERR_DB_RANGE : Fld := ⟨0x2008, 0, 2, 2, 0, 0⟩
/-- HOST_ERR.DB_OFF (R104). -/
abbrev HOST_ERR_DB_OFF : Fld := ⟨0x2008, 0, 3, 3, 0, 0⟩
/-- HOST_ERR.CFG_BUSY (R104). -/
abbrev HOST_ERR_CFG_BUSY : Fld := ⟨0x2008, 0, 4, 4, 0, 0⟩
/-- HOST_ERR.MAP (R104). -/
abbrev HOST_ERR_MAP : Fld := ⟨0x2008, 0, 5, 5, 0, 0⟩
/-- HOST_ERR.ACC_SIZE (R104). -/
abbrev HOST_ERR_ACC_SIZE : Fld := ⟨0x2008, 0, 6, 6, 0, 0⟩
/-- HOST_ERR.BAR2_WR (R104). -/
abbrev HOST_ERR_BAR2_WR : Fld := ⟨0x2008, 0, 7, 7, 0, 0⟩
/-- HOST_ERR_SRC.RING (R105). -/
abbrev HOST_ERR_SRC_RING : Fld := ⟨0x200c, 0, 4, 0, 0, 0⟩
/-- HOST_ERR_SRC.KIND (R105). -/
abbrev HOST_ERR_SRC_KIND : Fld := ⟨0x200c, 0, 6, 5, 0, 0⟩
/-- HOST_ERR_SRC.BIT (R105). -/
abbrev HOST_ERR_SRC_BIT : Fld := ⟨0x200c, 0, 10, 8, 0, 0⟩
/-- HOST_ERR_ADDR_LO.ADDR (R105). -/
abbrev HOST_ERR_ADDR_LO_ADDR : Fld := ⟨0x2010, 0, 31, 0, 0, 0⟩
/-- HOST_ERR_ADDR_HI.ADDR (R105). -/
abbrev HOST_ERR_ADDR_HI_ADDR : Fld := ⟨0x2014, 0, 31, 0, 0, 0⟩
/-- HOST_RQ_ROUTE0.RQ (R79). -/
abbrev HOST_RQ_ROUTE0_RQ : Fld := ⟨0x2040, 0, 31, 0, 0, 0⟩
/-- HOST_RQ_ROUTE1.RQ (R79). -/
abbrev HOST_RQ_ROUTE1_RQ : Fld := ⟨0x2044, 0, 31, 0, 0, 0⟩
/-- HOST_RQ_ROUTE2.ROD (R79). -/
abbrev HOST_RQ_ROUTE2_ROD : Fld := ⟨0x2048, 0, 1, 0, 0, 0⟩
/-- HOST_RQ_ROUTE2.ACCESS (R79). -/
abbrev HOST_RQ_ROUTE2_ACCESS : Fld := ⟨0x2048, 0, 3, 2, 0, 0⟩
/-- HOST_RQ_ROUTE2.OTHER (R79). -/
abbrev HOST_RQ_ROUTE2_OTHER : Fld := ⟨0x2048, 0, 5, 4, 0, 0⟩
/-- HOST_INT_STAT.VEC (R95). -/
abbrev HOST_INT_STAT_VEC : Fld := ⟨0x2050, 0, 31, 0, 0, 0⟩
/-- HOST_SQ_BASE_LO.BASE (R97). -/
abbrev HOST_SQ_BASE_LO_BASE : Fld := ⟨0x2100, 0x20, 31, 6, 0, 0⟩
/-- HOST_SQ_BASE_HI.BASE (R97). -/
abbrev HOST_SQ_BASE_HI_BASE : Fld := ⟨0x2104, 0x20, 31, 0, 0, 0⟩
/-- HOST_SQ_CFG.SIZE (R97). -/
abbrev HOST_SQ_CFG_SIZE : Fld := ⟨0x2108, 0x20, 3, 0, 4, 0⟩
/-- HOST_SQ_CFG.CQ (R97). -/
abbrev HOST_SQ_CFG_CQ : Fld := ⟨0x2108, 0x20, 11, 8, 0, 0⟩
/-- HOST_SQ_CFG.EN (R97). -/
abbrev HOST_SQ_CFG_EN : Fld := ⟨0x2108, 0x20, 16, 16, 0, 0⟩
/-- HOST_SQ_CFG.STOP (R97). -/
abbrev HOST_SQ_CFG_STOP : Fld := ⟨0x2108, 0x20, 17, 17, 0, 0⟩
/-- HOST_SQ_STAT.FETCHED (R100). -/
abbrev HOST_SQ_STAT_FETCHED : Fld := ⟨0x210c, 0x20, 15, 0, 0, 0⟩
/-- HOST_SQ_STAT.IDLE (R100). -/
abbrev HOST_SQ_STAT_IDLE : Fld := ⟨0x210c, 0x20, 16, 16, 1, 0⟩
/-- HOST_SQ_STAT.FAULT (R100). -/
abbrev HOST_SQ_STAT_FAULT : Fld := ⟨0x210c, 0x20, 17, 17, 0, 0⟩
/-- HOST_SQ_STAT.DB_ERR (R100). -/
abbrev HOST_SQ_STAT_DB_ERR : Fld := ⟨0x210c, 0x20, 18, 18, 0, 0⟩
/-- HOST_SQ_DONE.DONE (R97). -/
abbrev HOST_SQ_DONE_DONE : Fld := ⟨0x2110, 0x20, 15, 0, 0, 0⟩
/-- HOST_CQ_BASE_LO.BASE (R97). -/
abbrev HOST_CQ_BASE_LO_BASE : Fld := ⟨0x2500, 0x20, 31, 6, 0, 0⟩
/-- HOST_CQ_BASE_HI.BASE (R97). -/
abbrev HOST_CQ_BASE_HI_BASE : Fld := ⟨0x2504, 0x20, 31, 0, 0, 0⟩
/-- HOST_CQ_CFG.SIZE (R97). -/
abbrev HOST_CQ_CFG_SIZE : Fld := ⟨0x2508, 0x20, 3, 0, 4, 0⟩
/-- HOST_CQ_CFG.VECTOR (R97). -/
abbrev HOST_CQ_CFG_VECTOR : Fld := ⟨0x2508, 0x20, 8, 4, 0, 1⟩
/-- HOST_CQ_CFG.EN (R97). -/
abbrev HOST_CQ_CFG_EN : Fld := ⟨0x2508, 0x20, 16, 16, 0, 0⟩
/-- HOST_CQ_CFG.IRQ_EN (R97). -/
abbrev HOST_CQ_CFG_IRQ_EN : Fld := ⟨0x2508, 0x20, 17, 17, 0, 0⟩
/-- HOST_CQ_MOD.MOD_CNT (R92). -/
abbrev HOST_CQ_MOD_MOD_CNT : Fld := ⟨0x250c, 0x20, 7, 0, 1, 0⟩
/-- HOST_CQ_MOD.MOD_TIME (R92). -/
abbrev HOST_CQ_MOD_MOD_TIME : Fld := ⟨0x250c, 0x20, 25, 16, 8, 0⟩
/-- HOST_CQ_STAT.WRITTEN (R89). -/
abbrev HOST_CQ_STAT_WRITTEN : Fld := ⟨0x2510, 0x20, 15, 0, 0, 0⟩
/-- HOST_CQ_STAT.FULL (R89). -/
abbrev HOST_CQ_STAT_FULL : Fld := ⟨0x2510, 0x20, 16, 16, 0, 0⟩
/-- HOST_CQ_STAT.PEND (R89). -/
abbrev HOST_CQ_STAT_PEND : Fld := ⟨0x2510, 0x20, 17, 17, 0, 0⟩
/-- HOST_CQ_STAT.DB_ERR (R89). -/
abbrev HOST_CQ_STAT_DB_ERR : Fld := ⟨0x2510, 0x20, 18, 18, 0, 0⟩
/-- HOST_CQ_STAT.LOST (R89). -/
abbrev HOST_CQ_STAT_LOST : Fld := ⟨0x2510, 0x20, 31, 24, 0, 0⟩
/-- HOST_RQ_BASE_LO.BASE (R97). -/
abbrev HOST_RQ_BASE_LO_BASE : Fld := ⟨0x2700, 0x20, 31, 6, 0, 0⟩
/-- HOST_RQ_BASE_HI.BASE (R97). -/
abbrev HOST_RQ_BASE_HI_BASE : Fld := ⟨0x2704, 0x20, 31, 0, 0, 0⟩
/-- HOST_RQ_CFG.SIZE (R97). -/
abbrev HOST_RQ_CFG_SIZE : Fld := ⟨0x2708, 0x20, 3, 0, 4, 0⟩
/-- HOST_RQ_CFG.VECTOR (R97). -/
abbrev HOST_RQ_CFG_VECTOR : Fld := ⟨0x2708, 0x20, 8, 4, 0x10, 1⟩
/-- HOST_RQ_CFG.EN (R97). -/
abbrev HOST_RQ_CFG_EN : Fld := ⟨0x2708, 0x20, 16, 16, 0, 0⟩
/-- HOST_RQ_CFG.IRQ_EN (R97). -/
abbrev HOST_RQ_CFG_IRQ_EN : Fld := ⟨0x2708, 0x20, 17, 17, 0, 0⟩
/-- HOST_RQ_MOD.MOD_CNT (R92). -/
abbrev HOST_RQ_MOD_MOD_CNT : Fld := ⟨0x270c, 0x20, 7, 0, 1, 0⟩
/-- HOST_RQ_MOD.MOD_TIME (R92). -/
abbrev HOST_RQ_MOD_MOD_TIME : Fld := ⟨0x270c, 0x20, 25, 16, 8, 0⟩
/-- HOST_RQ_STAT.WRITTEN (R89). -/
abbrev HOST_RQ_STAT_WRITTEN : Fld := ⟨0x2710, 0x20, 15, 0, 0, 0⟩
/-- HOST_RQ_STAT.FULL (R89). -/
abbrev HOST_RQ_STAT_FULL : Fld := ⟨0x2710, 0x20, 16, 16, 0, 0⟩
/-- HOST_RQ_STAT.PEND (R89). -/
abbrev HOST_RQ_STAT_PEND : Fld := ⟨0x2710, 0x20, 17, 17, 0, 0⟩
/-- HOST_RQ_STAT.DB_ERR (R89). -/
abbrev HOST_RQ_STAT_DB_ERR : Fld := ⟨0x2710, 0x20, 18, 18, 0, 0⟩
/-- HOST_RQ_STAT.LOST (R89). -/
abbrev HOST_RQ_STAT_LOST : Fld := ⟨0x2710, 0x20, 31, 24, 0, 0⟩
/-- HOST_EQ_BASE_LO.BASE (R97). -/
abbrev HOST_EQ_BASE_LO_BASE : Fld := ⟨0x2780, 0, 31, 6, 0, 0⟩
/-- HOST_EQ_BASE_HI.BASE (R97). -/
abbrev HOST_EQ_BASE_HI_BASE : Fld := ⟨0x2784, 0, 31, 0, 0, 0⟩
/-- HOST_EQ_CFG.SIZE (R97). -/
abbrev HOST_EQ_CFG_SIZE : Fld := ⟨0x2788, 0, 3, 0, 4, 0⟩
/-- HOST_EQ_CFG.VECTOR (R97). -/
abbrev HOST_EQ_CFG_VECTOR : Fld := ⟨0x2788, 0, 8, 4, 0x14, 0⟩
/-- HOST_EQ_CFG.EN (R97). -/
abbrev HOST_EQ_CFG_EN : Fld := ⟨0x2788, 0, 16, 16, 0, 0⟩
/-- HOST_EQ_CFG.IRQ_EN (R97). -/
abbrev HOST_EQ_CFG_IRQ_EN : Fld := ⟨0x2788, 0, 17, 17, 0, 0⟩
/-- HOST_EQ_MOD.MOD_CNT (R92). -/
abbrev HOST_EQ_MOD_MOD_CNT : Fld := ⟨0x278c, 0, 7, 0, 1, 0⟩
/-- HOST_EQ_MOD.MOD_TIME (R92). -/
abbrev HOST_EQ_MOD_MOD_TIME : Fld := ⟨0x278c, 0, 25, 16, 8, 0⟩
/-- HOST_EQ_STAT.WRITTEN (R89). -/
abbrev HOST_EQ_STAT_WRITTEN : Fld := ⟨0x2790, 0, 15, 0, 0, 0⟩
/-- HOST_EQ_STAT.FULL (R89). -/
abbrev HOST_EQ_STAT_FULL : Fld := ⟨0x2790, 0, 16, 16, 0, 0⟩
/-- HOST_EQ_STAT.PEND (R89). -/
abbrev HOST_EQ_STAT_PEND : Fld := ⟨0x2790, 0, 17, 17, 0, 0⟩
/-- HOST_EQ_STAT.DB_ERR (R89). -/
abbrev HOST_EQ_STAT_DB_ERR : Fld := ⟨0x2790, 0, 18, 18, 0, 0⟩
/-- HOST_EQ_STAT.LOST (R89). -/
abbrev HOST_EQ_STAT_LOST : Fld := ⟨0x2790, 0, 31, 24, 0, 0⟩
/-- MSIX_ADDR_LO.VALUE (R91). -/
abbrev MSIX_ADDR_LO_VALUE : Fld := ⟨0x2800, 0x10, 31, 0, 0, 0⟩
/-- MSIX_ADDR_HI.VALUE (R91). -/
abbrev MSIX_ADDR_HI_VALUE : Fld := ⟨0x2804, 0x10, 31, 0, 0, 0⟩
/-- MSIX_DATA.VALUE (R91). -/
abbrev MSIX_DATA_VALUE : Fld := ⟨0x2808, 0x10, 31, 0, 0, 0⟩
/-- MSIX_CTRL.MASK (R91). -/
abbrev MSIX_CTRL_MASK : Fld := ⟨0x280c, 0x10, 0, 0, 1, 0⟩
/-- MSIX_PBA.PEND (R91). -/
abbrev MSIX_PBA_PEND : Fld := ⟨0x2a00, 4, 31, 0, 0, 0⟩
/-! ### spec/14_power_clocks_reset.md -/
/-- PWR_STATE.STATE (R578). -/
abbrev PWR_STATE_STATE : Fld := ⟨0x3000, 0, 23, 0, 2, 0⟩
/-- PWR_REQ.TGT0 (R586). -/
abbrev PWR_REQ_TGT0 : Fld := ⟨0x3004, 0, 1, 0, 3, 0⟩
/-- PWR_REQ.TGT (R586). -/
abbrev PWR_REQ_TGT : Fld := ⟨0x3004, 0, 23, 2, 0x3fffff, 0⟩
/-- PWR_REQ.FORCE (R586). -/
abbrev PWR_REQ_FORCE : Fld := ⟨0x3004, 0, 24, 24, 0, 0⟩
/-- PWR_STAT.BUSY (R586). -/
abbrev PWR_STAT_BUSY : Fld := ⟨0x3008, 0, 0, 0, 0, 0⟩
/-- PWR_STAT.PHASE (R586). -/
abbrev PWR_STAT_PHASE : Fld := ⟨0x3008, 0, 2, 1, 0, 0⟩
/-- PWR_STAT.RESULT (R586). -/
abbrev PWR_STAT_RESULT : Fld := ⟨0x3008, 0, 4, 3, 0, 0⟩
/-- PWR_STAT.DONE (R586). -/
abbrev PWR_STAT_DONE : Fld := ⟨0x3008, 0, 5, 5, 0, 0⟩
/-- PWR_STAT.DROPPED (R586). -/
abbrev PWR_STAT_DROPPED : Fld := ⟨0x3008, 0, 6, 6, 0, 0⟩
/-- PWR_LAST_REFUSER.DOMAIN (R591). -/
abbrev PWR_LAST_REFUSER_DOMAIN : Fld := ⟨0x300c, 0, 3, 0, 0, 0⟩
/-- PWR_LAST_REFUSER.REASON (R591). -/
abbrev PWR_LAST_REFUSER_REASON : Fld := ⟨0x300c, 0, 6, 4, 0, 0⟩
/-- PWR_LAST_REFUSER.REQ_STATE (R591). -/
abbrev PWR_LAST_REFUSER_REQ_STATE : Fld := ⟨0x300c, 0, 9, 8, 0, 0⟩
/-- PWR_LAST_REFUSER.VALID (R591). -/
abbrev PWR_LAST_REFUSER_VALID : Fld := ⟨0x300c, 0, 31, 31, 0, 0⟩
/-- PWR_PAD_RELEASE.HELD (R600). -/
abbrev PWR_PAD_RELEASE_HELD : Fld := ⟨0x3010, 0, 11, 0, 0, 0⟩
/-- PWR_PAD_AUTO.AUTO (R600). -/
abbrev PWR_PAD_AUTO_AUTO : Fld := ⟨0x3014, 0, 11, 0, 0, 0⟩
/-- PWR_ACCESS_FAULT.ADDR (R602). -/
abbrev PWR_ACCESS_FAULT_ADDR : Fld := ⟨0x3018, 0, 15, 0, 0, 0⟩
/-- PWR_ACCESS_FAULT.DOMAIN (R602). -/
abbrev PWR_ACCESS_FAULT_DOMAIN : Fld := ⟨0x3018, 0, 19, 16, 0, 0⟩
/-- PWR_ACCESS_FAULT.WRITE (R602). -/
abbrev PWR_ACCESS_FAULT_WRITE : Fld := ⟨0x3018, 0, 20, 20, 0, 0⟩
/-- PWR_ACCESS_FAULT.BEAM (R602). -/
abbrev PWR_ACCESS_FAULT_BEAM : Fld := ⟨0x3018, 0, 21, 21, 0, 0⟩
/-- PWR_ACCESS_FAULT.VALID (R602). -/
abbrev PWR_ACCESS_FAULT_VALID : Fld := ⟨0x3018, 0, 31, 31, 0, 0⟩
/-- PWR_WAKE_EN.EN (R594). -/
abbrev PWR_WAKE_EN_EN : Fld := ⟨0x3020, 0, 7, 1, 0, 0⟩
/-- PWR_WAKE_LATCH.LATCHED (R595). -/
abbrev PWR_WAKE_LATCH_LATCHED : Fld := ⟨0x3024, 0, 7, 1, 0, 0⟩
/-- PWR_WAKE_LATCH.REPLAY (R595). -/
abbrev PWR_WAKE_LATCH_REPLAY : Fld := ⟨0x3024, 0, 8, 8, 0, 0⟩
/-- PWR_WAKE_GPIO.EDGE (R594). -/
abbrev PWR_WAKE_GPIO_EDGE : Fld := ⟨0x3028, 0, 7, 0, 0, 0⟩
/-- PWR_WAKE_TIMER.COUNT (R594). -/
abbrev PWR_WAKE_TIMER_COUNT : Fld := ⟨0x302c, 0, 31, 0, 0, 0⟩
/-- PWR_WAKE_MAP1.MAP (R594). -/
abbrev PWR_WAKE_MAP1_MAP : Fld := ⟨0x3044, 0, 11, 1, 0, 0⟩
/-- PWR_WAKE_MAP2.MAP (R594). -/
abbrev PWR_WAKE_MAP2_MAP : Fld := ⟨0x3048, 0, 11, 1, 1, 0⟩
/-- PWR_WAKE_MAP3.MAP (R594). -/
abbrev PWR_WAKE_MAP3_MAP : Fld := ⟨0x304c, 0, 11, 1, 1, 0⟩
/-- PWR_WAKE_MAP4.MAP (R594). -/
abbrev PWR_WAKE_MAP4_MAP : Fld := ⟨0x3050, 0, 11, 1, 1, 0⟩
/-- PWR_WAKE_MAP5.MAP (R594). -/
abbrev PWR_WAKE_MAP5_MAP : Fld := ⟨0x3054, 0, 11, 1, 4, 0⟩
/-- PWR_WAKE_MAP6.MAP (R594). -/
abbrev PWR_WAKE_MAP6_MAP : Fld := ⟨0x3058, 0, 11, 1, 2, 0⟩
/-- PWR_WAKE_MAP7.MAP (R594). -/
abbrev PWR_WAKE_MAP7_MAP : Fld := ⟨0x305c, 0, 11, 1, 1, 0⟩
/-- PWR_REFUSE_CNT.COUNT (R614). -/
abbrev PWR_REFUSE_CNT_COUNT : Fld := ⟨0x3080, 4, 31, 0, 0, 0⟩
/-- PWR_CNT_ACCESS_FAULT.COUNT (R614). -/
abbrev PWR_CNT_ACCESS_FAULT_COUNT : Fld := ⟨0x30c0, 0, 31, 0, 0, 0⟩
/-- CLK_CFG.AON_SRC (R603). -/
abbrev CLK_CFG_AON_SRC : Fld := ⟨0x4000, 0, 0, 0, 0, 0⟩
/-- CLK_CFG.XTAL_KEEP (R603). -/
abbrev CLK_CFG_XTAL_KEEP : Fld := ⟨0x4000, 0, 1, 1, 0, 0⟩
/-- CLK_STAT.XTAL27_OK (R603). -/
abbrev CLK_STAT_XTAL27_OK : Fld := ⟨0x4004, 0, 0, 0, 0, 0⟩
/-- CLK_STAT.SYS_LOCK (R603). -/
abbrev CLK_STAT_SYS_LOCK : Fld := ⟨0x4004, 0, 1, 1, 0, 0⟩
/-- CLK_STAT.HF_LOCK (R603). -/
abbrev CLK_STAT_HF_LOCK : Fld := ⟨0x4004, 0, 2, 2, 0, 0⟩
/-- CLK_STAT.HF_REQ (R603). -/
abbrev CLK_STAT_HF_REQ : Fld := ⟨0x4004, 0, 3, 3, 0, 0⟩
/-- CLK_STAT.HOST_LOCK (R603). -/
abbrev CLK_STAT_HOST_LOCK : Fld := ⟨0x4004, 0, 4, 4, 0, 0⟩
/-- CLK_STAT.XTAL32K_OK (R603). -/
abbrev CLK_STAT_XTAL32K_OK : Fld := ⟨0x4004, 0, 5, 5, 0, 0⟩
/-- CLK_STAT.AON_ACT (R603). -/
abbrev CLK_STAT_AON_ACT : Fld := ⟨0x4004, 0, 6, 6, 0, 0⟩
/-- RST_CAUSE.CAUSE (R606). -/
abbrev RST_CAUSE_CAUSE : Fld := ⟨0x4100, 0, 5, 0, 0, 0⟩
/-- RST_SW.KEY (R607). -/
abbrev RST_SW_KEY : Fld := ⟨0x4104, 0, 15, 0, 0, 0⟩
/-- RST_WDT_CFG.EN (R607). -/
abbrev RST_WDT_CFG_EN : Fld := ⟨0x4108, 0, 0, 0, 0, 0⟩
/-- RST_WDT_CFG.DBG_PAUSE (R607). -/
abbrev RST_WDT_CFG_DBG_PAUSE : Fld := ⟨0x4108, 0, 1, 1, 1, 0⟩
/-- RST_WDT_CFG.TIMEOUT (R607). -/
abbrev RST_WDT_CFG_TIMEOUT : Fld := ⟨0x4108, 0, 31, 16, 0x3e8, 0⟩
/-- RST_WDT_KICK.KEY (R607). -/
abbrev RST_WDT_KICK_KEY : Fld := ⟨0x410c, 0, 15, 0, 0, 0⟩
/-! ### spec/03_rods.md -/
/-- ROD_HF_STAT.PLL_LOCK (R110). -/
abbrev ROD_HF_STAT_PLL_LOCK : Fld := ⟨0x5000, 0, 0, 0, 0, 0⟩
/-- ROD_PWR_LIMIT.MAX_POWER (R116). -/
abbrev ROD_PWR_LIMIT_MAX_POWER : Fld := ⟨0x5004, 0, 3, 0, 0, 0⟩
/-- ROD_PWR_LIMIT.LOCKED (R116). -/
abbrev ROD_PWR_LIMIT_LOCKED : Fld := ⟨0x5004, 0, 4, 4, 0, 0⟩
/-- ROD_CARRIER.ON (R171). -/
abbrev ROD_CARRIER_ON : Fld := ⟨0x5008, 0, 23, 0, 0, 0⟩
/-! ### spec/05_inventory_and_harvest.md -/
/-- ROD_FILT_CFG.EN (R236). -/
abbrev ROD_FILT_CFG_EN : Fld := ⟨0x5040, 0, 0, 0, 0, 0⟩
/-- ROD_FILT_CFG.TILE (R236). -/
abbrev ROD_FILT_CFG_TILE : Fld := ⟨0x5040, 0, 7, 4, 0, 0⟩
/-- ROD_FILT_CFG.LOG2B (R236). -/
abbrev ROD_FILT_CFG_LOG2B : Fld := ⟨0x5040, 0, 11, 8, 4, 0⟩
/-- ROD_DEDUP_CFG.BASE (R247). -/
abbrev ROD_DEDUP_CFG_BASE : Fld := ⟨0x5044, 0, 3, 0, 0xf, 0⟩
/-- ROD_DEDUP_CFG.TILES (R247). -/
abbrev ROD_DEDUP_CFG_TILES : Fld := ⟨0x5044, 0, 6, 4, 1, 0⟩
/-- ROD_SPEC_CFG.WRITE_WAIT (R250). -/
abbrev ROD_SPEC_CFG_WRITE_WAIT : Fld := ⟨0x5048, 0, 7, 0, 0x14, 0⟩
/-- ROD_ROUND_CFG.TMR_EN (R261). -/
abbrev ROD_ROUND_CFG_TMR_EN : Fld := ⟨0x5050, 0, 0, 0, 0, 0⟩
/-- ROD_ROUND_CFG.TMR_SEL (R261). -/
abbrev ROD_ROUND_CFG_TMR_SEL : Fld := ⟨0x5050, 0, 7, 4, 0, 0⟩
/-- ROD_ROUND_CFG.RING_IN (R261). -/
abbrev ROD_ROUND_CFG_RING_IN : Fld := ⟨0x5050, 0, 8, 8, 0, 0⟩
/-- ROD_ROUND_CFG.RING_OUT (R261). -/
abbrev ROD_ROUND_CFG_RING_OUT : Fld := ⟨0x5050, 0, 9, 9, 0, 0⟩
/-- ROD_ROUND_CTL.END (R261). -/
abbrev ROD_ROUND_CTL_END : Fld := ⟨0x5054, 0, 0, 0, 0, 0⟩
/-- ROD_ROUND_STAT.BUSY (R264). -/
abbrev ROD_ROUND_STAT_BUSY : Fld := ⟨0x5058, 0, 0, 0, 0, 0⟩
/-- ROD_ROUND_STAT.STEP (R264). -/
abbrev ROD_ROUND_STAT_STEP : Fld := ⟨0x5058, 0, 4, 1, 0, 0⟩
/-- ROD_ROUND_NO.ROUND (R261). -/
abbrev ROD_ROUND_NO_ROUND : Fld := ⟨0x505c, 0, 31, 0, 0, 0⟩
/-- ROD_ROUND_CARRIED.COUNT (R264). -/
abbrev ROD_ROUND_CARRIED_COUNT : Fld := ⟨0x5060, 0, 31, 0, 0, 0⟩
/-- ROD_ROUND_DISC.COUNT (R264). -/
abbrev ROD_ROUND_DISC_COUNT : Fld := ⟨0x5064, 0, 31, 0, 0, 0⟩
/-- ROD_INV_ERR.DEDUP_FULL (R247). -/
abbrev ROD_INV_ERR_DEDUP_FULL : Fld := ⟨0x5068, 0, 0, 0, 0, 0⟩
/-- ROD_INV_ERR.OVERLAP (R247). -/
abbrev ROD_INV_ERR_OVERLAP : Fld := ⟨0x5068, 0, 1, 1, 0, 0⟩
/-- ROD_INV_ERR.MERGED (R247). -/
abbrev ROD_INV_ERR_MERGED : Fld := ⟨0x5068, 0, 2, 2, 0, 0⟩
/-- ROD_INV_ERR.CFG (R247). -/
abbrev ROD_INV_ERR_CFG : Fld := ⟨0x5068, 0, 3, 3, 0, 0⟩
/-! ### spec/04_field_sharing.md -/
/-- FLD_CTL.TRACK_EN (R182). -/
abbrev FLD_CTL_TRACK_EN : Fld := ⟨0x5100, 0, 0, 0, 1, 0⟩
/-- FLD_CTL.FREEZE_MOD (R182). -/
abbrev FLD_CTL_FREEZE_MOD : Fld := ⟨0x5100, 0, 1, 1, 1, 0⟩
/-- FLD_CTL.STEP (R182). -/
abbrev FLD_CTL_STEP : Fld := ⟨0x5100, 0, 7, 4, 4, 0⟩
/-- FLD_CTL.COMB_EN (R182). -/
abbrev FLD_CTL_COMB_EN : Fld := ⟨0x5100, 0, 8, 8, 1, 0⟩
/-- FLD_CTL.HOST_RUN (R182). -/
abbrev FLD_CTL_HOST_RUN : Fld := ⟨0x5100, 0, 19, 16, 8, 0⟩
/-- FLD_SURVEY_CTL.START (R172). -/
abbrev FLD_SURVEY_CTL_START : Fld := ⟨0x5104, 0, 0, 0, 0, 0⟩
/-- FLD_SURVEY_CTL.LOAD (R172). -/
abbrev FLD_SURVEY_CTL_LOAD : Fld := ⟨0x5104, 0, 1, 1, 1, 0⟩
/-- FLD_SURVEY_MASK.MASK (R172). -/
abbrev FLD_SURVEY_MASK_MASK : Fld := ⟨0x5108, 0, 23, 0, 0xffffff, 0⟩
/-- FLD_SURVEY_STAT.BUSY (R177). -/
abbrev FLD_SURVEY_STAT_BUSY : Fld := ⟨0x510c, 0, 0, 0, 0, 0⟩
/-- FLD_SURVEY_STAT.DONE (R177). -/
abbrev FLD_SURVEY_STAT_DONE : Fld := ⟨0x510c, 0, 1, 1, 0, 0⟩
/-- FLD_SURVEY_STAT.ABORT (R177). -/
abbrev FLD_SURVEY_STAT_ABORT : Fld := ⟨0x510c, 0, 2, 2, 0, 0⟩
/-- FLD_SURVEY_STAT.CAUSE (R177). -/
abbrev FLD_SURVEY_STAT_CAUSE : Fld := ⟨0x510c, 0, 7, 4, 0, 0⟩
/-- FLD_SURVEY_STAT.ROD (R177). -/
abbrev FLD_SURVEY_STAT_ROD : Fld := ⟨0x510c, 0, 12, 8, 0, 0⟩
/-- FLD_TAP_CFG.MIN_COUP (R175). -/
abbrev FLD_TAP_CFG_MIN_COUP : Fld := ⟨0x5110, 0, 7, 0, 0x28, 0⟩
/-- FLD_ZMAP.MAP (R188). -/
abbrev FLD_ZMAP_MAP : Fld := ⟨0x5120, 4, 31, 0, 0, 0⟩
/-- FLD_ZSTAT.SPEAKER (R189). -/
abbrev FLD_ZSTAT_SPEAKER : Fld := ⟨0x5140, 4, 4, 0, 0x1f, 0⟩
/-- FLD_ZSTAT.BUSY (R189). -/
abbrev FLD_ZSTAT_BUSY : Fld := ⟨0x5140, 4, 5, 5, 0, 0⟩
/-- FLD_ZSTAT.MEMBERS (R189). -/
abbrev FLD_ZSTAT_MEMBERS : Fld := ⟨0x5140, 4, 12, 8, 0, 0⟩
/-- FLD_ZSTAT.PEND (R189). -/
abbrev FLD_ZSTAT_PEND : Fld := ⟨0x5140, 4, 16, 16, 0, 0⟩
/-- FLD_ZNEAR.NEAR (R199). -/
abbrev FLD_ZNEAR_NEAR : Fld := ⟨0x5160, 4, 4, 0, 0x1f, 0⟩
/-- FLD_ZNEAR.USED (R199). -/
abbrev FLD_ZNEAR_USED : Fld := ⟨0x5160, 4, 10, 8, 0, 0⟩
/-- FLD_ZNEAR.NEAR_RSSI (R199). -/
abbrev FLD_ZNEAR_NEAR_RSSI : Fld := ⟨0x5160, 4, 31, 16, 0, 0⟩
/-- FLD_BUDGET.LIMIT (R205). -/
abbrev FLD_BUDGET_LIMIT : Fld := ⟨0x5180, 0, 12, 0, 0x1770, 0⟩
/-- FLD_BUDGET.THR_LIMIT (R205). -/
abbrev FLD_BUDGET_THR_LIMIT : Fld := ⟨0x5180, 0, 28, 16, 0xfa0, 0⟩
/-- FLD_BUDGET_STAT.USED (R201). -/
abbrev FLD_BUDGET_STAT_USED : Fld := ⟨0x5184, 0, 13, 0, 0, 0⟩
/-- FLD_BUDGET_STAT.WAITING (R201). -/
abbrev FLD_BUDGET_STAT_WAITING : Fld := ⟨0x5184, 0, 20, 16, 0, 0⟩
/-- FLD_BUDGET_STAT.THROTTLE (R201). -/
abbrev FLD_BUDGET_STAT_THROTTLE : Fld := ⟨0x5184, 0, 24, 24, 0, 0⟩
/-- FLD_BUDGET_STAT.SHUTDOWN (R201). -/
abbrev FLD_BUDGET_STAT_SHUTDOWN : Fld := ⟨0x5184, 0, 25, 25, 0, 0⟩
/-- FLD_TEMP.TEMP (R206). -/
abbrev FLD_TEMP_TEMP : Fld := ⟨0x5190, 4, 15, 0, 0, 0⟩
/-- FLD_THERM.SD_CLR (R209). -/
abbrev FLD_THERM_SD_CLR : Fld := ⟨0x51a0, 0, 0, 0, 0, 0⟩
/-- FLD_STAT.TAP_SAT (R185). -/
abbrev FLD_STAT_TAP_SAT : Fld := ⟨0x51a4, 0, 0, 0, 0, 0⟩
/-- FLD_STAT.SURVEY_BUSY (R185). -/
abbrev FLD_STAT_SURVEY_BUSY : Fld := ⟨0x51a4, 0, 1, 1, 0, 0⟩
/-- FLD_CNT_BUDGET.COUNT (R204). -/
abbrev FLD_CNT_BUDGET_COUNT : Fld := ⟨0x51a8, 0, 31, 0, 0, 0⟩
/-- FLD_TAPSEL.SRC0 (R181). -/
abbrev FLD_TAPSEL_SRC0 : Fld := ⟨0x5200, 4, 4, 0, 0x1f, 0⟩
/-- FLD_TAPSEL.SRC1 (R181). -/
abbrev FLD_TAPSEL_SRC1 : Fld := ⟨0x5200, 4, 9, 5, 0x1f, 0⟩
/-- FLD_TAPSEL.SRC2 (R181). -/
abbrev FLD_TAPSEL_SRC2 : Fld := ⟨0x5200, 4, 14, 10, 0x1f, 0⟩
/-- FLD_TAPSEL.SRC3 (R181). -/
abbrev FLD_TAPSEL_SRC3 : Fld := ⟨0x5200, 4, 19, 15, 0x1f, 0⟩
/-- FLD_TAPSEL.SRC4 (R181). -/
abbrev FLD_TAPSEL_SRC4 : Fld := ⟨0x5200, 4, 24, 20, 0x1f, 0⟩
/-- FLD_TAPSEL.SRC5 (R181). -/
abbrev FLD_TAPSEL_SRC5 : Fld := ⟨0x5200, 4, 29, 25, 0x1f, 0⟩
/-- FLD_TAPW.W_I (R181). -/
abbrev FLD_TAPW_W_I : Fld := ⟨0x5300, 4, 15, 0, 0, 0⟩
/-- FLD_TAPW.W_Q (R181). -/
abbrev FLD_TAPW_W_Q : Fld := ⟨0x5300, 4, 31, 16, 0, 0⟩
/-- FLD_COUP.C_I (R176). -/
abbrev FLD_COUP_C_I : Fld := ⟨0x5600, 4, 15, 0, 0x8000, 0⟩
/-- FLD_COUP.C_Q (R176). -/
abbrev FLD_COUP_C_Q : Fld := ⟨0x5600, 4, 31, 16, 0x8000, 0⟩
/-! ### spec/06_tally_scan.md -/
/-- TLY_CTL.RUN (R277). -/
abbrev TLY_CTL_RUN : Fld := ⟨0x5f00, 0, 0, 0, 0, 0⟩
/-- TLY_CFG.INTERVAL (R277). -/
abbrev TLY_CFG_INTERVAL : Fld := ⟨0x5f04, 0, 1, 0, 2, 0⟩
/-- TLY_CFG.LEVEL (R277). -/
abbrev TLY_CFG_LEVEL : Fld := ⟨0x5f04, 0, 3, 2, 1, 0⟩
/-- TLY_CFG.CONFIRM (R277). -/
abbrev TLY_CFG_CONFIRM : Fld := ⟨0x5f04, 0, 6, 4, 1, 0⟩
/-- TLY_CFG.TRACK (R277). -/
abbrev TLY_CFG_TRACK : Fld := ⟨0x5f04, 0, 11, 8, 6, 0⟩
/-- TLY_CFG.REARM (R277). -/
abbrev TLY_CFG_REARM : Fld := ⟨0x5f04, 0, 16, 16, 1, 0⟩
/-- TLY_CFG.XGUARD (R277). -/
abbrev TLY_CFG_XGUARD : Fld := ⟨0x5f04, 0, 17, 17, 1, 0⟩
/-- TLY_EN.EN (R275). -/
abbrev TLY_EN_EN : Fld := ⟨0x5f08, 0, 23, 0, 0, 0⟩
/-- TLY_TH.AMP_TH (R281). -/
abbrev TLY_TH_AMP_TH : Fld := ⟨0x5f0c, 0, 11, 0, 0x50, 0⟩
/-- TLY_TH.PH_TH (R281). -/
abbrev TLY_TH_PH_TH : Fld := ⟨0x5f0c, 0, 25, 16, 0xc, 0⟩
/-- TLY_STAT.SCANNING (R278). -/
abbrev TLY_STAT_SCANNING : Fld := ⟨0x5f10, 0, 0, 0, 0, 0⟩
/-- TLY_STAT.SLOT_ROD (R278). -/
abbrev TLY_STAT_SLOT_ROD : Fld := ⟨0x5f10, 0, 5, 1, 0x1f, 0⟩
/-- TLY_WAKE.WAKE (R286). -/
abbrev TLY_WAKE_WAKE : Fld := ⟨0x5f14, 0, 23, 0, 0, 0⟩
/-- TLY_DISARM.DISARM (R289). -/
abbrev TLY_DISARM_DISARM : Fld := ⟨0x5f18, 0, 23, 0, 0, 0⟩
/-- TLY_CNT_SCAN.COUNT (R276). -/
abbrev TLY_CNT_SCAN_COUNT : Fld := ⟨0x5f1c, 0, 31, 0, 0, 0⟩
/-- TLY_CNT_SKIP.COUNT (R276). -/
abbrev TLY_CNT_SKIP_COUNT : Fld := ⟨0x5f20, 0, 31, 0, 0, 0⟩
/-- TLY_BASE.AMP (R282). -/
abbrev TLY_BASE_AMP : Fld := ⟨0x5f40, 4, 11, 0, 0, 0⟩
/-- TLY_BASE.VALID (R282). -/
abbrev TLY_BASE_VALID : Fld := ⟨0x5f40, 4, 15, 15, 0, 0⟩
/-- TLY_BASE.PH (R282). -/
abbrev TLY_BASE_PH : Fld := ⟨0x5f40, 4, 25, 16, 0, 0⟩
/-- TLY_LAST.AMP (R280). -/
abbrev TLY_LAST_AMP : Fld := ⟨0x5fa0, 4, 11, 0, 0, 0⟩
/-- TLY_LAST.CNT (R280). -/
abbrev TLY_LAST_CNT : Fld := ⟨0x5fa0, 4, 15, 12, 0, 0⟩
/-- TLY_LAST.PH (R280). -/
abbrev TLY_LAST_PH : Fld := ⟨0x5fa0, 4, 25, 16, 0, 0⟩
/-- TLY_LAST.OVER (R280). -/
abbrev TLY_LAST_OVER : Fld := ⟨0x5fa0, 4, 31, 31, 0, 0⟩
/-! ### spec/03_rods.md -/
/-- ROD_CTL.CNT_CLR (R170). -/
abbrev ROD_CTL_CNT_CLR : Fld := ⟨0x6000, 0x100, 0, 0, 0, 0⟩
/-- ROD_TX.POWER (R115). -/
abbrev ROD_TX_POWER : Fld := ⟨0x6004, 0x100, 3, 0, 0, 0⟩
/-- ROD_TX.EDGE_FALL (R115). -/
abbrev ROD_TX_EDGE_FALL : Fld := ⟨0x6004, 0x100, 11, 8, 1, 0⟩
/-- ROD_TX.EDGE_RISE (R115). -/
abbrev ROD_TX_EDGE_RISE : Fld := ⟨0x6004, 0x100, 15, 12, 1, 0⟩
/-- ROD_TX.RAMP (R115). -/
abbrev ROD_TX_RAMP : Fld := ⟨0x6004, 0x100, 23, 16, 0x14, 0⟩
/-- ROD_PHASE.OFFSET (R118). -/
abbrev ROD_PHASE_OFFSET : Fld := ⟨0x6008, 0x100, 5, 0, 0, 0⟩
/-- ROD_RX.GAIN (R122). -/
abbrev ROD_RX_GAIN : Fld := ⟨0x600c, 0x100, 2, 0, 3, 0⟩
/-- ROD_RX.AGC (R122). -/
abbrev ROD_RX_AGC : Fld := ⟨0x600c, 0x100, 3, 3, 1, 0⟩
/-- ROD_RX.THRESH (R122). -/
abbrev ROD_RX_THRESH : Fld := ⟨0x600c, 0x100, 11, 8, 6, 0⟩
/-- ROD_FIELD.GUARD (R112). -/
abbrev ROD_FIELD_GUARD : Fld := ⟨0x6010, 0x100, 15, 0, 0x1388, 0⟩
/-- ROD_FIELD.OFF_MIN (R112). -/
abbrev ROD_FIELD_OFF_MIN : Fld := ⟨0x6010, 0x100, 31, 16, 0x13ec, 0⟩
/-- ROD_IDLE.IDLE_OFF (R113). -/
abbrev ROD_IDLE_IDLE_OFF : Fld := ⟨0x6014, 0x100, 15, 0, 0, 0⟩
/-- ROD_PMODE.PROTO (R126). -/
abbrev ROD_PMODE_PROTO : Fld := ⟨0x6040, 0x10, 1, 0, 0, 0⟩
/-- ROD_PMODE.L4 (R126). -/
abbrev ROD_PMODE_L4 : Fld := ⟨0x6040, 0x10, 2, 2, 0, 0⟩
/-- ROD_PMODE.TX_RATE (R126). -/
abbrev ROD_PMODE_TX_RATE : Fld := ⟨0x6040, 0x10, 5, 4, 0, 0⟩
/-- ROD_PMODE.RX_RATE (R126). -/
abbrev ROD_PMODE_RX_RATE : Fld := ⟨0x6040, 0x10, 7, 6, 1, 0⟩
/-- ROD_PMODE.SUBC (R126). -/
abbrev ROD_PMODE_SUBC : Fld := ⟨0x6040, 0x10, 8, 8, 0, 0⟩
/-- ROD_PMODE.DEPTH (R126). -/
abbrev ROD_PMODE_DEPTH : Fld := ⟨0x6040, 0x10, 15, 9, 0xa, 0⟩
/-- ROD_PMODE.PAUSE (R126). -/
abbrev ROD_PMODE_PAUSE : Fld := ⟨0x6040, 0x10, 23, 16, 0, 0⟩
/-- ROD_PFDT.FDT_MIN (R134). -/
abbrev ROD_PFDT_FDT_MIN : Fld := ⟨0x6044, 0x10, 15, 0, 0, 0⟩
/-- ROD_PFDT.NEXT_MIN (R134). -/
abbrev ROD_PFDT_NEXT_MIN : Fld := ⟨0x6044, 0x10, 31, 16, 0, 0⟩
/-- ROD_PWAIT.RESP_WAIT (R134). -/
abbrev ROD_PWAIT_RESP_WAIT : Fld := ⟨0x6048, 0x10, 27, 0, 0, 0⟩
/-- ROD_STAT.CARRIER (R109). -/
abbrev ROD_STAT_CARRIER : Fld := ⟨0x6080, 0x100, 1, 0, 0, 0⟩
/-- ROD_STAT.ZROLE (R109). -/
abbrev ROD_STAT_ZROLE : Fld := ⟨0x6080, 0x100, 3, 2, 0, 0⟩
/-- ROD_STAT.PLAN (R109). -/
abbrev ROD_STAT_PLAN : Fld := ⟨0x6080, 0x100, 4, 4, 0, 0⟩
/-- ROD_STAT.IN_FLIGHT (R109). -/
abbrev ROD_STAT_IN_FLIGHT : Fld := ⟨0x6080, 0x100, 12, 8, 0, 0⟩
/-- ROD_STAT.GAIN_USED (R109). -/
abbrev ROD_STAT_GAIN_USED : Fld := ⟨0x6080, 0x100, 18, 16, 0, 0⟩
/-- ROD_ERR.REG_LIM (R125). -/
abbrev ROD_ERR_REG_LIM : Fld := ⟨0x6084, 0x100, 0, 0, 0, 0⟩
/-- ROD_ERR.PROFILE (R125). -/
abbrev ROD_ERR_PROFILE : Fld := ⟨0x6084, 0x100, 1, 1, 0, 0⟩
/-- ROD_ERR.CLIP (R125). -/
abbrev ROD_ERR_CLIP : Fld := ⟨0x6084, 0x100, 2, 2, 0, 0⟩
/-- ROD_ERR.LATE_SOF (R125). -/
abbrev ROD_ERR_LATE_SOF : Fld := ⟨0x6084, 0x100, 3, 3, 0, 0⟩
/-- ROD_ERR.EARLY_SOF (R125). -/
abbrev ROD_ERR_EARLY_SOF : Fld := ⟨0x6084, 0x100, 4, 4, 0, 0⟩
/-- ROD_MEAS.AMP (R159). -/
abbrev ROD_MEAS_AMP : Fld := ⟨0x6088, 0x100, 15, 0, 0, 0⟩
/-- ROD_MEAS.PHASE (R159). -/
abbrev ROD_MEAS_PHASE : Fld := ⟨0x6088, 0x100, 25, 16, 0, 0⟩
/-- ROD_CNT_TX.COUNT (R170). -/
abbrev ROD_CNT_TX_COUNT : Fld := ⟨0x6090, 0x100, 31, 0, 0, 0⟩
/-- ROD_CNT_OK.COUNT (R170). -/
abbrev ROD_CNT_OK_COUNT : Fld := ⟨0x6094, 0x100, 31, 0, 0, 0⟩
/-- ROD_CNT_CRC.COUNT (R170). -/
abbrev ROD_CNT_CRC_COUNT : Fld := ⟨0x6098, 0x100, 31, 0, 0, 0⟩
/-- ROD_CNT_NORESP.COUNT (R170). -/
abbrev ROD_CNT_NORESP_COUNT : Fld := ⟨0x609c, 0x100, 31, 0, 0, 0⟩
/-- ROD_CNT_COLL.COUNT (R170). -/
abbrev ROD_CNT_COLL_COUNT : Fld := ⟨0x60a0, 0x100, 31, 0, 0, 0⟩
/-- ROD_CNT_LATE.COUNT (R170). -/
abbrev ROD_CNT_LATE_COUNT : Fld := ⟨0x60a4, 0x100, 31, 0, 0, 0⟩
/-! ### spec/05_inventory_and_harvest.md -/
/-- ROD_PLAN_STAT.STEP (R225). -/
abbrev ROD_PLAN_STAT_STEP : Fld := ⟨0x60c0, 0x100, 9, 0, 0, 0⟩
/-- ROD_PLAN_STAT.STACK_OVF (R225). -/
abbrev ROD_PLAN_STAT_STACK_OVF : Fld := ⟨0x60c0, 0x100, 11, 11, 0, 0⟩
/-- ROD_PLAN_STAT.WAIT_ENTRY (R225). -/
abbrev ROD_PLAN_STAT_WAIT_ENTRY : Fld := ⟨0x60c0, 0x100, 12, 12, 0, 0⟩
/-- ROD_PLAN_STAT.PASSES (R225). -/
abbrev ROD_PLAN_STAT_PASSES : Fld := ⟨0x60c0, 0x100, 31, 16, 0, 0⟩
/-- ROD_PLAN_FAULT.STEP (R218). -/
abbrev ROD_PLAN_FAULT_STEP : Fld := ⟨0x60c4, 0x100, 9, 0, 0, 0⟩
/-- ROD_PLAN_FAULT.REASON (R218). -/
abbrev ROD_PLAN_FAULT_REASON : Fld := ⟨0x60c4, 0x100, 14, 12, 0, 0⟩
/-- ROD_PLAN_FAULT.FAULT (R218). -/
abbrev ROD_PLAN_FAULT_FAULT : Fld := ⟨0x60c4, 0x100, 31, 31, 0, 0⟩
/-- ROD_SPEC_STAT.HELD (R240). -/
abbrev ROD_SPEC_STAT_HELD : Fld := ⟨0x60c8, 0x100, 2, 0, 0, 0⟩
/-- ROD_SPEC_STAT.COMPLETE (R240). -/
abbrev ROD_SPEC_STAT_COMPLETE : Fld := ⟨0x60c8, 0x100, 6, 4, 0, 0⟩
/-- ROD_SPEC_CTL.CLR (R268). -/
abbrev ROD_SPEC_CTL_CLR : Fld := ⟨0x60cc, 0x100, 0, 0, 0, 0⟩
/-- ROD_SPEC_CARRIED.COUNT (R268). -/
abbrev ROD_SPEC_CARRIED_COUNT : Fld := ⟨0x60d0, 0x100, 31, 0, 0, 0⟩
/-- ROD_SPEC_DISCARD_FILTER.COUNT (R268). -/
abbrev ROD_SPEC_DISCARD_FILTER_COUNT : Fld := ⟨0x60d4, 0x100, 31, 0, 0, 0⟩
/-- ROD_SPEC_DISCARD_DUP.COUNT (R268). -/
abbrev ROD_SPEC_DISCARD_DUP_COUNT : Fld := ⟨0x60d8, 0x100, 31, 0, 0, 0⟩
/-- ROD_SPEC_DISCARD_CRC.COUNT (R268). -/
abbrev ROD_SPEC_DISCARD_CRC_COUNT : Fld := ⟨0x60dc, 0x100, 31, 0, 0, 0⟩
/-- ROD_SPEC_DISCARD_ROUND_END.COUNT (R268). -/
abbrev ROD_SPEC_DISCARD_ROUND_END_COUNT : Fld := ⟨0x60e0, 0x100, 31, 0, 0, 0⟩
/-- ROD_SPEC_DISCARD_FLUSH.COUNT (R268). -/
abbrev ROD_SPEC_DISCARD_FLUSH_COUNT : Fld := ⟨0x60e4, 0x100, 31, 0, 0, 0⟩
/-- ROD_PREP_SENT.COUNT (R268). -/
abbrev ROD_PREP_SENT_COUNT : Fld := ⟨0x60e8, 0x100, 31, 0, 0, 0⟩
/-- ROD_PREP_DISCARD.COUNT (R268). -/
abbrev ROD_PREP_DISCARD_COUNT : Fld := ⟨0x60ec, 0x100, 31, 0, 0, 0⟩
/-! ### spec/08_access_sequencer.md -/
/-- ACC_CFG.RETRY (R345). -/
abbrev ACC_CFG_RETRY : Fld := ⟨0x8000, 0, 1, 0, 1, 0⟩
/-- ACC_CFG.END_EN (R345). -/
abbrev ACC_CFG_END_EN : Fld := ⟨0x8000, 0, 2, 2, 1, 0⟩
/-- ACC_CFG.REPOLL_MAX (R345). -/
abbrev ACC_CFG_REPOLL_MAX : Fld := ⟨0x8000, 0, 8, 4, 8, 0⟩
/-- ACC_CFG.PLOCK (R345). -/
abbrev ACC_CFG_PLOCK : Fld := ⟨0x8000, 0, 16, 16, 0, 0⟩
/-- ACC_CFG.SKIP_RESTORE (R345). -/
abbrev ACC_CFG_SKIP_RESTORE : Fld := ⟨0x8000, 0, 17, 17, 0, 0⟩
/-- ACC_STAT.BUSY (R342). -/
abbrev ACC_STAT_BUSY : Fld := ⟨0x8004, 0, 0, 0, 0, 0⟩
/-- ACC_STAT.LOCK (R342). -/
abbrev ACC_STAT_LOCK : Fld := ⟨0x8004, 0, 2, 1, 0, 0⟩
/-- ACC_STAT.PHASE (R342). -/
abbrev ACC_STAT_PHASE : Fld := ⟨0x8004, 0, 6, 3, 0, 0⟩
/-- ACC_STAT.RESTORING (R342). -/
abbrev ACC_STAT_RESTORING : Fld := ⟨0x8004, 0, 7, 7, 0, 0⟩
/-- ACC_STAT.NEED_RESTORE (R342). -/
abbrev ACC_STAT_NEED_RESTORE : Fld := ⟨0x8004, 0, 8, 8, 1, 0⟩
/-- ACC_STAT.PENDING (R342). -/
abbrev ACC_STAT_PENDING : Fld := ⟨0x8004, 0, 19, 16, 0, 0⟩
/-- ACC_ERR.MIRROR (R379). -/
abbrev ACC_ERR_MIRROR : Fld := ⟨0x8008, 0, 0, 0, 0, 0⟩
/-- ACC_ERR.RESTORE (R379). -/
abbrev ACC_ERR_RESTORE : Fld := ⟨0x8008, 0, 1, 1, 0, 0⟩
/-- ACC_ERR.CMD_BUSY (R379). -/
abbrev ACC_ERR_CMD_BUSY : Fld := ⟨0x8008, 0, 2, 2, 0, 0⟩
/-- ACC_REV_EPOCH.EPOCH (R388). -/
abbrev ACC_REV_EPOCH_EPOCH : Fld := ⟨0x800c, 0, 31, 0, 0, 0⟩
/-- ACC_DB_TCAL.TCAL (R369). -/
abbrev ACC_DB_TCAL_TCAL : Fld := ⟨0x8010, 0, 15, 0, 0x3e8, 0⟩
/-- ACC_DB_TCAL.VALID (R369). -/
abbrev ACC_DB_TCAL_VALID : Fld := ⟨0x8010, 0, 31, 31, 0, 0⟩
/-- ACC_MIRROR_CFG.EN (R378). -/
abbrev ACC_MIRROR_CFG_EN : Fld := ⟨0x8014, 0, 0, 0, 0, 0⟩
/-- ACC_MIRROR_CFG.CS (R378). -/
abbrev ACC_MIRROR_CFG_CS : Fld := ⟨0x8014, 0, 2, 1, 0, 0⟩
/-- ACC_MIRROR_CFG.BASE (R378). -/
abbrev ACC_MIRROR_CFG_BASE : Fld := ⟨0x8014, 0, 15, 4, 0, 0⟩
/-- ACC_MIRROR_STAT.BUSY (R379). -/
abbrev ACC_MIRROR_STAT_BUSY : Fld := ⟨0x8018, 0, 0, 0, 0, 0⟩
/-- ACC_MIRROR_STAT.SECTOR (R379). -/
abbrev ACC_MIRROR_STAT_SECTOR : Fld := ⟨0x8018, 0, 1, 1, 0, 0⟩
/-- ACC_MIRROR_GEN.GEN (R379). -/
abbrev ACC_MIRROR_GEN_GEN : Fld := ⟨0x801c, 0, 31, 0, 0, 0⟩
/-- ACC_TFAIL_SEL.TIDX (R377). -/
abbrev ACC_TFAIL_SEL_TIDX : Fld := ⟨0x8020, 0, 9, 0, 0, 0⟩
/-- ACC_TFAIL.COUNT (R377). -/
abbrev ACC_TFAIL_COUNT : Fld := ⟨0x8024, 0, 7, 0, 0, 0⟩
/-- ACC_TFAIL.REM (R377). -/
abbrev ACC_TFAIL_REM : Fld := ⟨0x8024, 0, 28, 16, 0, 0⟩
/-- ACC_CMD_PARAM.DATA (R397). -/
abbrev ACC_CMD_PARAM_DATA : Fld := ⟨0x8040, 4, 31, 0, 0, 0⟩
/-- ACC_CMD.OPCODE (R397). -/
abbrev ACC_CMD_OPCODE : Fld := ⟨0x8070, 0, 7, 0, 0, 0⟩
/-- ACC_CMD_STAT.BUSY (R397). -/
abbrev ACC_CMD_STAT_BUSY : Fld := ⟨0x8074, 0, 0, 0, 0, 0⟩
/-- ACC_CMD_STAT.DONE (R397). -/
abbrev ACC_CMD_STAT_DONE : Fld := ⟨0x8074, 0, 1, 1, 0, 0⟩
/-- ACC_CMD_STAT.STATUS (R397). -/
abbrev ACC_CMD_STAT_STATUS : Fld := ⟨0x8074, 0, 15, 8, 0, 0⟩
/-- ACC_LOCK_CFG.EN (R337). -/
abbrev ACC_LOCK_CFG_EN : Fld := ⟨0x8100, 0x40, 0, 0, 0, 0⟩
/-- ACC_LOCK_CFG.LF_CH (R337). -/
abbrev ACC_LOCK_CFG_LF_CH : Fld := ⟨0x8100, 0x40, 3, 1, 0, 0⟩
/-- ACC_LOCK_CFG.TP_CH (R337). -/
abbrev ACC_LOCK_CFG_TP_CH : Fld := ⟨0x8100, 0x40, 6, 4, 0, 0⟩
/-- ACC_LOCK_CFG.TP (R337). -/
abbrev ACC_LOCK_CFG_TP : Fld := ⟨0x8100, 0x40, 7, 7, 0, 0⟩
/-- ACC_LOCK_CFG.DB (R337). -/
abbrev ACC_LOCK_CFG_DB : Fld := ⟨0x8100, 0x40, 8, 8, 0, 0⟩
/-- ACC_LOCK_CFG.W1 (R337). -/
abbrev ACC_LOCK_CFG_W1 : Fld := ⟨0x8100, 0x40, 23, 16, 0xf, 0⟩
/-- ACC_LOCK_SEG.SEG0 (R311). -/
abbrev ACC_LOCK_SEG_SEG0 : Fld := ⟨0x8104, 0x40, 3, 0, 0xf, 0⟩
/-- ACC_LOCK_SEG.SEG1 (R311). -/
abbrev ACC_LOCK_SEG_SEG1 : Fld := ⟨0x8104, 0x40, 7, 4, 0xf, 0⟩
/-- ACC_LOCK_SEG.SEG2 (R311). -/
abbrev ACC_LOCK_SEG_SEG2 : Fld := ⟨0x8104, 0x40, 11, 8, 0xf, 0⟩
/-- ACC_LOCK_LFMIN.MIN0 (R366). -/
abbrev ACC_LOCK_LFMIN_MIN0 : Fld := ⟨0x8108, 0x40, 7, 0, 0, 0⟩
/-- ACC_LOCK_LFMIN.MIN1 (R366). -/
abbrev ACC_LOCK_LFMIN_MIN1 : Fld := ⟨0x8108, 0x40, 15, 8, 0, 0⟩
/-- ACC_LOCK_LFMIN.MIN2 (R366). -/
abbrev ACC_LOCK_LFMIN_MIN2 : Fld := ⟨0x8108, 0x40, 23, 16, 0, 0⟩
/-- ACC_LOCK_LFMIN.DIFF (R366). -/
abbrev ACC_LOCK_LFMIN_DIFF : Fld := ⟨0x8108, 0x40, 31, 24, 0, 0⟩
/-- ACC_LOCK_LFMAX.MAX0 (R366). -/
abbrev ACC_LOCK_LFMAX_MAX0 : Fld := ⟨0x810c, 0x40, 7, 0, 0xff, 0⟩
/-- ACC_LOCK_LFMAX.MAX1 (R366). -/
abbrev ACC_LOCK_LFMAX_MAX1 : Fld := ⟨0x810c, 0x40, 15, 8, 0xff, 0⟩
/-- ACC_LOCK_LFMAX.MAX2 (R366). -/
abbrev ACC_LOCK_LFMAX_MAX2 : Fld := ⟨0x810c, 0x40, 23, 16, 0xff, 0⟩
/-- ACC_LOCK_LFMAX.DIFF_EN (R366). -/
abbrev ACC_LOCK_LFMAX_DIFF_EN : Fld := ⟨0x810c, 0x40, 24, 24, 0, 0⟩
/-- ACC_LOCK_DB.DB_MAX (R370). -/
abbrev ACC_LOCK_DB_DB_MAX : Fld := ⟨0x8110, 0x40, 5, 0, 0x10, 0⟩
/-- ACC_LOCK_DB.MISS_MAX (R370). -/
abbrev ACC_LOCK_DB_MISS_MAX : Fld := ⟨0x8110, 0x40, 11, 8, 2, 0⟩
/-- ACC_LOCK_DB.WRONG_MAX (R370). -/
abbrev ACC_LOCK_DB_WRONG_MAX : Fld := ⟨0x8110, 0x40, 14, 12, 0, 0⟩
/-- ACC_REL_CFG.PULSE (R383). -/
abbrev ACC_REL_CFG_PULSE : Fld := ⟨0x8114, 0x40, 7, 0, 0x32, 0⟩
/-- ACC_REL_CFG.POL (R383). -/
abbrev ACC_REL_CFG_POL : Fld := ⟨0x8114, 0x40, 8, 8, 0, 0⟩
/-- ACC_REL_CFG.FB_POL (R383). -/
abbrev ACC_REL_CFG_FB_POL : Fld := ⟨0x8114, 0x40, 9, 9, 0, 0⟩
/-- ACC_REL_CFG.IL_WAIT (R383). -/
abbrev ACC_REL_CFG_IL_WAIT : Fld := ⟨0x8114, 0x40, 23, 16, 0, 0⟩
/-- ACC_REL_CFG.FB_TIME (R383). -/
abbrev ACC_REL_CFG_FB_TIME : Fld := ⟨0x8114, 0x40, 31, 24, 0, 0⟩
/-- ACC_LOCK_TRIG.POLL_INT (R338). -/
abbrev ACC_LOCK_TRIG_POLL_INT : Fld := ⟨0x8118, 0x40, 7, 0, 0, 0⟩
/-- ACC_LOCK_TRIG.GPIO (R338). -/
abbrev ACC_LOCK_TRIG_GPIO : Fld := ⟨0x8118, 0x40, 11, 8, 0, 0⟩
/-- ACC_LOCK_TRIG.EDGE (R338). -/
abbrev ACC_LOCK_TRIG_EDGE : Fld := ⟨0x8118, 0x40, 13, 12, 0, 0⟩
/-- ACC_LOCK_CTL.START (R338). -/
abbrev ACC_LOCK_CTL_START : Fld := ⟨0x811c, 0x40, 0, 0, 0, 0⟩
/-- ACC_LOCK_STAT.FAILS (R377). -/
abbrev ACC_LOCK_STAT_FAILS : Fld := ⟨0x8120, 0x40, 7, 0, 0, 0⟩
/-- ACC_LOCK_STAT.PEN (R377). -/
abbrev ACC_LOCK_STAT_PEN : Fld := ⟨0x8120, 0x40, 8, 8, 0, 0⟩
/-- ACC_LOCK_STAT.REL (R377). -/
abbrev ACC_LOCK_STAT_REL : Fld := ⟨0x8120, 0x40, 9, 9, 0, 0⟩
/-- ACC_LOCK_STAT.FB (R377). -/
abbrev ACC_LOCK_STAT_FB : Fld := ⟨0x8120, 0x40, 10, 10, 0, 0⟩
/-- ACC_LOCK_STAT.CLOSED (R377). -/
abbrev ACC_LOCK_STAT_CLOSED : Fld := ⟨0x8120, 0x40, 11, 11, 0, 0⟩
/-- ACC_LOCK_STAT.PENDING (R377). -/
abbrev ACC_LOCK_STAT_PENDING : Fld := ⟨0x8120, 0x40, 12, 12, 0, 0⟩
/-- ACC_LOCK_PEN.REM (R377). -/
abbrev ACC_LOCK_PEN_REM : Fld := ⟨0x8124, 0x40, 12, 0, 0, 0⟩
/-- ACC_LOCK_CNT_GRANT.COUNT (R399). -/
abbrev ACC_LOCK_CNT_GRANT_COUNT : Fld := ⟨0x8128, 0x40, 31, 0, 0, 0⟩
/-- ACC_LOCK_CNT_REFUSE.COUNT (R399). -/
abbrev ACC_LOCK_CNT_REFUSE_COUNT : Fld := ⟨0x812c, 0x40, 31, 0, 0, 0⟩
/-- ACC_LOCK_CNT_SKIP.COUNT (R399). -/
abbrev ACC_LOCK_CNT_SKIP_COUNT : Fld := ⟨0x8130, 0x40, 31, 0, 0, 0⟩
/-! ### spec/07_lorle_link.md -/
/-- TOK_CFG.TRACE (R332). -/
abbrev TOK_CFG_TRACE : Fld := ⟨0x8400, 0, 1, 0, 0, 0⟩
/-- TOK_CFG.CNT_CLR (R332). -/
abbrev TOK_CFG_CNT_CLR : Fld := ⟨0x8400, 0, 31, 31, 0, 0⟩
/-- TOK_WAKE_ID.WAKE_ID (R307). -/
abbrev TOK_WAKE_ID_WAKE_ID : Fld := ⟨0x8404, 0, 15, 0, 0, 0⟩
/-- TOK_DL_CFG.CW (R307). -/
abbrev TOK_DL_CFG_CW : Fld := ⟨0x8408, 0, 4, 0, 0x10, 0⟩
/-- TOK_DL_CFG.CHARGE (R307). -/
abbrev TOK_DL_CFG_CHARGE : Fld := ⟨0x8408, 0, 15, 8, 0x32, 0⟩
/-- TOK_UL_CFG.CHAN (R313). -/
abbrev TOK_UL_CFG_CHAN : Fld := ⟨0x840c, 0, 7, 0, 0, 0⟩
/-- TOK_UL_CFG.ENERGY_TH (R313). -/
abbrev TOK_UL_CFG_ENERGY_TH : Fld := ⟨0x840c, 0, 15, 8, 0xc8, 0⟩
/-- TOK_UL_CFG.SYNC_ERR (R313). -/
abbrev TOK_UL_CFG_SYNC_ERR : Fld := ⟨0x840c, 0, 17, 16, 1, 0⟩
/-- TOK_SYNC.SYNC (R314). -/
abbrev TOK_SYNC_SYNC : Fld := ⟨0x8410, 0, 31, 0, 0x3d5ac96b, 0⟩
/-- TOK_SLOT_CFG.FIRST (R317). -/
abbrev TOK_SLOT_CFG_FIRST : Fld := ⟨0x8414, 0, 11, 0, 0xc8, 0⟩
/-- TOK_SLOT_CFG.SLOT (R317). -/
abbrev TOK_SLOT_CFG_SLOT : Fld := ⟨0x8414, 0, 27, 16, 0x4e2, 0⟩
/-- TOK_DB_CFG.CHAN (R321). -/
abbrev TOK_DB_CFG_CHAN : Fld := ⟨0x8418, 0, 7, 0, 0, 0⟩
/-- TOK_DB_CFG.DELAY (R321). -/
abbrev TOK_DB_CFG_DELAY : Fld := ⟨0x8418, 0, 15, 8, 5, 0⟩
/-- TOK_DB_CFG.SPACING (R321). -/
abbrev TOK_DB_CFG_SPACING : Fld := ⟨0x8418, 0, 23, 16, 0x10, 0⟩
/-- TOK_STAT.BUSY (R320). -/
abbrev TOK_STAT_BUSY : Fld := ⟨0x841c, 0, 0, 0, 0, 0⟩
/-- TOK_STAT.SLOT (R320). -/
abbrev TOK_STAT_SLOT : Fld := ⟨0x841c, 0, 3, 1, 0, 0⟩
/-- TOK_STAT.OUTCOME (R320). -/
abbrev TOK_STAT_OUTCOME : Fld := ⟨0x841c, 0, 5, 4, 0, 0⟩
/-- TOK_CNT_FRAME.COUNT (R335). -/
abbrev TOK_CNT_FRAME_COUNT : Fld := ⟨0x8420, 0, 31, 0, 0, 0⟩
/-- TOK_CNT_COLL.COUNT (R335). -/
abbrev TOK_CNT_COLL_COUNT : Fld := ⟨0x8424, 0, 31, 0, 0, 0⟩
/-- TOK_CNT_STRAY.COUNT (R335). -/
abbrev TOK_CNT_STRAY_COUNT : Fld := ⟨0x8428, 0, 31, 0, 0, 0⟩
/-- TOK_CNT_MISSED.COUNT (R335). -/
abbrev TOK_CNT_MISSED_COUNT : Fld := ⟨0x842c, 0, 31, 0, 0, 0⟩
/-- TOK_CNT_DB_MISS.COUNT (R335). -/
abbrev TOK_CNT_DB_MISS_COUNT : Fld := ⟨0x8430, 0, 31, 0, 0, 0⟩
/-- LF_LIMIT.MAX_IPK (R303). -/
abbrev LF_LIMIT_MAX_IPK : Fld := ⟨0x8800, 0, 7, 0, 0, 0⟩
/-- LF_LIMIT.LOCKED (R303). -/
abbrev LF_LIMIT_LOCKED : Fld := ⟨0x8800, 0, 8, 8, 0, 0⟩
/-- LF_ACTIVE.ACT (R336). -/
abbrev LF_ACTIVE_ACT : Fld := ⟨0x8804, 0, 7, 0, 0, 0⟩
/-- LF_CFG.EN (R304). -/
abbrev LF_CFG_EN : Fld := ⟨0x8840, 0x20, 0, 0, 0, 0⟩
/-- LF_CFG.TP_EN (R304). -/
abbrev LF_CFG_TP_EN : Fld := ⟨0x8840, 0x20, 1, 1, 0, 0⟩
/-- LF_DRV.IPK (R298). -/
abbrev LF_DRV_IPK : Fld := ⟨0x8844, 0x20, 7, 0, 0x32, 0⟩
/-- LF_DRV.TP_IPK (R298). -/
abbrev LF_DRV_TP_IPK : Fld := ⟨0x8844, 0x20, 15, 8, 0x64, 0⟩
/-- LF_DRV.DEAD (R298). -/
abbrev LF_DRV_DEAD : Fld := ⟨0x8844, 0x20, 19, 16, 4, 0⟩
/-- LF_DRV.DAMP (R298). -/
abbrev LF_DRV_DAMP : Fld := ⟨0x8844, 0x20, 21, 20, 0, 0⟩
/-- LF_SNS.RSNS (R298). -/
abbrev LF_SNS_RSNS : Fld := ⟨0x8848, 0x20, 7, 0, 0x64, 0⟩
/-- LF_SNS.IOC (R298). -/
abbrev LF_SNS_IOC : Fld := ⟨0x8848, 0x20, 15, 8, 0xfa, 0⟩
/-- LF_SNS.LM_TH (R298). -/
abbrev LF_SNS_LM_TH : Fld := ⟨0x8848, 0x20, 23, 16, 0xa, 0⟩
/-- LF_STAT.STATE (R302). -/
abbrev LF_STAT_STATE : Fld := ⟨0x884c, 0x20, 1, 0, 0, 0⟩
/-- LF_STAT.W (R302). -/
abbrev LF_STAT_W : Fld := ⟨0x884c, 0x20, 14, 8, 0, 0⟩
/-- LF_ERR.REG_LIM (R302). -/
abbrev LF_ERR_REG_LIM : Fld := ⟨0x8850, 0x20, 0, 0, 0, 0⟩
/-- LF_ERR.OVERCURRENT (R302). -/
abbrev LF_ERR_OVERCURRENT : Fld := ⟨0x8850, 0x20, 1, 1, 0, 0⟩
/-- LF_ERR.OPEN (R302). -/
abbrev LF_ERR_OPEN : Fld := ⟨0x8850, 0x20, 2, 2, 0, 0⟩
/-- LF_MEAS.IPK_MEAS (R336). -/
abbrev LF_MEAS_IPK_MEAS : Fld := ⟨0x8854, 0x20, 11, 0, 0, 0⟩
/-- LF_MEAS.PHASE (R336). -/
abbrev LF_MEAS_PHASE : Fld := ⟨0x8854, 0x20, 23, 16, 0, 0⟩
/-! ### spec/09_uhf_radio.md -/
/-- UHF_CTL.REST (R404). -/
abbrev UHF_CTL_REST : Fld := ⟨0x9000, 0, 1, 0, 0, 0⟩
/-- UHF_CTL.DIV_EN (R404). -/
abbrev UHF_CTL_DIV_EN : Fld := ⟨0x9000, 0, 2, 2, 1, 0⟩
/-- UHF_CTL.REST_CH (R404). -/
abbrev UHF_CTL_REST_CH : Fld := ⟨0x9000, 0, 15, 8, 0, 0⟩
/-- UHF_CTL.CNT_CLR (R404). -/
abbrev UHF_CTL_CNT_CLR : Fld := ⟨0x9000, 0, 31, 31, 0, 0⟩
/-- UHF_TX_CFG.DB_POWER (R414). -/
abbrev UHF_TX_CFG_DB_POWER : Fld := ⟨0x9004, 0, 4, 0, 0x14, 0⟩
/-- UHF_SYNC.SYNC (R427). -/
abbrev UHF_SYNC_SYNC : Fld := ⟨0x9008, 0, 31, 0, 0x9b4f2d63, 0⟩
/-- UHF_CAL_CFG.INTERVAL (R416). -/
abbrev UHF_CAL_CFG_INTERVAL : Fld := ⟨0x900c, 0, 7, 0, 0x3c, 0⟩
/-- UHF_CAL_CFG.TEMP_DELTA (R416). -/
abbrev UHF_CAL_CFG_TEMP_DELTA : Fld := ⟨0x900c, 0, 11, 8, 5, 0⟩
/-- UHF_STAT.STATE (R400). -/
abbrev UHF_STAT_STATE : Fld := ⟨0x9010, 0, 2, 0, 0, 0⟩
/-- UHF_STAT.LOCK (R400). -/
abbrev UHF_STAT_LOCK : Fld := ⟨0x9010, 0, 3, 3, 0, 0⟩
/-- UHF_STAT.OWNER (R400). -/
abbrev UHF_STAT_OWNER : Fld := ⟨0x9010, 0, 5, 4, 0, 0⟩
/-- UHF_STAT.CAL_BUSY (R400). -/
abbrev UHF_STAT_CAL_BUSY : Fld := ⟨0x9010, 0, 6, 6, 0, 0⟩
/-- UHF_STAT.NOREGION (R400). -/
abbrev UHF_STAT_NOREGION : Fld := ⟨0x9010, 0, 7, 7, 0, 0⟩
/-- UHF_STAT.CHAN (R400). -/
abbrev UHF_STAT_CHAN : Fld := ⟨0x9010, 0, 15, 8, 0, 0⟩
/-- UHF_ERR.LOCK_FAIL (R403). -/
abbrev UHF_ERR_LOCK_FAIL : Fld := ⟨0x9014, 0, 0, 0, 0, 0⟩
/-- UHF_ERR.DUTY (R403). -/
abbrev UHF_ERR_DUTY : Fld := ⟨0x9014, 0, 1, 1, 0, 0⟩
/-- UHF_ERR.DB_CLAMP (R403). -/
abbrev UHF_ERR_DB_CLAMP : Fld := ⟨0x9014, 0, 2, 2, 0, 0⟩
/-- UHF_CAL_STAT.VALID (R416). -/
abbrev UHF_CAL_STAT_VALID : Fld := ⟨0x9018, 0, 0, 0, 0, 0⟩
/-- UHF_CAL_STAT.DUE (R416). -/
abbrev UHF_CAL_STAT_DUE : Fld := ⟨0x9018, 0, 1, 1, 0, 0⟩
/-- UHF_CAL_STAT.STEP (R416). -/
abbrev UHF_CAL_STAT_STEP : Fld := ⟨0x9018, 0, 6, 2, 0, 0⟩
/-- UHF_DIV_STAT.LAST (R424). -/
abbrev UHF_DIV_STAT_LAST : Fld := ⟨0x901c, 0, 0, 0, 0, 0⟩
/-- UHF_DIV_RSSI.RSSI_A (R424). -/
abbrev UHF_DIV_RSSI_RSSI_A : Fld := ⟨0x9020, 0, 15, 0, 0x8000, 0⟩
/-- UHF_DIV_RSSI.RSSI_B (R424). -/
abbrev UHF_DIV_RSSI_RSSI_B : Fld := ⟨0x9020, 0, 31, 16, 0x8000, 0⟩
/-- UHF_REG_REGION.REGION (R406). -/
abbrev UHF_REG_REGION_REGION : Fld := ⟨0x9040, 0, 3, 0, 0, 0⟩
/-- UHF_REG_REGION.LOCKED (R406). -/
abbrev UHF_REG_REGION_LOCKED : Fld := ⟨0x9040, 0, 4, 4, 0, 0⟩
/-- UHF_REG_F0.F0 (R407). -/
abbrev UHF_REG_F0_F0 : Fld := ⟨0x9044, 0, 19, 0, 0, 0⟩
/-- UHF_REG_PLAN.SPACING (R407). -/
abbrev UHF_REG_PLAN_SPACING : Fld := ⟨0x9048, 0, 7, 0, 0, 0⟩
/-- UHF_REG_PLAN.N (R407). -/
abbrev UHF_REG_PLAN_N : Fld := ⟨0x9048, 0, 16, 8, 0, 0⟩
/-- UHF_REG_SB.MAX_POWER (R408). -/
abbrev UHF_REG_SB_MAX_POWER : Fld := ⟨0x9050, 4, 4, 0, 0, 0⟩
/-- UHF_REG_SB.DUTY (R408). -/
abbrev UHF_REG_SB_DUTY : Fld := ⟨0x9050, 4, 29, 16, 0, 0⟩
/-- UHF_DUTY_USED.USED (R411). -/
abbrev UHF_DUTY_USED_USED : Fld := ⟨0x9070, 4, 21, 0, 0, 0⟩
/-- UHF_REG_CHMAP.SB (R407). -/
abbrev UHF_REG_CHMAP_SB : Fld := ⟨0x9100, 4, 31, 0, 0, 0⟩
/-- UHF_CNT_TX.COUNT (R433). -/
abbrev UHF_CNT_TX_COUNT : Fld := ⟨0x9180, 0, 31, 0, 0, 0⟩
/-- UHF_CNT_FRAME.COUNT (R433). -/
abbrev UHF_CNT_FRAME_COUNT : Fld := ⟨0x9184, 0, 31, 0, 0, 0⟩
/-- UHF_CNT_REG.COUNT (R433). -/
abbrev UHF_CNT_REG_COUNT : Fld := ⟨0x9188, 0, 31, 0, 0, 0⟩
/-- UHF_CNT_LATE.COUNT (R433). -/
abbrev UHF_CNT_LATE_COUNT : Fld := ⟨0x918c, 0, 31, 0, 0, 0⟩
/-- UHF_CNT_CAL.COUNT (R433). -/
abbrev UHF_CNT_CAL_COUNT : Fld := ⟨0x9190, 0, 31, 0, 0, 0⟩
/-! ### spec/10_key_store_and_cipher.md -/
/-- KEY_CFG.KGEN (R441). -/
abbrev KEY_CFG_KGEN : Fld := ⟨0xa000, 0, 3, 0, 0, 0⟩
/-- KEY_CFG.PLOCK (R441). -/
abbrev KEY_CFG_PLOCK : Fld := ⟨0xa000, 0, 4, 4, 0, 0⟩
/-- KEY_STAT.LOADED (R441). -/
abbrev KEY_STAT_LOADED : Fld := ⟨0xa004, 0, 9, 0, 0, 0⟩
/-- KEY_STAT.ROOT_OK (R441). -/
abbrev KEY_STAT_ROOT_OK : Fld := ⟨0xa004, 0, 16, 16, 0, 0⟩
/-- KEY_STAT.BUSY (R441). -/
abbrev KEY_STAT_BUSY : Fld := ⟨0xa004, 0, 17, 17, 0, 0⟩
/-- KEY_ERR.UNWRAP (R443). -/
abbrev KEY_ERR_UNWRAP : Fld := ⟨0xa008, 0, 0, 0, 0, 0⟩
/-- KEY_ERR.NO_ROOT (R443). -/
abbrev KEY_ERR_NO_ROOT : Fld := ⟨0xa008, 0, 1, 1, 0, 0⟩
/-- KEY_ERR.CMD_BUSY (R443). -/
abbrev KEY_ERR_CMD_BUSY : Fld := ⟨0xa008, 0, 2, 2, 0, 0⟩
/-- KEY_SLOT_SEL.SLOT (R435). -/
abbrev KEY_SLOT_SEL_SLOT : Fld := ⟨0xa010, 0, 8, 0, 0, 0⟩
/-- KEY_SLOT_INFO.LOADED (R435). -/
abbrev KEY_SLOT_INFO_LOADED : Fld := ⟨0xa014, 0, 0, 0, 0, 0⟩
/-- KEY_SLOT_INFO.KLEN (R435). -/
abbrev KEY_SLOT_INFO_KLEN : Fld := ⟨0xa014, 0, 1, 1, 0, 0⟩
/-- KEY_SLOT_INFO.USAGE (R435). -/
abbrev KEY_SLOT_INFO_USAGE : Fld := ⟨0xa014, 0, 4, 2, 0, 0⟩
/-- KEY_SLOT_INFO.GEN (R435). -/
abbrev KEY_SLOT_INFO_GEN : Fld := ⟨0xa014, 0, 31, 16, 0, 0⟩
/-- KEY_TOK_SEL.TIDX (R440). -/
abbrev KEY_TOK_SEL_TIDX : Fld := ⟨0xa018, 0, 9, 0, 0, 0⟩
/-- KEY_TOK_DATA.DATA (R440). -/
abbrev KEY_TOK_DATA_DATA : Fld := ⟨0xa040, 4, 31, 0, 0, 0⟩
/-- KEY_CMD_PARAM.DATA (R445). -/
abbrev KEY_CMD_PARAM_DATA : Fld := ⟨0xa080, 4, 31, 0, 0, 0⟩
/-- KEY_CMD.OPCODE (R445). -/
abbrev KEY_CMD_OPCODE : Fld := ⟨0xa0b0, 0, 7, 0, 0, 0⟩
/-- KEY_CMD_STAT.BUSY (R445). -/
abbrev KEY_CMD_STAT_BUSY : Fld := ⟨0xa0b4, 0, 0, 0, 0, 0⟩
/-- KEY_CMD_STAT.DONE (R445). -/
abbrev KEY_CMD_STAT_DONE : Fld := ⟨0xa0b4, 0, 1, 1, 0, 0⟩
/-- KEY_CMD_STAT.STATUS (R445). -/
abbrev KEY_CMD_STAT_STATUS : Fld := ⟨0xa0b4, 0, 15, 8, 0, 0⟩
/-- KEY_CNT_IMPORT.COUNT (R463). -/
abbrev KEY_CNT_IMPORT_COUNT : Fld := ⟨0xa0c0, 0, 31, 0, 0, 0⟩
/-- KEY_CNT_ERASE.COUNT (R463). -/
abbrev KEY_CNT_ERASE_COUNT : Fld := ⟨0xa0c4, 0, 31, 0, 0, 0⟩
/-- KEY_CNT_UNWRAP_FAIL.COUNT (R463). -/
abbrev KEY_CNT_UNWRAP_FAIL_COUNT : Fld := ⟨0xa0c8, 0, 31, 0, 0, 0⟩
/-- CPH_STAT.QUEUED (R448). -/
abbrev CPH_STAT_QUEUED : Fld := ⟨0xa400, 0, 6, 0, 0, 0⟩
/-- CPH_STAT.BUSY (R448). -/
abbrev CPH_STAT_BUSY : Fld := ⟨0xa400, 0, 11, 8, 0, 0⟩
/-- CPH_STAT.PRELOAD (R448). -/
abbrev CPH_STAT_PRELOAD : Fld := ⟨0xa400, 0, 12, 12, 0, 0⟩
/-- CPH_CNT_BLOCKS.COUNT (R463). -/
abbrev CPH_CNT_BLOCKS_COUNT : Fld := ⟨0xa408, 0, 31, 0, 0, 0⟩
/-- CPH_CNT_REVOKED.COUNT (R463). -/
abbrev CPH_CNT_REVOKED_COUNT : Fld := ⟨0xa40c, 0, 31, 0, 0, 0⟩
/-- CPH_RNG_CTL.RESTART (R458). -/
abbrev CPH_RNG_CTL_RESTART : Fld := ⟨0xa440, 0, 0, 0, 0, 0⟩
/-- CPH_RNG_CTL.PR (R458). -/
abbrev CPH_RNG_CTL_PR : Fld := ⟨0xa440, 0, 1, 1, 0, 0⟩
/-- CPH_RNG_CTL.RESEED_INT (R458). -/
abbrev CPH_RNG_CTL_RESEED_INT : Fld := ⟨0xa440, 0, 31, 16, 0x400, 0⟩
/-- CPH_RNG_STAT.READY (R458). -/
abbrev CPH_RNG_STAT_READY : Fld := ⟨0xa444, 0, 0, 0, 0, 0⟩
/-- CPH_RNG_STAT.FAIL (R458). -/
abbrev CPH_RNG_STAT_FAIL : Fld := ⟨0xa444, 0, 1, 1, 0, 0⟩
/-- CPH_RNG_STAT.RCT (R458). -/
abbrev CPH_RNG_STAT_RCT : Fld := ⟨0xa444, 0, 2, 2, 0, 0⟩
/-- CPH_RNG_STAT.APT (R458). -/
abbrev CPH_RNG_STAT_APT : Fld := ⟨0xa444, 0, 3, 3, 0, 0⟩
/-- CPH_RNG_STAT.SINCE (R458). -/
abbrev CPH_RNG_STAT_SINCE : Fld := ⟨0xa444, 0, 31, 16, 0, 0⟩
/-- CPH_RNG_CNT_GEN.COUNT (R463). -/
abbrev CPH_RNG_CNT_GEN_COUNT : Fld := ⟨0xa448, 0, 31, 0, 0, 0⟩
/-- CPH_RNG_CNT_RESEED.COUNT (R463). -/
abbrev CPH_RNG_CNT_RESEED_COUNT : Fld := ⟨0xa44c, 0, 31, 0, 0, 0⟩
/-! ### spec/11_record_memory.md -/
/-- BRD_CFG.SEAL_AGE (R487). -/
abbrev BRD_CFG_SEAL_AGE : Fld := ⟨0xb000, 0, 15, 0, 0x1f4, 0⟩
/-- BRD_CFG.LOW (R487). -/
abbrev BRD_CFG_LOW : Fld := ⟨0xb000, 0, 22, 16, 0x10, 0⟩
/-- BRD_CTL.SEAL (R487). -/
abbrev BRD_CTL_SEAL : Fld := ⟨0xb004, 0, 0, 0, 0, 0⟩
/-- BRD_STAT.FREE (R491). -/
abbrev BRD_STAT_FREE : Fld := ⟨0xb008, 0, 6, 0, 0x40, 0⟩
/-- BRD_STAT.OPEN (R491). -/
abbrev BRD_STAT_OPEN : Fld := ⟨0xb008, 0, 13, 8, 0, 0⟩
/-- BRD_STAT.OPEN_VALID (R491). -/
abbrev BRD_STAT_OPEN_VALID : Fld := ⟨0xb008, 0, 14, 14, 0, 0⟩
/-- BRD_STAT.OUT (R491). -/
abbrev BRD_STAT_OUT : Fld := ⟨0xb008, 0, 22, 16, 0, 0⟩
/-- BRD_STAT.FULL (R491). -/
abbrev BRD_STAT_FULL : Fld := ⟨0xb008, 0, 23, 23, 0, 0⟩
/-- BRD_STAT.VERIFYING (R491). -/
abbrev BRD_STAT_VERIFYING : Fld := ⟨0xb008, 0, 24, 24, 0, 0⟩
/-- BRD_ERR.TILE_FAIL (R490). -/
abbrev BRD_ERR_TILE_FAIL : Fld := ⟨0xb00c, 0, 0, 0, 0, 0⟩
/-- BRD_ERR.PLAN_FAIL (R490). -/
abbrev BRD_ERR_PLAN_FAIL : Fld := ⟨0xb00c, 0, 1, 1, 0, 0⟩
/-- BRD_ERR.PLAN_BUSY (R490). -/
abbrev BRD_ERR_PLAN_BUSY : Fld := ⟨0xb00c, 0, 2, 2, 0, 0⟩
/-- BRD_ERR.PLAN_SEQ (R490). -/
abbrev BRD_ERR_PLAN_SEQ : Fld := ⟨0xb00c, 0, 3, 3, 0, 0⟩
/-- BRD_TILE_SEL.TILE (R485). -/
abbrev BRD_TILE_SEL_TILE : Fld := ⟨0xb010, 0, 5, 0, 0, 0⟩
/-- BRD_TILE_INFO.STATE (R485). -/
abbrev BRD_TILE_INFO_STATE : Fld := ⟨0xb014, 0, 1, 0, 0, 0⟩
/-- BRD_TILE_INFO.UNITS (R485). -/
abbrev BRD_TILE_INFO_UNITS : Fld := ⟨0xb014, 0, 12, 2, 0, 0⟩
/-- BRD_TILE_INFO.RECORDS (R485). -/
abbrev BRD_TILE_INFO_RECORDS : Fld := ⟨0xb014, 0, 22, 13, 0, 0⟩
/-- BRD_TILE_CRC.CRC (R487). -/
abbrev BRD_TILE_CRC_CRC : Fld := ⟨0xb018, 0, 31, 0, 0, 0⟩
/-- BRD_TILE_FIRST.SEQ (R485). -/
abbrev BRD_TILE_FIRST_SEQ : Fld := ⟨0xb01c, 0, 31, 0, 0, 0⟩
/-- BRD_TILE_LAST.SEQ (R485). -/
abbrev BRD_TILE_LAST_SEQ : Fld := ⟨0xb020, 0, 31, 0, 0, 0⟩
/-- BRD_TILE_CTL.TILE (R490). -/
abbrev BRD_TILE_CTL_TILE : Fld := ⟨0xb024, 0, 5, 0, 0, 0⟩
/-- BRD_TILE_CTL.RESTORE (R490). -/
abbrev BRD_TILE_CTL_RESTORE : Fld := ⟨0xb024, 0, 8, 8, 0, 0⟩
/-- BRD_PLAN_CTL.TILE (R496). -/
abbrev BRD_PLAN_CTL_TILE : Fld := ⟨0xb040, 0, 3, 0, 0, 0⟩
/-- BRD_PLAN_CTL.OPEN (R496). -/
abbrev BRD_PLAN_CTL_OPEN : Fld := ⟨0xb040, 0, 8, 8, 0, 0⟩
/-- BRD_PLAN_CTL.CLOSE (R496). -/
abbrev BRD_PLAN_CTL_CLOSE : Fld := ⟨0xb040, 0, 9, 9, 0, 0⟩
/-- BRD_PLAN_ADDR.WORD (R496). -/
abbrev BRD_PLAN_ADDR_WORD : Fld := ⟨0xb044, 0, 11, 0, 0, 0⟩
/-- BRD_PLAN_DATA.DATA (R496). -/
abbrev BRD_PLAN_DATA_DATA : Fld := ⟨0xb048, 0, 31, 0, 0, 0⟩
/-- BRD_PLAN_CRC.CRC (R493). -/
abbrev BRD_PLAN_CRC_CRC : Fld := ⟨0xb04c, 0, 31, 0, 0, 0⟩
/-- BRD_PLAN_STAT.STATE (R492). -/
abbrev BRD_PLAN_STAT_STATE : Fld := ⟨0xb050, 0, 31, 0, 0, 0⟩
/-- BRD_UCODE.MASK (R494). -/
abbrev BRD_UCODE_MASK : Fld := ⟨0xb054, 0, 15, 0, 0, 0⟩
/-- BRD_UCODE.PLOCK (R494). -/
abbrev BRD_UCODE_PLOCK : Fld := ⟨0xb054, 0, 16, 16, 0, 0⟩
/-- BRD_CNT_FULL.COUNT (R500). -/
abbrev BRD_CNT_FULL_COUNT : Fld := ⟨0xb080, 0, 31, 0, 0, 0⟩
/-- BRD_CNT_SEAL.COUNT (R500). -/
abbrev BRD_CNT_SEAL_COUNT : Fld := ⟨0xb084, 0, 31, 0, 0, 0⟩
/-- BRD_CNT_VERIFY.COUNT (R500). -/
abbrev BRD_CNT_VERIFY_COUNT : Fld := ⟨0xb088, 0, 31, 0, 0, 0⟩
/-- FIFO_CFG.CREDIT (R477). -/
abbrev FIFO_CFG_CREDIT : Fld := ⟨0xb400, 0x20, 0, 0, 0, 0⟩
/-- FIFO_STAT.FILL (R473). -/
abbrev FIFO_STAT_FILL : Fld := ⟨0xb404, 0x20, 10, 0, 0, 0⟩
/-- FIFO_STAT.BANK (R473). -/
abbrev FIFO_STAT_BANK : Fld := ⟨0xb404, 0x20, 11, 11, 0, 0⟩
/-- FIFO_STAT.OPEN (R473). -/
abbrev FIFO_STAT_OPEN : Fld := ⟨0xb404, 0x20, 12, 12, 0, 0⟩
/-- FIFO_STAT.CREDIT (R473). -/
abbrev FIFO_STAT_CREDIT : Fld := ⟨0xb404, 0x20, 17, 13, 0, 0⟩
/-- FIFO_STAT.OVERRUN (R473). -/
abbrev FIFO_STAT_OVERRUN : Fld := ⟨0xb404, 0x20, 18, 18, 0, 0⟩
/-- FIFO_STAT.MODE_PEND (R473). -/
abbrev FIFO_STAT_MODE_PEND : Fld := ⟨0xb404, 0x20, 19, 19, 0, 0⟩
/-- FIFO_CNT_CORR.COUNT (R500). -/
abbrev FIFO_CNT_CORR_COUNT : Fld := ⟨0xb408, 0x20, 31, 0, 0, 0⟩
/-- FIFO_CNT_UNCORR.COUNT (R500). -/
abbrev FIFO_CNT_UNCORR_COUNT : Fld := ⟨0xb40c, 0x20, 31, 0, 0, 0⟩
/-- FIFO_CNT_DROP.COUNT (R500). -/
abbrev FIFO_CNT_DROP_COUNT : Fld := ⟨0xb410, 0x20, 31, 0, 0, 0⟩
/-! ### spec/12_chaining.md -/
/-- RING_CFG.EN (R503). -/
abbrev RING_CFG_EN : Fld := ⟨0xc000, 0, 0, 0, 0, 0⟩
/-- RING_CFG.TS_EN (R503). -/
abbrev RING_CFG_TS_EN : Fld := ⟨0xc000, 0, 1, 1, 1, 0⟩
/-- RING_CFG.TS_INT (R503). -/
abbrev RING_CFG_TS_INT : Fld := ⟨0xc000, 0, 15, 8, 0xa, 0⟩
/-- RING_CFG.FWD_RUN (R503). -/
abbrev RING_CFG_FWD_RUN : Fld := ⟨0xc000, 0, 19, 16, 8, 0⟩
/-- RING_CFG.RST_EN (R503). -/
abbrev RING_CFG_RST_EN : Fld := ⟨0xc000, 0, 20, 20, 0, 0⟩
/-- RING_LAT_BUDGET.BUDGET (R513). -/
abbrev RING_LAT_BUDGET_BUDGET : Fld := ⟨0xc004, 0, 15, 0, 0x4e20, 0⟩
/-- RING_STAT.UP_LINK (R503). -/
abbrev RING_STAT_UP_LINK : Fld := ⟨0xc008, 0, 1, 0, 0, 0⟩
/-- RING_STAT.DN_LINK (R503). -/
abbrev RING_STAT_DN_LINK : Fld := ⟨0xc008, 0, 3, 2, 0, 0⟩
/-- RING_STAT.JOINED (R503). -/
abbrev RING_STAT_JOINED : Fld := ⟨0xc008, 0, 4, 4, 0, 0⟩
/-- RING_STAT.REVERSED (R503). -/
abbrev RING_STAT_REVERSED : Fld := ⟨0xc008, 0, 5, 5, 0, 0⟩
/-- RING_STAT.CLOSED (R503). -/
abbrev RING_STAT_CLOSED : Fld := ⟨0xc008, 0, 6, 6, 0, 0⟩
/-- RING_STAT.HALT_AIR (R503). -/
abbrev RING_STAT_HALT_AIR : Fld := ⟨0xc008, 0, 7, 7, 0, 0⟩
/-- RING_STAT.HALT_EGRESS (R503). -/
abbrev RING_STAT_HALT_EGRESS : Fld := ⟨0xc008, 0, 8, 8, 0, 0⟩
/-- RING_STAT.XOFF_SENT (R503). -/
abbrev RING_STAT_XOFF_SENT : Fld := ⟨0xc008, 0, 9, 9, 0, 0⟩
/-- RING_STAT.XOFF_HELD (R503). -/
abbrev RING_STAT_XOFF_HELD : Fld := ⟨0xc008, 0, 10, 10, 0, 0⟩
/-- RING_STAT.DEVICES (R503). -/
abbrev RING_STAT_DEVICES : Fld := ⟨0xc008, 0, 23, 16, 0, 0⟩
/-- RING_STAT.HOPS (R503). -/
abbrev RING_STAT_HOPS : Fld := ⟨0xc008, 0, 31, 24, 0, 0⟩
/-- RING_ERR.CRC (R510). -/
abbrev RING_ERR_CRC : Fld := ⟨0xc00c, 0, 0, 0, 0, 0⟩
/-- RING_ERR.ALIGN (R510). -/
abbrev RING_ERR_ALIGN : Fld := ⟨0xc00c, 0, 1, 1, 0, 0⟩
/-- RING_ERR.SERIAL_DUP (R510). -/
abbrev RING_ERR_SERIAL_DUP : Fld := ⟨0xc00c, 0, 2, 2, 0, 0⟩
/-- RING_ERR.WALK_LOST (R510). -/
abbrev RING_ERR_WALK_LOST : Fld := ⟨0xc00c, 0, 3, 3, 0, 0⟩
/-- RING_ERR.TOKEN_CRC (R510). -/
abbrev RING_ERR_TOKEN_CRC : Fld := ⟨0xc00c, 0, 4, 4, 0, 0⟩
/-- RING_DUP.SERIAL (R527). -/
abbrev RING_DUP_SERIAL : Fld := ⟨0xc010, 0, 15, 0, 0, 0⟩
/-- RING_CABLE.UP (R524). -/
abbrev RING_CABLE_UP : Fld := ⟨0xc014, 0, 15, 0, 0, 0⟩
/-- RING_CABLE.DN (R524). -/
abbrev RING_CABLE_DN : Fld := ⟨0xc014, 0, 31, 16, 0, 0⟩
/-- RING_LIST_SEL.IDX (R529). -/
abbrev RING_LIST_SEL_IDX : Fld := ⟨0xc020, 0, 7, 0, 0, 0⟩
/-- RING_LIST.SERIAL (R529). -/
abbrev RING_LIST_SERIAL : Fld := ⟨0xc024, 0, 15, 0, 0, 0⟩
/-- RING_LIST.BEAM (R529). -/
abbrev RING_LIST_BEAM : Fld := ⟨0xc024, 0, 23, 16, 0xff, 0⟩
/-- RING_LIST.EFLAGS (R529). -/
abbrev RING_LIST_EFLAGS : Fld := ⟨0xc024, 0, 31, 24, 0, 0⟩
/-- RING_CNT_FWD.COUNT (R547). -/
abbrev RING_CNT_FWD_COUNT : Fld := ⟨0xc040, 0, 31, 0, 0, 0⟩
/-- RING_CNT_CRC.COUNT (R547). -/
abbrev RING_CNT_CRC_COUNT : Fld := ⟨0xc044, 0, 31, 0, 0, 0⟩
/-- RING_CNT_LATDROP.COUNT (R547). -/
abbrev RING_CNT_LATDROP_COUNT : Fld := ⟨0xc048, 0, 31, 0, 0, 0⟩
/-- RING_CNT_TOKEN.COUNT (R547). -/
abbrev RING_CNT_TOKEN_COUNT : Fld := ⟨0xc04c, 0, 31, 0, 0, 0⟩
/-- RING_CNT_XOFF.COUNT (R547). -/
abbrev RING_CNT_XOFF_COUNT : Fld := ⟨0xc050, 0, 31, 0, 0, 0⟩
/-- BEAM_CFG.RETRY (R545). -/
abbrev BEAM_CFG_RETRY : Fld := ⟨0xc800, 0, 1, 0, 2, 0⟩
/-- BEAM_CFG.AUTO_CLAIM (R545). -/
abbrev BEAM_CFG_AUTO_CLAIM : Fld := ⟨0xc800, 0, 2, 2, 1, 0⟩
/-- BEAM_ADDR.ADDR (R541). -/
abbrev BEAM_ADDR_ADDR : Fld := ⟨0xc804, 0, 5, 0, 0, 0⟩
/-- BEAM_ADDR.VALID (R541). -/
abbrev BEAM_ADDR_VALID : Fld := ⟨0xc804, 0, 6, 6, 0, 0⟩
/-- BEAM_STAT.ADDR_OVR (R538). -/
abbrev BEAM_STAT_ADDR_OVR : Fld := ⟨0xc808, 0, 0, 0, 0, 0⟩
/-- BEAM_STAT.CRC_ERR (R538). -/
abbrev BEAM_STAT_CRC_ERR : Fld := ⟨0xc808, 0, 1, 1, 0, 0⟩
/-- BEAM_STAT.TIMEOUT (R538). -/
abbrev BEAM_STAT_TIMEOUT : Fld := ⟨0xc808, 0, 2, 2, 0, 0⟩
/-- BEAM_STAT.PLAN_WR (R538). -/
abbrev BEAM_STAT_PLAN_WR : Fld := ⟨0xc808, 0, 3, 3, 0, 0⟩
/-- BEAM_STAT.MASTER (R538). -/
abbrev BEAM_STAT_MASTER : Fld := ⟨0xc808, 0, 4, 4, 0, 0⟩
/-- BEAM_STAT.CLAIMING (R538). -/
abbrev BEAM_STAT_CLAIMING : Fld := ⟨0xc808, 0, 5, 5, 0, 0⟩
/-- BEAM_STAT.LAST_TSEQ (R538). -/
abbrev BEAM_STAT_LAST_TSEQ : Fld := ⟨0xc808, 0, 10, 8, 0, 0⟩
/-- BEAM_MAP_LO.MAP0 (R543). -/
abbrev BEAM_MAP_LO_MAP0 : Fld := ⟨0xc80c, 0, 0, 0, 1, 0⟩
/-- BEAM_MAP_LO.MAP (R543). -/
abbrev BEAM_MAP_LO_MAP : Fld := ⟨0xc80c, 0, 31, 1, 0, 0⟩
/-- BEAM_MAP_HI.MAP (R543). -/
abbrev BEAM_MAP_HI_MAP : Fld := ⟨0xc810, 0, 31, 0, 0, 0⟩
/-- BEAM_TILE_REL.TILE (R543). -/
abbrev BEAM_TILE_REL_TILE : Fld := ⟨0xc814, 0, 5, 0, 0, 0⟩
/-- BEAM_TILE_REL.REL (R543). -/
abbrev BEAM_TILE_REL_REL : Fld := ⟨0xc814, 0, 8, 8, 0, 0⟩
/-- BEAM_DSTAT.STATUS (R540). -/
abbrev BEAM_DSTAT_STATUS : Fld := ⟨0xc840, 4, 7, 0, 0, 0⟩
/-- BEAM_DSTAT.DONE (R540). -/
abbrev BEAM_DSTAT_DONE : Fld := ⟨0xc840, 4, 8, 8, 0, 0⟩
/-- BEAM_DSTAT.TSEQ (R540). -/
abbrev BEAM_DSTAT_TSEQ : Fld := ⟨0xc840, 4, 11, 9, 0, 0⟩
/-- BEAM_CNT_FRAME.COUNT (R548). -/
abbrev BEAM_CNT_FRAME_COUNT : Fld := ⟨0xc900, 0, 31, 0, 0, 0⟩
/-- BEAM_CNT_CRC.COUNT (R548). -/
abbrev BEAM_CNT_CRC_COUNT : Fld := ⟨0xc904, 0, 31, 0, 0, 0⟩
/-- BEAM_CNT_RETRY.COUNT (R548). -/
abbrev BEAM_CNT_RETRY_COUNT : Fld := ⟨0xc908, 0, 31, 0, 0, 0⟩
/-! ### spec/13_timers_crc_serial.md -/
/-- TMR_CTL.MODE (R550). -/
abbrev TMR_CTL_MODE : Fld := ⟨0xd000, 0x40, 0, 0, 0, 0⟩
/-- TMR_CTL.CMP_EN (R550). -/
abbrev TMR_CTL_CMP_EN : Fld := ⟨0xd000, 0x40, 1, 1, 1, 0⟩
/-- TMR_CTL.CLK (R550). -/
abbrev TMR_CTL_CLK : Fld := ⟨0xd000, 0x40, 3, 2, 0, 0⟩
/-- TMR_CTL.EXT_PIN (R550). -/
abbrev TMR_CTL_EXT_PIN : Fld := ⟨0xd000, 0x40, 7, 4, 0, 0⟩
/-- TMR_CTL.GATE_SRC (R550). -/
abbrev TMR_CTL_GATE_SRC : Fld := ⟨0xd000, 0x40, 13, 8, 0, 0⟩
/-- TMR_CTL.GATE_LVL (R550). -/
abbrev TMR_CTL_GATE_LVL : Fld := ⟨0xd000, 0x40, 14, 14, 1, 0⟩
/-- TMR_CTL.DBG_FREEZE (R550). -/
abbrev TMR_CTL_DBG_FREEZE : Fld := ⟨0xd000, 0x40, 15, 15, 1, 0⟩
/-- TMR_CTL.CAPT_SRC (R550). -/
abbrev TMR_CTL_CAPT_SRC : Fld := ⟨0xd000, 0x40, 21, 16, 0, 0⟩
/-- TMR_CTL.CAPT_EDGE (R550). -/
abbrev TMR_CTL_CAPT_EDGE : Fld := ⟨0xd000, 0x40, 23, 22, 0, 0⟩
/-- TMR_CTL.IE_MATCH (R550). -/
abbrev TMR_CTL_IE_MATCH : Fld := ⟨0xd000, 0x40, 24, 24, 0, 0⟩
/-- TMR_CTL.IE_OVF (R550). -/
abbrev TMR_CTL_IE_OVF : Fld := ⟨0xd000, 0x40, 25, 25, 0, 0⟩
/-- TMR_CTL.IE_CAPT (R550). -/
abbrev TMR_CTL_IE_CAPT : Fld := ⟨0xd000, 0x40, 26, 26, 0, 0⟩
/-- TMR_CMD.START (R553). -/
abbrev TMR_CMD_START : Fld := ⟨0xd004, 0x40, 0, 0, 0, 0⟩
/-- TMR_CMD.RESUME (R553). -/
abbrev TMR_CMD_RESUME : Fld := ⟨0xd004, 0x40, 1, 1, 0, 0⟩
/-- TMR_CMD.STOP (R553). -/
abbrev TMR_CMD_STOP : Fld := ⟨0xd004, 0x40, 2, 2, 0, 0⟩
/-- TMR_CMD.SWCAPT (R553). -/
abbrev TMR_CMD_SWCAPT : Fld := ⟨0xd004, 0x40, 3, 3, 0, 0⟩
/-- TMR_STAT.RUN (R551). -/
abbrev TMR_STAT_RUN : Fld := ⟨0xd008, 0x40, 0, 0, 0, 0⟩
/-- TMR_STAT.MATCH (R551). -/
abbrev TMR_STAT_MATCH : Fld := ⟨0xd008, 0x40, 1, 1, 0, 0⟩
/-- TMR_STAT.OVF (R551). -/
abbrev TMR_STAT_OVF : Fld := ⟨0xd008, 0x40, 2, 2, 0, 0⟩
/-- TMR_STAT.CAPT (R551). -/
abbrev TMR_STAT_CAPT : Fld := ⟨0xd008, 0x40, 3, 3, 0, 0⟩
/-- TMR_STAT.CAPT_PEND (R551). -/
abbrev TMR_STAT_CAPT_PEND : Fld := ⟨0xd008, 0x40, 4, 4, 0, 0⟩
/-- TMR_STAT.CAPT_LOST (R551). -/
abbrev TMR_STAT_CAPT_LOST : Fld := ⟨0xd008, 0x40, 5, 5, 0, 0⟩
/-- TMR_STAT.UNLATCHED (R551). -/
abbrev TMR_STAT_UNLATCHED : Fld := ⟨0xd008, 0x40, 6, 6, 0, 0⟩
/-- TMR_STAT.CMD_ERR (R551). -/
abbrev TMR_STAT_CMD_ERR : Fld := ⟨0xd008, 0x40, 7, 7, 0, 0⟩
/-- TMR_STAT.GATE (R551). -/
abbrev TMR_STAT_GATE : Fld := ⟨0xd008, 0x40, 8, 8, 0, 0⟩
/-- TMR_STAT.FROZEN (R551). -/
abbrev TMR_STAT_FROZEN : Fld := ⟨0xd008, 0x40, 9, 9, 0, 0⟩
/-- TMR_CNT_LO.VALUE (R554). -/
abbrev TMR_CNT_LO_VALUE : Fld := ⟨0xd010, 0x40, 31, 0, 0, 0⟩
/-- TMR_CNT_HI.VALUE (R554). -/
abbrev TMR_CNT_HI_VALUE : Fld := ⟨0xd014, 0x40, 31, 0, 0, 0⟩
/-- TMR_PER_LO.VALUE (R554). -/
abbrev TMR_PER_LO_VALUE : Fld := ⟨0xd018, 0x40, 31, 0, 0xffffffff, 0⟩
/-- TMR_PER_HI.VALUE (R554). -/
abbrev TMR_PER_HI_VALUE : Fld := ⟨0xd01c, 0x40, 31, 0, 0xffffffff, 0⟩
/-- TMR_CAPT_LO.VALUE (R554). -/
abbrev TMR_CAPT_LO_VALUE : Fld := ⟨0xd020, 0x40, 31, 0, 0, 0⟩
/-- TMR_CAPT_HI.VALUE (R554). -/
abbrev TMR_CAPT_HI_VALUE : Fld := ⟨0xd024, 0x40, 31, 0, 0, 0⟩
/-- CRC_CFG.STREAM (R564). -/
abbrev CRC_CFG_STREAM : Fld := ⟨0xd800, 0x40, 6, 0, 0, 0⟩
/-- CRC_CFG.POLY (R564). -/
abbrev CRC_CFG_POLY : Fld := ⟨0xd800, 0x40, 9, 8, 3, 0⟩
/-- CRC_CFG.MODE (R564). -/
abbrev CRC_CFG_MODE : Fld := ⟨0xd800, 0x40, 10, 10, 0, 0⟩
/-- CRC_CFG.SEED_EN (R564). -/
abbrev CRC_CFG_SEED_EN : Fld := ⟨0xd800, 0x40, 11, 11, 0, 0⟩
/-- CRC_CFG.REC_EN (R564). -/
abbrev CRC_CFG_REC_EN : Fld := ⟨0xd800, 0x40, 12, 12, 0, 0⟩
/-- CRC_SEED.VALUE (R562). -/
abbrev CRC_SEED_VALUE : Fld := ⟨0xd804, 0x40, 31, 0, 0, 0⟩
/-- CRC_MATCH.VALUE (R563). -/
abbrev CRC_MATCH_VALUE : Fld := ⟨0xd808, 0x40, 31, 0, 0, 0⟩
/-- CRC_CTL.START (R563). -/
abbrev CRC_CTL_START : Fld := ⟨0xd80c, 0x40, 0, 0, 0, 0⟩
/-- CRC_CTL.STOP (R563). -/
abbrev CRC_CTL_STOP : Fld := ⟨0xd80c, 0x40, 1, 1, 0, 0⟩
/-- CRC_STAT.ACTIVE (R563). -/
abbrev CRC_STAT_ACTIVE : Fld := ⟨0xd810, 0x40, 0, 0, 0, 0⟩
/-- CRC_STAT.BUSY_REJ (R563). -/
abbrev CRC_STAT_BUSY_REJ : Fld := ⟨0xd810, 0x40, 1, 1, 0, 0⟩
/-- CRC_STAT.DONE (R563). -/
abbrev CRC_STAT_DONE : Fld := ⟨0xd810, 0x40, 2, 2, 0, 0⟩
/-- CRC_RESULT.VALUE (R566). -/
abbrev CRC_RESULT_VALUE : Fld := ⟨0xd814, 0x40, 31, 0, 0, 0⟩
/-- CRC_BYTES.VALUE (R566). -/
abbrev CRC_BYTES_VALUE : Fld := ⟨0xd818, 0x40, 31, 0, 0, 0⟩
/-- CRC_FCNT.VALUE (R566). -/
abbrev CRC_FCNT_VALUE : Fld := ⟨0xd81c, 0x40, 31, 0, 0, 0⟩
/-- CRC_MCNT.VALUE (R566). -/
abbrev CRC_MCNT_VALUE : Fld := ⟨0xd820, 0x40, 31, 0, 0, 0⟩
/-- SPI_STAT.BUSY (R571). -/
abbrev SPI_STAT_BUSY : Fld := ⟨0xe000, 0, 0, 0, 0, 0⟩
/-- SPI_STAT.CS (R571). -/
abbrev SPI_STAT_CS : Fld := ⟨0xe000, 0, 2, 1, 0, 0⟩
/-- SPI_STAT.OWNER (R571). -/
abbrev SPI_STAT_OWNER : Fld := ⟨0xe000, 0, 4, 3, 0, 0⟩
/-- SPI_CS_CFG.DIV (R567). -/
abbrev SPI_CS_CFG_DIV : Fld := ⟨0xe010, 8, 7, 0, 0xc, 0⟩
/-- SPI_CS_CFG.CPOL (R567). -/
abbrev SPI_CS_CFG_CPOL : Fld := ⟨0xe010, 8, 8, 8, 0, 0⟩
/-- SPI_CS_CFG.CPHA (R567). -/
abbrev SPI_CS_CFG_CPHA : Fld := ⟨0xe010, 8, 9, 9, 0, 0⟩
/-- SPI_CS_TIM.SETUP (R569). -/
abbrev SPI_CS_TIM_SETUP : Fld := ⟨0xe014, 8, 7, 0, 2, 0⟩
/-- SPI_CS_TIM.HOLD (R569). -/
abbrev SPI_CS_TIM_HOLD : Fld := ⟨0xe014, 8, 15, 8, 2, 0⟩
/-- SPI_CS_TIM.IDLE (R569). -/
abbrev SPI_CS_TIM_IDLE : Fld := ⟨0xe014, 8, 23, 16, 4, 0⟩
/-- SPI_CNT_FRAME.COUNT (R575). -/
abbrev SPI_CNT_FRAME_COUNT : Fld := ⟨0xe040, 0, 31, 0, 0, 0⟩
/-- SPI_CNT_RETRY.COUNT (R575). -/
abbrev SPI_CNT_RETRY_COUNT : Fld := ⟨0xe044, 0, 31, 0, 0, 0⟩
/-- GPIO_DIR.PINS (R576). -/
abbrev GPIO_DIR_PINS : Fld := ⟨0xe800, 0, 15, 0, 0, 0⟩
/-- GPIO_OUT.PINS (R576). -/
abbrev GPIO_OUT_PINS : Fld := ⟨0xe804, 0, 15, 0, 0, 0⟩
/-- GPIO_IN.PINS (R576). -/
abbrev GPIO_IN_PINS : Fld := ⟨0xe808, 0, 15, 0, 0, 0⟩
/-- GPIO_EVT_EN.PINS (R577). -/
abbrev GPIO_EVT_EN_PINS : Fld := ⟨0xe80c, 0, 15, 0, 0, 0⟩
/-! ### spec/15_test_and_debug.md -/
/-- BIST_CTL.START (R618). -/
abbrev BIST_CTL_START : Fld := ⟨0xf000, 0, 0, 0, 0, 0⟩
/-- BIST_CTL.CANCEL (R618). -/
abbrev BIST_CTL_CANCEL : Fld := ⟨0xf000, 0, 1, 1, 0, 0⟩
/-- BIST_SEL.LMASK (R618). -/
abbrev BIST_SEL_LMASK : Fld := ⟨0xf004, 0, 15, 0, 0, 0⟩
/-- BIST_SEL.MMASK (R618). -/
abbrev BIST_SEL_MMASK : Fld := ⟨0xf004, 0, 23, 16, 0, 0⟩
/-- BIST_STAT.BUSY (R620). -/
abbrev BIST_STAT_BUSY : Fld := ⟨0xf008, 0, 0, 0, 0, 0⟩
/-- BIST_STAT.WAITING (R620). -/
abbrev BIST_STAT_WAITING : Fld := ⟨0xf008, 0, 1, 1, 0, 0⟩
/-- BIST_STAT.DONE (R620). -/
abbrev BIST_STAT_DONE : Fld := ⟨0xf008, 0, 2, 2, 0, 0⟩
/-- BIST_STAT.RESULT (R620). -/
abbrev BIST_STAT_RESULT : Fld := ⟨0xf008, 0, 4, 3, 0, 0⟩
/-- BIST_STAT.SCOPE (R620). -/
abbrev BIST_STAT_SCOPE : Fld := ⟨0xf008, 0, 5, 5, 0, 0⟩
/-- BIST_PASS.L (R617). -/
abbrev BIST_PASS_L : Fld := ⟨0xf00c, 0, 15, 0, 0, 0⟩
/-- BIST_PASS.M (R617). -/
abbrev BIST_PASS_M : Fld := ⟨0xf00c, 0, 23, 16, 0, 0⟩
/-- BIST_NOEXP.L (R617). -/
abbrev BIST_NOEXP_L : Fld := ⟨0xf010, 0, 15, 0, 0, 0⟩
/-- BIST_NOEXP.M (R617). -/
abbrev BIST_NOEXP_M : Fld := ⟨0xf010, 0, 23, 16, 0, 0⟩
/-- BIST_MISR_LO.VALUE (R617). -/
abbrev BIST_MISR_LO_VALUE : Fld := ⟨0xf048, 8, 31, 0, 0, 0⟩
/-- BIST_MISR_HI.VALUE (R617). -/
abbrev BIST_MISR_HI_VALUE : Fld := ⟨0xf04c, 8, 31, 0, 0, 0⟩
/-- BIST_MSIG.VALUE (R617). -/
abbrev BIST_MSIG_VALUE : Fld := ⟨0xf0a0, 4, 31, 0, 0, 0⟩
/-- DBG_CTL.HALT (R630). -/
abbrev DBG_CTL_HALT : Fld := ⟨0xf800, 0, 0, 0, 0, 0⟩
/-- DBG_CTL.RESUME (R630). -/
abbrev DBG_CTL_RESUME : Fld := ⟨0xf800, 0, 1, 1, 0, 0⟩
/-- DBG_CTL.STEP (R630). -/
abbrev DBG_CTL_STEP : Fld := ⟨0xf800, 0, 2, 2, 0, 0⟩
/-- DBG_STAT.HALTED (R630). -/
abbrev DBG_STAT_HALTED : Fld := ⟨0xf804, 0, 0, 0, 0, 0⟩
/-- DBG_STAT.STOPPED (R630). -/
abbrev DBG_STAT_STOPPED : Fld := ⟨0xf804, 0, 1, 1, 0, 0⟩
/-- DBG_STAT.SRC (R630). -/
abbrev DBG_STAT_SRC : Fld := ⟨0xf804, 0, 3, 2, 0, 0⟩
/-- DBG_STAT.LOCKED (R630). -/
abbrev DBG_STAT_LOCKED : Fld := ⟨0xf804, 0, 4, 4, 0, 0⟩
/-- DBG_BP.STEP (R632). -/
abbrev DBG_BP_STEP : Fld := ⟨0xf808, 0, 9, 0, 0, 0⟩
/-- DBG_BP.ROD (R632). -/
abbrev DBG_BP_ROD : Fld := ⟨0xf808, 0, 14, 10, 0, 0⟩
/-- DBG_BP.EN (R632). -/
abbrev DBG_BP_EN : Fld := ⟨0xf808, 0, 15, 15, 0, 0⟩

end Sys2Proof.Machine.F
end

