-- ==== Sys2Proof/Machine/PartsKeys.lean ====
section
/-! DEFINITION. Plain data of the key store, the cipher cores and the random bit generator
(spec/10_key_store_and_cipher.md). -/

namespace Sys2Proof.Machine
open Sys2Proof

/-- A key slot with its attributes (R434, R435). -/
structure KeySlot where
  loaded : Bool
  aes256 : Bool
  usage : Nat
  gen : Nat
  key : List Byte
  deriving DecidableEq, Repr

/-- An EMPTY slot that was never written. -/
def KeySlot.blank : KeySlot := ⟨false, false, 0, 0, []⟩

/-- A token entry (R438). STATE: 0 EMPTY, 1 ENROLLED, 2 REVOKED. -/
structure TokEntry where
  st : Nat
  locks : Nat
  keySlot : Nat
  modes : Nat
  pendValid : Bool
  last : Word
  pend : Word
  enEpoch : Word
  enStamp : DWord
  deriving DecidableEq, Repr

/-- An entry of zeros. -/
def TokEntry.blank : TokEntry := ⟨0, 0, 0, 0, false, 0, 0, 0, 0⟩

/-- An import that waits or runs (R443, R445): a descriptor, or a register command with its parameters. -/
inductive ImportReq
  | desc (txn : Nat)
  | reg (op : Nat) (params : List Byte)
  deriving DecidableEq, Repr

/-- The key store. -/
structure KeysPart where
  slots : Tab KeySlot
  entries : Tab TokEntry
  /-- key-encryption key (R441); empty while none is derived -/
  kek : List Byte
  /-- imports in the order of fetch -/
  imports : List ImportReq
  /-- the first of them is being unwrapped -/
  importing : Bool
  deriving DecidableEq, Repr

/-- The key store after a reset of KEYS (R437). -/
def KeysPart.reset : KeysPart := ⟨[], [], [], [], false⟩

/-- A request running on a core (R447, R450). -/
structure CoreRun where
  txn : Nat
  slot : Nat
  key : List Byte
  /-- blocks done, bytes of input staged so far, bytes of output -/
  done : Nat
  inp : List Byte
  out : List Byte
  /-- it stops at the end of the block in progress with this status (R447, R455) -/
  stop : Option Status
  deriving DecidableEq, Repr

/-- A cipher core: the request it runs, the key it keeps as (slot, GEN), and whether that is a preload (R449). -/
structure Core4 where
  run : Option CoreRun
  kept : Option (Nat × Nat)
  preload : Bool
  deriving DecidableEq, Repr

/-- A command that completes after others (R446, R455): its transaction, none for an ERASE of the register command path
(R445), and the transactions it waits for. -/
structure AfterOthers where
  txn : Option Nat
  others : List Nat
  deriving DecidableEq, Repr

/-- A cipher request that the access sequencer makes (R448): its transaction, the key slot that it names and the blocks that
it outputs. -/
structure SeqJob where
  txn : Nat
  slot : Nat
  blocks : Nat
  deriving DecidableEq, Repr

/-- The cipher cores and their request queue. -/
structure CphPart where
  cores : Vector Core4 4
  /-- queued requests in the order of dispatch: transaction, and its input bytes staged so far (R448) -/
  queue : List (Nat × List Byte)
  waits : List AfterOthers
  /-- requests of the access sequencer that are queued or started -/
  jobs : List SeqJob
  deriving DecidableEq, Repr

/-- Cipher cores after a reset of CRYPTO. -/
def CphPart.reset : CphPart := ⟨Vector.replicate 4 ⟨none, none, false⟩, [], [], []⟩

/-- The generator (R457 to R461): CTR_DRBG with AES-256. -/
structure RngPart where
  key : List Byte
  v : List Byte
  /-- host requests that wait: transactions in the order of fetch -/
  queue : List Nat
  deriving DecidableEq, Repr

/-- The generator after a reset of CRYPTO. -/
def RngPart.reset : RngPart := ⟨[], [], []⟩

end Sys2Proof.Machine
end

