-- ==== Sys2Proof/Machine/PartsLink.lean ====
section
/-! DEFINITION. Plain data of the Lorle link, the access sequencer and the UHF radio (spec/07_lorle_link.md,
spec/08_access_sequencer.md, spec/09_uhf_radio.md). -/

namespace Sys2Proof.Machine
open Sys2Proof

/-! ### LF channels and downlink frames (R295 to R329) -/

/-- Settings in force on an LF channel since the start of its last frame, segment or transponder exchange (R304): LF_CFG,
LF_DRV and LF_SNS, in their units. -/
structure LfDrive where
  en : Bool
  tpEn : Bool
  ipk : Nat
  tpIpk : Nat
  dead : Nat
  damp : Nat
  rsns : Nat
  ioc : Nat
  lmTh : Nat
  deriving DecidableEq, Repr

/-- What a downlink frame is for. -/
inductive DownKind
  /-- untargeted POLL of phase 2 -/
  | poll
  /-- targeted POLL of phase 4 to an index -/
  | repoll (tidx : Nat)
  /-- the targeted POLL after RESYNC_PENDING -/
  | resync (tidx : Nat)
  /-- CHALLENGE of a MUTUAL candidate -/
  | challenge
  | confirm
  | range
  /-- END of phase 6, or of CALIBRATE -/
  | finish
  deriving DecidableEq, Repr

/-- TOK settings in force for a frame (R334), and UHF_CTL.DIV_EN. -/
structure TokSettings where
  wakeId : Nat
  ulChan : Nat
  energyTh : Nat
  syncErr : Nat
  first : Nat
  slot : Nat
  dbChan : Nat
  delay : Nat
  spacing : Nat
  trace : Nat
  cw : Nat
  charge : Nat
  sync : Nat
  divEn : Bool
  deriving DecidableEq, Repr

/-- A downlink frame in progress (R307, R308, R325). -/
structure DownFrame where
  kind : DownKind
  chan : Nat
  code : Nat
  target : Nat
  lock : Nat
  tp : Bool
  burst : Bool
  /-- bytes sent: WAKE_ID, body, CRC -/
  bytes : List Byte
  /-- channel named for each segment, 15 silence (R311) -/
  segs : List Nat
  /-- segment starts and ends so far: 2·i when segment i is next, 2·i + 1 while it runs -/
  segPos : Nat
  /-- segments sent with their channel so far -/
  sent : List Bool
  /-- the channel that drives the present segment -/
  segChan : Option Nat
  /-- transponder charge still runs (R325) -/
  charging : Bool
  tok : TokSettings
  deriving DecidableEq, Repr

/-- Outcomes of slots and transponder answers (R320). -/
inductive LinkOutcome | empty | collision | stray | frame
  deriving DecidableEq, Repr

/-- Value of an outcome (R320). -/
def LinkOutcome.code : LinkOutcome → Nat
  | .empty => 0 | .collision => 1 | .stray => 2 | .frame => 3

/-- A frame received in a slot (R314): body, good CRC, strengths, choice, offset, end. -/
structure UplinkFrame where
  body : List Byte
  good : Bool
  rssiA : Nat
  rssiB : Nat
  aerial : Nat
  ferr : Nat
  stamp : DWord
  deriving DecidableEq, Repr

/-- The slot being received (R317 to R320). -/
structure SlotRun where
  /-- sync detections accepted -/
  syncs : Nat
  frames : List UplinkFrame
  /-- RX was reached when the slot started -/
  rxAtStart : Bool
  /-- RX has been reached -/
  rx : Bool
  /-- an aerial has been chosen for the slot (R422) -/
  chosen : Option (Nat × Nat × Nat)
  /-- timebase at the start of the slot (R317, R332) -/
  start : DWord
  deriving DecidableEq, Repr

/-- What the link does after a frame. -/
inductive ListenState
  | none
  /-- slots: number opened, next to open, the one in progress -/
  | slots (total next : Nat) (cur : Option SlotRun)
  /-- ranging train: it has started, and the radio sent it -/
  | train (started sent : Bool)
  /-- transponder answer window on a channel -/
  | transponder (chan : Nat)
  deriving DecidableEq, Repr

/-- The Lorle link outside its registers. -/
structure LinkPart where
  drives : Vector LfDrive 8
  /-- regulation updates in a row at the highest W with P below T / 4 (R301) -/
  opens : Vector Nat 8
  frame : Option DownFrame
  /-- the last frame sent, whose answers are received -/
  last : Option DownFrame
  listen : ListenState
  /-- timebase at t_E of the last frame (R307, R332) -/
  ended : DWord
  deriving DecidableEq, Repr

/-- The link after CORE reset. -/
def LinkPart.reset : LinkPart := 
  ⟨Vector.replicate 8 ⟨false, false, 50, 100, 4, 0, 100, 250, 10⟩, Vector.replicate 8 0, none, none, .none, 0⟩

/-! ### Access sequencer (R337 to R399) -/

/-- The settings with which a transaction of the sequencer runs: those in force when it was dispatched, or for a trigger
when its exchange starts (R22). -/
structure LockSet where
  lfCh : Nat
  tpCh : Nat
  tp : Bool
  db : Bool
  w1 : Nat
  /-- segment channels, 15 silence -/
  segs : List Nat
  mins : List Nat
  maxs : List Nat
  /-- signed minimum of m_0 − m_1, applied with `diffEn` -/
  diff : Int
  diffEn : Bool
  dbMax : Nat
  missMax : Nat
  wrongMax : Nat
  fbPol : Bool
  pol : Bool
  ilWait : Nat
  fbTime : Nat
  retry : Nat
  endEn : Bool
  repollMax : Nat
  tcal : Nat
  valid : Bool
  dbPower : Nat
  deriving DecidableEq, Repr

/-- A request to the sequencer, in the order in which requests arose (R338, R339). -/
inductive AccReq
  /-- a descriptor of SQ24, with the settings at its dispatch -/
  | desc (txn : Nat) (c : LockSet)
  /-- a command of the register command path with its 48 parameter bytes (R397) -/
  | reg (op : Nat) (params : List Byte) (c : LockSet)
  /-- a START, GPIO or PERIODIC trigger (values of R338) of a lock -/
  | trig (kind lock : Nat)
  deriving DecidableEq, Repr

/-- A candidate answer (R342, R344) with the frame that it answered. -/
structure Candidate where
  body : List Byte
  /-- slot of the answer, 0 for a targeted frame -/
  slot : Nat
  frame : DownFrame
  repoll : Bool
  deriving DecidableEq, Repr

/-- Reasons of an ACCESS record (R391). -/
inductive Reason
  | granted | noToken | collision | unknownToken | revoked | lockNotAllowed | macFail | replay | resyncPending
  | lockPenalty | tokenPenalty | lfOutside | dbFar | dbMissing | dbWrong | relay | noCal | noAnswer | tpRefused
  | interlock | lfFault | aborted | domain | regulatory | late
  deriving DecidableEq, Repr

/-- Value of a reason (R391). -/
def Reason.code : Reason → Nat
  | .granted => 0 | .noToken => 1 | .collision => 2 | .unknownToken => 3 | .revoked => 4 | .lockNotAllowed => 5
  | .macFail => 6 | .replay => 7 | .resyncPending => 8 | .lockPenalty => 9 | .tokenPenalty => 0x0A | .lfOutside => 0x0B
  | .dbFar => 0x0C | .dbMissing => 0x0D | .dbWrong => 0x0E | .relay => 0x0F | .noCal => 0x10 | .noAnswer => 0x11
  | .tpRefused => 0x12 | .interlock => 0x13 | .lfFault => 0x14 | .aborted => 0x15 | .domain => 0x16
  | .regulatory => 0x17 | .late => 0x18

/-- STATUS of a reason (R391). -/
def Reason.status : Reason → Status
  | .granted => .ok | .noToken => .noResponse | .collision => .collision | .unknownToken => .authFail
  | .revoked => .keyRevoked | .lockNotAllowed => .authFail | .macFail => .authFail | .replay => .authFail
  | .resyncPending => .authFail | .lockPenalty => .penalty | .tokenPenalty => .penalty | .lfOutside => .proximityFail
  | .dbFar => .proximityFail | .dbMissing => .proximityFail | .dbWrong => .relaySuspect | .relay => .relaySuspect
  | .noCal => .proximityFail | .noAnswer => .noResponse | .tpRefused => .proximityFail | .interlock => .timeout
  | .lfFault => .noResponse | .aborted => .aborted | .domain => .domainOff | .regulatory => .regulatory | .late => .late

/-- What is known of the candidate whose path is being taken (R360, R390). -/
structure PathRun where
  cand : Candidate
  /-- 0 none yet, 1 ROLL, 2 MUTUAL -/
  mode : Nat
  /-- answer to the CHALLENGE, and that frame -/
  answer : Option (List Byte × DownFrame)
  nonce : List Byte
  challenge : List Byte
  /-- session value S (R356) -/
  session : List Byte
  ctr : Nat
  resync : Bool
  lfOk : Bool
  codes : List Nat
  dbRun : Bool
  dbOk : Bool
  miss : Nat
  wrong : Nat
  excess : Option Int
  /-- verdict of the train, none when it passed or none was run (R370) -/
  verdict : Option Reason
  deriving DecidableEq, Repr

/-- The cipher request that a judgement of the sequencer makes (R31, R448). -/
inductive CipherWait
  /-- not made -/
  | idle
  /-- made: its transaction is queued or started -/
  | waits (txn : Nat)
  /-- it has completed under this key -/
  | done (key : List Byte)
  /-- it has completed KEY_REVOKED (R364) -/
  | refused
  deriving DecidableEq, Repr

/-- Where the running path goes on when the sequencer judges next. -/
inductive JudgeAt
  /-- step 1 of R360 -/
  | start
  /-- the MAC of a ROLL answer (step 6) -/
  | mac
  /-- its plaintext (steps 6 and 7) -/
  | plain
  /-- the session value of an authenticated answer (R356) -/
  | session
  /-- the answer to the CHALLENGE has come (step 9) -/
  | answered
  /-- the CHALLENGE obtained no FRAME answer -/
  | noAnswer (collision : Bool)
  /-- the challenge bits of a train have been drawn (step 11) -/
  | drawn
  /-- CONFIRM has been sent -/
  | confirmed
  /-- the ranging train has been measured -/
  | ranged
  deriving DecidableEq, Repr

/-- A downlink frame that is still to be sent: everything that is not taken from registers at its start. -/
structure FrameAsk where
  kind : DownKind
  chan : Nat
  target : Nat
  tp : Bool
  burst : Bool
  params : List Byte
  deriving DecidableEq, Repr

/-- What the sequencer's running transaction waits for. -/
inductive AccStage
  /-- to be started (R339, R419) -/
  | ready
  /-- a downlink frame, its slots, train or transponder answer -/
  | air
  /-- CANDIDATE_JUDGE -/
  | judge (at_ : JudgeAt)
  /-- a draw from the generator: number of bytes (R358); true: for ranging, false: for a CHALLENGE -/
  | draw (n : Nat) (range : Bool)
  /-- the interlock (R382) -/
  | interlock
  deriving DecidableEq, Repr

/-- The running transaction of the sequencer: an exchange or a CALIBRATE (R342, R372). -/
structure AccRun where
  req : AccReq
  /-- 1 an exchange, 2 CALIBRATE -/
  op : Nat
  lock : Nat
  noTp : Bool
  cfg : LockSet
  stage : AccStage
  /-- phase of R342, 0 before the first -/
  phase : Nat
  /-- candidates not yet taken -/
  cands : List Candidate
  path : Option PathRun
  /-- slots that ended COLLISION in phase 2 -/
  collided : List Nat
  /-- some slot ended COLLISION -/
  anyColl : Bool
  /-- indices that answered with FRAME -/
  answered : List Nat
  /-- indices tried by a re-poll -/
  tried : List Nat
  /-- targeted POLLs sent, retries not counted, and retries of the present targeted frame -/
  polls : Nat
  retries : Nat
  /-- an answer with outcome FRAME came -/
  anyFrame : Bool
  /-- a candidate has been taken -/
  taken : Bool
  /-- a grant has been made -/
  granted : Bool
  /-- a frame has been sent; channel and TP of the last one -/
  sentOn : Option (Nat × Bool)
  /-- counts that rose: the lock, and token indices (R375) -/
  lockRose : Bool
  tokRose : List Nat
  lastReason : Option Reason
  /-- a frame that the debug halt holds back (R631) -/
  heldFrame : Option FrameAsk
  /-- CALIBRATE: TIDX, TRAINS, trains run, τ of usable trains, D_REF, CONFIRM sent, how it ends once its END is over -/
  tidx : Nat
  trains : Nat
  ran : Nat
  taus : List Nat
  dref : Nat
  confirmed : Bool
  calEnd : Option Status
  /-- the cipher request of the judgement that waits -/
  cipher : CipherWait
  deriving DecidableEq, Repr

/-- A failure wait in AON: the AON time in microseconds at which it ends (R375, R377). -/
structure Wait where
  token : Bool
  idx : Nat
  until_ : Nat
  deriving DecidableEq, Repr

/-- An image of the failure counts on its way to the flash (R378, R379): chip select, flash address of its sector, bytes. -/
structure MirrorImage where
  cs : Nat
  addr : Nat
  bytes : List Byte
  deriving DecidableEq, Repr

/-- The mirror of the failure counts (R378 to R380). -/
structure MirrorPart where
  /-- the image being written -/
  image : Option MirrorImage
  /-- changes gathered since -/
  dirty : Bool
  /-- sector of the newest valid image, and its generation -/
  sector : Nat
  gen : Nat
  deriving DecidableEq, Repr

/-- An image is being written. -/
def MirrorPart.writing (m : MirrorPart) : Bool := m.image.isSome

/-- A VERIFY_DECRYPT that runs (R396): its transaction and the ciphertext read into staging; a key slot that it uses has
been erased since its start. -/
structure VdRun where
  txn : Nat
  staged : List Byte
  keyLost : Bool
  /-- its tag has been verified, and its present cipher request -/
  verified : Bool
  cipher : CipherWait
  deriving DecidableEq, Repr

/-- The access sequencer outside its registers. Counts, waits and epoch lie in AON (R377). -/
structure AccPart where
  reqs : List AccReq
  run : Option AccRun
  lockFails : Vector Nat 4
  tokFails : Tab Nat
  waits : List Wait
  epoch : Word
  needRestore : Bool
  restoring : Bool
  mirror : MirrorPart
  /-- the running VERIFY_DECRYPT -/
  vd : Option VdRun
  /-- release pulse active, and the POL with which it was granted; REL_OUT follows them (R383) -/
  pulse : Vector Bool 4
  pulsePol : Vector Bool 4
  /-- the NO_MOVE time of a pulse runs (R384) -/
  moveWait : Vector Bool 4
  /-- debounced REL_FB levels (R384), and whether 8 equal samples have been taken since CORE's reset -/
  fb : Vector Bool 4
  fbKnown : Vector Bool 4
  deriving DecidableEq, Repr

/-- The sequencer after an AON reset (R341). DESIGN CHOICE (log entry 3). -/
def AccPart.reset : AccPart :=
  ⟨[], none, Vector.replicate 4 0, [], [], 0, true, false, ⟨none, false, 0, 0⟩, none, Vector.replicate 4 false,
    Vector.replicate 4 false, Vector.replicate 4 false, Vector.replicate 4 false, Vector.replicate 4 false⟩

/-- A CORE reset keeps what lies in AON (R377, R385), and which sector holds the newest image of the mirror.
DEDUCED (log entry 44). -/
def AccPart.coreReset (a : AccPart) : AccPart :=
  { AccPart.reset with lockFails := a.lockFails, tokFails := a.tokFails, waits := a.waits, epoch := a.epoch,
                       needRestore := a.needRestore, mirror := { a.mirror with image := none, dirty := false } }

/-! ### UHF radio (R400 to R433) -/

/-- What the access sequencer needs of the radio (R420). -/
inductive RadioNeed
  | none
  /-- SYNTH_ON on a channel, then RX -/
  | slots (chan : Nat)
  /-- SYNTH_ON on a channel, then TX -/
  | train (chan : Nat)
  deriving DecidableEq, Repr

/-- A transmission admitted by the ledger and not yet corrected (R412, R413). -/
structure TxCharge where
  band : Nat
  planned : Nat
  /-- buckets that have become current since the charge -/
  age : Nat
  /-- a ranging train -/
  train : Bool
  deriving DecidableEq, Repr

/-- The radio outside its registers. -/
structure UhfPart where
  need : RadioNeed
  charge : Option TxCharge
  /-- TX charged per sub-band in µs, current bucket first; buckets beyond the list are 0 (R411) -/
  ledger : Vector (List Nat) 8
  /-- the running transmission has been admitted -/
  admitted : Bool
  /-- RECEIVE: window open, a frame in reception, records written, one of them OK -/
  window : Bool
  inFrame : Bool
  records : Nat
  anyOk : Bool
  /-- bytes that the running TRANSMIT sends -/
  bytes : List Byte
  /-- a calibration step runs (R417, R418) -/
  calStep : Bool
  /-- RSSI of A measured with DIV_EN = 0 (R424) -/
  divA : Option Nat
  /-- highest FLD_TEMP reading at the end of the last calibration cycle (R416) -/
  lastTemp : Int
  deriving DecidableEq, Repr

/-- The radio after an AON reset. DESIGN CHOICE (log entry 3). -/
def UhfPart.reset : UhfPart := 
  ⟨.none, none, Vector.replicate 8 [], false, false, false, 0, false, [], false, none, 0⟩

/-- A reset of UHF keeps the ledger (R411), and a charge that is still to be corrected (R413). -/
def UhfPart.uhfReset (u : UhfPart) : UhfPart := { UhfPart.reset with ledger := u.ledger, charge := u.charge }

end Sys2Proof.Machine
end

