-- ==== Sys2Proof/Machine/PartsPeri.lean ====
section
/-! DEFINITION. Plain data of the timers, CRC units, serial master, pins, self-test and boundary scan
(spec/13_timers_crc_serial.md, spec/15_test_and_debug.md). -/

namespace Sys2Proof.Machine
open Sys2Proof

/-- A timer (R549, R554, R557, R558). -/
structure Timer where
  count : DWord
  period : DWord
  capt : DWord
  stagedCnt : Word
  stagedPer : Word
  cntLatch : Option Word
  captLatch : Option Word
  /-- a capture pair is open (R558) -/
  pairOpen : Bool
  shadow : DWord
  deriving DecidableEq, Repr

/-- A timer after a CORE reset. -/
def Timer.reset : Timer := ⟨0, 0xFFFFFFFFFFFFFFFF, 0, 0, 0xFFFFFFFF, none, none, false, 0⟩

/-- A CRC unit (R561 to R564). -/
structure CrcUnit where
  /-- shift register, in the reflected form -/
  reg : Word
  bytes : Nat
  /-- START came within the frame in progress, which FRAME mode skips (R563) -/
  skip : Bool
  /-- frames that have ended and whose result is still to be produced -/
  frames : List (List Byte)
  deriving DecidableEq, Repr

/-- A CRC unit after a CORE reset. -/
def CrcUnit.reset : CrcUnit := ⟨0, 0, false, []⟩

/-- The transfer of the serial master (R568, R570, R572). -/
structure SpiRun where
  txn : Nat
  frames : Nat
  busy : Nat
  /-- a frame is on the wire; otherwise a retry wait runs -/
  onWire : Bool
  lastStatus : Nat
  out : List Byte
  /-- it is being cut by FLUSH or ABORT with this status (R574) -/
  cut : Option Status
  /-- the retry wait is over, and the next frame waits for its turn (R571) -/
  due : Bool
  /-- when the retry wait began, in µs -/
  waitFrom : Nat
  deriving DecidableEq, Repr

/-- A frame of the mirror: what it sends before its data, the data sent, and the bytes that it reads (R379, R380). -/
structure SerialFrame where
  head : SpiHead
  out : List Byte
  read : Nat
  deriving DecidableEq, Repr

/-- The wait after a busy status byte of the mirror (R379, R570). -/
inductive PollWait | none | waiting | due
  deriving DecidableEq, Repr

/-- What the serial master has to send for the mirror and for start-up, and whose turn it is (R571). -/
structure SerialPart where
  /-- frames of the mirror that have not ended, the present one first, and their chip select -/
  frames : List SerialFrame
  cs : Nat
  /-- the first of them is on the wire -/
  onWire : Bool
  retry : PollWait
  /-- data read by frames that have ended (R380) -/
  got : List (List Byte)
  /-- a frame of a start-up load is on the wire -/
  load : Bool
  /-- the last frame was the mirror's or start-up's -/
  last : Bool
  deriving DecidableEq, Repr

/-- The serial master after a CORE reset. -/
def SerialPart.reset : SerialPart := ⟨[], 0, false, .none, [], false, false⟩

/-- The general-purpose inputs' gathering window (R577): open, and the pins that changed. -/
structure GpioPart where
  window : Bool
  changed : Nat
  /-- TMR_GATE[7:0] as last seen -/
  tgate : Nat
  deriving DecidableEq, Repr

/-- A self-test run (R618 to R626). -/
structure BistRun where
  txn : Option Nat
  lmask : Nat
  mmask : Nat
  waiting : Bool
  /-- items still to be tested: partition d, or 16 + m for memory m -/
  todo : List Nat
  pass : List Nat
  noexp : List Nat
  /-- signatures, newest first: item, value -/
  sigs : List (Nat × Nat)
  deriving DecidableEq, Repr

/-- A ball with a boundary cell (R599, R628). -/
inductive Ball
  | resetN | perstN | role (k : Fin 2) | intN | beamA | beamB | beamDe | relFb (l : Fin 4)
  | spiSck | spiIo (k : Fin 4) | spiCs (k : Fin 4) | gpio (k : Fin 16) | tmrGate (k : Fin 8)
  /-- observe only (R628) -/
  | relOut (l : Fin 4)
  /-- IEEE 1149.6 lanes: transmit and receive pairs of PCIe, UP and DOWN -/
  | pcieTx (k : Fin 2) | pcieRx (k : Fin 2) | ringUpTx | ringUpRx | ringDnTx | ringDnRx
  | lfGh (k : Fin 8) | lfGl (k : Fin 8)
  deriving DecidableEq, Repr

/-- The chain (R628). Its order is the model's. The balls of the TAP itself have no cells. DESIGN CHOICE (log entry 56). -/
def boundaryChain : List Ball :=
  [.resetN, .perstN] ++ (List.finRange 2).map .role ++ [.intN, .beamA, .beamB, .beamDe] ++ (List.finRange 4).map .relFb
    ++ [.spiSck] ++ (List.finRange 4).map .spiIo ++ (List.finRange 4).map .spiCs ++ (List.finRange 16).map .gpio
    ++ (List.finRange 8).map .tmrGate ++ (List.finRange 4).map .relOut
    ++ (List.finRange 2).map .pcieTx ++ (List.finRange 2).map .pcieRx ++ [.ringUpTx, .ringUpRx, .ringDnTx, .ringDnRx]
    ++ (List.finRange 8).map .lfGh ++ (List.finRange 8).map .lfGl

/-- The cell of the ball only observes (R628). -/
def Ball.observeOnly : Ball → Bool
  | .relOut _ => true
  | _ => false

/-- Self-test, boundary scan and debug outside their registers. -/
structure TestPart where
  bist : Option BistRun
  /-- results of the start-up run, to be reported at step 12 (R625) -/
  bootRun : Option BistRun
  /-- the start-up run has been made -/
  bootDone : Bool
  /-- the start-up run is in progress, and the wake positions of its domains that are still to come ON (R624) -/
  bootOn : Bool
  bootWake : List (List Domain)
  /-- selected TAP instruction (R627) -/
  tap : Nat
  /-- what each boundary cell would drive, in the order of the chain (R628) -/
  cells : List Bool
  deriving DecidableEq, Repr

/-- After power-on: IDCODE is selected (R627), and every cell holds 0. DESIGN CHOICE (log entry 56). -/
def TestPart.reset : TestPart := ⟨none, none, false, false, [], 2, boundaryChain.map (fun _ => false)⟩

end Sys2Proof.Machine
end

