-- ==== Sys2Proof/Machine/PartsRing.lean ====
section
/-! DEFINITION. Plain data of the ring links and the beam (spec/12_chaining.md). -/

namespace Sys2Proof.Machine
open Sys2Proof

/-- A data frame that waits to be forwarded: ring header fields and item (R507), the link it came on, its size. -/
structure RingFrame where
  age : Nat
  hops : Nat
  origin : Nat
  event : Bool
  item : List Byte
  /-- received on the UP link -/
  fromUp : Bool
  deriving DecidableEq, Repr

/-- A device in the head's list (R526, R529). -/
structure RingDevice where
  serial : Nat
  beam : Nat
  eflags : Nat
  /-- reached through the UP link -/
  upSide : Bool
  hops : Nat
  /-- consecutive returned WALKs from which it was missing -/
  missed : Nat
  deriving DecidableEq, Repr

/-- A WALK on its way (R526, R529): its number, whether it left on the UP link, the RING_WALK that asked for it. -/
structure WalkRun where
  wno : Nat
  up : Bool
  txn : Option Nat
  deriving DecidableEq, Repr

/-- A WALK of a RING_WALK that has returned: that transaction, the link it left on, number, flags, entries. -/
structure WalkGot where
  txn : Nat
  up : Bool
  wno : Nat
  flags : Nat
  entries : List Byte
  deriving DecidableEq, Repr

/-- The ring outside its registers. -/
structure RingPart where
  fwd : List RingFrame
  /-- forwarded frames that an own item has waited through (R511) -/
  ownWait : Nat
  /-- its transmitter on each link is held by XOFF (R514): UP, DOWN -/
  heldUp : Bool
  heldDn : Bool
  /-- it holds the neighbour on each receive link -/
  sentUp : Bool
  sentDn : Bool
  /-- an ECHO is out on each link (R524) -/
  echoUp : Bool
  echoDn : Bool
  /-- tokens originated, modulo 256 (R518) -/
  tseq : Nat
  /-- WALKs on their way, and the next number -/
  walks : List WalkRun
  wno : Nat
  devices : List RingDevice
  /-- entries in the last returned WALK of each side -/
  cntUp : Nat
  cntDn : Nat
  /-- WALKs of RING_WALKs that have returned -/
  got : List WalkGot
  /-- EFLAGS.DUP of this satellite (R527) -/
  dup : Bool
  /-- the last WALK received had CLOSED = 1 (R530) -/
  walkClosed : Bool
  /-- the head's ring was closed and is broken now (R526) -/
  wasClosed : Bool
  /-- the ring has stopped being closed, and its RING_BREAKs are still to be reported (R531) -/
  breakDue : Bool
  /-- serial of the last entry of the last WALK returned of each side (R531) -/
  lastUp : Option Nat
  lastDn : Option Nat
  /-- index of the last entry of the last returned WALK of an open ring (R531) -/
  lastIdx : Nat
  /-- drops not yet reported per origin (R513) -/
  drops : List (Nat × Nat)
  /-- fraction of the timebase in 1/240 µs, and microseconds for which it stands still (R522) -/
  frac : Nat
  hold : Nat
  /-- NEXT of the last TIME_SYNC in ms, and the AON microsecond at which it came (R523) -/
  synNext : Nat
  synAt : Nat
  deriving DecidableEq, Repr

/-- The ring after a reset of RING. -/
def RingPart.reset : RingPart :=
  ⟨[], 0, false, false, false, false, false, false, 0, [], 0, [], 0, 0, [], false, false, false, false, none, none, 0, [], 0,
    0, 0, 0⟩

/-- A beam transaction of the master (R544, R545): its SQ29 transaction, the request frame, tries made. -/
structure BeamRun where
  txn : Nat
  frame : List Byte
  tries : Nat
  deriving DecidableEq, Repr

/-- The beam outside its registers. -/
structure BeamPart where
  run : Option BeamRun
  /-- TSEQ of the master's next transaction -/
  tseq : Nat
  /-- slave: TSEQ and CRC of the last request served, with its stored response (R537) -/
  served : Option (Nat × Nat × List Byte)
  /-- slave: address offered by a CLAIM_CALL that it answers (R541) -/
  claiming : Option Nat
  /-- master: address offered in the claim window, with the SQ29 transaction that asked -/
  window : Option (Nat × Option Nat)
  deriving DecidableEq, Repr

/-- The beam after a CORE reset. -/
def BeamPart.reset : BeamPart := ⟨none, 0, none, none, none⟩

end Sys2Proof.Machine
end

