-- ==== Sys2Proof/Machine/PartsRod.lean ====
section
/-! DEFINITION. Plain data of the rods, field sharing, plans, held records and rounds (spec/03_rods.md,
spec/04_field_sharing.md, spec/05_inventory_and_harvest.md). -/

namespace Sys2Proof.Machine
open Sys2Proof

/-- Carrier states (R109); RAMP with its direction. -/
inductive Carrier | off | rampUp | rampDown | on | hold
  deriving DecidableEq, Repr

/-- What an air exchange is for. -/
inductive Purpose
  /-- a TRANSCEIVE -/
  | transceive
  /-- ISO/IEC 15693 inventory request or slot marker of the present cycle, with the slot it opens -/
  | inv15 (slot : Nat)
  /-- REQA or WUPA -/
  | reqA
  /-- Type A anticollision at a cascade level, with the bits known so far -/
  | antiA (level : Nat) (known : List Bool)
  /-- Type A SELECT at a cascade level, with the four bytes of the level -/
  | selA (level : Nat) (four : List Byte)
  /-- REQB, WUPB or Slot-MARKER, with the slot it opens (1 for REQB) -/
  | reqB (slot : Nat)
  /-- per-tag step at a list position, attempt number, block index within a write step -/
  | perTag (pos attempt blk : Nat)
  /-- Stay Quiet, HLTA or HLTB (R235) -/
  | quiet
  deriving DecidableEq, Repr

/-- Counts an exchange adds to ROD_CNT_* and ROD_ERR (R146, R170). -/
structure ExCount where
  tx : Nat
  ok : Nat
  crc : Nat
  noresp : Nat
  coll : Nat
  late : Nat
  clip : Bool
  early : Bool
  lateSof : Bool
  /-- receive gain of the last of these exchanges (R146) -/
  gain : Option Nat
  deriving DecidableEq, Repr

/-- No counts. -/
def ExCount.zero : ExCount := ⟨0, 0, 0, 0, 0, 0, false, false, false, none⟩

/-- Sum of counts. -/
def ExCount.add (a b : ExCount) : ExCount :=
  ⟨a.tx + b.tx, a.ok + b.ok, a.crc + b.crc, a.noresp + b.noresp, a.coll + b.coll, a.late + b.late,
    a.clip || b.clip, a.early || b.early, a.lateSof || b.lateSof, b.gain.or a.gain⟩

/-- Phases of an air exchange (R133 to R138). -/
inductive AirPhase | ready | tx | waiting | window | receiving
  deriving DecidableEq, Repr

/-- An air exchange: one reader frame with its window and response (R141). -/
structure Exchange where
  phase : AirPhase
  purpose : Purpose
  /-- the descriptor transaction it belongs to; none: the plan -/
  txn : Option Nat
  prof : Profile
  bytes : List Byte
  lastBits : Nat
  rxAlign : Nat
  txCrc : Bool
  rxCrc : Bool
  noRx : Bool
  rxMax : Nat
  /-- built in advance (R229) -/
  prepared : Bool
  /-- HFS cycles from the reference point to SOF detection (R134) -/
  fdtMeas : Nat
  /-- rods that listen to this exchange (R196) -/
  listeners : List Nat
  cnt : ExCount
  /-- estimates from the response SOF: rod, squared channel estimate, noise power (R197) -/
  chans : List (Nat × Nat × Nat)
  /-- timebase at the end of the reader frame (R256) -/
  sent : DWord
  deriving DecidableEq, Repr

/-- A result entry of a TAG record (R257). -/
structure Entry where
  step : Nat
  status : Status
  data : List Byte
  deriving DecidableEq, Repr

/-- A held record (R240). -/
structure Held where
  uid : List Byte
  proto : Nat
  near : Nat
  strength : Nat
  nearRssi : Nat
  combined : Bool
  entries : List Entry
  trunc : Bool
  /-- the list has reached its first write-class step or its end (R230) -/
  complete : Bool
  /-- filter verdict: none while not yet known (R239) -/
  verdict : Option Bool
  /-- registered in the deduplication table (R247) -/
  registered : Bool
  /-- its packet is being written into the FIFO (R249) -/
  carrying : Bool
  /-- end of its last frame (R256) -/
  stamp : DWord
  cnt : ExCount
  /-- its write steps do not run, and its WRITE record is written when it is carried (R251): the step indices of those
  that could have run, each with STATUS TIMEOUT; none: no WRITE record follows its carry by itself -/
  lateWrites : Option (List Nat)
  deriving DecidableEq, Repr

/-- The tag that a cycle has found and whose per-tag list runs (R230). -/
structure TagRun where
  uid : List Byte
  /-- list position of the next or present step -/
  pos : Nat
  /-- a write-class step has been reached -/
  inWrites : Bool
  /-- its held record has been discarded (R252) -/
  gone : Bool
  /-- its held record has been carried (R249) -/
  carried : Bool
  /-- waiting for the carry before write-class steps (R250) -/
  waiting : Bool
  /-- entries of the write-class steps so far (R251) -/
  writes : List Entry
  /-- what its WRITE record repeats of the held record: strength, nearest rod and its strength, COMBINED -/
  strength : Nat
  near : Nat
  nearRssi : Nat
  combined : Bool
  /-- end of its last write frame or of the answer to it; none: no write frame was sent (R256) -/
  stamp : Option DWord
  /-- a frame built in advance waits to be sent (R229) -/
  prep : Bool
  /-- the per-tag list has ended; only the QUIET frame is left -/
  quieting : Bool
  deriving DecidableEq, Repr

/-- A mask stack entry (R224). -/
structure MaskEntry where
  mask : Nat
  len : Nat
  start : Nat
  slots16 : Bool
  deriving DecidableEq, Repr

/-- An INVENTORY step in progress (R222 to R228). -/
structure InvRun where
  /-- the step's index and its 16 bytes -/
  step : Nat
  bytes : List Byte
  prof : Profile
  stack : List MaskEntry
  /-- the entry popped for the present cycle -/
  cur : MaskEntry
  /-- cycles begun, UIDs decoded in the step, consecutive fruitless cycles (R228) -/
  cycles : Nat
  decoded : Nat
  fruitless : Nat
  /-- in the present cycle: a UID was decoded; a collision, failed check or missing answer was met -/
  cycleHit : Bool
  cycleBad : Bool
  /-- Type A: bytes of the UID from the levels done -/
  partUid : List Byte
  /-- slots left to open after the tag's list: the next slot of the cycle, if any (Type B) -/
  nextSlot : Nat
  /-- a cycle is in progress -/
  inCycle : Bool
  tag : Option TagRun
  /-- the cycle's next Slot-MARKER waits for a free entry (R241) -/
  slotWait : Bool
  deriving DecidableEq, Repr

/-- Why a plan invocation ends (R162). -/
inductive PlanCause | done | stopped | flushed | aborted | checksumFail | domainOff
  deriving DecidableEq, Repr

/-- What a plan invocation is doing. -/
inductive PlanStage
  /-- at a unit boundary, the next unit not begun -/
  | boundary
  /-- in a WAIT; true: the carrier still ramps down and the time has not started (R219) -/
  | waiting (ramp : Bool)
  /-- an EMIT with SYNC = 1 waits for the held records (R221) -/
  | emitSync
  /-- in an INVENTORY step -/
  | inventory
  /-- ended for a cause, its held records not yet settled (R255) -/
  | ending (c : PlanCause)
  deriving DecidableEq, Repr

/-- A plan invocation (R143, R160, R214). -/
structure Plan where
  no : Nat
  tile : Nat
  profile : Nat
  entry : Nat
  repeatN : Nat
  pc : Nat
  passes : Nat
  steps : Nat
  carried : Nat
  lastStep : Nat
  /-- outcome of the most recent INVENTORY step: any UID decoded (R220) -/
  invAny : Option Bool
  stage : PlanStage
  inv : Option InvRun
  /-- filter in force at its start (R239): TILE and LOG2B -/
  filter : Option (Nat × Nat)
  snap : RodSnap
  slot : SlotKind
  /-- stop asked for: WHEN (R163) -/
  stop : Option Nat
  /-- ends with this cause at its next step boundary (R498) -/
  doom : Option PlanCause
  /-- one unit granted by DBG_CTL.STEP, or by RESUME at a breakpoint (R632) -/
  credit : Bool
  /-- the next unit waits for the carrier (R217) -/
  wantCarrier : Bool
  /-- transactions dispatched before the invocation started, which wait for its end (R143) -/
  behind : List Nat
  deriving DecidableEq, Repr

/-- A rod's request for its zone's grant (R191, R194): host class or plan class, and host-class grants since. -/
structure GrantReq where
  host : Bool
  runs : Nat
  deriving DecidableEq, Repr

/-- What remains of an exchange whose window has closed, for a SOF that comes after the close (R137). -/
structure LateNote where
  /-- the held record whose exchange it was: its counts go there (R146) -/
  held : Option (List Byte)
  /-- HFS cycles from the reference point at which the window closed -/
  close : Nat
  deriving DecidableEq, Repr

/-- One rod (R13, R141). -/
structure Rod where
  carrier : Carrier
  /-- GUARD has passed since the carrier reached ON (R112) -/
  guard : Bool
  /-- power code in force, target code, code when stepping began (R117, R201) -/
  code : Nat
  goal : Nat
  old : Nat
  /-- phase offset in force, and the one set by the last dispatch (R118) -/
  phase : Nat
  phaseGoal : Nat
  /-- settings of the last dispatch -/
  snap : Option RodSnap
  air : Option Exchange
  /-- NEXT_MIN runs (R138) -/
  gap : Bool
  /-- the window of the last exchange, as long as no frame has started since (R137) -/
  closed : Option LateNote
  /-- a frame with a late SOF is being received (R137) -/
  lateRx : Bool
  /-- ramp the carrier down when the present exchange ends (R149, R200) -/
  rampAfter : Bool
  /-- the carrier was ramped down by a survey; OFF_MIN counts from its end (R177) -/
  surveyHold : Bool
  req : Option GrantReq
  /-- zone in force (R188) and a pending change (R189) -/
  zone : Option Nat
  zonePend : Option (Option Nat)
  plan : Option Plan
  held : List Held
  /-- receive gain in use (R123) -/
  gain : Nat
  /-- gain that AGC chose when the carrier last reached ON (R123) -/
  agcGain : Option Nat
  /-- slots of ended invocations whose PLAN_END record waits for its commit (R161): number of the record's group, slot -/
  endSlots : List (Nat × SlotKind)
  deriving DecidableEq, Repr

/-- A rod after reset. DESIGN CHOICE (log entry 3). -/
def Rod.reset : Rod :=
  ⟨.off, false, 0, 0, 0, 0, 0, none, none, false, none, false, false, false, none, none, none, none, [], 0, none, []⟩

/-- The coupling survey (R172 to R180). -/
inductive SurveyPhase
  /-- no survey -/
  | idle
  /-- started, waiting for exchanges to end and carriers to reach zero -/
  | settling
  /-- slot of the radiator rod: tone up and averaging -/
  | averaging (rod : Nat)
  /-- slot of the radiator rod: tone ramping down, with the phasors averaged in it and the CLIP flag -/
  | tail (rod : Nat) (clip : Bool)
  deriving DecidableEq, Repr

/-- A start that waits for the field budget (R203): rod, target code, and the transaction it belongs to (none: the rod's
plan). -/
structure Start where
  rod : Nat
  code : Nat
  owner : Option Nat
  deriving DecidableEq, Repr

/-- Field sharing outside its registers (spec/04_field_sharing.md). -/
structure FieldPart where
  survey : SurveyPhase
  /-- mask and LOAD in force for the survey -/
  mask : Nat
  load : Bool
  /-- tap writes waiting for the pilot-period boundary (R186): rod, tap (none: TAPSEL) and value -/
  tapPend : List (Nat × Option Nat × Nat)
  /-- per zone: rod holding the grant, and last granted rod (R193) -/
  speaker : Vector (Option Nat) 8
  lastGrant : Vector Nat 8
  /-- starts waiting for the budget, in the order in which they arose (R203) -/
  queue : List Start
  throttle : Bool
  shutdown : Bool
  /-- row of coefficients measured in the present survey slot (R175) -/
  row : List (Nat × Nat)
  /-- in the present pilot period: rods whose carrier was not ON throughout, that spoke or listened, that sent modulation,
  and whether a survey ran (R184) -/
  notOn : List Nat
  inAir : List Nat
  modulated : List Nat
  surveyed : Bool
  /-- rods whose carrier was not OFF or HOLD all through the present pilot period (R181) -/
  sourced : List Nat
  deriving DecidableEq, Repr

/-- Field sharing after CORE reset. -/
def FieldPart.reset : FieldPart :=
  ⟨.idle, 0, false, [], Vector.replicate 8 none, Vector.replicate 8 23, [], false, false, [], [], [], [], false, []⟩

/-- A deduplication table entry (R247): the UID, its bucket, and whether it is CARRIED in the round. -/
structure DedupEntry where
  uid : List Byte
  bucket : Nat
  carried : Bool
  deriving DecidableEq, Repr

/-- Rounds and deduplication (R247, R261 to R266). -/
structure RoundPart where
  /-- step of the boundary in progress, 0 when idle (R264) -/
  step : Nat
  /-- number carried by a ROUND token that started or joined (R264 step 7) -/
  token : Option Word
  /-- starts that have arisen and not been taken (R261): 0 descriptor, 1 register, 2 timer, 3 token with its number -/
  starts : List (Nat × Option Word)
  dedup : List DedupEntry
  /-- BASE and TILES in force (R247) -/
  base : Nat
  tiles : Nat
  deriving DecidableEq, Repr

/-- Rounds after CORE reset: deduplication in the reset placement of ROD_DEDUP_CFG. -/
def RoundPart.reset : RoundPart := ⟨0, none, [], [], 15, 1⟩

end Sys2Proof.Machine
end

