-- ==== Sys2Proof/Machine/PartsTally.lean ====
section
/-! DEFINITION. Plain data of the tally engine (spec/06_tally_scan.md). -/

namespace Sys2Proof.Machine
open Sys2Proof

/-- A scan sequence in progress (R278, R279), with the settings latched at its scan instant. -/
structure TallySeq where
  /-- rods whose slots are still to come, the present one first -/
  rods : List Nat
  /-- the sequence ends with the present slot (R290) -/
  last : Bool
  /-- the burst of the present slot was driven -/
  burst : Bool
  confirm : Nat
  track : Nat
  rearm : Bool
  ampTh : Nat
  phTh : Nat
  /-- drive amplitude of its bursts (R274) -/
  level : Nat
  deriving DecidableEq, Repr

/-- A confirmed detection whose TALLY_WAKE event is not committed yet (R287). -/
structure TallyHit where
  rod : Nat
  dA : Int
  dP : Int
  count : Nat
  deriving DecidableEq, Repr

/-- The tally engine outside its registers. -/
structure TallyPart where
  /-- consecutive count of each rod (R285) -/
  counts : Vector Nat 24
  /-- fraction parts of each baseline, in 1/256 (R282) -/
  fracA : Vector Nat 24
  fracP : Vector Nat 24
  seq : Option TallySeq
  hits : List TallyHit
  /-- effects of writes of TLY_BASE (rod, value) and of cleared TLY_EN bits (rod, none) that wait for the next scan
  instant (R279) -/
  pend : List (Nat × Option Nat)
  deriving DecidableEq, Repr

/-- Tally engine after an AON reset (R291). -/
def TallyPart.reset : TallyPart :=
  ⟨Vector.replicate 24 0, Vector.replicate 24 0, Vector.replicate 24 0, none, [], []⟩

end Sys2Proof.Machine
end

