-- ==== Sys2Proof/Machine/State.lean ====
section
/-! DEFINITION. The state of the block as plain data, its reset value, and the reasons a step can stop. -/

namespace Sys2Proof.Machine
open Sys2Proof

/-- Reasons of a fault. -/
inductive Fault
  /-- Raised by no meaning of this model: every command of the spec has an effect or none. Safe. -/
  | unused
  deriving DecidableEq, Repr

/-- Reasons of a refusal. -/
inductive Refusal
  /-- Raised by an arm of exec for a command without a meaning yet. Safe. -/
  | notModelled (mnemonic : String)
  deriving DecidableEq, Repr

/-- The state of the block. -/
structure State where
  /-- commands that wait, first in first out -/
  pending : List Instr
  /-- what has left the device, newest first (the model's own log) -/
  out : List Output
  /-- register fields that differ from their reset value, by field key -/
  regs : Tab Nat
  /-- bytes of the counting board, tile t at 0x4000·t (R52) -/
  boardMem : List Host.Cell
  /-- bytes of plan memory, tile t at 0x4000·t -/
  planMem : List Host.Cell
  sys : SysPart
  host : HostPart
  /-- transactions from fetch to completion, in order of fetch -/
  txns : List Txn
  rods : Vector Rod 24
  field : FieldPart
  round : RoundPart
  tally : TallyPart
  fifos : Vector Fifo 25
  board : BoardPart
  /-- ring ingress of the head (R482) -/
  ingress : List RingItem
  pwr : PwrPart
  otp : Otp
  /-- the OTP array as its records were read last: it outlives every reset, and a bit of it never goes back to 0 (R407, R612) -/
  otpMem : Otp
  link : LinkPart
  acc : AccPart
  uhf : UhfPart
  keys : KeysPart
  cph : CphPart
  rng : RngPart
  ring : RingPart
  beam : BeamPart
  tmr : Vector Timer 16
  crc : Vector CrcUnit 4
  spi : Option SpiRun
  serial : SerialPart
  gpio : GpioPart
  test : TestPart
  deriving DecidableEq, Repr

/-- Host interface after a HOST reset (R103). DESIGN CHOICE (log entries 3 and 6). -/
def HostPart.reset : HostPart :=
  ⟨false, false, 0, 0, false, false, 0, Vector.replicate 21 [], Vector.replicate 32 false, [], 0, []⟩

/-- Scheduler after power-on reset. -/
def SysPart.reset : SysPart :=
  ⟨.head, 0, 0, 0, 0, none, 0, 33, [], [], 0, [], 0⟩

/-- Counting board and plan memory after BOARD and PLAN reset: every tile FREE, every plan tile EMPTY (R580). -/
def BoardPart.reset : BoardPart :=
  ⟨Vector.replicate 64 ⟨.free, [], 0⟩, false, 25, none, none, false, Vector.replicate 16 ⟨.empty, 0⟩, none, [], []⟩

/-- The block right after power-on reset: ROLE[1:0] sampled as 0b00 (HEAD), only AON is ON, start-up at step 1.
DESIGN CHOICE (log entries 3, 5 and 57). -/
def State.reset : State where
  pending := []
  out := []
  regs := [(fldKey 0x4100 0, 1)]
  boardMem := []
  planMem := []
  sys := SysPart.reset
  host := HostPart.reset
  txns := []
  rods := Vector.replicate 24 Rod.reset
  field := FieldPart.reset
  round := RoundPart.reset
  tally := TallyPart.reset
  fifos := (Vector.replicate 25 (Fifo.empty false)).set 24 (Fifo.empty true)
  board := BoardPart.reset
  ingress := []
  pwr := PwrPart.reset
  otp := Otp.blank
  otpMem := Otp.blank
  link := LinkPart.reset
  acc := AccPart.reset
  uhf := UhfPart.reset
  keys := KeysPart.reset
  cph := CphPart.reset
  rng := RngPart.reset
  ring := RingPart.reset
  beam := BeamPart.reset
  tmr := Vector.replicate 16 Timer.reset
  crc := Vector.replicate 4 CrcUnit.reset
  spi := none
  serial := SerialPart.reset
  gpio := ⟨false, 0, 0⟩
  test := TestPart.reset

end Sys2Proof.Machine
end

