-- ==== Sys2Proof/Machine/Ops.lean ====
section
/-! DEFINITION. The named operations over the state that every meaning uses: register fields, domains, events,
transactions and slots, records into FIFOs, outputs. -/

namespace Sys2Proof.Machine
open Sys2Proof

/-- Outcome of a command. -/
abbrev Out := Host.Outcome State Fault Refusal

/-! ### Register fields -/

/-- Value of instance `i` of a register field. -/
def State.rd (s : State) (f : Fld) (i : Nat := 0) : Nat := tabGet (f.dflt i) s.regs (f.key i)

/-- Set instance `i` of a register field. -/
def State.wr (s : State) (f : Fld) (i : Nat) (v : Nat) : State :=
  { s with regs := tabSet (f.dflt i) s.regs (f.key i) (v % f.size) }

/-- A one-bit field as a Boolean. -/
def State.flag (s : State) (f : Fld) (i : Nat := 0) : Bool := s.rd f i != 0

/-- Set a one-bit field. -/
def State.setF (s : State) (f : Fld) (i : Nat := 0) : State := s.wr f i 1

/-- Add to a counter that wraps to 0. -/
def State.count (s : State) (f : Fld) (i : Nat := 0) (k : Nat := 1) : State := s.wr f i (s.rd f i + k)

/-- Add to a counter that saturates at its largest value. -/
def State.countSat (s : State) (f : Fld) (i : Nat := 0) (k : Nat := 1) : State :=
  s.wr f i (min (f.size - 1) (s.rd f i + k))

/-- Return the registers at the addresses that satisfy `p` to their reset values. -/
def State.resetRegs (s : State) (p : Nat → Bool) : State := { s with regs := tabDrop (fun k => p (k / 32)) s.regs }

/-! ### Domains, roles, time, outputs -/

/-- The domain is ON (R578). -/
def State.isOn (s : State) (d : Domain) : Bool := vget s.pwr.st d.num == .on

/-- Bank of a rod (R16). -/
def bankOf (n : Nat) : Domain := if n < 12 then .hfa else .hfb

/-- What leaves through balls that boundary cells can take (R599, R628): PCIe, ring, beam, serial master, LF drive. HF, UHF and
REL_OUT are not among them. -/
def Output.atBalls : Output → Bool
  | .hostWrite _ _ | .msi _ | .unsupported _ | .readData _ _ | .lfFrame _ _ _ _ | .lfDrive _ _ _ | .spiFrame _ _ _ _ | .spiData _ _ _
  | .beamFrame _ | .claimFrame _ _ | .ringFrame _ _ | .ringToken _ _ _ _ _ | .ringFlow _ _ => true
  | .rodFrame _ _ _ _ | .rodFrameCut _ | .uhfFrame _ _ _ | .tallyBurst _ _ | .rangingTrain _ _ _ _ _ _
  | .release _ _ | .uhfCarrier _ _ _ | .tapId _ | .tdo _ | .balls _ => false

/-- The selected TAP instruction takes the balls from the units: EXTEST, EXTEST_PULSE, EXTEST_TRAIN, CLAMP or HIGHZ
(R629). -/
def TestPart.takesBalls (t : TestPart) : Bool := [0, 8, 9, 0x0C, 0x0D].contains t.tap

/-- The device leaves something visible; nothing of it leaves through balls that the TAP has taken (R629).
DESIGN CHOICE (log entry 51). -/
def State.emitOut (s : State) (o : Output) : State :=
  { s with out := if s.test.takesBalls && o.atBalls then s.out else o :: s.out }

/-- Draw the next free value (a value the spec leaves open). DESIGN CHOICE (log entries 4 and 51). -/
def State.drawFree (s : State) : State × Nat :=
  ({ s with sys := { s.sys with fresh := s.sys.fresh + 1 } }, Config.freeNat s.sys.fresh)

/-- Origin serial: the low 16 bits of the device serial (R73). -/
def State.originSerial (s : State) : Nat := s.otp.serial.toNat % 65536

/-- The timebase exceeds a not-later-than time that is in use (R68). -/
def State.nltPassed (s : State) (d : Desc) : Bool :=
  bit (descByte d 1) 2 && decide (descField d 8 8 < s.sys.timebase.toNat)

/-! ### Register accesses to domains that are not ON (R602) -/

/-- An access to a register whose domain is not ON is counted, and the first is captured. -/
def State.accessFault (s : State) (addr : Nat) (write beam : Bool) : State :=
  let s1 := s.count F.PWR_CNT_ACCESS_FAULT_COUNT
  if s.flag F.PWR_ACCESS_FAULT_VALID then s1
  else
    ((((s1.wr F.PWR_ACCESS_FAULT_ADDR 0 addr).wr F.PWR_ACCESS_FAULT_DOMAIN 0 (domainOf addr).num.val).wr
      F.PWR_ACCESS_FAULT_WRITE 0 (b2n write)).wr F.PWR_ACCESS_FAULT_BEAM 0 (b2n beam)).setF F.PWR_ACCESS_FAULT_VALID

/-- A register write from the host: carried out when the register's domain is ON, otherwise dropped (R602).
DESIGN CHOICE (log entry 1). -/
def State.hostWrite (s : State) (addr : Nat) (f : State → State) : State :=
  if s.isOn (domainOf addr) then f s else s.accessFault addr true false

/-! ### LAST_SEQ (R40) -/

/-- Does a unit lie in a power domain (R26, R82)? -/
def unitInDomain (u : Nat) (d : Domain) : Bool :=
  match d with
  | .hfa => u < 12
  | .hfb => 12 ≤ u && u < 24
  | .uhf => u == unitUhf
  | .crypto => u == unitCph
  | .ring => u == unitRing
  | .core => u == unitAcc || u == unitSys || u == unitBeam || u == unitSpi || (0x60 ≤ u && u ≤ 0x80)
  | _ => false

/-- Does an event about `unit` take the records of `u` into its LAST_SEQ? -/
def unitCovers (unit u : Nat) : Bool :=
  if unit == unitDev then true
  else if 0x40 ≤ unit && unit ≤ 0x4B then unitInDomain u (Domain.ofNum (unit - 0x40))
  else u == unit

/-- LAST_SEQ of an event about `unit`; none is the NONE flag. `lastSeq` lists the newest record first.
DEDUCED (log entry 23). -/
def State.lastSeqOf (s : State) (unit : Nat) : Option Word :=
  (s.sys.lastSeq.find? (fun p => unitCovers unit p.1)).map (·.2)

/-- Note that `unit` has committed a record with this SEQ. -/
def State.noteSeq (s : State) (unit : Nat) (q : Word) : State :=
  { s with sys := { s.sys with lastSeq := (unit, q) :: s.sys.lastSeq.filter (fun p => p.1 != unit) } }

/-! ### Events (R80, R90, R508, R670) -/

/-- Put an event where its role commits it: host staging, up to 64 pairs (R90), or a satellite's board (R508). -/
def State.stageEvent (s : State) (e : Event) : State :=
  if s.sys.role = .satellite then
    { s with sys := { s.sys with waitEvents := s.sys.waitEvents ++ [e] } }
  else if s.host.staging.length < 64 then
    { s with host := { s.host with staging := s.host.staging ++ [e] } }
  else
    { s with host := { s.host with overflow := min 65535 (s.host.overflow + 1) } }.countSat F.HOST_EQ_STAT_LOST

/-- An event arises. While BOARD is not ON, AON and CORE hold it, up to 32 (R670). DEDUCED (log entry 29). -/
def State.raiseRaw (s : State) (e : Event) : State :=
  if s.isOn .board then s.stageEvent e
  else if s.sys.heldEvents.length < 32 then
    { s with sys := { s.sys with heldEvents := s.sys.heldEvents ++ [e] } }
  else { s with sys := { s.sys with heldLost := min 65535 (s.sys.heldLost + 1) } }

/-- An event of this device arises; its LAST_SEQ is taken when it is committed (R40). -/
def State.raise (s : State) (c : EventCode) (unit : Nat) (detail : List Byte) : State :=
  s.raiseRaw ⟨c.code, unit, (padTo 5 detail).take 5, none, none⟩

/-- An event as it is committed: one of this device takes the LAST_SEQ of its unit (R40). -/
def State.eventNow (s : State) (e : Event) : Event :=
  if e.origin.isSome then e else { e with lastSeq := s.lastSeqOf e.unit }

/-! ### Transactions and slots (R27 to R31) -/

/-- The transaction of a fetched descriptor, or of an internal request. -/
def newTxn (id unit : Nat) (sq : Option Nat) (d : Desc) (ph : TxPhase) (data : List Byte) : Txn :=
  ⟨id, unit, sq, d, .none, ph, false, false, none, data, 0, false, 0, 0, false, none, 0⟩

/-- The transaction of an identity. -/
def State.txn? (s : State) (id : Nat) : Option Txn := s.txns.find? (fun t => t.id == id)

/-- Change the transaction of an identity. -/
def State.modTxn (s : State) (id : Nat) (f : Txn → Txn) : State :=
  { s with txns := s.txns.map (fun t => if t.id == id then f t else t) }

/-- A transaction has not ended. -/
def Txn.live (t : Txn) : Bool :=
  match t.phase with
  | .done _ => false
  | _ => true

/-- A transaction has been dispatched (R27). -/
def Txn.dispatched (t : Txn) : Bool := t.phase != .staged

/-- A transaction waits in its unit's queue. -/
def Txn.isQueued (t : Txn) : Bool := t.phase == .queued

/-- A transaction is being carried out. -/
def Txn.isRunning (t : Txn) : Bool := t.phase == .running

/-- Opcode of a transaction's descriptor. -/
def Txn.op (t : Txn) : Nat := descByte t.desc 0

/-- CMD_ID of a transaction's descriptor. -/
def Txn.cmdId (t : Txn) : Nat := descField t.desc 2 2

/-- TAG_SQ of records of a transaction (R74). -/
def Txn.tagSq (t : Txn) : Nat := t.sq.getD 0xFF

/-- TAG of records of a transaction (R74). -/
def Txn.tag (t : Txn) : Nat := if t.sq.isSome then t.cmdId else 0xFFFF

/-- A transaction ends with a status; its completion waits to be committed. DESIGN CHOICE (log entry 51). -/
def Txn.endWith (st : Status) (barrier : Nat) (t : Txn) : Txn :=
  if t.live then { t with phase := .done st, barrier := barrier } else t

/-- End the transaction of an identity. A cipher request that ends goes behind the others in the list, so that ended
requests stand in the order in which they ended (R19). -/
def State.finish (s : State) (id : Nat) (st : Status) : State :=
  match s.txn? id with
  | some t =>
    if !t.live || unitInOrder t.unit then s.modTxn id (Txn.endWith st s.sys.nextId)
    else { s with txns := s.txns.filter (fun u => u.id != id) ++ [t.endWith st s.sys.nextId] }
  | none => s

/-- The transaction being carried out by a unit, if one is. -/
def State.running? (s : State) (unit : Nat) : Option Txn := s.txns.find? (fun t => t.unit == unit && t.isRunning)

/-- The first transaction waiting in a unit's queue. -/
def State.head? (s : State) (unit : Nat) : Option Txn := s.txns.find? (fun t => t.unit == unit && t.isQueued)

/-- The unit carries out the transaction at the head of its queue when that has the given opcode and nothing else is
being carried out. DESIGN CHOICE (log entry 1). -/
def State.takeHead? (s : State) (unit op : Nat) : Option Txn :=
  match s.running? unit with
  | some _ => none
  | none =>
    match s.head? unit with
    | some t => if t.op == op then some t else none
    | none => none

/-- Set a transaction running. -/
def State.run (s : State) (id : Nat) : State := s.modTxn id (fun t => { t with phase := .running })

/-- A FIFO still holds, or waits to take, a packet of a transaction. -/
def Fifo.holds (q : Fifo) (id : Nat) : Bool :=
  q.fill.any (fun p => p.txn == some id) || q.drain.any (fun p => p.txn == some id)
    || q.waiting.any (fun g => g.2 == some id)

/-- Slots of ended invocations of rod `n` whose PLAN_END record is not committed (R161). -/
def State.endSlots (s : State) (n : Fin 24) (k : SlotKind) : Nat :=
  (vget s.rods n).endSlots.countP (fun p => p.2 == k && (vget s.fifos (ix 24 n.val)).holds p.1)

/-- Number of slots of a kind held for a unit's transactions, its plan included. DESIGN CHOICE (log entry 13). -/
def State.slotsOf (s : State) (unit : Nat) (k : SlotKind) : Nat :=
  s.txns.countP (fun t => t.unit == unit && t.slot == k)
    + (if unit < 24 then
        (match (vget s.rods (ix 23 unit)).plan with
         | some p => if p.slot == k then 1 else 0
         | none => 0)
        + s.endSlots (ix 23 unit) k
      else 0)

/-- Slots held by plan invocations of a kind. -/
def State.planSlots (s : State) (k : SlotKind) : Nat :=
  s.rods.toList.countP (fun r => match r.plan with | some p => p.slot == k | none => false)
    + ((List.finRange 24).map (fun n => s.endSlots n k)).sum

/-- General slots that rods hold (R29). -/
def State.borrowed (s : State) : Nat := s.txns.countP (fun t => t.slot == .borrowed) + s.planSlots .borrowed

/-- General slots in use (R28). -/
def State.generalUsed (s : State) : Nat := s.txns.countP (fun t => t.slot == .general) + s.borrowed

/-- Slots in use (R48). -/
def State.slotsUsed (s : State) : Nat := s.generalUsed + s.txns.countP (fun t => t.slot == .rod) + s.planSlots .rod

/-- The slot a dispatch to a unit takes: a rod's own, then a borrowed one; a general one for the others (R28, R29). -/
def State.freeSlot (s : State) (unit : Nat) : Option SlotKind :=
  if unit < 24 then
    if s.slotsOf unit .rod < 8 then some .rod
    else if s.slotsOf unit .borrowed < 8 && s.borrowed < 32 && s.generalUsed < 64 then some .borrowed
    else none
  else if s.generalUsed < 64 then some .general else none

/-- SYS_SLOT_PEAK follows the occupancy (R48). -/
def State.notePeak (s : State) : State := s.wr F.SYS_SLOT_PEAK_PEAK 0 (max (s.rd F.SYS_SLOT_PEAK_PEAK) s.slotsUsed)

/-! ### Rods -/

/-- Rod `n`. -/
def State.rod (s : State) (n : Fin 24) : Rod := vget s.rods n

/-- Change rod `n`. -/
def State.modRod (s : State) (n : Fin 24) (f : Rod → Rod) : State := { s with rods := vmod s.rods n f }

/-- All rod numbers. -/
def allRods : List (Fin 24) := List.finRange 24

/-! ### Record FIFOs (R464 to R481) -/

/-- FIFO `f`. -/
def State.fifo (s : State) (f : Fin 25) : Fifo := vget s.fifos f

/-- Change FIFO `f`. -/
def State.modFifo (s : State) (f : Fin 25) (g : Fifo → Fifo) : State := { s with fifos := vmod s.fifos f g }

/-- Words of a bank (R468). -/
def bankWords (f : Fin 25) : Nat := if f.val = 24 then 1024 else 512

/-- Packet credits of an empty FIFO (R475, R476). -/
def creditTotal (f : Fin 25) : Nat := if f.val = 24 then 16 else 8

/-- Words of a packet with `clen` content bytes (R464). -/
def packetWords (clen : Nat) : Nat := 5 + (clen + 3) / 4

/-- Contents of a record's fragments (R77): at most 228 bytes each. -/
def fragments (c : List Byte) : List (List Byte) := chunks Byte 228 (c.length / 228 + 1) c

/-- The packets of one output: one fragment each (R77, R467). -/
def packetsOf (r : RecordData) (txn : Option Nat) : List Packet :=
  let fs := fragments r.content
  fs.zipIdx.map (fun p =>
    ⟨r.type.code, r.status.code, r.source, r.tag, r.tagSq, r.frag + p.2, r.more || decide (p.2 + 1 < fs.length), r.stamp,
      p.1, false, 0, packetWords p.1.length, txn, 0⟩)

/-- Credits that the producer holds (R475). -/
def Fifo.credits (q : Fifo) (total : Nat) : Nat :=
  total - q.fill.length - q.drain.length - (match q.openGroup with | some g => g.credits | none => 0)

/-- A group is open in the fill bank. -/
def Fifo.isOpen (q : Fifo) : Bool := q.openGroup.any (fun g => !g.discarded)

/-- The open or discarded group is that of a transaction. -/
def Fifo.writes (q : Fifo) (id : Nat) : Bool := q.openGroup.any (fun g => g.txn == some id)

/-- The banks swap (R471): the fill bank becomes the drain bank, the empty drain bank the fill bank. -/
def Fifo.swap (q : Fifo) : Fifo := { q with bank := !q.bank, fill := [], drain := q.fill, fillWords := 0 }

/-- A swap can take place (R471). -/
def Fifo.canSwap (q : Fifo) : Bool := q.drain.isEmpty && !q.fill.isEmpty && !q.isOpen

/-- Swap first when the need does not fit and a swap can take place (R472). -/
def Fifo.swapFor (q : Fifo) (cap need : Nat) : Fifo :=
  if decide (cap - q.fillWords < need) && q.canSwap then q.swap else q

/-- Write the packets of a group into a bank with `cap` words, from `used` on (R473, R474): the packets placed with their
addresses, or none when a packet finds fewer than 5 words free. -/
def placeGroup (cap : Nat) : Nat → List Packet → Option (List Packet)
  | _, [] => some []
  | used, p :: t =>
    let free := cap - used
    if free < 5 then none
    else
      let w := min p.words free
      match placeGroup cap (used + w) t with
      | some rest => some ({ p with addr := used, words := w, ovr := decide (w < p.words) } :: rest)
      | none => none

/-- Total words of packets. -/
def sumWords (l : List Packet) : Nat := (l.map (·.words)).sum

/-- A FIFO has dropped words of a packet that ends: OVERRUN and FIFO_OVERRUN with the words since the last such event (R473).
DEDUCED (log entry 49). -/
def State.fifoOverrun (s : State) (f : Fin 25) (lost : Nat) : State :=
  ((s.setF F.FIFO_STAT_OVERRUN f.val).modFifo f (fun q => { q with dropped := 0 })).raise .fifoOverrun
    (if f.val = 24 then unitAcc else f.val) (leBytes 2 (min 65535 ((s.fifo f).dropped + lost)))

/-- Publish a group whose packets have been written (R469), counting dropped words and raising FIFO_OVERRUN (R473).
DEDUCED (log entry 49). -/
def State.publish (s : State) (f : Fin 25) (ps placed : List Packet) : State :=
  let lost := sumWords ps - sumWords placed
  let pid := s.sys.nextId
  let s0 := { s with sys := { s.sys with nextId := pid + 1 } }
  let s1 := s0.modFifo f (fun q =>
    { q with fill := q.fill ++ placed.map (fun p => { p with pid := pid }), fillWords := q.fillWords + sumWords placed,
             openGroup := none })
  let s2 := forAll ps (fun p s => onSome p.txn (fun id s => s.modTxn id (fun t => { t with hasRec := true })) s) s1
  if lost = 0 then s2 else (s2.count F.FIFO_CNT_DROP_COUNT f.val lost).fifoOverrun f lost

/-- Words that earlier packets of a group drop, from `used` on, before a packet finds no room (R473, R474). -/
def droppedWords (cap : Nat) : Nat → List Packet → Nat
  | _, [] => 0
  | used, p :: t =>
    let free := cap - used
    if free < 5 then 0 else p.words - min p.words free + droppedWords cap (used + min p.words free) t

/-- A group that found no room: every packet is discarded, its words counted, its transaction fails (R474). A packet of it that
had ended with words dropped has raised FIFO_OVERRUN (R473); the words of the others are in the next such event.
DEDUCED (log entry 49). -/
def State.discardGroup (s : State) (f : Fin 25) (ps : List Packet) (txn : Option Nat) : State :=
  let lost := droppedWords (bankWords f) (s.fifo f).fillWords ps
  let s0 := if lost = 0 then s else s.fifoOverrun f lost
  let s1 := (s0.modFifo f (fun q => { q with openGroup := none, dropped := q.dropped + (sumWords ps - lost) })).count
    F.FIFO_CNT_DROP_COUNT f.val (sumWords ps)
  onSome txn (fun id s => s.modTxn id (fun t => { t with failed := true })) s1

/-- Write a whole group into the fill bank. DEDUCED (log entry 49). -/
def State.writeGroup (s : State) (f : Fin 25) (ps : List Packet) (txn : Option Nat) : State :=
  match placeGroup (bankWords f) (s.fifo f).fillWords ps with
  | some placed => s.publish f ps placed
  | none => s.discardGroup f ps txn

/-- Can a group of `k` packets start now? In credit mode it needs `k` credits (R475), besides those held for an exchange on the
air (R476). -/
def Fifo.mayStart (q : Fifo) (total k : Nat) : Bool :=
  q.openGroup.isNone && (!q.credit || decide (k + q.reserved ≤ q.credits total))

/-- A producer starts a group of `need` words, `credits` for the packets that it begins, and writes it as its words become known
(R465, R472): after a swap where one can take place; with fewer than 5 words free it is discarded (R474). -/
def State.startGroup (s : State) (f : Fin 25) (txn : Option Nat) (credits need : Nat) : State :=
  s.modFifo f (fun q =>
    let q1 := q.swapFor (bankWords f) need
    let lost := decide (bankWords f - q1.fillWords < 5)
    { q1 with openGroup := some ⟨txn, if lost then 0 else credits, need, lost⟩, reserved := 0 })

/-- Words of an open group that have found no room (R473): none where its need fits; otherwise the words written so far are free,
at least the five of its first packet. DEDUCED (log entry 49). -/
def State.lostSoFar (s : State) (f : Fin 25) (g : OpenGroup) : State × Nat :=
  let room := bankWords f - (s.fifo f).fillWords
  if g.discarded || g.need ≤ room then (s, 0)
  else
    let d := s.drawFree
    (d.1, 5 + d.2 % (g.need - 4) - room)

/-- Packets of several outputs that form one group. -/
def groupPackets (rs : List RecordData) (txn : Option Nat) : List Packet := (rs.map (fun r => packetsOf r txn)).flatten

/-- A producer writes a group of records whose size is known at its start (R472 to R475); one that cannot start waits for
credits, first come first. -/
def State.emit (s : State) (f : Fin 25) (rs : List RecordData) (txn : Option Nat) : State :=
  let ps := groupPackets rs txn
  let s1 := s.modFifo f (fun q => q.swapFor (bankWords f) (sumWords ps))
  let q := s1.fifo f
  if q.waiting.isEmpty && q.mayStart (creditTotal f) ps.length then s1.writeGroup f ps txn
  else s1.modFifo f (fun q => { q with waiting := q.waiting ++ [(rs, txn)] })

/-- SOURCE of a waiting group. -/
def groupSource (g : List RecordData × Option Nat) : Nat := (g.1.head?.map (·.source)).getD 0

/-- The waiting group that starts next: the lowest SOURCE (R466), the earliest among equals. -/
def nextWaiting : List (List RecordData × Option Nat) → Option (List RecordData × Option Nat)
  | [] => none
  | g :: t =>
    match nextWaiting t with
    | none => some g
    | some h => if groupSource g ≤ groupSource h then some g else some h

/-- Start waiting groups while credits allow, at most `fuel` of them. -/
def State.startWaiting (f : Fin 25) : Nat → State → State
  | 0, s => s
  | fuel + 1, s =>
    match nextWaiting (s.fifo f).waiting with
    | none => s
    | some g =>
      let ps := groupPackets g.1 g.2
      let s1 := s.modFifo f (fun q => q.swapFor (bankWords f) (sumWords ps))
      if (s1.fifo f).mayStart (creditTotal f) ps.length then
        State.startWaiting f fuel
          ((s1.modFifo f (fun q => { q with waiting := q.waiting.erase g })).writeGroup f ps g.2)
      else s1

/-- Flush of a FIFO's producer side (R480): the open group goes, its credits return and waiting groups start, published
packets stay. Words that it had dropped before have been counted (R473). -/
def State.flushProducer (s : State) (f : Fin 25) : State :=
  let s1 := match (s.fifo f).openGroup with
    | some g =>
      let d := s.lostSoFar f g
      if d.2 = 0 then d.1
      else ((d.1.count F.FIFO_CNT_DROP_COUNT f.val d.2).setF F.FIFO_STAT_OVERRUN f.val).modFifo f (fun q =>
        { q with dropped := q.dropped + d.2 })
    | none => s
  let s2 := s1.modFifo f (fun q => { q with openGroup := none })
  State.startWaiting f (s2.fifo f).waiting.length s2

/-- A transaction that has a group open is ended (R480). -/
def State.flushGroup (s : State) (f : Fin 25) (id : Nat) : State := if (s.fifo f).writes id then s.flushProducer f else s

/-- The group that a transaction has open is complete, or discarded (R469, R474), and waiting groups may start; without one the
record is written as a group of known size. -/
def State.closeGroup (s : State) (f : Fin 25) (r : RecordData) (id : Nat) : State :=
  match (s.fifo f).openGroup with
  | some g =>
    if g.txn = some id then
      let ps := packetsOf r (some id)
      let s1 := if g.discarded then s.discardGroup f ps (some id) else s.writeGroup f ps (some id)
      State.startWaiting f (s1.fifo f).waiting.length s1
    else s.emit f [r] (some id)
  | none => s.emit f [r] (some id)

/-- A record of a transaction through the access FIFO (R466). -/
def State.emitAcc (s : State) (type : RecType) (status : Status) (source : Nat) (t : Txn) (stamp : DWord)
    (content : List Byte) : State :=
  s.emit 24 [⟨type, status, source, t.tag, t.tagSq, stamp, content, 0, false⟩] (some t.id)

end Sys2Proof.Machine
end

