-- ==== Sys2Proof/Machine/CrcOps.lean ====
section
/-! DEFINITION. The CRC units' registers, and how the bytes of a stream reach them (spec/13_timers_crc_serial.md, R561 to
R563). -/

namespace Sys2Proof.Machine
open Sys2Proof

/-! ### Presets (R562) -/

/-- One byte into the shift register of a preset; registers are held in reflected form. -/
def presetByte (poly : Nat) (reg : Word) (b : Byte) : Word :=
  if poly < 2 then (crcByte 0x8408#16 (reg.setWidth 16) b).setWidth 32
  else if poly = 2 then crcByte 0xEDB88320#32 reg b
  else crcByte 0x82F63B78#32 reg b

/-- Initial value of a preset. -/
def presetInit (poly : Nat) : Word :=
  if poly = 0 then 0xFFFF#32 else if poly = 1 then 0x6363#32 else 0xFFFFFFFF#32

/-- XOR out of a preset. -/
def presetXor (poly : Nat) : Word := if poly = 0 then 0xFFFF#32 else if poly = 1 then 0#32 else 0xFFFFFFFF#32

/-- Value with which the register of unit `u` starts: the seed, cut to the preset's width, or the preset's own (R562). -/
def State.crcSeed (s : State) (u : Nat) : Word :=
  let poly := s.rd F.CRC_CFG_POLY u
  if s.flag F.CRC_CFG_SEED_EN u then
    let v := s.rd F.CRC_SEED_VALUE u
    BitVec.ofNat 32 (if poly < 2 then v % 65536 else v)
  else presetInit poly

/-- Bytes fed into a register. -/
def crcRun (poly : Nat) (reg : Word) (l : List Byte) : Word := l.foldl (presetByte poly) reg

/-! ### Units -/

/-- Unit `u`. -/
def State.crcUnit (s : State) (u : Fin 4) : CrcUnit := vget s.crc u

/-- Change unit `u`. -/
def State.modCrc (s : State) (u : Fin 4) (f : CrcUnit → CrcUnit) : State := { s with crc := vmod s.crc u f }

/-- Part of bytes that the model does not place in time: the first ones, of a free number. DESIGN CHOICE (log entry 80). -/
def State.freeStart (s : State) (l : List Byte) : State × List Byte :=
  let d := s.drawFree
  (d.1, l.take (d.2 % (l.length + 1)))

/-- Fewer than 4,097 bytes of free values. DESIGN CHOICE (log entry 80). -/
def State.freeBytes (s : State) : State × List Byte :=
  let n := Config.freeNat s.sys.fresh % 4097
  ({ s with sys := { s.sys with fresh := s.sys.fresh + n + 1 } },
    (List.range n).map (fun k => BitVec.ofNat 8 (Config.freeNat (s.sys.fresh + 1 + k))))

/-- Unit `u` is ACTIVE on a stream. -/
def State.crcOn (s : State) (stream : Nat) (u : Fin 4) : Bool :=
  s.flag F.CRC_STAT_ACTIVE u.val && s.rd F.CRC_CFG_STREAM u.val == stream

/-- Unit `u` takes bytes in CONTINUOUS mode (R563). -/
def State.crcTake (s : State) (u : Fin 4) (l : List Byte) : State :=
  s.modCrc u (fun x => { x with skip := false, reg := crcRun (s.rd F.CRC_CFG_POLY u.val) x.reg l, bytes := x.bytes + l.length })

/-- A frame ends on a stream (R561, R563): an ACTIVE unit in CONTINUOUS mode takes its bytes, after a START within the frame
the last ones of a free number; one in FRAME mode keeps the frame for its result, unless it was in progress at START.
DESIGN CHOICE (log entry 80). -/
def State.crcFeed (s : State) (stream : Nat) (l : List Byte) : State :=
  forAll (List.finRange 4) (fun (u : Fin 4) (s : State) =>
    if !s.crcOn stream u then s
    else if s.flag F.CRC_CFG_MODE u.val then
      s.modCrc u (fun x => if x.skip then { x with skip := false } else { x with frames := x.frames ++ [l] })
    else if (s.crcUnit u).skip then
      let d := s.drawFree
      d.1.crcTake u (l.drop (d.2 % (l.length + 1)))
    else s.crcTake u l) s

/-- A frame ends without having presented bytes on the stream: a unit skips no more. -/
def State.crcQuiet (s : State) (stream : Nat) : State :=
  forAll (List.finRange 4) (fun (u : Fin 4) (s : State) =>
    if s.crcOn stream u then s.modCrc u (fun x => { x with skip := false }) else s) s

/-- A frame is cut: what of it has passed reaches the units as a frame that ends there, of known bytes the first ones, of a
free number (R561). DESIGN CHOICE (log entry 80). -/
def State.crcCut (s : State) (stream : Nat) (known : Option (List Byte)) : State :=
  if (List.finRange 4).any (fun u => s.crcOn stream u) then
    let d := match known with
      | some l => s.freeStart l
      | none => s.freeBytes
    d.1.crcFeed stream d.2
  else s

end Sys2Proof.Machine
end

