-- ==== Sys2Proof/Machine/Board.lean ====
section
/-! DEFINITION. The counting board and plan memory: bytes, commit of records, tiles, plan tiles
(spec/11_record_memory.md, record layout of spec/02_host_rings.md). -/

namespace Sys2Proof.Machine
open Sys2Proof

/-! ### Bytes of the counting board and of plan memory -/

/-- Bytes in a tile. -/
def tileBytes : Nat := 16384

/-- The byte that an address of the counting board or plan memory reads as when nothing lists it: FREE tiles and zeroed
plan memory hold 0 (R485, R580). DESIGN CHOICE (log entry 5). -/
def Memory.empty : BitVec 8 := 0

/-- The canonical form: addresses strictly rising, no entry equal to what an unlisted address reads as. -/
def Memory.wf (m : List Host.Cell) : Bool := tabWf (fun _ => Memory.empty) m

/-- Byte at an address. DESIGN CHOICE (log entry 5). -/
def Memory.read (m : List Host.Cell) (a : Nat) : BitVec 8 := tabGet Memory.empty m a

/-- The memory with one byte written. -/
def Memory.write (m : List Host.Cell) (a : Nat) (v : BitVec 8) : List Host.Cell := tabSet Memory.empty m a v

/-- The memory with bytes written from an address on. -/
def Memory.writeBytes : List Host.Cell → Nat → List Byte → List Host.Cell
  | m, _, [] => m
  | m, a, b :: t => Memory.writeBytes (Memory.write m a b) (a + 1) t

/-- `n` bytes from an address on. -/
def Memory.readBytes (m : List Host.Cell) (a : Nat) : Nat → List Byte
  | 0 => []
  | n + 1 => Memory.read m a :: Memory.readBytes m (a + 1) n

/-- The memory with the bytes of tile `t` zeroed. -/
def Memory.zeroTile (m : List Host.Cell) (t : Nat) : List Host.Cell := tabDrop (fun a => a / tileBytes == t) m

/-- Bytes of tile `t`. -/
def Memory.tile (m : List Host.Cell) (t : Nat) : List Byte := Memory.readBytes m (tileBytes * t) tileBytes

/-! ### Records as bytes (R73, R74) -/

/-- LEN of a record with `clen` content bytes (R74). -/
def recordLen (clen : Nat) : Nat := 1 + (12 + clen + 15) / 16

/-- The 16 · LEN bytes of a record with PHASE 0 (R73, R74, R486). -/
def recordBytes (seq originSeq : Word) (origin : Nat) (p : Packet) (clen : Nat) (content : List Byte) (status : Nat)
    (stamp : DWord) (remote : Bool) : List Byte :=
  padUnit 16 (leBytes 4 seq.toNat ++ leBytes 4 originSeq.toNat ++ leBytes 2 origin ++ leBytes 1 p.type
    ++ leBytes 1 p.source ++ leBytes 1 status ++ leBytes 1 (recordLen clen) ++ leBytes 1 clen
    ++ leBytes 1 (b2n p.more + 2 * b2n remote) ++ leBytes 8 stamp.toNat ++ leBytes 2 p.tag ++ leBytes 1 p.tagSq
    ++ leBytes 1 p.frag ++ content)

/-- The two entries of an event pair (R80) with PHASE 0. -/
def eventBytes (seq : Word) (stamp : DWord) (serial : Nat) (e : Event) : List Byte :=
  let remote := e.origin.isSome
  let origin := match e.origin with | some o => o | none => (serial, seq, stamp)
  leBytes 4 seq.toNat ++ leBytes 8 origin.2.2.toNat ++ leBytes 1 e.code ++ leBytes 1 e.unit
    ++ leBytes 1 (b2n e.lastSeq.isNone + 2 * b2n remote) ++ leBytes 1 0
    ++ leBytes 4 (e.lastSeq.getD 0).toNat ++ leBytes 4 origin.2.1.toNat ++ leBytes 2 origin.1
    ++ (padTo 5 e.detail).take 5 ++ leBytes 1 1

/-! ### Tiles (R485 to R491) -/

/-- Tile `t` of the counting board. -/
def State.tile (s : State) (t : Fin 64) : Tile := vget s.board.tiles t

/-- Change tile `t`. -/
def State.modTile (s : State) (t : Fin 64) (f : Tile → Tile) : State :=
  { s with board := { s.board with tiles := vmod s.board.tiles t f } }

/-- All tile numbers. -/
def allTiles : List (Fin 64) := List.finRange 64

/-- Units used in a tile. -/
def Tile.units (t : Tile) : Nat := (t.recs.map (·.len)).sum

/-- The OPEN tile. -/
def State.openTile? (s : State) : Option (Fin 64) := allTiles.find? (fun t => (s.tile t).st == .opened)

/-- The lowest-numbered FREE tile (R486). -/
def State.freeTile? (s : State) : Option (Fin 64) := allTiles.find? (fun t => (s.tile t).st == .free)

/-- Number of tiles in a state. -/
def State.tilesIn (s : State) (st : TileState) : Nat := allTiles.countP (fun t => (s.tile t).st == st)

/-- Sealing of a tile begins (R487). -/
def State.sealTile (s : State) (t : Fin 64) : State :=
  let s1 := s.modTile t (fun x => { x with st := .sealing })
  { s1 with board := { s1.board with ageOut := false } }

/-- The OPEN tile begins sealing, if there is one (R487). -/
def State.sealOpen (s : State) : State := onSome s.openTile? (fun t s => s.sealTile t) s

/-- The OPEN tile whose age has run out is sealed as soon as BOARD is ON, SEAL_AGE is not 0 and at least LOW tiles are FREE
(R487). -/
def State.agedSeal (s : State) : State :=
  if s.board.ageOut && s.isOn .board && s.rd F.BRD_CFG_SEAL_AGE != 0
      && decide (s.rd F.BRD_CFG_LOW ≤ s.tilesIn .free) then s.sealOpen
  else s

/-- Where a record of `len` units goes (R486): the OPEN tile, or the lowest FREE tile, the OPEN tile sealed first when
the record does not fit. None: no tile is FREE. -/
def State.roomFor (s : State) (len : Nat) : State × Option (Fin 64) :=
  match s.openTile? with
  | some t =>
    if (s.tile t).units + len ≤ 1024 then (s, some t)
    else
      let s1 := s.sealTile t
      match s1.freeTile? with
      | some u => (s1.modTile u (fun x => { x with st := .opened }), some u)
      | none => (s1, none)
  | none =>
    match s.freeTile? with
    | some u => (s.modTile u (fun x => { x with st := .opened }), some u)
    | none => (s, none)

/-- The next SEQ (R32, R33). -/
def State.nextSeq (s : State) : Word := s.sys.seq + 1

/-- Take the next SEQ. -/
def State.takeSeq (s : State) : State := { s with sys := { s.sys with seq := s.nextSeq } }

/-- Store a committed item of `len` units in tile `t` (R486). DEDUCED (log entry 23). -/
def State.storeItem (s : State) (t : Fin 64) (bytes : List Byte) (r : BoardRec) : State :=
  let u := (s.tile t).units
  let s1 := s.modTile t (fun x => { x with recs := x.recs ++ [{ r with unit := u }] })
  { s1 with boardMem := Memory.writeBytes s1.boardMem (tileBytes * t.val + 16 * u) bytes }

/-- The drain engine stops for lack of a FREE tile (R491). -/
def State.stall (s : State) : State :=
  if s.board.full then s else { s with board := { s.board with full := true } }.count F.BRD_CNT_FULL_COUNT

/-- Commit an event pair into a satellite's board (R508). DEDUCED (log entry 23). DESIGN CHOICE (log entry 47). -/
def State.commitPair (s : State) (t : Fin 64) (e : Event) : State :=
  let q := s.nextSeq
  (s.takeSeq).storeItem t (eventBytes q s.sys.timebase s.originSerial (s.eventNow e)) ⟨q, 0, 2, false, none, e.unit, false, true, s.sys.timebase.toNat⟩

/-- A satellite commits its waiting events while the board has room, at most `fuel` of them. -/
def State.commitEvents : Nat → State → State
  | 0, s => s
  | fuel + 1, s =>
    match s.sys.waitEvents with
    | [] => s
    | e :: rest =>
      if !s.isOn .board || s.board.full then s
      else
        match s.roomFor 2 with
        | (s1, some t) =>
          State.commitEvents fuel ({ s1 with sys := { s1.sys with waitEvents := rest } }.commitPair t e)
        | (s1, none) => s1.stall

/-- Commit all waiting events of a satellite. DESIGN CHOICE (log entry 47). -/
def State.settleEvents (s : State) : State := State.commitEvents s.sys.waitEvents.length s

/-- A tile has become FREE: draining resumes (R491). -/
def State.resumeDrain (s : State) : State := { s with board := { s.board with full := false } }.settleEvents

/-- Commit a record (R483): the next SEQ, its bytes in the board, LAST_SEQ of its unit. None: no room, the drain engine
stops. `origin`: serial, SEQ and stamp of a record that came over the ring. -/
def State.commitRecord (s : State) (p : Packet) (status : Nat) (content : List Byte) (stamp : DWord)
    (origin : Option (Nat × Word)) : State × Bool :=
  let len := recordLen content.length
  match s.roomFor len with
  | (s1, some t) =>
    let q := s1.nextSeq
    let o := match origin with | some o => o | none => (s1.originSerial, q)
    let bytes := recordBytes q o.2 o.1 p content.length content status stamp origin.isSome
    let s2 := (s1.takeSeq).storeItem t bytes ⟨q, 0, len, false, p.txn, p.source, origin.isSome, false, s.sys.timebase.toNat⟩
    ((if origin.isSome then s2 else s2.noteSeq p.source q), true)
  | (s1, none) => (s1.stall, false)

/-! ### Plan tiles (R492 to R498) -/

/-- Plan tile `t`. -/
def State.planTile (s : State) (t : Fin 16) : PlanTile := vget s.board.planTiles t

/-- Change plan tile `t`. -/
def State.modPlanTile (s : State) (t : Fin 16) (f : PlanTile → PlanTile) : State :=
  { s with board := { s.board with planTiles := vmod s.board.planTiles t f } }

/-- Tiles of a filter placed at `tile` with `2^log2b` buckets (R238). -/
def filterTiles (tile log2b : Nat) : List Nat := (List.range ((2 ^ log2b + 255) / 256)).map (· + tile)

/-- Tile `t` is configured for deduplication (R247). -/
def State.isDedupTile (s : State) (t : Nat) : Bool :=
  decide (s.round.base ≤ t) && decide (t < s.round.base + s.round.tiles)

/-- Does a plan invocation use tile `t` as its plan tile or a filter tile (R494)? -/
def Plan.refersTo (p : Plan) (t : Nat) : Bool :=
  p.tile == t || (match p.filter with | some f => (filterTiles f.1 f.2).contains t | none => false)

/-- A plan tile is referenced (R494). -/
def State.referenced (s : State) (t : Fin 16) : Bool :=
  (s.rods.toList.any (fun r => match r.plan with | some p => p.refersTo t.val | none => false))
    || (s.flag F.ROD_FILT_CFG_EN
        && (filterTiles (s.rd F.ROD_FILT_CFG_TILE) (s.rd F.ROD_FILT_CFG_LOG2B)).contains t.val)
    || bit (s.rd F.BRD_UCODE_MASK) t.val
    || s.isDedupTile t.val
    || (s.planTile t).st == .loading

/-- Every running invocation that uses tile `t` ends at its next step boundary with CAUSE CHECKSUM_FAIL (R498). -/
def State.doomPlans (s : State) (t : Nat) : State :=
  { s with rods := s.rods.map (fun r =>
      { r with plan := r.plan.map (fun p => if p.refersTo t then { p with doom := some .checksumFail } else p) }) }

/-- A plan tile goes out of service after a failed load or verification (R493, R497, R498). DESIGN CHOICE (log entry 19). -/
def State.planTileOut (s : State) (t : Fin 16) : State :=
  (((s.modPlanTile t (fun x => { x with st := .out })).setF F.BRD_ERR_PLAN_FAIL).raise .tileFail (unitPd .plan)
    (leBytes 1 t.val)).doomPlans t.val

/-- A load ends: its contents are checked against the expected CRC (R493). -/
def State.endLoad (s : State) (t : Fin 16) (expected : Word) : State × Bool :=
  if crc32c (Memory.tile s.planMem t.val) = expected then
    (s.modPlanTile t (fun x => { x with st := .ready, crc := expected }), true)
  else (s.planTileOut t, false)

/-- Store bytes in a plan tile. -/
def State.fillPlanTile (s : State) (t : Fin 16) (bytes : List Byte) : State :=
  { s with planMem := Memory.writeBytes s.planMem (tileBytes * t.val) (bytes.take tileBytes) }

/-- Verification of a plan tile (R497). `crcs` lists the checksums that reading the tiles again gave; a tile it does not
name read back as it was stored. A tile that is not READY fails without being verified. -/
def State.verifyPlanTile (s : State) (t : Fin 16) (crcs : List (Nat × Word)) : State × Bool :=
  if (s.planTile t).st = .ready then
    let s1 := s.count F.BRD_CNT_VERIFY_COUNT
    match crcs.find? (fun p => p.1 == t.val) with
    | some p => if p.2 = (s.planTile t).crc then (s1, true) else (s1.planTileOut t, false)
    | none => (s1, true)
  else (s, false)

/-- Verification of several plan tiles, every one of them (R497): true when none fails. DEDUCED (log entry 46). -/
def State.verifyPlanTiles (crcs : List (Nat × Word)) : List Nat → State → State × Bool
  | [], s => (s, true)
  | t :: ts, s =>
    let a := s.verifyPlanTile (ix 15 t) crcs
    let b := State.verifyPlanTiles crcs ts a.1
    (b.1, a.2 && b.2)

/-- Nobody waits for the verifier: a request for plan tiles that comes now is served now (R488). -/
def State.verifierFree (s : State) : Bool := s.board.verify.isEmpty

/-- Bytes of a plan position: 16 bytes at position `i` of tile `t` (R211). -/
def State.planStep (s : State) (t i : Nat) : List Byte := Memory.readBytes s.planMem (tileBytes * t + 16 * i) 16

end Sys2Proof.Machine
end

