-- ==== Sys2Proof/Machine/RingFlow.lean ====
section
/-! DEFINITION. Flow control of the ring link queues (spec/12_chaining.md, R514). -/

namespace Sys2Proof.Machine
open Sys2Proof

/-- Change the ring. -/
def State.modRing (s : State) (f : RingPart → RingPart) : State := { s with ring := f s.ring }

/-- State of a link (R503): true the UP link. -/
def State.linkSt (s : State) (up : Bool) : Nat := s.rd (if up then F.RING_STAT_UP_LINK else F.RING_STAT_DN_LINK)

/-- A link is UP. -/
def State.linkIsUp (s : State) (up : Bool) : Bool := s.isOn .ring && s.linkSt up == 2

/-- Bytes of a frame in a link queue: ring header, item, CRC (R507). -/
def frameSize (item : List Byte) : Nat := 12 + item.length

/-- Bytes in the queue of a receive link (R514). -/
def State.queueBytes (s : State) (up : Bool) : Nat :=
  ((s.ingress.filter (fun r => r.fromUp == up)).map (fun r => frameSize r.bytes)).sum
    + ((s.ring.fwd.filter (fun f => f.fromUp == up)).map (fun f => frameSize f.item)).sum

/-- This device holds the neighbour on a link. -/
def State.holdsLink (s : State) (up : Bool) : Bool := if up then s.ring.sentUp else s.ring.sentDn

/-- Note whether it does. -/
def State.setHolds (s : State) (up b : Bool) : State :=
  s.modRing (fun r => if up then { r with sentUp := b } else { r with sentDn := b })

/-- XOFF when fewer than 2 KiB of the 8 KiB are free, XON when 4 KiB are free again (R514); only a link that is UP carries
flow-control symbols (R503). -/
def State.flowCheck (s : State) (up : Bool) : State :=
  let free := 8192 - s.queueBytes up
  if !s.linkIsUp up then s
  else if !s.holdsLink up && decide (free < 2048) then
    ((s.setHolds up true).emitOut (.ringFlow up true)).count F.RING_CNT_XOFF_COUNT
  else if s.holdsLink up && decide (4096 ≤ free) then (s.setHolds up false).emitOut (.ringFlow up false)
  else s

end Sys2Proof.Machine
end

