-- ==== Sys2Proof/Machine/Slots.lean ====
section
/-! DEFINITION. Memory requests to the host (spec/02_host_rings.md R102) and settings of the serial master
(spec/13_timers_crc_serial.md R567). -/

namespace Sys2Proof.Machine
open Sys2Proof

/-- The device may issue memory requests (R102). -/
def State.mayDma (s : State) : Bool := s.isOn .host && s.host.bme && !s.host.d3

/-- A write to a host buffer: posted at once, or once memory requests may be issued again (R102). -/
def State.bufWrite (s : State) (addr : Nat) (bytes : List Byte) : State :=
  if s.mayDma then s.emitOut (.hostWrite addr bytes)
  else { s with host := { s.host with owed := s.host.owed ++ [(addr, bytes)] } }

/-- The buffer writes that waited are posted once memory requests may be issued again (R102). -/
def State.flushOwed (s : State) : State :=
  if s.mayDma then
    forAll s.host.owed (fun (w : Nat × List Byte) (s : State) => s.emitOut (.hostWrite w.1 w.2))
      { s with host := { s.host with owed := [] } }
  else s

/-- Settings of a chip select (R567, R569). -/
def State.spiSet (s : State) (cs : Nat) : SpiSet :=
  ⟨s.rd F.SPI_CS_CFG_DIV cs, s.flag F.SPI_CS_CFG_CPOL cs, s.flag F.SPI_CS_CFG_CPHA cs, s.rd F.SPI_CS_TIM_SETUP cs,
    s.rd F.SPI_CS_TIM_HOLD cs, s.rd F.SPI_CS_TIM_IDLE cs⟩

end Sys2Proof.Machine
end

