-- ==== Sys2Proof/Machine/BoardCmds.lean ====
section
/-! DEFINITION. Commands of the record FIFOs, the counting board and plan memory (spec/11_record_memory.md). -/

namespace Sys2Proof.Machine
open Sys2Proof

/-! ### Banks and drain -/

/-- BANK_SWAP (R471): the banks swap once the drain bank is empty, the fill bank holds a published packet and no group is
open in it. -/
def execBankSwap (f : Fin 25) (s : State) : Out :=
  .next (if (s.fifo f).canSwap then s.modFifo f Fifo.swap else s)

/-- Owner of a FIFO (R478). -/
def fifoOwner (f : Fin 25) : Nat := if f.val = 24 then unitAcc else f.val

/-- First word address of a bank: bank B follows bank A. DESIGN CHOICE (log entry 93). -/
def bankBase (f : Fin 25) (bank : Bool) : Nat := if bank then bankWords f else 0

/-- Does a source of the drain rotation have an item (R482)? Sources 0–24 are the FIFOs, 25 is ring ingress. -/
def State.sourceReady (s : State) (k : Nat) : Bool :=
  if k < 25 then !(s.fifo (ix 24 k)).drain.isEmpty
  else s.sys.role == .head && !s.ingress.isEmpty

/-- The next source after the one served last, counting upward with wrap (R482). -/
def State.nextSource (s : State) : Option Nat :=
  ((List.range 26).map (fun i => (s.board.lastSource + 1 + i) % 26)).find? s.sourceReady

/-- Note an uncorrectable word: its counter and its ECC_UNCORRECTED event (R478). -/
def State.uncorrectable (f : Fin 25) (addr : Nat) (s : State) : State :=
  (s.count F.FIFO_CNT_UNCORR_COUNT f.val).raise .eccUncorrected (fifoOwner f) (leBytes 2 addr)

/-- The transaction of a poisoned or discarded packet completes CHECKSUM_FAIL (R479). -/
def State.failTxn (id : Nat) (s : State) : State := s.modTxn id (fun t => { t with failed := true })

/-- The first packet leaves the drain bank; its credit returns and groups that waited may start (R475). -/
def State.dropDrained (s : State) (f : Fin 25) (k : Nat) : State :=
  let s1 := s.modFifo f (fun q => { q with drain := q.drain.drop k })
  State.startWaiting f (s1.fifo f).waiting.length s1

/-- The packet in place of a bank discarded after an uncorrectable LENW (R478). -/
def discardNotice (f : Fin 25) : Packet :=
  ⟨RecType.result.code, Status.checksumFail.code, fifoOwner f, 0xFFFF, 0xFF, 0, false, 0, [], false, 0, 0, none, 0⟩

/-- A packet as it is committed (R478): poisoned when a word other than LENW is uncorrectable or words were dropped. -/
def poisonPacket (f : Fin 25) (bad : List Nat) (p : Packet) : Packet :=
  let p1 := if bad.contains 1 then { p with type := RecType.result.code, frag := 0 } else p
  if bad.contains 2 then { p1 with tag := 0xFFFF, tagSq := 0xFF, source := fifoOwner f } else p1

/-- The drain engine takes the packet at the front of a drain bank (R478, R483). `ecc` lists the words of the packet that
the SECDED check found wrong: word index, and whether the error is uncorrectable. -/
def State.drainPacket (s : State) (f : Fin 25) (p : Packet) (ecc : List (Nat × Bool)) : State :=
  let inPkt := ecc.filter (fun e => decide (e.1 < p.words))
  let bad := (inPkt.filter (·.2)).map (·.1)
  let base := bankBase f (!(s.fifo f).bank) + p.addr
  let corr := fun (x : State) => x.count F.FIFO_CNT_CORR_COUNT f.val (inPkt.filter (fun e => !e.2)).length
  let now := s.sys.timebase
  if bad.contains 0 then
    let lost := (s.fifo f).drain
    match s.commitRecord (discardNotice f) Status.checksumFail.code (leBytes 2 (sumWords lost)) now none with
    | (s1, true) =>
      let s2 := forAll lost (fun q s => onSome q.txn State.failTxn s) (corr s1)
      (State.uncorrectable f base s2).dropDrained f lost.length
    | (s1, false) => s1
  else if !bad.isEmpty || p.ovr then
    match s.commitRecord (poisonPacket f bad p) Status.checksumFail.code [] now none with
    | (s1, true) =>
      let s2 := onSome p.txn State.failTxn (corr s1)
      (forAll bad (fun w s => State.uncorrectable f (base + w) s) s2).dropDrained f 1
    | (s1, false) => s1
  else
    match s.commitRecord p p.status p.content p.stamp none with
    | (s1, true) => (corr s1).dropDrained f 1
    | (s1, false) => s1

/-- The packet that a record from the ring spells (R37, R75). -/
def packetOfBytes (b : List Byte) : Packet :=
  ⟨byteAt b 10, byteAt b 12, byteAt b 11, leNat ((b.drop 24).take 2), byteAt b 26, byteAt b 27, byteAt b 15 % 2 == 1,
    BitVec.ofNat 64 (leNat ((b.drop 16).take 8)), (b.drop 28).take (byteAt b 14), false, 0, 0, none, 0⟩

/-- The event that a pair from the ring spells (R40, R80). -/
def eventOfBytes (b : List Byte) : Event :=
  ⟨byteAt b 12, byteAt b 13, (b.drop 26).take 5,
    if byteAt b 14 % 2 = 1 then none else some (BitVec.ofNat 32 (leNat ((b.drop 16).take 4))),
    some (leNat ((b.drop 24).take 2), BitVec.ofNat 32 (leNat ((b.drop 20).take 4)),
      BitVec.ofNat 64 (leNat ((b.drop 4).take 8)))⟩

/-- The drain engine takes an item from ring ingress (R14, R37, R482). -/
def State.drainIngress (s : State) (r : RingItem) : State :=
  if r.event then { s.raiseRaw (eventOfBytes r.bytes) with ingress := s.ingress.tail }
  else
    let p := packetOfBytes r.bytes
    let origin := (leNat ((r.bytes.drop 8).take 2), BitVec.ofNat 32 (leNat ((r.bytes.drop 4).take 4)))
    match s.commitRecord p p.status p.content p.stamp (some origin) with
    | (s1, true) => { s1 with ingress := s1.ingress.tail }
    | (s1, false) => s1

/-- Source `k` has been served (R482), unless the drain engine stopped for lack of a FREE tile (R491). -/
def State.served (s : State) (k : Nat) : State :=
  if s.board.full then s else { s with board := { s.board with lastSource := k } }

/-- DRAIN_TAKE (R482, R483): the drain engine takes the next published packet or ring item in rotation. -/
def execDrainTake (ecc : List (Nat × Bool)) (s : State) : Out :=
  .next (
    if !s.isOn .board || !s.isOn .core || s.board.full then s
    else
      match s.nextSource with
      | none => s
      | some k =>
        if k < 25 then
          match (s.fifo (ix 24 k)).drain with
          | [] => s
          | p :: _ => (s.drainPacket (ix 24 k) p ecc).served k
        else
          match s.ingress with
          | [] => s
          | r :: _ => (((s.drainIngress r).served k).flowCheck true).flowCheck false)

/-- A change of a FIFO's mode is waiting (R477). -/
def State.modePending (s : State) (f : Fin 25) : Bool :=
  f.val != 24 && (s.flag F.FIFO_CFG_CREDIT f.val != (s.fifo f).credit)

/-- A FIFO is empty with no group open: the moment at which a mode change takes effect (R477). -/
def Fifo.quiet (q : Fifo) : Bool := q.fill.isEmpty && q.drain.isEmpty && !q.isOpen

/-- A requested mode change takes effect when the FIFO is quiet (R477). -/
def State.changeMode (s : State) (f : Fin 25) : State :=
  if s.modePending f && (s.fifo f).quiet then
    let s1 := s.modFifo f (fun q => { q with credit := s.flag F.FIFO_CFG_CREDIT f.val })
    State.startWaiting f (s1.fifo f).waiting.length s1
  else s

/-- Write of FIFO_CFG[f] (R477). The access FIFO's CREDIT bit is read-only. -/
def writeFifoCfg (f : Fin 25) (w : Word) (s : State) : State :=
  if f.val = 24 then s else s.wr F.FIFO_CFG_CREDIT f.val (w.toNat % 2)

/-- FIFO_MODE_WRITE (R477). -/
def execFifoModeWrite (f : Fin 25) (w : Word) (s : State) : Out :=
  .next (s.hostWrite (0xB400 + 0x20 * f.val) (writeFifoCfg f w))

/-- FIFO_MODE_CHANGE (R477): the requested mode takes effect once both banks are empty and no group is open. -/
def execFifoModeChange (f : Fin 25) (s : State) : Out := .next (s.changeMode f)

/-! ### Tiles -/

/-- SEAL_AGE_EXPIRY (R487): the age of the OPEN tile's first record runs out. The tile is sealed when SEAL_AGE is not 0
and at least LOW tiles are FREE, and later as soon as that holds; while BOARD is in RETENTION this waits until BOARD is ON. -/
def execSealAgeExpiry (s : State) : Out :=
  .next (
    match s.openTile? with
    | none => s
    | some t =>
      if (s.tile t).recs.isEmpty || s.rd F.BRD_CFG_SEAL_AGE = 0 then s
      else { s with board := { s.board with ageOut := true } }.agedSeal)

/-- Write of BRD_CFG (R11, R487): an age that has not run out under the new SEAL_AGE counts on, and one that has seals the OPEN
tile where LOW allows it. -/
def writeBrdCfg (w : Word) (s : State) : State :=
  let k := bits w.toNat 15 0
  let o := s.rd F.BRD_CFG_SEAL_AGE
  let low := bits w.toNat 22 16
  let s1 := s.wr F.BRD_CFG_SEAL_AGE 0 k
  let s2 := if low ≤ 64 then s1.wr F.BRD_CFG_LOW 0 low else s1
  let out : Bool := match s.openTile? with
    | some t =>
      (match (s.tile t).recs with
       | r :: _ => (s.board.ageOut && decide (k ≤ o)) || decide (r.time + k ≤ s.sys.timebase.toNat)
       | [] => false)
    | none => false
  { s2 with board := { s2.board with ageOut := out } }.agedSeal

/-- Write of BRD_CTL (R487). -/
def writeBrdCtl (w : Word) (s : State) : State := if bit w.toNat 0 then s.sealOpen else s

/-- BRD_SEAL_WRITE (R487): firmware writes 1 to BRD_CTL.SEAL. -/
def execBrdSealWrite (w : Word) (s : State) : Out := .next (s.hostWrite 0xB004 (writeBrdCtl w))

/-- The records of a tile that have not left are lost with it (R490): completions that wait on them carry CHECKSUM_FAIL
(R479). -/
def State.loseRecords (s : State) (t : Fin 64) : State :=
  let lost := (s.tile t).recs.filter (fun r => !r.left)
  let s1 := forAll lost (fun r s => onSome r.txn State.failTxn s) s
  s1.modTile t (fun x => { x with recs := x.recs.map (fun r => { r with left := true }) })

/-- A tile is zeroed and becomes FREE (R485, R489). -/
def State.freeTile (s : State) (t : Fin 64) : State :=
  let s1 := s.modTile t (fun _ => ⟨.free, [], 0⟩)
  { s1 with boardMem := Memory.zeroTile s1.boardMem t.val,
            board := { s1.board with burst := if s1.board.burst = some t.val then none else s1.board.burst,
                                      verified := s1.board.verified.erase t.val } }.resumeDrain.agedSeal

/-- TILE_FREE (R489): a SEALED tile whose records have all left is zeroed and becomes FREE. -/
def execTileFree (t : Fin 64) (s : State) : Out :=
  .next (if (s.tile t).st = .sealed && (s.tile t).recs.all (·.left) then s.freeTile t else s)

/-- Write of BRD_TILE_CTL (R490); `bad`: the read-back found a non-zero word. -/
def writeTileCtl (w : Word) (bad : Bool) (s : State) : State :=
  let t := ix 63 (bits w.toNat 5 0)
  if bit w.toNat 8 && (s.tile t).st == .out then
    if bad then
      let s1 := s.modTile t (fun _ => ⟨.out, [], 0⟩)
      { s1 with boardMem := Memory.zeroTile s1.boardMem t.val }
    else s.freeTile t
  else s

/-- TILE_RESTORE (R490): an OUT tile is zeroed, read back, and becomes FREE, or OUT again. -/
def execTileRestore (w : Word) (bad : Bool) (s : State) : Out := .next (s.hostWrite 0xB024 (writeTileCtl w bad))

end Sys2Proof.Machine
end

