-- ==== Sys2Proof/Machine/HostRings.lean ====
section
/-! DEFINITION. The host interface: rings, doorbells, completions, egress, interrupts (spec/02_host_rings.md), and the
timebase and occupancy registers of spec/01_architecture.md. -/

namespace Sys2Proof.Machine
open Sys2Proof

/-! ### Errors (R104, R105) -/

/-- A HOST_ERR bit is set; the first error while all bits are 0 is captured (R105). -/
def State.hostErr (s : State) (b kind ring addr : Nat) : State :=
  let any := (List.range 8).any (fun i => s.rd ⟨0x2008, 0, i, i, 0, 0⟩ != 0)
  let s1 := s.wr ⟨0x2008, 0, b, b, 0, 0⟩ 0 1
  if any then s1
  else
    ((((s1.wr F.HOST_ERR_SRC_RING 0 ring).wr F.HOST_ERR_SRC_KIND 0 kind).wr F.HOST_ERR_SRC_BIT 0 b).wr
      F.HOST_ERR_ADDR_LO_ADDR 0 addr).wr F.HOST_ERR_ADDR_HI_ADDR 0 (addr / 2 ^ 32)

/-- The HOST_FAULT event of an error (R83). -/
def State.hostFault (s : State) (kind ring b : Nat) : State :=
  s.raise .hostFault unitSys [BitVec.ofNat 8 kind, BitVec.ofNat 8 ring, BitVec.ofNat 8 b]

/-- Kind and number of a device-written ring for HOST_ERR_SRC and HOST_FAULT (R83, R105). -/
def DevRing.kindNo : DevRing → Nat × Nat
  | .cq m => (1, m.val)
  | .rq k => (2, k.val)
  | .eq => (3, 0)

/-! ### Interrupts (R91 to R96) -/

/-- Send a vector's MSI-X message, or set its pending bit (R95). -/
def State.sendVector (s : State) (v : Nat) : State :=
  if s.host.msixEnable && !s.host.msixMask && !s.flag F.MSIX_CTRL_MASK v && s.host.bme && !s.host.d3 then
    s.emitOut (.msi v)
  else { s with host := { s.host with pba := s.host.pba ||| (1#32 <<< v) } }

/-- A ring signals its vector (R92, R95): HOST_INT_STAT, the message, and every entry is signalled. -/
def State.signal (s : State) (r : Fin 21) : State :=
  let v := s.rd F.HOST_CQ_CFG_VECTOR r.val
  let s1 := s.wr F.HOST_INT_STAT_VEC 0 (s.rd F.HOST_INT_STAT_VEC ||| (1 <<< v))
  ({ s1 with host := { s1.host with unsig := vset s1.host.unsig r [] } }).sendVector v

/-- Signal when enough entries are unsignalled (R92). -/
def State.checkSignal (s : State) (r : Fin 21) : State :=
  if s.flag F.HOST_CQ_CFG_IRQ_EN r.val
      && decide (max 1 (s.rd F.HOST_CQ_MOD_MOD_CNT r.val) ≤ (vget s.host.unsig r).length) then s.signal r
  else s

/-- An entry that ends at the present producer count becomes unsignalled (R92). -/
def State.noteEntry (s : State) (r : Fin 21) : State :=
  { s with host := { s.host with
    unsig := vmod s.host.unsig r (fun l => l ++ [(s.rd F.HOST_CQ_STAT_WRITTEN r.val, s.sys.timebase)]) } }

/-! ### Writing rings (R57, R58, R86) -/

/-- Number of entries of a ring (R56). -/
def State.ringSize (s : State) (r : Fin 21) : Nat := 2 ^ s.rd F.HOST_CQ_CFG_SIZE r.val

/-- Base address of a ring. -/
def State.ringBase (s : State) (r : Fin 21) : Nat :=
  s.rd F.HOST_CQ_BASE_LO_BASE r.val * 64 + s.rd F.HOST_CQ_BASE_HI_BASE r.val * 2 ^ 32

/-- Entries free in a device-written ring. -/
def State.ringRoom (s : State) (r : Fin 21) : Nat :=
  s.ringSize r - (s.rd F.HOST_CQ_STAT_WRITTEN r.val + 65536 - s.rd F.DOORBELL_CQ_COUNT r.val) % 65536

/-- PHASE of an entry at producer count `c` (R58). -/
def phaseAt (size c : Nat) : Bool := (c / size) % 2 == 0

/-- Write one 16-byte entry or header with its PHASE: split in two posted writes or whole (R86). -/
def State.writeEntry (s : State) (addr : Nat) (b : List Byte) (phase : Bool) : State :=
  let c := BitVec.ofNat 8 (byteAt b 15 + 128 * b2n phase)
  let e := b.take 15 ++ [c]
  if s.flag F.HOST_CTL_SPLIT_PHASE then
    (s.emitOut (.hostWrite addr (e.take 12))).emitOut (.hostWrite (addr + 12) (e.drop 12))
  else s.emitOut (.hostWrite addr e)

/-- Advance a ring's producer count. -/
def State.advance (s : State) (r : Fin 21) (k : Nat) : State :=
  s.wr F.HOST_CQ_STAT_WRITTEN r.val (s.rd F.HOST_CQ_STAT_WRITTEN r.val + k)

/-! ### Completions (R71, R85) -/

/-- Records of a transaction that are not yet written to host memory, or packets its unit published before it ended that
are not yet committed (R38, R85, R484). -/
def State.recordsOut (s : State) (t : Txn) : Bool :=
  (s.fifos.toList.any (fun q =>
    (q.fill ++ q.drain).any (fun p => p.txn == some t.id || (p.source == t.unit && decide (p.pid < t.barrier)))
      || q.waiting.any (fun g => g.2 == some t.id)))
    || s.board.tiles.toList.any (fun x => x.recs.any (fun r => r.txn == some t.id && !r.left))

/-- The transaction of SQ `q` whose completion is next: in order of submission, or for cipher requests in the order in
which they ended (R19). -/
def State.nextCompletion (s : State) (q : Nat) : Option Txn :=
  let l := s.txns.filter (fun t => t.sq == some q)
  match (if unitInOrder (sqUnit q) then l.head? else l.find? (fun t => !t.live)) with
  | some t => if t.live then none else some t
  | none => none

/-- STATUS of a completion (R479). -/
def Txn.status (t : Txn) : Status :=
  match t.phase with
  | .done st => if t.failed then .checksumFail else st
  | _ => .ok

/-- The 16 bytes of a completion, PHASE 0 (R71). -/
def completionBytes (seq : Word) (stamp : DWord) (t : Txn) : List Byte :=
  leBytes 4 seq.toNat ++ leBytes 8 stamp.toNat ++ leBytes 2 t.cmdId ++ leBytes 1 t.status.code
    ++ leBytes 1 (t.sq.getD 0 % 32 + 32 * b2n t.hasRec)

/-- Forget a transaction: its slot is free (R27). -/
def State.dropTxn (s : State) (id : Nat) : State := { s with txns := s.txns.filter (fun t => t.id != id) }

/-- Commit a completion: SEQ, the CQ entry, DONE, signalling (R85, R92, R94). -/
def State.commitCompletion (s : State) (t : Txn) (q m : Nat) : State :=
  let r : Fin 21 := ix 20 m
  let c := s.rd F.HOST_CQ_STAT_WRITTEN m
  let s1 := s.takeSeq
  let s2 := s1.writeEntry (s.ringBase r + 16 * (c % s.ringSize r)) (completionBytes s.nextSeq s.sys.timebase t)
    (phaseAt (s.ringSize r) c)
  let s3 := (((s2.advance r 1).noteEntry r).count F.HOST_SQ_DONE_DONE q).dropTxn t.id
  if bit (descByte t.desc 1) 1 && s3.flag F.HOST_CQ_CFG_IRQ_EN m then s3.signal r else s3.checkSignal r

/-- A START or STOP that came over the beam to rod `n` has ended and its records are committed: its status goes to
BEAM_DSTAT, and its slot is free (R20, R540). DESIGN CHOICE (log entry 40). -/
def State.beamStatus (s : State) (n : Nat) : State :=
  match s.txns.find? (fun t => t.unit == n && t.sq.isNone) with
  | some t =>
    if t.live || s.fifos.toList.any (fun q => q.holds t.id) then s
    else
      (((s.wr F.BEAM_DSTAT_STATUS n t.status.code).setF F.BEAM_DSTAT_DONE n).wr F.BEAM_DSTAT_TSEQ n
        (byteAt t.data 0)).dropTxn t.id
  | none => s

/-- COMPLETION_COMMIT (R85): the next completion of SQ `q` is committed once its CQ has room and every record of its
descriptor has been written. A completion of a transaction that a HOST reset found dispatched is discarded and counted
instead (R103). In a satellite, a beam transaction of rod `q` ends in its register instead (R540). -/
def execCompletionCommit (q : Fin 32) (s : State) : Out :=
  .next (
    match s.nextCompletion q.val with
    | none => if q.val < 24 then s.beamStatus q.val else s
    | some t =>
      if t.orphan then (s.countSat F.SYS_HOST_DROP_COMPL).dropTxn t.id
      else
        let m := s.rd F.HOST_SQ_CFG_CQ q.val
        if s.mayDma && s.isOn .board && s.flag F.HOST_CQ_CFG_EN m && decide (1 ≤ s.ringRoom (ix 20 m))
            && !s.recordsOut t then s.commitCompletion t q.val m
        else s)

/-! ### Record egress (R78, R79, R89) -/

/-- RQ of a record (R79). -/
def State.routeOf (s : State) (r : BoardRec) : Nat :=
  if r.remote then
    if r.source < 24 then s.rd F.HOST_RQ_ROUTE2_ROD
    else if r.source < 26 then s.rd F.HOST_RQ_ROUTE2_ACCESS
    else s.rd F.HOST_RQ_ROUTE2_OTHER
  else if r.source < 16 then bits (s.rd F.HOST_RQ_ROUTE0_RQ) (2 * r.source + 1) (2 * r.source)
  else bits (s.rd F.HOST_RQ_ROUTE1_RQ) (2 * (r.source % 16) + 1) (2 * (r.source % 16))

/-- How long ago a SEQ was given, in commits (R34). -/
def State.seqAge (s : State) (q : Word) : Nat := (s.sys.seq - q).toNat

/-- The older of two candidates. -/
def State.older (s : State) (a b : Option (Fin 64 × BoardRec)) : Option (Fin 64 × BoardRec) :=
  match a, b with
  | none, b => b
  | a, none => a
  | some x, some y => if s.seqAge y.2.seq ≤ s.seqAge x.2.seq then some x else some y

/-- The oldest record that has not left and satisfies `p`, with its tile. -/
def State.oldestRec (s : State) (p : BoardRec → Bool) : Option (Fin 64 × BoardRec) :=
  allTiles.foldl (fun acc t => (s.tile t).recs.foldl
    (fun acc r => if !r.left && p r then s.older acc (some (t, r)) else acc) acc) none

/-- Mark a record of a tile as having left (R489): a burst from the tile goes on or begins, and its pause begins anew (R488). -/
def State.markLeft (s : State) (t : Fin 64) (q : Word) : State :=
  let s1 := { s with board := { s.board with burst := some t.val, verified := s.board.verified.erase t.val, lastLeft := some 0 } }
  s1.modTile t (fun x => { x with recs := x.recs.map (fun r => if r.seq = q then { r with left := true } else r) })

/-- Bytes of a record in the board. -/
def State.recBytes (s : State) (t : Fin 64) (r : BoardRec) : List Byte :=
  Memory.readBytes s.boardMem (tileBytes * t.val + 16 * r.unit) (16 * r.len)

/-- The header of a PAD of `k` units, PHASE 0 (R78). The fields to which R78 gives no value are 0.
DESIGN CHOICE (log entry 59). -/
def padBytes (k : Nat) : List Byte :=
  List.replicate 10 0 ++ leBytes 1 RecType.pad.code ++ [0, 0] ++ leBytes 1 k ++ [0, 0]

/-- Write a PAD over the units left before the end of an RQ (R78): its header; the other units of the PAD are left as they
were. DESIGN CHOICE (log entry 59). -/
def State.writePad (s : State) (r : Fin 21) (k : Nat) : State :=
  let c := s.rd F.HOST_CQ_STAT_WRITTEN r.val
  let size := s.ringSize r
  (s.writeEntry (s.ringBase r + 16 * (c % size)) (padBytes k) (phaseAt size c)).advance r k

/-- Write a record into an RQ: payload units first, then the header (R86). -/
def State.writeRecord (s : State) (r : Fin 21) (b : List Byte) : State :=
  let c := s.rd F.HOST_CQ_STAT_WRITTEN r.val
  let size := s.ringSize r
  let addr := s.ringBase r + 16 * (c % size)
  ((s.emitOut (.hostWrite (addr + 16) (b.drop 16))).writeEntry addr (b.take 16) (phaseAt size c)).advance r
    (b.length / 16)

/-- Units left before the end of a ring. -/
def State.unitsToEnd (s : State) (r : Fin 21) : Nat :=
  s.ringSize r - s.rd F.HOST_CQ_STAT_WRITTEN r.val % s.ringSize r

/-- A record of tile `t` may leave: the tile is SEALED and verified for the present burst or for one that begins (R487, R488). -/
def State.mayLeave (s : State) (t : Fin 64) : Bool :=
  (s.tile t).st == .sealed && (s.board.burst == some t.val || s.board.verified.contains t.val)

/-- The records that are next to leave: the oldest for each RQ with room, or the oldest of a satellite on the ring (R89, R488,
R512). -/
def State.nextLeaving (s : State) : List (Fin 64 × BoardRec) :=
  if !s.isOn .board then []
  else if s.sys.role == .satellite then
    if s.flag F.RING_STAT_JOINED && !s.flag F.RING_STAT_HALT_EGRESS then (s.oldestRec (fun _ => true)).toList else []
  else if s.mayDma then
    (List.finRange 4).filterMap (fun k =>
      if s.flag F.HOST_CQ_CFG_EN (16 + k.val) then
        (s.oldestRec (fun r => !r.event && s.routeOf r == k.val)).filter (fun x =>
          let r := (DevRing.rq k).idx
          decide (x.2.len + (if s.unitsToEnd r < x.2.len then s.unitsToEnd r else 0) ≤ s.ringRoom r))
      else none)
  else []

/-- Records that are about to leave SEALED tiles ask for the verification of those (R488); a tile that waits for it is not asked
for again. Several that ask at one moment stand in the order of their RQs. DESIGN CHOICE (log entry 22). -/
def State.askVerify (s : State) : State :=
  forAll s.nextLeaving (fun (x : Fin 64 × BoardRec) (s : State) =>
    if (s.tile x.1).st = .sealed && !s.mayLeave x.1 && !s.board.verify.contains x.1.val then
      { s with board := { s.board with verify := s.board.verify ++ [x.1.val] } }
    else s) s

/-- Write a record with the PAD that must precede it, and signal (R78, R89, R92). -/
def State.egressRecord (s : State) (k : Fin 4) (t : Fin 64) (rec : BoardRec) : State :=
  let r := (DevRing.rq k).idx
  let left := s.unitsToEnd r
  let pad := if left < rec.len then left else 0
  if s.ringRoom r < rec.len + pad then s
  else
    let s1 := if pad = 0 then s else s.writePad r pad
    ((((s1.writeRecord r (s.recBytes t rec)).markLeft t rec.seq).noteEntry r).checkSignal r).askVerify

/-- RECORD_EGRESS (R89): the oldest record routed to RQ `k` is written once it has room. Its tile is SEALED and has been
verified for the present burst (R487, R488). -/
def execRecordEgress (k : Fin 4) (s : State) : Out :=
  .next (
    if !s.mayDma || !s.isOn .board || s.sys.role == .satellite || !s.flag F.HOST_CQ_CFG_EN (16 + k.val) then s
    else
      match s.oldestRec (fun r => !r.event && s.routeOf r == k.val) with
      | none => s
      | some (t, rec) =>
        if s.mayLeave t then s.egressRecord k t rec else s)

/-! ### Verification (R487, R488) -/

/-- TILE_SEAL_DONE (R487): the tile's checksum is stored and the tile becomes SEALED. -/
def execTileSealDone (t : Fin 64) (s : State) : Out :=
  .next (
    if (s.tile t).st = .sealing then
      ((s.modTile t (fun x => { x with st := .sealed, crc := crc32c (Memory.tile s.boardMem t.val) })).count
        F.BRD_CNT_SEAL_COUNT).askVerify
    else s)

/-- A tile has been verified (R488, R490). -/
def State.tileVerified (s : State) (t : Fin 64) (crc : Word) : State :=
  let s1 := s.count F.BRD_CNT_VERIFY_COUNT
  if (s.tile t).st != .sealed then s1
  else if crc = (s.tile t).crc then
    { s1 with board := { s1.board with verified := s1.board.verified ++ [t.val],
                                       burst := if s1.board.burst = some t.val then none else s1.board.burst } }
  else
    (((s1.loseRecords t).modTile t (fun x => { x with st := .out })).setF F.BRD_ERR_TILE_FAIL).raise .tileFail
      (unitPd .board) (leBytes 1 t.val)

/-- TILE_VERIFY_DONE (R488, R490): the verifier has read the tile of its first request again, with the checksum `crc`. -/
def execTileVerifyDone (t : Fin 64) (crc : Word) (s : State) : Out :=
  .next (
    let s1 := s.askVerify
    if s.isOn .board && s1.board.verify.head? == some t.val then
      (({ s1 with board := { s1.board with verify := s1.board.verify.tail } }).tileVerified t crc).askVerify
    else s)

/-! ### Event egress (R81, R90) -/

/-- The EQ_OVERFLOW event follows once staging has room (R90). -/
def State.reportOverflow (s : State) : State :=
  if s.host.overflow = 0 || 64 ≤ s.host.staging.length then s
  else
    let n := s.host.overflow
    ({ s with host := { s.host with overflow := 0 } }).raise .eqOverflow unitSys (leBytes 2 n)

/-- Commit an event pair to the EQ (R80, R81, R86). -/
def State.commitEvent (s : State) (e : Event) : State :=
  let r := DevRing.eq.idx
  let c := s.rd F.HOST_CQ_STAT_WRITTEN r.val
  let size := s.ringSize r
  let b := eventBytes s.nextSeq s.sys.timebase s.originSerial (s.eventNow e)
  let addr := s.ringBase r + 16 * (c % size)
  let ph := phaseAt size c
  (((((s.takeSeq).writeEntry (addr + 16) (b.drop 16) ph).writeEntry addr (b.take 16) ph).advance r 2).noteEntry
    r).checkSignal r

/-- EVENT_EGRESS (R90): the oldest event pair in host staging is committed and written to the EQ. A satellite has no host
staging: its oldest waiting event is committed to the counting board (R508). DESIGN CHOICE (log entry 47). -/
def execEventEgress (s : State) : Out :=
  .next (
    if s.sys.role = .satellite then State.commitEvents 1 s
    else
      match s.host.staging with
      | [] => s
      | e :: rest =>
        let r := DevRing.eq.idx
        if s.mayDma && s.isOn .board && s.flag F.HOST_CQ_CFG_EN r.val && decide (2 ≤ s.ringRoom r) then
          (({ s with host := { s.host with staging := rest } }).commitEvent e).reportOverflow
        else s)

/-- RING_MOD_TIME_EXPIRY (R92): MOD_TIME has run out for the oldest unsignalled entry of a ring. -/
def execRingModTimeExpiry (r : DevRing) (s : State) : Out :=
  .next (
    if s.flag F.HOST_CQ_CFG_IRQ_EN r.idx.val && !(vget s.host.unsig r.idx).isEmpty && s.isOn .host then s.signal r.idx
    else s)

/-! ### Doorbells (R61 to R64) -/

/-- A rejected doorbell: HOST_ERR, the ring's DB_ERR when out of range, and HOST_FAULT (R63, R64). -/
def State.rejectDoorbell (s : State) (b kind ring addr : Nat) : State := (s.hostErr b kind ring addr).hostFault kind ring b

/-- Write of an SQ tail doorbell (R61, R63, R64). -/
def writeSqDoorbell (q : Fin 32) (w : Word) (s : State) : State :=
  let addr := 0x1000 + 8 * q.val
  let tail := bits w.toNat 15 0
  if !s.flag F.HOST_SQ_CFG_EN q.val then s.rejectDoorbell 3 0 q.val addr
  else if (tail + 65536 - s.rd F.HOST_SQ_STAT_FETCHED q.val) % 65536 ≤ 2 ^ s.rd F.HOST_SQ_CFG_SIZE q.val then
    s.wr F.DOORBELL_SQ_COUNT q.val tail
  else (s.setF F.HOST_SQ_STAT_DB_ERR q.val).rejectDoorbell 2 0 q.val addr

/-- SQ_TAIL_DOORBELL (R61). -/
def execSqTailDoorbell (q : Fin 32) (w : Word) (s : State) : Out :=
  .next (s.hostWrite (0x1000 + 8 * q.val) (writeSqDoorbell q w))

/-- Entries consumed up to a head leave the unsignalled entries (R93). -/
def State.consume (s : State) (r : Fin 21) (head : Nat) : State :=
  let w := s.rd F.HOST_CQ_STAT_WRITTEN r.val
  { s with host := { s.host with unsig := vmod s.host.unsig r (fun l =>
      l.filter (fun e => decide ((w + 65536 - e.1) % 65536 < (w + 65536 - head) % 65536))) } }

/-- Write of a head doorbell (R62, R63, R64, R93). -/
def writeHeadDoorbell (r : DevRing) (w : Word) (s : State) : State :=
  let i := r.idx
  let addr := 0x1100 + 8 * i.val
  let head := bits w.toNat 15 0
  let prev := s.rd F.DOORBELL_CQ_COUNT i.val
  let prod := s.rd F.HOST_CQ_STAT_WRITTEN i.val
  let kn := r.kindNo
  if !s.flag F.HOST_CQ_CFG_EN i.val then s.rejectDoorbell 3 kn.1 kn.2 addr
  else if (head + 65536 - prev) % 65536 ≤ (prod + 65536 - prev) % 65536 && !(r == .eq && head % 2 == 1) then
    (s.wr F.DOORBELL_CQ_COUNT i.val head).consume i head
  else (s.setF F.HOST_CQ_STAT_DB_ERR i.val).rejectDoorbell 2 kn.1 kn.2 addr

/-- HEAD_DOORBELL (R62). -/
def execHeadDoorbell (r : DevRing) (w : Word) (s : State) : Out :=
  .next (s.hostWrite (0x1100 + 8 * r.idx.val) (writeHeadDoorbell r w))

/-! ### Ring configuration (R97, R98, R101) -/

/-- HOST_SQ_STAT.IDLE (R100): no transaction of the SQ holds a slot and all its completions have been written. A plan
invocation that a RUN_PLAN of the SQ has started is none of them. DESIGN CHOICE (log entry 61). -/
def State.sqIdle (s : State) (q : Nat) : Bool := s.txns.all (fun t => t.sq != some q)

/-- Mark an SQ as waiting to be disabled (R101). -/
def State.setTearing (s : State) (q : Fin 32) (b : Bool) : State :=
  { s with host := { s.host with tearing := vset s.host.tearing q b } }

/-- A locked ring field: the write changes it while EN = 1 (R97). -/
def State.cfgBusy (s : State) (kind ring addr : Nat) : State := s.hostErr 4 kind ring addr

/-- Write a ring BASE or MOD field, taken only while EN = 0 (R97); reserved encodings keep the old value (R11). -/
def writeLocked (en : Bool) (f : Fld) (i v : Nat) (legal : Bool) (kind ring addr : Nat) (s : State) : State :=
  if !legal || s.rd f i == v then s
  else if en then s.cfgBusy kind ring addr
  else s.wr f i v

/-- Bring an SQ's counts to 0 when it is enabled (R97); FAULT clears with them (R104). DESIGN CHOICE (log entry 60). -/
def State.startSq (s : State) (q : Nat) : State :=
  (((s.wr F.HOST_SQ_STAT_FETCHED q 0).wr F.DOORBELL_SQ_COUNT q 0).wr F.HOST_SQ_DONE_DONE q 0).wr F.HOST_SQ_STAT_FAULT q 0

/-- Write of HOST_SQ_CFG[q] (R97, R98, R100, R101). A write with EN = 1 while the ring is being disabled leaves it so.
DESIGN CHOICE (log entry 60). -/
def writeSqCfg (q : Fin 32) (w : Nat) (s : State) : State :=
  let addr := 0x2108 + 0x20 * q.val
  let i := q.val
  let size := if 4 ≤ bits w 3 0 && bits w 3 0 ≤ 12 then bits w 3 0 else s.rd F.HOST_SQ_CFG_SIZE i
  let cq := bits w 11 8
  let s0 := s.wr F.HOST_SQ_CFG_STOP i (bits w 17 17)
  if s.flag F.HOST_SQ_CFG_EN i then
    let s1 := if size == s.rd F.HOST_SQ_CFG_SIZE i && cq == s.rd F.HOST_SQ_CFG_CQ i then s0 else s0.cfgBusy 0 i addr
    if bit w 16 then s1
    else if s.sqIdle i then (s1.wr F.HOST_SQ_CFG_EN i 0).setTearing q false
    else s1.setTearing q true
  else
    let s1 := (s0.wr F.HOST_SQ_CFG_SIZE i size).wr F.HOST_SQ_CFG_CQ i cq
    if !bit w 16 then s1
    else if s.flag F.HOST_CQ_CFG_EN cq then ((s1.wr F.HOST_SQ_CFG_EN i 1).startSq i).setTearing q false
    else s1.hostErr 5 0 i addr

/-- Bring a device-written ring's counts to 0 when it is enabled; the EQ's LOST also (R90, R97). -/
def State.startRing (s : State) (r : Fin 21) : State :=
  let s1 := ((s.wr F.HOST_CQ_STAT_WRITTEN r.val 0).wr F.DOORBELL_CQ_COUNT r.val 0).wr F.HOST_CQ_STAT_LOST r.val 0
  { s1 with host := { s1.host with unsig := vset s1.host.unsig r [] } }

/-- Write of the CFG register of a device-written ring (R97, R98). -/
def writeDevCfg (r : DevRing) (w : Nat) (s : State) : State :=
  let i := r.idx.val
  let kn := r.kindNo
  let addr := 0x2508 + 0x20 * i
  let size := if 4 ≤ bits w 3 0 && bits w 3 0 ≤ 12 then bits w 3 0 else s.rd F.HOST_CQ_CFG_SIZE i
  let vec := bits w 8 4
  let s0 := s.wr F.HOST_CQ_CFG_IRQ_EN i (bits w 17 17)
  if s.flag F.HOST_CQ_CFG_EN i then
    let s1 := if size == s.rd F.HOST_CQ_CFG_SIZE i && vec == s.rd F.HOST_CQ_CFG_VECTOR i then s0
      else s0.cfgBusy kn.1 kn.2 addr
    let s2 :=
      if bit w 16 then s1
      else if kn.1 == 1 && (List.range 32).any (fun q => s.flag F.HOST_SQ_CFG_EN q && s.rd F.HOST_SQ_CFG_CQ q == kn.2) then
        s1.hostErr 5 kn.1 kn.2 addr
      else s1.wr F.HOST_CQ_CFG_EN i 0
    s2.checkSignal r.idx
  else
    let s1 := (s0.wr F.HOST_CQ_CFG_SIZE i size).wr F.HOST_CQ_CFG_VECTOR i vec
    if bit w 16 then (s1.wr F.HOST_CQ_CFG_EN i 1).startRing r.idx else s1

/-- Write of the MOD register of a device-written ring (R97). -/
def writeDevMod (r : DevRing) (w : Nat) (s : State) : State :=
  let i := r.idx.val
  let kn := r.kindNo
  let addr := 0x250C + 0x20 * i
  let en := s.flag F.HOST_CQ_CFG_EN i
  writeLocked en F.HOST_CQ_MOD_MOD_TIME i (bits w 25 16) (bits w 25 16 != 0) kn.1 kn.2 addr
    (writeLocked en F.HOST_CQ_MOD_MOD_CNT i (bits w 7 0) true kn.1 kn.2 addr s)

/-- The device-written ring of an index. -/
def devRingOf (i : Nat) : DevRing :=
  if i < 16 then .cq (ix 15 i) else if i < 20 then .rq (ix 3 (i - 16)) else .eq

/-- A write to a ring's BASE, CFG or MOD register (R97). Other addresses: no effect. -/
def writeRingCfg (addr : Nat) (w : Word) (s : State) : State :=
  let v := w.toNat
  if 0x2100 ≤ addr && addr < 0x2500 then
    let q : Fin 32 := ix 31 ((addr - 0x2100) / 0x20)
    let en := s.flag F.HOST_SQ_CFG_EN q.val
    if (addr - 0x2100) % 0x20 = 0 then writeLocked en F.HOST_SQ_BASE_LO_BASE q.val (bits v 31 6) true 0 q.val addr s
    else if (addr - 0x2100) % 0x20 = 4 then writeLocked en F.HOST_SQ_BASE_HI_BASE q.val v true 0 q.val addr s
    else if (addr - 0x2100) % 0x20 = 8 then writeSqCfg q v s
    else s
  else if 0x2500 ≤ addr && addr < 0x27A0 then
    let r := devRingOf ((addr - 0x2500) / 0x20)
    let en := s.flag F.HOST_CQ_CFG_EN r.idx.val
    if (addr - 0x2500) % 0x20 = 0 then
      writeLocked en F.HOST_CQ_BASE_LO_BASE r.idx.val (bits v 31 6) true r.kindNo.1 r.kindNo.2 addr s
    else if (addr - 0x2500) % 0x20 = 4 then
      writeLocked en F.HOST_CQ_BASE_HI_BASE r.idx.val v true r.kindNo.1 r.kindNo.2 addr s
    else if (addr - 0x2500) % 0x20 = 8 then writeDevCfg r v s
    else if (addr - 0x2500) % 0x20 = 12 then writeDevMod r v s
    else s
  else s

/-- HOST_RING_CFG_WRITE (R97). -/
def execHostRingCfgWrite (addr : Nat) (w : Word) (s : State) : Out :=
  .next (if 0x2100 ≤ addr && addr < 0x27A0 then s.hostWrite addr (writeRingCfg addr w) else s)

/-- SQ_TEARDOWN_DONE (R101): an SQ whose EN was cleared while busy has become idle; EN now reads 0. -/
def execSqTeardownDone (q : Fin 32) (s : State) : Out :=
  .next (if vget s.host.tearing q && s.sqIdle q.val then (s.wr F.HOST_SQ_CFG_EN q.val 0).setTearing q false else s)

/-! ### Bus and reset -/

/-- Send the messages of vectors that became free to go (MSI-X rules, R95). DESIGN CHOICE (log entry 6). -/
def State.flushPba (s : State) : State :=
  forAll (List.range 32) (fun v s =>
    if s.host.pba.getLsbD v && s.host.msixEnable && !s.host.msixMask && !s.flag F.MSIX_CTRL_MASK v && s.host.bme
        && !s.host.d3 then
      ({ s with host := { s.host with pba := s.host.pba &&& ~~~(1#32 <<< v) } }).emitOut (.msi v)
    else s) s

/-- PCIE_BME_D3_CHANGE (R95, R102): the configuration-space bits that gate memory requests and messages change; requests
and messages stop or resume. DESIGN CHOICE (log entry 6). -/
def execPcieBmeD3Change (bme d3 msixOn msixMask : Bool) (s : State) : Out :=
  .next (
    if s.isOn .host then
      ({ s with host := { s.host with bme := bme, d3 := d3, msixEnable := msixOn, msixMask := msixMask } }).flushOwed.flushPba
    else s)

/-- The accesses that BAR0 accepts (R51): naturally aligned, of 32 or 64 bits. -/
def bar0Accepts (addr size : Nat) : Bool := (size == 4 && addr % 4 == 0) || (size == 8 && addr % 8 == 0)

/-- BAR0_BAD_ACCESS (R51): an access of `size` bytes that BAR0 does not accept: a read completes with Unsupported Request; a
write is dropped and sets HOST_ERR.ACC_SIZE. An access that BAR0 accepts is none of these. -/
def execBar0BadAccess (write : Bool) (addr size : Nat) (s : State) : Out :=
  .next (
    if !s.isOn .host || bar0Accepts addr size then s
    else if write then s.hostErr 6 0 0 addr
    else s.emitOut (.unsupported addr))

/-- BAR2_WRITE (R52, R105): dropped, sets HOST_ERR.BAR2_WR; the address captured is the offset in BAR2.
DESIGN CHOICE (log entry 52). -/
def execBar2Write (off : Nat) (s : State) : Out := .next (if s.isOn .host then s.hostErr 7 0 0 off else s)

/-- A read of `n` bytes from BAR2 offset `off` (R52): the bytes of the counting board as they stand, zeros while BOARD is not
ON. It changes nothing (R88). -/
def State.bar2Read (s : State) (off n : Nat) : List Byte :=
  if s.isOn .board then Memory.readBytes s.boardMem off n else List.replicate n 0

/-- A HOST reset (R103): registers and MSI-X table to reset values; descriptors fetched but not dispatched are discarded;
completions of dispatched transactions and waiting events are discarded and counted; SYS_HOST_MARK takes the last SEQ.
DEDUCED (log entries 26 and 29). -/
def State.hostReset (s : State) : State :=
  let s1 := s.resetRegs (fun a => decide (0x1000 ≤ a) && decide (a < 0x3000))
  let evs := s1.host.staging.length
  let done := s1.txns.countP (fun t => t.sq.isSome && !t.live)
  let s2 := { s1 with
    txns := (s1.txns.filter (fun (t : Txn) => t.sq.isNone || (t.live && t.dispatched))).map
      (fun (t : Txn) => if t.sq.isSome then { t with orphan := true } else t),
    host := { HostPart.reset with owed := s1.host.owed } }
  ((s2.countSat F.SYS_HOST_DROP_COMPL 0 done).countSat F.SYS_HOST_DROP_EVT 0 evs).wr F.SYS_HOST_MARK_SEQ 0 s.sys.seq.toNat

/-- Report reset sources not yet reported (R606). DEDUCED (log entry 26). -/
def State.reportReset (s : State) : State :=
  ({ s with pwr := { s.pwr with unreported := 0 } }).raise .resetCause unitDev (leBytes 1 s.pwr.unreported)

/-- Note a reset source in RST_CAUSE (R606). -/
def State.noteReset (s : State) (b : Nat) : State :=
  ({ s with pwr := { s.pwr with unreported := s.pwr.unreported ||| (1 <<< b) } }).wr F.RST_CAUSE_CAUSE 0
    (s.rd F.RST_CAUSE_CAUSE ||| (1 <<< b))

/-- The pads of HOST are released by its reset (R600). -/
def State.freeHostPads (s : State) : State :=
  s.wr F.PWR_PAD_RELEASE_HELD 0 (s.rd F.PWR_PAD_RELEASE_HELD - (s.rd F.PWR_PAD_RELEASE_HELD &&& 2 ^ Domain.host.num.val))

/-- A HOST reset catches HOST in TRANSIT (R605): it is OFF at once, and what enters or wakes it goes on from OFF.
DEDUCED (log entry 26). -/
def PwrRun.hostReset (r : PwrRun) : PwrRun :=
  { r with cur := r.cur.map (fun c => if c.1 = .host then (.host, .off) else c),
           left := if r.pos.contains .host then r.left.map (fun p => if p.1 = .host then (.host, .off) else p) else r.left }

/-- PERST_N (R103, R605): HOST is reset. It comes back ON if it was ON; otherwise it is OFF. DEDUCED (log entry 26). -/
def execPerstReset (s : State) : Out :=
  .next (
    let s1 := (s.noteReset 2).freeHostPads.hostReset
    if s.isOn .host then s1.reportReset
    else { s1 with pwr := { s1.pwr with st := vset s1.pwr.st Domain.host.num .off, run := s1.pwr.run.map PwrRun.hostReset } })

/-! ### Timebase and occupancy registers (R46 to R48) -/

/-- SYS_TB_LO_READ (R46): the low bits; the high bits are latched for the next read of SYS_TB_HI. -/
def execSysTbLoRead (s : State) : Out :=
  .next (
    if s.isOn .core then
      ({ s with sys := { s.sys with tbLatch := some (s.sys.timebase.extractLsb' 32 32) } }).emitOut
        (.readData 0x48 (s.sys.timebase.toNat % 2 ^ 32))
    else (s.accessFault 0x48 false false).emitOut (.readData 0x48 0))

/-- SYS_TB_HI_READ (R46): the latched high bits, or the live ones with UNLATCHED set. -/
def execSysTbHiRead (s : State) : Out :=
  .next (
    if s.isOn .core then
      match s.sys.tbLatch with
      | some h => ({ s with sys := { s.sys with tbLatch := none } }).emitOut (.readData 0x4C h.toNat)
      | none =>
        (s.setF F.SYS_TB_STAT_UNLATCHED).emitOut (.readData 0x4C (s.sys.timebase.toNat / 2 ^ 32))
    else (s.accessFault 0x4C false false).emitOut (.readData 0x4C 0))

/-- Write of SYS_TB_LO (R47). -/
def writeTbLo (w : Word) (s : State) : State := { s with sys := { s.sys with tbStaged := w } }

/-- SYS_TB_LO_WRITE (R47). -/
def execSysTbLoWrite (w : Word) (s : State) : Out := .next (s.hostWrite 0x48 (writeTbLo w))

/-- Write of SYS_TB_HI: the timebase takes both halves and COARSE clears (R47). A catch-up with an earlier TIME_SYNC (R522)
ends with the load. DESIGN CHOICE (log entry 58). -/
def writeTbHi (w : Word) (s : State) : State :=
  ({ s with sys := { s.sys with timebase := w ++ s.sys.tbStaged }, ring := { s.ring with hold := 0 } }).wr
    F.SYS_TB_STAT_COARSE 0 0

/-- SYS_TB_HI_WRITE (R47). -/
def execSysTbHiWrite (w : Word) (s : State) : Out := .next (s.hostWrite 0x4C (writeTbHi w))

/-- Write of SYS_SLOT_PEAK (R48). -/
def writeSlotPeak (w : Word) (s : State) : State :=
  if bit w.toNat 31 then s.wr F.SYS_SLOT_PEAK_PEAK 0 s.slotsUsed else s

/-- SLOT_PEAK_CLR (R48): PEAK becomes the present occupancy. -/
def execSlotPeakClr (w : Word) (s : State) : Out := .next (s.hostWrite 0x64 (writeSlotPeak w))

/-- Write of SYS_HOST_DROP (R103). -/
def writeHostDrop (w : Word) (s : State) : State :=
  if bit w.toNat 31 then (s.wr F.SYS_HOST_DROP_COMPL 0 0).wr F.SYS_HOST_DROP_EVT 0 0 else s

/-- SYS_HOST_DROP_CLR (R103). -/
def execSysHostDropClr (w : Word) (s : State) : Out := .next (s.hostWrite 0x70 (writeHostDrop w))

end Sys2Proof.Machine
end

