-- ==== Sys2Proof/Machine/TimerOps.lean ====
section
/-! DEFINITION. The general timers: gate and capture signals, ticks, captures (spec/13_timers_crc_serial.md, R549 to R559). -/

namespace Sys2Proof.Machine
open Sys2Proof

/-- Change the round state. -/
def State.modRound (s : State) (f : RoundPart → RoundPart) : State := { s with round := f s.round }

/-- A start of a boundary arises (R261). -/
def State.roundStart (s : State) (k : Nat) : State := s.modRound (fun r => { r with starts := r.starts ++ [(k, none)] })

/-- Timer `n`. -/
def State.timer (s : State) (n : Fin 16) : Timer := vget s.tmr n

/-- Change timer `n`. -/
def State.modTimer (s : State) (n : Fin 16) (f : Timer → Timer) : State := { s with tmr := vmod s.tmr n f }

/-! ### Gate, freeze, ticks (R549 to R552, R555, R559, R560) -/

/-- A carrier in RAMP or ON, which ROD_CARRIER shows as 1 (R171, R555). -/
def Carrier.shown (c : Carrier) : Bool := c == .rampUp || c == .rampDown || c == .on

/-- Level of a gate or capture signal (R555). DESIGN CHOICE (log entry 37). -/
def State.signalLevel (s : State) (src : Nat) : Bool :=
  if src = 0 then true
  else if src ≤ 8 then bit s.gpio.tgate (src - 1)
  else if 0x10 ≤ src && src ≤ 0x1F then bit (s.rd F.GPIO_IN_PINS) (src - 0x10)
  else if 0x20 ≤ src && src ≤ 0x37 then s.isOn (bankOf (src - 0x20)) && (s.rod (ix 23 (src - 0x20))).carrier.shown
  else if src = 0x38 then (match s.acc.run with | some r => r.anyFrame | none => false)
  else false

/-- Signals of R555. -/
def legalSignal (v : Nat) : Bool :=
  decide (v ≤ 8) || (decide (0x10 ≤ v) && decide (v ≤ 0x1F)) || (decide (0x20 ≤ v) && decide (v ≤ 0x38))

/-- Timer `n` is frozen by the debug halt (R559). -/
def State.frozen (s : State) (n : Fin 16) : Bool := s.flag F.TMR_CTL_DBG_FREEZE n.val && s.flag F.DBG_STAT_HALTED

/-- Timer `n` takes ticks (R549, R555, R559). -/
def State.ticking (s : State) (n : Fin 16) : Bool :=
  s.isOn .core && s.flag F.TMR_STAT_RUN n.val && !s.frozen n
    && s.signalLevel (s.rd F.TMR_CTL_GATE_SRC n.val) == s.flag F.TMR_CTL_GATE_LVL n.val

/-- Flags that rise: MATCH, OVF, CAPT; those that were 0 with their enable bit set make one TIMER event (R560). -/
def State.raiseFlags (s : State) (n : Fin 16) (m o c : Bool) : State :=
  let up := fun (b : Bool) (fl ie : Fld) => b && !s.flag fl n.val && s.flag ie n.val
  let d := b2n (up m F.TMR_STAT_MATCH F.TMR_CTL_IE_MATCH) + 2 * b2n (up o F.TMR_STAT_OVF F.TMR_CTL_IE_OVF)
    + 4 * b2n (up c F.TMR_STAT_CAPT F.TMR_CTL_IE_CAPT)
  let s1 := when m (fun (s : State) => s.setF F.TMR_STAT_MATCH n.val)
    (when o (fun (s : State) => s.setF F.TMR_STAT_OVF n.val) (when c (fun (s : State) => s.setF F.TMR_STAT_CAPT n.val) s))
  if d = 0 then s1 else s1.raise .timer (unitTmr n.val) (leBytes 1 d)

/-- A tick wraps the count. -/
def Timer.wraps (t : Timer) : Bool := t.count + 1 == 0

/-- A tick matches (R551). -/
def State.matches (s : State) (n : Fin 16) : Bool :=
  s.flag F.TMR_CTL_CMP_EN n.val && decide ((s.timer n).period.toNat ≤ ((s.timer n).count + 1).toNat)

/-- A match starts a round boundary when it is the selected one (R261). -/
def State.timerRound (s : State) (n : Fin 16) : State :=
  if s.flag F.ROD_ROUND_CFG_TMR_EN && s.rd F.ROD_ROUND_CFG_TMR_SEL == n.val then s.roundStart 2 else s

/-- One tick (R551). -/
def State.tick (s : State) (n : Fin 16) : State :=
  let o := (s.timer n).wraps
  let m := s.matches n
  let periodic := s.flag F.TMR_CTL_MODE n.val
  let s1 := s.modTimer n (fun t => { t with count := if m && periodic then 0 else t.count + 1 })
  let s2 := if m && !periodic then s1.wr F.TMR_STAT_RUN n.val 0 else s1
  let s3 := s2.raiseFlags n m o false
  if m then s3.timerRound n else s3

/-- A tick of the clock source `clk` of timer `n` reaches it (R549, R550, R555). -/
def State.takes (s : State) (n : Fin 16) (clk : Nat) : Bool := s.rd F.TMR_CTL_CLK n.val == clk && s.ticking n

/-- One tick of a clock source reaches the timers that `p` names, in rising order (R550). -/
def State.tickAll (s : State) (clk : Nat) (p : State → Fin 16 → Bool) : State :=
  forAll (List.finRange 16) (fun (n : Fin 16) (s : State) => if p s n && s.takes n clk then s.tick n else s) s

/-- A capture of the present count (R556, R558, R560). -/
def State.capture (s : State) (n : Fin 16) : State :=
  let c := (s.timer n).count
  let s1 :=
    if (s.timer n).pairOpen then
      if s.flag F.TMR_STAT_CAPT_PEND n.val then s.setF F.TMR_STAT_CAPT_LOST n.val
      else (s.modTimer n (fun t => { t with shadow := c })).setF F.TMR_STAT_CAPT_PEND n.val
    else s.modTimer n (fun t => { t with capt := c })
  s1.raiseFlags n false false true

/-- A capture signal shows an edge: every timer that has chosen the signal and the edge captures (R555, R556). -/
def State.signalEdge (s : State) (src : Nat) (rising : Bool) : State :=
  if s.isOn .core then
    forAll (List.finRange 16) (fun (n : Fin 16) (s : State) =>
      if s.rd F.TMR_CTL_CAPT_SRC n.val == src && bit (s.rd F.TMR_CTL_CAPT_EDGE n.val) (if rising then 0 else 1) then s.capture n
      else s) s
  else s

/-- The edges of up to `k` signals from `src` on whose levels change from the bits of `old` to those of `new`. -/
def State.signalEdges (s : State) (src k old new : Nat) : State :=
  if old = new then s
  else forAll (List.range k) (fun (i : Nat) (s : State) =>
    if bit old i != bit new i then s.signalEdge (src + i) (bit new i) else s) s

/-- The carrier of rod `n` changes: an edge of its FIELD signal (R555). -/
def State.fieldEdge (s : State) (n : Fin 24) (was now : Carrier) : State :=
  if was.shown == now.shown then s else s.signalEdge (0x20 + n.val) now.shown

/-- The levels of TMR_GATE[7:0] become `tgate`, after the ticks of their cycle. -/
def State.gateEdges (s : State) (tgate : Nat) : State :=
  let old := s.gpio.tgate
  ({ s with gpio := { s.gpio with tgate := tgate % 256 } }).signalEdges 1 8 old (tgate % 256)

end Sys2Proof.Machine
end

