-- ==== Sys2Proof/Machine/RodOps.lean ====
section
/-! DEFINITION. Shared operations of the rods: profiles, carrier, field budget, zones, exchanges
(spec/03_rods.md, spec/04_field_sharing.md). -/

namespace Sys2Proof.Machine
open Sys2Proof

/-! ### Profiles (R121, R126, R139) -/

/-- A combination that R126 allows. -/
def Profile.legal (p : Profile) : Bool :=
  let ask := decide (8 ≤ p.depth) && decide (p.depth ≤ 30)
  if p.proto = 0 then
    decide (p.txRate ≤ 1) && (decide (p.rxRate ≤ 1) || (p.rxRate == 2 && !p.subc)) && (ask || p.depth == 100) && !p.l4
  else if p.proto = 1 then !p.subc && p.depth == 100
  else if p.proto = 2 then !p.subc && ask
  else false

/-- Default PAUSE (R121). -/
def defaultPause (proto txRate : Nat) : Nat :=
  if proto = 0 then 128 else if proto = 1 then 32 / 2 ^ txRate else 0

/-- Default FDT_MIN (R139). -/
def defaultFdt (proto : Nat) : Nat := if proto = 0 then 4096 else 1024

/-- Default RESP_WAIT (R139). -/
def defaultWait (proto rxRate : Nat) (l4 : Bool) : Nat :=
  if proto = 0 then (if rxRate = 0 then 8704 else if rxRate = 1 then 5632 else 5120)
  else if proto = 1 then (if l4 then 66560 else 1536)
  else (if l4 then 68096 else 10240)

/-- Default NEXT_MIN (R139). -/
def defaultNext (proto : Nat) : Nat := if proto = 0 then 4192 else if proto = 1 then 1172 else 1792

/-- A value, or its default when 0. -/
def orDefault (v d : Nat) : Nat := if v = 0 then d else v

/-- Profile `p` of rod `n` as its registers hold it, defaults filled in. -/
def State.profile (s : State) (n p : Nat) : Profile :=
  let i := 16 * n + p
  let proto := s.rd F.ROD_PMODE_PROTO i
  let rx := s.rd F.ROD_PMODE_RX_RATE i
  let tx := s.rd F.ROD_PMODE_TX_RATE i
  let l4 := s.flag F.ROD_PMODE_L4 i
  ⟨proto, l4, tx, rx, s.flag F.ROD_PMODE_SUBC i, s.rd F.ROD_PMODE_DEPTH i,
    orDefault (s.rd F.ROD_PMODE_PAUSE i) (defaultPause proto tx), orDefault (s.rd F.ROD_PFDT_FDT_MIN i) (defaultFdt proto),
    orDefault (s.rd F.ROD_PWAIT_RESP_WAIT i) (defaultWait proto rx l4),
    orDefault (s.rd F.ROD_PFDT_NEXT_MIN i) (defaultNext proto)⟩

/-- The settings of rod `n` in its registers (R22). -/
def State.rodSnap (s : State) (n : Nat) : RodSnap :=
  ⟨(List.range 4).map (s.profile n), s.rd F.ROD_TX_POWER n, s.rd F.ROD_PHASE_OFFSET n, s.rd F.ROD_RX_GAIN n,
    s.flag F.ROD_RX_AGC n, s.rd F.ROD_FIELD_GUARD n, s.flag F.FLD_CTL_COMB_EN, s.rd F.ROD_SPEC_CFG_WRITE_WAIT⟩

/-- Profile `p` of kept settings. -/
def RodSnap.prof (r : RodSnap) (p : Nat) : Profile := r.profs.getD p ⟨3, false, 0, 0, false, 0, 0, 0, 0, 0⟩

/-! ### Field budget (R115, R201 to R203) -/

/-- Nominal RF output of a power code in mW (R115). -/
def nominal (code : Nat) : Nat := [25, 32, 40, 50, 63, 80, 100, 125, 160, 200, 250, 315, 400].getD code 0

/-- The transaction that rod `n` carries out, apart from STOP_PLANs that wait for a PLAN_END (R141). -/
def State.rodBusy? (s : State) (n : Fin 24) : Option Txn :=
  s.txns.find? (fun t => t.unit == n.val && t.isRunning && t.op != 6)

/-- Whose settings are in force on rod `n` (R22): the transaction that it carries out, otherwise its plan, otherwise the
last one dispatched. With them the owner of a start made for it; none: the plan. DEDUCED (log entry 68). -/
def State.rodInForce (s : State) (n : Fin 24) : Option Nat × Option RodSnap :=
  match s.rodBusy? n with
  | some t => (some t.id, t.snap)
  | none => match (s.rod n).plan with
    | some p => (none, some p.snap)
    | none => (none, (s.rod n).snap)

/-- Settings in force for exchange `x`: those of its transaction, or of the plan (R22). -/
def State.snapOf (s : State) (n : Fin 24) (x : Exchange) : Option RodSnap :=
  match x.txn with
  | some id => (s.txn? id).bind (·.snap)
  | none => (s.rod n).plan.map (·.snap)

/-- The code at which the field budget counts a rod (R201); none: it is not counted. -/
def Rod.counted (r : Rod) : Option Nat :=
  match r.carrier with
  | .rampUp => some r.goal
  | .rampDown => some r.code
  | .on => if r.code ≤ r.goal then some r.goal else some r.old
  | _ => none

/-- Contribution of a rod to the budget sum in mW. -/
def Rod.load (r : Rod) : Nat := match r.counted with | some c => nominal c | none => 0

/-- The budget sum USED (R201). -/
def State.budgetUsed (s : State) : Nat := (s.rods.toList.map Rod.load).sum

/-- The limit in force (R202, R207). -/
def State.budgetLimit (s : State) : Nat :=
  if s.field.throttle then min (s.rd F.FLD_BUDGET_LIMIT) (s.rd F.FLD_BUDGET_THR_LIMIT) else s.rd F.FLD_BUDGET_LIMIT

/-- The start of rod `n` to code `b` fits under the limit (R202). -/
def State.startFits (s : State) (n : Fin 24) (b : Nat) : Bool :=
  decide (s.budgetUsed + nominal b ≤ s.budgetLimit + (s.rod n).load)

/-- A start of rod `n` waits in the budget queue. -/
def State.inQueue (s : State) (n : Nat) : Bool := s.field.queue.any (fun p => p.rod == n)

/-- A start of rod `n` for owner `o` waits in the budget queue. -/
def State.startQueued (s : State) (n : Nat) (o : Option Nat) : Bool :=
  s.field.queue.any (fun p => p.rod == n && p.owner == o)

/-- The budget queue is replaced. -/
def State.setQueue (s : State) (q : List Start) : State := { s with field := { s.field with queue := q } }

/-- Take every start of rod `n` out of the budget queue. -/
def State.dequeue (s : State) (n : Nat) : State := s.setQueue (s.field.queue.filter (fun p => p.rod != n))

/-- Take the starts of owner `o` on rod `n` out of the budget queue (R203, R204, R217). -/
def State.dequeueOf (s : State) (n : Nat) (o : Option Nat) : State :=
  s.setQueue (s.field.queue.filter (fun p => !(p.rod == n && p.owner == o)))

/-- Power stepping toward code `b` begins (R117, R201). -/
def Rod.aim (b : Nat) (r : Rod) : Rod := { r with goal := b, old := if r.goal < r.code then r.old else r.code }

/-- An allowed start is made: a carrier ramps up at the code, or an ON carrier begins stepping up (R111, R117, R118). -/
def State.makeStart (s : State) (n : Fin 24) (b : Nat) : State :=
  if (s.rod n).carrier = .on then s.modRod n (Rod.aim b)
  else
    let s1 := s.modRod n (fun r =>
      { r with carrier := .rampUp, code := b, goal := b, old := b, guard := false, phase := r.phaseGoal })
    ({ s1 with field := { s1.field with sourced := n.val :: s1.field.sourced } }).fieldEdge n (s.rod n).carrier .rampUp

/-- Speaker of a zone. -/
def State.speaker (s : State) (z : Fin 8) : Option Nat := vget s.field.speaker z

/-- Set the speaker of a zone. -/
def State.setSpeaker (s : State) (z : Fin 8) (v : Option Nat) : State :=
  { s with field := { s.field with speaker := vset s.field.speaker z v } }

/-- The exchange that waits in front of the rod is the first of its arbitration unit (R190). -/
def Exchange.opensUnit (x : Exchange) : Bool :=
  match x.purpose with
  | .transceive => true
  | .inv15 k => k == 0
  | .reqA => true
  | .reqB k => k == 1
  | _ => false

/-- The conditions of the rod's first frame no longer hold: its request ends, and a grant of which it has made no use goes
back (R191: waiting for the budget never holds a grant). -/
def State.dropRequest (s : State) (n : Fin 24) : State :=
  let s1 := s.modRod n (fun r => { r with req := none })
  match (s.rod n).zone, (s.rod n).air with
  | some z, some x =>
    if s.speaker (ix 7 z) == some n.val && x.phase == .ready && x.opensUnit then s1.setSpeaker (ix 7 z) none else s1
  | _, _ => s1

/-- A start of owner `o` arises: made at once when no start waits and it fits, otherwise it joins the queue (R203). -/
def State.askStart (s : State) (n : Fin 24) (b : Nat) (o : Option Nat) : State :=
  if s.startQueued n.val o then s
  else if s.field.queue.isEmpty && s.startFits n b then s.makeStart n b
  else (s.setQueue (s.field.queue ++ [⟨n.val, b, o⟩])).dropRequest n

/-- An ON carrier is to have power code `b` for owner `o` (R117): a lower code starts stepping at once, a higher one is a
start under the field budget. DEDUCED (log entry 68). -/
def State.setPower (s : State) (n : Fin 24) (b : Nat) (o : Option Nat) : State :=
  if (s.rod n).carrier = .on then
    if b ≤ (s.rod n).goal then s.modRod n (Rod.aim b) else s.askStart n b o
  else s

/-- An ON carrier takes the power code of the settings in force (R22, R117). -/
def State.powerInForce (s : State) (n : Fin 24) : State :=
  onSome (s.rodInForce n).2 (fun (k : RodSnap) (s : State) => s.setPower n k.power (s.rodInForce n).1) s

/-- Settings `k` come into force on rod `n` (R22, R118): the phase of an ON carrier moves at once, another one's at its next
start. -/
def State.takePhase (s : State) (n : Fin 24) (k : RodSnap) : State :=
  s.modRod n (fun r =>
    { r with snap := some k, phaseGoal := k.phase, phase := if r.carrier = .on then k.phase else r.phase })

/-- The settings in force, of the transaction or plan that rod `n` now carries out, reach its carrier (R22, R117, R118). -/
def State.settingsInForce (s : State) (n : Fin 24) : State :=
  (onSome (s.rodInForce n).2 (fun (k : RodSnap) (s : State) => s.takePhase n k) s).powerInForce n

/-- A start queued for transaction `id` of rod `n` is the plan's from now on (R217). -/
def State.passStart (s : State) (n id : Nat) : State :=
  s.setQueue (s.field.queue.map (fun p => if p.rod == n && p.owner == some id then { p with owner := none } else p))

/-! ### Carrier (R109 to R114) -/

/-- The pads of a domain's group are held (R600). -/
def State.padsHeld (s : State) (d : Domain) : Bool := bit (s.rd F.PWR_PAD_RELEASE_HELD) d.num.val

/-- A survey is under way (R172). -/
def State.surveyBusy (s : State) : Bool := s.field.survey != .idle

/-- Ramp the carrier of rod `n` down (R114); its request ends. Its waiting starts keep their places (R203). -/
def State.rampDown (s : State) (n : Fin 24) : State :=
  let r := s.rod n
  if r.carrier = .rampUp || r.carrier = .on then
    let s1 := (s.dropRequest n).modRod n (fun r =>
      { r with carrier := .rampDown, guard := false, goal := r.code, rampAfter := false, agcGain := none })
    { s1 with field := { s1.field with notOn := n.val :: s1.field.notOn } }
  else s

/-- Is rod `n` listening to an exchange of its zone (R196)? -/
def State.listening (s : State) (n : Nat) : Bool :=
  s.rods.toList.any (fun r => match r.air with | some x => x.listeners.contains n | none => false)

/-- Ramp down as FIELD_OFF does: a listener ramps down when the exchange ends (R149). -/
def State.fieldOff (s : State) (n : Fin 24) : State :=
  if s.listening n.val then s.modRod n (fun r => { r with rampAfter := true }) else s.rampDown n

/-! ### Zones (R188 to R195) -/

/-- Rods of a zone. -/
def State.zoneRods (s : State) (z : Nat) : List (Fin 24) := allRods.filter (fun n => (s.rod n).zone == some z)

/-- An air exchange of a zone is in progress. -/
def State.zoneBusy (s : State) (z : Nat) : Bool :=
  (s.zoneRods z).any (fun n => match (s.rod n).air with | some x => x.phase != .ready | none => false)

/-- Every condition of the rod's first frame but the grant holds (R191). -/
def State.readyToSpeak (s : State) (n : Fin 24) : Bool :=
  let r := s.rod n
  match r.air with
  | some x => x.phase == .ready && r.carrier == .on && r.guard && r.code == r.goal && !s.startQueued n.val x.txn
      && !r.gap && !r.lateRx
  | none => false

/-- The rod holds its zone's grant, or is in no zone. -/
def State.mayGrant (s : State) (n : Fin 24) : Bool :=
  match (s.rod n).zone with
  | some z => s.speaker (ix 7 z) == some n.val
  | none => true

/-- A rod whose other conditions hold requests its zone's grant (R191). -/
def State.raiseReq (s : State) (n : Fin 24) : State :=
  let r := s.rod n
  if r.zone.isSome && s.readyToSpeak n && r.req.isNone && !s.mayGrant n then
    s.modRod n (fun r =>
      { r with req := some ⟨match r.air with | some x => x.txn.isSome | none => false, 0⟩ })
  else s

/-- The grant ends at the unit's last end event (R195). -/
def State.releaseGrant (s : State) (n : Fin 24) : State :=
  match (s.rod n).zone with
  | some z =>
    let s1 := s.modRod n (fun r => { r with req := none })
    if s.speaker (ix 7 z) = some n.val then s1.setSpeaker (ix 7 z) none else s1
  | none => s

/-! ### Exchanges (R133 to R146) -/

/-- Add an exchange's counts to ROD_CNT_*, ROD_ERR and GAIN_USED (R146, R170). -/
def State.addCounts (s : State) (n : Nat) (c : ExCount) : State :=
  let s1 := (((((s.count F.ROD_CNT_TX_COUNT n c.tx).count F.ROD_CNT_OK_COUNT n c.ok).count F.ROD_CNT_CRC_COUNT n
    c.crc).count F.ROD_CNT_NORESP_COUNT n c.noresp).count F.ROD_CNT_COLL_COUNT n c.coll).count F.ROD_CNT_LATE_COUNT n c.late
  when c.lateSof (fun s => s.setF F.ROD_ERR_LATE_SOF n)
    (when c.early (fun s => s.setF F.ROD_ERR_EARLY_SOF n) (when c.clip (fun s => s.setF F.ROD_ERR_CLIP n)
      (onSome c.gain (fun (g : Nat) (s : State) => s.wr F.ROD_STAT_GAIN_USED n g) s1)))

/-- NEXT_MIN begins to run for rod `n` and for every member of its zone (R138, R192). -/
def State.startGap (s : State) (n : Fin 24) : State :=
  let s1 : State := s.modRod n (fun r => { r with gap := true })
  match (s.rod n).zone with
  | some z => forAll (s.zoneRods z) (fun (m : Fin 24) (s : State) => s.modRod m (fun r => { r with gap := true })) s1
  | none => s1

/-- A survey ramps the carrier of rod `n` down, if it is up or coming up; OFF_MIN counts from the survey's end (R173,
R177). -/
def State.surveyDown (s : State) (n : Fin 24) : State :=
  if (s.rod n).carrier = .on || (s.rod n).carrier = .rampUp then
    (s.rampDown n).modRod n (fun r => { r with surveyHold := true })
  else s

/-- An exchange ends on the air: NEXT_MIN runs for the rod and its zone (R138, R192); listeners and the rod that were to
ramp down do so (R149, R200); a survey that waits for it ramps the carriers down (R173). -/
def State.endAir (s : State) (n : Fin 24) (closed : Option LateNote) : State :=
  let ls := match (s.rod n).air with | some x => x.listeners | none => []
  let s0 : State := (s.modRod n (fun r => { r with air := none, closed := closed })).modFifo (ix 24 n.val) (fun q =>
    { q with reserved := 0 })
  let s1 : State := s0.startGap n
  let s2 : State := forAll ls
    (fun (m : Nat) (s : State) => if (s.rod (ix 23 m)).rampAfter then s.rampDown (ix 23 m) else s) s1
  let s3 : State := if (s.rod n).rampAfter then s2.rampDown n else s2
  if s3.field.survey = .settling then
    forAll allRods (fun (m : Fin 24) (s : State) =>
      if (match (s.rod m).air with | some x => x.phase == .ready | none => true) && !s.listening m.val then
        s.surveyDown m
      else s) s3
  else s3

/-- CRC-16 bytes appended to a frame (R129). DEDUCED (log entry 54). -/
def frameBytes (x : Exchange) : List Byte :=
  if x.txCrc then x.bytes ++ leBytes 2 (rodCrc x.prof.proto x.bytes).toNat else x.bytes

/-- Bits of bytes, least significant first. -/
def unpackBits (l : List Byte) : List Bool := (l.map (fun b => (List.range 8).map (fun i => b.getLsbD i))).flatten

/-- Bits, least significant first, packed into bytes. -/
def packBits : List Bool → List Byte
  | [] => []
  | l@(_ :: _) => chunks Bool 8 (l.length / 8 + 1) l |>.map (fun c => BitVec.ofNat 8 (leBits c)) where
  /-- Number spelt by bits, least significant first. -/
  leBits : List Bool → Nat
    | [] => 0
    | b :: t => b2n b + 2 * leBits t

/-- The parity bit that makes a byte's count of ones odd (R130). -/
def oddParity (b : Byte) : Bool := (List.range 8).countP (fun i => b.getLsbD i) % 2 == 0

/-- Whole bytes of a frame on the air. -/
def wholeBytes (x : Exchange) : List Byte :=
  let l := frameBytes x
  if x.lastBits % 8 = 0 then l else l.dropLast

/-- Parity bits of a reader frame: one after each whole byte of a Type A frame (R130). -/
def frameParity (x : Exchange) : List Bool := if x.prof.proto = 1 then (wholeBytes x).map oddParity else []

/-- Packets that an exchange can produce, for the credits it needs (R472, R476). -/
def framesNeeded (rxMax : Nat) (rxCrc : Bool) : Nat :=
  let d := rxMax + (if rxCrc then 2 else 0)
  if d ≤ 216 then 1 else 1 + (d - 216 + 227) / 228

/-- Credits that an exchange needs before it starts (R476). -/
def Exchange.credits (x : Exchange) : Nat :=
  if x.purpose = .transceive && !x.noRx then framesNeeded x.rxMax x.rxCrc else 0

/-- Every condition that can hold a reader frame has cleared (R110, R112, R117, R138, R173, R191, R264, R476, R667). -/
def State.frameClear (s : State) (n : Fin 24) : Bool :=
  s.readyToSpeak n && s.mayGrant n && !s.surveyBusy && s.round.step == 0 && s.isOn (bankOf n.val)
    && (match (s.rod n).air with
        | some x => (x.prepared || !s.flag F.RING_STAT_HALT_AIR) &&
          (x.credits == 0 || (s.fifo (ix 24 n.val)).mayStart 8 x.credits)
        | none => false)

/-! ### Air reports -/

/-- Squared channel estimate and noise power of rod `m` in an exchange (R197). -/
def Exchange.chan (x : Exchange) (m : Nat) : Nat × Nat :=
  match x.chans.find? (fun c => c.1 == m) with
  | some c => c.2
  | none => (0, 1)

/-- Insert a listener into a list ordered by |h|²/σ², highest first, the lower rod number before equals (R197). -/
def insByRatio (x : Exchange) (m : Nat) : List Nat → List Nat
  | [] => [m]
  | k :: t =>
    let a := x.chan m
    let b := x.chan k
    if a.1 * b.2 > b.1 * a.2 || (a.1 * b.2 == b.1 * a.2 && decide (m < k)) then m :: k :: t else k :: insByRatio x m t

/-- The rods whose streams are combined: the speaker and up to three listeners with |h|²/σ² ≥ 1, best first (R197). COMB_EN
is that of the settings in force for the exchange (R22). -/
def State.combined (s : State) (n : Nat) (x : Exchange) : List Nat :=
  if match s.snapOf (ix 23 n) x with | some k => k.comb | none => s.flag F.FLD_CTL_COMB_EN then
    let good := x.listeners.filter (fun m => decide ((x.chan m).2 ≤ (x.chan m).1))
    n :: ((good.foldl (fun acc m => insByRatio x m acc) []).take 3)
  else [n]

/-- Decimal digits of a number, at most `fuel`. -/
def decDigits : Nat → Nat → Nat
  | 0, _ => 0
  | fuel + 1, n => if n = 0 then 0 else decDigits fuel (n / 10) + 1

/-- The largest whole number of 0.25 dB not above 10·log10(v · 10⁻¹⁵), for v ≠ 0: v⁴⁰ has 1 + floor(40·log10 v) digits. -/
def quarterDb (v : Nat) : Int := (decDigits (40 * (v.log2 + 1)) (v ^ 40) : Int) - 601

/-- 10·log10(v · 10⁻¹⁵) is a whole number of 0.25 dB: v is a power of ten. -/
def exactDb (v : Nat) : Bool := v == 10 ^ (decDigits (v.log2 + 1) v - 1)

/-- A squared channel estimate as a strength in 0.25 dB (R198); where the strength is no whole number of 0.25 dB its rounding
is free, and so is the strength of none. DESIGN CHOICE (log entry 4). -/
def strengthDb (v : Nat) : BitVec 16 :=
  if v = 0 then Config.strengthNone
  else BitVec.ofInt 16 (quarterDb v + (if !exactDb v && Config.strengthUp v then 1 else 0))

/-- Strength reported for a sum of squared channel estimates (R198). DESIGN CHOICE (log entry 4). -/
def strengthOf (x : Exchange) (ms : List Nat) : Nat := (strengthDb ((ms.map (fun m => (x.chan m).1)).sum)).toNat

/-- Rod `m` is nearer than rod `b`: a higher |h|², or the lower number of two equal ones (R199). -/
def nearer (x : Exchange) (m b : Nat) : Bool :=
  decide ((x.chan b).1 < (x.chan m).1) || ((x.chan m).1 == (x.chan b).1 && decide (m < b))

/-- The nearest rod among those that took part: highest strength, the lower number preferred (R199). -/
def nearestOf (n : Nat) (x : Exchange) : Nat := x.listeners.foldl (fun b m => if nearer x m b then m else b) n

/-- FLD_ZNEAR of a zone at the end of an exchange that detected a SOF (R199). -/
def State.noteNear (s : State) (n : Fin 24) (x : Exchange) : State :=
  match (s.rod n).zone with
  | some z =>
    let m := nearestOf n.val x
    ((s.wr F.FLD_ZNEAR_NEAR z m).wr F.FLD_ZNEAR_USED z (s.combined n.val x).length).wr F.FLD_ZNEAR_NEAR_RSSI z
      (strengthOf x [m])
  | none => s

/-- Received bits as they are stored: the first one at bit RX_ALIGN of byte 0, the bits below it 0 (R130, R156). -/
def placeBits (align : Nat) (l : List Bool) : List Byte := packBits (List.replicate align false ++ l)

/-- The data bits of a response. -/
def rxBits (rx : RxReport) : List Bool := (unpackBits rx.data).take rx.nbits

/-- The first whole byte of a Type A response whose parity bit is not odd (R130, R131). The byte that RX_ALIGN splits is not
checked. PRESUMED (log entry 69). -/
def parityError (x : Exchange) (rx : RxReport) : Option Nat :=
  let stored := placeBits x.rxAlign (rxBits rx)
  if x.prof.proto = 1 then
    (List.range ((x.rxAlign + rx.nbits) / 8)).find? (fun i =>
      !(i == 0 && x.rxAlign != 0) && (match rx.parity[i]? with | some b => b != oddParity (byteAt stored i) | none => false))
  else none

/-- What the checks on a response give. -/
structure RxVerdict where
  status : Status
  data : List Byte
  nbits : Nat
  crcOk : Bool
  parErr : Bool
  deriving DecidableEq, Repr

/-- Outcome of the checks on a response (R129 to R132, R153). A collision outranks CRC and parity errors and leaves
PARITY_ERR 0. The limit is tested on the bytes stored, so a response that a collision or a parity error stopped before the
limit is no LENGTH_ERROR. DESIGN CHOICE (log entries 62 and 64). -/
def judgeRx (x : Exchange) (rx : RxReport) : RxVerdict :=
  let limit := x.rxMax + (if x.rxCrc then 2 else 0)
  let all := placeBits x.rxAlign (rxBits rx)
  let par := parityError x rx
  let stored := match rx.coll with
    | some k => placeBits x.rxAlign ((rxBits rx).take k ++ [false])
    | none => match par with | some b => all.take (b + 1) | none => all
  if limit < stored.length then ⟨.lengthError, stored.take limit, 8 * limit - x.rxAlign, false, false⟩
  else
    match rx.coll with
    | some k => ⟨.collision, stored, min k (rxBits rx).length, false, false⟩
    | none =>
      match par with
      | some b => ⟨.crcError, stored, min (rxBits rx).length (8 * (b + 1) - x.rxAlign), false, true⟩
      | none =>
        if x.rxCrc then
          let body := all.take (all.length - 2)
          let tail := all.drop (all.length - 2)
          if 2 ≤ all.length && leNat tail == (rodCrc x.prof.proto body).toNat then
            ⟨.ok, body, (rxBits rx).length - 16, true, false⟩
          else ⟨.crcError, all, (rxBits rx).length, false, false⟩
        else ⟨.ok, all, (rxBits rx).length, false, false⟩

/-- Counts of a response that ended with a status (R170). -/
def countOf (st : Status) (clip : Bool) : ExCount :=
  { ExCount.zero with
    ok := if st = .ok then 1 else 0, crc := if st = .crcError then 1 else 0,
    coll := if st = .collision then 1 else 0, clip := clip }

/-! ### Exchanges that are cut, transactions that end (R165, R195, R203) -/

/-- The group that an exchange has open is flushed (R480). -/
def State.dropGroup (s : State) (n : Fin 24) (x : Exchange) : State :=
  onSome x.txn (fun (id : Nat) (s : State) => s.flushGroup (ix 24 n.val) id) s

/-- The exchange on the air of rod `n` is cut (R165): a reader frame ends at its next symbol boundary, an open window closes,
a response in reception is dropped. `held`: the held record whose exchange it was. A window that is closed so does not count
in ROD_CNT_NORESP. DESIGN CHOICE (log entry 84). -/
def State.cutAir (s : State) (n : Fin 24) (x : Exchange) (held : Option (List Byte)) : State :=
  match x.phase with
  | .tx => ((s.emitOut (.rodFrameCut n.val)).crcCut (0x20 + n.val) (some (wholeBytes x))).endAir n none
  | .window => s.endAir n (some ⟨held, 0⟩)
  | .receiving => (((s.noteNear n x).crcCut n.val none).dropGroup n x).endAir n none
  | _ => s.endAir n none

/-- The exchange of a transaction leaves the rod: a frame on the air ends at once (R165), its grant and its place in the
budget queue go back (R195, R203), and a ramp-down that it had asked for and that waits is not made (R166). -/
def State.leaveRod (s : State) (n : Fin 24) (t : Txn) : State :=
  let s1 : State := if t.op = 2 || t.op = 4 then s.modRod n (fun r => { r with rampAfter := false }) else s
  let s2 : State := match (s1.rod n).air with
    | some x =>
      if x.txn = some t.id then
        if x.phase = .ready then s1.modRod n (fun r => { r with air := none }) else s1.cutAir n x none
      else s1
    | none => s1
  s2.releaseGrant n

/-- A rod transaction ends with a status. -/
def State.endRodTxn (s : State) (n : Fin 24) (id : Nat) (st : Status) : State :=
  let s1 := s.dequeueOf n.val (some id)
  (onSome ((s.rodBusy? n).filter (fun t => t.id == id)) (fun (t : Txn) (s : State) => s.leaveRod n t) s1).finish id st

/-! ### Starts (R110, R111, R154, R204) -/

/-- A transaction of the rod still waits for its start or its frame. DEDUCED (log entry 46). -/
def State.stillWaits (s : State) (n : Fin 24) (t : Txn) : Bool :=
  let r := s.rod n
  if t.isQueued then t.op == 1 || t.op == 3 || t.op == 4 || t.op == 5
  else if t.isRunning then
    if t.op = 3 then (match r.air with | some x => x.txn == some t.id && x.phase == .ready | none => false)
    else (t.op == 1 || (t.op == 4 && descByte t.desc 17 == 0))
      && (r.carrier == .off || r.carrier == .hold || r.carrier == .rampDown || (t.op == 4 && s.startQueued n.val (some t.id)))
  else false

/-- The wait of transaction `t` is for the field budget and nothing else: its start is in the queue, and the survey, a round
boundary, a halt, the PLL, the bank, GUARD, stepping, NEXT_MIN, the grant and credits hold nothing (R154, R204, R265,
R476). -/
def State.onlyBudget (s : State) (n : Fin 24) (t : Txn) : Bool :=
  let r := s.rod n
  t.isRunning && s.startQueued n.val (some t.id) && !s.surveyBusy && s.round.step == 0
    && (r.carrier == .on || (r.carrier == .off && s.pwr.hfLock && s.isOn (bankOf n.val) && !s.padsHeld (bankOf n.val)))
    && (t.op != 3 || (!r.gap && !r.lateRx && !s.flag F.RING_STAT_HALT_AIR
          && (r.carrier != .on || (r.guard && r.code == r.goal))
          && (match r.zone with
              | some z => (match s.speaker (ix 7 z) with | some k => k == n.val | none => true)
              | none => true)
          && (match r.air with | some x => x.credits == 0 || (s.fifo (ix 24 n.val)).mayStart 8 x.credits | none => true)))

/-- NLT has passed for a transaction that waits for its start or frame (R154, R204). -/
def State.endLate (s : State) (n : Fin 24) (t : Txn) : State :=
  if s.onlyBudget n t then (s.endRodTxn n t.id .fieldBudget).count F.FLD_CNT_BUDGET_COUNT else s.endRodTxn n t.id .late

/-- The transaction of rod `n` waits with its NLT passed. -/
def State.overdue? (s : State) (n : Fin 24) : Option Txn :=
  (s.rodBusy? n).filter (fun t => s.nltPassed t.desc && s.stillWaits n t)

/-- The rod's carrier is wanted: a FIELD_ON or CARRIER measurement runs, or a frame is ready (R110). -/
def State.wantsCarrier (s : State) (n : Fin 24) : Bool :=
  s.txns.any (fun t => t.unit == n.val && t.isRunning && (t.op == 1 || (t.op == 4 && descByte t.desc 17 == 0)))
  || (match (s.rod n).air with | some x => x.phase == .ready | none => false)
  || (match (s.rod n).plan with | some p => p.wantCarrier | none => false)

/-- A wanted carrier that is OFF asks for its start when nothing forbids it (R110, R111, R173, R209, R601). No start is made
after the NLT of the transaction that asks (R204). -/
def State.kick (s : State) (n : Fin 24) : State :=
  if s.wantsCarrier n && (s.rod n).carrier == .off && s.pwr.hfLock && s.isOn (bankOf n.val) && !s.padsHeld (bankOf n.val)
      && !s.surveyBusy && !s.field.shutdown then
    match s.overdue? n with
    | some t => s.endLate n t
    | none =>
      let k := s.rodInForce n
      s.askStart n (match k.2 with | some r => r.power | none => (s.rod n).code) k.1
  else s

/-- `kick` for every rod, lower numbers first. -/
def State.kickAll (s : State) : State := forAll allRods (fun n s => s.kick n) s

/-- Put a frame in front of the rod: it starts once nothing holds it (R667). -/
def State.putFrame (s : State) (n : Fin 24) (x : Exchange) : State :=
  ((s.modRod n (fun r => { r with air := some x })).kick n).raiseReq n

/-- Rod `n` listens to the exchange that is on the air in its zone, when its carrier is ON (R196). -/
def State.joinListen (s : State) (n : Fin 24) : State :=
  match (s.rod n).zone with
  | some z =>
    if (s.rod n).carrier = .on then
      forAll (s.zoneRods z) (fun (m : Fin 24) (s : State) =>
        match (s.rod m).air with
        | some x =>
          if m != n && x.phase != .ready && !x.listeners.contains n.val then
            let s1 := s.modRod m (fun r => { r with air := some { x with listeners := x.listeners ++ [n.val] } })
            { s1 with field := { s1.field with inAir := n.val :: s1.field.inAir } }
          else s
        | none => s) s
    else s
  | none => s

/-- Rod `n` takes no further part in the exchanges it listens to (R196). -/
def State.stopListen (s : State) (n : Fin 24) : State :=
  { s with rods := s.rods.map (fun r =>
    { r with air := r.air.map (fun x => { x with listeners := x.listeners.filter (· != n.val) }) }) }

/-- Rod `n` has no carrier any more, from a cause that no ramp-down precedes: bank loss or thermal shutdown. -/
def State.carrierGone (s : State) (n : Fin 24) (c : Carrier) : State :=
  let s1 := (s.stopListen n).modRod n (fun r =>
    { r with carrier := c, guard := false, goal := r.code, rampAfter := false, req := none, agcGain := none })
  ({ s1 with field := { s1.field with notOn := n.val :: s1.field.notOn } }).fieldEdge n (s.rod n).carrier c

end Sys2Proof.Machine
end

