-- ==== Sys2Proof/Machine/PlanStep.lean ====
section
/-! DEFINITION. Plan steps as bytes: which can be carried out, and the frames they send
(spec/05_inventory_and_harvest.md, R211 to R235). -/

namespace Sys2Proof.Machine
open Sys2Proof

/-! ### Reading steps (R211 to R215) -/

/-- Bytes of step `i` of an invocation; past position 1,023 it reads as END with MODE 0 (R214). -/
def State.stepBytes (s : State) (p : Plan) (i : Nat) : List Byte :=
  if i < 1024 then s.planStep p.tile i else List.replicate 16 0

/-- Little-endian field of a step. -/
def stepField (b : List Byte) (off size : Nat) : Nat := leNat ((b.drop off).take size)

/-- OP of a step. -/
def stepOp (b : List Byte) : Nat := byteAt b 0

/-- Main-flow opcodes (R213). -/
def isMainOp (op : Nat) : Bool := op == 0 || op == 1 || op == 6 || op == 7 || op == 8

/-- Read-class per-tag opcodes (R213). -/
def isReadOp (op : Nat) : Bool := op == 2 || op == 3 || op == 4 || op == 5

/-- Write-class per-tag opcodes (R213). -/
def isWriteOp (op : Nat) : Bool := op == 9 || op == 10

/-- Profile number that a step uses: its own, or the one R215 gives. -/
def stepProfile (b : List Byte) (dflt : Nat) : Nat :=
  if bit (byteAt b 1) 2 then byteAt b 1 % 4 else dflt

/-- ARGS bytes that an opcode defines for a protocol (R212, R219 to R222, R231, R234). DATA of R234 is taken as a field of
WRITE_BLOCKS alone. DESIGN CHOICE (log entry 86). -/
def definedArgs (op proto : Nat) : List Nat :=
  if op = 0 then [2]
  else if op = 1 then (if proto = 0 then [2, 3, 4, 5, 6, 7, 8, 9, 10, 11, 12, 13, 14, 15]
    else if proto = 1 then [2, 3, 4, 5, 6, 7, 8, 9] else [2, 3, 4, 5, 6, 7, 8, 9, 10])
  else if op = 2 then (if proto = 2 then [2, 3, 4, 5, 7] else [7])
  else if op = 3 then [2, 4, 5, 6, 7, 8]
  else if op = 4 then [2, 3, 4, 5, 6, 7, 8]
  else if op = 5 then [5, 7]
  else if op = 6 then [2, 3, 4, 5, 6]
  else if op = 7 then [2, 3, 4, 5, 6, 7]
  else if op = 8 then [2, 3, 4, 5, 6, 7, 8, 9, 10]
  else if op = 9 then [2, 3, 4, 5, 6, 7, 8, 9, 10]
  else [2, 3, 5, 8, 9, 10]

/-- Byte of a tile at which the write data of a step ends (R234). -/
def writeDataEnd (b : List Byte) : Nat := 16 * (stepField b 6 2 % 1024) + (byteAt b 3 + 1) * byteAt b 4

/-- A reserved value in a defined argument (R214, R219 to R222, R231, R234). Write data that would run past the tile
count as one. -/
def reservedArg (b : List Byte) (op proto : Nat) : Bool :=
  if op = 0 then decide (1 < byteAt b 2)
  else if op = 1 then
    decide (1024 ≤ stepField b 2 2) || decide (8 < byteAt b 4) || decide (16 ≤ byteAt b 5)
      || (proto == 0 && (decide ((if bit (byteAt b 5) 0 then 60 else 64) < byteAt b 7)
            || decide (2 ^ byteAt b 7 ≤ stepField b 8 8)))
      || (proto == 2 && decide (4 < byteAt b 10))
  else if op = 6 then decide (1 < byteAt b 6)
  else if op = 7 then
    decide (5 < byteAt b 2) || decide (1024 ≤ stepField b 4 2)
      || ((byteAt b 2 == 4 || byteAt b 2 == 5) && decide (15 < byteAt b 3))
  else if op = 8 then decide (1 < byteAt b 10)
  else if isReadOp op then
    decide (3 < byteAt b 7) || (op != 2 && decide (4 ≤ byteAt b 5))
      || ((op == 3 || op == 4) && (byteAt b 6 == 0 || decide (32 < byteAt b 6)))
  else
    decide (3 < byteAt b 9) || (byteAt b 5 != 0 && byteAt b 5 != 2)
      || (op == 9 && (decide (15 < byteAt b 3) || byteAt b 4 == 0 || decide (32 < byteAt b 4)
            || decide (1024 ≤ stepField b 6 2) || decide (tileBytes < writeDataEnd b)))
      || (op == 10 && byteAt b 3 != 0)

/-- A reserved opcode, bit or value (R218 OPCODE). -/
def badOpcode (b : List Byte) (proto : Nat) : Bool :=
  let op := stepOp b
  decide (10 < op) || decide (8 ≤ byteAt b 1)
    || (List.range 14).any (fun k => !(definedArgs op proto).contains (k + 2) && byteAt b (k + 2) != 0)
    || reservedArg b op proto

/-- An argument that the protocol does not support (R7, R218 ARG, R222, R231, R232, R234). WAKE for ISO/IEC 15693 and AFI_EN
for Type A count as such. DESIGN CHOICE (log entry 86). -/
def badArg (b : List Byte) (p : Profile) : Bool :=
  let op := stepOp b
  (p.proto == 0 && p.rxRate == 2)
    || (op == 1 && (if p.proto = 0 then bit (byteAt b 5) 3
          else bit (byteAt b 5) 0 || byteAt b 7 != 0 || (p.proto == 1 && bit (byteAt b 5) 1)))
    || ((op == 4 || op == 5 || op == 10) && p.proto != 0)
    || (op == 3 && (if p.proto = 0 then byteAt b 8 != 0
          else bit (byteAt b 5) 0 || (p.proto == 1 && decide (256 < (byteAt b 4 + 1) * byteAt b 6))))
    || (op == 4 && byteAt b 8 != 0)
    || (isWriteOp op && p.proto == 0 && byteAt b 10 != 0)

/-- Reason for which a main-flow step is skipped (R218); 0: it can be carried out. Where several apply: OPCODE, PLACE, PROFILE,
ARG, the first of them. DESIGN CHOICE (log entry 85). -/
def mainFault (p : Plan) (b : List Byte) : Nat :=
  let prof := p.snap.prof (stepProfile b p.profile)
  if badOpcode b prof.proto then 1
  else if !isMainOp (stepOp b) then 3
  else if stepOp b != 1 then 0
  else if !prof.legal then 2
  else if badArg b prof then 4 else 0

/-- Reason for which a per-tag step is skipped (R215, R218); 0: it can be carried out. `inv` is the profile of the
INVENTORY step; `selected` and `writes` say that a SELECT and a write-class step stand earlier in the list. Where several
apply: OPCODE, PLACE, PROFILE, ARG, the first of them. DESIGN CHOICE (log entry 85). -/
def tagFault (p : Plan) (b : List Byte) (invProf : Nat) (selected writes : Bool) : Nat :=
  let inv := p.snap.prof invProf
  let prof := p.snap.prof (stepProfile b invProf)
  let op := stepOp b
  if badOpcode b inv.proto then 1
  else if isMainOp op || (isReadOp op && writes)
      || (op != 2 && bit (byteAt b 5) 1 && !selected) then 3
  else if !prof.legal || prof.proto != inv.proto then 2
  else if badArg b prof then 4 else 0

/-! ### Frames (R224, R226, R227, R232) -/

/-- A plan frame with nothing special about it. -/
def planFrame (prof : Profile) (pu : Purpose) (bytes : List Byte) (rxMax : Nat) : Exchange :=
  ⟨.ready, pu, none, prof, bytes, 0, 0, true, true, false, rxMax, false, 0, [], ExCount.zero, [], 0⟩

/-- Data_rate and Sub-carrier flags of an ISO/IEC 15693 request (R224). PRESUMED (log entry 48). -/
def flags15 (p : Profile) : Nat := (if p.rxRate = 1 then 2 else 0) + b2n p.subc

/-- Inventory request of ISO/IEC 15693 (R224): flags, command 0x01, AFI when asked for, mask length and mask.
PRESUMED (log entry 48). -/
def inventory15 (p : Profile) (b : List Byte) (e : MaskEntry) : Exchange :=
  let afi := bit (byteAt b 5) 1
  let flags := flags15 p + 4 + (if afi then 0x10 else 0) + (if e.slots16 then 0 else 0x20)
  planFrame p (.inv15 0)
    (leBytes 1 flags ++ leBytes 1 1 ++ (if afi then leBytes 1 (byteAt b 6) else []) ++ leBytes 1 e.len
      ++ leBytes ((e.len + 7) / 8) e.mask) 10

/-- Slot marker of ISO/IEC 15693: an EOF alone (R128). -/
def marker15 (p : Profile) (slot : Nat) : Exchange :=
  { planFrame p (.inv15 slot) [] 10 with txCrc := false }

/-- REQA or WUPA, a short frame (R130, R226). PRESUMED (log entry 48). -/
def requestA (p : Profile) (wake : Bool) : Exchange :=
  { planFrame p .reqA (leBytes 1 (if wake then 0x52 else 0x26)) 2 with txCrc := false, rxCrc := false, lastBits := 7 }

/-- SEL code of a cascade level (ISO/IEC 14443-3). PRESUMED (log entry 48). -/
def selCode (level : Nat) : Nat := 0x91 + 2 * level

/-- Anticollision frame of a cascade level with the bits known so far (R130, R226). PRESUMED (log entry 48). -/
def antiA (p : Profile) (level : Nat) (known : List Bool) : Exchange :=
  let k := known.length
  let nvb := 0x20 + 16 * (k / 8) + k % 8
  { planFrame p (.antiA level known) (leBytes 1 (selCode level) ++ leBytes 1 nvb ++ packBits known) 5 with
    txCrc := false, rxCrc := false, lastBits := k % 8, rxAlign := k % 8 }

/-- SELECT frame of a cascade level (R226): NVB 0x70, four bytes and BCC. PRESUMED (log entry 48). -/
def selectA (p : Profile) (level : Nat) (five : List Byte) : Exchange :=
  planFrame p (.selA level (five.take 4)) (leBytes 1 (selCode level) ++ leBytes 1 0x70 ++ five) 1

/-- REQB or WUPB (R227): APf 0x05, AFI, PARAM. PRESUMED (log entry 48). -/
def requestB (p : Profile) (b : List Byte) (wake : Bool) : Exchange :=
  planFrame p (.reqB 1)
    (leBytes 1 5 ++ leBytes 1 (if bit (byteAt b 5) 1 then byteAt b 6 else 0)
      ++ leBytes 1 (byteAt b 10 + (if wake then 8 else 0))) 12

/-- Slot-MARKER (R227). -/
def markerB (p : Profile) (slot : Nat) : Exchange :=
  planFrame p (.reqB slot) (leBytes 1 (16 * (slot - 1) + 5)) 12

/-- The QUIET frame of a UID (R226, R227, R235): Stay Quiet, HLTA, or HLTB whose answer is received and ignored.
PRESUMED (log entry 48). -/
def quietFrame (p : Profile) (uid : List Byte) : Exchange :=
  if p.proto = 0 then
    { planFrame p .quiet (leBytes 1 (flags15 p + 0x20) ++ leBytes 1 2 ++ uid) 0 with rxCrc := false, noRx := true }
  else if p.proto = 1 then { planFrame p .quiet (leBytes 2 0x0050) 0 with rxCrc := false, noRx := true }
  else planFrame p .quiet (leBytes 1 0x50 ++ uid) 1

/-- Address or Select flag, and the UID of an addressed request (R232). -/
def address15 (selected : Bool) (uid : List Byte) : Nat × List Byte := if selected then (0x10, []) else (0x20, uid)

/-- The frame of a per-tag step (R232): list position `pos`, attempt `att`, block `blk` of a write step; `data` are the
write data of that block. PRESUMED (log entry 48). -/
def tagFrame (prof : Profile) (b uid data : List Byte) (pos att blk : Nat) : Exchange :=
  let op := stepOp b
  let pu := Purpose.perTag pos att blk
  let ad := address15 (op != 2 && bit (byteAt b 5) 1) uid
  let opt := if isReadOp op && op != 2 && bit (byteAt b 5) 0 then 0x40 else 0
  let sec := if bit (byteAt b 5) 0 then 1 else 0
  let head := fun cmd => leBytes 1 (flags15 prof + ad.1 + opt) ++ leBytes 1 cmd ++ ad.2
  if op = 2 then
    if prof.proto = 0 then planFrame prof pu (head 0x25) 2
    else planFrame prof pu (leBytes 1 0x1D ++ uid ++ (b.drop 2).take 4) 256
  else if op = 3 then
    if prof.proto = 0 then
      planFrame prof pu (head 0x23 ++ leBytes 1 (byteAt b 2) ++ leBytes 1 (byteAt b 4))
        (1 + (byteAt b 4 + 1) * (byteAt b 6 + sec))
    else planFrame prof pu (leBytes 1 (byteAt b 8) ++ leBytes 1 (byteAt b 2)) ((byteAt b 4 + 1) * byteAt b 6)
  else if op = 4 then
    planFrame prof pu (head 0x33 ++ leBytes 2 (stepField b 2 2) ++ leBytes 2 (byteAt b 4))
      (1 + (byteAt b 4 + 1) * (byteAt b 6 + sec))
  else if op = 5 then planFrame prof pu (head 0x2B) 15
  else
    let wait := if byteAt b 8 = 0 then 67 else byteAt b 8
    let pw := { prof with respWait := 4096 * wait }
    let block := leBytes 1 (byteAt b 2 + blk)
    if op = 9 then
      if prof.proto = 0 then planFrame pw pu (head 0x21 ++ block ++ data) 2
      else planFrame pw pu (leBytes 1 (byteAt b 10) ++ block ++ data) 256
    else planFrame pw pu (head 0x22 ++ block) 2

/-- Write data of block `blk` of a step (R211, R234). -/
def State.writeData (s : State) (p : Plan) (b : List Byte) (blk : Nat) : List Byte :=
  Memory.readBytes s.planMem (tileBytes * p.tile + 16 * (stepField b 6 2 % 1024) + blk * byteAt b 4) (byteAt b 4)

/-- Attempts after the first that a per-tag step allows (R231, R234). -/
def retries (b : List Byte) : Nat := if isWriteOp (stepOp b) then byteAt b 9 else byteAt b 7

/-- Blocks that a write-class step writes (R234). -/
def writeBlocks (b : List Byte) : Nat := if stepOp b = 9 then byteAt b 3 + 1 else 1

end Sys2Proof.Machine
end

