-- ==== Sys2Proof/Machine/PlanOps.lean ====
section
/-! DEFINITION. Held records, deduplication, the end of invocations, per-tag lists and anticollision
(spec/05_inventory_and_harvest.md). -/

namespace Sys2Proof.Machine
open Sys2Proof

/-! ### Access to a rod's plan -/

/-- Plan invocation of rod `n`. -/
def State.plan? (s : State) (n : Fin 24) : Option Plan := (s.rod n).plan

/-- Change the plan of rod `n`. -/
def State.modPlan (s : State) (n : Fin 24) (f : Plan → Plan) : State :=
  s.modRod n (fun r => { r with plan := r.plan.map f })

/-- The INVENTORY step in progress on rod `n`. -/
def State.inv? (s : State) (n : Fin 24) : Option InvRun := (s.plan? n).bind (·.inv)

/-- Change the INVENTORY step in progress on rod `n`. -/
def State.modInv (s : State) (n : Fin 24) (f : InvRun → InvRun) : State :=
  s.modPlan n (fun p => { p with inv := p.inv.map f })

/-- The tag whose per-tag list runs on rod `n`. -/
def State.tag? (s : State) (n : Fin 24) : Option TagRun := (s.inv? n).bind (·.tag)

/-- Change the tag whose per-tag list runs on rod `n`. -/
def State.modTag (s : State) (n : Fin 24) (f : TagRun → TagRun) : State :=
  s.modInv n (fun i => { i with tag := i.tag.map f })

/-- Change held record `j` of rod `n`. -/
def State.modHeld (s : State) (n : Fin 24) (j : Nat) (f : Held → Held) : State :=
  s.modRod n (fun r => { r with held := r.held.modify j f })

/-- The held record of a UID on rod `n`. -/
def State.heldOf (s : State) (n : Fin 24) (uid : List Byte) : Option (Nat × Held) :=
  ((s.rod n).held.zipIdx.find? (fun p => p.1.uid == uid)).map (fun p => (p.2, p.1))

/-! ### Records of an invocation -/

/-- A record of the invocation on rod `n`: TAG its PLAN_NO, TAG_SQ 0xFE (R160, R162, R221, R256). -/
def State.emitPlan (s : State) (n : Fin 24) (p : Plan) (type : RecType) (st : Status) (stamp : DWord)
    (content : List Byte) (id : Option Nat) : State :=
  s.emit (ix 24 n.val) [⟨type, st, n.val, p.no, 0xFE, stamp, content, 0, false⟩] id

/-- Content of a TAG record (R256, R257). -/
def tagContent (kind proto rod near strength nearRssi round : Nat) (trunc combined : Bool) (uid : List Byte)
    (es : List Entry) : List Byte :=
  leBytes 1 kind ++ leBytes 1 proto ++ leBytes 1 rod ++ leBytes 1 near ++ leBytes 2 strength ++ leBytes 2 nearRssi
    ++ leBytes 4 round ++ leBytes 1 uid.length ++ leBytes 1 (b2n trunc + 2 * b2n combined) ++ (padTo 10 uid).take 10
    ++ leBytes 1 es.length ++ leBytes 1 0
    ++ (es.map (fun e => leBytes 2 (e.step % 1024) ++ leBytes 1 e.status.code ++ leBytes 1 e.data.length ++ e.data)).flatten

/-- CLEN of a TAG record with these entries (R257). -/
def tagClen (es : List Entry) : Nat := 26 + (es.map (fun e => 4 + e.data.length)).sum

/-- Add an entry; its DATA is cut when CLEN would pass 228 (R258). True: it was cut. An entry for whose four bytes there is
no room is left out. DEDUCED (log entry 71). -/
def addEntry (es : List Entry) (e : Entry) : List Entry × Bool :=
  if tagClen es + 4 + e.data.length ≤ 228 then (es ++ [e], false)
  else if 228 < tagClen es + 4 then (es, true)
  else (es ++ [{ e with status := .lengthError, data := e.data.take (228 - tagClen es - 4) }], true)

/-- STATUS of a WRITE record (R258): the first entry that is not OK. -/
def writeStatus (es : List Entry) : Status :=
  match es.find? (fun e => e.status != .ok) with
  | some e => e.status
  | none => .ok

/-- Present round number. -/
def State.roundNo (s : State) : Nat := s.rd F.ROD_ROUND_NO_ROUND

/-- The WRITE record of a tag (R251, R256). -/
def State.emitWrite (s : State) (n : Fin 24) (p : Plan) (proto near strength nearRssi : Nat) (trunc combined : Bool)
    (uid : List Byte) (es : List Entry) (stamp : DWord) : State :=
  s.emitPlan n p .tag (writeStatus es) stamp
    (tagContent 1 proto n.val near strength nearRssi s.roundNo trunc combined uid es) none

/-! ### Deduplication (R242, R245 to R248) -/

/-- Bucket of a UID (R247). -/
def State.dedupBucket (s : State) (uid : List Byte) : Nat :=
  (crc32c (uid ++ leBytes 1 uid.length)).toNat % (256 * s.round.tiles)

/-- A UID is CARRIED in the round. -/
def State.isCarried (s : State) (uid : List Byte) : Bool := s.round.dedup.any (fun d => d.uid == uid && d.carried)

/-- Register a UID at its decode (R247). True: it is registered. -/
def State.register (s : State) (uid : List Byte) : State × Bool :=
  if s.round.dedup.any (fun d => d.uid == uid) then (s, true)
  else
    let b := s.dedupBucket uid
    if s.round.dedup.countP (fun d => d.bucket == b) < 4 then
      ({ s with round := { s.round with dedup := s.round.dedup ++ [⟨uid, b, false⟩] } }, true)
    else (s.setF F.ROD_INV_ERR_DEDUP_FULL, false)

/-- Held record `a` of rod `m` outranks held record `b` of rod `n` (R245). -/
def outranks (a : Held) (m : Nat) (b : Held) (n : Nat) : Bool :=
  a.uid == b.uid
    && (decide (signedOf 16 b.strength < signedOf 16 a.strength) || (a.strength == b.strength && decide (m < n)))

/-- A viable held record of the same UID outranks this one (R246). -/
def State.outranked (s : State) (n : Fin 24) (h : Held) : Bool :=
  allRods.any (fun m => (s.rod m).held.any (fun g => outranks g m.val h n.val))

/-- The conditions of R246. -/
def State.mayCarry (s : State) (n : Fin 24) (h : Held) : Bool :=
  h.complete && h.verdict == some true && h.registered && !s.isCarried h.uid && !s.outranked n h

/-- Tiles of the filter in force for an invocation overlap the deduplication tiles in force (R248). -/
def State.filterOverlap (s : State) (f : Nat × Nat) : Bool := (filterTiles f.1 f.2).any s.isDedupTile

/-- The filter set up in the registers, when EN = 1 (R236, R239). -/
def State.filterNow (s : State) : Option (Nat × Nat) :=
  if s.flag F.ROD_FILT_CFG_EN then some (s.rd F.ROD_FILT_CFG_TILE, s.rd F.ROD_FILT_CFG_LOG2B) else none

/-- OVERLAP is set while the filter and deduplication tiles in force overlap (R248): the filter of the registers, or the one
that a running invocation keeps (R239). -/
def State.checkOverlap (s : State) : State :=
  let fs := s.filterNow.toList ++ allRods.filterMap (fun n => (s.plan? n).bind (·.filter))
  when (fs.any s.filterOverlap) (fun (s : State) => s.setF F.ROD_INV_ERR_OVERLAP) s

/-- Filter key of a UID (R237). -/
def filterKey (proto : Nat) (uid : List Byte) : List Byte :=
  if proto = 0 then uid.take 8
  else if proto = 1 then
    if uid.length = 4 then uid ++ [0, 0, 0, 0xA4#8]
    else if uid.length = 7 then uid ++ [0xA7#8] else uid.take 7 ++ [0xAA#8]
  else uid.take 4 ++ [0, 0, 0, 0xB4#8]

/-- A key is present in the filter table (R238). -/
def State.filterHas (s : State) (f : Nat × Nat) (key : List Byte) : Bool :=
  let b := (crc32c key).toNat % 2 ^ f.2
  (List.range 8).any (fun i => Memory.readBytes s.planMem (tileBytes * f.1 + 64 * b + 8 * i) 8 == key)

/-- The verdict of the filter of an invocation on a UID (R236, R238, R248). -/
def State.verdictFor (s : State) (f : Option (Nat × Nat)) (proto : Nat) (uid : List Byte) : Bool :=
  match f with
  | none => true
  | some f => !s.filterOverlap f && s.filterHas f (filterKey proto uid)

/-! ### Discard (R252) -/

/-- Reasons of a discard (R252). -/
inductive DiscardWhy | filter | dup | crc | roundEnd | flush
  deriving DecidableEq, Repr

/-- Counter of a discard reason (R268). -/
def DiscardWhy.counter : DiscardWhy → Fld
  | .filter => F.ROD_SPEC_DISCARD_FILTER_COUNT
  | .dup => F.ROD_SPEC_DISCARD_DUP_COUNT
  | .crc => F.ROD_SPEC_DISCARD_CRC_COUNT
  | .roundEnd => F.ROD_SPEC_DISCARD_ROUND_END_COUNT
  | .flush => F.ROD_SPEC_DISCARD_FLUSH_COUNT

/-- Count one discard (R252, R266). -/
def State.countDiscard (s : State) (n : Fin 24) (w : DiscardWhy) : State :=
  (s.count w.counter n.val).count F.ROD_ROUND_DISC_COUNT

/-- A prepared frame is discarded unsent (R229). -/
def State.dropPrep (s : State) (n : Fin 24) : State :=
  match s.tag? n with
  | some t => if t.prep then (s.modTag n (fun t => { t with prep := false })).count F.ROD_PREP_DISCARD_COUNT n.val else s
  | none => s

/-- A frame of the plan waits in front of the rod and has not started. -/
def State.planFrameReady (s : State) (n : Fin 24) : Bool :=
  match (s.rod n).air with
  | some x => x.txn.isNone && x.phase == .ready
  | none => false

/-- A frame of the plan that has not started is taken away; one built in advance counts as discarded (R229, R264). -/
def State.dropPlanFrame (s : State) (n : Fin 24) : State :=
  match (s.rod n).air with
  | some x =>
    if x.txn.isNone && x.phase == .ready then
      when x.prepared (fun s => s.count F.ROD_PREP_DISCARD_COUNT n.val) (s.modRod n (fun r => { r with air := none }))
    else s
  | none => s

/-- The tag whose list runs lost its held record: no further step of its list starts (R252). A prepared frame or a frame
of the list that has not started is not sent; a prepared Stay Quiet frame is discarded unsent and built again (R229). -/
def State.tagGone (s : State) (n : Fin 24) (uid : List Byte) : State :=
  match s.tag? n with
  | some t =>
    if t.uid == uid && !t.carried && !t.gone then
      let s1 := (s.modTag n (fun t => { t with gone := true })).dropPrep n
      if t.quieting then
        match (s1.rod n).air with
        | some x =>
          if x.phase == .ready && x.prepared then
            (s1.modRod n (fun r => { r with air := some { x with prepared := false } })).count F.ROD_PREP_DISCARD_COUNT n.val
          else s1
        | none => s1
      else s1.dropPlanFrame n
    else s
  | none => s

/-- Held record `j` of rod `n` is discarded: its entry is freed, the discard counted (R252). One whose packet is being
written takes the packet with it (R249). -/
def State.discard (s : State) (n : Fin 24) (j : Nat) (w : DiscardWhy) : State :=
  match (s.rod n).held[j]? with
  | some h =>
    let s1 := (s.modRod n (fun r => { r with held := r.held.eraseIdx j })).countDiscard n w
    (when h.carrying (fun s => s.flushProducer (ix 24 n.val)) s1).tagGone n h.uid
  | none => s

/-- Held records of rod `n` are discarded, at most `fuel` of them. -/
def State.discardSome (n : Fin 24) (w : DiscardWhy) : Nat → State → State
  | 0, s => s
  | fuel + 1, s => if (s.rod n).held.isEmpty then s else State.discardSome n w fuel (s.discard n 0 w)

/-- Every held record of rod `n` is discarded. -/
def State.discardAll (n : Fin 24) (w : DiscardWhy) (s : State) : State :=
  State.discardSome n w (s.rod n).held.length s

/-- Every held record of a UID is discarded DUP (R252). -/
def State.discardDups (s : State) (uid : List Byte) : State :=
  forAll allRods (fun (m : Fin 24) (s : State) =>
    match s.heldOf m uid with
    | some p => s.discard m p.1 .dup
    | none => s) s

/-! ### End of an invocation (R162, R255) -/

/-- CAUSE code (R162). -/
def PlanCause.code : PlanCause → Nat
  | .done => 0 | .stopped => 1 | .flushed => 2 | .aborted => 3 | .checksumFail => 4 | .domainOff => 5

/-- STATUS of a PLAN_END record (R162). -/
def PlanCause.status : PlanCause → Status
  | .done => .ok | .stopped => .ok | .flushed => .flushed | .aborted => .aborted
  | .checksumFail => .checksumFail | .domainOff => .domainOff

/-- Content of a PLAN_END record (R162). -/
def planEndContent (p : Plan) (c : PlanCause) : List Byte :=
  leBytes 1 c.code ++ leBytes 1 0 ++ leBytes 2 p.lastStep ++ leBytes 2 (min 65535 p.passes)
    ++ leBytes 2 (min 65535 p.carried) ++ leBytes 4 p.steps

/-- An ended invocation whose held records are settled writes its PLAN_END record; STOP_PLANs that wait for it complete
OK (R161, R163, R255). Its slot is held until that record is committed. -/
def State.settlePlan (s : State) (n : Fin 24) : State :=
  match s.plan? n with
  | some p =>
    match p.stage with
    | .ending c =>
      if (s.rod n).held.isEmpty then
        let id := s.sys.nextId
        let s0 := { s with sys := { s.sys with nextId := id + 1 } }
        let s1 := s0.modRod n (fun r =>
          { r with plan := none,
                   endSlots := (r.endSlots.filter (fun e => (s.fifo (ix 24 n.val)).holds e.1)) ++ [(id, p.slot)] })
        let s2 := s1.emitPlan n p .result c.status s.sys.timebase (planEndContent p c) (some id)
        forAll (s2.txns.filter (fun t => t.unit == n.val && t.isRunning && t.op == 6)) (fun t s => s.finish t.id .ok) s2
      else s
    | _ => s
  | none => s

/-- Settle the ended invocations of every rod. -/
def State.settleAll (s : State) : State := forAll allRods (fun n s => s.settlePlan n) s

/-- The invocation on rod `n` ends for a cause: nothing of it starts any more, and its start leaves the budget queue (R165,
R217). An invocation that ends with CAUSE CHECKSUM_FAIL or DOMAIN_OFF discards its held records with reason FLUSH (R252).
DEDUCED (log entry 46). -/
def State.endPlan (s : State) (n : Fin 24) (c : PlanCause) : State :=
  let s1 := (((s.dropPrep n).dropPlanFrame n).releaseGrant n).dequeueOf n.val none
  let s2 := s1.modPlan n (fun p => { p with stage := .ending c, inv := none, wantCarrier := false, stop := none, doom := none })
  let s3 := if c = .checksumFail || c = .domainOff then State.discardAll n .flush s2 else s2
  s3.settlePlan n

/-- The invocation stands between two units (R216). -/
def Plan.atBoundary (p : Plan) : Bool :=
  match p.stage with
  | .boundary => true
  | .inventory => match p.inv with | some i => !i.inCycle | none => true
  | _ => false

/-- What was asked of the invocation takes effect at a boundary: an end after a failed tile (R498), or a stop (R163). -/
def State.planBoundary (s : State) (n : Fin 24) : State :=
  match s.plan? n with
  | some p =>
    if p.atBoundary then
      match p.doom with
      | some c => s.endPlan n c
      | none => if p.stop = some 0 then s.endPlan n .stopped else s
    else s
  | none => s

/-- A plan tile has gone out of service: invocations that use it and stand between two units end (R498). -/
def State.settleDoom (s : State) : State := forAll allRods (fun (n : Fin 24) (s : State) => s.planBoundary n) s

/-- A unit ends: the grant goes back and the boundary's requests are met (R195, R216). -/
def State.unitEnd (s : State) (n : Fin 24) : State := (s.releaseGrant n).planBoundary n

/-! ### Frames of a plan -/

/-- Put a frame of the plan in front of the rod. During a round boundary none starts: a prepared one is discarded
unsent, the others are built again when the pass restarts (R264). -/
def State.putPlan (s : State) (n : Fin 24) (x : Exchange) : State :=
  if s.round.step = 0 then s.putFrame n x
  else when x.prepared (fun s => s.count F.ROD_PREP_DISCARD_COUNT n.val) s

/-! ### Per-tag lists (R229 to R235, R250, R251) -/

/-- The first per-tag step index of an INVENTORY step, and the number of steps (R222). -/
def InvRun.tagFirst (i : InvRun) : Nat := stepField i.bytes 2 2 % 1024
/-- TAG_COUNT (R222). -/
def InvRun.tagCount (i : InvRun) : Nat := byteAt i.bytes 4
/-- QUIET (R222). -/
def InvRun.quiet (i : InvRun) : Bool := bit (byteAt i.bytes 5) 2
/-- Profile number of the INVENTORY step (R215). -/
def InvRun.profNo (i : InvRun) (p : Plan) : Nat := stepProfile i.bytes p.profile

/-- ROD_PLAN_FAULT of a skipped step (R218); a main-flow or INVENTORY profile that R126 does not allow also sets
ROD_ERR.PROFILE. -/
def State.noteFault (s : State) (n : Fin 24) (step reason : Nat) (err : Bool) : State :=
  when err (fun s => s.setF F.ROD_ERR_PROFILE n.val)
    (((s.wr F.ROD_PLAN_FAULT_STEP n.val step).wr F.ROD_PLAN_FAULT_REASON n.val reason).setF F.ROD_PLAN_FAULT_FAULT n.val)

/-- A step is executed: STEPS, LAST_STEP and ROD_PLAN_STAT.STEP (R162). DEDUCED (log entry 55). -/
def State.noteStep (s : State) (n : Fin 24) (step : Nat) : State :=
  (s.modPlan n (fun p => { p with steps := p.steps + 1, lastStep := step })).wr F.ROD_PLAN_STAT_STEP n.val step

/-- The step at list position `k`; past position 1,023 of the tile it reads as END, as in the main flow (R214), and is skipped
PLACE. DEDUCED (log entry 55). DESIGN CHOICE (log entry 86). -/
def State.tagStep (s : State) (p : Plan) (i : InvRun) (k : Nat) : List Byte := s.stepBytes p (i.tagFirst + k)

/-- A write-class step stands before position `k` of the list (R218). -/
def State.writeBefore (s : State) (p : Plan) (i : InvRun) (k : Nat) : Bool :=
  (List.range k).any (fun j => isWriteOp (stepOp (s.tagStep p i j)))

/-- A SELECT stands before position `k` of the list (R218). -/
def State.selectBefore (s : State) (p : Plan) (i : InvRun) (k : Nat) : Bool :=
  (List.range k).any (fun j => stepOp (s.tagStep p i j) == 2)

/-- The write-class steps of the list from position `k` on that can be carried out, as step indices. -/
def State.writeSteps (s : State) (p : Plan) (i : InvRun) (k : Nat) : List Nat :=
  (List.range i.tagCount).filterMap (fun j =>
    let b := s.tagStep p i j
    if k ≤ j && isWriteOp (stepOp b) && tagFault p b (i.profNo p) (s.selectBefore p i j) true == 0 then some (i.tagFirst + j)
    else none)

/-- The list of rod `n`'s tag has reached its first write-class step, or its end: its held record is complete (R230). -/
def State.tagComplete (s : State) (n : Fin 24) (t : TagRun) : State :=
  match s.heldOf n t.uid with
  | some h => s.modHeld n h.1 (fun h => { h with complete := true })
  | none => s

/-- The held record of rod `n`'s tag is complete and its write steps, if its list has any, do not run: its WRITE record is
written when it is carried (R251). -/
def State.dropWrites (s : State) (n : Fin 24) (p : Plan) (i : InvRun) (t : TagRun) : State :=
  match s.heldOf n t.uid with
  | some h => s.modHeld n h.1 (fun h =>
      { h with complete := true, lateWrites := if s.writeBefore p i i.tagCount then some (s.writeSteps p i t.pos) else none })
  | none => s

/-- The list of the present tag has ended: the QUIET frame follows where asked for (R235), otherwise the cycle goes on. The
step in progress is the INVENTORY step again (R267). -/
def State.afterList (s0 : State) (n : Fin 24) (next : State → State) : State :=
  let s := onSome (s0.inv? n) (fun (i : InvRun) (s : State) => s.wr F.ROD_PLAN_STAT_STEP n.val i.step) s0
  match s.plan? n, s.inv? n, s.tag? n with
  | some p, some i, some t =>
    if i.quiet then
      let prof := p.snap.prof (i.profNo p)
      let ready := t.prep && i.tagCount == 0
      let s1 := if ready then s else s.dropPrep n
      (s1.modTag n (fun t => { t with quieting := true, waiting := false, prep := false })).putPlan n
        { quietFrame prof t.uid with prepared := ready }
    else next ((s.dropPrep n).modInv n (fun i => { i with tag := none }))
  | _, _, _ => s

/-- The WRITE record of a tag whose write steps have ended or cannot run any more; steps not run get TIMEOUT
(R251, R264 step 3). -/
def State.endWrites (s : State) (n : Fin 24) (p : Plan) (i : InvRun) (t : TagRun) (k : Nat) : State :=
  let rest := (s.writeSteps p i k).map (fun j => (⟨j, .timeout, []⟩ : Entry))
  let es := (t.writes ++ rest).foldl (fun (acc : List Entry × Bool) e => let r := addEntry acc.1 e; (r.1, acc.2 || r.2)) ([], false)
  let stamp := t.stamp.getD s.sys.timebase
  s.emitWrite n p (p.snap.prof (i.profNo p)).proto t.near t.strength t.nearRssi es.2 t.combined t.uid es.1 stamp

/-- The invocation of rod `n` ends from outside amid the write steps of a tag whose held record was carried: the one WRITE
record of that held record is written (R251). -/
def State.cutWrites (s : State) (n : Fin 24) : State :=
  match s.plan? n, s.inv? n, s.tag? n with
  | some p, some i, some t =>
    if t.carried && !t.quieting && t.inWrites then s.endWrites n p i t t.pos
    else s
  | _, _, _ => s

/-- Go on in the per-tag list: skip what cannot be carried out, and stop at a step that can, at its wait for the carry,
or at the end of the list. At most `fuel` steps. -/
def State.tagNext (n : Fin 24) (next : State → State) : Nat → State → State
  | 0, s => s
  | fuel + 1, s =>
    match s.plan? n, s.inv? n, s.tag? n with
    | some p, some i, some t =>
      if t.gone then s.afterList n next
      else if i.tagCount ≤ t.pos then
        if t.inWrites then (s.endWrites n p i t t.pos).afterList n next
        else (s.dropWrites n p i t).afterList n next
      else
        let b := s.tagStep p i t.pos
        let f := tagFault p b (i.profNo p) (s.selectBefore p i t.pos) (s.writeBefore p i t.pos)
        if f ≠ 0 then
          let prof := p.snap.prof (stepProfile b (i.profNo p))
          let s1 := if isWriteOp (stepOp b) then s.tagComplete n t else s
          State.tagNext n next fuel
            ((s1.noteFault n (i.tagFirst + t.pos) f (f == 2 && !prof.legal)).modTag n (fun t =>
              { t with pos := t.pos + 1 }))
        else if isWriteOp (stepOp b) then
          if s.round.step ≠ 0 then
            if t.inWrites && t.carried then (s.endWrites n p i t t.pos).afterList n next
            else (s.dropWrites n p i t).afterList n next
          else if t.inWrites then s
          else (s.tagComplete n t).modTag n (fun t => { t with inWrites := true, waiting := !t.carried })
        else
          match s.heldOf n t.uid with
          | some h =>
            if h.2.trunc then State.tagNext n next fuel (s.modTag n (fun t => { t with pos := t.pos + 1 })) else s
          | none => s
    | _, _, _ => s

/-! ### Anticollision (R222 to R228) -/

/-- Push an entry; a push onto a full stack is dropped (R224, R225). -/
def State.pushMask (s : State) (n : Fin 24) (e : MaskEntry) : State :=
  match s.inv? n with
  | some i =>
    if i.stack.length < 256 then s.modInv n (fun i => { i with stack := e :: i.stack })
    else s.setF F.ROD_PLAN_STAT_STACK_OVF n.val
  | none => s

/-- The INVENTORY step ends; the step at the next position follows (R214). -/
def State.endInventory (s : State) (n : Fin 24) : State :=
  (s.modPlan n (fun p => { p with stage := .boundary, inv := none, pc := p.pc + 1 })).unitEnd n

/-- The cycle ends and another one follows, as a unit of its own. -/
def State.endCycle (s : State) (n : Fin 24) : State :=
  (s.modInv n (fun i => { i with inCycle := false, tag := none })).unitEnd n

/-- MAX_UIDS has been reached (R228). -/
def InvRun.full (i : InvRun) : Bool :=
  let m := stepField i.bytes 8 2
  i.prof.proto != 0 && m != 0 && decide (m ≤ i.decoded)

/-- The cycle is over: the step ends or another cycle follows (R224, R226 to R228). -/
def State.cycleDone (s : State) (n : Fin 24) : State :=
  match s.inv? n with
  | some i =>
    let fruitless := if i.cycleHit then 0 else if i.cycleBad then i.fruitless + 1 else i.fruitless
    let s1 := s.modInv n (fun i => { i with fruitless := fruitless })
    let ends :=
      if i.prof.proto = 0 then i.stack.isEmpty
      else if i.prof.proto = 1 then i.full || decide (4 ≤ fruitless) || (!i.quiet && decide (0 < i.decoded))
      else i.full || decide (4 ≤ fruitless) || !i.quiet || !(i.cycleHit || i.cycleBad)
    if ends then s1.endInventory n else s1.endCycle n
  | none => s

/-- What follows a tag's list within the cycle (R224, R226, R227). A Type B cycle sends its next Slot-MARKER, whose slot can
decode a UID, only with a free entry (R241). DEDUCED (log entry 72). -/
def State.afterTag (s : State) (n : Fin 24) : State :=
  match s.inv? n with
  | some i =>
    if i.prof.proto = 2 && decide (i.nextSlot ≤ 2 ^ byteAt i.bytes 10) && !i.full then
      if 4 ≤ (s.rod n).held.length then s.modInv n (fun i => { i with slotWait := true })
      else s.putPlan n (markerB i.prof i.nextSlot)
    else s.cycleDone n
  | none => s

/-- A Slot-MARKER that waited for a free entry is put in front of the rod (R241). -/
def State.resumeSlot (s : State) (n : Fin 24) : State :=
  match s.inv? n with
  | some i =>
    if i.slotWait && decide ((s.rod n).held.length < 4) && s.round.step == 0 then
      (s.modInv n (fun i => { i with slotWait := false })).putPlan n (markerB i.prof i.nextSlot)
    else s
  | none => s

/-- A tag that lost its held record while nothing of it is on the air goes on to its QUIET frame; a Slot-MARKER that waited
for a free entry follows; ended invocations settle (R235, R241, R252, R255). -/
def State.resumeTags (s : State) : State :=
  forAll allRods (fun (n : Fin 24) (s : State) =>
    ((match s.tag? n with
      | some t =>
        if t.gone && !t.quieting && (s.rod n).air.isNone && s.round.step == 0 then s.afterList n (fun s => s.afterTag n) else s
      | none => s).resumeSlot n).settlePlan n) s

/-- A decoding exchange: what a held record keeps of it (R223). -/
structure Decode where
  strength : Nat
  near : Nat
  nearRssi : Nat
  combined : Bool
  cnt : ExCount
  deriving DecidableEq, Repr

/-- A UID is decoded (R223, R229, R230, R239, R242, R247): it is registered, its held record opened or discarded DUP, and
its per-tag list begins. -/
def State.decodeUid (s : State) (n : Fin 24) (uid : List Byte) (d : Decode) : State :=
  match s.plan? n, s.inv? n with
  | some p, some i =>
    let prep := if i.prof.proto = 0 then decide (0 < i.tagCount) || i.quiet
      else i.prof.proto == 2 && decide (0 < i.tagCount)
    let dup := s.isCarried uid || (s.heldOf n uid).isSome
    let s1 := s.register uid
    let run : TagRun := ⟨uid, 0, false, dup, false, false, [], d.strength, d.near, d.nearRssi, d.combined,
      none, prep, false⟩
    let s2 := s1.1.modPlan n (fun p => { p with invAny := some true })
    let s3 := s2.modInv n (fun i => { i with decoded := i.decoded + 1, cycleHit := true, tag := some run })
    let s4 : State :=
      if dup then ((s3.countDiscard n .dup).dropPrep n).modRod n (fun r =>
        { r with closed := r.closed.map (fun c => { c with held := some [] }) })
      else s3.modRod n (fun r => { r with
        held := r.held ++ [⟨uid, i.prof.proto, d.near, d.strength, d.nearRssi, d.combined, [], false, false,
          if p.filter.isSome then none else some true, s1.2, false, s.sys.timebase, d.cnt, none⟩],
        closed := r.closed.map (fun c => { c with held := some uid }) })
    (State.tagNext n (fun s => s.afterTag n) (i.tagCount + 1) s4).settlePlan n
  | _, _ => s

/-- Outcome of an air exchange as a plan sees it; `stamp`: the end of its last frame (R256). -/
structure AirResult where
  status : Status
  data : List Byte
  nbits : Nat
  dec : Decode
  stamp : DWord
  deriving DecidableEq, Repr

/-- The exchange failed (R233). -/
def AirResult.failed (r : AirResult) : Bool := r.status != .ok && r.status != .noResponse

/-- A frame built in advance for a response that failed its check is discarded unsent (R229). -/
def State.lostPrep (s : State) (n : Fin 24) (i : InvRun) : State :=
  if (if i.prof.proto = 0 then decide (0 < i.tagCount) || i.quiet else i.prof.proto == 2 && decide (0 < i.tagCount)) then
    s.count F.ROD_PREP_DISCARD_COUNT n.val
  else s

/-- After an ISO/IEC 15693 inventory exchange in a slot (R224). -/
def State.after15 (s : State) (n : Fin 24) (i : InvRun) (slot : Nat) (r : AirResult) : State :=
  let e := i.cur
  let good := r.status == .ok && r.data.length == 10
  let bad := !good && r.status != .noResponse
  let uid := r.data.drop 2
  if e.slots16 then
    if slot < e.start || !(good || bad) then
      let s1 := s.addCounts n.val r.dec.cnt
      if slot = 15 then s1.cycleDone n else s1.putPlan n (marker15 i.prof (slot + 1))
    else if good then
      let s1 := if slot = 15 then s else s.pushMask n ⟨e.mask, e.len, slot + 1, true⟩
      s1.decodeUid n uid r.dec
    else
      let s1 := (s.addCounts n.val r.dec.cnt).lostPrep n i
      let s2 := s1.pushMask n ⟨e.mask + slot * 2 ^ e.len, e.len + 4, 0, decide (e.len + 4 ≤ 60)⟩
      if slot = 15 then s2.cycleDone n else s2.putPlan n (marker15 i.prof (slot + 1))
  else if good then s.decodeUid n uid r.dec
  else if bad then
    let s1 := (s.addCounts n.val r.dec.cnt).lostPrep n i
    let s2 := if e.len < 64 then
        (s1.pushMask n ⟨e.mask + 2 ^ e.len, e.len + 1, 0, false⟩).pushMask n ⟨e.mask, e.len + 1, 0, false⟩
      else s1
    s2.cycleDone n
  else (s.addCounts n.val r.dec.cnt).cycleDone n

/-- The cycle met a collision, a failed check or a missing answer that it cannot resolve (R228). -/
def State.badCycle (s : State) (n : Fin 24) : State :=
  (s.modInv n (fun i => { i with cycleBad := true })).cycleDone n

/-- After REQA or WUPA (R226): the step ends if no answer comes. -/
def State.afterReqA (s : State) (n : Fin 24) (i : InvRun) (r : AirResult) : State :=
  let s1 := s.addCounts n.val r.dec.cnt
  if r.status = .noResponse then s1.endInventory n else s1.putPlan n (antiA i.prof 1 [])

/-- XOR of bytes. -/
def xorBytes (l : List Byte) : Byte := l.foldl (· ^^^ ·) 0

/-- After an anticollision frame (R226, R229): the SELECT frame or the bit-oriented follow-up was prepared. It goes on until
32 bits and the BCC have arrived without collision; where the collided bit is the last one of the BCC, every bit is known
then. DEDUCED (log entry 54). -/
def State.afterAnti (s : State) (n : Fin 24) (i : InvRun) (x : Exchange) (level : Nat) (known : List Bool)
    (r : AirResult) : State :=
  let s1 := s.addCounts n.val r.dec.cnt
  let got := ((unpackBits r.data).drop x.rxAlign).take r.nbits
  let all := if r.status = .collision then known ++ got ++ [true] else known ++ got
  if r.status = .noResponse then s1.badCycle n
  else if r.status = .collision && decide (all.length < 40) then
    (s1.modInv n (fun i => { i with cycleBad := true })).putPlan n { antiA i.prof level all with prepared := true }
  else
    let five := packBits all
    if (r.status = .ok || r.status = .collision) && five.length = 5 && xorBytes five = 0 then
      s1.putPlan n { selectA i.prof level five with prepared := true }
    else (s1.count F.ROD_PREP_DISCARD_COUNT n.val).badCycle n

/-- After a SELECT frame (R223, R226): the next cascade level, or a decoded UID. -/
def State.afterSelA (s : State) (n : Fin 24) (i : InvRun) (level : Nat) (four : List Byte) (r : AirResult) : State :=
  if r.status = .ok && r.data.length = 1 then
    if bit (byteAt r.data 0) 2 then
      let s1 := s.addCounts n.val r.dec.cnt
      if byteAt four 0 = 0x88 && level < 3 then
        (s1.modInv n (fun i => { i with partUid := i.partUid ++ four.drop 1 })).putPlan n (antiA i.prof (level + 1) [])
      else s1.badCycle n
    else s.decodeUid n (i.partUid ++ four) r.dec
  else (s.addCounts n.val r.dec.cnt).badCycle n

/-- After REQB, WUPB or a Slot-MARKER (R223, R227). -/
def State.afterReqB (s : State) (n : Fin 24) (i : InvRun) (slot : Nat) (r : AirResult) : State :=
  let s0 := s.modInv n (fun i => { i with nextSlot := slot + 1 })
  if r.status = .ok && r.data.length = 12 && byteAt r.data 0 = 0x50 then
    s0.decodeUid n ((r.data.drop 1).take 4) r.dec
  else
    let s1 := s0.addCounts n.val r.dec.cnt
    let s2 := if r.status = .noResponse then s1 else (s1.lostPrep n i).modInv n (fun i => { i with cycleBad := true })
    s2.afterTag n

/-! ### Per-tag exchanges (R233, R234, R251, R258) -/

/-- The step at the present position ends with an entry; the list goes on. -/
def State.stepDone (s : State) (n : Fin 24) : State :=
  (State.tagNext n (fun s => s.afterTag n) 9 (s.modTag n (fun t => { t with pos := t.pos + 1 }))).settlePlan n

/-- A read-class exchange has ended (R233, R258). -/
def State.afterRead (s : State) (n : Fin 24) (p : Plan) (i : InvRun) (t : TagRun) (b : List Byte) (att : Nat)
    (r : AirResult) : State :=
  match s.heldOf n t.uid with
  | some h =>
    let s1 := s.modHeld n h.1 (fun h => { h with cnt := h.cnt.add r.dec.cnt, stamp := r.stamp })
    if r.status = .ok then
      let e := addEntry h.2.entries ⟨i.tagFirst + t.pos, .ok, r.data⟩
      (s1.modHeld n h.1 (fun h => { h with entries := e.1, trunc := e.2 })).stepDone n
    else if att < retries b && s.round.step = 0 then
      s1.putPlan n (tagFrame (p.snap.prof (stepProfile b (i.profNo p))) b t.uid [] t.pos (att + 1) 0)
    else if att < retries b then s1
    else ((s1.discard n h.1 .crc).afterList n (fun s => s.afterTag n)).settlePlan n
  | none => (s.afterList n (fun s => s.afterTag n)).settlePlan n

/-- A write-class exchange has ended (R234). It was sent after the carry, so it counts at once (R146). A step that a round
boundary stops between two of its exchanges has the entry TIMEOUT with the last response (R251, R264).
DESIGN CHOICE (log entry 87). -/
def State.afterWrite (s : State) (n : Fin 24) (p : Plan) (i : InvRun) (t : TagRun) (b : List Byte) (att blk : Nat)
    (r : AirResult) : State :=
  let prof := p.snap.prof (stepProfile b (i.profNo p))
  let s1 := (s.addCounts n.val r.dec.cnt).modTag n (fun t => { t with stamp := some r.stamp })
  let entry := fun (st : Status) (d : List Byte) (s : State) =>
    (s.modTag n (fun t => { t with writes := t.writes ++ [⟨i.tagFirst + t.pos, st, d⟩] })).stepDone n
  if r.status = .ok then
    if blk + 1 < writeBlocks b then
      if s.round.step = 0 then s1.putPlan n (tagFrame prof b t.uid (s.writeData p b (blk + 1)) t.pos 0 (blk + 1))
      else entry .timeout r.data s1
    else entry .ok r.data s1
  else if att < retries b then
    if s.round.step = 0 then s1.putPlan n (tagFrame prof b t.uid (s.writeData p b blk) t.pos (att + 1) blk)
    else entry .timeout r.data s1
  else entry r.status r.data s1

/-- The QUIET frame has ended (R235). -/
def State.afterQuiet (s : State) (n : Fin 24) (r : AirResult) : State :=
  (((s.addCounts n.val r.dec.cnt).modInv n (fun i => { i with tag := none })).afterTag n).settlePlan n

/-- An air exchange of the plan on rod `n` has ended. -/
def State.planResult (s : State) (n : Fin 24) (x : Exchange) (r : AirResult) : State :=
  match s.plan? n, s.inv? n with
  | some p, some i =>
    match x.purpose with
    | .transceive => s
    | .inv15 slot => s.after15 n i slot r
    | .reqA => s.afterReqA n i r
    | .antiA level known => s.afterAnti n i x level known r
    | .selA level four => s.afterSelA n i level four r
    | .reqB slot => s.afterReqB n i slot r
    | .perTag _ att blk =>
      match s.tag? n with
      | some t =>
        let b := s.tagStep p i t.pos
        if isWriteOp (stepOp b) then s.afterWrite n p i t b att blk r
        else if t.gone then (s.afterList n (fun s => s.afterTag n)).settlePlan n
        else s.afterRead n p i t b att r
      | none => s
    | .quiet => s.afterQuiet n r
  | _, _ => s

end Sys2Proof.Machine
end

