-- ==== Sys2Proof/Machine/Aes.lean ====
section
/-! DEFINITION. The cryptographic operations that the spec names by their standards: AES (FIPS 197), AES-CMAC (NIST
SP 800-38B), AES key wrap (RFC 3394) and CTR_DRBG with AES-256 and the derivation function (NIST SP 800-90A). -/

namespace Sys2Proof.Machine
open Sys2Proof

/-! ### AES -/

/-- AES S-box, inputs 0 to 63, one byte each, the lowest input in the lowest byte. -/
def sboxPart0 : Nat :=
  0x75b227ebe28012079a059618c323c7041531d871f1e5a534ccf73f362693fdb7c072a49cafa2d4adf04759fa7dc982ca76abd7fe2b670130c56f6bf27b777c63

/-- AES S-box, inputs 64 to 127, one byte each, the lowest input in the lowest byte. -/
def sboxPart1 : Nat :=
  0xd2f3ff1021dab6bcf5389d928f40a351a89f3c507f02f94585334d43fbaaefd0cf584c4a39becb6a5bb1fc20ed00d153842fe329b3d63b52a05a6e1b1a2c8309

/-- AES S-box, inputs 128 to 191, one byte each, the lowest input in the lowest byte. -/
def sboxPart2 : Nat :=
  0x8ae7a65eaf4566ca94ed58d6d37c8e779e4959162acd3c25c2406490a3a32e0db0b5ede14b8ee4688902a22dc4f816073195d643d7ea7c41744975fec130ccd

/-- AES S-box, inputs 192 to 255, one byte each, the lowest input in the lowest byte. -/
def sboxPart3 : Nat :=
  0x16bb54b00f2d99416842e6bf0d89a18cdf2855cee9871e9b948ed9691198f8e19e1dc186b95735610ef6034866b53e708a8bbd4b1f74dde8c6b4a61c2e2578ba

/-- Inverse AES S-box, inputs 0 to 63, one byte each, the lowest input in the lowest byte. -/
def invSboxPart0 : Nat :=
  0x25d18b6d49a25b76b224d92866a12e084ec3fa420b954cee3d23c2a632947b54cbe9dec444438e3487ff2f9b8239e37cfbd7f3819ea340bf38a53630d56a0952

/-- Inverse AES S-box, inputs 64 to 127, one byte each, the lowest input in the lowest byte. -/
def invSboxPart1 : Nat :=
  0x6b8a130103bdafc1020f3fca8f1e2cd00645b3b80558e4f70ad3bc8c00abd890849d8da75746155edab9edfd5048706c92b6655dcc5ca4d41698688664f6f872

/-- Inverse AES S-box, inputs 128 to 191, one byte each, the lowest input in the lowest byte. -/
def invSboxPart2 : Nat :=
  0xf45acd78fec0db9a2079d2c64b3e56fc1bbe18aa0e62b76f89c5291d711af1476edf751ce837f9e28535ade72274ac9673e6b4f0cecff297eadc674f4111913a

/-- Inverse AES S-box, inputs 192 to 255, one byte each, the lowest input in the lowest byte. -/
def invSboxPart3 : Nat :=
  0x7d0c2155631469e126d677ba7e042b17619953833cbbebc8b0f52aae4d3be0a0ef9cc9939f7ae52d0d4ab519a97f51605fec8027591012b131c7078833a8dd1f

/-- Entry `x` of a table in four parts. -/
def tableAt (p0 p1 p2 p3 : Nat) (x : Byte) : Byte :=
  let n := x.toNat
  let p := if n < 64 then p0 else if n < 128 then p1 else if n < 192 then p2 else p3
  BitVec.ofNat 8 (p >>> (8 * (n % 64)))

/-- S-box. -/
def sbox (x : Byte) : Byte := tableAt sboxPart0 sboxPart1 sboxPart2 sboxPart3 x
/-- Inverse S-box. -/
def invSbox (x : Byte) : Byte := tableAt invSboxPart0 invSboxPart1 invSboxPart2 invSboxPart3 x

/-- Bytewise XOR of two lists. -/
def xorList (a b : List Byte) : List Byte := List.zipWith (· ^^^ ·) a b

/-- Product with x in the field of AES. -/
def xtime (b : Byte) : Byte := if b.getLsbD 7 then (b <<< 1) ^^^ 0x1B#8 else b <<< 1

/-- Product with a constant below 16 in the field of AES. -/
def gmul (k : Nat) (b : Byte) : Byte :=
  let b2 := xtime b
  let b4 := xtime b2
  let b8 := xtime b4
  (if k.testBit 0 then b else 0) ^^^ (if k.testBit 1 then b2 else 0) ^^^ (if k.testBit 2 then b4 else 0)
    ^^^ (if k.testBit 3 then b8 else 0)

/-- One column times a circulant matrix given by its first row. -/
def mixColumn (m0 m1 m2 m3 : Nat) (c : List Byte) : List Byte :=
  let a := c.getD 0 0
  let b := c.getD 1 0
  let d := c.getD 2 0
  let e := c.getD 3 0
  [gmul m0 a ^^^ gmul m1 b ^^^ gmul m2 d ^^^ gmul m3 e, gmul m3 a ^^^ gmul m0 b ^^^ gmul m1 d ^^^ gmul m2 e,
   gmul m2 a ^^^ gmul m3 b ^^^ gmul m0 d ^^^ gmul m1 e, gmul m1 a ^^^ gmul m2 b ^^^ gmul m3 d ^^^ gmul m0 e]

/-- Mix every column of a block. -/
def mixColumns (m0 m1 m2 m3 : Nat) (s : List Byte) : List Byte :=
  mixColumn m0 m1 m2 m3 (s.take 4) ++ mixColumn m0 m1 m2 m3 ((s.drop 4).take 4)
    ++ mixColumn m0 m1 m2 m3 ((s.drop 8).take 4) ++ mixColumn m0 m1 m2 m3 (s.drop 12)

/-- Row `r` moves by `r` columns; `inv` moves it back. -/
def shiftRows (inv : Bool) (s : List Byte) : List Byte :=
  (List.range 16).map (fun i => s.getD ((if inv then i + 16 - 4 * (i % 4) else i + 4 * (i % 4)) % 16) 0)

/-- Round constant `k`, from 1. -/
def rcon : Nat → Byte
  | 0 => 0x8D
  | n + 1 => xtime (rcon n)

/-- Extend a key schedule by `n` words. -/
def expandWords (nk : Nat) : Nat → List (List Byte) → List (List Byte)
  | 0, w => w
  | n + 1, w =>
    let i := w.length
    let t := w.getD (i - 1) []
    let u :=
      if i % nk = 0 then xorList ((t.drop 1 ++ t.take 1).map sbox) [rcon (i / nk), 0, 0, 0]
      else if nk = 8 ∧ i % nk = 4 then t.map sbox else t
    expandWords nk n (w ++ [xorList (w.getD (i - nk) []) u])

/-- Round keys of an AES-128 or AES-256 key, 16 bytes each. -/
def roundKeys (key : List Byte) : List (List Byte) :=
  let nk := key.length / 4
  let w := expandWords nk (4 * (nk + 7) - nk) (chunks Byte 4 nk key)
  chunks Byte 16 (nk + 7) w.flatten

/-- AES forward block operation. -/
def aesEncrypt (key block : List Byte) : List Byte :=
  let ks := roundKeys key
  let s0 := xorList block (ks.headD [])
  let mid := (ks.drop 1).dropLast
  let s1 := mid.foldl (fun s k => xorList (mixColumns 2 3 1 1 (shiftRows false (s.map sbox))) k) s0
  xorList (shiftRows false (s1.map sbox)) (ks.getLastD [])

/-- AES inverse block operation. -/
def aesDecrypt (key block : List Byte) : List Byte :=
  let ks := (roundKeys key).reverse
  let s0 := xorList block (ks.headD [])
  let mid := (ks.drop 1).dropLast
  let s1 := mid.foldl (fun s k => mixColumns 14 11 13 9 (xorList ((shiftRows true s).map invSbox) k)) s0
  xorList ((shiftRows true s1).map invSbox) (ks.getLastD [])

/-! ### AES-CMAC -/

/-- The number that bytes spell, most significant first. -/
def beNat (l : List Byte) : Nat := leNat l.reverse
/-- The `n` bytes of `v`, most significant first. -/
def beBytes (n v : Nat) : List Byte := (leBytes n v).reverse

/-- Doubling of a 128-bit block in the field of CMAC. -/
def cmacDouble (b : List Byte) : List Byte :=
  let v := beNat b
  beBytes 16 (((2 * v) % 2 ^ 128) ^^^ (if 2 ^ 127 ≤ v then 0x87 else 0))

/-- CBC chain over 16-byte blocks. -/
def cbcMac (key : List Byte) (iv : List Byte) (blocks : List (List Byte)) : List Byte :=
  blocks.foldl (fun c b => aesEncrypt key (xorList c b)) iv

/-- A block of zeros. -/
def zero16 : List Byte := List.replicate 16 0

/-- AES-CMAC of a message. -/
def cmac (key msg : List Byte) : List Byte :=
  let k1 := cmacDouble (aesEncrypt key zero16)
  let bs := chunks Byte 16 (msg.length / 16 + 1) msg
  let last := bs.getLastD []
  let fin := if last.length = 16 then xorList last k1 else xorList (padTo 16 (last ++ [0x80])) (cmacDouble k1)
  cbcMac key zero16 (bs.dropLast ++ [fin])

/-- Raw block operations that a CMAC over `n` bytes takes: the subkey block and one for each message block. -/
def cmacBlocks (n : Nat) : Nat := 1 + max 1 ((n + 15) / 16)

/-! ### AES key wrap -/

/-- One inner step of the unwrapping: `t` counts down; `a` is the integrity register, `r` the 64-bit blocks. -/
def unwrapStep (kek : List Byte) (t : Nat) (x : List Byte × List (List Byte)) : List Byte × List (List Byte) :=
  let n := x.2.length
  let i := (t - 1) % n
  let b := aesDecrypt kek (xorList x.1 (beBytes 8 t) ++ x.2.getD i [])
  (b.take 8, x.2.set i (b.drop 8))

/-- Unwrapping of RFC 3394 with the default initial value; none when the integrity check fails. -/
def keyUnwrap (kek c : List Byte) : Option (List Byte) :=
  let bs := chunks Byte 8 (c.length / 8) c
  let r := bs.drop 1
  let ts := ((List.range (6 * r.length)).map (· + 1)).reverse
  let x := ts.foldl (fun x t => unwrapStep kek t x) (bs.headD [], r)
  if x.1 = List.replicate 8 0xA6 then some x.2.flatten else none

/-! ### CTR_DRBG with AES-256 -/

/-- Counter block plus `k`. -/
def addBlock (v : List Byte) (k : Nat) : List Byte := beBytes 16 ((beNat v + k) % 2 ^ 128)

/-- `n` blocks of key stream from the counter after `v`. -/
def ctrBlocks (key v : List Byte) (n : Nat) : List Byte :=
  ((List.range n).map (fun i => aesEncrypt key (addBlock v (i + 1)))).flatten

/-- The update function: new key and V. -/
def drbgUpdate (data : List Byte) (s : List Byte × List Byte) : List Byte × List Byte :=
  let t := xorList (ctrBlocks s.1 s.2 3) data
  (t.take 32, t.drop 32)

/-- The derivation function to 48 bytes. -/
def drbgDf (inp : List Byte) : List Byte :=
  let body := padUnit 16 (beBytes 4 inp.length ++ beBytes 4 48 ++ inp ++ [0x80])
  let key : List Byte := (List.range 32).map (BitVec.ofNat 8)
  let bcc := fun i => cbcMac key zero16 (chunks Byte 16 (body.length / 16 + 1) (padTo 16 (beBytes 4 i) ++ body))
  let t := bcc 0 ++ bcc 1 ++ bcc 2
  let k := t.take 32
  let x1 := aesEncrypt k (t.drop 32)
  let x2 := aesEncrypt k x1
  x1 ++ x2 ++ aesEncrypt k x2

/-- Instantiation from entropy input, nonce and personalisation string. -/
def drbgInit (entropy nonce pers : List Byte) : List Byte × List Byte :=
  drbgUpdate (drbgDf (entropy ++ nonce ++ pers)) (List.replicate 32 0, zero16)

/-- Reseeding from entropy input. -/
def drbgReseed (entropy : List Byte) (s : List Byte × List Byte) : List Byte × List Byte :=
  drbgUpdate (drbgDf entropy) s

/-- Generation of `n` bytes: the bytes and the state after. -/
def drbgGenerate (n : Nat) (s : List Byte × List Byte) : List Byte × (List Byte × List Byte) :=
  let k := (n + 15) / 16
  ((ctrBlocks s.1 s.2 k).take n, drbgUpdate (List.replicate 48 0) (s.1, addBlock s.2 k))

end Sys2Proof.Machine
end

