-- ==== Sys2Proof/Machine/KeysOps.lean ====
section
/-! DEFINITION. Shared operations of the key store and the cipher cores: slots, token entries, the key-encryption key,
erasing, and requests that end (spec/10_key_store_and_cipher.md). -/

namespace Sys2Proof.Machine
open Sys2Proof

/-! ### Slots and token entries (R434 to R440) -/

/-- Key slot `i`. -/
def State.keySlot (s : State) (i : Nat) : KeySlot := tabGet KeySlot.blank s.keys.slots i

/-- Set key slot `i`. -/
def State.setKeySlot (s : State) (i : Nat) (k : KeySlot) : State :=
  { s with keys := { s.keys with slots := tabSet KeySlot.blank s.keys.slots i k } }

/-- Token entry `i`. -/
def State.entry (s : State) (i : Nat) : TokEntry := tabGet TokEntry.blank s.keys.entries i

/-- Set token entry `i`. -/
def State.setEntry (s : State) (i : Nat) (e : TokEntry) : State :=
  { s with keys := { s.keys with entries := tabSet TokEntry.blank s.keys.entries i e } }

/-- The 48 bytes of a token entry (R438). -/
def tokEntryBytes (e : TokEntry) : List Byte :=
  padTo 48 (leBytes 1 e.st ++ leBytes 1 e.locks ++ leBytes 2 e.keySlot ++ leBytes 1 e.modes ++ leBytes 1 (b2n e.pendValid)
    ++ leBytes 2 0 ++ leBytes 4 e.last.toNat ++ leBytes 4 e.pend.toNat ++ leBytes 4 e.enEpoch.toNat
    ++ leBytes 8 e.enStamp.toNat)

/-- MODE[l] of a token entry (R438). -/
def TokEntry.mode (e : TokEntry) (l : Nat) : Nat := bits e.modes (2 * l + 1) (2 * l)

/-- Slots that hold a key (R462). -/
def State.slotsLoaded (s : State) : Nat := s.keys.slots.countP (fun p => p.2.loaded)

/-- The capture that KEY_TOK_DATA returns (R440). -/
def State.captureEntry (s : State) (i : Nat) : State :=
  let b := tokEntryBytes (s.entry i)
  forAll (List.range 12) (fun (k : Nat) (s : State) => s.wr F.KEY_TOK_DATA_DATA k (leNat ((b.drop (4 * k)).take 4)))
    (s.wr F.KEY_TOK_SEL_TIDX 0 i)

/-- Every slot zeroed and EMPTY, every token entry zero, the attributes at their reset values (R437). -/
def State.zeroizeKeys (s : State) : State := { s with keys := { s.keys with slots := [], entries := [] } }

/-! ### Key-encryption key (R441) -/

/-- KEK from the root key and KGEN. -/
def kekOf (rk : List Byte) (kgen : Nat) : List Byte :=
  let m := fun (k : Nat) => leBytes 1 k ++ [0x4B, 0x45, 0x4B, 0x57] ++ leBytes 1 kgen
  cmac rk (m 1) ++ cmac rk (m 2)

/-- The KEK is derived again (R441); without a root key there is none. -/
def State.deriveKek (s : State) : State :=
  { s with keys := { s.keys with kek := if s.otp.rootOk then kekOf s.otp.rootKey (s.rd F.KEY_CFG_KGEN) else [] } }

/-! ### Commands that complete after others -/

/-- A command of the register path of the key store ends (R445). -/
def State.keyCmdDone (s : State) (st : Status) : State :=
  (s.setF F.KEY_CMD_STAT_DONE).wr F.KEY_CMD_STAT_STATUS 0 st.code

/-- A transaction is still to end. -/
def State.liveTxn (s : State) (id : Nat) : Bool := s.txns.any (fun t => t.id == id && t.live)

/-- Commands whose others have all ended complete OK (R446, R455). -/
def State.settleWaits (s : State) : State :=
  let due := s.cph.waits.filter (fun w => !w.others.any s.liveTxn)
  let s1 := { s with cph := { s.cph with waits := s.cph.waits.filter (fun w => w.others.any s.liveTxn) } }
  forAll due (fun (w : AfterOthers) (s : State) =>
    match w.txn with
    | some id => s.finish id .ok
    | none => s.keyCmdDone .ok) s1

/-- A command completes OK once the transactions of a list have ended. -/
def State.waitFor (s : State) (txn : Option Nat) (others : List Nat) : State :=
  ({ s with cph := { s.cph with waits := s.cph.waits ++ [(⟨txn, others⟩ : AfterOthers)] } }).settleWaits

/-! ### Cipher requests -/

/-- Key slot of a CIPHER (R451). -/
def Txn.cipherSlot (t : Txn) : Nat := descField t.desc 16 2 % 512
/-- LEN of a CIPHER. -/
def Txn.cipherLen (t : Txn) : Nat := descField t.desc 20 2
/-- DST of a CIPHER; 0: a record. -/
def Txn.cipherDst (t : Txn) : Nat := descField t.desc 24 8
/-- It is a CIPHER request of the cipher queue. -/
def Txn.isCipher (t : Txn) : Bool := t.unit == unitCph && t.op == 1

/-- Take a request out of the request queue. -/
def State.unqueue (s : State) (id : Nat) : State :=
  { s with cph := { s.cph with queue := s.cph.queue.filter (fun p => p.1 != id) } }

/-- A queued cipher request ends with a status; one that ends KEY_REVOKED counts (R447, R463). -/
def State.endCipher (s : State) (id : Nat) (st : Status) : State :=
  let s1 := (s.unqueue id).finish id st
  if st = .keyRevoked then s1.count F.CPH_CNT_REVOKED_COUNT else s1

/-- Core `c`. -/
def State.core (s : State) (c : Fin 4) : Core4 := vget s.cph.cores c

/-- Change core `c`. -/
def State.modCore (s : State) (c : Fin 4) (f : Core4 → Core4) : State :=
  { s with cph := { s.cph with cores := vmod s.cph.cores c f } }

/-- Change every core. -/
def State.modCores (s : State) (f : Core4 → Core4) : State := { s with cph := { s.cph with cores := s.cph.cores.map f } }

/-! ### Requests of the access sequencer (R27, R31, R448) -/

/-- The sequencer's request of a transaction. -/
def State.job? (s : State) (id : Nat) : Option SeqJob := s.cph.jobs.find? (fun j => j.txn == id)

/-- Key slot that a queued request names. -/
def State.reqSlot (s : State) (id : Nat) : Nat :=
  match s.job? id with
  | some j => j.slot
  | none => match s.txn? id with | some t => t.cipherSlot | none => 0

/-- The sequencer makes a cipher request: a transaction with a general slot, queued behind the others (R27, R31, R448). Its
identity is the second value. -/
def State.makeJob (s : State) (slot blocks : Nat) : State × Nat :=
  let id := s.sys.nextId
  (({ s with
      txns := s.txns ++ [{ newTxn id unitCph none 0 .queued [] with slot := .general, since := s.pwr.aonMicros }],
      sys := { s.sys with nextId := id + 1, lastGeneral := 32 },
      cph := { s.cph with queue := s.cph.queue ++ [(id, [])], jobs := s.cph.jobs ++ [(⟨id, slot, blocks⟩ : SeqJob)] } }).notePeak, id)

/-- A wait for a request learns how it ended. -/
def CipherWait.told (id : Nat) (r : CipherWait) (w : CipherWait) : CipherWait := if w = .waits id then r else w

/-- A request of the sequencer completes: its slot is free and its wait learns the outcome; one that completes KEY_REVOKED
counts (R27, R364, R463). DESIGN CHOICE (log entry 45). -/
def State.jobDone (s : State) (id : Nat) (r : CipherWait) : State :=
  let s1 : State := { s with
    txns := s.txns.filter (fun t => t.id != id),
    cph := { s.cph with queue := s.cph.queue.filter (fun p => p.1 != id), jobs := s.cph.jobs.filter (fun j => j.txn != id) },
    acc := { s.acc with
      run := s.acc.run.map (fun x => { x with cipher := CipherWait.told id r x.cipher }),
      vd := s.acc.vd.map (fun v => { v with cipher := CipherWait.told id r v.cipher }) } }
  if r = .refused then s1.count F.CPH_CNT_REVOKED_COUNT else s1

/-- All cores. -/
def allCores : List (Fin 4) := List.finRange 4

/-- Transactions of the requests that run on cores and satisfy `p`. -/
def State.startedTxns (s : State) (p : CoreRun → Bool) : List Nat :=
  s.cph.cores.toList.filterMap (fun c => match c.run with | some r => if p r then some r.txn else none | none => none)

/-- Started requests that satisfy `p` stop at the end of their block in progress with a status; one that is stopped
already keeps its status. -/
def State.stopCores (s : State) (p : CoreRun → Bool) (st : Status) : State :=
  s.modCores (fun c => { c with run := c.run.map (fun r => if p r && r.stop.isNone then { r with stop := some st } else r) })

/-- The sequencer gives its request up: a queued one is gone at once, a started one stops at the end of its block
(R351, R395). DESIGN CHOICE (log entry 45). -/
def State.leaveJob (s : State) (w : CipherWait) : State :=
  match w with
  | .waits id =>
    if s.cph.queue.any (fun p => p.1 == id) then s.jobDone id .idle else s.stopCores (fun r => r.txn == id) .aborted
  | _ => s

/-- A request of the generator goes behind those fetched before it (R459). -/
def insReq (id : Nat) : List Nat → List Nat
  | [] => [id]
  | k :: t => if id < k then id :: k :: t else k :: insReq id t

/-- A RANDOM or RESEED waits at the generator from its dispatch on (R459). -/
def State.queueRandom (s : State) (id : Nat) : State := { s with rng := { s.rng with queue := insReq id s.rng.queue } }

/-- A queued request that names an erased slot completes KEY_REVOKED (R364, R446, R452). -/
def State.revokeQueued (s : State) (id : Nat) : State :=
  if (s.job? id).isSome then s.jobDone id .refused else s.endCipher id .keyRevoked

/-- Input bytes staged so far of a request that is queued or started and not stopped (R448, R450). -/
def State.cipherInput? (s : State) (id : Nat) : Option (List Byte) :=
  match s.cph.queue.find? (fun p => p.1 == id) with
  | some p => some p.2
  | none => s.cph.cores.toList.findSome? (fun c => match c.run with
    | some r => if r.txn = id && r.stop.isNone then some r.inp else none
    | none => none)

/-- A CIPHER request whose input is not all staged. -/
def State.needsInput (s : State) (t : Txn) : Bool :=
  t.isCipher && (match s.cipherInput? t.id with | some b => decide (b.length < t.cipherLen) | none => false)

/-- Further input bytes of a request are staged. -/
def State.addInput (s : State) (id : Nat) (b : List Byte) : State :=
  { s with cph := { s.cph with
      queue := s.cph.queue.map (fun p => if p.1 = id then (p.1, p.2 ++ b) else p),
      cores := s.cph.cores.map (fun c => { c with run := c.run.map (fun r =>
        if r.txn = id then { r with inp := r.inp ++ b } else r) }) } }

/-! ### Imports (R443, R444) -/

/-- The 48 bytes at PARAMS bytes 16 to 63 of a transaction's descriptor. -/
def State.paramsOf (s : State) (id : Nat) : List Byte :=
  match s.txn? id with
  | some t => descBytes t.desc 16 48
  | none => []

/-- Opcode and parameters of an import. -/
def State.importReq (s : State) (r : ImportReq) : Nat × List Byte :=
  match r with
  | .desc id => ((match s.txn? id with | some t => t.op | none => 0), s.paramsOf id)
  | .reg op ps => (op, ps)

/-- What an unwrapped key spells when it agrees with R442 and the opcode: slot, KLEN, USAGE, key. -/
def unwrapped (op : Nat) (kek ps : List Byte) : Option (Nat × Bool × Nat × List Byte) :=
  let k256 := op == 0x11
  match keyUnwrap kek (ps.take (if k256 then 48 else 32)) with
  | some b =>
    let slot := leNat ((b.drop 4).take 2)
    if byteAt b 0 == 0x4B && byteAt b 1 == b2n k256 && byteAt b 2 < 8 && byteAt b 3 == 0 && slot < 512
        && leNat ((b.drop 6).take 2) == 0 then
      some (slot, k256, byteAt b 2, b.drop 8)
    else none
  | none => none

/-- An import ends (R443): its descriptor, or the register command, completes. -/
def State.endImport (s : State) (r : ImportReq) (st : Status) : State :=
  let s1 := { s with keys := { s.keys with imports := s.keys.imports.tail, importing := false } }
  match r with
  | .desc id => s1.finish id st
  | .reg _ _ => s1.keyCmdDone st

/-- A key preloaded or kept from a slot is discarded (R444, R446, R449). -/
def State.dropKept (s : State) (slot : Nat) : State :=
  s.modCores (fun c => match c.kept with
    | some k => if k.1 = slot then { c with kept := none, preload := false } else c
    | none => c)

/-- The write cycle of an import: the key and its attributes go into the slot (R443, R444). -/
def State.loadKey (s : State) (slot : Nat) (k256 : Bool) (usage : Nat) (key : List Byte) : State :=
  let old := s.keySlot slot
  ((s.setKeySlot slot ⟨true, k256, usage, (old.gen + 1) % 65536, key⟩).dropKept slot).count F.KEY_CNT_IMPORT_COUNT

/-- The import in progress finishes (R443). -/
def State.finishImport (s : State) : State :=
  match s.keys.imports with
  | r :: _ =>
    if s.keys.importing then
      let q := s.importReq r
      match unwrapped q.1 s.keys.kek q.2 with
      | some (slot, k256, usage, key) => (s.loadKey slot k256 usage key).endImport r .ok
      | none => ((s.setF F.KEY_ERR_UNWRAP).count F.KEY_CNT_UNWRAP_FAIL_COUNT).endImport r .authFail
    else s
  | [] => s

/-- The slot that the import in progress will write. -/
def State.importSlot? (s : State) : Option Nat :=
  match s.keys.imports with
  | r :: _ =>
    if s.keys.importing then
      let q := s.importReq r
      (unwrapped q.1 s.keys.kek q.2).map (·.1)
    else none
  | [] => none

/-! ### Erasing (R446, R447) -/

/-- A VERIFY_DECRYPT that uses the slot loses its key (R396). -/
def State.loseVdKey (s : State) (slot : Nat) : State :=
  { s with acc := { s.acc with vd := s.acc.vd.map (fun v =>
      let ps := s.paramsOf v.txn
      if leNat (ps.take 2) = slot || leNat ((ps.drop 2).take 2) = slot then { v with keyLost := true } else v) } }

/-- The erase cycle of a slot (R446). The second value lists the started requests that it stops. An EMPTY slot: no
effect at all. -/
def State.eraseSlot (s : State) (slot : Nat) : State × List Nat :=
  let s0 := if s.importSlot? = some slot then s.finishImport else s
  let k := s0.keySlot slot
  if k.loaded then
    let naming := fun (r : CoreRun) => r.slot == slot
    let s1 := ((s0.setKeySlot slot { k with loaded := false, usage := 0, key := [] }).dropKept slot).loseVdKey slot
    let queued := s1.cph.queue.filter (fun p => s1.reqSlot p.1 == slot)
    let s2 := forAll queued (fun (p : Nat × List Byte) (s : State) => s.revokeQueued p.1) s1
    let stopped := s2.startedTxns naming
    let s3 := (s2.stopCores naming .keyRevoked).modCores (fun c =>
      { c with run := c.run.map (fun r => if naming r then { r with key := [] } else r) })
    (s3.count F.KEY_CNT_ERASE_COUNT, stopped)
  else (s0, [])

/-- ERASE (R446): it completes OK after the completions it caused. -/
def State.eraseCmd (s : State) (txn : Option Nat) (slot : Nat) : State :=
  let r := s.eraseSlot slot
  r.1.waitFor txn r.2

end Sys2Proof.Machine
end

