-- ==== Sys2Proof/Machine/CipherCmds.lean ====
section
/-! DEFINITION. Commands of the key store and of the cipher cores (spec/10_key_store_and_cipher.md). The commands carried
out at fetch (ERASE, ABORT) stand with the scheduler. -/

namespace Sys2Proof.Machine
open Sys2Proof

/-! ### Imports -/

/-- An import goes behind those fetched before it (R443). -/
def insImport (id : Nat) : List ImportReq → List ImportReq
  | [] => [.desc id]
  | .desc k :: t => if id < k then .desc id :: .desc k :: t else .desc k :: insImport id t
  | r :: t => r :: insImport id t

/-- An import is dispatched: it waits behind the one that is being unwrapped (R443). -/
def State.queueImport (s : State) (id : Nat) : State :=
  let l := s.keys.imports
  { s with keys := { s.keys with imports := if s.keys.importing then l.take 1 ++ insImport id (l.drop 1) else insImport id l } }

/-- The import at the head begins when it has this opcode (R443): without a root key it completes AUTH_FAIL. -/
def State.beginImport (s : State) (op : Nat) : State :=
  match s.keys.imports with
  | r :: _ =>
    if s.isOn .keys && !s.keys.importing && (s.importReq r).1 == op then
      if s.otp.rootOk then
        let s1 := { s with keys := { s.keys with importing := true } }
        match r with
        | .desc id => s1.run id
        | .reg _ _ => s1
      else (s.setF F.KEY_ERR_NO_ROOT).endImport r .authFail
    else s
  | [] => s

/-- IMPORT_128 (R443). -/
def execImport128 (s : State) : Out := .next (s.beginImport 0x10)

/-- IMPORT_256 (R443). -/
def execImport256 (s : State) : Out := .next (s.beginImport 0x11)

/-- IMPORT_WRITE_CYCLE (R443, R444): the import in progress finishes unwrapping. -/
def execImportWriteCycle (s : State) : Out := .next (if s.isOn .keys then s.finishImport else s)

/-! ### Registers of the key store -/

/-- Write of KEY_CFG (R9, R441, R462): KGEN until locked; a change derives the KEK again. -/
def writeKeyCfg (w : Word) (s : State) : State :=
  let v := bits w.toNat 3 0
  let s1 := if s.flag F.KEY_CFG_PLOCK || s.rd F.KEY_CFG_KGEN = v then s else (s.wr F.KEY_CFG_KGEN 0 v).deriveKek
  if bit w.toNat 4 then s1.setF F.KEY_CFG_PLOCK else s1

/-- KGEN_WRITE (R441). -/
def execKgenWrite (w : Word) (s : State) : Out := .next (s.hostWrite 0xA000 (writeKeyCfg w))

/-- KEY_PLOCK (R462): a write of 1 to KEY_CFG.PLOCK. -/
def execKeyPlock (w : Word) (s : State) : Out :=
  .next (if bit w.toNat 4 then s.hostWrite 0xA000 (writeKeyCfg w) else s)

/-- Write of KEY_TOK_SEL (R440). DEDUCED (log entry 46). -/
def writeTokSel (w : Word) (s : State) : State := s.captureEntry (bits w.toNat 9 0)

/-- TOKEN_ENTRY_CAPTURE (R440). -/
def execTokenEntryCapture (w : Word) (s : State) : Out := .next (s.hostWrite 0xA018 (writeTokSel w))

/-- A register command of the key store runs (R445). -/
def State.keyCmdBusy (s : State) : Bool :=
  s.keys.imports.any (fun r => match r with | .reg _ _ => true | .desc _ => false)
    || s.cph.waits.any (fun w => w.txn.isNone)

/-- The 48 parameter bytes in KEY_CMD_PARAM (R445). -/
def State.keyParams (s : State) : List Byte :=
  ((List.range 12).map (fun i => leBytes 4 (s.rd F.KEY_CMD_PARAM_DATA i))).flatten

/-- A write of KEY_CMD zeroes the parameters once the command has taken them (R462). -/
def State.zeroKeyParams (s : State) : State :=
  forAll (List.range 12) (fun (i : Nat) (s : State) => s.wr F.KEY_CMD_PARAM_DATA i 0) s

/-- Reserved bytes of a register command's parameters are 0 (R66, R443, R446). -/
def keyParamsOk (op : Nat) (ps : List Byte) : Bool :=
  if op = 0x10 then (ps.drop 32).all (· == 0)
  else if op = 0x12 then leNat (ps.take 2) < 512 && (ps.drop 2).all (· == 0)
  else true

/-- Write of KEY_CMD (R445). -/
def writeKeyCmd (w : Word) (s : State) : State :=
  let op := bits w.toNat 7 0
  let ps := s.keyParams
  if s.keyCmdBusy && op != 0x12 then s.setF F.KEY_ERR_CMD_BUSY
  else
    let s1 := s.zeroKeyParams
    if !(op == 0x10 || op == 0x11 || op == 0x12) || !keyParamsOk op ps then s1.keyCmdDone .badDescriptor
    else if op = 0x12 then s1.eraseCmd none (leNat (ps.take 2))
    else { s1 with keys := { s1.keys with imports := s1.keys.imports ++ [.reg op ps] } }

/-! ### Cipher requests (R448 to R454) -/

/-- CIPHER (R102, R448, R450, R451): input of the first request that lacks some is staged: the inline bytes, or the next
bytes that its data fetch brings. -/
def execCipher (buf : List Byte) (s : State) : Out :=
  .next (onSome (s.txns.find? (fun t => s.needsInput t && (bit (descByte t.desc 18) 1 || s.mayDma)))
    (fun (t : Txn) (s : State) =>
      let n := t.cipherLen
      let got := ((s.cipherInput? t.id).getD []).length
      s.addInput t.id (if bit (descByte t.desc 18) 1 then descBytes t.desc 32 n else buf.take (n - got))) s)

/-- The core on which the next request starts: the preloaded one when it is idle, else the lowest idle one (R448). -/
def State.idleCore? (s : State) : Option (Fin 4) :=
  match allCores.find? (fun c => (s.core c).run.isNone && (s.core c).preload) with
  | some c => some c
  | none => allCores.find? (fun c => (s.core c).run.isNone)

/-- A request starts on a core: its checks at the start, then its key (R448, R449, R452). -/
def State.startCipher (s : State) (c : Fin 4) (t : Txn) (inp : List Byte) : State :=
  let k := s.keySlot t.cipherSlot
  let dec := bit (descByte t.desc 18) 0
  if !k.loaded then s.endCipher t.id .keyRevoked
  else if !bit k.usage (b2n dec) then s.endCipher t.id .badDescriptor
  else
    ((s.unqueue t.id).run t.id).modCore c (fun _ =>
      ⟨some ⟨t.id, t.cipherSlot, k.key, 0, inp, [], none⟩, some (t.cipherSlot, k.gen), false⟩)

/-- A request of the access sequencer starts on a core; with its slot EMPTY it completes KEY_REVOKED (R364, R448, R452). -/
def State.startJob (s : State) (c : Fin 4) (j : SeqJob) : State :=
  let k := s.keySlot j.slot
  if !k.loaded then s.jobDone j.txn .refused
  else ((s.unqueue j.txn).run j.txn).modCore c (fun _ => ⟨some ⟨j.txn, j.slot, k.key, 0, [], [], none⟩, some (j.slot, k.gen), false⟩)

/-- CIPHER_REQUEST_START (R448): the head of the queue starts. -/
def execCipherRequestStart (s : State) : Out :=
  .next (
    if !s.isOn .crypto || !s.isOn .keys then s
    else
      match s.cph.queue with
      | (id, inp) :: _ =>
        match s.idleCore?, s.job? id, s.txn? id with
        | some c, some j, _ => s.startJob c j
        | some c, none, some t => s.startCipher c t inp
        | _, _, _ => s
      | [] => s)

/-- KEY_PRELOAD (R449): the key of the head request goes into an idle core; one preload at most. -/
def execKeyPreload (c : Fin 4) (s : State) : Out :=
  .next (
    if !s.isOn .crypto || !s.isOn .keys || (s.core c).run.isSome || s.cph.cores.toList.any (·.preload) then s
    else
      match s.cph.queue with
      | (id, _) :: _ =>
        let k := s.keySlot (s.reqSlot id)
        if k.loaded then s.modCore c (fun x => { x with kept := some (s.reqSlot id, k.gen), preload := true }) else s
      | [] => s)

/-- A stopped request ends after its block in progress, which is not output; an erase zeroes what it wrote to a host
buffer (R447, R455). -/
def State.coreStopped (s : State) (c : Fin 4) (r : CoreRun) (st : Status) : State :=
  let s1 := s.modCore c (fun x => { x with run := none })
  if (s.job? r.txn).isSome then (s1.jobDone r.txn (if st = .keyRevoked then .refused else .idle)).settleWaits
  else
  match s1.txn? r.txn with
  | some t =>
    let s2 := if st = .keyRevoked && t.cipherDst != 0 && !r.out.isEmpty then
        s1.bufWrite t.cipherDst (List.replicate r.out.length 0) else s1
    (s2.endCipher t.id st).settleWaits
  | none => s1.settleWaits

/-- A block of a started request is produced (R450, R453, R454). -/
def State.coreBlock (s : State) (c : Fin 4) (r : CoreRun) (t : Txn) : State :=
  let inp := (r.inp.drop (16 * r.done)).take 16
  let blk := if bit (descByte t.desc 18) 0 then aesDecrypt r.key inp else aesEncrypt r.key inp
  let out := r.out ++ blk
  let s1 := s.count F.CPH_CNT_BLOCKS_COUNT
  let s2 := if t.cipherDst = 0 then s1 else s1.bufWrite (t.cipherDst + 16 * r.done) blk
  if t.cipherLen ≤ 16 * (r.done + 1) then
    let s3 := s2.modCore c (fun x => { x with run := none })
    let s4 := if t.cipherDst = 0 then s3.emitAcc .cipher .ok unitCph t s.sys.timebase out else s3
    (s4.finish t.id .ok).settleWaits
  else s2.modCore c (fun x => { x with run := some { r with done := r.done + 1, out := out } })

/-- A block of a request of the access sequencer is output; after its last the core is free and the sequencer has its result
(R450, R463). -/
def State.jobBlock (s : State) (c : Fin 4) (r : CoreRun) (j : SeqJob) : State :=
  let s1 := s.count F.CPH_CNT_BLOCKS_COUNT
  if j.blocks ≤ r.done + 1 then (s1.modCore c (fun x => { x with run := none })).jobDone j.txn (.done r.key)
  else s1.modCore c (fun x => { x with run := some { r with done := r.done + 1 } })

/-- CIPHER_BLOCK_DONE (R102, R450): the core ends its block; it waits while the block's input is not staged, and while its
output cannot be written to its host buffer. DESIGN CHOICE (log entries 1 and 45). -/
def execCipherBlockDone (c : Fin 4) (s : State) : Out :=
  .next (
    match (s.core c).run with
    | some r =>
      match r.stop with
      | some st => s.coreStopped c r st
      | none =>
        match s.job? r.txn, s.txn? r.txn with
        | some j, _ => s.jobBlock c r j
        | none, some t =>
          if decide (r.inp.length < 16 * (r.done + 1)) || (t.cipherDst != 0 && !s.mayDma) then s else s.coreBlock c r t
        | none, none => s.modCore c (fun x => { x with run := none })
    | none => s)

/-- ABORT on SQ26 or SQ27 (R455): requests of the same ring fetched before it end ABORTED. -/
def State.cipherAbort (s : State) (t : Txn) : State :=
  let mine := s.txns.filter (fun u => u.unit == unitCph && u.sq == t.sq && u.live && decide (u.id < t.id)
    && (u.op == 1 || u.op == 2 || u.op == 3))
  let started := s.startedTxns (fun r => mine.any (fun u => u.id == r.txn))
  let s1 := forAll mine (fun (u : Txn) (s : State) =>
    if started.contains u.id then s
    else
      let s2 := { s with rng := { s.rng with queue := s.rng.queue.filter (· != u.id) } }
      s2.endCipher u.id .aborted) s
  (s1.stopCores (fun r => started.contains r.txn) .aborted).waitFor (some t.id) started

end Sys2Proof.Machine
end

