-- ==== Sys2Proof/Machine/UhfCmds.lean ====
section
/-! DEFINITION. The UHF radio: states, duty ledger, calibration, descriptors of SQ25 (spec/09_uhf_radio.md). ABORT, which
is carried out at fetch, stands with the scheduler. -/

namespace Sys2Proof.Machine
open Sys2Proof

/-! ### Region and ledger (R406 to R413) -/

/-- A region is programmed (R406). -/
def State.regionSet (s : State) : Bool := decide (1 ≤ s.otp.region) && decide (s.otp.region ≤ 3)

/-- Sub-band of a channel; 15: no transmission (R407). -/
def State.subBand (s : State) (ch : Nat) : Nat := s.otp.chmap.getD ch 15

/-- MAX_POWER of a sub-band. -/
def State.sbPower (s : State) (b : Nat) : Nat := (s.otp.subBands.getD b (0, 0)).1

/-- Ledger limit of a sub-band in µs: DUTY in units of 0.01 % of 3,600 s (R411). -/
def State.sbLimit (s : State) (b : Nat) : Nat := (s.otp.subBands.getD b (0, 0)).2 * 360000

/-- USED of a sub-band in µs (R411). -/
def State.sbUsed (s : State) (b : Nat) : Nat := (vget s.uhf.ledger (ix 7 b)).sum

/-- Change the radio. -/
def State.modUhf (s : State) (f : UhfPart → UhfPart) : State := { s with uhf := f s.uhf }

/-- Add to a bucket of a ledger: bucket 0 is the current one. -/
def addBucket (f : Nat → Nat) : Nat → List Nat → List Nat
  | 0, [] => [f 0]
  | 0, x :: t => f x :: t
  | n + 1, [] => 0 :: addBucket f n []
  | n + 1, x :: t => x :: addBucket f n t

/-- A transmission, `train` a ranging train, is tested against the ledger: admitted and charged, or refused (R413). True:
admitted. -/
def State.admitTx (s : State) (band planned : Nat) (train : Bool) : State × Bool :=
  if s.sbUsed band + planned ≤ s.sbLimit band then
    ((s.modUhf (fun u =>
      { u with ledger := vmod u.ledger (ix 7 band) (addBucket (· + planned) 0), charge := some ⟨band, planned, 0, train⟩ })).count
      F.UHF_CNT_TX_COUNT, true)
  else ((s.setF F.UHF_ERR_DUTY).count F.UHF_CNT_REG_COUNT, false)

/-- When TX is left the charge is corrected to the actual on-time (R413). -/
def State.correctCharge (s : State) (actual : Nat) : State :=
  match s.uhf.charge with
  | some c =>
    s.modUhf (fun u =>
      { u with charge := none,
               ledger := vmod u.ledger (ix 7 c.band) (addBucket (· - (c.planned - min actual c.planned)) c.age) })
  | none => s

/-! ### State of the radio (R400 to R405, R419, R420) -/

/-- UHF_STAT.STATE (R400). -/
def State.radio (s : State) : Nat := s.rd F.UHF_STAT_STATE

/-- Locked channel. -/
def State.radioChan (s : State) : Nat := s.rd F.UHF_STAT_CHAN

/-- The transition into TX for the train has begun: 25 µs before t_0, from SYNTH_ON on its channel (R321, R420). -/
def State.trainBegun (s : State) : Bool :=
  s.radio == 4
    || (match s.link.listen, s.link.last with
        | .train _ _, some x =>
          s.radio == 2 && s.radioChan == x.tok.dbChan
            && decide (s.link.ended.toNat + 100 * x.tok.delay ≤ s.sys.timebase.toNat + 25)
        | _, _ => false)

/-- A train that was admitted and whose transition into TX has not begun is not charged. Any other charge is corrected when its TX
is reported left (R412, R413, UHF_TX_END). -/
def State.dropTrain (s : State) : State :=
  if s.uhf.charge.any (·.train) && !s.trainBegun then s.correctCharge 0 else s

/-- Channel of an SQ25 descriptor that names one (R426). -/
def Txn.uhfChan (t : Txn) : Nat := descByte t.desc 16

/-- The radio must stay in SLEEP (R405, R406, R601, R602). -/
def State.radioOff (s : State) : Bool :=
  !s.isOn .uhf || s.field.shutdown || !s.regionSet || s.padsHeld .uhf

/-- State and channel to which the radio moves (R404, R420); SQ25 waits for a complete calibration cycle in SYNTH_ON (R417).
DESIGN CHOICE (log entry 92). -/
def State.radioGoal (s : State) : Nat × Nat :=
  let rest := (s.rd F.UHF_CTL_REST, s.rd F.UHF_CTL_REST_CH)
  if s.radioOff then (0, 0)
  else
    match s.uhf.need with
    | .slots c => (3, c)
    | .train c => (4, c)
    | .none =>
      match s.running? unitUhf with
      | some t =>
        if (t.op == 2 || t.op == 3 || t.op == 5) && !s.flag F.UHF_CAL_STAT_VALID then (2, t.uhfChan)
        else if t.op = 2 || t.op = 5 then (4, t.uhfChan)
        else if t.op = 3 then (3, t.uhfChan)
        else if t.op = 4 then (2, s.rd F.UHF_CTL_REST_CH)
        else rest
      | none => rest

/-- The HF PLL is asked for (R603). -/
def State.hfReq (s : State) : Bool :=
  s.isOn .hfa || s.isOn .hfb || s.surveyBusy || (s.isOn .uhf && (s.radio != 0 || s.radioGoal.1 != 0))

/-- The HF PLL stops when nothing asks for it (R603). -/
def State.hfSettle (s : State) : State := if s.hfReq then s else { s with pwr := { s.pwr with hfLock := false } }

/-- Bring the radio to a state on a channel. A calibration step in progress runs in SYNTH_ON only: one that the radio leaves
is made again (R417). The HF PLL stops with the radio in SLEEP (R603). DESIGN CHOICE (log entry 75). -/
def State.setRadio (s : State) (st ch : Nat) : State :=
  ((((s.wr F.UHF_STAT_STATE 0 st).wr F.UHF_STAT_CHAN 0 ch).wr F.UHF_STAT_LOCK 0 (b2n (decide (2 ≤ st)))).modUhf (fun u =>
    { u with calStep := u.calStep && decide (st = 2) })).hfSettle

/-- An exchange or a CALIBRATE at the front of the sequencer's requests (R338, R392). -/
def State.accStarts (s : State) (q : AccReq) : Bool :=
  match q with
  | .trig _ _ => !s.acc.needRestore
  | .reg op _ _ => (op == 1 && !s.acc.needRestore) || op == 2
  | .desc id _ =>
    match s.txn? id with
    | some t => (t.op == 1 && !s.acc.needRestore) || t.op == 2
    | none => false

/-- Nothing but the radio keeps an exchange from starting (R601, R631). -/
def State.accAble (s : State) : Bool :=
  s.isOn .core && !([Domain.core, .lf, .uhf].any (fun d => s.isOn d && s.padsHeld d)) && !s.flag F.DBG_STAT_HALTED

/-- A wait of a lock or token is active: up to, not including, its end (R375). -/
def State.waiting (s : State) (token : Bool) (i : Nat) : Bool :=
  s.acc.waits.any (fun w => w.token == token && w.idx == i && decide (s.pwr.aonMicros < w.until_))

/-- Next index to poll again (R344): collided slots in ascending order, indices in ascending order.
DEDUCED (log entry 42). -/
def State.nextRepoll (s : State) (r : AccRun) : Option Nat :=
  if r.cfg.repollMax ≤ r.polls then none
  else
    (r.collided.flatMap (fun slot => (List.range 128).map (fun k => 8 * k + slot))).find? (fun i =>
      let e := s.entry i
      e.st == 1 && bit e.locks r.lock && !s.waiting true i && !r.answered.contains i && !r.tried.contains i)

/-- The exchange may still ask for slots or a train: not in the transponder phase or on END, nor where only a release or a
refusal is left without a candidate or an index to poll again (R344, R349, R419). -/
def State.radioAhead (s : State) (r : AccRun) : Bool :=
  let more := r.op != 2 && (!r.cands.isEmpty || (s.nextRepoll r).isSome)
  r.phase != 5 && r.phase != 6
    && (match r.stage with
        | .interlock => more
        | .judge (.noAnswer _) => more
        | .judge .ranged => more
        | .judge .session => r.op == 2 || r.cfg.db || more
        | .judge .answered => r.op == 2 || r.cfg.db || more
        | .judge .start => more
        | _ => true)

/-- The access sequencer holds the radio, or an exchange waits for it (R349, R419). The hold ends with the last slot or
train; while a judgement can still call for another one it goes on. DEDUCED (log entry 76). -/
def State.radioHeld (s : State) : Bool :=
  match s.acc.run with
  | some r => if r.stage == .ready then s.accAble else s.radioAhead r
  | none =>
    match s.acc.reqs with
    | q :: _ => s.accAble && s.accStarts q
    | [] => false

/-- An SQ25 transaction is being carried out. -/
def State.uhfBusy (s : State) : Bool := (s.running? unitUhf).isSome

/-- End a radio transaction; what the radio keeps of the one being carried out goes with it, and a frame on the air is cut
(R561). -/
def State.endUhf (s : State) (id : Nat) (st : Status) : State :=
  let runs := (s.running? unitUhf).any (fun t => t.id == id)
  let s' := if !runs then s
    else if s.uhf.inFrame then (s.crcCut 0x40 none).flushGroup 24 id
    else if s.radio = 4 && st != .ok && (s.running? unitUhf).any (fun t => t.op == 2) then s.crcCut 0x41 (some s.uhf.bytes)
    else s
  let s0 := if runs then
      s'.modUhf (fun u =>
        { u with admitted := false, window := false, inFrame := false, records := 0, anyOk := false, bytes := [] })
    else s
  let s1 := s0.finish id st
  if st = .late then s1.count F.UHF_CNT_LATE_COUNT else s1

/-- Planned on-time of a TRANSMIT or CW in µs (R412); `rx`: the transition starts in RX. -/
def plannedTx (t : Txn) (rx : Bool) : Nat :=
  let d := t.desc
  let base :=
    if t.op = 2 then
      let n := 64 + 8 * (descField d 20 2 + 2 * b2n (bit (descByte d 18) 0))
      30 + (n * 260417 + 9999) / 10000
    else 30 + descField d 20 4
  base + (if rx then 15 else 0)

/-- NLT of a descriptor lies before the time `k` µs from now (R421). -/
def State.lateBy (s : State) (d : Desc) (k : Nat) : Bool :=
  bit (descByte d 1) 2 && decide (descField d 8 8 < s.sys.timebase.toNat + k)

/-- The radio stands where a TRANSMIT or CW would begin its transition into TX (R401, R413, R417, R418, R421): one whose
first bit could not start by NLT is LATE; otherwise the ledger is asked. A calibration step in progress ends first. -/
def State.radioAdmit (s : State) : State :=
  match s.running? unitUhf with
  | some t =>
    if (t.op == 2 || t.op == 5) && !s.uhf.admitted && s.uhf.charge.isNone && (s.radio == 2 || s.radio == 3)
        && s.radioChan == t.uhfChan && s.flag F.UHF_CAL_STAT_VALID && !s.radioOff && !s.uhf.calStep then
      if s.lateBy t.desc (if s.radio = 3 then 40 else 25) then s.endUhf t.id .late
      else
        match s.admitTx (s.subBand t.uhfChan) (plannedTx t (s.radio == 3)) false with
        | (s1, true) => s1.modUhf (fun u => { u with admitted := true })
        | (s1, false) => s1.endUhf t.id .regulatory
    else s
  | none => s

/-- The slot that is being received notes that RX has been reached (R319). -/
def State.noteRx (s : State) : State :=
  match s.link.listen with
  | .slots n k (some c) => { s with link := { s.link with listen := .slots n k (some { c with rx := true }) } }
  | _ => s

/-- What goes before the bytes of a frame (R314, R427): the preamble 0xAAAAAAAA and the sync word, bit 31 first. -/
def airPrefix (sync : Nat) : List Byte := List.replicate 4 0xAA ++ (leBytes 4 sync).reverse

/-- What reaching a state brings: a window opens, a frame or carrier goes out, SET_REST completes (R404, R427, R428). -/
def State.radioReached (s : State) : State :=
  let s1 := if s.radio = 3 then s.noteRx else s
  match s1.uhf.need, s1.running? unitUhf with
  | .none, some t =>
    if t.op = 1 then
      if s1.radio = s1.rd F.UHF_CTL_REST && (s1.radio != 2 || s1.radioChan == s1.rd F.UHF_CTL_REST_CH) then
        s1.endUhf t.id .ok
      else s1
    else if t.op = 3 && s1.radio = 3 && s1.radioChan = t.uhfChan && s1.flag F.UHF_CAL_STAT_VALID then
      if s1.nltPassed t.desc then s1.endUhf t.id .late
      else s1.modUhf (fun u => { u with window := true, divA := none })
    else if t.op = 2 && s1.radio = 4 then
      s1.emitOut (.uhfFrame t.uhfChan (descByte t.desc 17) (airPrefix t.sync ++ s1.uhf.bytes))
    else if t.op = 5 && s1.radio = 4 then s1.emitOut (.uhfCarrier t.uhfChan (descByte t.desc 17) (descByte t.desc 18 == 1))
    else s1.radioAdmit
  | _, _ => s1

/-- The radio may enter RX or TX: after the calibration step in progress, for SQ25 after a complete calibration cycle, and for
TX once admitted (R413, R417, R418). -/
def State.mayEnter (s : State) (st : Nat) : Bool :=
  !s.uhf.calStep
    && (match s.uhf.need with
      | .none => s.flag F.UHF_CAL_STAT_VALID && (st == 3 || s.uhf.admitted)
      | .slots _ => true
      | .train _ => true)

/-- One transition toward the goal (R401, R402): a state below SYNTH_ON is gone down to at once, after the calibration step in
progress unless the radio must stop (R418, R430), another channel by way of SYNTH_ON. DESIGN CHOICE (log entry 75). -/
def State.radioStep (s : State) : State :=
  let g := s.radioGoal
  let st := s.radio
  let ch := s.radioChan
  if g.1 < st && decide (g.1 ≤ 2) then
    if s.uhf.calStep && !s.radioOff then s else (s.setRadio g.1 ch).radioReached
  else if 3 ≤ st && ch != g.2 then (s.setRadio 2 ch).radioReached
  else if g.1 < st then (s.setRadio g.1 ch).radioReached
  else if st = 0 && g.1 != 0 then if s.pwr.hfLock then (s.setRadio 1 ch).radioReached else s
  else if st = 1 && 2 ≤ g.1 then (s.setRadio 2 g.2).radioReached
  else if st = 2 && ch != g.2 then if s.uhf.calStep then s else (s.setRadio 2 g.2).radioReached
  else if 2 ≤ st && st < g.1 then if s.mayEnter g.1 then (s.setRadio g.1 ch).radioReached else s
  else s

/-- The synthesiser is locking to a channel. -/
def State.radioLocking (s : State) : Bool :=
  let g := s.radioGoal
  decide (2 ≤ g.1) && (s.radio == 1 || (s.radio == 2 && s.radioChan != g.2))

/-- A transaction waits for RX or TX and need not wait for the cycle (R418). -/
def State.calYields (s : State) : Bool :=
  s.flag F.UHF_CAL_STAT_VALID
    && (match s.running? unitUhf with | some t => t.op == 2 || t.op == 3 || t.op == 5 | none => false)

/-- A calibration step, 12 µs at most, that starts now ends before the transition that the access sequencer has scheduled must
begin: 215 µs before its first slot, or 25 µs before its train (R415, R418, R420). -/
def State.stepInTime (s : State) : Bool :=
  match s.uhf.need, s.link.last with
  | .slots _, some x => decide (s.sys.timebase.toNat + 12 + 215 ≤ s.link.ended.toNat + x.tok.first)
  | .train _, some x => decide (s.sys.timebase.toNat + 12 + 25 ≤ s.link.ended.toNat + 100 * x.tok.delay)
  | _, _ => true

/-- The next step of a due cycle starts where the radio is in SYNTH_ON, locked, need not go below it, and nothing waits for RX
or TX; before a transition of the access sequencer steps run as long as they end in time (R417, R418). -/
def State.calKick (s : State) : State :=
  if s.isOn .uhf && s.radio == 2 && decide (2 ≤ s.radioGoal.1) && s.flag F.UHF_CAL_STAT_DUE && !s.uhf.calStep && !s.calYields
      && !s.radioLocking && s.stepInTime then
    s.modUhf (fun u => { u with calStep := true })
  else s

/-- UHF_TRANSITION_DONE (R401, R402): the radio reaches the next state on its way. -/
def execUhfTransitionDone (s : State) : Out := .next (if s.isOn .uhf then s.radioStep.calKick else s)

/-- SYNTH_LOCK_TIMEOUT (R403): the radio goes to STANDBY; the SQ25 transaction that needed the lock completes TIMEOUT,
and what the access sequencer needed is lost; a train that is not sent is not charged (R413). -/
def execSynthLockTimeout (s : State) : Out :=
  .next (
    if s.isOn .uhf && s.radioLocking then
      let s1 := (s.setRadio 1 s.radioChan).setF F.UHF_ERR_LOCK_FAIL
      match s.uhf.need, s.running? unitUhf with
      | .none, some t => s1.endUhf t.id .timeout
      | .train _, _ => s1.dropTrain.modUhf (fun u => { u with need := .none })
      | _, _ => s1.modUhf (fun u => { u with need := .none })
    else s)

/-! ### Calibration (R415 to R418) -/

/-- Highest FLD_TEMP reading, in 0.25 °C. -/
def State.hottest (s : State) : Int :=
  (List.range 4).foldl (fun m i => max m (signedOf 16 (s.rd F.FLD_TEMP_TEMP i))) (signedOf 16 (s.rd F.FLD_TEMP_TEMP 0))

/-- A cycle is due (R416). -/
def State.calDue (s : State) : State := (s.setF F.UHF_CAL_STAT_DUE).calKick

/-- The cycle has ended (R415, R417). -/
def State.calEnd (s : State) : State :=
  let s1 := (((s.wr F.UHF_CAL_STAT_STEP 0 0).wr F.UHF_CAL_STAT_DUE 0 0).setF F.UHF_CAL_STAT_VALID).count F.UHF_CNT_CAL_COUNT
  let s2 := s1.modUhf (fun u => { u with lastTemp := s.hottest })
  match s2.running? unitUhf with
  | some t => if t.op = 4 then s2.endUhf t.id .ok else s2.radioAdmit
  | none => s2

/-- CAL_STEP_DONE (R415, R417, R418): the step in progress ends; after the 32nd the cycle is complete. What waited for the end of
the step goes on. -/
def execCalStepDone (s : State) : Out :=
  .next (
    if s.isOn .uhf && s.uhf.calStep then
      let s1 := s.modUhf (fun u => { u with calStep := false })
      let s2 :=
        if s1.rd F.UHF_CAL_STAT_STEP = 31 then s1.calEnd
        else (s1.wr F.UHF_CAL_STAT_STEP 0 (s1.rd F.UHF_CAL_STAT_STEP + 1)).radioAdmit
      s2.calKick
    else s)

/-- CAL_INTERVAL_EXPIRY (R416). -/
def execCalIntervalExpiry (s : State) : Out :=
  .next (if s.isOn .uhf && s.rd F.UHF_CAL_CFG_INTERVAL != 0 then s.calDue else s)

/-- The temperature has moved by TEMP_DELTA since the last cycle (R416). -/
def State.calTemp (s : State) : State :=
  let d := s.rd F.UHF_CAL_CFG_TEMP_DELTA
  if s.isOn .uhf && d != 0 && s.flag F.UHF_CAL_STAT_VALID && decide (4 * d ≤ (s.hottest - s.uhf.lastTemp).natAbs) then
    s.calDue
  else s

/-! ### Ledger time (R411) -/

/-- DUTY_BUCKET_ROTATE (R411): the oldest bucket is zeroed and becomes current. -/
def execDutyBucketRotate (s : State) : Out :=
  .next (s.modUhf (fun u =>
    { u with ledger := u.ledger.map (fun l => (0 :: l).take 60),
             charge := u.charge.map (fun c => { c with age := c.age + 1 }) }))

/-! ### Descriptors (R425 to R431) -/

/-- The head of SQ25's queue may start when it has this opcode (R419). -/
def State.uhfTake? (s : State) (op : Nat) : Option Txn :=
  if s.isOn .uhf && !s.radioHeld then s.takeHead? unitUhf op else none

/-- SET_REST (R404). -/
def execSetRest (s : State) : Out :=
  .next (onSome (s.uhfTake? 1) (fun (t : Txn) (s : State) =>
    let s1 := (s.wr F.UHF_CTL_REST 0 (descByte t.desc 16)).wr F.UHF_CTL_REST_CH 0 (descByte t.desc 17)
    (s1.run t.id).radioReached) s)

/-- Bytes after the sync word of a TRANSMIT (R427). -/
def transmitBytes (t : Txn) (buf : List Byte) : List Byte :=
  let d := t.desc
  let n := descField d 20 2
  let b := if bit (descByte d 18) 1 then descBytes d 32 n else (padTo n buf).take n
  if bit (descByte d 18) 0 then b ++ leBytes 2 (crc16B b).toNat else b

/-- What a dispatch keeps for a transaction of the radio (R22): the selected sync word and DIV_EN; a CALIBRATE makes a cycle
due (R416). -/
def State.uhfDispatched (s : State) (t : Txn) : State :=
  let sel := bit (descByte t.desc (if t.op = 2 then 18 else 17)) (if t.op = 2 then 2 else 1)
  let s1 := s.modTxn t.id (fun t =>
    { t with sync := if sel then s.rd F.TOK_SYNC_SYNC else s.rd F.UHF_SYNC_SYNC, divEn := s.flag F.UHF_CTL_DIV_EN })
  if t.op = 4 then s1.calDue else s1

/-- TRANSMIT (R102, R427): `buf` are the bytes that its data fetch brought, once memory requests may be issued. -/
def execTransmit (buf : List Byte) (s : State) : Out :=
  .next (onSome (s.uhfTake? 2) (fun (t : Txn) (s : State) =>
    if bit (descByte t.desc 18) 1 || s.mayDma then
      ((s.modUhf (fun u => { u with bytes := transmitBytes t buf })).run t.id).radioAdmit
    else s) s)

/-- CW (R427). -/
def execCw (s : State) : Out := .next (onSome (s.uhfTake? 5) (fun (t : Txn) (s : State) => (s.run t.id).radioAdmit) s)

/-- RECEIVE (R428): the window opens when RX is reached on CHAN, at once where the radio stands there. -/
def execReceive (s : State) : Out :=
  .next (onSome (s.uhfTake? 3) (fun (t : Txn) (s : State) => (s.run t.id).radioReached) s)

/-- CALIBRATE on SQ25 (R416): a cycle is due and runs to its end. -/
def execUhfCalibrate (s : State) : Out :=
  .next (onSome (s.uhfTake? 4) (fun (t : Txn) (s : State) => (s.run t.id).calDue) s)

/-- TX is left: the charge is corrected and the radio goes down (R401, R413). What waited for that goes on. -/
def State.leaveTx (s : State) (actual : Nat) : State :=
  let s1 := s.correctCharge actual
  (if s1.radio = 4 then (s1.setRadio (min 2 s1.radioGoal.1) s1.radioChan).radioReached else s1.radioAdmit).calKick

/-- UHF_TX_END (R412): a TRANSMIT frame or ranging train ends; also the end of a transmission that was aborted. -/
def execUhfTxEnd (actual : Nat) (s : State) : Out :=
  .next (
    match s.uhf.charge with
    | none => s
    | some _ =>
      match s.uhf.need, s.running? unitUhf with
      | .none, some t =>
        if !s.uhf.admitted then s.leaveTx actual
        else if t.op = 2 && s.radio = 4 then ((s.crcFeed 0x41 s.uhf.bytes).endUhf t.id .ok).leaveTx actual
        else s
      | .train _, _ => if s.radio = 4 then (s.modUhf (fun u => { u with need := .none })).leaveTx actual else s
      | _, _ => s.leaveTx actual)

/-- CW_END (R427): a CW reaches its DUR. -/
def execCwEnd (actual : Nat) (s : State) : Out :=
  .next (
    match s.running? unitUhf with
    | some t => if t.op = 5 && s.radio = 4 && s.uhf.need == .none then (s.endUhf t.id .ok).leaveTx actual else s
    | none => s)

/-- RECEIVE ends by its records (R428). -/
def State.endReceive (s : State) (id : Nat) : State :=
  s.endUhf id (if s.uhf.records = 0 then .noResponse else if s.uhf.anyOk then .ok else .crcError)

/-- Diversity is on for what is being received: as UHF_CTL.DIV_EN was when the downlink frame began, or when the RECEIVE was
dispatched (R22, R334, R422). -/
def State.divOn (s : State) : Bool :=
  match s.link.listen, s.link.last, s.running? unitUhf with
  | .slots _ _ _, some x, _ => x.tok.divEn
  | .slots _ _ _, none, _ => s.flag F.UHF_CTL_DIV_EN
  | _, _, some t => t.divEn
  | _, _, none => s.flag F.UHF_CTL_DIV_EN

/-- A frame received with diversity off counts as a choice of A (R424). -/
def State.noteDiv (s : State) : State :=
  if s.divOn then s
  else
    ((s.wr F.UHF_DIV_RSSI_RSSI_A 0 (s.uhf.divA.getD 0x8000)).wr F.UHF_DIV_RSSI_RSSI_B 0 0x8000).wr F.UHF_DIV_STAT_LAST 0 0

/-- UHF_FRAME_RECEIVED (R428, R429): a frame accepted by RECEIVE ends. DESIGN CHOICE (log entry 92). -/
def execUhfFrameReceived (rx : UhfRx) (s : State) : Out :=
  .next (
    match s.running? unitUhf with
    | some t =>
      if t.op = 3 && s.uhf.inFrame then
        let d := t.desc
        let crc := bit (descByte d 17) 0
        let n := descField d 20 2
        let data := (padTo n rx.bytes).take n
        let good := !crc || leNat ((rx.bytes.drop n).take 2) == (crc16B data).toNat
        let s1 := (s.crcFeed 0x40 rx.bytes).noteDiv
        let content := leBytes 1 t.uhfChan ++ leBytes 1 (s1.rd F.UHF_DIV_STAT_LAST + 2 * b2n (crc && good))
          ++ leBytes 2 (s1.rd F.UHF_DIV_RSSI_RSSI_A) ++ leBytes 2 (s1.rd F.UHF_DIV_RSSI_RSSI_B) ++ leBytes 2 rx.ferr
          ++ leBytes 2 n ++ leBytes 2 0 ++ data
        let s2 := (s1.closeGroup 24 ⟨.uhfFrame, if good then .ok else .crcError, unitUhf, t.tag, t.tagSq, s.sys.timebase, content,
          0, false⟩ t.id).count F.UHF_CNT_FRAME_COUNT
        let s3 := s2.modUhf (fun u =>
          { u with inFrame := false, records := u.records + 1, anyOk := u.anyOk || good })
        if bit (descByte d 17) 2 || !s.uhf.window then s3.endReceive t.id else s3
      else s
    | none => s)

/-- RECEIVE_WINDOW_END (R428): a frame still in reception is received to its end. -/
def execReceiveWindowEnd (s : State) : Out :=
  .next (
    match s.running? unitUhf with
    | some t =>
      if t.op = 3 && s.uhf.window then
        let s1 := s.modUhf (fun u => { u with window := false })
        if s.uhf.inFrame then s1 else s1.endReceive t.id
      else s
    | none => s)

/-- A radio transaction has not reached its start (R421). -/
def State.uhfWaits (s : State) (t : Txn) : Bool :=
  if t.op = 2 || t.op = 5 then t.isQueued || (t.isRunning && !s.uhf.admitted)
  else if t.op = 3 then t.isQueued || (t.isRunning && !s.uhf.window && !s.uhf.inFrame)
  else false

/-- UHF_NLT_EXPIRY (R421): the earliest start that the radio foresees, or the timebase, lies after NLT. A wait on the
access hold cannot be foreseen. -/
def execUhfNltExpiry (earliest : Nat) (s : State) : Out :=
  .next (onSome (s.txns.find? (fun t => t.unit == unitUhf && s.uhfWaits t
      && (s.nltPassed t.desc
        || (bit (descByte t.desc 1) 2 && !s.radioHeld && decide (descField t.desc 8 8 < earliest)))))
    (fun (t : Txn) (s : State) => s.endUhf t.id .late) s)

/-- ABORT on SQ25 (R430). A TRANSMIT or CW on the air is charged its actual on-time when TX is left. -/
def State.uhfAbort (s : State) (t : Txn) : State :=
  match s.running? unitUhf with
  | some u => if u.id == t.id then s.finish t.id .ok else (s.endUhf u.id .aborted).finish t.id .ok
  | none => s.finish t.id .ok

/-- DIVERSITY_CHOICE (R422 to R424): RSSI on both aerials; with DIV_EN = 0 only A is measured. -/
def execDiversityChoice (rssiA rssiB : Nat) (s : State) : Out :=
  .next (
    if !s.isOn .uhf || s.radio != 3 then s
    else if s.divOn then
      let a := signedOf 16 rssiA
      let b := signedOf 16 rssiB
      let last := s.rd F.UHF_DIV_STAT_LAST
      let now := if last = 0 then (if a + 8 < b then 1 else 0) else (if b + 8 < a then 0 else 1)
      let s1 := ((s.wr F.UHF_DIV_RSSI_RSSI_A 0 rssiA).wr F.UHF_DIV_RSSI_RSSI_B 0 rssiB).wr F.UHF_DIV_STAT_LAST 0 now
      match s1.link.listen with
      | .slots n k (some c) =>
        if c.chosen.isSome then s
        else { s1 with link := { s1.link with listen := .slots n k (some { c with chosen := some (rssiA % 65536, rssiB % 65536, now) }) } }
      | _ => s1
    else
      match s.link.listen with
      | .slots n k (some c) =>
        if c.chosen.isSome then s
        else
          ({ s with link := { s.link with listen := .slots n k (some { c with chosen := some (rssiA % 65536, 0x8000, 0) }) } }).modUhf
            (fun u => { u with divA := some (rssiA % 65536) })
      | _ => s.modUhf (fun u => { u with divA := some (rssiA % 65536) }))

/-- Write of UHF_CTL (R11, R404, R410, R433). -/
def writeUhfCtl (w : Word) (s : State) : State :=
  let v := w.toNat
  let s1 := if bits v 1 0 = 3 then s else s.wr F.UHF_CTL_REST 0 (bits v 1 0)
  let s2 := s1.wr F.UHF_CTL_DIV_EN 0 (bits v 2 2)
  let s3 := if bits v 15 8 < s.otp.nChan then s2.wr F.UHF_CTL_REST_CH 0 (bits v 15 8) else s2
  if bit v 31 then
    forAll [F.UHF_CNT_TX_COUNT, F.UHF_CNT_FRAME_COUNT, F.UHF_CNT_REG_COUNT, F.UHF_CNT_LATE_COUNT, F.UHF_CNT_CAL_COUNT]
      (fun (f : Fld) (s : State) => s.wr f 0 0) s3
  else s3

end Sys2Proof.Machine
end

