-- ==== Sys2Proof/Machine/LinkOps.lean ====
section
/-! DEFINITION. Shared operations of the Lorle link: LF channels, downlink frames, uplink slots, transponder answers
(spec/07_lorle_link.md). -/

namespace Sys2Proof.Machine
open Sys2Proof

/-! ### LF channels (R295 to R304) -/

/-- Change the link. -/
def State.modLink (s : State) (f : LinkPart → LinkPart) : State := { s with link := f s.link }

/-- Channel `n` is in FAULT: OVERCURRENT or OPEN is 1 (R302). -/
def State.lfFault (s : State) (n : Nat) : Bool := s.flag F.LF_ERR_OVERCURRENT n || s.flag F.LF_ERR_OPEN n

/-- Settings in the registers of channel `n`. -/
def State.lfRegs (s : State) (n : Nat) : LfDrive :=
  ⟨s.flag F.LF_CFG_EN n, s.flag F.LF_CFG_TP_EN n, s.rd F.LF_DRV_IPK n, s.rd F.LF_DRV_TP_IPK n, s.rd F.LF_DRV_DEAD n,
    s.rd F.LF_DRV_DAMP n, s.rd F.LF_SNS_RSNS n, s.rd F.LF_SNS_IOC n, s.rd F.LF_SNS_LM_TH n⟩

/-- Channel `n` begins to drive: its settings are taken (R304). -/
def State.lfStart (s : State) (n : Nat) : State :=
  (s.modLink (fun l => { l with drives := vset l.drives (ix 7 n) (s.lfRegs n) })).wr F.LF_STAT_STATE n 1

/-- Channel `n` stops driving or listening. -/
def State.lfStop (s : State) (n : Nat) : State := if s.lfFault n then s else s.wr F.LF_STAT_STATE n 0

/-- Levels of LF_GH and LF_GL at a tick of a driven carrier cycle of 217 ticks (R295, R297). -/
def lfGates (w tick : Nat) : Bool × Bool := (decide (tick < w), decide (108 ≤ tick) && decide (tick < 108 + w))

/-- Levels of LF_GH[n] and LF_GL[n] (R296): `w` is the width of the present cycle when the modulation drives it. Outside a
driven cycle, in reset, with LF not ON, in FAULT and in thermal shutdown both are low: BRAKE. -/
def State.lfLevels (s : State) (n : Nat) (w : Option Nat) (tick : Nat) : Bool × Bool :=
  match w with
  | some w =>
    if s.isOn .lf && !s.field.shutdown && (s.rd F.LF_STAT_STATE n == 1 || s.rd F.LF_STAT_STATE n == 2) then lfGates w tick
    else (false, false)
  | none => (false, false)

/-- One regulation update of W (R297, R298): target `t` in 10 mA; the peak P is `v` µV over `rsns` mΩ. -/
def lfRegulate (t rsns dead w v : Nat) : Nat :=
  if 100 * v < 98 * (10 * t) * rsns then min (108 - dead) (w + 1)
  else if 102 * (10 * t) * rsns < 100 * v then max 4 (w - 1)
  else w

/-- A driven span as it is walked through: W, the updates in a row that count toward an open coil (R301), the driven
cycles since the carrier came on, the regulated samples, the widths of the present run and the runs so far (newest
first), and the fault met: true OVERCURRENT, false OPEN. -/
structure LfWalk where
  w : Nat
  opens : Nat
  count : Nat
  regulated : List Nat
  widths : List Nat
  runs : List (Nat × List Nat)
  fault : Option Bool
  deriving DecidableEq, Repr

/-- A regulation update, and whether it is the 64th in a row or later that shows an open coil (R298, R301). -/
def LfWalk.update (d : LfDrive) (t : Nat) (k : LfWalk) (v : Nat) : LfWalk :=
  let opens := if k.w = 108 - d.dead && decide (4 * v < 10 * t * d.rsns) then k.opens + 1 else 0
  { k with w := lfRegulate t d.rsns d.dead k.w v, opens := opens, regulated := v :: k.regulated,
           fault := if 64 ≤ opens then some false else none }

/-- A driven cycle with its highest sample (R298, R300): from the fourth consecutive one on it makes a regulation update,
unless regulation is frozen (R327). -/
def LfWalk.cycle (d : LfDrive) (t : Nat) (frozen : Bool) (k : LfWalk) (v : Nat) : LfWalk :=
  if k.fault.isSome then k
  else
    let k1 := { k with widths := k.w :: k.widths, count := k.count + 1 }
    if 10 * d.ioc * d.rsns < v then { k1 with fault := some true }
    else if frozen || decide (k.count < 3) then k1
    else k1.update d t v

/-- The carrier comes on after `off` cycles (R297, R298, R301); `off` = 0: it has been on. -/
def LfWalk.carrierOn (d : LfDrive) (k : LfWalk) (off : Nat) : LfWalk :=
  { k with w := if 64 < off then 4 else max 4 (min (108 - d.dead) k.w), opens := if 64 < off then 0 else k.opens,
           count := if off = 0 then 3 else 0, widths := [] }

/-- A run of consecutive driven cycles. -/
def LfWalk.run (d : LfDrive) (t : Nat) (frozen : Bool) (k : LfWalk) (r : Nat × List Nat) : LfWalk :=
  if k.fault.isSome then k
  else
    let k1 := r.2.foldl (LfWalk.cycle d t frozen) (k.carrierOn d r.1)
    { k1 with runs := (r.1, k1.widths.reverse) :: k1.runs }

/-- Bits of a value, most significant first (R568). -/
def msbBits (n v : Nat) : List Bool := ((List.range n).map (fun i => bit v i)).reverse

/-- The modulation of a frame in halves of a bit cell, 16 carrier cycles each, true for driven (R306, R307): MARK, then each
bit, the most significant of a byte first (R293), a 1 as on and off, a 0 as off and on. -/
def frameHalves (bytes : List Byte) : List Bool :=
  [false, false, false, true, true, true] ++ ((bytes.map (fun b => msbBits 8 b.toNat)).flatten.map (fun b => [b, !b])).flatten

/-- Runs of driven cycles, each with the cycles off before it: `off` and `on` cycles stand, then these halves follow. -/
def lfPattern (off on : Nat) : List Bool → List (Nat × Nat)
  | [] => if on = 0 then [] else [(off, on)]
  | true :: t => lfPattern off (on + 16) t
  | false :: t => if on = 0 then lfPattern (off + 16) 0 t else (off, on) :: lfPattern 16 0 t

/-- Samples of driven cycles dealt out to runs, as far as they go. -/
def takeRuns : List (Nat × Nat) → List Nat → List (Nat × List Nat)
  | [], _ => []
  | (o, k) :: t, l => if l.isEmpty then [] else (o, l.take k) :: takeRuns t (l.drop k)

/-- The runs of driven cycles of a reported span of channel `n` (R306, R307, R311, R325): those of the frame that it carries,
125 cycles of a segment, or a carrier that stays on. -/
def State.lfRuns (s : State) (n : Nat) (sp : LfSpan) : List (Nat × List Nat) :=
  match s.link.frame with
  | some x =>
    if x.chan = n && x.segPos = 0 then
      takeRuns (lfPattern sp.off (if x.tp then sp.lead else 32 * x.tok.cw) (frameHalves x.bytes)) sp.peaks
    else [(sp.off, sp.peaks.take 125)]
  | none => [(sp.off, sp.peaks)]

/-- A driven span of channel `n` walked through; `tp`: at TP_IPK; `frozen`: regulation is frozen (R298, R327). -/
def State.lfWalk (s : State) (n : Nat) (tp frozen : Bool) (sp : LfSpan) : LfWalk :=
  let d := vget s.link.drives (ix 7 n)
  (s.lfRuns n sp).foldl (LfWalk.run d (if tp then d.tpIpk else d.ipk) frozen)
    ⟨s.rd F.LF_STAT_W n, vget s.link.opens (ix 7 n), 0, [], [], [], none⟩

/-- LF_MEAS is written whole (R336). With no regulated cycle in the span IPK_MEAS is a free value, and so is the rounding of
the mean. DESIGN CHOICE (log entry 74). -/
def State.lfMeas (s : State) (n phase rsns : Nat) (regulated : List Nat) : State :=
  let d := s.drawFree
  let last := regulated.take 64
  let q := last.length * rsns
  let mean := if q = 0 then d.2 else last.sum / q + (if last.sum % q = 0 then 0 else d.2 % 2)
  (d.1.wr F.LF_MEAS_PHASE n phase).wr F.LF_MEAS_IPK_MEAS n mean

/-- A driven span of channel `n` ends: its drive goes out, W and LF_MEAS are written (R296 to R301, R336). -/
def State.lfSpan (s : State) (n : Nat) (tp frozen : Bool) (sp : LfSpan) : State :=
  let d := vget s.link.drives (ix 7 n)
  let k := s.lfWalk n tp frozen sp
  (((s.emitOut (.lfDrive n d.damp k.runs.reverse)).modLink (fun l => { l with opens := vset l.opens (ix 7 n) k.opens })).wr
    F.LF_STAT_W n k.w).lfMeas n sp.phase d.rsns k.regulated

/-- Channel `n` is cut while it drives or listens (R305). While its regulation is frozen W and the measurement stand (R327);
while it drives, what it measured up to then is in no operand of the cutting command, so W, the open count and LF_MEAS are
free values. DESIGN CHOICE (log entry 74). -/
def State.lfCut (s : State) (n : Nat) : State :=
  if s.rd F.LF_STAT_STATE n = 1 then
    let a := s.drawFree
    let b := a.1.drawFree
    let d := vget s.link.drives (ix 7 n)
    (((b.1.modLink (fun l => { l with opens := vset l.opens (ix 7 n) (b.2 % 64) })).wr F.LF_STAT_W n
      (4 + a.2 % (105 - d.dead))).wr F.LF_STAT_STATE n 0).lfMeas n b.2 1 []
  else if s.rd F.LF_STAT_STATE n = 2 then s.wr F.LF_STAT_STATE n 0
  else s

/-! ### Downlink frames (R306 to R311) -/

/-- Value of CODE (R309). -/
def DownKind.code : DownKind → Nat
  | .poll => 1 | .repoll _ => 1 | .resync _ => 1 | .challenge => 2 | .confirm => 3 | .range => 4 | .finish => 5

/-- TOK settings in the registers (R334). -/
def State.tokNow (s : State) : TokSettings :=
  ⟨s.rd F.TOK_WAKE_ID_WAKE_ID, s.rd F.TOK_UL_CFG_CHAN, s.rd F.TOK_UL_CFG_ENERGY_TH, s.rd F.TOK_UL_CFG_SYNC_ERR,
    s.rd F.TOK_SLOT_CFG_FIRST, s.rd F.TOK_SLOT_CFG_SLOT, s.rd F.TOK_DB_CFG_CHAN, s.rd F.TOK_DB_CFG_DELAY,
    s.rd F.TOK_DB_CFG_SPACING, s.rd F.TOK_CFG_TRACE, s.rd F.TOK_DL_CFG_CW, s.rd F.TOK_DL_CFG_CHARGE, s.rd F.TOK_SYNC_SYNC,
    s.flag F.UHF_CTL_DIV_EN⟩

/-- A downlink frame with its bytes (R307 to R310). -/
def State.downFrame (s : State) (kind : DownKind) (chan target lock : Nat) (tp burst : Bool) (segs : List Nat)
    (params : List Byte) : DownFrame :=
  let tok := s.tokNow
  let b := leBytes 2 tok.wakeId ++ leBytes 1 (kind.code + 64 * b2n tp + 128 * b2n burst) ++ leBytes 2 target
    ++ leBytes 2 s.originSerial ++ leBytes 1 lock ++ params
  ⟨kind, chan, kind.code, target, lock, tp, burst, b ++ leBytes 2 (crc16B b).toNat, segs, 0, [], none, tp, tok⟩

/-- Channel `n` may carry a frame: enabled and not in FAULT; for a transponder exchange also TP_EN (R302, R325, R342,
R346). -/
def State.lfUsable (s : State) (n : Nat) (tp : Bool) : Bool :=
  s.isOn .lf && !s.padsHeld .lf && !s.field.shutdown && s.flag F.LF_CFG_EN n && (!tp || s.flag F.LF_CFG_TP_EN n) && !s.lfFault n

/-- A downlink frame starts on its channel. -/
def State.beginFrame (s : State) (x : DownFrame) : State :=
  (s.lfStart x.chan).modLink (fun l => { l with frame := some x, listen := .none })

/-- Change the frame in progress. -/
def State.modFrame (s : State) (f : DownFrame → DownFrame) : State := s.modLink (fun l => { l with frame := l.frame.map f })

/-- Channel `c` can carry a segment of frame `x` (R311); clearing EN of the frame's own channel lets its burst finish
(R304). -/
def State.segUsable (s : State) (x : DownFrame) (c : Nat) : Bool :=
  s.lfUsable c false || (c == x.chan && s.isOn .lf && !s.padsHeld .lf && !s.field.shutdown && !s.lfFault c)

/-- The next segment of a burst starts: on its channel, or as silence (R311). At the first one the frame's own channel
ends its span. -/
def State.segStart (s : State) (x : DownFrame) (sp : LfSpan) : State :=
  let i := x.segPos / 2
  let s1 := if i = 0 then (s.lfSpan x.chan false false sp).lfStop x.chan else s
  let c := x.segs.getD i 15
  if decide (c < 8) && s1.segUsable x c then
    (s1.lfStart c).modFrame (fun x => { x with segPos := x.segPos + 1, sent := x.sent ++ [true], segChan := some c })
  else s1.modFrame (fun x => { x with segPos := x.segPos + 1, sent := x.sent ++ [false], segChan := none })

/-- The present segment ends. -/
def State.segEnd (s : State) (x : DownFrame) (sp : LfSpan) : State :=
  let s1 := match x.segChan with
    | some c => (s.lfSpan c false false sp).lfStop c
    | none => s
  s1.modFrame (fun x => { x with segPos := x.segPos + 1, segChan := none })

/-- A segment starts or ends (R311). -/
def State.segStep (s : State) (sp : LfSpan) : State :=
  match s.link.frame with
  | some x =>
    if x.burst && decide (x.segPos < 6) then
      if x.segPos % 2 = 0 then s.segStart x sp else s.segEnd x sp
    else s
  | none => s

/-- Slots that a frame opens (R316): none for CONFIRM, RANGE, END and transponder frames. -/
def DownFrame.slots (x : DownFrame) : Nat :=
  if x.tp then 0
  else match x.kind with
    | .poll => 8
    | .repoll _ => 1
    | .resync _ => 1
    | .challenge => 1
    | _ => 0

/-- What follows t_E of a frame: slots, train or transponder window. -/
def DownFrame.listenAfter (x : DownFrame) : ListenState :=
  if x.slots != 0 then .slots x.slots 0 none
  else match x.kind with
    | .range => .train false false
    | .confirm => .none
    | .finish => .none
    | _ => .transponder x.chan

/-- What the radio is needed for after a frame (R420). -/
def DownFrame.needAfter (x : DownFrame) : RadioNeed :=
  if x.slots != 0 then .slots x.tok.ulChan
  else match x.kind with
    | .range => .train x.tok.dbChan
    | _ => .none

/-- STATE of the channel of a transponder frame after t_E (R325): listening, driving on, or off after an END, which ends the
exchange. -/
def DownFrame.stateAfter (x : DownFrame) : Nat :=
  match x.kind, x.listenAfter with
  | .finish, _ => 0
  | _, .transponder _ => 2
  | _, _ => 1

/-- The frame reaches t_E (R307, R325, R420): its channel goes off, or in transponder mode drives on. -/
def State.frameOver (s : State) (x : DownFrame) (sp : LfSpan) : State :=
  let s1 := s.emitOut (.lfFrame x.chan x.tp (if x.tp then x.tok.charge else x.tok.cw) x.bytes)
  let s2 :=
    if x.tp then
      (s1.lfSpan x.chan true false sp).wr F.LF_STAT_STATE x.chan x.stateAfter
    else if x.burst then s1
    else (s1.lfSpan x.chan false false sp).lfStop x.chan
  (s2.modLink (fun l => { l with frame := none, last := some x, listen := x.listenAfter, ended := s.sys.timebase })).modUhf (fun u =>
    { u with need := x.needAfter })

/-- Nothing of the link goes on any more: a frame in progress ends, its channels go off (R302, R305, R351). -/
def State.linkStop (s : State) : State :=
  let s1 := match s.link.frame with
    | some x => let s1 := s.lfCut x.chan; (match x.segChan with | some c => s1.lfCut c | none => s1)
    | none => s
  let s2 := match s1.link.last with
    | some x => if x.tp then s1.lfCut x.chan else s1
    | none => s1
  (s2.modLink (fun l => { l with frame := none, last := none, listen := .none })).modUhf (fun u => { u with need := .none })

/-! ### Outcomes (R316 to R320, R328) -/

/-- TIDX of an uplink body (R314). -/
def bodyTidx (b : List Byte) : Nat := leNat (b.take 2)
/-- MSG of an uplink body. -/
def bodyMsg (b : List Byte) : Nat := leNat ((b.drop 2).take 2)
/-- NC of an uplink body. -/
def bodyNc (b : List Byte) : List Byte := (b.drop 4).take 16
/-- MAC of an uplink body. -/
def bodyMac (b : List Byte) : List Byte := (b.drop 20).take 8
/-- RSSI report of an uplink body. -/
def bodyRssi (b : List Byte) : List Byte := (b.drop 28).take 10

/-- A body whose CRC is good (R310, R314). -/
def bodyGood (b : List Byte) : Bool :=
  b.length == 40 && leNat (b.drop 38) == (crc16B (b.take 38)).toNat

/-- Reserved bits of a body are 0 and its KIND answers the command (R314, R315, R320). -/
def bodyFits (x : DownFrame) (b : List Byte) : Bool :=
  decide (bodyTidx b < 1024) && decide (bodyMsg b < 64) && decide (byteAt b 37 < 8)
    && bodyMsg b % 16 == (if x.code = 2 then 2 else 1)

/-- TIDX fits the slot (R316) or, in a transponder answer, the TARGET (R328). -/
def tidxFits (x : DownFrame) (slot : Nat) (b : List Byte) : Bool :=
  if x.target = 0xFFFF then x.tp || bodyTidx b % 8 == slot else bodyTidx b == x.target

/-- Time in µs for which energy lay above ENERGY_TH, `th` for −th/2 dBm (R320, R334). `l`: the levels received, in 0.25 dBm, each
with its time in µs. -/
def energyTime (th : Nat) (l : List (Int × Nat)) : Nat :=
  ((l.filter (fun p => decide (-(2 * (th : Int)) < p.1))).map (·.2)).sum

/-- Outcome of a slot (R320); `energy`: µs above ENERGY_TH. DEDUCED (log entry 50). -/
def slotOutcome (x : DownFrame) (slot energy : Nat) (c : SlotRun) : LinkOutcome :=
  let good := c.frames.any (·.good)
  if c.syncs = 0 && decide (energy < 1667) then .empty
  else if 2 ≤ c.syncs || c.frames.any (fun f => !f.good) || !good then .collision
  else
    match c.frames.head? with
    | some f => if bodyFits x f.body && tidxFits x slot f.body then .frame else .stray
    | none => .collision

/-- The measured P of a half bit shows loading: it lies LM_TH or more from the unloaded P `base`, on either side (R327). -/
def loaded (th base p : Nat) : Bool := decide (0 < base) && decide (th * base ≤ 1000 * ((p : Int) - base).natAbs)

/-- The bits of a load-modulated answer from the P of its half bits, up to the first Manchester violation (R326, R327): a 1
is loaded in its first half and unloaded in its second, a 0 the reverse. -/
def tpBits (th base : Nat) : List (Nat × Nat) → List Bool
  | [] => []
  | (a, b) :: t => if loaded th base a != loaded th base b then loaded th base a :: tpBits th base t else []

/-- Bytes of bits that arrive most significant bit first (R293). -/
def msbBytes (l : List Bool) : List Byte :=
  if l.isEmpty then []
  else (chunks Bool 8 (l.length / 8 + 1) l).map (fun c => BitVec.ofNat 8 (c.foldl (fun a b => 2 * a + b2n b) 0))

/-- The 40-byte body of a transponder answer (R325, R326); empty where a violation or a missing bit leaves none whole. -/
def tpBody (th base : Nat) (halves : List (Nat × Nat)) : List Byte :=
  let l := tpBits th base (halves.take 320)
  if l.length = 320 then msbBytes l else []

/-- A transponder answer (R325, R327, R328): none when no header 0x7E began 192 to 320 cycles after t_E, otherwise its body. -/
def tpAnswer (th : Nat) (h : TpHead) (halves : List (Nat × Nat)) : Option (List Byte) :=
  if 192 ≤ h.start ∧ h.start ≤ 320 ∧ tpBits th h.base (halves.take 8) = msbBits 8 0x7E then
    some (tpBody th h.base (halves.drop 8))
  else none

/-- Outcome of a transponder answer (R328); a Manchester violation leaves no body. DESIGN CHOICE (log entry 4). -/
def tpOutcome (x : DownFrame) (b : List Byte) : LinkOutcome :=
  if !bodyGood b then .collision
  else if bodyFits x b && tidxFits x 0 b then .frame else .stray

/-- TAG and TAG_SQ of a request of the sequencer, and its transaction (R332, R389). -/
def State.reqTag (s : State) (q : AccReq) : Nat × Nat × Option Nat :=
  match q with
  | .desc id _ => match s.txn? id with | some t => (t.tag, t.tagSq, some id) | none => (0xFFFF, 0xFF, none)
  | _ => (0xFFFF, 0xFF, none)

/-- Those of the transaction in progress. -/
def State.accTag (s : State) : Nat × Nat × Option Nat :=
  match s.acc.run with
  | some r => s.reqTag r.req
  | none => (0xFFFF, 0xFF, none)

/-- Counter of an outcome (R320, R335). -/
def State.countOutcome (s : State) (o : LinkOutcome) : State :=
  match o with
  | .empty => s
  | .collision => s.count F.TOK_CNT_COLL_COUNT
  | .stray => s.count F.TOK_CNT_STRAY_COUNT
  | .frame => s.count F.TOK_CNT_FRAME_COUNT

/-- TRACE asks for a record of the outcome (R332). -/
def traced (trace : Nat) (o : LinkOutcome) : Bool := (trace == 1 && o == .frame) || (trace == 2 && o != .empty)

/-- An outcome is decided: counted, shown in TOK_STAT, and recorded under TRACE (R320, R332 to R334). `path`, `ch`, the
strengths and the offset as in R333; a body that is not complete is recorded as zeros. -/
def State.noteOutcome (s : State) (x : DownFrame) (o : LinkOutcome) (path slot ch rssiA rssiB ferr : Nat)
    (body : List Byte) (stamp : DWord) : State :=
  let s1 := ((s.countOutcome o).wr F.TOK_STAT_SLOT 0 slot).wr F.TOK_STAT_OUTCOME 0 o.code
  if traced x.tok.trace o then
    let tag := s.accTag
    let content := leBytes 1 path ++ leBytes 1 o.code ++ leBytes 1 slot ++ leBytes 1 ch ++ leBytes 2 rssiA
      ++ leBytes 2 rssiB ++ leBytes 2 ferr ++ leBytes 2 0 ++ (if body.length = 40 then body else padTo 40 [])
    s1.emit 24 [⟨.tokenFrame, .ok, unitAcc, tag.1, tag.2.1, stamp, content, 0, false⟩] tag.2.2
  else s1

/-! ### Registers of the link -/

/-- Write of LF_CFG, LF_DRV or LF_SNS (R11, R303, R304). A value above MAX_IPK is refused with REG_LIM, a reserved one
besides too. Other addresses: no effect. -/
def writeLfCfg (addr : Nat) (w : Word) (s : State) : State :=
  let n := (addr - 0x8840) / 0x20
  let off := (addr - 0x8840) % 0x20
  let v := w.toNat
  if addr < 0x8840 || 0x8940 ≤ addr then s
  else if off = 0 then (s.wr F.LF_CFG_EN n (bits v 0 0)).wr F.LF_CFG_TP_EN n (bits v 1 1)
  else if off = 4 then
    let limit := s.otp.maxIpk.getD 200
    let ok := fun (k : Nat) => decide (10 ≤ k) && decide (k ≤ 200)
    let put := fun (f : Fld) (k : Nat) (s : State) =>
      if limit < k then s.setF F.LF_ERR_REG_LIM n else if !ok k then s else s.wr f n k
    let s1 := put F.LF_DRV_TP_IPK (bits v 15 8) (put F.LF_DRV_IPK (bits v 7 0) s)
    let s2 := if bits v 19 16 = 0 then s1 else s1.wr F.LF_DRV_DEAD n (bits v 19 16)
    s2.wr F.LF_DRV_DAMP n (bits v 21 20)
  else if off = 8 then
    let s1 := if 10 ≤ bits v 7 0 && bits v 7 0 ≤ 250 then s.wr F.LF_SNS_RSNS n (bits v 7 0) else s
    let s2 := s1.wr F.LF_SNS_IOC n (bits v 15 8)
    if 5 ≤ bits v 23 16 && bits v 23 16 ≤ 100 then s2.wr F.LF_SNS_LM_TH n (bits v 23 16) else s2
  else s

/-- Write of LF_ERR[n] (R302): a channel whose fault bits are both 0 leaves FAULT. -/
def writeLfErr (n : Nat) (w : Word) (s : State) : State :=
  let v := w.toNat
  let clr := fun (b : Nat) (f : Fld) (s : State) => if bit v b then s.wr f n 0 else s
  let was := s.lfFault n
  let s1 := clr 2 F.LF_ERR_OPEN (clr 1 F.LF_ERR_OVERCURRENT (clr 0 F.LF_ERR_REG_LIM s))
  if was && !s1.lfFault n then s1.wr F.LF_STAT_STATE n 0 else s1

/-- Bit errors of a received sync word (R318, R428). -/
def syncErrors (want : Nat) (w : Word) : Nat := (List.range 32).countP (fun i => bit want i != bit w.toNat i)

/-- A sync word that TOK_SYNC and UHF_SYNC accept (R334, R432). -/
def syncOk (v : Nat) : Bool := v != 0 && v != 0xFFFFFFFF && v != 0xAAAAAAAA && v != 0x55555555

/-- Take a value into a field when it is legal (R11). -/
def State.wrIf (s : State) (legal : Bool) (f : Fld) (v : Nat) : State := if legal then s.wr f 0 v else s

/-- Write of TOK_CFG (R334, R335). -/
def State.writeTokCfg (s : State) (v : Nat) : State :=
  when (bit v 31)
    (fun s => forAll [F.TOK_CNT_FRAME_COUNT, F.TOK_CNT_COLL_COUNT, F.TOK_CNT_STRAY_COUNT, F.TOK_CNT_MISSED_COUNT,
      F.TOK_CNT_DB_MISS_COUNT] (fun (f : Fld) (s : State) => s.wr f 0 0) s)
    (s.wrIf (bits v 1 0 != 3) F.TOK_CFG_TRACE (bits v 1 0))

/-- Write of TOK_UL_CFG (R334). -/
def State.writeTokUl (s : State) (v : Nat) : State :=
  ((s.wrIf (decide (bits v 7 0 < s.otp.nChan)) F.TOK_UL_CFG_CHAN (bits v 7 0)).wrIf
    (decide (120 ≤ bits v 15 8) && decide (bits v 15 8 ≤ 240)) F.TOK_UL_CFG_ENERGY_TH (bits v 15 8)).wr
    F.TOK_UL_CFG_SYNC_ERR 0 (bits v 17 16)

/-- Write of TOK_DB_CFG (R334). -/
def State.writeTokDb (s : State) (v : Nat) : State :=
  ((s.wrIf (decide (bits v 7 0 < s.otp.nChan) && s.subBand (bits v 7 0) != 15) F.TOK_DB_CFG_CHAN (bits v 7 0)).wrIf
    (decide (2 ≤ bits v 15 8)) F.TOK_DB_CFG_DELAY (bits v 15 8)).wrIf
    (decide (12 ≤ bits v 23 16) && decide (bits v 23 16 ≤ 64)) F.TOK_DB_CFG_SPACING (bits v 23 16)

/-- Write of a TOK register (R11, R334, R335, R410). Other addresses: no effect. -/
def writeTok (addr : Nat) (w : Word) (s : State) : State :=
  let v := w.toNat
  if addr = 0x8400 then s.writeTokCfg v
  else if addr = 0x8404 then s.wr F.TOK_WAKE_ID_WAKE_ID 0 (bits v 15 0)
  else if addr = 0x8408 then
    (s.wrIf (decide (4 ≤ bits v 4 0)) F.TOK_DL_CFG_CW (bits v 4 0)).wrIf (decide (10 ≤ bits v 15 8)) F.TOK_DL_CFG_CHARGE
      (bits v 15 8)
  else if addr = 0x840C then s.writeTokUl v
  else if addr = 0x8410 then s.wrIf (syncOk v) F.TOK_SYNC_SYNC v
  else if addr = 0x8414 then
    (s.wrIf (decide (100 ≤ bits v 11 0)) F.TOK_SLOT_CFG_FIRST (bits v 11 0)).wrIf (decide (1050 ≤ bits v 27 16))
      F.TOK_SLOT_CFG_SLOT (bits v 27 16)
  else if addr = 0x8418 then s.writeTokDb v
  else s

end Sys2Proof.Machine
end

