-- ==== Sys2Proof/Machine/SerialOps.lean ====
section
/-! DEFINITION. The serial master: its lanes, what waits for it and whose turn it is (spec/13_timers_crc_serial.md, R567 to
R572; spec/08_access_sequencer.md, R379; spec/14_power_clocks_reset.md, R611). -/

namespace Sys2Proof.Machine
open Sys2Proof

/-! ### Lanes (R568) -/

/-- Some phase of a frame with `len` data bytes uses four lanes. -/
def SpiHead.quad (h : SpiHead) (len : Nat) : Bool :=
  (!h.cmd.isEmpty && h.lanes.getD 0 1 == 4) || (!h.addr.isEmpty && h.lanes.getD 1 1 == 4)
    || ((h.status || len != 0) && h.lanes.getD 2 1 == 4)

/-- Levels of SPI_IO[0] to SPI_IO[3] for one SCK cycle, none where a lane is not driven. SPI_IO[3:2] are high in a frame
without a four-lane phase; a lane that a phase does not use is not driven otherwise. DESIGN CHOICE (log entry 36). -/
def ioLevels (quad : Bool) (io0 io1 : Option Bool) : List (Option Bool) :=
  [io0, io1, if quad then none else some true, if quad then none else some true]

/-- Lanes while one group of bits goes out, the most significant first. -/
def sendLevels (quad : Bool) (b : List Bool) : List (Option Bool) :=
  match b with
  | [x] => ioLevels quad (some x) none
  | [x, y] => ioLevels quad (some y) (some x)
  | _ => (b.map some).reverse

/-- Lanes while a phase on `w` lanes reads, or a dummy phase follows one on `w` lanes. -/
def quietLevels (quad : Bool) (w : Nat) : List (Option Bool) := ioLevels quad (if w ≤ 1 then some false else none) none

/-- Bits on `w` lanes, one group for each SCK cycle. -/
def sendBits (quad : Bool) (w : Nat) (b : List Bool) : List (List (Option Bool)) :=
  if b.isEmpty then [] else (chunks Bool w b.length b).map (sendLevels quad)

/-- Lanes from the command phase to the status phase of a frame with `len` data bytes, one entry for each SCK cycle. -/
def SpiHead.io (h : SpiHead) (len : Nat) : List (List (Option Bool)) :=
  let q := h.quad len
  let lane := fun (k : Nat) => h.lanes.getD k 1
  let before := if !h.addr.isEmpty then lane 1 else if !h.cmd.isEmpty then lane 0 else 1
  sendBits q (lane 0) h.cmd ++ sendBits q (lane 1) h.addr ++ List.replicate h.dummy (quietLevels q before)
    ++ (if h.status then List.replicate (8 / lane 2) (quietLevels q (lane 2)) else [])

/-- Lanes of a data phase. -/
def SpiHead.dataIo (h : SpiHead) (read : Bool) (l : List Byte) : List (List (Option Bool)) :=
  let q := h.quad l.length
  let w := h.lanes.getD 2 1
  if read then List.replicate (8 * l.length / w) (quietLevels q w)
  else sendBits q w (l.map (fun b => msbBits 8 b.toNat)).flatten

/-! ### Commands of the flash (R379, R611) -/

/-- Address bits of a flash address (R611). -/
def Flash.addr (f : Flash) (a : Nat) : List Bool := msbBits (if f.addr4 then 32 else 24) a

/-- A frame of a command on one lane, the data that it sends, and the number of bytes that it reads. -/
def flashFrame (op : Nat) (addr : List Bool) (dummy lane : Nat) (status : Bool) (data : List Byte) (read : Nat) : SerialFrame :=
  ⟨⟨msbBits 8 op, addr, dummy, status, [1, 1, lane]⟩, data, read⟩

/-- Read command at a flash address: the 1-1-4 fast read found through SFDP with its dummy cycles, or 0x03 on one lane
(R611). -/
def Flash.readFrame (f : Flash) (a n : Nat) : SerialFrame :=
  match f.fast with
  | some (op, dummy) => flashFrame op (f.addr a) dummy 4 false [] n
  | none => flashFrame 3 (f.addr a) 0 1 false [] n

/-- WRITE ENABLE. PRESUMED (log entry 77). -/
def flashEnable : SerialFrame := flashFrame 6 [] 0 1 false [] 0

/-- The poll of command 0x05, whose status byte is busy with bit 0 at 1 (R570, R611). -/
def flashPoll : SerialFrame := flashFrame 5 [] 0 1 true [] 0

/-- Frames that erase the sector at an address, with the poll (R379, R611). PRESUMED (log entry 77). -/
def Flash.eraseFrames (f : Flash) (a : Nat) : List SerialFrame :=
  [flashEnable, flashFrame f.erase (f.addr a) 0 1 false [] 0, flashPoll]

/-- Frames that program an image in 256-byte pages, in ascending order (R379). PRESUMED (log entry 77). -/
def Flash.pageFrames (f : Flash) (a : Nat) (b : List Byte) : List SerialFrame :=
  (chunks Byte 256 (b.length / 256 + 1) b).zipIdx.flatMap (fun p =>
    [flashEnable, flashFrame 2 (f.addr (a + 256 * p.2)) 0 1 false p.1 0, flashPoll])

/-- Pages of an image that have been programmed, by the polls of `p` pages that are still to end. -/
def SerialPart.programmed (x : SerialPart) (p : Nat) : Nat := p - (x.frames.filter (fun f => f.head.status)).length

/-! ### XFER descriptors (R572) -/

/-- LEN of an XFER (R572). -/
def xferLen (d : Desc) : Nat := descField d 22 2
/-- DIR: true a read. -/
def xferRead (d : Desc) : Bool := bit (descByte d 17) 0
/-- INLINE. -/
def xferInline (d : Desc) : Bool := bit (descByte d 17) 1
/-- STAT_EN. -/
def xferStat (d : Desc) : Bool := bit (descByte d 17) 2

/-- Width of a lane field: 1, 2 or 4 lanes; 0 for the reserved encoding (R572). -/
def lanesOf (d : Desc) (k : Nat) : Nat := [1, 2, 4, 0].getD (bits (descByte d 21) (2 * k + 1) (2 * k)) 0

/-- What an XFER sends before its data (R568, R572). -/
def xferHead (d : Desc) : SpiHead :=
  ⟨msbBits (descByte d 18) (descField d 24 4), msbBits (descByte d 19) (descField d 28 4), descByte d 20, xferStat d,
    [lanesOf d 0, lanesOf d 1, lanesOf d 2]⟩

/-- An XFER may start: the data that it writes is inline, or may be read from the host buffer (R102). -/
def State.xferReady (s : State) (d : Desc) : Bool := xferRead d || xferInline d || xferLen d == 0 || s.mayDma

/-! ### Frames and turns (R571) -/

/-- Change what the serial master has to send. -/
def State.modSerial (s : State) (f : SerialPart → SerialPart) : State := { s with serial := f s.serial }

/-- A frame begins on a chip select (R567 to R569). -/
def State.frameOut (s : State) (cs : Nat) (set : SpiSet) (h : SpiHead) (len : Nat) : State :=
  s.emitOut (.spiFrame cs set h (h.io len))

/-- The data phase of a frame has passed: it is on the lanes and reaches the CRC units (R561, R568). -/
def State.dataOut (s : State) (cs : Nat) (h : SpiHead) (read : Bool) (l : List Byte) : State :=
  if l.isEmpty then s.crcQuiet (if read then 0x49 else 0x48)
  else (s.emitOut (.spiData cs l (h.dataIo read l))).crcFeed (if read then 0x49 else 0x48) l

/-- No frame is on the wire, and one may start (R571, R601). -/
def State.wireFree (s : State) : Bool :=
  s.isOn .core && !s.padsHeld .core && !s.serial.onWire && !s.serial.load && !s.spi.any (·.onWire)

/-- An XFER waits for the wire: its retry is due, or it is at the head of its queue and may start (R102, R571). -/
def State.xferWaits (s : State) : Bool :=
  match s.spi with
  | some r => r.due
  | none => (s.takeHead? unitSpi 1).any (fun t => s.xferReady t.desc && !s.nltPassed t.desc)

/-- A frame of the mirror waits for the wire. -/
def SerialPart.waits (x : SerialPart) : Bool := !x.frames.isEmpty && !x.onWire && x.retry != .waiting

/-- SCK divider of tile reads; 4 where the boot record is not programmed (R610). -/
def State.bootDivider (s : State) : Nat := if s.otp.bootDiv = 0 then 4 else s.otp.bootDiv

/-- The start-up load of the present step: chip select, settings and frame (R608, R610, R611): SFDP, the image's header, or a
tile. -/
def State.loadFrame (s : State) : Option (Nat × SpiSet × SerialFrame) :=
  let cs := s.otp.bootCs % 4
  let at_ := fun (off n div : Nat) => (cs, { s.spiSet cs with div := div }, s.pwr.flash.readFrame (s.otp.bootAddr + off) n)
  if s.pwr.step = 9 then some (0, s.spiSet 0, flashFrame 0x5A (msbBits 24 0) 8 1 false [] 256)
  else if s.pwr.step = 10 then some (at_ 0 16 (s.spiSet cs).div)
  else if s.pwr.step = 11 then s.pwr.imageTiles.head?.map (fun e => at_ e.2.1 16384 s.bootDivider)
  else none

/-- The whole frame of the running XFER is sent again, when that is due (R570). -/
def State.retryOut (s : State) : State :=
  match s.spi with
  | some r =>
    if !r.due then s
    else
      onSome (s.txn? r.txn) (fun (t : Txn) (s : State) =>
          let cs := descByte t.desc 16 % 4
          s.frameOut cs (t.spi.getD (s.spiSet cs)) (xferHead t.desc) (xferLen t.desc))
        (({ s with spi := some { r with onWire := true, due := false, frames := r.frames + 1 } }).count
          F.SPI_CNT_RETRY_COUNT |>.modSerial (fun x => { x with last := false }))
  | none => s

/-- The next frame starts when the wire is free: the mirror and start-up on the one side and SQ30 on the other take turns
when both wait (R571). An SQ30 transfer that has not begun takes its turn by XFER; of start-up and the mirror, start-up goes
first. DESIGN CHOICE (log entry 36). -/
def State.serialNext (s : State) : State :=
  if !s.wireFree then s
  else if s.xferWaits && s.serial.last then s.retryOut
  else
    match s.loadFrame, s.serial.frames.head? with
    | some f, _ =>
      (s.modSerial (fun x => { x with load := true, last := true })).frameOut f.1 f.2.1 f.2.2.head f.2.2.read
    | none, some f =>
      if s.serial.waits then
        (((if s.serial.retry = .due then s.count F.SPI_CNT_RETRY_COUNT else s).modSerial (fun x =>
          { x with onWire := true, retry := .none, last := true }))).frameOut s.serial.cs (s.spiSet s.serial.cs) f.head
          (f.out.length + f.read)
      else s.retryOut
    | none, none => s.retryOut

/-- Frames of the mirror are queued on a chip select. -/
def State.queueFrames (s : State) (cs : Nat) (l : List SerialFrame) : State :=
  (s.modSerial (fun x => { x with frames := x.frames ++ l, cs := cs })).serialNext

/-- The mirror gives up its frames. -/
def State.dropFrames (s : State) : State := s.modSerial (fun x => { x with frames := [], retry := .none, got := [] })

/-- The start-up load on the wire has been read (R561, R571, R575). -/
def State.loadOver (s : State) (b : List Byte) : State :=
  match s.loadFrame with
  | some f =>
    (((s.modSerial (fun x => { x with load := false })).count F.SPI_CNT_FRAME_COUNT).dataOut f.1 f.2.2.head true b)
  | none => s

/-- The present frame of the mirror ends (R379, R570): after a busy status byte it is sent again after a wait; otherwise the
data of a read are kept. It does not end before its status byte or with less than it reads. -/
def State.mirrorFrameEnd (s : State) (f : SerialFrame) (rest : List SerialFrame) (status : Option Nat) (data : List Byte) :
    State :=
  if (f.head.status && status.isNone) || decide (data.length < f.read) then s
  else
    let s1 := s.count F.SPI_CNT_FRAME_COUNT
    if f.head.status && bit (status.getD 0) 0 then (s1.modSerial (fun x => { x with onWire := false, retry := .waiting })).serialNext
    else
      let l := data.take f.read
      let s2 := if f.read != 0 then s1.dataOut s.serial.cs f.head true l else s1.dataOut s.serial.cs f.head false f.out
      (s2.modSerial (fun x =>
        { x with onWire := false, frames := rest, got := if f.read != 0 then x.got ++ [l] else x.got })).serialNext

/-! ### What the CRC units may catch of a frame (R563) -/

/-- A frame with a data phase of that direction is on the wire. -/
def State.dataOnWire (s : State) (read : Bool) : Bool :=
  (s.serial.load && read)
    || (s.serial.onWire && s.serial.frames.head?.any (fun f => if read then f.read != 0 else !f.out.isEmpty))
    || s.spi.any (fun r => r.onWire
        && (s.txn? r.txn).any (fun t => xferRead t.desc == read && xferLen t.desc != 0))

/-- Data that the frame on the wire sends. -/
def State.serialOut (s : State) : List Byte :=
  if s.serial.onWire then (s.serial.frames.head?.map (·.out)).getD [] else (s.spi.map (·.out)).getD []

/-! ### Levels at rest (R567, R599, R654) -/

/-- Whose frame or retry wait is in progress, 0 none, 1 SQ30, 2 the access sequencer, 3 start-up, and its chip select (R571).
A frame goes before a retry wait, and of two waits SQ30's. DESIGN CHOICE (log entry 36). -/
def State.serialOwner (s : State) : Nat × Nat :=
  let xcs := ((s.spi.bind (fun r => s.txn? r.txn)).map (fun t => descByte t.desc 16 % 4)).getD 0
  if s.serial.load then (3, (s.loadFrame.map (·.1)).getD 0)
  else if s.serial.onWire then (2, s.serial.cs)
  else if s.spi.any (fun r => r.onWire || !r.due) then (1, xcs)
  else if s.serial.retry = .waiting then (2, s.serial.cs)
  else (0, 0)

/-- Level of SPI_CS_N[c] between commands: low while a frame on it is on the wire, high otherwise, in reset too. -/
def State.csN (s : State) (c : Fin 4) : Bool :=
  let x := if s.serial.onWire then some s.serial.cs
    else if s.serial.load then s.loadFrame.map (·.1)
    else match s.spi with
      | some r => if r.onWire then (s.txn? r.txn).map (fun t => descByte t.desc 16 % 4) else none
      | none => none
  x != some c.val

/-- Level of SPI_SCK while no frame is on the wire and `c` was used last: CPOL, which is 0 in reset (R567, R654). -/
def State.sckIdle (s : State) (c : Fin 4) : Bool := s.isOn .core && s.flag F.SPI_CS_CFG_CPOL c.val

/-- BEAM_DE between commands: the frames of the beam are sent within a command, so it is low, as while CORE is not ON (R599,
R654). -/
def State.beamDe (_ : State) : Bool := false

/-- TDO between commands, which hold whole scans: not driven outside Shift-DR and Shift-IR (R654). -/
def State.tdoLevel (_ : State) : Option Bool := none

end Sys2Proof.Machine
end

