-- ==== Sys2Proof/Machine/AccOps.lean ====
section
/-! DEFINITION. Shared operations of the access sequencer: failure counts and waits, their mirror, records, frames asked
for, the path of a candidate, release (spec/08_access_sequencer.md). -/

namespace Sys2Proof.Machine
open Sys2Proof

/-- Change the sequencer. -/
def State.modAcc (s : State) (f : AccPart → AccPart) : State := { s with acc := f s.acc }

/-- The running transaction becomes `r`. -/
def State.setRun (s : State) (r : AccRun) : State := s.modAcc (fun a => { a with run := some r })

/-! ### Settings (R22) -/

/-- Settings of lock `l` in the registers. -/
def State.lockSet (s : State) (l : Nat) : LockSet where
  lfCh := s.rd F.ACC_LOCK_CFG_LF_CH l
  tpCh := s.rd F.ACC_LOCK_CFG_TP_CH l
  tp := s.flag F.ACC_LOCK_CFG_TP l
  db := s.flag F.ACC_LOCK_CFG_DB l
  w1 := s.rd F.ACC_LOCK_CFG_W1 l
  segs := [s.rd F.ACC_LOCK_SEG_SEG0 l, s.rd F.ACC_LOCK_SEG_SEG1 l, s.rd F.ACC_LOCK_SEG_SEG2 l]
  mins := [s.rd F.ACC_LOCK_LFMIN_MIN0 l, s.rd F.ACC_LOCK_LFMIN_MIN1 l, s.rd F.ACC_LOCK_LFMIN_MIN2 l]
  maxs := [s.rd F.ACC_LOCK_LFMAX_MAX0 l, s.rd F.ACC_LOCK_LFMAX_MAX1 l, s.rd F.ACC_LOCK_LFMAX_MAX2 l]
  diff := signedOf 8 (s.rd F.ACC_LOCK_LFMIN_DIFF l)
  diffEn := s.flag F.ACC_LOCK_LFMAX_DIFF_EN l
  dbMax := s.rd F.ACC_LOCK_DB_DB_MAX l
  missMax := s.rd F.ACC_LOCK_DB_MISS_MAX l
  wrongMax := s.rd F.ACC_LOCK_DB_WRONG_MAX l
  fbPol := s.flag F.ACC_REL_CFG_FB_POL l
  pol := s.flag F.ACC_REL_CFG_POL l
  ilWait := s.rd F.ACC_REL_CFG_IL_WAIT l
  fbTime := s.rd F.ACC_REL_CFG_FB_TIME l
  retry := s.rd F.ACC_CFG_RETRY
  endEn := s.flag F.ACC_CFG_END_EN
  repollMax := s.rd F.ACC_CFG_REPOLL_MAX
  tcal := s.rd F.ACC_DB_TCAL_TCAL
  valid := s.flag F.ACC_DB_TCAL_VALID
  dbPower := s.rd F.UHF_TX_CFG_DB_POWER

/-- A CALIBRATE has written TCAL: requests that wait take it, as it is no register write (R22, R372). -/
def State.freshTcal (s : State) : State :=
  let up := fun (c : LockSet) => { c with tcal := s.rd F.ACC_DB_TCAL_TCAL, valid := s.flag F.ACC_DB_TCAL_VALID }
  s.modAcc (fun a => { a with reqs := a.reqs.map (fun q =>
    match q with
    | .desc id c => .desc id (up c)
    | .reg op ps c => .reg op ps (up c)
    | .trig k l => .trig k l) })

/-! ### The mirror of the failure counts (R378, R379) -/

/-- The image of the present counts and epoch with generation `gen` (R378). -/
def State.mirrorBytes (s : State) (gen : Nat) : List Byte :=
  let b := leBytes 4 0x4D434C41 ++ leBytes 4 gen ++ leBytes 4 s.acc.epoch.toNat
    ++ (s.acc.lockFails.toList.map (leBytes 1)).flatten
    ++ ((List.range 1024).map (fun i => leBytes 1 (tabGet 0 s.acc.tokFails i))).flatten
  b ++ leBytes 4 (crc32c b).toNat

/-- Flash address of a sector of the mirror (R378): BASE holds bits 23 to 12. -/
def State.mirrorAddr (s : State) (sector : Nat) : Nat := 4096 * (s.rd F.ACC_MIRROR_CFG_BASE + sector)

/-- An image with the present values is written to the sector that does not hold the newest one (R379): the frames that erase
that sector and program the image wait for their turns. DEDUCED (log entry 44). -/
def State.mirrorStart (s : State) : State :=
  let cs := s.rd F.ACC_MIRROR_CFG_CS
  let a := s.mirrorAddr (1 - s.acc.mirror.sector)
  let b := s.mirrorBytes ((s.acc.mirror.gen + 1) % 2 ^ 32)
  (s.modAcc (fun x => { x with mirror := { x.mirror with image := some ⟨cs, a, b⟩, dirty := false } })).queueFrames cs
    (s.pwr.flash.eraseFrames a ++ s.pwr.flash.pageFrames a b)

/-- A count or the epoch has changed (R378): it is mirrored, or gathered while an image is written. -/
def State.mirrorChange (s : State) : State :=
  if !s.flag F.ACC_MIRROR_CFG_EN then s
  else if s.acc.mirror.writing || s.acc.restoring then s.modAcc (fun a => { a with mirror := { a.mirror with dirty := true } })
  else s.mirrorStart

/-! ### Failure counts and waits (R373 to R377) -/

/-- Wait of a count, in microseconds (R374). -/
def penaltyTime (k : Nat) : Nat := if k < 3 then 0 else min 64000000 (250000 * 2 ^ (k - 3))

/-- Count of lock `l`. -/
def State.lockFails (s : State) (l : Nat) : Nat := vget s.acc.lockFails (ix 3 l)

/-- Count of token entry `i`. -/
def State.tokFails (s : State) (i : Nat) : Nat := tabGet 0 s.acc.tokFails i

/-- Set the count of lock `l`. -/
def State.setLockFails (s : State) (l k : Nat) : State :=
  if s.lockFails l = k then s
  else (s.modAcc (fun a => { a with lockFails := vset a.lockFails (ix 3 l) k })).mirrorChange

/-- Set the count of token entry `i`. -/
def State.setTokFails (s : State) (i k : Nat) : State :=
  if s.tokFails i = k then s
  else (s.modAcc (fun a => { a with tokFails := tabSet 0 a.tokFails i k })).mirrorChange

/-- Remaining wait in 10 ms, rounded up (R377). -/
def State.waitLeft (s : State) (token : Bool) (i : Nat) : Nat :=
  match s.acc.waits.find? (fun w => w.token == token && w.idx == i) with
  | some w => (w.until_ - s.pwr.aonMicros + 9999) / 10000
  | none => 0

/-- A wait ends. -/
def State.endWait (s : State) (token : Bool) (i : Nat) : State :=
  s.modAcc (fun a => { a with waits := a.waits.filter (fun w => !(w.token == token && w.idx == i)) })

/-- The wait set by a count starts now, replacing any that runs (R374, R375). -/
def State.startWait (s : State) (token : Bool) (i k : Nat) : State :=
  let s1 := s.endWait token i
  if penaltyTime k = 0 then s1
  else s1.modAcc (fun a => { a with waits := a.waits ++ [⟨token, i, s.pwr.aonMicros + penaltyTime k⟩] })

/-- A failure of a candidate (R373). -/
def State.failure (s : State) (l i : Nat) : State :=
  (s.setLockFails l (min 255 (s.lockFails l + 1))).setTokFails i (min 255 (s.tokFails i + 1))

/-- A count goes to 0 and its wait ends (R376). -/
def State.clearLock (s : State) (l : Nat) : State := (s.setLockFails l 0).endWait false l
/-- As `clearLock`, for a token. -/
def State.clearToken (s : State) (i : Nat) : State := (s.setTokFails i 0).endWait true i

/-- Waits start at the end of the transaction that raised their counts (R375). -/
def State.startWaits (s : State) (r : AccRun) : State :=
  let s1 := if r.lockRose then s.startWait false r.lock (s.lockFails r.lock) else s
  forAll r.tokRose (fun (i : Nat) (s : State) => s.startWait true i (s.tokFails i)) s1

/-! ### Segment codes and proximity (R365, R366) -/

/-- 10^(i/20) · 10^20 for i = 0 to 19, rounded down. -/
def decibelTable : List Nat :=
  [100000000000000000000, 112201845430196343559, 125892541179416721042, 141253754462275430215, 158489319246111348520,
   177827941003892280122, 199526231496887960135, 223872113856833961195, 251188643150958011108, 281838293126445381910,
   316227766016837933199, 354813389233575458433, 398107170553497250770, 446683592150963118556, 501187233627272285001,
   562341325190349080394, 630957344480193249434, 707945784384137910802, 794328234724281502065, 891250938133745529953]

/-- 10^(n/20) · 10^20, good to 19 digits. -/
def decibel (n : Nat) : Nat := decibelTable.getD (n % 20) 0 * 10 ^ (n / 20)

/-- Segment code of three axis values (R365). With f = (v − 1)/2 − 10, floor(2·(M + 10)) + 1 is 1 plus the largest k with
10^(k/20) no more than the sum of the 10^((v − 1)/20); sums of two or three terms lie off every such power by more than
one part in 10,000, so the 19 digits decide every case. -/
def segCode (axes : List Nat) : Nat :=
  let sum := (axes.map (fun v => if v = 0 then 0 else decibel (v - 1))).sum
  min 255 ((List.range 270).countP (fun k => decide (decibel k ≤ sum)))

/-- Segment `i` was sent with a channel, whole (R311, R365). -/
def DownFrame.segSent (x : DownFrame) (i : Nat) : Bool := x.sent.getD i false

/-- m_0 to m_2 of an RSSI report that answers a frame (R365). -/
def segCodes (x : DownFrame) (rssi : List Byte) : List Nat :=
  (List.range 3).map (fun i =>
    if x.segSent i then segCode [byteAt rssi (3 * i), byteAt rssi (3 * i + 1), byteAt rssi (3 * i + 2)] else 0)

/-- LF proximity (R366). -/
def lfPass (c : LockSet) (x : DownFrame) (m : List Nat) : Bool :=
  let named := fun (i : Nat) => decide (c.segs.getD i 15 < 8)
  (List.range 3).any named
    && (List.range 3).all (fun i => !named i
        || (x.segSent i && decide (c.mins.getD i 0 ≤ m.getD i 0) && decide (m.getD i 0 ≤ c.maxs.getD i 255)))
    && (!c.diffEn || (named 0 && named 1 && decide (c.diff ≤ (m.getD 0 0 : Int) - (m.getD 1 0 : Int))))

/-! ### Records (R389 to R391) -/

/-- TIDX of a candidate. -/
def Candidate.tidx (c : Candidate) : Nat := bodyTidx c.body % 1024

/-- PATH of a record (R390). -/
def pathByte (p : PathRun) : Nat :=
  p.mode + 4 * b2n p.cand.frame.tp + 8 * b2n p.cand.repoll + 16 * (p.cand.slot % 8)

/-- Content of an ACCESS record (R390). -/
def State.accessContent (s : State) (lock : Nat) (reason : Reason) (p : Option PathRun) (extended : Bool) : List Byte :=
  let head := leBytes 1 lock ++ leBytes 1 reason.code
  let rel := reason == .granted
  match p with
  | none => head ++ leBytes 2 0xFFFF ++ leBytes 2 0 ++ leBytes 1 (s.lockFails lock) ++ leBytes 1 0 ++ leBytes 3 0
      ++ leBytes 3 0 ++ leBytes 2 0x8000 ++ leBytes 4 0 ++ leBytes 4 s.acc.epoch.toNat
  | some p =>
    let i := p.cand.tidx
    head ++ leBytes 2 i ++ leBytes 1 (pathByte p)
      ++ leBytes 1 (b2n p.lfOk + 2 * b2n p.dbRun + 4 * b2n p.dbOk + 8 * b2n p.resync + 16 * b2n rel
          + 32 * b2n (rel && extended))
      ++ leBytes 1 (s.lockFails lock) ++ leBytes 1 (if (s.entry i).st = 0 then 0 else s.tokFails i)
      ++ ((List.range 3).map (fun k => leBytes 1 (p.codes.getD k 0))).flatten
      ++ leBytes 1 p.miss ++ leBytes 1 p.wrong ++ leBytes 1 0
      ++ leBytes 2 (match p.excess with | some e => ofSigned 16 e | none => 0x8000)
      ++ leBytes 4 p.ctr ++ leBytes 4 s.acc.epoch.toNat

/-- A decision writes its ACCESS record and counts (R389, R391). DEDUCED (log entry 43). -/
def State.accessRecord (s : State) (r : AccRun) (reason : Reason) (p : Option PathRun) (extended : Bool) : State :=
  let tag := s.reqTag r.req
  let s1 := if reason = .granted then s.count F.ACC_LOCK_CNT_GRANT_COUNT r.lock else s.count F.ACC_LOCK_CNT_REFUSE_COUNT r.lock
  s1.emit 24 [⟨.access, reason.status, unitAcc, tag.1, tag.2.1, s.sys.timebase, s.accessContent r.lock reason p extended, 0, false⟩] tag.2.2

/-! ### End of a transaction -/

/-- A register command of the sequencer completes (R397). -/
def State.accCmdDone (s : State) (st : Status) : State :=
  (s.setF F.ACC_CMD_STAT_DONE).wr F.ACC_CMD_STAT_STATUS 0 st.code

/-- A request completes. -/
def State.endReq (s : State) (q : AccReq) (st : Status) : State :=
  match q with
  | .desc id _ => s.finish id st
  | .reg _ _ _ => s.accCmdDone st
  | .trig _ _ => s

/-- The TOKEN signal of the timers becomes `now` (R555). -/
def State.tokenEdge (s : State) (was now : Bool) : State := if was == now then s else s.signalEdge 0x38 now

/-- The running transaction of the sequencer is over (R342, R375, R394). -/
def State.closeRun (s : State) (r : AccRun) (st : Status) : State :=
  (((((s.startWaits r).dropTrain.linkStop).leaveJob r.cipher).modAcc (fun a => { a with run := none })).tokenEdge r.anyFrame
    false).endReq r.req st

/-- TCAL of usable trains (R372): round(mean τ − 2·D_REF/c) in 0.25 ns; D_REF in cm. DEDUCED (log entry 43). -/
def tcalOf (taus : List Nat) (dref : Nat) : Nat :=
  let n := taus.length
  let num : Int := 2 * ((taus.sum : Int) * 299792458 - (n : Int) * 80000000 * dref) + (n : Int) * 299792458
  min 65535 (Int.toNat (num / (2 * (n : Int) * 299792458)))

/-- Largest minus smallest of a list. -/
def spreadOf (l : List Nat) : Nat := l.foldl max 0 - l.foldl min (l.headD 0)

/-- A CALIBRATE writes its RESULT record, and TCAL when it ends OK (R372, R672). -/
def State.calResult (s : State) (r : AccRun) (st : Status) : State :=
  let v := if r.taus.isEmpty then 0 else tcalOf r.taus r.dref
  let tag := s.reqTag r.req
  let content := leBytes 2 v ++ leBytes 1 r.taus.length ++ leBytes 1 0 ++ leBytes 2 (spreadOf r.taus) ++ leBytes 6 0
  let s1 := if st = .ok then ((s.wr F.ACC_DB_TCAL_TCAL 0 v).setF F.ACC_DB_TCAL_VALID).freshTcal else s
  s1.emit 24 [⟨.result, st, unitAcc, tag.1, tag.2.1, s.sys.timebase, content, 0, false⟩] tag.2.2

/-- The transaction ends by itself, its END sent or not asked for. -/
def State.closeEnd (s : State) (r : AccRun) : State :=
  if r.op = 2 then
    let st := r.calEnd.getD .noResponse
    (s.calResult r st).closeRun r st
  else s.closeRun r (match r.lastReason with | some x => x.status | none => .noResponse)

/-- STATUS of a CALIBRATE cut short (R672). -/
def calCut (reason : Reason) : Status :=
  match reason with
  | .aborted => .aborted
  | .domain => .domainOff
  | _ => .noResponse

/-- The transaction is cut short, without END (R351, R672): an exchange writes one record, a CALIBRATE its RESULT unless a
domain stopped it before its first frame. DEDUCED (log entry 43). -/
def State.cutRun (s : State) (r : AccRun) (reason : Reason) : State :=
  if r.op = 2 then
    if reason = .domain && r.sentOn.isNone then s.closeRun r .domainOff
    else (s.calResult r (calCut reason)).closeRun r (calCut reason)
  else (s.accessRecord r reason r.path false).closeRun r reason.status

/-! ### Frames of the sequencer -/

/-- A frame cannot be sent: an END is left out; anything else cuts the transaction short. DEDUCED (log entry 42). -/
def State.frameFails (s : State) (r : AccRun) (q : FrameAsk) : State :=
  if q.kind = .finish then s.closeEnd r
  else s.cutRun r (if s.isOn .lf && !s.padsHeld .lf then .lfFault else .domain)

/-- Parameters of a frame at its start: RANGE carries DELAY and CHAN of TOK_DB_CFG (R309, R334). -/
def State.askParams (s : State) (q : FrameAsk) : List Byte :=
  if q.kind = .range then leBytes 1 s.tokNow.delay ++ leBytes 1 s.tokNow.dbChan else q.params

/-- A frame starts (R307, R334), or cannot. -/
def State.startAsk (s : State) (r : AccRun) (q : FrameAsk) : State :=
  if s.lfUsable q.chan q.tp then
    (s.setRun { r with stage := .air, sentOn := some (q.chan, q.tp), heldFrame := none }).beginFrame
      (s.downFrame q.kind q.chan q.target r.lock q.tp q.burst (if q.burst then r.cfg.segs else []) (s.askParams q))
  else s.frameFails r q

/-- The sequencer calls for a frame; a debug halt holds it back (R631). -/
def State.askFrame (s : State) (r : AccRun) (q : FrameAsk) : State :=
  if s.flag F.DBG_STAT_HALTED then s.setRun { r with stage := .air, heldFrame := some q } else s.startAsk r q

/-- Phase 6 (R342, R672): END, or the end. -/
def State.endPhase (s : State) (r : AccRun) : State :=
  match r.sentOn with
  | some (ch, tp) =>
    if r.cfg.endEn then s.askFrame { r with phase := 6, path := none, cands := [] } ⟨.finish, ch, 0xFFFF, tp, false, []⟩
    else s.closeEnd r
  | none => s.closeEnd r

/-- The candidates are exhausted (R347): an exchange in which none was taken writes one record. -/
def State.finishPhases (s : State) (r : AccRun) : State :=
  if r.taken then s.endPhase r
  else
    let reason : Reason := if r.anyColl then .collision else .noToken
    (s.accessRecord r reason none false).endPhase { r with lastReason := some reason }

/-- The transponder phase can run (R346). DEDUCED (log entry 42). -/
def State.tpPhase (s : State) (r : AccRun) : Bool := r.cfg.tp && !r.noTp && s.lfUsable r.cfg.tpCh true

/-- The transponder phase starts (R325, R346). DEDUCED (log entry 42). -/
def State.startTp (s : State) (r : AccRun) : State :=
  if s.tpPhase r then s.askFrame { r with phase := 5, cands := [] } ⟨.poll, r.cfg.tpCh, 0xFFFF, true, false, []⟩
  else s.finishPhases r

/-- A random draw fails (R460, R672): an exchange ends as by ABORT; a CALIBRATE ends ABORTED and closes with END. -/
def State.drawFails (s : State) (r : AccRun) : State :=
  if r.op = 2 then s.endPhase { r with path := none, calEnd := some .aborted } else s.cutRun r .aborted

/-- A draw from the generator is needed (R358); after a failed health test it fails (R460). -/
def State.askDraw (s : State) (r : AccRun) (n : Nat) (range : Bool) : State :=
  if s.flag F.CPH_RNG_STAT_FAIL then s.drawFails r else s.setRun { r with stage := .draw n range }

/-- No candidate is at hand: the next re-poll, the transponder phase, or the end (R342, R344, R346). -/
def State.continuePhases (s : State) (r : AccRun) : State :=
  if r.phase = 5 then s.finishPhases r
  else
    match s.nextRepoll r with
    | some i =>
      s.askFrame { r with phase := 4, polls := r.polls + 1, tried := i :: r.tried, retries := 0 }
        ⟨.repoll i, r.cfg.lfCh, i, false, true, []⟩
    | none => if r.anyFrame then s.finishPhases r else s.startTp r

/-- A path is over without a grant: the next candidate, or the next phase. -/
def State.afterPath (s : State) (r : AccRun) : State :=
  match r.cands with
  | _ :: _ => s.setRun { r with stage := .judge .start }
  | [] => s.continuePhases r

/-! ### The path of a candidate (R347, R360) -/

/-- A path at its beginning. DESIGN CHOICE (log entry 91). -/
def PathRun.start (c : Candidate) : PathRun :=
  ⟨c, 0, none, [], [], [], 0, false, false, [], false, false, 0, 0, none, none⟩

/-- Channel of frames to the candidate of a path. -/
def pathChan (r : AccRun) (p : PathRun) : Nat := if p.cand.frame.tp then r.cfg.tpCh else r.cfg.lfCh

/-- The refusal of a candidate: REVOKED once its token has been revoked (R388). -/
def State.refusal (s : State) (p : PathRun) (reason : Reason) : Reason :=
  if (s.entry p.cand.tidx).st = 2 then .revoked else reason

/-- A refusal (R347, R360, R388): its record, and for RESYNC_PENDING the targeted POLL that follows at once (R362). In a
CALIBRATE it ends the command (R672). -/
def State.refuse (s : State) (r : AccRun) (p : PathRun) (reason : Reason) : State :=
  if r.op = 2 then
    s.endPhase { r with path := none, calEnd := some (
      if reason = .macFail then .authFail else if reason = .regulatory then .regulatory else .noResponse) }
  else
    let reason := s.refusal p reason
    let s1 := s.accessRecord r reason (some p) false
    let r1 := { r with path := none, lastReason := some reason }
    if reason = .resyncPending then
      let tp := p.cand.frame.tp
      s1.askFrame { r1 with retries := 0 } ⟨.resync p.cand.tidx, pathChan r p, p.cand.tidx, tp, !tp, []⟩
    else s1.afterPath r1

/-- A MAC failure: counted, and nothing decrypted is kept (R363, R373). The candidate of a token revoked since is refused
REVOKED, which does not count (R388). -/
def State.macFailed (s : State) (r : AccRun) (p : PathRun) : State :=
  if (s.entry p.cand.tidx).st = 2 then s.refuse r p .revoked
  else (s.failure r.lock p.cand.tidx).refuse
    { r with lockRose := true, tokRose := if r.tokRose.contains p.cand.tidx then r.tokRose else r.tokRose ++ [p.cand.tidx] } p
    .macFail

/-- Steps 1 to 5 of R360. -/
def State.earlyRefusal (s : State) (r : AccRun) (c : Candidate) : Option Reason :=
  let e := s.entry c.tidx
  if e.st = 0 then some .unknownToken
  else if e.st = 2 then some .revoked
  else if !bit e.locks r.lock then some .lockNotAllowed
  else if s.waiting true c.tidx then some .tokenPenalty
  else if c.frame.tp && !r.cfg.tp then some .tpRefused
  else none

/-- Key slot of a path's token. -/
def State.pathSlot (s : State) (p : PathRun) : Nat := (s.entry p.cand.tidx).keySlot

/-- A cipher request of a candidate has completed KEY_REVOKED: the candidate is refused REVOKED (R364). -/
def State.keyRefused (s : State) (r : AccRun) (p : PathRun) : State := s.refuse r p .revoked

/-- T8 of a CMAC (R352). -/
def cmac8 (key msg : List Byte) : List Byte := (cmac key msg).take 8

/-- What every MAC covers: a tag byte and the header fields of the frame (R353 to R355). -/
def macHead (tag : Nat) (x : DownFrame) (serial : Nat) : List Byte :=
  leBytes 1 tag ++ leBytes 2 x.tok.wakeId ++ leBytes 2 serial ++ leBytes 1 x.lock

/-- Message of a ROLL MAC (R353). -/
def rollMessage (x : DownFrame) (serial : Nat) (b : List Byte) : List Byte :=
  macHead 0x52 x serial ++ b.take 20 ++ bodyRssi b

/-- Message of a MUTUAL MAC (R354). -/
def mutualMessage (x : DownFrame) (serial : Nat) (nonce b : List Byte) : List Byte :=
  macHead 0x4D x serial ++ nonce ++ b.take 20 ++ bodyRssi b

/-- Message of the CONFIRM MAC (R355). -/
def confirmMessage (x : DownFrame) (serial tidx : Nat) (nt nd : List Byte) : List Byte :=
  macHead 0x43 x serial ++ leBytes 2 tidx ++ nt ++ nd

/-- Message of the session value (R356). -/
def sessionMessage (x : DownFrame) (serial tidx : Nat) (tail : List Byte) : List Byte :=
  leBytes 1 0x53 ++ leBytes 2 serial ++ leBytes 1 x.lock ++ leBytes 2 tidx ++ tail

/-- A decrypted P fits its frame (R353, R360 step 6). -/
def plainFits (x : DownFrame) (serial tidx : Nat) (p : List Byte) : Bool :=
  leNat ((p.drop 4).take 2) == tidx && leNat ((p.drop 6).take 2) == serial && byteAt p 8 == x.lock
    && (p.drop 9).all (· == 0)

/-- Verdict on a counter (R361, R362): accepted (with RESYNC or not), pending, or a replay. -/
inductive CtrVerdict | accepted (resync : Bool) | pending | replay
  deriving DecidableEq, Repr

/-- The counter rules (R361, R362). -/
def ctrVerdict (e : TokEntry) (w1 ctr : Nat) : CtrVerdict :=
  let d := (ctr + 2 ^ 32 - e.last.toNat) % 2 ^ 32
  if 1 ≤ d && d ≤ w1 + 1 then .accepted false
  else if w1 + 1 < d && d ≤ 65536 then
    if e.pendValid && ctr == (e.pend.toNat + 1) % 2 ^ 32 then .accepted true else .pending
  else .replay

/-- REL_OUT[l] (R383): the active level during a pulse, otherwise the inactive one; POL = 0 is active high. -/
def State.relLevel (s : State) (l : Fin 4) : Bool :=
  if vget s.acc.pulse l then !vget s.acc.pulsePol l else s.flag F.ACC_REL_CFG_POL l.val

/-- The lock is released: its pulse starts, or starts again (R383), with its record, and the transaction goes to its end. -/
def State.grantLock (s : State) (r : AccRun) (p : PathRun) : State :=
  let l := ix 3 r.lock
  let again := vget s.acc.pulse l
  let s1 := (s.modAcc (fun a =>
    { a with pulse := vset a.pulse l true, pulsePol := vset a.pulsePol l r.cfg.pol,
             moveWait := vset a.moveWait l (r.cfg.fbTime != 0) })).emitOut (.release r.lock !r.cfg.pol)
  let s2 := (s1.clearLock r.lock).clearToken p.cand.tidx
  let r1 := { r with lockRose := false, tokRose := r.tokRose.filter (· != p.cand.tidx) }
  (s2.accessRecord r .granted (some p) again).endPhase
    { r1 with path := none, cands := [], granted := true, lastReason := some .granted }

/-- The debounced feedback shows the closed level, or a pulse of the lock is active (R382). -/
def State.interlockAgrees (s : State) (r : AccRun) : Bool :=
  vget s.acc.pulse (ix 3 r.lock)
    || (vget s.acc.fbKnown (ix 3 r.lock) && vget s.acc.fb (ix 3 r.lock) == r.cfg.fbPol)

/-- Step 12 of R360 (R381, R382). -/
def State.releaseTest (s : State) (r : AccRun) (p : PathRun) : State :=
  if s.waiting false r.lock then s.refuse r p .lockPenalty
  else if s.waiting true p.cand.tidx then s.refuse r p .tokenPenalty
  else if (s.entry p.cand.tidx).st != 1 then s.refuse r p .revoked
  else if s.interlockAgrees r then s.grantLock r p
  else if r.cfg.ilWait = 0 then s.refuse r p .interlock
  else s.setRun { r with path := some p, stage := .interlock }

/-- The answer of a path is authenticated: for a CALIBRATE the trains begin (R372); otherwise LF proximity, and then
distance bounding or release (R360 steps 10 and 11, R365 to R371). -/
def State.authenticated (s : State) (r : AccRun) (p : PathRun) (body : List Byte) (x : DownFrame) : State :=
  if r.op = 2 then s.askDraw { r with path := some p } 4 true
  else
    let tp := p.cand.frame.tp
    let m := if tp then [0, 0, 0] else segCodes x (bodyRssi body)
    let p1 := { p with codes := m }
    if !(tp || lfPass r.cfg x m) then s.refuse r p1 .lfOutside
    else
      let p2 := { p1 with lfOk := true }
      if r.cfg.db && !tp then
        if !r.cfg.valid then s.refuse r p2 .noCal
        else s.askDraw { r with path := some p2 } 4 true
      else s.releaseTest r p2

/-- The answer of a path that is authenticated: the one to the CHALLENGE in MUTUAL mode, the candidate's own in ROLL mode. -/
def PathRun.proof (p : PathRun) : List Byte × DownFrame :=
  if p.mode = 2 then p.answer.getD (p.cand.body, p.cand.frame) else (p.cand.body, p.cand.frame)

/-- What the session value of a path covers (R356). -/
def State.sessionOf (s : State) (p : PathRun) : List Byte :=
  sessionMessage p.proof.2 s.originSerial p.cand.tidx
    ((if p.mode = 2 then p.nonce else []) ++ bodyNc p.proof.1)

/-- The sequencer has something to judge, in a step of its own. -/
def State.toJudge (s : State) (r : AccRun) (at_ : JudgeAt) : State := s.setRun { r with stage := .judge at_ }

/-- What the verdict on a ROLL counter brings (R360 step 7, R361 to R363). -/
def State.judgeVerdict (s : State) (r : AccRun) (p : PathRun) (ctr : Nat) (v : CtrVerdict) : State :=
  match v with
  | .accepted resync =>
    (s.setEntry p.cand.tidx { s.entry p.cand.tidx with last := BitVec.ofNat 32 ctr, pend := 0, pendValid := false }).toJudge
      { r with path := some { p with ctr := ctr, resync := resync } } .session
  | .pending =>
    (s.setEntry p.cand.tidx { s.entry p.cand.tidx with pend := BitVec.ofNat 32 ctr, pendValid := true }).refuse r p
      .resyncPending
  | .replay => s.refuse r p .replay

/-- The session value is at hand (R356): the answer of the path is authenticated. -/
def State.judgeSession (s : State) (r : AccRun) (p : PathRun) (key : List Byte) : State :=
  s.authenticated r { p with session := cmac key (s.sessionOf p) } p.proof.1 p.proof.2

/-- A ROLL answer whose plaintext fits: its counter decides. -/
def State.judgeCounter (s : State) (r : AccRun) (p : PathRun) (ctr : Nat) : State :=
  s.judgeVerdict r p ctr (ctrVerdict (s.entry p.cand.tidx) r.cfg.w1 ctr)

/-- The plaintext of a ROLL answer whose MAC holds is judged (R353, R360 step 6). -/
def State.judgePlain (s : State) (r : AccRun) (p : PathRun) (key : List Byte) : State :=
  let plain := aesDecrypt key (bodyNc p.cand.body)
  if !plainFits p.cand.frame s.originSerial p.cand.tidx plain then s.macFailed r p
  else s.judgeCounter r p (leNat (plain.take 4))

/-- The MAC of a ROLL answer, step 6 of R360 (R353); its plaintext is decrypted only once it holds. -/
def State.judgeRoll (s : State) (r : AccRun) (p : PathRun) (key : List Byte) : State :=
  if cmac8 key (rollMessage p.cand.frame s.originSerial p.cand.body) != bodyMac p.cand.body then s.macFailed r p
  else s.toJudge r .plain

/-- Steps 6 to 8 of R360: the MAC of a ROLL answer is verified, for MUTUAL a CHALLENGE is drawn. -/
def State.judgeMode (s : State) (r : AccRun) (p : PathRun) : State :=
  if p.mode = 1 then s.toJudge { r with path := some p } .mac else s.askDraw { r with path := some p } 16 false

/-- A candidate's path starts (R347, R360). -/
def State.judgeStart (s : State) (r : AccRun) (c : Candidate) (rest : List Candidate) : State :=
  let r1 := { r with cands := rest, taken := true, retries := 0, answered := c.tidx :: r.answered }
  let p := PathRun.start c
  match s.earlyRefusal r c with
  | some reason => s.refuse r1 p reason
  | none => s.judgeMode r1 { p with mode := (s.entry c.tidx).mode r.lock + 1 }

/-- Step 9 of R360 (R354). -/
def State.judgeAnswered (s : State) (r : AccRun) (p : PathRun) (key : List Byte) : State :=
  match p.answer with
  | some (b, x) =>
    if cmac8 key (mutualMessage x s.originSerial p.nonce b) != bodyMac b then s.macFailed r p
    else s.toJudge r .session
  | none => s.refuse r p .noAnswer

/-- The ledger is asked when RANGE is about to be sent (R321, R368, R371, R413); a debug halt holds both back (R631). -/
def State.askRange (s : State) (r : AccRun) (p : PathRun) : State :=
  let q : FrameAsk := ⟨.range, pathChan r p, p.cand.tidx, false, false, []⟩
  if s.flag F.DBG_STAT_HALTED then s.setRun { r with path := some p, stage := .air, heldFrame := some q }
  else
    match s.admitTx (s.subBand s.tokNow.dbChan) (30 + 8 * s.tokNow.spacing) true with
    | (s1, false) => s1.refuse r p .regulatory
    | (s1, true) => s1.startAsk { r with path := some p } q

/-- A frame that the debug halt held starts (R631). -/
def State.releaseFrame (s : State) (r : AccRun) (q : FrameAsk) : State :=
  match q.kind, r.path with
  | .range, some p => s.askRange { r with heldFrame := none } p
  | _, _ => s.startAsk r q

/-- The challenge bits are at hand: CONFIRM first in MUTUAL mode, then RANGE (R355, R368, R372). -/
def State.judgeDrawn (s : State) (r : AccRun) (p : PathRun) (key : List Byte) : State :=
  if p.mode = 2 && !r.confirmed then
    match p.answer with
    | some (b, x) =>
      s.askFrame { r with path := some p, confirmed := r.op == 2 }
        ⟨.confirm, pathChan r p, p.cand.tidx, false, false, cmac8 key (confirmMessage x s.originSerial p.cand.tidx (bodyNc b) p.nonce)⟩
    | none => s.refuse r p .noAnswer
  else s.askRange r p

/-- A verdict on the train (R370). -/
def State.judgeRanged (s : State) (r : AccRun) (p : PathRun) : State :=
  match p.verdict with
  | some reason => s.refuse r p reason
  | none => s.releaseTest r { p with dbOk := true }

/-- The sequencer judges where its path stands (R360). The cipher requests that it makes need CRYPTO and KEYS; `key`: the key
under which the judgement's own request has completed. -/
def State.judge (s : State) (r : AccRun) (at_ : JudgeAt) (key : List Byte) : State :=
  if !s.isOn .crypto || !s.isOn .keys then s.cutRun r .domain
  else
    match at_, r.path with
    | .start, _ =>
      (match r.cands with
       | c :: rest => s.judgeStart r c rest
       | [] => s.continuePhases r)
    | .mac, some p => s.judgeRoll r p key
    | .plain, some p => s.judgePlain r p key
    | .session, some p => s.judgeSession r p key
    | .answered, some p => s.judgeAnswered r p key
    | .noAnswer coll, some p => s.refuse r p (if coll then .collision else .noAnswer)
    | .drawn, some p => s.judgeDrawn r p key
    | .confirmed, some p => s.askRange r p
    | .ranged, some p => s.judgeRanged r p
    | _, none => s.afterPath r

/-- The cipher request that the judgement that waits makes (R352 to R356, R360): the token's key slot, and the blocks of a MAC
or of the decryption of P. DESIGN CHOICE (log entry 13). -/
def State.jobFor (s : State) (r : AccRun) : Option (Nat × Nat) :=
  match r.stage, r.path with
  | .judge .mac, some p => some (s.pathSlot p, cmacBlocks (rollMessage p.cand.frame s.originSerial p.cand.body).length)
  | .judge .plain, some p => some (s.pathSlot p, 1)
  | .judge .session, some p => some (s.pathSlot p, cmacBlocks (s.sessionOf p).length)
  | .judge .answered, some p =>
    p.answer.map (fun q => (s.pathSlot p, cmacBlocks (mutualMessage q.2 s.originSerial p.nonce q.1).length))
  | .judge .drawn, some p =>
    if p.mode = 2 && !r.confirmed then
      p.answer.map (fun q =>
        (s.pathSlot p, cmacBlocks (confirmMessage q.2 s.originSerial p.cand.tidx (bodyNc q.1) p.nonce).length))
    else none
  | _, _ => none

/-- The cipher request that a running VERIFY_DECRYPT makes next (R396): the MAC of IV and ciphertext, then the decryption. -/
def State.vdJob (s : State) (v : VdRun) : Nat × Nat :=
  let ps := s.paramsOf v.txn
  let len := leNat ((ps.drop 6).take 2)
  if v.verified then (leNat (ps.take 2), len / 16) else (leNat ((ps.drop 2).take 2), cmacBlocks (16 + len))

/-- The sequencer is to make a cipher request. -/
def State.asksCipher (s : State) : Bool :=
  s.isOn .crypto && s.isOn .keys
    && (match s.acc.run, s.acc.vd with
        | some r, _ => r.cipher == .idle && (s.jobFor r).isSome
        | none, some v => v.cipher == .idle && !v.keyLost
        | none, none => false)

/-! ### What the link reports -/

/-- A targeted frame is sent again (R345); a repeated CHALLENGE carries a fresh nonce. -/
def State.resend (s : State) (r : AccRun) (x : DownFrame) : State :=
  let r1 := { r with retries := r.retries + 1 }
  if x.kind = .challenge then s.askDraw r1 16 false
  else s.askFrame r1 ⟨x.kind, x.chan, x.target, x.tp, x.burst, []⟩

/-- The answer to a targeted frame is decided (R344, R345, R360 step 8, R362). DESIGN CHOICE (log entry 91). -/
def State.targetDone (s : State) (r : AccRun) (x : DownFrame) (o : Option LinkOutcome) (body : List Byte) : State :=
  if o = some .frame then
    let r1 := { r with anyFrame := true }
    if x.kind = .challenge then s.toJudge { r1 with path := r.path.map (fun p => { p with answer := some (body, x) }) } .answered
    else s.toJudge { r1 with cands := ⟨body, 0, x, true⟩ :: r.cands } .start
  else if (o = some .empty || o = some .collision) && decide (r.retries < r.cfg.retry) && !x.tp then s.resend r x
  else if x.kind = .challenge then s.toJudge r (.noAnswer (o = some .collision))
  else if r.op = 2 then s.endPhase { r with calEnd := some .noResponse }
  else s.afterPath r

/-- A slot or transponder answer has its outcome; `last`: receiving for the frame has ended (R342, R343).
DESIGN CHOICE (log entry 91). -/
def State.answerIn (s : State) (x : DownFrame) (slot : Nat) (o : Option LinkOutcome) (body : List Byte) (last : Bool) : State :=
  match s.acc.run with
  | none => s
  | some r =>
    let s := s.tokenEdge r.anyFrame (r.anyFrame || o == some .frame)
    if x.target = 0xFFFF then
      let r1 :=
        if o = some .frame then
          { r with anyFrame := true, cands := r.cands ++ [⟨body, slot, x, false⟩], answered := bodyTidx body :: r.answered }
        else if o = some .collision && !x.tp then { r with collided := r.collided ++ [slot], anyColl := true }
        else r
      if last then
        match r1.cands with
        | _ :: _ => s.setRun { r1 with phase := if x.tp then 5 else 3, stage := .judge .start }
        | [] => s.continuePhases r1
      else s.setRun r1
    else if last then s.targetDone r x o body
    else s

/-- A CONFIRM or END has reached t_E. -/
def State.sentOnly (s : State) (x : DownFrame) : State :=
  match s.acc.run with
  | none => s
  | some r =>
    match x.kind with
    | .confirm => s.toJudge r .confirmed
    | .finish => s.closeEnd r
    | _ => s

/-- r_i (R357). -/
def responseBit (session challenge : List Byte) (i : Nat) : Bool :=
  let c := bit (byteAt challenge (i / 8)) (i % 8)
  bit (byteAt session (if c then 8 + i / 8 else i / 8)) (i % 8)

/-- A measured response that is not missing (R324). -/
def present (c : Option (Nat × Bool)) : Option (Nat × Bool) :=
  match c with
  | some (t, b) => if 800 ≤ t && t ≤ 4800 then some (t, b) else none
  | none => none

/-- Classes of the 32 cells (R369): missing cells, wrong cells, and t_i of the correct ones. `early`: the bound below which
a cell is wrong, none when only the bit counts (R372). -/
def classify (session challenge : List Byte) (early : Option Nat) (cells : List (Option (Nat × Bool))) :
    Nat × Nat × List Nat :=
  (List.range 32).foldl (fun (a : Nat × Nat × List Nat) i =>
    match present (cells.getD i none) with
    | none => (a.1 + 1, a.2.1, a.2.2)
    | some (t, b) =>
      let isEarly := match early with | some k => decide (t + 16 < k) | none => false
      if b != responseBit session challenge i || isEarly then (a.1, a.2.1 + 1, a.2.2)
      else (a.1, a.2.1, a.2.2 ++ [t])) (0, 0, [])

/-- Verdict on a train (R370). -/
def trainVerdict (c : LockSet) (miss wrong : Nat) (excess : Option Int) : Option Reason :=
  if c.wrongMax < wrong then some .dbWrong
  else
    match excess with
    | none => some .dbMissing
    | some e =>
      if c.missMax < miss then some .dbMissing
      else if 32 < e then some .relay
      else if (c.dbMax : Int) < e then some .dbFar
      else none

/-- Smallest element. -/
def minOf (l : List Nat) : Option Nat := match l with | [] => none | a :: t => some (t.foldl min a)

/-- A train of a CALIBRATE is measured (R372): usable with 16 correct cells. -/
def State.calTrain (s : State) (r : AccRun) (p : PathRun) (cells : List (Option (Nat × Bool))) : State :=
  let k := classify p.session p.challenge none cells
  let taus := if 16 ≤ k.2.2.length then r.taus ++ (minOf k.2.2).toList else r.taus
  let r1 := { r with ran := r.ran + 1, taus := taus }
  if r1.ran < r1.trains then s.askDraw r1 4 true
  else s.endPhase { r1 with path := none, calEnd := some (if r1.trains ≤ 2 * taus.length then .ok else .noResponse) }

/-- A train is measured (R323, R324, R369, R370, R372). -/
def State.trainMeasured (s : State) (cells : List (Option (Nat × Bool))) : State :=
  let missing := (List.range 32).countP (fun i => (present (cells.getD i none)).isNone)
  let s1 := s.count F.TOK_CNT_DB_MISS_COUNT 0 missing
  match s1.acc.run with
  | none => s1
  | some r =>
    match r.path with
    | none => s1
    | some p =>
      if r.op = 2 then s1.calTrain r p cells
      else
        let k := classify p.session p.challenge (some r.cfg.tcal) cells
        let excess := (minOf k.2.2).map (fun t => (t : Int) - (r.cfg.tcal : Int))
        let p1 := { p with dbRun := true, miss := k.1, wrong := k.2.1, excess := excess,
                           verdict := trainVerdict r.cfg k.1 k.2.1 excess }
        s1.toJudge { r with path := some p1 } .ranged

/-! ### Revocation (R388) -/

/-- REVOKE of an entry: nothing unless it is ENROLLED. -/
def State.revokeEntry (s : State) (i : Nat) : State :=
  let e := s.entry i
  if e.st = 1 then
    let s1 := ((s.setEntry i { e with st := 2 }).eraseSlot e.keySlot).1
    let s2 := (s1.modAcc (fun a => { a with epoch := a.epoch + 1 })).mirrorChange
    s2.raise .revocation unitAcc (leBytes 2 i ++ leBytes 2 s2.acc.epoch.toNat)
  else s

end Sys2Proof.Machine
end

