-- ==== Sys2Proof/Machine/Rotation.lean ====
section
/-! DEFINITION. The slots that fetched descriptors and internal requests need, and the rotation in which general slots go to
them (spec/01_architecture.md R27 to R31). -/

namespace Sys2Proof.Machine
open Sys2Proof

/-- Descriptors of a unit that are fetched and not dispatched. -/
def State.stagedOf (s : State) (u : Nat) : Nat := s.txns.countP (fun t => t.unit == u && t.phase == .staged)

/-- General slots that rod `u` holds, and those that its staged descriptors will take (R29). -/
def State.borrowNeed (s : State) (u : Nat) : Nat := s.slotsOf u .borrowed + (s.stagedOf u - (8 - s.slotsOf u .rod))

/-- The same over all rods. -/
def State.borrowTotal (s : State) : Nat := ((List.range 24).map s.borrowNeed).sum

/-- General slots held and spoken for. -/
def State.generalNeed (s : State) : Nat :=
  s.txns.countP (fun t => t.slot == .general || (decide (24 ≤ t.unit) && t.phase == .staged)) + s.borrowTotal

/-- The next descriptor of ring `q` needs a general slot (R28, R29). DEDUCED (log entry 12). -/
def State.needsGeneral (s : State) (q : Nat) : Bool :=
  let u := sqUnit q
  decide (24 ≤ u) || decide (8 ≤ s.slotsOf u .rod + s.stagedOf u)

/-- The limits of R28 and R29 leave a slot for the next descriptor of ring `q`. -/
def State.slotFor (s : State) (q : Nat) : Bool :=
  let u := sqUnit q
  !s.needsGeneral q
    || (decide (s.generalNeed < 64) && (decide (24 ≤ u) || (decide (s.borrowNeed u < 8) && decide (s.borrowTotal < 32))))

/-- Ring `q` holds a descriptor that the device may fetch (R20, R61, R99 to R102, R104): start-up is over, the ring is
enabled, not stopped, not being disabled and without a fetch fault, and its doorbell covers one. Clearing FAULT
alone lets fetching go on. DESIGN CHOICE (log entries 27 and 60). -/
def State.mayFetch (s : State) (q : Fin 32) : Bool :=
  s.mayDma && s.isOn .core && s.isOn .board && s.sys.role != .satellite && s.pwr.step == 0
    && s.flag F.HOST_SQ_CFG_EN q.val && !s.flag F.HOST_SQ_CFG_STOP q.val && !vget s.host.tearing q
    && !s.flag F.HOST_SQ_STAT_FAULT q.val && s.rd F.HOST_SQ_STAT_FETCHED q.val != s.rd F.DOORBELL_SQ_COUNT q.val

/-- The access sequencer has a cipher request to make: the internal participant 32 of the rotation (R31). A plan keeps the
slot of its RUN_PLAN (R161) and no rule names a request that it makes for a general slot: its participant, 33, never waits.
DESIGN CHOICE (log entry 13). -/
def State.internalWaits (s : State) (p : Nat) : Bool := p == 32 && s.asksCipher

/-- The descriptor that a beam master has put into the queue of rod `p` waits for a general slot (R20, R29, R31, R540). -/
def State.beamWaits (s : State) (p : Nat) : Bool :=
  decide (p < 24)
    && (match s.txns.find? (fun t => t.phase == .staged && t.unit == p) with
        | some t => t.sq.isNone && s.freeSlot p == some .borrowed
        | none => false)

/-- The rotation, the participant after the one served last first (R31): rings 0 to 31, 32 the access sequencer, 33 plans.
DEDUCED (log entry 12). -/
def State.rotation (s : State) : List Nat := (List.range 34).map (fun i => (s.sys.lastGeneral + 1 + i) % 34)

/-- Participant `p` of the rotation waits for a general slot that it can have (R31). DEDUCED (log entry 12). -/
def State.waitsGeneral (s : State) (p : Nat) : Bool :=
  s.beamWaits p || (decide (s.generalNeed < 64)
    && (if p < 32 then s.mayFetch (ix 31 p) && s.needsGeneral p && s.slotFor p else s.internalWaits p))

/-- The next free general slot goes to participant `p` (R31). DEDUCED (log entry 12). -/
def State.generalTurn (s : State) (p : Nat) : Bool := s.rotation.find? s.waitsGeneral == some p



end Sys2Proof.Machine
end

