-- ==== Sys2Proof/Machine/AccCmds.lean ====
section
/-! DEFINITION. Commands of the access sequencer (spec/08_access_sequencer.md). REVOKE and ABORT, which are carried out at
fetch, stand with the scheduler. -/

namespace Sys2Proof.Machine
open Sys2Proof

/-! ### Requests -/

/-- Opcode of a request; 0 for a trigger. -/
def State.reqOp (s : State) (q : AccReq) : Nat :=
  match q with
  | .desc id _ => match s.txn? id with | some t => t.op | none => 0
  | .reg op _ _ => op
  | .trig _ _ => 0

/-- PARAMS bytes 16 to 63 of a request (R393, R397). -/
def State.reqParams (s : State) (q : AccReq) : List Byte :=
  match q with
  | .desc id _ => s.paramsOf id
  | .reg _ ps _ => ps
  | .trig _ _ => []

/-- Settings of a request; a trigger takes those of its start. -/
def State.reqSet (s : State) (q : AccReq) : LockSet :=
  match q with
  | .desc _ c => c
  | .reg _ _ c => c
  | .trig _ l => s.lockSet l

/-- A transaction for a request, ready to start. -/
def State.newRun (s : State) (q : AccReq) : AccRun :=
  let ps := s.reqParams q
  let lock := match q with | .trig _ l => l | _ => byteAt ps 0 % 4
  let cal := s.reqOp q = 2
  ⟨q, if cal then 2 else 1, lock, !cal && bit (byteAt ps 1) 0, s.reqSet q, .ready, 0, [], none, [], false, [], [], 0, 0,
    false, false, false, none, false, [], none, none, leNat ((ps.drop 2).take 2) % 1024, byteAt ps 1, 0, [],
    leNat ((ps.drop 4).take 2), false, none, .idle⟩

/-- The request at the head, when the sequencer is free and the request has this opcode (R339). -/
def State.accTake? (s : State) (op : Nat) : Option AccReq :=
  match s.acc.run, s.acc.vd, s.acc.reqs with
  | none, none, q :: _ => if s.reqOp q = op && s.isOn .core then some q else none
  | _, _, _ => none

/-- Take a request out of the list; a descriptor is now being carried out. -/
def State.takeReq (s : State) (q : AccReq) : State :=
  let s1 := s.modAcc (fun a => { a with reqs := a.reqs.erase q })
  match q with
  | .desc id _ => s1.run id
  | _ => s1

/-- The check of R66 and R393 on an SQ24 command with its 48 parameter bytes; true: BAD_DESCRIPTOR. -/
def State.accBad (s : State) (op : Nat) (ps : List Byte) : Bool :=
  let zeros := fun (k : Nat) => (ps.drop k).all (· == 0)
  let lock := byteAt ps 0
  let w := fun (k : Nat) => leNat ((ps.drop k).take 2)
  if op = 1 then decide (4 ≤ lock) || decide (2 ≤ byteAt ps 1) || !zeros 2 || !s.flag F.ACC_LOCK_CFG_EN lock
  else if op = 2 then
    decide (4 ≤ lock) || byteAt ps 1 == 0 || decide (16 < byteAt ps 1) || decide (1024 ≤ w 2) || decide (300 < w 4)
      || !zeros 6 || !s.flag F.ACC_LOCK_CFG_EN lock || s.flag F.ACC_CFG_PLOCK
  else if op = 3 then
    decide (1024 ≤ w 0) || decide (512 ≤ w 2) || decide (16 ≤ byteAt ps 4) || w 6 != 0 || !zeros 12
      || (List.range 4).any (fun l => decide (2 ≤ bits (byteAt ps 5) (2 * l + 1) (2 * l)))
  else if op = 4 then decide (1024 ≤ w 0) || !zeros 2
  else if op = 5 then
    decide (2 ≤ byteAt ps 0) || (if byteAt ps 0 = 0 then decide (4 ≤ byteAt ps 1) || w 2 != 0
        else byteAt ps 1 != 0 || decide (1024 ≤ w 2)) || !zeros 4
  else if op = 6 then
    decide (512 ≤ w 0) || decide (512 ≤ w 2) || decide (2 ≤ byteAt ps 4) || decide (byteAt ps 5 < 4)
      || decide (8 < byteAt ps 5) || !zeros (40 + byteAt ps 5)
  else if op = 0x0F then decide (2 ≤ byteAt ps 0) || !zeros 1
  else true

/-! ### Triggers (R337 to R341, R585) -/

/-- A trigger is dropped and counted. -/
def State.skipTrigger (s : State) (l : Nat) : State := s.count F.ACC_LOCK_CNT_SKIP_COUNT l

/-- A trigger of lock `l` is pending. -/
def State.trigPending (s : State) (l : Nat) : Bool :=
  s.acc.reqs.any (fun q => match q with | .trig _ k => k == l | _ => false)

/-- An exchange of lock `l` runs. -/
def State.exchanging (s : State) (l : Nat) : Bool :=
  match s.acc.run with
  | some r => r.lock == l && r.op == 1 && r.stage != .ready
  | none => false

/-- A START, GPIO or PERIODIC trigger arises (R337, R340, R341, R585). -/
def State.trigger (s : State) (kind l : Nat) : State :=
  if !s.flag F.ACC_LOCK_CFG_EN l || s.acc.needRestore || !s.isOn .plan || !s.isOn .crypto || s.trigPending l || s.exchanging l then
    s.skipTrigger l
  else s.modAcc (fun a => { a with reqs := a.reqs ++ [.trig kind l] })

/-- ACC_LOCK_START (R338). -/
def execAccLockStart (l : Fin 4) (w : Word) (s : State) : Out :=
  .next (if bit w.toNat 0 then s.hostWrite (0x811C + 0x40 * l.val) (fun s => s.trigger 2 l.val) else s)



/-- ACC_PERIODIC_TRIGGER (R338). -/
def execAccPeriodicTrigger (l : Fin 4) (s : State) : Out :=
  .next (if s.isOn .core && s.rd F.ACC_LOCK_TRIG_POLL_INT l.val != 0 then s.trigger 4 l.val else s)

/-! ### Exchanges (R342) -/

/-- OPEN (R338, R341): an OPEN at the head becomes the next exchange. DEDUCED (log entry 16). -/
def execOpen (s : State) : Out :=
  .next (
    if s.acc.needRestore then s
    else onSome (s.accTake? 1) (fun (q : AccReq) (s : State) => (s.takeReq q).setRun (s.newRun q)) s)

/-- Tiles that BRD_UCODE names (R494, R497). -/
def State.ucodeTiles (s : State) : List Nat := (List.range 16).filter (fun i => bit (s.rd F.BRD_UCODE_MASK) i)

/-- NLT of a request has passed (R350). -/
def State.reqLate (s : State) (q : AccReq) : Bool :=
  match q with
  | .desc id _ => match s.txn? id with | some t => s.nltPassed t.desc | none => false
  | _ => false

/-- An exchange ends at its gate, with one record and no air traffic. -/
def State.gateEnd (s : State) (r : AccRun) (reason : Reason) : State :=
  (s.accessRecord r reason none false).closeRun r reason.status

/-- Phases 1 and 2 (R209, R342, R350). DESIGN CHOICE (log entry 91). -/
def State.beginExchange (s : State) (r : AccRun) : State :=
  if s.field.shutdown then s.gateEnd r .aborted
  else if s.reqLate r.req then s.gateEnd r .late
  else if s.waiting false r.lock then s.gateEnd r .lockPenalty
  else if !s.isOn .lf then s.gateEnd r .domain
  else if !s.isOn .uhf || !s.regionSet then if r.cfg.tp then s.startTp { r with phase := 5 } else s.gateEnd r .domain
  else if !s.lfUsable r.cfg.lfCh false then s.gateEnd r .lfFault
  else s.askFrame { r with phase := 2 } ⟨.poll, r.cfg.lfCh, 0xFFFF, false, true, []⟩

/-- The microcode fails its check (R498). -/
def State.ucodeFails (s : State) (r : AccRun) : State :=
  match r.req with
  | .trig _ l => (s.skipTrigger l).modAcc (fun a => { a with run := none })
  | q => (s.modAcc (fun a => { a with run := none })).endReq q .checksumFail

/-- EXCHANGE_START (R337, R339, R419, R497): the exchange that is ready, or the trigger at the head, starts when the radio is
free; the trigger of a lock whose EN has been cleared is dropped. DESIGN CHOICE (log entry 53). -/
def execExchangeStart (crcs : List (Nat × Word)) (s : State) : Out :=
  .next (
    if !s.accAble || s.acc.needRestore || s.uhfBusy || s.acc.vd.isSome || !s.verifierFree then s
    else
      let go := fun (r : AccRun) (s : State) =>
        match s.verifyPlanTiles crcs s.ucodeTiles with
        | (s1, true) => s1.beginExchange r
        | (s1, false) => (s1.ucodeFails r).settleDoom
      match s.acc.run, s.acc.reqs with
      | some r, _ => if r.stage = .ready then go r s else s
      | none, .trig k l :: _ =>
        if s.flag F.ACC_LOCK_CFG_EN l then
          go (s.newRun (.trig k l)) ((s.takeReq (.trig k l)).setRun (s.newRun (.trig k l)))
        else (s.takeReq (.trig k l)).skipTrigger l
      | none, _ => s)

/-- The transaction in progress has sent no frame yet. -/
def AccRun.unsent (r : AccRun) : Bool := r.sentOn.isNone

/-- A request completes LATE: an OPEN with one record (R350), a CALIBRATE with none (R672). -/
def State.lateReq (s : State) (r : AccRun) : State :=
  if r.op = 2 then s.endReq r.req .late else (s.accessRecord r .late none false).endReq r.req .late

/-- ACC_NLT_EXPIRY (R350, R672): NLT passes before the first frame. -/
def execAccNltExpiry (s : State) : Out :=
  .next (
    match s.acc.run with
    | some r =>
      if r.unsent && s.reqLate r.req then (s.modAcc (fun a => { a with run := none })).lateReq r
      else onSome (s.acc.reqs.find? (fun q => (s.reqOp q == 1 || s.reqOp q == 2) && s.reqLate q))
        (fun (q : AccReq) (s : State) => (s.takeReq q).lateReq (s.newRun q)) s
    | none => onSome (s.acc.reqs.find? (fun q => (s.reqOp q == 1 || s.reqOp q == 2) && s.reqLate q))
        (fun (q : AccReq) (s : State) => (s.takeReq q).lateReq (s.newRun q)) s)

/-- The candidate's judgement goes on as far as its cipher request has come (R31, R360, R448): the request is made on its turn
for a general slot, and judged once it has completed. -/
def State.judgeNext (s : State) (r : AccRun) (at_ : JudgeAt) : State :=
  match s.jobFor r, r.cipher, r.path with
  | some j, .idle, _ =>
    if !s.isOn .crypto || !s.isOn .keys then s.judge r at_ []
    else if s.generalTurn 32 then
      let m := s.makeJob j.1 j.2
      m.1.setRun { r with cipher := .waits m.2 }
    else s
  | some _, .waits _, _ => s
  | some _, .done key, _ => s.judge { r with cipher := .idle } at_ key
  | some _, .refused, some p => s.keyRefused { r with cipher := .idle } p
  | _, _, _ => s.judge { r with cipher := .idle } at_ []

/-- CANDIDATE_JUDGE (R31, R360): the sequencer judges what its path waits for. -/
def execCandidateJudge (s : State) : Out :=
  .next (
    match s.acc.run with
    | some r =>
      match r.stage with
      | .judge at_ => if s.isOn .core then s.judgeNext r at_ else s
      | _ => s
    | none => s)

/-- ACC_CALIBRATE (R372, R672): a CALIBRATE at the head starts. -/
def execAccCalibrate (crcs : List (Nat × Word)) (s : State) : Out :=
  .next (
    if !s.accAble || s.uhfBusy || !s.verifierFree then s
    else onSome (s.accTake? 2) (fun (q : AccReq) (s : State) =>
      let r := s.newRun q
      match ((s.takeReq q).setRun r).verifyPlanTiles crcs s.ucodeTiles with
      | (s1, false) => (s1.ucodeFails r).settleDoom
      | (s1, true) =>
        if s1.reqLate q then (s1.modAcc (fun a => { a with run := none })).lateReq r
        else if s1.field.shutdown then s1.closeRun r .aborted
        else if !s1.isOn .lf || !s1.isOn .uhf || !s1.regionSet then s1.closeRun r .domainOff
        else s1.askFrame { r with phase := 2 } ⟨.repoll r.tidx, r.cfg.lfCh, r.tidx, false, true, []⟩) s)

/-! ### Release (R382 to R385) -/

/-- INTERLOCK_WAIT_EXPIRY (R382). -/
def execInterlockWaitExpiry (s : State) : Out :=
  .next (
    match s.acc.run with
    | some r =>
      match r.stage, r.path with
      | .interlock, some p => s.refuse r p .interlock
      | _, _ => s
    | none => s)

/-- A path that waits for the interlock is tested again when it agrees (R382). -/
def State.retestInterlock (s : State) (l : Nat) : State :=
  match s.acc.run with
  | some r =>
    match r.stage, r.path with
    | .interlock, some p => if r.lock = l && s.interlockAgrees r then s.releaseTest r p else s
    | _, _ => s
  | none => s

/-- REL_FB_DEBOUNCE (R384): a level has shown in 8 equal samples. One that differs is an accepted change; the first after
CORE's reset is the first debounced level there is. DEDUCED (log entry 78). -/
def execRelFbDebounce (l : Fin 4) (level : Bool) (s : State) : Out :=
  .next (
    if s.isOn .core && (vget s.acc.fb l != level || !vget s.acc.fbKnown l) then
      let s0 := s.modAcc (fun a => { a with fb := vset a.fb l level, fbKnown := vset a.fbKnown l true })
      let s1 := when (vget s.acc.fb l != level)
        (fun s => s.raise .interlock unitAcc (leBytes 1 l.val ++ leBytes 1 (b2n level))) s0
      let s2 :=
        if vget s.acc.fb l != level && level != s.flag F.ACC_REL_CFG_FB_POL l.val && !vget s.acc.pulse l then
          s1.raise .releaseFault unitAcc (leBytes 1 l.val ++ leBytes 1 2)
        else s1
      s2.retestInterlock l.val
    else s)

/-- RELEASE_NO_MOVE (R384): FB_TIME has passed since a pulse started. -/
def execReleaseNoMove (l : Fin 4) (s : State) : Out :=
  .next (
    if vget s.acc.moveWait l then
      let s1 := s.modAcc (fun a => { a with moveWait := vset a.moveWait l false })
      if vget s.acc.fb l == s.flag F.ACC_REL_CFG_FB_POL l.val then
        s1.raise .releaseFault unitAcc (leBytes 1 l.val ++ leBytes 1 1)
      else s1
    else s)

/-- RELEASE_PULSE_END (R383, R385): the output returns to its inactive level. -/
def execReleasePulseEnd (l : Fin 4) (s : State) : Out :=
  .next (
    if vget s.acc.pulse l then
      let s1 := s.modAcc (fun a => { a with pulse := vset a.pulse l false })
      s1.emitOut (.release l.val (s1.relLevel l))
    else s)

/-- PENALTY_WAIT_END (R375): a wait whose time has come ends. -/
def execPenaltyWaitEnd (token : Bool) (i : Nat) (s : State) : Out :=
  .next (if s.waiting token i then s else s.endWait token i)

/-! ### Enrolment, revocation, penalties (R376, R387, R388) -/

/-- ENROL refuses (R387). DEDUCED (log entry 41). -/
def State.enrolBad (s : State) (ps : List Byte) : Bool :=
  let i := leNat (ps.take 2)
  let slot := leNat ((ps.drop 2).take 2)
  (s.entry i).st == 1 || !(s.keySlot slot).loaded
    || s.keys.entries.any (fun e => e.1 != i && e.2.st == 1 && e.2.keySlot == slot)

/-- ENROL writes the entry (R387, R439). -/
def State.enrolEntry (s : State) (ps : List Byte) : State :=
  let i := leNat (ps.take 2)
  (s.setEntry i ⟨1, byteAt ps 4 % 16, leNat ((ps.drop 2).take 2), byteAt ps 5, false, BitVec.ofNat 32 (leNat ((ps.drop 8).take 4)),
    (s.entry i).pend, s.acc.epoch, s.sys.timebase⟩).clearToken i

/-- ENROL (R387). DEDUCED (log entry 41). -/
def execEnrol (s : State) : Out :=
  .next (onSome (s.accTake? 3) (fun (q : AccReq) (s : State) =>
    let ps := s.reqParams q
    let s1 := s.takeReq q
    if !s.isOn .keys then s1.endReq q .domainOff
    else if s.enrolBad ps then s1.endReq q .badDescriptor
    else (s1.enrolEntry ps).endReq q .ok) s)

/-- CLEAR_PENALTY's effect (R376). -/
def State.clearPenalty (s : State) (ps : List Byte) : State :=
  if byteAt ps 0 = 0 then s.clearLock (byteAt ps 1 % 4) else s.clearToken (leNat ((ps.drop 2).take 2) % 1024)

/-- CLEAR_PENALTY (R376). -/
def execClearPenalty (s : State) : Out :=
  .next (onSome (s.accTake? 5) (fun (q : AccReq) (s : State) =>
    ((s.takeReq q).clearPenalty (s.reqParams q)).endReq q .ok) s)

/-- The running VERIFY_DECRYPT ends with a status, its staging gone and nothing more written (R395, R396). -/
def State.endVd (s : State) (st : Status) : State :=
  onSome s.acc.vd (fun (v : VdRun) (s : State) => (s.leaveJob v.cipher).finish v.txn st) (s.modAcc (fun a => { a with vd := none }))

/-- ABORT ends the transaction in progress (R351, R395), and with TRIG drops every pending trigger (R393).
DEDUCED (log entry 43). -/
def State.accAbort (s : State) (ps : List Byte) : State :=
  let s0 : State := match s.acc.run with
    | some r => if r.stage = AccStage.ready then s else s.cutRun r .aborted
    | none => s
  let s1 := s0.endVd .aborted
  if bit (byteAt ps 0) 0 then
    s1.modAcc (fun a => { a with reqs := a.reqs.filter (fun q => match q with | .trig _ _ => false | _ => true) })
  else s1

/-! ### VERIFY_DECRYPT (R396) -/

/-- Decryption in CBC or CTR mode. -/
def vdDecrypt (ctr : Bool) (key iv : List Byte) (blocks : List (List Byte)) : List Byte :=
  if ctr then (blocks.zipIdx.map (fun p => xorList p.1 (aesEncrypt key (addBlock iv p.2)))).flatten
  else (List.zipWith xorList (blocks.map (aesDecrypt key)) (iv :: blocks)).flatten

/-- Status with which a VERIFY_DECRYPT ends before its ciphertext is read (R396). DEDUCED (log entry 41). -/
def State.vdRefused (s : State) (ps : List Byte) : Option Status :=
  let w := fun (k : Nat) => leNat ((ps.drop k).take 2)
  let len := w 6
  let enc := s.keySlot (w 0)
  let mac := s.keySlot (w 2)
  if len % 16 != 0 || len == 0 || decide (4096 < len) then some .lengthError
  else if !enc.loaded || !mac.loaded then some .keyRevoked
  else if !bit enc.usage 2 || !bit mac.usage 2 then some .badDescriptor
  else none

/-- A cipher request of the running VERIFY_DECRYPT has completed under `key` (R102, R396): the tag is compared; once it has
agreed, the plaintext goes to the host buffer, when memory requests may be issued. -/
def State.vdFinish (s : State) (v : VdRun) (key : List Byte) : State :=
  let ps := s.paramsOf v.txn
  let len := leNat ((ps.drop 6).take 2)
  let iv := (ps.drop 24).take 16
  let n := byteAt ps 5
  if !v.verified then
    if (cmac8 key (iv ++ v.staged)).take n != (ps.drop 40).take n then s.endVd .authFail
    else s.modAcc (fun a => { a with vd := some { v with verified := true, cipher := .idle } })
  else if s.mayDma then
    (s.bufWrite (leNat ((ps.drop 16).take 8))
      (vdDecrypt (byteAt ps 4 == 1) key iv (chunks Byte 16 (len / 16 + 1) v.staged))).endVd .ok
  else s

/-- The running VERIFY_DECRYPT goes on (R31, R396, R448): an erased key slot or a domain that is not ON ends it; its cipher
requests are made on their turn for a general slot. -/
def State.vdRun (s : State) (v : VdRun) : State :=
  if !s.isOn .crypto || !s.isOn .keys then s.endVd .domainOff
  else if v.keyLost then s.endVd .keyRevoked
  else
    match v.cipher with
    | .idle =>
      if s.generalTurn 32 then
        let m := s.makeJob (s.vdJob v).1 (s.vdJob v).2
        m.1.modAcc (fun a => { a with vd := some { v with cipher := .waits m.2 } })
      else s
    | .waits _ => s
    | .done key => s.vdFinish v key
    | .refused => s.endVd .keyRevoked

/-- A VERIFY_DECRYPT starts (R102, R396, R497): `src` is the ciphertext read into staging once memory requests may be
issued. DEDUCED (log entry 41). -/
def State.vdStart (s : State) (q : AccReq) (id : Nat) (src : List Byte) (crcs : List (Nat × Word)) : State :=
  let ps := s.reqParams q
  let len := leNat ((ps.drop 6).take 2)
  if !s.isOn .crypto || !s.isOn .keys then (s.takeReq q).finish id .domainOff
  else if !s.verifierFree then s
  else
    match (s.takeReq q).verifyPlanTiles crcs s.ucodeTiles with
    | (s1, false) => (s1.finish id .checksumFail).settleDoom
    | (s1, true) =>
      match s1.vdRefused ps with
      | some st => s1.finish id st
      | none => if s.mayDma then s1.modAcc (fun a => { a with vd := some ⟨id, (padTo len src).take len, false, false, .idle⟩ }) else s

/-- VERIFY_DECRYPT (R395, R396): the one at the head starts and reads its ciphertext; the one that runs comes to its end. -/
def execVerifyDecrypt (src : List Byte) (crcs : List (Nat × Word)) (s : State) : Out :=
  .next (
    match s.acc.vd with
    | some v => s.vdRun v
    | none =>
      onSome (s.accTake? 6) (fun (q : AccReq) (s : State) =>
        match q with
        | .desc id _ => s.vdStart q id src crcs
        | _ => s) s)

/-! ### Registers (R397, R398) -/

/-- A register command waits or runs (R397). -/
def State.accCmdBusy (s : State) : Bool :=
  let isReg := fun (q : AccReq) => match q with | .reg _ _ _ => true | _ => false
  s.acc.reqs.any isReg || (match s.acc.run with | some r => isReg r.req | none => false)

/-- The 48 parameter bytes in ACC_CMD_PARAM. -/
def State.accParams (s : State) : List Byte :=
  ((List.range 12).map (fun i => leBytes 4 (s.rd F.ACC_CMD_PARAM_DATA i))).flatten

/-- Domains of SQ24 (R584). -/
def State.accDomainsOn (s : State) : Bool := s.isOn .plan && s.isOn .crypto && s.isOn .keys

/-- Write of ACC_CMD (R397). REVOKE and ABORT act at once. -/
def writeAccCmd (w : Word) (s : State) : State :=
  let op := bits w.toNat 7 0
  let ps := s.accParams
  if s.accCmdBusy && op != 4 && op != 0x0F then s.setF F.ACC_ERR_CMD_BUSY
  else if op = 6 || s.accBad op ps then s.accCmdDone .badDescriptor
  else if !s.accDomainsOn then s.accCmdDone .domainOff
  else if op = 4 then (s.revokeEntry (leNat (ps.take 2))).accCmdDone .ok
  else if op = 0x0F then (s.accAbort ps).accCmdDone .ok
  else if op = 2 && s.field.shutdown then s.accCmdDone .aborted
  else s.modAcc (fun a => { a with reqs := a.reqs ++ [.reg op ps (s.lockSet (byteAt ps 0 % 4))] })

/-- Write of ACC_CFG (R9, R341, R398). -/
def writeAccCfg (w : Word) (s : State) : State :=
  let v := w.toNat
  let s1 :=
    if s.flag F.ACC_CFG_PLOCK then s
    else
      let a := (s.wr F.ACC_CFG_RETRY 0 (bits v 1 0)).wr F.ACC_CFG_END_EN 0 (bits v 2 2)
      if 1 ≤ bits v 8 4 && bits v 8 4 ≤ 16 then a.wr F.ACC_CFG_REPOLL_MAX 0 (bits v 8 4) else a
  let s2 := if bit v 16 then s1.setF F.ACC_CFG_PLOCK else s1
  if bit v 17 then (s2.setF F.ACC_CFG_SKIP_RESTORE).modAcc (fun a => { a with needRestore := false }) else s2

/-- SKIP_RESTORE (R341). -/
def execSkipRestore (w : Word) (s : State) : Out := .next (if bit w.toNat 17 then s.hostWrite 0x8000 (writeAccCfg w) else s)

/-- ACC_PLOCK (R398). -/
def execAccPlock (w : Word) (s : State) : Out := .next (if bit w.toNat 16 then s.hostWrite 0x8000 (writeAccCfg w) else s)

/-! ### The mirror (R378 to R380) -/

/-- Write of ACC_MIRROR_CFG (R9, R380): the first write of EN = 1 while NEED_RESTORE = 1 starts a restore. -/
def writeMirrorCfg (w : Word) (s : State) : State :=
  if s.flag F.ACC_CFG_PLOCK then s
  else
    let v := w.toNat
    let s1 := ((s.wr F.ACC_MIRROR_CFG_EN 0 (bits v 0 0)).wr F.ACC_MIRROR_CFG_CS 0 (bits v 2 1)).wr F.ACC_MIRROR_CFG_BASE 0
      (bits v 15 4)
    if bit v 0 && !s.flag F.ACC_MIRROR_CFG_EN && s.acc.needRestore && !s.acc.restoring then
      (s1.modAcc (fun a => { a with restoring := true })).queueFrames (s1.rd F.ACC_MIRROR_CFG_CS)
        ([0, 1].map (fun k => s1.pwr.flash.readFrame (s1.mirrorAddr k) 1044))
    else s1

/-- MIRROR_RESTORE_START (R380). -/
def execMirrorRestoreStart (w : Word) (s : State) : Out := .next (s.hostWrite 0x8014 (writeMirrorCfg w))

/-- GEN of a valid image (R378, R380). -/
def imageGen (b : List Byte) : Option Nat :=
  if 1044 ≤ b.length && leNat (b.take 4) == 0x4D434C41 && leNat ((b.drop 1040).take 4) == (crc32c (b.take 1040)).toNat then
    some (leNat ((b.drop 4).take 4))
  else none

/-- `b` is later than `a` (R34). -/
def genLater (a b : Nat) : Bool :=
  let d := (b + 2 ^ 32 - a) % 2 ^ 32
  decide (1 ≤ d) && decide (d < 2 ^ 31)

/-- The newest valid image of two sectors: sector, GEN, bytes. DEDUCED (log entry 44). -/
def newestImage (a b : List Byte) : Option (Nat × Nat × List Byte) :=
  match imageGen a, imageGen b with
  | some g, some h => if genLater g h then some (1, h, b) else some (0, g, a)
  | some g, none => some (0, g, a)
  | none, some h => some (1, h, b)
  | none, none => none

/-- Counts, epoch and waits of an image are loaded (R380). -/
def State.loadImage (s : State) (sector gen : Nat) (b : List Byte) : State :=
  let s1 := s.modAcc (fun a => { a with mirror := { a.mirror with sector := sector, gen := gen } })
  let s2 := s1.modAcc (fun a =>
    { a with epoch := BitVec.ofNat 32 (leNat ((b.drop 8).take 4)),
             lockFails := Vector.ofFn (fun l => byteAt b (12 + l.val)),
             tokFails := ((List.range 1024).map (fun i => (i, byteAt b (16 + i)))).filter (fun p => p.2 != 0) })
  let s3 := forAll (List.range 4) (fun (l : Nat) (s : State) => s.startWait false l (s.lockFails l)) s2
  forAll s3.acc.tokFails (fun (p : Nat × Nat) (s : State) => s.startWait true p.1 p.2) s3

/-- MIRROR_RESTORE_DONE (R380): the first 1,044 bytes of both sectors, as they have been read. -/
def execMirrorRestoreDone (a b : List Byte) (s : State) : Out :=
  .next (
    if s.acc.restoring && s.serial.frames.isEmpty && s.serial.got == [a.take 1044, b.take 1044] then
      let s1 := match newestImage a b with
        | some (k, g, img) => s.loadImage k g img
        | none => s.setF F.ACC_ERR_RESTORE
      let s2 := s1.modAcc (fun x => { x with restoring := false, needRestore := false })
      let s3 := s2.dropFrames
      if s2.acc.mirror.dirty then s3.mirrorStart else s3
    else s)

/-- MIRROR_WRITE_DONE (R379): the write of an image has ended after `pages` of its pages were programmed: with success when
all its frames have ended, or failed between two frames, as BUSY_TIMEOUT ends it. DEDUCED (log entry 44). -/
def execMirrorWriteDone (ok : Bool) (pages : Nat) (s : State) : Out :=
  .next (onSome s.acc.mirror.image (fun (g : MirrorImage) (s : State) =>
      if pages != s.serial.programmed ((g.bytes.length + 255) / 256) || s.serial.onWire
          || (ok && !s.serial.frames.isEmpty) then s
      else
        let s1 := s.dropFrames
        let s2 := if ok then s1 else s1.setF F.ACC_ERR_MIRROR
        let s3 := s2.modAcc (fun a => { a with mirror := { a.mirror with
          image := none,
          sector := if ok then 1 - a.mirror.sector else a.mirror.sector,
          gen := if ok then (a.mirror.gen + 1) % 2 ^ 32 else a.mirror.gen } })
        (if s.acc.mirror.dirty then s3.mirrorStart else s3).serialNext) s)

/-! ### What other blocks do to the sequencer -/

/-- A request for an OPEN or CALIBRATE that has not started ends: one ACCESS record for an OPEN (R209, R394), none for a
CALIBRATE (R672). -/
def State.endWaiting (s : State) (r : AccRun) : State := if r.op = 2 then s.closeRun r .aborted else s.gateEnd r .aborted

/-- A request is a transaction that has been dispatched, no trigger. -/
def AccReq.isTxn (q : AccReq) : Bool := match q with | .trig _ _ => false | _ => true

/-- Thermal shutdown ends the exchange or CALIBRATE in progress, and every OPEN and CALIBRATE dispatched that waits to start
(R208, R351, R672). A trigger that waits ends as its exchange would start (R209). -/
def State.accShutdown (s : State) : State :=
  let s1 : State := match s.acc.run with
    | some r => if r.stage = .ready then (if r.req.isTxn then s.endWaiting r else s) else s.cutRun r .aborted
    | none => s
  forAll (s.acc.reqs.filter (fun q => q.isTxn && (s.reqOp q == 1 || s.reqOp q == 2))) (fun (q : AccReq) (s : State) =>
    let held := s.acc.run
    ((s.takeReq q).endWaiting (s.newRun q)).modAcc (fun a => { a with run := held })) s1

/-- A held frame starts when the debug halt ends (R631). -/
def State.accResume (s : State) : State :=
  match s.acc.run with
  | some r => match r.heldFrame with | some q => s.releaseFrame r q | none => s
  | none => s

/-- The sequencer is at rest (R631): no frame, slot, train or release pulse runs, and its transaction, if it has one, waits to
start or for a frame that the halt holds back. -/
def State.accAtRest (s : State) : Bool :=
  s.link.frame.isNone && s.link.listen == .none && !s.acc.pulse.toList.any (fun b => b)
    && (match s.acc.run with | some r => r.stage == .ready || r.heldFrame.isSome | none => true)

end Sys2Proof.Machine
end

