-- ==== Sys2Proof/Machine/CrcCmds.lean ====
section
/-! DEFINITION. The CRC units: their results and their commands (spec/13_timers_crc_serial.md, R563 to R566). -/

namespace Sys2Proof.Machine
open Sys2Proof

/-- A frame is in progress on a stream (R563). A serial frame with a data phase of the stream's direction may be in that
phase or before it, which the model leaves free. DESIGN CHOICE (log entry 80). -/
def State.streamBusy (s : State) (stream : Nat) : State × Bool :=
  let air := fun (n : Nat) (ph : AirPhase) =>
    match (s.rod (ix 23 n)).air with | some x => x.phase == ph | none => false
  if stream < 24 then (s, air stream .receiving)
  else if 0x20 ≤ stream && stream < 0x38 then (s, air (stream - 0x20) .tx)
  else if stream = 0x40 then
    (s, s.uhf.inFrame
      || (match s.link.listen with | .slots _ _ (some c) => decide (c.frames.length < c.syncs) | _ => false))
  else if stream = 0x41 then (s, s.radio == 4 && (s.running? unitUhf).any (fun t => t.op == 2))
  else if (stream = 0x48 || stream = 0x49) && s.dataOnWire (stream == 0x49) then
    let d := s.drawFree
    (d.1, d.2 % 2 == 1)
  else (s, false)

/-- Bytes of the frame that a stream carries, where the model holds them: what the device sends. -/
def State.streamKnown (s : State) (stream : Nat) : Option (List Byte) :=
  if 0x20 ≤ stream && stream < 0x38 then ((s.rod (ix 23 (stream - 0x20))).air).map wholeBytes
  else if stream = 0x41 then some s.uhf.bytes
  else if stream = 0x48 then some s.serialOut
  else none

/-- A result of unit `u` (R563, R565, R566): `fin` is that of a CONTINUOUS run. -/
def State.crcResult (s : State) (u : Fin 4) (reg : Word) (bytes : Nat) (fin : Bool) : State :=
  let poly := s.rd F.CRC_CFG_POLY u.val
  let v := (reg ^^^ presetXor poly).toNat
  let hit := v == s.rd F.CRC_MATCH_VALUE u.val
  let s1 := ((s.wr F.CRC_RESULT_VALUE u.val v).wr F.CRC_BYTES_VALUE u.val bytes).setF F.CRC_STAT_DONE u.val
  let s2 := if fin then s1 else when hit (fun s => s.count F.CRC_MCNT_VALUE u.val) (s1.count F.CRC_FCNT_VALUE u.val)
  if s.flag F.CRC_CFG_REC_EN u.val then
    let content := leBytes 1 u.val ++ leBytes 1 (b2n hit + 2 * b2n fin) ++ leBytes 1 (s.rd F.CRC_CFG_STREAM u.val)
      ++ leBytes 1 poly ++ leBytes 4 (bytes % 2 ^ 32) ++ leBytes 4 v
    s2.emit 24 [⟨.crc, .ok, unitSys, 0xFFFF, 0xFF, s.sys.timebase, content, 0, false⟩] none
  else s2

/-- START (R563, R564, R566). -/
def State.startCrc (s : State) (u : Fin 4) : State :=
  if s.flag F.CRC_STAT_ACTIVE u.val then s.setF F.CRC_STAT_BUSY_REJ u.val
  else
    let d := s.streamBusy (s.rd F.CRC_CFG_STREAM u.val)
    (((d.1.setF F.CRC_STAT_ACTIVE u.val).wr F.CRC_FCNT_VALUE u.val 0).wr F.CRC_MCNT_VALUE u.val 0).modCrc u (fun _ =>
      ⟨s.crcSeed u.val, 0, d.2, []⟩)

/-- Bytes of the frame in progress on the stream of unit `u` that have passed since its START (R563).
DESIGN CHOICE (log entry 80). -/
def State.passedBytes (s : State) (u : Fin 4) : State × List Byte :=
  let stream := s.rd F.CRC_CFG_STREAM u.val
  let d := s.streamBusy stream
  if !d.2 then (d.1, [])
  else
    match s.streamKnown stream with
    | none => d.1.freeBytes
    | some l =>
      let a := d.1.freeStart l
      if (s.crcUnit u).skip then
        let b := a.1.drawFree
        (b.1, a.2.drop (b.2 % (a.2.length + 1)))
      else a

/-- STOP (R563, R564): a CONTINUOUS run takes what has passed and gives its result; a FRAME run drops its frames. -/
def State.stopCrc (s : State) (u : Fin 4) : State :=
  if !s.flag F.CRC_STAT_ACTIVE u.val then s
  else if s.flag F.CRC_CFG_MODE u.val then
    (s.wr F.CRC_STAT_ACTIVE u.val 0).modCrc u (fun x => { x with skip := false, frames := [] })
  else
    let p := s.passedBytes u
    let s1 := p.1.crcTake u p.2
    (s1.wr F.CRC_STAT_ACTIVE u.val 0).crcResult u (s1.crcUnit u).reg (s1.crcUnit u).bytes true

/-- Write of CRC_CTL[u] (R563, R564): START, then STOP; with START to an ACTIVE unit all of it is dropped.
DESIGN CHOICE (log entry 90). -/
def writeCrcCtl (u : Fin 4) (w : Word) (s : State) : State :=
  if bit w.toNat 0 && s.flag F.CRC_STAT_ACTIVE u.val then s.setF F.CRC_STAT_BUSY_REJ u.val
  else when (bit w.toNat 1) (fun (s : State) => s.stopCrc u) (when (bit w.toNat 0) (fun (s : State) => s.startCrc u) s)

/-- CRC_START (R563). -/
def execCrcStart (u : Fin 4) (w : Word) (s : State) : Out :=
  .next (if bit w.toNat 0 then s.hostWrite (0xD80C + 0x40 * u.val) (writeCrcCtl u w) else s)

/-- CRC_STOP (R563). -/
def execCrcStop (u : Fin 4) (w : Word) (s : State) : Out :=
  .next (if bit w.toNat 1 then s.hostWrite (0xD80C + 0x40 * u.val) (writeCrcCtl u w) else s)

/-- Streams of R561. -/
def legalStream (v : Nat) : Bool :=
  decide (v ≤ 0x17) || (decide (0x20 ≤ v) && decide (v ≤ 0x37)) || v == 0x40 || v == 0x41 || v == 0x48 || v == 0x49
    || (decide (0x50 ≤ v) && decide (v ≤ 0x53))

/-- Write of CRC_CFG, CRC_SEED or CRC_MATCH (R11, R564). Other addresses: no effect. -/
def writeCrcCfg (addr : Nat) (w : Word) (s : State) : State :=
  let u := (addr - 0xD800) / 0x40
  let off := (addr - 0xD800) % 0x40
  let v := w.toNat
  if addr < 0xD800 || 0xD900 ≤ addr || 8 < off || off % 4 != 0 then s
  else if s.flag F.CRC_STAT_ACTIVE u then s.setF F.CRC_STAT_BUSY_REJ u
  else if off = 0 then
    let s1 := if legalStream (bits v 6 0) then s.wr F.CRC_CFG_STREAM u (bits v 6 0) else s
    (((s1.wr F.CRC_CFG_POLY u (bits v 9 8)).wr F.CRC_CFG_MODE u (bits v 10 10)).wr F.CRC_CFG_SEED_EN u (bits v 11 11)).wr
      F.CRC_CFG_REC_EN u (bits v 12 12)
  else if off = 4 then s.wr F.CRC_SEED_VALUE u v
  else s.wr F.CRC_MATCH_VALUE u v

/-- CRC_CFG_WRITE (R564). -/
def execCrcCfgWrite (addr : Nat) (w : Word) (s : State) : Out :=
  .next (if 0xD800 ≤ addr && addr < 0xD900 then s.hostWrite addr (writeCrcCfg addr w) else s)

/-- CRC_FRAME_END (R563): the oldest frame that an ACTIVE unit keeps produces its result. -/
def execCrcFrameEnd (u : Fin 4) (s : State) : Out :=
  .next (
    if !s.flag F.CRC_STAT_ACTIVE u.val then s
    else
    match (s.crcUnit u).frames with
    | f :: rest =>
      (s.modCrc u (fun x => { x with frames := rest })).crcResult u (crcRun (s.rd F.CRC_CFG_POLY u.val) (s.crcSeed u.val) f)
        f.length false
    | [] => s)

end Sys2Proof.Machine
end

