-- ==== Sys2Proof/Machine/PlanTiles.lean ====
section
/-! DEFINITION. Loads of plan tiles (spec/11_record_memory.md, R492 to R498). -/

namespace Sys2Proof.Machine
open Sys2Proof

/-! ### Plan tiles -/

/-- LOAD_TILE (R493 to R495): the system unit reads the bytes of the tile, which has been LOADING since the dispatch. -/
def execLoadTile (s : State) : Out :=
  .next (onSome (s.takeHead? unitSys 0x31) (fun (t : Txn) (s : State) => s.run t.id) s)

/-- LOAD_TILE_DONE (R102, R493, R495): the tile's bytes have arrived; its CRC decides between READY and OUT. -/
def execLoadTileDone (src : List Byte) (s : State) : Out :=
  .next (
    match s.running? unitSys with
    | none => s
    | some t =>
      if t.op = 0x31 && s.mayDma then
        let tile : Fin 16 := ix 15 (descByte t.desc 16)
        match (s.fillPlanTile tile src).endLoad tile (BitVec.ofNat 32 (descField t.desc 20 4)) with
        | (s1, true) => s1.finish t.id .ok
        | (s1, false) => (s1.finish t.id .checksumFail).settleDoom
      else s)

/-- Open a window load (R494, R496). -/
def openWindow (w : Word) (s : State) : State :=
  let t : Fin 16 := ix 15 (bits w.toNat 3 0)
  if s.board.window.isSome then s.setF F.BRD_ERR_PLAN_BUSY
  else if s.referenced t then (s.wr F.BRD_PLAN_CTL_TILE 0 t.val).setF F.BRD_ERR_PLAN_BUSY
  else if !s.isOn .plan then s.wr F.BRD_PLAN_CTL_TILE 0 t.val
  else
    let s1 := (s.wr F.BRD_PLAN_CTL_TILE 0 t.val).modPlanTile t (fun x => { x with st := .loading })
    { s1 with board := { s1.board with window := some t.val } }

/-- Close the window load and check it against BRD_PLAN_CRC (R493, R496). -/
def closeWindow (s : State) : State :=
  onSome s.board.window (fun (t : Nat) (s : State) =>
    (({ s with board := { s.board with window := none } }).endLoad (ix 15 t)
      (BitVec.ofNat 32 (s.rd F.BRD_PLAN_CRC_CRC))).1.settleDoom) s

/-- Write of BRD_PLAN_CTL: CLOSE ends the load that is open; OPEN starts one; otherwise TILE is written while no load is
open (R496). DESIGN CHOICE (log entry 90). -/
def writePlanCtl (w : Word) (s : State) : State :=
  let s1 := if bit w.toNat 9 then closeWindow s else s
  if bit w.toNat 8 then
    if s.board.window.isSome then s1.setF F.BRD_ERR_PLAN_BUSY else openWindow w s1
  else if s.board.window.isSome then s1 else s1.wr F.BRD_PLAN_CTL_TILE 0 (bits w.toNat 3 0)

/-- PLAN_WINDOW_OPEN (R494): a write of BRD_PLAN_CTL with OPEN = 1. -/
def execPlanWindowOpen (w : Word) (s : State) : Out :=
  .next (if bit w.toNat 8 then s.hostWrite 0xB040 (writePlanCtl w) else s)

/-- PLAN_WINDOW_CLOSE (R493): a write of BRD_PLAN_CTL with CLOSE = 1. -/
def execPlanWindowClose (w : Word) (s : State) : Out :=
  .next (if bit w.toNat 9 then s.hostWrite 0xB040 (writePlanCtl w) else s)

/-- Write of BRD_PLAN_DATA (R496); a tile that has become a deduplication tile takes no write (R247). -/
def writePlanData (w : Word) (s : State) : State :=
  match s.board.window with
  | none => s.setF F.BRD_ERR_PLAN_SEQ
  | some t =>
    let a := s.rd F.BRD_PLAN_ADDR_WORD
    let s1 := s.wr F.BRD_PLAN_ADDR_WORD 0 (a + 1)
    if s.isDedupTile t then s1
    else { s1 with planMem := Memory.writeBytes s1.planMem (tileBytes * t + 4 * a) (leBytes 4 w.toNat) }

/-- PLAN_DATA_WRITE (R496). -/
def execPlanDataWrite (w : Word) (s : State) : Out := .next (s.hostWrite 0xB048 (writePlanData w))

/-- Write of BRD_UCODE: MASK until locked; the write that sets PLOCK also writes MASK (R9, R494). -/
def writeUcode (w : Word) (s : State) : State :=
  let s1 := if s.flag F.BRD_UCODE_PLOCK then s else s.wr F.BRD_UCODE_MASK 0 (bits w.toNat 15 0)
  if bit w.toNat 16 then s1.setF F.BRD_UCODE_PLOCK else s1

/-- UCODE_PLOCK (R494): a write of 1 to BRD_UCODE.PLOCK. DEDUCED (log entry 46). -/
def execUcodePlock (w : Word) (s : State) : Out :=
  .next (if bit w.toNat 16 then s.hostWrite 0xB054 (writeUcode w) else s)

end Sys2Proof.Machine
end

