-- ==== Sys2Proof/Machine/RegMap.lean ====
section
/-! DEFINITION. The register map (R8, R9, R17 and the register tables of every chapter of spec/): the
layout of each register, one row a register, written out from the spec's own register tables. -/

namespace Sys2Proof.Machine

/-- Register rows of the sys chapter. -/
def sysRegs : List RegSpec := [
  ⟨"SYS_SEQ", 0x40, [], [⟨31, 0, .ro, 0, 0, []⟩]⟩,
  ⟨"SYS_TB_LO", 0x48, [], [⟨31, 0, .rw, 0, 0, []⟩]⟩,
  ⟨"SYS_TB_HI", 0x4c, [], [⟨31, 0, .rw, 0, 0, []⟩]⟩,
  ⟨"SYS_TB_STAT", 0x50, [], [⟨0, 0, .ro, 1, 0, []⟩,
      ⟨1, 1, .ro, 0, 0, []⟩,
      ⟨2, 2, .w1c, 0, 0, []⟩]⟩,
  ⟨"SYS_SLOT_STAT", 0x60, [], [⟨8, 0, .ro, 0, 0, []⟩,
      ⟨22, 16, .ro, 0, 0, []⟩,
      ⟨29, 24, .ro, 0, 0, []⟩]⟩,
  ⟨"SYS_SLOT_PEAK", 0x64, [], [⟨8, 0, .ro, 0, 0, []⟩,
      ⟨31, 31, .wo, 0, 0, []⟩]⟩]

/-- Register rows of the host chapter. -/
def hostRegs0 : List RegSpec := [
  ⟨"SYS_HOST_DROP", 0x70, [], [⟨15, 0, .ro, 0, 0, []⟩,
      ⟨30, 16, .ro, 0, 0, []⟩,
      ⟨31, 31, .wo, 0, 0, []⟩]⟩,
  ⟨"SYS_HOST_MARK", 0x74, [], [⟨31, 0, .ro, 0, 0, []⟩]⟩,
  ⟨"DOORBELL_SQ", 0x1000, [(8, 0x20)], [⟨15, 0, .rw, 0, 0, []⟩]⟩,
  ⟨"DOORBELL_CQ", 0x1100, [(8, 0x10)], [⟨15, 0, .rw, 0, 0, []⟩]⟩,
  ⟨"DOORBELL_RQ", 0x1180, [(8, 4)], [⟨15, 0, .rw, 0, 0, []⟩]⟩,
  ⟨"DOORBELL_EQ", 0x11a0, [], [⟨15, 0, .rw, 0, 0, []⟩]⟩,
  ⟨"HOST_CTL", 0x2000, [], [⟨0, 0, .rw, 1, 0, []⟩,
      ⟨1, 1, .rw, 0, 0, []⟩]⟩,
  ⟨"HOST_STAT", 0x2004, [], [⟨0, 0, .ro, 0, 0, []⟩,
      ⟨1, 1, .ro, 0, 0, []⟩,
      ⟨2, 2, .ro, 0, 0, []⟩,
      ⟨4, 3, .ro, 0, 0, []⟩,
      ⟨6, 5, .ro, 0, 0, []⟩]⟩,
  ⟨"HOST_ERR", 0x2008, [], [⟨0, 0, .w1c, 0, 0, []⟩,
      ⟨1, 1, .w1c, 0, 0, []⟩,
      ⟨2, 2, .w1c, 0, 0, []⟩,
      ⟨3, 3, .w1c, 0, 0, []⟩,
      ⟨4, 4, .w1c, 0, 0, []⟩,
      ⟨5, 5, .w1c, 0, 0, []⟩,
      ⟨6, 6, .w1c, 0, 0, []⟩,
      ⟨7, 7, .w1c, 0, 0, []⟩]⟩,
  ⟨"HOST_ERR_SRC", 0x200c, [], [⟨4, 0, .ro, 0, 0, []⟩,
      ⟨6, 5, .ro, 0, 0, []⟩,
      ⟨10, 8, .ro, 0, 0, []⟩]⟩,
  ⟨"HOST_ERR_ADDR_LO", 0x2010, [], [⟨31, 0, .ro, 0, 0, []⟩]⟩,
  ⟨"HOST_ERR_ADDR_HI", 0x2014, [], [⟨31, 0, .ro, 0, 0, []⟩]⟩,
  ⟨"HOST_RQ_ROUTE0", 0x2040, [], [⟨31, 0, .rw, 0, 0, []⟩]⟩,
  ⟨"HOST_RQ_ROUTE1", 0x2044, [], [⟨31, 0, .rw, 0, 0, []⟩]⟩,
  ⟨"HOST_RQ_ROUTE2", 0x2048, [], [⟨1, 0, .rw, 0, 0, []⟩,
      ⟨3, 2, .rw, 0, 0, []⟩,
      ⟨5, 4, .rw, 0, 0, []⟩]⟩,
  ⟨"HOST_INT_STAT", 0x2050, [], [⟨31, 0, .w1c, 0, 0, []⟩]⟩,
  ⟨"HOST_SQ_BASE_LO", 0x2100, [(0x20, 0x20)], [⟨31, 6, .rw, 0, 0, []⟩]⟩,
  ⟨"HOST_SQ_BASE_HI", 0x2104, [(0x20, 0x20)], [⟨31, 0, .rw, 0, 0, []⟩]⟩,
  ⟨"HOST_SQ_CFG", 0x2108, [(0x20, 0x20)], [⟨3, 0, .rw, 4, 0, [(4, 0xc)]⟩,
      ⟨11, 8, .rw, 0, 0, []⟩,
      ⟨16, 16, .rw, 0, 0, []⟩,
      ⟨17, 17, .rw, 0, 0, []⟩]⟩,
  ⟨"HOST_SQ_STAT", 0x210c, [(0x20, 0x20)], [⟨15, 0, .ro, 0, 0, []⟩,
      ⟨16, 16, .ro, 1, 0, []⟩,
      ⟨17, 17, .w1c, 0, 0, []⟩,
      ⟨18, 18, .w1c, 0, 0, []⟩]⟩,
  ⟨"HOST_SQ_DONE", 0x2110, [(0x20, 0x20)], [⟨15, 0, .ro, 0, 0, []⟩]⟩,
  ⟨"HOST_CQ_BASE_LO", 0x2500, [(0x20, 0x10)], [⟨31, 6, .rw, 0, 0, []⟩]⟩,
  ⟨"HOST_CQ_BASE_HI", 0x2504, [(0x20, 0x10)], [⟨31, 0, .rw, 0, 0, []⟩]⟩,
  ⟨"HOST_CQ_CFG", 0x2508, [(0x20, 0x10)], [⟨3, 0, .rw, 4, 0, [(4, 0xc)]⟩,
      ⟨8, 4, .rw, 0, 1, []⟩,
      ⟨16, 16, .rw, 0, 0, []⟩,
      ⟨17, 17, .rw, 0, 0, []⟩]⟩]

/-- Register rows of the host chapter. -/
def hostRegs1 : List RegSpec := [
  ⟨"HOST_CQ_MOD", 0x250c, [(0x20, 0x10)], [⟨7, 0, .rw, 1, 0, []⟩,
      ⟨25, 16, .rw, 8, 0, [(1, 0x3ff)]⟩]⟩,
  ⟨"HOST_CQ_STAT", 0x2510, [(0x20, 0x10)], [⟨15, 0, .ro, 0, 0, []⟩,
      ⟨16, 16, .ro, 0, 0, []⟩,
      ⟨17, 17, .ro, 0, 0, []⟩,
      ⟨18, 18, .w1c, 0, 0, []⟩,
      ⟨31, 24, .ro, 0, 0, []⟩]⟩,
  ⟨"HOST_RQ_BASE_LO", 0x2700, [(0x20, 4)], [⟨31, 6, .rw, 0, 0, []⟩]⟩,
  ⟨"HOST_RQ_BASE_HI", 0x2704, [(0x20, 4)], [⟨31, 0, .rw, 0, 0, []⟩]⟩,
  ⟨"HOST_RQ_CFG", 0x2708, [(0x20, 4)], [⟨3, 0, .rw, 4, 0, [(4, 0xc)]⟩,
      ⟨8, 4, .rw, 0x10, 1, []⟩,
      ⟨16, 16, .rw, 0, 0, []⟩,
      ⟨17, 17, .rw, 0, 0, []⟩]⟩,
  ⟨"HOST_RQ_MOD", 0x270c, [(0x20, 4)], [⟨7, 0, .rw, 1, 0, []⟩,
      ⟨25, 16, .rw, 8, 0, [(1, 0x3ff)]⟩]⟩,
  ⟨"HOST_RQ_STAT", 0x2710, [(0x20, 4)], [⟨15, 0, .ro, 0, 0, []⟩,
      ⟨16, 16, .ro, 0, 0, []⟩,
      ⟨17, 17, .ro, 0, 0, []⟩,
      ⟨18, 18, .w1c, 0, 0, []⟩,
      ⟨31, 24, .ro, 0, 0, []⟩]⟩,
  ⟨"HOST_EQ_BASE_LO", 0x2780, [], [⟨31, 6, .rw, 0, 0, []⟩]⟩,
  ⟨"HOST_EQ_BASE_HI", 0x2784, [], [⟨31, 0, .rw, 0, 0, []⟩]⟩,
  ⟨"HOST_EQ_CFG", 0x2788, [], [⟨3, 0, .rw, 4, 0, [(4, 0xc)]⟩,
      ⟨8, 4, .rw, 0x14, 0, []⟩,
      ⟨16, 16, .rw, 0, 0, []⟩,
      ⟨17, 17, .rw, 0, 0, []⟩]⟩,
  ⟨"HOST_EQ_MOD", 0x278c, [], [⟨7, 0, .rw, 1, 0, []⟩,
      ⟨25, 16, .rw, 8, 0, [(1, 0x3ff)]⟩]⟩,
  ⟨"HOST_EQ_STAT", 0x2790, [], [⟨15, 0, .ro, 0, 0, []⟩,
      ⟨16, 16, .ro, 0, 0, []⟩,
      ⟨17, 17, .ro, 0, 0, []⟩,
      ⟨18, 18, .w1c, 0, 0, []⟩,
      ⟨31, 24, .ro, 0, 0, []⟩]⟩,
  ⟨"MSIX_ADDR_LO", 0x2800, [(0x10, 0x20)], [⟨31, 0, .rw, 0, 0, []⟩]⟩,
  ⟨"MSIX_ADDR_HI", 0x2804, [(0x10, 0x20)], [⟨31, 0, .rw, 0, 0, []⟩]⟩,
  ⟨"MSIX_DATA", 0x2808, [(0x10, 0x20)], [⟨31, 0, .rw, 0, 0, []⟩]⟩,
  ⟨"MSIX_CTRL", 0x280c, [(0x10, 0x20)], [⟨0, 0, .rw, 1, 0, []⟩]⟩,
  ⟨"MSIX_PBA", 0x2a00, [(4, 2)], [⟨31, 0, .ro, 0, 0, []⟩]⟩]

/-- All register rows of the host chapter. -/
def hostRegs : List RegSpec := hostRegs0 ++ hostRegs1

/-- Register rows of the pwr chapter. -/
def pwrRegs0 : List RegSpec := [
  ⟨"SYS_BOOT_STAT", 0x80, [], [⟨0, 0, .ro, 0, 0, []⟩,
      ⟨1, 1, .ro, 0, 0, []⟩,
      ⟨2, 2, .ro, 0, 0, []⟩,
      ⟨3, 3, .ro, 0, 0, []⟩,
      ⟨31, 16, .ro, 0, 0, []⟩]⟩,
  ⟨"PWR_STATE", 0x3000, [], [⟨23, 0, .ro, 2, 0, []⟩]⟩,
  ⟨"PWR_REQ", 0x3004, [], [⟨1, 0, .ro, 3, 0, []⟩,
      ⟨23, 2, .rw, 0x3fffff, 0, []⟩,
      ⟨24, 24, .rw, 0, 0, []⟩]⟩,
  ⟨"PWR_STAT", 0x3008, [], [⟨0, 0, .ro, 0, 0, []⟩,
      ⟨2, 1, .ro, 0, 0, []⟩,
      ⟨4, 3, .ro, 0, 0, []⟩,
      ⟨5, 5, .w1c, 0, 0, []⟩,
      ⟨6, 6, .w1c, 0, 0, []⟩]⟩,
  ⟨"PWR_LAST_REFUSER", 0x300c, [], [⟨3, 0, .ro, 0, 0, []⟩,
      ⟨6, 4, .ro, 0, 0, []⟩,
      ⟨9, 8, .ro, 0, 0, []⟩,
      ⟨31, 31, .w1c, 0, 0, []⟩]⟩,
  ⟨"PWR_PAD_RELEASE", 0x3010, [], [⟨11, 0, .w1c, 0, 0, []⟩]⟩,
  ⟨"PWR_PAD_AUTO", 0x3014, [], [⟨11, 0, .rw, 0, 0, []⟩]⟩,
  ⟨"PWR_ACCESS_FAULT", 0x3018, [], [⟨15, 0, .ro, 0, 0, []⟩,
      ⟨19, 16, .ro, 0, 0, []⟩,
      ⟨20, 20, .ro, 0, 0, []⟩,
      ⟨21, 21, .ro, 0, 0, []⟩,
      ⟨31, 31, .w1c, 0, 0, []⟩]⟩,
  ⟨"PWR_WAKE_EN", 0x3020, [], [⟨7, 1, .rw, 0, 0, []⟩]⟩,
  ⟨"PWR_WAKE_LATCH", 0x3024, [], [⟨7, 1, .ro, 0, 0, []⟩,
      ⟨8, 8, .ro, 0, 0, []⟩]⟩,
  ⟨"PWR_WAKE_GPIO", 0x3028, [], [⟨7, 0, .rw, 0, 0, []⟩]⟩,
  ⟨"PWR_WAKE_TIMER", 0x302c, [], [⟨31, 0, .rw, 0, 0, []⟩]⟩,
  ⟨"PWR_WAKE_MAP1", 0x3044, [], [⟨11, 1, .rw, 0, 0, []⟩]⟩,
  ⟨"PWR_WAKE_MAP2", 0x3048, [], [⟨11, 1, .rw, 1, 0, []⟩]⟩,
  ⟨"PWR_WAKE_MAP3", 0x304c, [], [⟨11, 1, .rw, 1, 0, []⟩]⟩,
  ⟨"PWR_WAKE_MAP4", 0x3050, [], [⟨11, 1, .rw, 1, 0, []⟩]⟩,
  ⟨"PWR_WAKE_MAP5", 0x3054, [], [⟨11, 1, .rw, 4, 0, []⟩]⟩,
  ⟨"PWR_WAKE_MAP6", 0x3058, [], [⟨11, 1, .rw, 2, 0, []⟩]⟩,
  ⟨"PWR_WAKE_MAP7", 0x305c, [], [⟨11, 1, .rw, 1, 0, []⟩]⟩,
  ⟨"PWR_REFUSE_CNT", 0x3080, [(4, 0xc)], [⟨31, 0, .ro, 0, 0, []⟩]⟩,
  ⟨"PWR_CNT_ACCESS_FAULT", 0x30c0, [], [⟨31, 0, .ro, 0, 0, []⟩]⟩,
  ⟨"CLK_CFG", 0x4000, [], [⟨0, 0, .rw, 0, 0, []⟩,
      ⟨1, 1, .rw, 0, 0, []⟩]⟩,
  ⟨"CLK_STAT", 0x4004, [], [⟨0, 0, .ro, 0, 0, []⟩,
      ⟨1, 1, .ro, 0, 0, []⟩,
      ⟨2, 2, .ro, 0, 0, []⟩,
      ⟨3, 3, .ro, 0, 0, []⟩,
      ⟨4, 4, .ro, 0, 0, []⟩,
      ⟨5, 5, .ro, 0, 0, []⟩,
      ⟨6, 6, .ro, 0, 0, []⟩]⟩,
  ⟨"RST_CAUSE", 0x4100, [], [⟨5, 0, .w1c, 0, 0, []⟩]⟩]

/-- Register rows of the pwr chapter. -/
def pwrRegs1 : List RegSpec := [
  ⟨"RST_SW", 0x4104, [], [⟨15, 0, .wo, 0, 0, []⟩]⟩,
  ⟨"RST_WDT_CFG", 0x4108, [], [⟨0, 0, .w1s, 0, 0, []⟩,
      ⟨1, 1, .rw, 1, 0, []⟩,
      ⟨31, 16, .rw, 0x3e8, 0, [(1, 0xffff)]⟩]⟩,
  ⟨"RST_WDT_KICK", 0x410c, [], [⟨15, 0, .wo, 0, 0, []⟩]⟩]

/-- All register rows of the pwr chapter. -/
def pwrRegs : List RegSpec := pwrRegs0 ++ pwrRegs1

/-- Register rows of the rod chapter. -/
def rodRegs : List RegSpec := [
  ⟨"ROD_HF_STAT", 0x5000, [], [⟨0, 0, .ro, 0, 0, []⟩]⟩,
  ⟨"ROD_PWR_LIMIT", 0x5004, [], [⟨3, 0, .ro, 0, 0, []⟩,
      ⟨4, 4, .ro, 0, 0, []⟩]⟩,
  ⟨"ROD_CARRIER", 0x5008, [], [⟨23, 0, .ro, 0, 0, []⟩]⟩,
  ⟨"ROD_CTL", 0x6000, [(0x100, 0x18)], [⟨0, 0, .wo, 0, 0, []⟩]⟩,
  ⟨"ROD_TX", 0x6004, [(0x100, 0x18)], [⟨3, 0, .rw, 0, 0, [(0, 0xc)]⟩,
      ⟨11, 8, .rw, 1, 0, []⟩,
      ⟨15, 12, .rw, 1, 0, []⟩,
      ⟨23, 16, .rw, 0x14, 0, [(1, 0xff)]⟩]⟩,
  ⟨"ROD_PHASE", 0x6008, [(0x100, 0x18)], [⟨5, 0, .rw, 0, 0, []⟩]⟩,
  ⟨"ROD_RX", 0x600c, [(0x100, 0x18)], [⟨2, 0, .rw, 3, 0, []⟩,
      ⟨3, 3, .rw, 1, 0, []⟩,
      ⟨11, 8, .rw, 6, 0, []⟩]⟩,
  ⟨"ROD_FIELD", 0x6010, [(0x100, 0x18)], [⟨15, 0, .rw, 0x1388, 0, []⟩,
      ⟨31, 16, .rw, 0x13ec, 0, []⟩]⟩,
  ⟨"ROD_IDLE", 0x6014, [(0x100, 0x18)], [⟨15, 0, .rw, 0, 0, []⟩]⟩,
  ⟨"ROD_PMODE", 0x6040, [(0x100, 0x18), (0x10, 4)], [⟨1, 0, .rw, 0, 0, [(0, 2)]⟩,
      ⟨2, 2, .rw, 0, 0, []⟩,
      ⟨5, 4, .rw, 0, 0, []⟩,
      ⟨7, 6, .rw, 1, 0, []⟩,
      ⟨8, 8, .rw, 0, 0, []⟩,
      ⟨15, 9, .rw, 0xa, 0, [(8, 0x1e), (0x64, 0x64)]⟩,
      ⟨23, 16, .rw, 0, 0, []⟩]⟩,
  ⟨"ROD_PFDT", 0x6044, [(0x100, 0x18), (0x10, 4)], [⟨15, 0, .rw, 0, 0, []⟩,
      ⟨31, 16, .rw, 0, 0, []⟩]⟩,
  ⟨"ROD_PWAIT", 0x6048, [(0x100, 0x18), (0x10, 4)], [⟨27, 0, .rw, 0, 0, []⟩]⟩,
  ⟨"ROD_STAT", 0x6080, [(0x100, 0x18)], [⟨1, 0, .ro, 0, 0, []⟩,
      ⟨3, 2, .ro, 0, 0, []⟩,
      ⟨4, 4, .ro, 0, 0, []⟩,
      ⟨12, 8, .ro, 0, 0, []⟩,
      ⟨18, 16, .ro, 0, 0, []⟩]⟩,
  ⟨"ROD_ERR", 0x6084, [(0x100, 0x18)], [⟨0, 0, .w1c, 0, 0, []⟩,
      ⟨1, 1, .w1c, 0, 0, []⟩,
      ⟨2, 2, .w1c, 0, 0, []⟩,
      ⟨3, 3, .w1c, 0, 0, []⟩,
      ⟨4, 4, .w1c, 0, 0, []⟩]⟩,
  ⟨"ROD_MEAS", 0x6088, [(0x100, 0x18)], [⟨15, 0, .ro, 0, 0, []⟩,
      ⟨25, 16, .ro, 0, 0, []⟩]⟩,
  ⟨"ROD_CNT_TX", 0x6090, [(0x100, 0x18)], [⟨31, 0, .ro, 0, 0, []⟩]⟩,
  ⟨"ROD_CNT_OK", 0x6094, [(0x100, 0x18)], [⟨31, 0, .ro, 0, 0, []⟩]⟩,
  ⟨"ROD_CNT_CRC", 0x6098, [(0x100, 0x18)], [⟨31, 0, .ro, 0, 0, []⟩]⟩,
  ⟨"ROD_CNT_NORESP", 0x609c, [(0x100, 0x18)], [⟨31, 0, .ro, 0, 0, []⟩]⟩,
  ⟨"ROD_CNT_COLL", 0x60a0, [(0x100, 0x18)], [⟨31, 0, .ro, 0, 0, []⟩]⟩,
  ⟨"ROD_CNT_LATE", 0x60a4, [(0x100, 0x18)], [⟨31, 0, .ro, 0, 0, []⟩]⟩]

/-- Register rows of the inv chapter. -/
def invRegs : List RegSpec := [
  ⟨"ROD_FILT_CFG", 0x5040, [], [⟨0, 0, .rw, 0, 0, []⟩,
      ⟨7, 4, .rw, 0, 0, []⟩,
      ⟨11, 8, .rw, 4, 0, [(4, 0xb)]⟩]⟩,
  ⟨"ROD_DEDUP_CFG", 0x5044, [], [⟨3, 0, .rw, 0xf, 0, []⟩,
      ⟨6, 4, .rw, 1, 0, [(1, 4)]⟩]⟩,
  ⟨"ROD_SPEC_CFG", 0x5048, [], [⟨7, 0, .rw, 0x14, 0, []⟩]⟩,
  ⟨"ROD_ROUND_CFG", 0x5050, [], [⟨0, 0, .rw, 0, 0, []⟩,
      ⟨7, 4, .rw, 0, 0, []⟩,
      ⟨8, 8, .rw, 0, 0, []⟩,
      ⟨9, 9, .rw, 0, 0, []⟩]⟩,
  ⟨"ROD_ROUND_CTL", 0x5054, [], [⟨0, 0, .wo, 0, 0, []⟩]⟩,
  ⟨"ROD_ROUND_STAT", 0x5058, [], [⟨0, 0, .ro, 0, 0, []⟩,
      ⟨4, 1, .ro, 0, 0, []⟩]⟩,
  ⟨"ROD_ROUND_NO", 0x505c, [], [⟨31, 0, .ro, 0, 0, []⟩]⟩,
  ⟨"ROD_ROUND_CARRIED", 0x5060, [], [⟨31, 0, .ro, 0, 0, []⟩]⟩,
  ⟨"ROD_ROUND_DISC", 0x5064, [], [⟨31, 0, .ro, 0, 0, []⟩]⟩,
  ⟨"ROD_INV_ERR", 0x5068, [], [⟨0, 0, .w1c, 0, 0, []⟩,
      ⟨1, 1, .w1c, 0, 0, []⟩,
      ⟨2, 2, .w1c, 0, 0, []⟩,
      ⟨3, 3, .w1c, 0, 0, []⟩]⟩,
  ⟨"ROD_PLAN_STAT", 0x60c0, [(0x100, 0x18)], [⟨9, 0, .ro, 0, 0, []⟩,
      ⟨11, 11, .w1c, 0, 0, []⟩,
      ⟨12, 12, .ro, 0, 0, []⟩,
      ⟨31, 16, .ro, 0, 0, []⟩]⟩,
  ⟨"ROD_PLAN_FAULT", 0x60c4, [(0x100, 0x18)], [⟨9, 0, .ro, 0, 0, []⟩,
      ⟨14, 12, .ro, 0, 0, []⟩,
      ⟨31, 31, .w1c, 0, 0, []⟩]⟩,
  ⟨"ROD_SPEC_STAT", 0x60c8, [(0x100, 0x18)], [⟨2, 0, .ro, 0, 0, []⟩,
      ⟨6, 4, .ro, 0, 0, []⟩]⟩,
  ⟨"ROD_SPEC_CTL", 0x60cc, [(0x100, 0x18)], [⟨0, 0, .wo, 0, 0, []⟩]⟩,
  ⟨"ROD_SPEC_CARRIED", 0x60d0, [(0x100, 0x18)], [⟨31, 0, .ro, 0, 0, []⟩]⟩,
  ⟨"ROD_SPEC_DISCARD_FILTER", 0x60d4, [(0x100, 0x18)], [⟨31, 0, .ro, 0, 0, []⟩]⟩,
  ⟨"ROD_SPEC_DISCARD_DUP", 0x60d8, [(0x100, 0x18)], [⟨31, 0, .ro, 0, 0, []⟩]⟩,
  ⟨"ROD_SPEC_DISCARD_CRC", 0x60dc, [(0x100, 0x18)], [⟨31, 0, .ro, 0, 0, []⟩]⟩,
  ⟨"ROD_SPEC_DISCARD_ROUND_END", 0x60e0, [(0x100, 0x18)], [⟨31, 0, .ro, 0, 0, []⟩]⟩,
  ⟨"ROD_SPEC_DISCARD_FLUSH", 0x60e4, [(0x100, 0x18)], [⟨31, 0, .ro, 0, 0, []⟩]⟩,
  ⟨"ROD_PREP_SENT", 0x60e8, [(0x100, 0x18)], [⟨31, 0, .ro, 0, 0, []⟩]⟩,
  ⟨"ROD_PREP_DISCARD", 0x60ec, [(0x100, 0x18)], [⟨31, 0, .ro, 0, 0, []⟩]⟩]

/-- Register rows of the fld chapter. -/
def fldRegs : List RegSpec := [
  ⟨"FLD_CTL", 0x5100, [], [⟨0, 0, .rw, 1, 0, []⟩,
      ⟨1, 1, .rw, 1, 0, []⟩,
      ⟨7, 4, .rw, 4, 0, []⟩,
      ⟨8, 8, .rw, 1, 0, []⟩,
      ⟨19, 16, .rw, 8, 0, []⟩]⟩,
  ⟨"FLD_SURVEY_CTL", 0x5104, [], [⟨0, 0, .wo, 0, 0, []⟩,
      ⟨1, 1, .rw, 1, 0, []⟩]⟩,
  ⟨"FLD_SURVEY_MASK", 0x5108, [], [⟨23, 0, .rw, 0xffffff, 0, []⟩]⟩,
  ⟨"FLD_SURVEY_STAT", 0x510c, [], [⟨0, 0, .ro, 0, 0, []⟩,
      ⟨1, 1, .w1c, 0, 0, []⟩,
      ⟨2, 2, .w1c, 0, 0, []⟩,
      ⟨7, 4, .ro, 0, 0, []⟩,
      ⟨12, 8, .ro, 0, 0, []⟩]⟩,
  ⟨"FLD_TAP_CFG", 0x5110, [], [⟨7, 0, .rw, 0x28, 0, []⟩]⟩,
  ⟨"FLD_ZMAP", 0x5120, [(4, 3)], [⟨31, 0, .rw, 0, 0, []⟩]⟩,
  ⟨"FLD_ZSTAT", 0x5140, [(4, 8)], [⟨4, 0, .ro, 0x1f, 0, []⟩,
      ⟨5, 5, .ro, 0, 0, []⟩,
      ⟨12, 8, .ro, 0, 0, []⟩,
      ⟨16, 16, .ro, 0, 0, []⟩]⟩,
  ⟨"FLD_ZNEAR", 0x5160, [(4, 8)], [⟨4, 0, .ro, 0x1f, 0, []⟩,
      ⟨10, 8, .ro, 0, 0, []⟩,
      ⟨31, 16, .ro, 0, 0, []⟩]⟩,
  ⟨"FLD_BUDGET", 0x5180, [], [⟨12, 0, .rw, 0x1770, 0, [(0, 0x1770)]⟩,
      ⟨28, 16, .rw, 0xfa0, 0, [(0, 0x1770)]⟩]⟩,
  ⟨"FLD_BUDGET_STAT", 0x5184, [], [⟨13, 0, .ro, 0, 0, []⟩,
      ⟨20, 16, .ro, 0, 0, []⟩,
      ⟨24, 24, .ro, 0, 0, []⟩,
      ⟨25, 25, .ro, 0, 0, []⟩]⟩,
  ⟨"FLD_TEMP", 0x5190, [(4, 4)], [⟨15, 0, .ro, 0, 0, []⟩]⟩,
  ⟨"FLD_THERM", 0x51a0, [], [⟨0, 0, .wo, 0, 0, []⟩]⟩,
  ⟨"FLD_STAT", 0x51a4, [], [⟨0, 0, .w1c, 0, 0, []⟩,
      ⟨1, 1, .w1c, 0, 0, []⟩]⟩,
  ⟨"FLD_CNT_BUDGET", 0x51a8, [], [⟨31, 0, .ro, 0, 0, []⟩]⟩,
  ⟨"FLD_TAPSEL", 0x5200, [(4, 0x18)], [⟨4, 0, .rw, 0x1f, 0, [(0, 0x17), (0x1f, 0x1f)]⟩,
      ⟨9, 5, .rw, 0x1f, 0, [(0, 0x17), (0x1f, 0x1f)]⟩,
      ⟨14, 10, .rw, 0x1f, 0, [(0, 0x17), (0x1f, 0x1f)]⟩,
      ⟨19, 15, .rw, 0x1f, 0, [(0, 0x17), (0x1f, 0x1f)]⟩,
      ⟨24, 20, .rw, 0x1f, 0, [(0, 0x17), (0x1f, 0x1f)]⟩,
      ⟨29, 25, .rw, 0x1f, 0, [(0, 0x17), (0x1f, 0x1f)]⟩]⟩,
  ⟨"FLD_TAPW", 0x5300, [(4, 0x90)], [⟨15, 0, .rw, 0, 0, []⟩,
      ⟨31, 16, .rw, 0, 0, []⟩]⟩,
  ⟨"FLD_COUP", 0x5600, [(4, 0x240)], [⟨15, 0, .ro, 0x8000, 0, []⟩,
      ⟨31, 16, .ro, 0x8000, 0, []⟩]⟩]

/-- Register rows of the tly chapter. -/
def tlyRegs : List RegSpec := [
  ⟨"TLY_CTL", 0x5f00, [], [⟨0, 0, .rw, 0, 0, []⟩]⟩,
  ⟨"TLY_CFG", 0x5f04, [], [⟨1, 0, .rw, 2, 0, []⟩,
      ⟨3, 2, .rw, 1, 0, []⟩,
      ⟨6, 4, .rw, 1, 0, []⟩,
      ⟨11, 8, .rw, 6, 0, [(0, 0xc)]⟩,
      ⟨16, 16, .rw, 1, 0, []⟩,
      ⟨17, 17, .rw, 1, 0, []⟩]⟩,
  ⟨"TLY_EN", 0x5f08, [], [⟨23, 0, .rw, 0, 0, []⟩]⟩,
  ⟨"TLY_TH", 0x5f0c, [], [⟨11, 0, .rw, 0x50, 0, []⟩,
      ⟨25, 16, .rw, 0xc, 0, []⟩]⟩,
  ⟨"TLY_STAT", 0x5f10, [], [⟨0, 0, .ro, 0, 0, []⟩,
      ⟨5, 1, .ro, 0x1f, 0, []⟩]⟩,
  ⟨"TLY_WAKE", 0x5f14, [], [⟨23, 0, .w1c, 0, 0, []⟩]⟩,
  ⟨"TLY_DISARM", 0x5f18, [], [⟨23, 0, .ro, 0, 0, []⟩]⟩,
  ⟨"TLY_CNT_SCAN", 0x5f1c, [], [⟨31, 0, .ro, 0, 0, []⟩]⟩,
  ⟨"TLY_CNT_SKIP", 0x5f20, [], [⟨31, 0, .ro, 0, 0, []⟩]⟩,
  ⟨"TLY_BASE", 0x5f40, [(4, 0x18)], [⟨11, 0, .rw, 0, 0, []⟩,
      ⟨15, 15, .rw, 0, 0, []⟩,
      ⟨25, 16, .rw, 0, 0, []⟩]⟩,
  ⟨"TLY_LAST", 0x5fa0, [(4, 0x18)], [⟨11, 0, .ro, 0, 0, []⟩,
      ⟨15, 12, .ro, 0, 0, []⟩,
      ⟨25, 16, .ro, 0, 0, []⟩,
      ⟨31, 31, .ro, 0, 0, []⟩]⟩]

/-- Register rows of the acc chapter. -/
def accRegs0 : List RegSpec := [
  ⟨"ACC_CFG", 0x8000, [], [⟨1, 0, .rwl, 1, 0, []⟩,
      ⟨2, 2, .rwl, 1, 0, []⟩,
      ⟨8, 4, .rwl, 8, 0, [(1, 0x10)]⟩,
      ⟨16, 16, .w1s, 0, 0, []⟩,
      ⟨17, 17, .w1s, 0, 0, []⟩]⟩,
  ⟨"ACC_STAT", 0x8004, [], [⟨0, 0, .ro, 0, 0, []⟩,
      ⟨2, 1, .ro, 0, 0, []⟩,
      ⟨6, 3, .ro, 0, 0, []⟩,
      ⟨7, 7, .ro, 0, 0, []⟩,
      ⟨8, 8, .ro, 1, 0, []⟩,
      ⟨19, 16, .ro, 0, 0, []⟩]⟩,
  ⟨"ACC_ERR", 0x8008, [], [⟨0, 0, .w1c, 0, 0, []⟩,
      ⟨1, 1, .w1c, 0, 0, []⟩,
      ⟨2, 2, .w1c, 0, 0, []⟩]⟩,
  ⟨"ACC_REV_EPOCH", 0x800c, [], [⟨31, 0, .ro, 0, 0, []⟩]⟩,
  ⟨"ACC_DB_TCAL", 0x8010, [], [⟨15, 0, .rwl, 0x3e8, 0, []⟩,
      ⟨31, 31, .rwl, 0, 0, []⟩]⟩,
  ⟨"ACC_MIRROR_CFG", 0x8014, [], [⟨0, 0, .rwl, 0, 0, []⟩,
      ⟨2, 1, .rwl, 0, 0, []⟩,
      ⟨15, 4, .rwl, 0, 0, []⟩]⟩,
  ⟨"ACC_MIRROR_STAT", 0x8018, [], [⟨0, 0, .ro, 0, 0, []⟩,
      ⟨1, 1, .ro, 0, 0, []⟩]⟩,
  ⟨"ACC_MIRROR_GEN", 0x801c, [], [⟨31, 0, .ro, 0, 0, []⟩]⟩,
  ⟨"ACC_TFAIL_SEL", 0x8020, [], [⟨9, 0, .rw, 0, 0, []⟩]⟩,
  ⟨"ACC_TFAIL", 0x8024, [], [⟨7, 0, .ro, 0, 0, []⟩,
      ⟨28, 16, .ro, 0, 0, []⟩]⟩,
  ⟨"ACC_CMD_PARAM", 0x8040, [(4, 0xc)], [⟨31, 0, .rw, 0, 0, []⟩]⟩,
  ⟨"ACC_CMD", 0x8070, [], [⟨7, 0, .wo, 0, 0, []⟩]⟩,
  ⟨"ACC_CMD_STAT", 0x8074, [], [⟨0, 0, .ro, 0, 0, []⟩,
      ⟨1, 1, .w1c, 0, 0, []⟩,
      ⟨15, 8, .ro, 0, 0, []⟩]⟩,
  ⟨"ACC_LOCK_CFG", 0x8100, [(0x40, 4)], [⟨0, 0, .rwl, 0, 0, []⟩,
      ⟨3, 1, .rwl, 0, 0, []⟩,
      ⟨6, 4, .rwl, 0, 0, []⟩,
      ⟨7, 7, .rwl, 0, 0, []⟩,
      ⟨8, 8, .rwl, 0, 0, []⟩,
      ⟨23, 16, .rwl, 0xf, 0, []⟩]⟩,
  ⟨"ACC_LOCK_SEG", 0x8104, [(0x40, 4)], [⟨3, 0, .rwl, 0xf, 0, [(0, 7), (0xf, 0xf)]⟩,
      ⟨7, 4, .rwl, 0xf, 0, [(0, 7), (0xf, 0xf)]⟩,
      ⟨11, 8, .rwl, 0xf, 0, [(0, 7), (0xf, 0xf)]⟩]⟩,
  ⟨"ACC_LOCK_LFMIN", 0x8108, [(0x40, 4)], [⟨7, 0, .rwl, 0, 0, []⟩,
      ⟨15, 8, .rwl, 0, 0, []⟩,
      ⟨23, 16, .rwl, 0, 0, []⟩,
      ⟨31, 24, .rwl, 0, 0, []⟩]⟩,
  ⟨"ACC_LOCK_LFMAX", 0x810c, [(0x40, 4)], [⟨7, 0, .rwl, 0xff, 0, []⟩,
      ⟨15, 8, .rwl, 0xff, 0, []⟩,
      ⟨23, 16, .rwl, 0xff, 0, []⟩,
      ⟨24, 24, .rwl, 0, 0, []⟩]⟩,
  ⟨"ACC_LOCK_DB", 0x8110, [(0x40, 4)], [⟨5, 0, .rwl, 0x10, 0, [(0, 0x20)]⟩,
      ⟨11, 8, .rwl, 2, 0, [(0, 8)]⟩,
      ⟨14, 12, .rwl, 0, 0, [(0, 4)]⟩]⟩,
  ⟨"ACC_REL_CFG", 0x8114, [(0x40, 4)], [⟨7, 0, .rwl, 0x32, 0, [(5, 0xc8)]⟩,
      ⟨8, 8, .rwl, 0, 0, []⟩,
      ⟨9, 9, .rwl, 0, 0, []⟩,
      ⟨23, 16, .rwl, 0, 0, []⟩,
      ⟨31, 24, .rwl, 0, 0, []⟩]⟩,
  ⟨"ACC_LOCK_TRIG", 0x8118, [(0x40, 4)], [⟨7, 0, .rwl, 0, 0, []⟩,
      ⟨11, 8, .rwl, 0, 0, []⟩,
      ⟨13, 12, .rwl, 0, 0, []⟩]⟩,
  ⟨"ACC_LOCK_CTL", 0x811c, [(0x40, 4)], [⟨0, 0, .wo, 0, 0, []⟩]⟩,
  ⟨"ACC_LOCK_STAT", 0x8120, [(0x40, 4)], [⟨7, 0, .ro, 0, 0, []⟩,
      ⟨8, 8, .ro, 0, 0, []⟩,
      ⟨9, 9, .ro, 0, 0, []⟩,
      ⟨10, 10, .ro, 0, 0, []⟩,
      ⟨11, 11, .ro, 0, 0, []⟩,
      ⟨12, 12, .ro, 0, 0, []⟩]⟩,
  ⟨"ACC_LOCK_PEN", 0x8124, [(0x40, 4)], [⟨12, 0, .ro, 0, 0, []⟩]⟩,
  ⟨"ACC_LOCK_CNT_GRANT", 0x8128, [(0x40, 4)], [⟨31, 0, .ro, 0, 0, []⟩]⟩]

/-- Register rows of the acc chapter. -/
def accRegs1 : List RegSpec := [
  ⟨"ACC_LOCK_CNT_REFUSE", 0x812c, [(0x40, 4)], [⟨31, 0, .ro, 0, 0, []⟩]⟩,
  ⟨"ACC_LOCK_CNT_SKIP", 0x8130, [(0x40, 4)], [⟨31, 0, .ro, 0, 0, []⟩]⟩]

/-- All register rows of the acc chapter. -/
def accRegs : List RegSpec := accRegs0 ++ accRegs1

/-- Register rows of the lorle chapter. -/
def lorleRegs : List RegSpec := [
  ⟨"TOK_CFG", 0x8400, [], [⟨1, 0, .rw, 0, 0, [(0, 2)]⟩,
      ⟨31, 31, .wo, 0, 0, []⟩]⟩,
  ⟨"TOK_WAKE_ID", 0x8404, [], [⟨15, 0, .rw, 0, 0, []⟩]⟩,
  ⟨"TOK_DL_CFG", 0x8408, [], [⟨4, 0, .rw, 0x10, 0, [(4, 0x1f)]⟩,
      ⟨15, 8, .rw, 0x32, 0, [(0xa, 0xff)]⟩]⟩,
  ⟨"TOK_UL_CFG", 0x840c, [], [⟨7, 0, .rw, 0, 0, []⟩,
      ⟨15, 8, .rw, 0xc8, 0, [(0x78, 0xf0)]⟩,
      ⟨17, 16, .rw, 1, 0, []⟩]⟩,
  ⟨"TOK_SYNC", 0x8410, [], [⟨31, 0, .rw, 0x3d5ac96b, 0, [(1, 0x55555554), (0x55555556, 0xaaaaaaa9), (0xaaaaaaab, 0xfffffffe)]⟩]⟩,
  ⟨"TOK_SLOT_CFG", 0x8414, [], [⟨11, 0, .rw, 0xc8, 0, [(0x64, 0xfff)]⟩,
      ⟨27, 16, .rw, 0x4e2, 0, [(0x41a, 0xfff)]⟩]⟩,
  ⟨"TOK_DB_CFG", 0x8418, [], [⟨7, 0, .rw, 0, 0, []⟩,
      ⟨15, 8, .rw, 5, 0, [(2, 0xff)]⟩,
      ⟨23, 16, .rw, 0x10, 0, [(0xc, 0x40)]⟩]⟩,
  ⟨"TOK_STAT", 0x841c, [], [⟨0, 0, .ro, 0, 0, []⟩,
      ⟨3, 1, .ro, 0, 0, []⟩,
      ⟨5, 4, .ro, 0, 0, []⟩]⟩,
  ⟨"TOK_CNT_FRAME", 0x8420, [], [⟨31, 0, .ro, 0, 0, []⟩]⟩,
  ⟨"TOK_CNT_COLL", 0x8424, [], [⟨31, 0, .ro, 0, 0, []⟩]⟩,
  ⟨"TOK_CNT_STRAY", 0x8428, [], [⟨31, 0, .ro, 0, 0, []⟩]⟩,
  ⟨"TOK_CNT_MISSED", 0x842c, [], [⟨31, 0, .ro, 0, 0, []⟩]⟩,
  ⟨"TOK_CNT_DB_MISS", 0x8430, [], [⟨31, 0, .ro, 0, 0, []⟩]⟩,
  ⟨"LF_LIMIT", 0x8800, [], [⟨7, 0, .ro, 0, 0, []⟩,
      ⟨8, 8, .ro, 0, 0, []⟩]⟩,
  ⟨"LF_ACTIVE", 0x8804, [], [⟨7, 0, .ro, 0, 0, []⟩]⟩,
  ⟨"LF_CFG", 0x8840, [(0x20, 8)], [⟨0, 0, .rw, 0, 0, []⟩,
      ⟨1, 1, .rw, 0, 0, []⟩]⟩,
  ⟨"LF_DRV", 0x8844, [(0x20, 8)], [⟨7, 0, .rw, 0x32, 0, [(0xa, 0xc8)]⟩,
      ⟨15, 8, .rw, 0x64, 0, [(0xa, 0xc8)]⟩,
      ⟨19, 16, .rw, 4, 0, [(1, 0xf)]⟩,
      ⟨21, 20, .rw, 0, 0, []⟩]⟩,
  ⟨"LF_SNS", 0x8848, [(0x20, 8)], [⟨7, 0, .rw, 0x64, 0, [(0xa, 0xfa)]⟩,
      ⟨15, 8, .rw, 0xfa, 0, []⟩,
      ⟨23, 16, .rw, 0xa, 0, [(5, 0x64)]⟩]⟩,
  ⟨"LF_STAT", 0x884c, [(0x20, 8)], [⟨1, 0, .ro, 0, 0, []⟩,
      ⟨14, 8, .ro, 0, 0, []⟩]⟩,
  ⟨"LF_ERR", 0x8850, [(0x20, 8)], [⟨0, 0, .w1c, 0, 0, []⟩,
      ⟨1, 1, .w1c, 0, 0, []⟩,
      ⟨2, 2, .w1c, 0, 0, []⟩]⟩,
  ⟨"LF_MEAS", 0x8854, [(0x20, 8)], [⟨11, 0, .ro, 0, 0, []⟩,
      ⟨23, 16, .ro, 0, 0, []⟩]⟩]

/-- Register rows of the uhf chapter. -/
def uhfRegs : List RegSpec := [
  ⟨"UHF_CTL", 0x9000, [], [⟨1, 0, .rw, 0, 0, [(0, 2)]⟩,
      ⟨2, 2, .rw, 1, 0, []⟩,
      ⟨15, 8, .rw, 0, 0, []⟩,
      ⟨31, 31, .wo, 0, 0, []⟩]⟩,
  ⟨"UHF_TX_CFG", 0x9004, [], [⟨4, 0, .rw, 0x14, 0, [(0, 0x1e)]⟩]⟩,
  ⟨"UHF_SYNC", 0x9008, [], [⟨31, 0, .rw, 0x9b4f2d63, 0, [(1, 0x55555554), (0x55555556, 0xaaaaaaa9), (0xaaaaaaab, 0xfffffffe)]⟩]⟩,
  ⟨"UHF_CAL_CFG", 0x900c, [], [⟨7, 0, .rw, 0x3c, 0, []⟩,
      ⟨11, 8, .rw, 5, 0, []⟩]⟩,
  ⟨"UHF_STAT", 0x9010, [], [⟨2, 0, .ro, 0, 0, []⟩,
      ⟨3, 3, .ro, 0, 0, []⟩,
      ⟨5, 4, .ro, 0, 0, []⟩,
      ⟨6, 6, .ro, 0, 0, []⟩,
      ⟨7, 7, .ro, 0, 0, []⟩,
      ⟨15, 8, .ro, 0, 0, []⟩]⟩,
  ⟨"UHF_ERR", 0x9014, [], [⟨0, 0, .w1c, 0, 0, []⟩,
      ⟨1, 1, .w1c, 0, 0, []⟩,
      ⟨2, 2, .w1c, 0, 0, []⟩]⟩,
  ⟨"UHF_CAL_STAT", 0x9018, [], [⟨0, 0, .ro, 0, 0, []⟩,
      ⟨1, 1, .ro, 0, 0, []⟩,
      ⟨6, 2, .ro, 0, 0, []⟩]⟩,
  ⟨"UHF_DIV_STAT", 0x901c, [], [⟨0, 0, .ro, 0, 0, []⟩]⟩,
  ⟨"UHF_DIV_RSSI", 0x9020, [], [⟨15, 0, .ro, 0x8000, 0, []⟩,
      ⟨31, 16, .ro, 0x8000, 0, []⟩]⟩,
  ⟨"UHF_REG_REGION", 0x9040, [], [⟨3, 0, .ro, 0, 0, []⟩,
      ⟨4, 4, .ro, 0, 0, []⟩]⟩,
  ⟨"UHF_REG_F0", 0x9044, [], [⟨19, 0, .ro, 0, 0, []⟩]⟩,
  ⟨"UHF_REG_PLAN", 0x9048, [], [⟨7, 0, .ro, 0, 0, []⟩,
      ⟨16, 8, .ro, 0, 0, []⟩]⟩,
  ⟨"UHF_REG_SB", 0x9050, [(4, 8)], [⟨4, 0, .ro, 0, 0, []⟩,
      ⟨29, 16, .ro, 0, 0, []⟩]⟩,
  ⟨"UHF_DUTY_USED", 0x9070, [(4, 8)], [⟨21, 0, .ro, 0, 0, []⟩]⟩,
  ⟨"UHF_REG_CHMAP", 0x9100, [(4, 0x20)], [⟨31, 0, .ro, 0, 0, []⟩]⟩,
  ⟨"UHF_CNT_TX", 0x9180, [], [⟨31, 0, .ro, 0, 0, []⟩]⟩,
  ⟨"UHF_CNT_FRAME", 0x9184, [], [⟨31, 0, .ro, 0, 0, []⟩]⟩,
  ⟨"UHF_CNT_REG", 0x9188, [], [⟨31, 0, .ro, 0, 0, []⟩]⟩,
  ⟨"UHF_CNT_LATE", 0x918c, [], [⟨31, 0, .ro, 0, 0, []⟩]⟩,
  ⟨"UHF_CNT_CAL", 0x9190, [], [⟨31, 0, .ro, 0, 0, []⟩]⟩]

/-- Register rows of the key chapter. -/
def keyRegs : List RegSpec := [
  ⟨"KEY_CFG", 0xa000, [], [⟨3, 0, .rwl, 0, 0, []⟩,
      ⟨4, 4, .w1s, 0, 0, []⟩]⟩,
  ⟨"KEY_STAT", 0xa004, [], [⟨9, 0, .ro, 0, 0, []⟩,
      ⟨16, 16, .ro, 0, 0, []⟩,
      ⟨17, 17, .ro, 0, 0, []⟩]⟩,
  ⟨"KEY_ERR", 0xa008, [], [⟨0, 0, .w1c, 0, 0, []⟩,
      ⟨1, 1, .w1c, 0, 0, []⟩,
      ⟨2, 2, .w1c, 0, 0, []⟩]⟩,
  ⟨"KEY_SLOT_SEL", 0xa010, [], [⟨8, 0, .rw, 0, 0, []⟩]⟩,
  ⟨"KEY_SLOT_INFO", 0xa014, [], [⟨0, 0, .ro, 0, 0, []⟩,
      ⟨1, 1, .ro, 0, 0, []⟩,
      ⟨4, 2, .ro, 0, 0, []⟩,
      ⟨31, 16, .ro, 0, 0, []⟩]⟩,
  ⟨"KEY_TOK_SEL", 0xa018, [], [⟨9, 0, .rw, 0, 0, []⟩]⟩,
  ⟨"KEY_TOK_DATA", 0xa040, [(4, 0xc)], [⟨31, 0, .ro, 0, 0, []⟩]⟩,
  ⟨"KEY_CMD_PARAM", 0xa080, [(4, 0xc)], [⟨31, 0, .rw, 0, 0, []⟩]⟩,
  ⟨"KEY_CMD", 0xa0b0, [], [⟨7, 0, .wo, 0, 0, []⟩]⟩,
  ⟨"KEY_CMD_STAT", 0xa0b4, [], [⟨0, 0, .ro, 0, 0, []⟩,
      ⟨1, 1, .w1c, 0, 0, []⟩,
      ⟨15, 8, .ro, 0, 0, []⟩]⟩,
  ⟨"KEY_CNT_IMPORT", 0xa0c0, [], [⟨31, 0, .ro, 0, 0, []⟩]⟩,
  ⟨"KEY_CNT_ERASE", 0xa0c4, [], [⟨31, 0, .ro, 0, 0, []⟩]⟩,
  ⟨"KEY_CNT_UNWRAP_FAIL", 0xa0c8, [], [⟨31, 0, .ro, 0, 0, []⟩]⟩,
  ⟨"CPH_STAT", 0xa400, [], [⟨6, 0, .ro, 0, 0, []⟩,
      ⟨11, 8, .ro, 0, 0, []⟩,
      ⟨12, 12, .ro, 0, 0, []⟩]⟩,
  ⟨"CPH_CNT_BLOCKS", 0xa408, [], [⟨31, 0, .ro, 0, 0, []⟩]⟩,
  ⟨"CPH_CNT_REVOKED", 0xa40c, [], [⟨31, 0, .ro, 0, 0, []⟩]⟩,
  ⟨"CPH_RNG_CTL", 0xa440, [], [⟨0, 0, .wo, 0, 0, []⟩,
      ⟨1, 1, .rw, 0, 0, []⟩,
      ⟨31, 16, .rw, 0x400, 0, [(1, 0xffff)]⟩]⟩,
  ⟨"CPH_RNG_STAT", 0xa444, [], [⟨0, 0, .ro, 0, 0, []⟩,
      ⟨1, 1, .ro, 0, 0, []⟩,
      ⟨2, 2, .ro, 0, 0, []⟩,
      ⟨3, 3, .ro, 0, 0, []⟩,
      ⟨31, 16, .ro, 0, 0, []⟩]⟩,
  ⟨"CPH_RNG_CNT_GEN", 0xa448, [], [⟨31, 0, .ro, 0, 0, []⟩]⟩,
  ⟨"CPH_RNG_CNT_RESEED", 0xa44c, [], [⟨31, 0, .ro, 0, 0, []⟩]⟩]

/-- Register rows of the brd chapter. -/
def brdRegs : List RegSpec := [
  ⟨"BRD_CFG", 0xb000, [], [⟨15, 0, .rw, 0x1f4, 0, []⟩,
      ⟨22, 16, .rw, 0x10, 0, [(0, 0x40)]⟩]⟩,
  ⟨"BRD_CTL", 0xb004, [], [⟨0, 0, .wo, 0, 0, []⟩]⟩,
  ⟨"BRD_STAT", 0xb008, [], [⟨6, 0, .ro, 0x40, 0, []⟩,
      ⟨13, 8, .ro, 0, 0, []⟩,
      ⟨14, 14, .ro, 0, 0, []⟩,
      ⟨22, 16, .ro, 0, 0, []⟩,
      ⟨23, 23, .ro, 0, 0, []⟩,
      ⟨24, 24, .ro, 0, 0, []⟩]⟩,
  ⟨"BRD_ERR", 0xb00c, [], [⟨0, 0, .w1c, 0, 0, []⟩,
      ⟨1, 1, .w1c, 0, 0, []⟩,
      ⟨2, 2, .w1c, 0, 0, []⟩,
      ⟨3, 3, .w1c, 0, 0, []⟩]⟩,
  ⟨"BRD_TILE_SEL", 0xb010, [], [⟨5, 0, .rw, 0, 0, []⟩]⟩,
  ⟨"BRD_TILE_INFO", 0xb014, [], [⟨1, 0, .ro, 0, 0, []⟩,
      ⟨12, 2, .ro, 0, 0, []⟩,
      ⟨22, 13, .ro, 0, 0, []⟩]⟩,
  ⟨"BRD_TILE_CRC", 0xb018, [], [⟨31, 0, .ro, 0, 0, []⟩]⟩,
  ⟨"BRD_TILE_FIRST", 0xb01c, [], [⟨31, 0, .ro, 0, 0, []⟩]⟩,
  ⟨"BRD_TILE_LAST", 0xb020, [], [⟨31, 0, .ro, 0, 0, []⟩]⟩,
  ⟨"BRD_TILE_CTL", 0xb024, [], [⟨5, 0, .wo, 0, 0, []⟩,
      ⟨8, 8, .wo, 0, 0, []⟩]⟩,
  ⟨"BRD_PLAN_CTL", 0xb040, [], [⟨3, 0, .rw, 0, 0, []⟩,
      ⟨8, 8, .wo, 0, 0, []⟩,
      ⟨9, 9, .wo, 0, 0, []⟩]⟩,
  ⟨"BRD_PLAN_ADDR", 0xb044, [], [⟨11, 0, .rw, 0, 0, []⟩]⟩,
  ⟨"BRD_PLAN_DATA", 0xb048, [], [⟨31, 0, .rw, 0, 0, []⟩]⟩,
  ⟨"BRD_PLAN_CRC", 0xb04c, [], [⟨31, 0, .rw, 0, 0, []⟩]⟩,
  ⟨"BRD_PLAN_STAT", 0xb050, [], [⟨31, 0, .ro, 0, 0, []⟩]⟩,
  ⟨"BRD_UCODE", 0xb054, [], [⟨15, 0, .rwl, 0, 0, []⟩,
      ⟨16, 16, .w1s, 0, 0, []⟩]⟩,
  ⟨"BRD_CNT_FULL", 0xb080, [], [⟨31, 0, .ro, 0, 0, []⟩]⟩,
  ⟨"BRD_CNT_SEAL", 0xb084, [], [⟨31, 0, .ro, 0, 0, []⟩]⟩,
  ⟨"BRD_CNT_VERIFY", 0xb088, [], [⟨31, 0, .ro, 0, 0, []⟩]⟩,
  ⟨"FIFO_CFG", 0xb400, [(0x20, 0x19)], [⟨0, 0, .rw, 0, 0, []⟩]⟩,
  ⟨"FIFO_STAT", 0xb404, [(0x20, 0x19)], [⟨10, 0, .ro, 0, 0, []⟩,
      ⟨11, 11, .ro, 0, 0, []⟩,
      ⟨12, 12, .ro, 0, 0, []⟩,
      ⟨17, 13, .ro, 0, 0, []⟩,
      ⟨18, 18, .w1c, 0, 0, []⟩,
      ⟨19, 19, .ro, 0, 0, []⟩]⟩,
  ⟨"FIFO_CNT_CORR", 0xb408, [(0x20, 0x19)], [⟨31, 0, .ro, 0, 0, []⟩]⟩,
  ⟨"FIFO_CNT_UNCORR", 0xb40c, [(0x20, 0x19)], [⟨31, 0, .ro, 0, 0, []⟩]⟩,
  ⟨"FIFO_CNT_DROP", 0xb410, [(0x20, 0x19)], [⟨31, 0, .ro, 0, 0, []⟩]⟩]

/-- Register rows of the ring chapter. -/
def ringRegs : List RegSpec := [
  ⟨"RING_CFG", 0xc000, [], [⟨0, 0, .rw, 0, 0, []⟩,
      ⟨1, 1, .rw, 1, 0, []⟩,
      ⟨15, 8, .rw, 0xa, 0, [(1, 0x64)]⟩,
      ⟨19, 16, .rw, 8, 0, [(1, 0xf)]⟩,
      ⟨20, 20, .rw, 0, 0, []⟩]⟩,
  ⟨"RING_LAT_BUDGET", 0xc004, [], [⟨15, 0, .rw, 0x4e20, 0, []⟩]⟩,
  ⟨"RING_STAT", 0xc008, [], [⟨1, 0, .ro, 0, 0, []⟩,
      ⟨3, 2, .ro, 0, 0, []⟩,
      ⟨4, 4, .ro, 0, 0, []⟩,
      ⟨5, 5, .ro, 0, 0, []⟩,
      ⟨6, 6, .ro, 0, 0, []⟩,
      ⟨7, 7, .ro, 0, 0, []⟩,
      ⟨8, 8, .ro, 0, 0, []⟩,
      ⟨9, 9, .ro, 0, 0, []⟩,
      ⟨10, 10, .ro, 0, 0, []⟩,
      ⟨23, 16, .ro, 0, 0, []⟩,
      ⟨31, 24, .ro, 0, 0, []⟩]⟩,
  ⟨"RING_ERR", 0xc00c, [], [⟨0, 0, .w1c, 0, 0, []⟩,
      ⟨1, 1, .w1c, 0, 0, []⟩,
      ⟨2, 2, .w1c, 0, 0, []⟩,
      ⟨3, 3, .w1c, 0, 0, []⟩,
      ⟨4, 4, .w1c, 0, 0, []⟩]⟩,
  ⟨"RING_DUP", 0xc010, [], [⟨15, 0, .ro, 0, 0, []⟩]⟩,
  ⟨"RING_CABLE", 0xc014, [], [⟨15, 0, .ro, 0, 0, []⟩,
      ⟨31, 16, .ro, 0, 0, []⟩]⟩,
  ⟨"RING_LIST_SEL", 0xc020, [], [⟨7, 0, .rw, 0, 0, []⟩]⟩,
  ⟨"RING_LIST", 0xc024, [], [⟨15, 0, .ro, 0, 0, []⟩,
      ⟨23, 16, .ro, 0xff, 0, []⟩,
      ⟨31, 24, .ro, 0, 0, []⟩]⟩,
  ⟨"RING_CNT_FWD", 0xc040, [], [⟨31, 0, .ro, 0, 0, []⟩]⟩,
  ⟨"RING_CNT_CRC", 0xc044, [], [⟨31, 0, .ro, 0, 0, []⟩]⟩,
  ⟨"RING_CNT_LATDROP", 0xc048, [], [⟨31, 0, .ro, 0, 0, []⟩]⟩,
  ⟨"RING_CNT_TOKEN", 0xc04c, [], [⟨31, 0, .ro, 0, 0, []⟩]⟩,
  ⟨"RING_CNT_XOFF", 0xc050, [], [⟨31, 0, .ro, 0, 0, []⟩]⟩,
  ⟨"BEAM_CFG", 0xc800, [], [⟨1, 0, .rw, 2, 0, []⟩,
      ⟨2, 2, .rw, 1, 0, []⟩]⟩,
  ⟨"BEAM_ADDR", 0xc804, [], [⟨5, 0, .rw, 0, 0, []⟩,
      ⟨6, 6, .ro, 0, 0, []⟩]⟩,
  ⟨"BEAM_STAT", 0xc808, [], [⟨0, 0, .w1c, 0, 0, []⟩,
      ⟨1, 1, .w1c, 0, 0, []⟩,
      ⟨2, 2, .w1c, 0, 0, []⟩,
      ⟨3, 3, .w1c, 0, 0, []⟩,
      ⟨4, 4, .ro, 0, 0, []⟩,
      ⟨5, 5, .ro, 0, 0, []⟩,
      ⟨10, 8, .ro, 0, 0, []⟩]⟩,
  ⟨"BEAM_MAP_LO", 0xc80c, [], [⟨0, 0, .ro, 1, 0, []⟩,
      ⟨31, 1, .rw, 0, 0, []⟩]⟩,
  ⟨"BEAM_MAP_HI", 0xc810, [], [⟨31, 0, .rw, 0, 0, []⟩]⟩,
  ⟨"BEAM_TILE_REL", 0xc814, [], [⟨5, 0, .wo, 0, 0, []⟩,
      ⟨8, 8, .wo, 0, 0, []⟩]⟩,
  ⟨"BEAM_DSTAT", 0xc840, [(4, 0x18)], [⟨7, 0, .ro, 0, 0, []⟩,
      ⟨8, 8, .w1c, 0, 0, []⟩,
      ⟨11, 9, .ro, 0, 0, []⟩]⟩,
  ⟨"BEAM_CNT_FRAME", 0xc900, [], [⟨31, 0, .ro, 0, 0, []⟩]⟩,
  ⟨"BEAM_CNT_CRC", 0xc904, [], [⟨31, 0, .ro, 0, 0, []⟩]⟩,
  ⟨"BEAM_CNT_RETRY", 0xc908, [], [⟨31, 0, .ro, 0, 0, []⟩]⟩]

/-- Register rows of the tmr chapter. -/
def tmrRegs0 : List RegSpec := [
  ⟨"TMR_CTL", 0xd000, [(0x40, 0x10)], [⟨0, 0, .rw, 0, 0, []⟩,
      ⟨1, 1, .rw, 1, 0, []⟩,
      ⟨3, 2, .rw, 0, 0, [(0, 2)]⟩,
      ⟨7, 4, .rw, 0, 0, []⟩,
      ⟨13, 8, .rw, 0, 0, [(0, 8), (0x10, 0x38)]⟩,
      ⟨14, 14, .rw, 1, 0, []⟩,
      ⟨15, 15, .rw, 1, 0, []⟩,
      ⟨21, 16, .rw, 0, 0, [(0, 8), (0x10, 0x38)]⟩,
      ⟨23, 22, .rw, 0, 0, []⟩,
      ⟨24, 24, .rw, 0, 0, []⟩,
      ⟨25, 25, .rw, 0, 0, []⟩,
      ⟨26, 26, .rw, 0, 0, []⟩]⟩,
  ⟨"TMR_CMD", 0xd004, [(0x40, 0x10)], [⟨0, 0, .wo, 0, 0, []⟩,
      ⟨1, 1, .wo, 0, 0, []⟩,
      ⟨2, 2, .wo, 0, 0, []⟩,
      ⟨3, 3, .wo, 0, 0, []⟩]⟩,
  ⟨"TMR_STAT", 0xd008, [(0x40, 0x10)], [⟨0, 0, .ro, 0, 0, []⟩,
      ⟨1, 1, .w1c, 0, 0, []⟩,
      ⟨2, 2, .w1c, 0, 0, []⟩,
      ⟨3, 3, .w1c, 0, 0, []⟩,
      ⟨4, 4, .ro, 0, 0, []⟩,
      ⟨5, 5, .w1c, 0, 0, []⟩,
      ⟨6, 6, .w1c, 0, 0, []⟩,
      ⟨7, 7, .w1c, 0, 0, []⟩,
      ⟨8, 8, .ro, 0, 0, []⟩,
      ⟨9, 9, .ro, 0, 0, []⟩]⟩,
  ⟨"TMR_CNT_LO", 0xd010, [(0x40, 0x10)], [⟨31, 0, .rw, 0, 0, []⟩]⟩,
  ⟨"TMR_CNT_HI", 0xd014, [(0x40, 0x10)], [⟨31, 0, .rw, 0, 0, []⟩]⟩,
  ⟨"TMR_PER_LO", 0xd018, [(0x40, 0x10)], [⟨31, 0, .rw, 0xffffffff, 0, []⟩]⟩,
  ⟨"TMR_PER_HI", 0xd01c, [(0x40, 0x10)], [⟨31, 0, .rw, 0xffffffff, 0, []⟩]⟩,
  ⟨"TMR_CAPT_LO", 0xd020, [(0x40, 0x10)], [⟨31, 0, .ro, 0, 0, []⟩]⟩,
  ⟨"TMR_CAPT_HI", 0xd024, [(0x40, 0x10)], [⟨31, 0, .ro, 0, 0, []⟩]⟩,
  ⟨"CRC_CFG", 0xd800, [(0x40, 4)], [⟨6, 0, .rw, 0, 0, [(0, 0x17), (0x20, 0x37), (0x40, 0x41), (0x48, 0x49), (0x50, 0x53)]⟩,
      ⟨9, 8, .rw, 3, 0, []⟩,
      ⟨10, 10, .rw, 0, 0, []⟩,
      ⟨11, 11, .rw, 0, 0, []⟩,
      ⟨12, 12, .rw, 0, 0, []⟩]⟩,
  ⟨"CRC_SEED", 0xd804, [(0x40, 4)], [⟨31, 0, .rw, 0, 0, []⟩]⟩,
  ⟨"CRC_MATCH", 0xd808, [(0x40, 4)], [⟨31, 0, .rw, 0, 0, []⟩]⟩,
  ⟨"CRC_CTL", 0xd80c, [(0x40, 4)], [⟨0, 0, .wo, 0, 0, []⟩,
      ⟨1, 1, .wo, 0, 0, []⟩]⟩,
  ⟨"CRC_STAT", 0xd810, [(0x40, 4)], [⟨0, 0, .ro, 0, 0, []⟩,
      ⟨1, 1, .w1c, 0, 0, []⟩,
      ⟨2, 2, .w1c, 0, 0, []⟩]⟩,
  ⟨"CRC_RESULT", 0xd814, [(0x40, 4)], [⟨31, 0, .ro, 0, 0, []⟩]⟩,
  ⟨"CRC_BYTES", 0xd818, [(0x40, 4)], [⟨31, 0, .ro, 0, 0, []⟩]⟩,
  ⟨"CRC_FCNT", 0xd81c, [(0x40, 4)], [⟨31, 0, .ro, 0, 0, []⟩]⟩,
  ⟨"CRC_MCNT", 0xd820, [(0x40, 4)], [⟨31, 0, .ro, 0, 0, []⟩]⟩,
  ⟨"SPI_STAT", 0xe000, [], [⟨0, 0, .ro, 0, 0, []⟩,
      ⟨2, 1, .ro, 0, 0, []⟩,
      ⟨4, 3, .ro, 0, 0, []⟩]⟩,
  ⟨"SPI_CS_CFG", 0xe010, [(8, 4)], [⟨7, 0, .rw, 0xc, 0, [(2, 0x80)]⟩,
      ⟨8, 8, .rw, 0, 0, []⟩,
      ⟨9, 9, .rw, 0, 0, []⟩]⟩,
  ⟨"SPI_CS_TIM", 0xe014, [(8, 4)], [⟨7, 0, .rw, 2, 0, [(1, 0xff)]⟩,
      ⟨15, 8, .rw, 2, 0, [(1, 0xff)]⟩,
      ⟨23, 16, .rw, 4, 0, [(1, 0xff)]⟩]⟩,
  ⟨"SPI_CNT_FRAME", 0xe040, [], [⟨31, 0, .ro, 0, 0, []⟩]⟩,
  ⟨"SPI_CNT_RETRY", 0xe044, [], [⟨31, 0, .ro, 0, 0, []⟩]⟩,
  ⟨"GPIO_DIR", 0xe800, [], [⟨15, 0, .rw, 0, 0, []⟩]⟩]

/-- Register rows of the tmr chapter. -/
def tmrRegs1 : List RegSpec := [
  ⟨"GPIO_OUT", 0xe804, [], [⟨15, 0, .rw, 0, 0, []⟩]⟩,
  ⟨"GPIO_IN", 0xe808, [], [⟨15, 0, .ro, 0, 0, []⟩]⟩,
  ⟨"GPIO_EVT_EN", 0xe80c, [], [⟨15, 0, .rw, 0, 0, []⟩]⟩]

/-- All register rows of the tmr chapter. -/
def tmrRegs : List RegSpec := tmrRegs0 ++ tmrRegs1

/-- Register rows of the dbg chapter. -/
def dbgRegs : List RegSpec := [
  ⟨"BIST_CTL", 0xf000, [], [⟨0, 0, .wo, 0, 0, []⟩,
      ⟨1, 1, .wo, 0, 0, []⟩]⟩,
  ⟨"BIST_SEL", 0xf004, [], [⟨15, 0, .rw, 0, 0, []⟩,
      ⟨23, 16, .rw, 0, 0, []⟩]⟩,
  ⟨"BIST_STAT", 0xf008, [], [⟨0, 0, .ro, 0, 0, []⟩,
      ⟨1, 1, .ro, 0, 0, []⟩,
      ⟨2, 2, .w1c, 0, 0, []⟩,
      ⟨4, 3, .ro, 0, 0, []⟩,
      ⟨5, 5, .ro, 0, 0, []⟩]⟩,
  ⟨"BIST_PASS", 0xf00c, [], [⟨15, 0, .ro, 0, 0, []⟩,
      ⟨23, 16, .ro, 0, 0, []⟩]⟩,
  ⟨"BIST_NOEXP", 0xf010, [], [⟨15, 0, .ro, 0, 0, []⟩,
      ⟨23, 16, .ro, 0, 0, []⟩]⟩,
  ⟨"BIST_MISR_LO", 0xf048, [(8, 9)], [⟨31, 0, .ro, 0, 0, []⟩]⟩,
  ⟨"BIST_MISR_HI", 0xf04c, [(8, 9)], [⟨31, 0, .ro, 0, 0, []⟩]⟩,
  ⟨"BIST_MSIG", 0xf0a0, [(4, 8)], [⟨31, 0, .ro, 0, 0, []⟩]⟩,
  ⟨"DBG_CTL", 0xf800, [], [⟨0, 0, .wo, 0, 0, []⟩,
      ⟨1, 1, .wo, 0, 0, []⟩,
      ⟨2, 2, .wo, 0, 0, []⟩]⟩,
  ⟨"DBG_STAT", 0xf804, [], [⟨0, 0, .ro, 0, 0, []⟩,
      ⟨1, 1, .ro, 0, 0, []⟩,
      ⟨3, 2, .ro, 0, 0, []⟩,
      ⟨4, 4, .ro, 0, 0, []⟩]⟩,
  ⟨"DBG_BP", 0xf808, [], [⟨9, 0, .rw, 0, 0, []⟩,
      ⟨14, 10, .rw, 0, 0, [(0, 0x17)]⟩,
      ⟨15, 15, .rw, 0, 0, []⟩]⟩]

/-- Every register of the device. -/
def regMap : List RegSpec :=
  sysRegs ++ hostRegs ++ pwrRegs ++ rodRegs ++ invRegs ++ fldRegs ++ tlyRegs ++ accRegs ++ lorleRegs ++ uhfRegs ++ keyRegs ++ brdRegs ++ ringRegs ++ tmrRegs ++ dbgRegs

end Sys2Proof.Machine
end

