-- ==== Sys2Proof/Machine/RngCmds.lean ====
section
/-! DEFINITION. The random bit generator and its commands (spec/10_key_store_and_cipher.md, R457 to R461). -/

namespace Sys2Proof.Machine
open Sys2Proof

/-- Change the generator. -/
def State.modRng (s : State) (f : RngPart → RngPart) : State := { s with rng := f s.rng }



/-- The first dispatched request with an opcode that the generator has not taken yet. -/
def State.rngTake? (s : State) (op : Nat) : Option Txn :=
  s.txns.find? (fun t => t.unit == unitCph && t.op == op && t.isQueued)

/-- LEN of a RANDOM (R461). -/
def Txn.randomLen (t : Txn) : Nat := descField t.desc 16 2
/-- DST of a RANDOM; 0: a record. -/
def Txn.randomDst (t : Txn) : Nat := descField t.desc 24 8

/-- The generator takes a request into its order, or it fails after a failed health test (R460, R461). -/
def State.rngWait (s : State) (t : Txn) : State :=
  if s.flag F.CPH_RNG_STAT_FAIL then (s.modRng (fun g => { g with queue := g.queue.filter (· != t.id) })).endCipher t.id .timeout
  else s.run t.id

/-- RANDOM (R461). -/
def execRandom (s : State) : Out := .next (onSome (s.rngTake? 2) (fun (t : Txn) (s : State) => s.rngWait t) s)

/-- RESEED (R461). -/
def execReseed (s : State) : Out := .next (onSome (s.rngTake? 3) (fun (t : Txn) (s : State) => s.rngWait t) s)

/-- The generator reseeds (R458). -/
def State.rngReseed (s : State) (entropy : List Byte) : State :=
  let x := drbgReseed ((padTo 64 entropy).take 64) (s.rng.key, s.rng.v)
  ((s.modRng (fun g => { g with key := x.1, v := x.2 })).count F.CPH_RNG_CNT_RESEED_COUNT).wr F.CPH_RNG_STAT_SINCE 0 0

/-- A generate request (R458): the bytes, after a reseed when one is required. -/
def State.rngBytes (s : State) (n : Nat) (entropy : List Byte) : State × List Byte :=
  let due := s.flag F.CPH_RNG_CTL_PR || decide (s.rd F.CPH_RNG_CTL_RESEED_INT ≤ s.rd F.CPH_RNG_STAT_SINCE)
  let s1 := if due then s.rngReseed entropy else s
  let x := drbgGenerate n (s1.rng.key, s1.rng.v)
  (((s1.modRng (fun g => { g with key := x.2.1, v := x.2.2 })).count F.CPH_RNG_CNT_GEN_COUNT).countSat F.CPH_RNG_STAT_SINCE, x.1)

/-- The access sequencer gets the bytes that it waits for (R358). DEDUCED (log entry 43). -/
def State.accDrawn (s : State) (r : AccRun) (range : Bool) (bytes : List Byte) : State :=
  match r.path with
  | some p =>
    if range then s.toJudge { r with path := some { p with challenge := bytes } } .drawn
    else
      let tp := p.cand.frame.tp
      s.askFrame { r with path := some { p with nonce := bytes } }
        ⟨.challenge, pathChan r p, p.cand.tidx, tp, !tp, bytes⟩
  | none => s

/-- The head of the generator's queue is served (R461). -/
def State.rngServe (s : State) (t : Txn) (entropy : List Byte) : State :=
  let s0 := s.modRng (fun g => { g with queue := g.queue.filter (· != t.id) })
  if t.op = 3 then (s0.rngReseed entropy).endCipher t.id .ok
  else
    match s0.rngBytes t.randomLen entropy with
    | (s1, b) =>
      let s2 := if t.randomDst = 0 then s1.emitAcc .random .ok unitCph t s.sys.timebase b else s1.bufWrite t.randomDst b
      s2.endCipher t.id .ok

/-- The head of the generator's queue is to be served (R102, R459): it has been taken, and its output can be written. -/
def State.rngHead? (s : State) : Option Txn :=
  match s.rng.queue with
  | id :: _ => (s.txn? id).filter (fun t => t.isRunning && (t.op != 2 || t.randomDst == 0 || s.mayDma))
  | [] => none

/-- RNG_GENERATE (R457, R459): a draw of the access sequencer first, then the host requests in order. `entropy`: the 512 raw
bits that a reseed takes. -/
def execRngGenerate (entropy : List Byte) (s : State) : Out :=
  .next (
    if !s.isOn .crypto || !s.flag F.CPH_RNG_STAT_READY then s
    else
      let host := fun (s : State) => onSome s.rngHead? (fun (t : Txn) (s : State) => s.rngServe t entropy) s
      match s.acc.run with
      | some r =>
        match r.stage with
        | .draw n range => let x := s.rngBytes n entropy; x.1.accDrawn r range x.2
        | _ => host s
      | none => host s)

/-- The generator fails a health test (R460): its state is zeroed, READY clears, every waiting request completes TIMEOUT and
a draw of the access sequencer fails. -/
def State.rngFail (s : State) (rct apt : Bool) : State :=
  let s1 := (s.setF F.CPH_RNG_STAT_FAIL).wr F.CPH_RNG_STAT_READY 0 0
  let s2 := if rct then s1.setF F.CPH_RNG_STAT_RCT else s1
  let s3 := if apt then s2.setF F.CPH_RNG_STAT_APT else s2
  let s4 := forAll s.rng.queue (fun (id : Nat) (s : State) => s.endCipher id .timeout) (s3.modRng (fun _ => RngPart.reset))
  match s4.acc.run with
  | some r => (match r.stage with | .draw _ _ => s4.drawFails r | _ => s4)
  | none => s4

/-- The repetition count test (R457): some 41 consecutive raw bits are identical. `last`, `run`: the bit before and the
length of its run so far. -/
def rctFails : Option Bool → Nat → List Bool → Bool
  | _, _, [] => false
  | last, run, b :: t =>
    let k := if last = some b then run + 1 else 1
    decide (41 ≤ k) || rctFails (some b) k t

/-- The adaptive proportion test on a window of raw bits (R457): its first bit stands in it 794 times or more.
DEDUCED (log entry 82). -/
def aptFails (window : List Bool) : Bool :=
  match window.take 1024 with
  | b :: t => decide (794 ≤ (b :: t).countP (· == b))
  | [] => false

/-- RNG_READY (R457, R458): the start-up test runs over `startup`, the first 1,024 raw bits; after it has passed, the generator
is instantiated with the next 768 raw bits, 512 of entropy input and 256 of nonce, and the device serial. -/
def execRngReady (startup : List Bool) (raw : List Byte) (s : State) : Out :=
  .next (
    if !s.isOn .crypto || s.flag F.CPH_RNG_STAT_READY || s.flag F.CPH_RNG_STAT_FAIL then s
    else if rctFails none 0 startup || aptFails startup then s.rngFail (rctFails none 0 startup) (aptFails startup)
    else
      let x := drbgInit ((padTo 64 raw).take 64) ((padTo 32 (raw.drop 64)).take 32) (leBytes 8 s.otp.serial.toNat)
      ((s.modRng (fun g => { g with key := x.1, v := x.2 })).setF F.CPH_RNG_STAT_READY).wr F.CPH_RNG_STAT_SINCE 0 0)

/-- RNG_HEALTH_FAIL (R457, R460): the tests that run continuously are made on the raw bits since the last RNG command, `run`,
and on the window of 1,024 that has ended, `window`; when either fails, so does the generator. -/
def execRngHealthFail (run window : List Bool) (s : State) : Out :=
  .next (
    if s.isOn .crypto && (rctFails none 0 run || aptFails window) then s.rngFail (rctFails none 0 run) (aptFails window)
    else s)

/-- Write of CPH_RNG_CTL (R9, R11, R460). DESIGN CHOICE (log entry 45). -/
def writeRngCtl (w : Word) (s : State) : State :=
  let v := w.toNat
  let s1 := s.wr F.CPH_RNG_CTL_PR 0 (bits v 1 1)
  let s2 := if bits v 31 16 = 0 then s1 else s1.wr F.CPH_RNG_CTL_RESEED_INT 0 (bits v 31 16)
  if bit v 0 then s2.wr F.CPH_RNG_STAT_FAIL 0 0 else s2

/-- RNG_RESTART (R460). -/
def execRngRestart (w : Word) (s : State) : Out := .next (if bit w.toNat 0 then s.hostWrite 0xA440 (writeRngCtl w) else s)

end Sys2Proof.Machine
end

