-- ==== Sys2Proof/Machine/WakeOps.lean ====
section
/-! DEFINITION. Needs of domains and latching of wakes (spec/14_power_clocks_reset.md, R582, R594, R595). -/

namespace Sys2Proof.Machine
open Sys2Proof

/-- Domains that a domain needs directly (R582). -/
def Domain.needs : Domain → List Domain
  | .aon => []
  | .core => [.board]
  | .board => [.core]
  | .crypto => [.core, .board, .keys]
  | .hfa => [.core, .board, .plan]
  | .hfb => [.core, .board, .plan]
  | _ => [.core, .board]

/-- A list of domains with every need of them (R582, R583, R595). -/
def withNeeds (l : List Domain) : List Domain :=
  Domain.all.filter (fun d => l.contains d || l.any (fun e => e.needs.contains d))

/-- MAP register of a wake source (R594). -/
def wakeMap (src : Nat) : Fld :=
  [F.PWR_WAKE_MAP1_MAP, F.PWR_WAKE_MAP2_MAP, F.PWR_WAKE_MAP3_MAP, F.PWR_WAKE_MAP4_MAP, F.PWR_WAKE_MAP5_MAP,
    F.PWR_WAKE_MAP6_MAP, F.PWR_WAKE_MAP7_MAP].getD (src - 1) F.PWR_WAKE_MAP1_MAP

/-- Domains that a source names directly: its map, and for TALLY the banks (R594, R598). In SATELLITE role HOST stays OFF
(R4, R54). -/
def State.namedBy (s : State) (src : Nat) : List Domain :=
  Domain.all.filter (fun d =>
    (d != .aon && !(d == .host && s.sys.role == .satellite) && bit (2 * s.rd (wakeMap src)) d.num.val) || (src == 1 && s.pwr.tallyBanks.contains d))

/-- A source is latched (R594). -/
def State.latched (s : State) (src : Nat) : Bool := bit (2 * s.rd F.PWR_WAKE_LATCH_LATCHED) src

/-- Latched sources. -/
def State.latchedSources (s : State) : List Nat := (List.range 8).filter (fun i => 1 ≤ i && s.latched i)

/-- Domains of the latched wakes, needs included (R595). -/
def State.wakeDomains (s : State) : List Domain := withNeeds ((s.latchedSources.map s.namedBy).flatten)

/-- A request, a wake or a self-test run is in progress (R586, R620). -/
def State.pwrBusy (s : State) : Bool := s.pwr.run.isSome || s.test.bist.isSome

/-- A wake source fires: it latches while its enable is set (R594); a wake latched while a request or wake is in progress
will run as a replay (R595). -/
def State.fireWake (s : State) (src : Nat) (banks : List Domain) : State :=
  if bit (2 * s.rd F.PWR_WAKE_EN_EN) src then
    let v := s.rd F.PWR_WAKE_LATCH_LATCHED
    let s1 := s.wr F.PWR_WAKE_LATCH_LATCHED 0 (v ||| 2 ^ (src - 1))
    let s2 := { s1 with pwr := { s1.pwr with tallyBanks := banks ++ s1.pwr.tallyBanks } }
    if s.pwrBusy then { s2 with pwr := { s2.pwr with replay := true } } else s2
  else s

/-- A request to bring the domain ON is in progress (R275). -/
def State.comingOn (s : State) (d : Domain) : Bool :=
  s.wakeDomains.contains d || (match s.pwr.run with | some r => r.up.contains d || r.pos.contains d | none => false)

end Sys2Proof.Machine
end

