-- ==== Sys2Proof/Machine/TallyCmds.lean ====
section
/-! DEFINITION. Commands of the tally engine (spec/06_tally_scan.md). -/

namespace Sys2Proof.Machine
open Sys2Proof

/-- Change the tally engine. -/
def State.modTally (s : State) (f : TallyPart → TallyPart) : State := { s with tally := f s.tally }

/-- Rod `n` is rearmed (R289, R290). -/
def State.rearm (s : State) (n : Nat) : State :=
  let v := s.rd F.TLY_DISARM_DISARM
  s.wr F.TLY_DISARM_DISARM 0 (if bit v n then v - 2 ^ n else v)

/-- A cleared TLY_EN bit: count 0, rearmed, baseline kept (R290). -/
def State.tallyDisable (s : State) (n : Nat) : State :=
  (s.modTally (fun t => { t with counts := vset t.counts (ix 23 n) 0 })).rearm n

/-- A write of TLY_BASE: both integer parts and VALID, fractions 0; VALID = 0 rearms the rod (R282, R289). -/
def State.tallyBase (s : State) (n v : Nat) : State :=
  let s1 := ((s.wr F.TLY_BASE_AMP n (bits v 11 0)).wr F.TLY_BASE_VALID n (bits v 15 15)).wr F.TLY_BASE_PH n (bits v 25 16)
  let s2 := s1.modTally (fun t => { t with fracA := vset t.fracA (ix 23 n) 0, fracP := vset t.fracP (ix 23 n) 0 })
  if bit v 15 then s2 else s2.rearm n



/-- Writes of TLY_BASE and cleared TLY_EN bits of a sequence act, oldest first. -/
def State.tallyPending (s : State) : State :=
  let l := s.tally.pend
  forAll l (fun (p : Nat × Option Nat) (s : State) =>
    match p.2 with
    | some b => s.tallyBase p.1 b
    | none => s.tallyDisable p.1) (s.modTally (fun t => { t with pend := [] }))

/-- A write of TLY_BASE, or a cleared TLY_EN bit: it waits for the next scan instant while a sequence runs (R279, R283);
without one it acts at once, after those that still wait. -/
def State.tallyLater (s : State) (n : Nat) (v : Option Nat) : State :=
  let s1 := s.modTally (fun t => { t with pend := t.pend ++ [(n, v)] })
  if s.tally.seq.isSome then s1 else s1.tallyPending

/-- The scan sequence ends: the oscillator stops (R278). -/
def State.tallyIdle (s : State) : State :=
  ((s.modTally (fun t => { t with seq := none })).wr F.TLY_STAT_SCANNING 0 0).wr F.TLY_STAT_SLOT_ROD 0 0x1F

/-- Effect of a write to TLY_CTL (R277, R290): 0 ends the sequence at the end of the present slot. -/
def State.writeTallyCtl (s : State) (w : Word) : State :=
  let s1 := s.wr F.TLY_CTL_RUN 0 (bits w.toNat 0 0)
  if bit w.toNat 0 then s1
  else s1.modTally (fun t => { t with seq := t.seq.map (fun q => { q with last := true }) })

/-- TALLY_RUN_WRITE (R277, R290). -/
def execTallyRunWrite (w : Word) (s : State) : Out := .next (s.hostWrite 0x5F00 (fun s => s.writeTallyCtl w))

/-- Effect of a write to TLY_EN (R279, R290). -/
def State.writeTallyEn (s : State) (w : Word) : State :=
  let old := s.rd F.TLY_EN_EN
  forAll ((List.range 24).filter (fun n => bit old n && !bit w.toNat n)) (fun (n : Nat) (s : State) => s.tallyLater n none)
    (s.wr F.TLY_EN_EN 0 (bits w.toNat 23 0))

/-- TALLY_EN_WRITE (R290). -/
def execTallyEnWrite (w : Word) (s : State) : Out := .next (s.hostWrite 0x5F08 (fun s => s.writeTallyEn w))

/-- TALLY_BASE_WRITE (R282). -/
def execTallyBaseWrite (n : Fin 24) (w : Word) (s : State) : Out :=
  .next (s.hostWrite (0x5F40 + 4 * n.val) (fun s => s.tallyLater n.val (some w.toNat)))

/-- The bank of rod `n` sleeps and nothing brings it ON (R275). -/
def State.bankAsleep (s : State) (n : Nat) : Bool :=
  let st := vget s.pwr.st (bankOf n).num
  (st == .off || st == .ret) && !s.comingOn (bankOf n)

/-- A scan instant is skipped (R276). -/
def State.scanSkipped (s : State) : Bool :=
  s.field.shutdown
    || (s.flag F.TLY_CFG_XGUARD
        && (s.surveyBusy || allRods.any (fun n =>
              let c := (s.rod n).carrier
              c == .on || c == .rampUp || c == .rampDown)))

/-- SCAN_INSTANT (R275 to R279). With no eligible rod the instant is counted and no sequence begins; SLOT_ROD shows the first
rod while the oscillator starts. DESIGN CHOICE (log entry 88). -/
def execScanInstant (s : State) : Out :=
  .next (
    if s.flag F.TLY_CTL_RUN && s.tally.seq.isNone then
      let s1 := s.tallyPending
      if s1.scanSkipped then s1.count F.TLY_CNT_SKIP_COUNT
      else
        let rods := (List.range 24).filter (fun n => bit (s1.rd F.TLY_EN_EN) n && s1.bankAsleep n)
        let s2 := s1.count F.TLY_CNT_SCAN_COUNT
        if rods.isEmpty then s2
        else
          let q : TallySeq := ⟨rods, false, false, s2.rd F.TLY_CFG_CONFIRM, s2.rd F.TLY_CFG_TRACK, s2.flag F.TLY_CFG_REARM,
            s2.rd F.TLY_TH_AMP_TH, s2.rd F.TLY_TH_PH_TH, s2.rd F.TLY_CFG_LEVEL⟩
          ((s2.modTally (fun t => { t with seq := some q })).setF F.TLY_STAT_SCANNING).wr F.TLY_STAT_SLOT_ROD 0
            (rods.headD 0x1F)
    else s)

/-- TALLY_BURST (R274, R278, R279): the burst of the present slot, left out for a rod whose bank no longer sleeps. -/
def execTallyBurst (s : State) : Out :=
  .next (
    match s.tally.seq with
    | some q =>
      match q.rods with
      | n :: _ =>
        if s.bankAsleep n then
          (s.modTally (fun t => { t with seq := some { q with burst := true } })).emitOut (.tallyBurst n q.level)
        else s
      | [] => s
    | none => s)

/-- A phase difference brought into −512·u to 512·u − 1, in units of 1/u of 1/1024 cycle (R280, R284). -/
def wrapPhase (u d : Int) : Int := (d + 512 * u) % (1024 * u) - 512 * u

/-- A difference cut toward zero after division by 2^t (R284). -/
def truncStep (d : Int) (t : Nat) : Int := Int.tdiv d (2 ^ t)

/-- The baseline moves toward the sample (R284). Values in 1/256. -/
def State.trackBase (s : State) (n t amp ph : Nat) : State :=
  let i := ix 23 n
  let bA : Int := 256 * s.rd F.TLY_BASE_AMP n + vget s.tally.fracA i
  let bP : Int := 256 * s.rd F.TLY_BASE_PH n + vget s.tally.fracP i
  let a := (bA + truncStep (256 * amp - bA) t).toNat
  let p := ((bP + truncStep (wrapPhase 256 (256 * ph - bP)) t) % (1024 * 256)).toNat
  ((s.wr F.TLY_BASE_AMP n (a / 256)).wr F.TLY_BASE_PH n (p / 256)).modTally (fun x =>
    { x with fracA := vset x.fracA i (a % 256), fracP := vset x.fracP i (p % 256) })

/-- Write TLY_LAST of a rod (R280, R292). -/
def State.tallyLast (s : State) (n amp ph cnt : Nat) (above : Bool) : State :=
  (((s.wr F.TLY_LAST_AMP n amp).wr F.TLY_LAST_PH n ph).wr F.TLY_LAST_CNT n cnt).wr F.TLY_LAST_OVER n (b2n above)

/-- Set the consecutive count of a rod. -/
def State.setTallyCount (s : State) (n k : Nat) : State :=
  s.modTally (fun t => { t with counts := vset t.counts (ix 23 n) k })

/-- A confirmed detection (R286 to R289): a bit of TLY_WAKE whose event is still to come keeps its confirming sample.
DEDUCED (log entry 67). -/
def State.tallyConfirm (s : State) (q : TallySeq) (n : Nat) (dA dP : Int) : State :=
  let w := s.rd F.TLY_WAKE_WAKE
  let s1 := s.wr F.TLY_WAKE_WAKE 0 (w ||| 2 ^ n)
  let s2 := (s1.setTallyCount n 0).modTally (fun t => { t with
    hits := (if bit w n && t.hits.any (fun h => h.rod == n) then t.hits
      else t.hits.filter (fun h => h.rod != n) ++ [⟨n, dA, dP, q.confirm + 1⟩]) })
  let s3 := if q.rearm then s2.wr F.TLY_DISARM_DISARM 0 (s2.rd F.TLY_DISARM_DISARM ||| 2 ^ n) else s2
  s3.fireWake 1 [bankOf n]

/-- Evaluation of a sample (R280 to R289). -/
def State.tallyEval (s : State) (q : TallySeq) (n amp ph : Nat) : State :=
  if !s.flag F.TLY_BASE_VALID n then
    let s1 := (((s.wr F.TLY_BASE_AMP n amp).wr F.TLY_BASE_PH n ph).setF F.TLY_BASE_VALID n).modTally (fun t =>
      { t with fracA := vset t.fracA (ix 23 n) 0, fracP := vset t.fracP (ix 23 n) 0 })
    (s1.setTallyCount n 0).tallyLast n amp ph 0 false
  else
    let dA : Int := (amp : Int) - s.rd F.TLY_BASE_AMP n
    let dP := wrapPhase 1 ((ph : Int) - s.rd F.TLY_BASE_PH n)
    let above := (q.ampTh != 0 && decide (q.ampTh < dA.natAbs)) || (q.phTh != 0 && decide (q.phTh < dP.natAbs))
    let disarmed := bit (s.rd F.TLY_DISARM_DISARM) n
    if above then
      if disarmed then (s.setTallyCount n 0).tallyLast n amp ph 0 true
      else
        let c := vget s.tally.counts (ix 23 n) + 1
        let s1 := (s.setTallyCount n c).tallyLast n amp ph c true
        if q.confirm + 1 ≤ c then s1.tallyConfirm q n dA dP else s1
    else
      let s1 := ((s.setTallyCount n 0).tallyLast n amp ph 0 false).rearm n
      if q.track = 0 then s1 else s1.trackBase n q.track amp ph

/-- TALLY_EVALUATE (R278 to R280): the sample of the present slot; the next slot begins, or the sequence ends. -/
def execTallyEvaluate (amp ph : Nat) (s : State) : Out :=
  .next (
    match s.tally.seq with
    | some q =>
      match q.rods with
      | n :: rest =>
        let s1 := if q.burst then s.tallyEval q n (amp % 4096) (ph % 1024) else s
        if rest.isEmpty || q.last then s1.tallyIdle
        else
          (s1.modTally (fun t => { t with seq := some { q with rods := rest, burst := false } })).wr F.TLY_STAT_SLOT_ROD 0
            (rest.headD 0x1F)
      | [] => s.tallyIdle
    | none => s)

/-- Insert a detection by rod number (R287). -/
def insHit (h : TallyHit) : List TallyHit → List TallyHit
  | [] => [h]
  | k :: t => if h.rod < k.rod then h :: k :: t else k :: insHit h t

/-- TALLY_WAKE_EVENT (R287): once CORE is ON, one event for each bit set in TLY_WAKE whose event is still to come, in
ascending rod number. -/
def execTallyWakeEvent (s : State) : Out :=
  .next (
    if s.isOn .core then
      let hits := (s.tally.hits.filter (fun h => bit (s.rd F.TLY_WAKE_WAKE) h.rod)).foldl (fun acc h => insHit h acc) []
      forAll hits (fun (h : TallyHit) (s : State) =>
        s.raise .tallyWake h.rod (leBytes 2 (ofSigned 16 h.dA) ++ leBytes 2 (ofSigned 16 h.dP) ++ leBytes 1 h.count))
        (s.modTally (fun t => { t with hits := [] }))
    else s)

end Sys2Proof.Machine
end

