-- ==== Sys2Proof/Machine/RodCmds.lean ====
section
/-! DEFINITION. Commands of the rods: descriptors, carrier, power, air exchanges (spec/03_rods.md). -/

namespace Sys2Proof.Machine
open Sys2Proof

/-! ### Order of transactions on a rod (R141 to R143) -/

/-- The first waiting transaction of the rod that sends a frame or moves the carrier, when it may run now (R141 to R143):
no other runs; with a plan it waits for a unit boundary or a WAIT (R142, R216), and one dispatched before the invocation
started waits for its end; without a plan it follows a RUN_PLAN dispatched before it, and a RUN_PLAN follows every
transaction dispatched before it, a STOP_PLAN too. -/
def State.rodNext? (s : State) (n : Fin 24) : Option Txn :=
  match s.rodBusy? n with
  | some _ => none
  | none =>
    match s.plan? n with
    | some p =>
      if p.atBoundary || (match p.stage with | .waiting _ => true | .ending _ => true | _ => false) then
        match s.txns.find? (fun t => t.unit == n.val && t.isQueued && t.op != 5 && t.op != 6) with
        | some t => if p.behind.contains t.id then none else some t
        | none => none
      else none
    | none =>
      (s.txns.find? (fun t => t.unit == n.val && t.isQueued && t.op != 6)).filter (fun t => t.op != 5 ||
        !s.txns.any (fun u => u.unit == n.val && u.op == 6 && (u.isQueued || u.isRunning) && decide (u.id < t.id)))

/-- The next transaction of the rod when it has the given opcode. -/
def State.rodTake? (s : State) (n : Fin 24) (op : Nat) : Option Txn :=
  match s.rodNext? n with
  | some t => if t.op == op then some t else none
  | none => none

/-- The transaction carried out when it has the given opcode. -/
def State.rodRuns? (s : State) (n : Fin 24) (op : Nat) : Option Txn :=
  match s.rodBusy? n with
  | some t => if t.op == op then some t else none
  | none => none

/-- A dispatched transaction other than `id`, or a plan, stands on the rod before it. -/
def State.rodEngagedBy (s : State) (n : Fin 24) (id : Nat) : Bool :=
  (s.rod n).plan.isSome || s.txns.any (fun t => t.unit == n.val && t.id != id && t.live && t.dispatched && t.op != 0 && t.op != 6)

/-- Settings kept for a rod at a dispatch (R22). On a rod with nothing else to carry out they come into force at once, with
power stepping and phase (R117, R118); otherwise they do when the transaction's turn comes, since a transaction dispatched
before it completes with its own. The field budget's owner of a raise is the transaction. DEDUCED (log entry 68). -/
def State.rodDispatched (s : State) (n : Fin 24) (id : Nat) : State :=
  let k := s.rodSnap n.val
  let s1 := s.modTxn id (fun t => { t with snap := some k })
  if s.rodEngagedBy n id then s1 else (s1.takePhase n k).setPower n k.power (some id)

/-! ### FIELD_ON, FIELD_OFF, MEASURE (R148, R149, R157 to R159) -/

/-- A transaction that waits for its turn with its NLT passed ends; otherwise its settings come into force (R22) and it is
carried out with `f` (R204). -/
def State.beginRodTxn (s : State) (n : Fin 24) (t : Txn) (f : State → State) : State :=
  if s.nltPassed t.desc && s.stillWaits n t then s.endLate n t else f ((s.run t.id).settingsInForce n)

/-- FIELD_ON (R148): an ON carrier completes at once, otherwise the carrier is brought up. -/
def execFieldOn (n : Fin 24) (s : State) : Out :=
  .next (onSome (s.rodTake? n 1) (fun t s =>
    s.beginRodTxn n t (fun s =>
      if (s.rod n).carrier = .on then s.endRodTxn n t.id .ok else s.kick n)) s)

/-- A descriptor runs that needs the carrier: FIELD_ON, or MEASURE in CARRIER mode. -/
def State.wantsOn? (s : State) (n : Fin 24) : Option Txn :=
  match s.rodBusy? n with
  | some t => if t.op == 1 || (t.op == 4 && descByte t.desc 17 == 0) then some t else none
  | none => none

/-- FIELD_ON_PLL_TIMEOUT (R148): PLL_LOCK stayed 0 for 1 ms and the carrier is OFF. A descriptor that waits in HOLD or is
still queued does not time out. DESIGN CHOICE (log entry 63). -/
def execFieldOnPllTimeout (n : Fin 24) (s : State) : Out :=
  .next (onSome (s.wantsOn? n) (fun t s =>
    if !s.pwr.hfLock && (s.rod n).carrier == .off then s.endRodTxn n t.id .timeout else s) s)

/-- FIELD_OFF (R149). -/
def execFieldOff (n : Fin 24) (s : State) : Out :=
  .next (onSome (s.rodTake? n 2) (fun t s =>
    let s1 := onSome t.snap (fun (k : RodSnap) (s : State) => s.takePhase n k) ((s.run t.id).dequeueOf n.val (some t.id))
    if (s.rod n).carrier = .off || (s.rod n).carrier = .hold then s1.finish t.id .ok else s1.fieldOff n) s)

/-- MEASURE (R158): CARRIER mode brings the carrier up, NOISE mode ramps it down. -/
def execMeasure (n : Fin 24) (s : State) : Out :=
  .next (onSome (s.rodTake? n 4) (fun t s =>
    s.beginRodTxn n t (fun s =>
      if descByte t.desc 17 = 0 then s.kick n else (s.dequeueOf n.val (some t.id)).fieldOff n)) s)

/-- A measurement can end (R117, R158, R476): CARRIER mode needs ON, GUARD and the power code in force, NOISE mode no
carrier; its record needs a credit. -/
def State.canMeasure (s : State) (n : Fin 24) (t : Txn) : Bool :=
  let r := s.rod n
  (if descByte t.desc 17 = 0 then r.carrier == .on && r.guard && r.code == r.goal && !s.startQueued n.val (some t.id)
    else r.carrier == .off || r.carrier == .hold)
    && (s.fifo (ix 24 n.val)).mayStart 8 1

/-- Gain in use under settings `k` (R123): with AGC = 0 the gain as written; with AGC = 1 the gain chosen when the carrier
last reached ON, or the gain in use where none was chosen then. -/
def Rod.gainFor (r : Rod) (k : Option RodSnap) : Nat :=
  match k with
  | some k => if k.agc then r.agcGain.getD r.gain else k.gain
  | none => r.gain

/-- MEASURE_DONE (R123, R159): the RESULT record and, in CARRIER mode, ROD_MEAS and ROD_STAT.GAIN_USED. -/
def execMeasureDone (n : Fin 24) (amp phase noise : Nat) (clip : Bool) (s : State) : Out :=
  .next (onSome (s.rodRuns? n 4) (fun t s =>
    if s.canMeasure n t then
      let noiseMode := descByte t.desc 17 != 0
      let a := if noiseMode then 0 else amp % 65536
      let p := if noiseMode then 0 else phase % 1024
      let gain := if noiseMode then (match t.snap with | some k => k.gain | none => 0) else (s.rod n).gainFor t.snap
      let content := leBytes 2 a ++ leBytes 2 p ++ leBytes 2 noise ++ leBytes 1 gain
        ++ leBytes 1 (b2n noiseMode + 2 * b2n clip) ++ leBytes 4 0
      let s1 := if noiseMode then s
        else (((s.wr F.ROD_MEAS_AMP n.val a).wr F.ROD_MEAS_PHASE n.val p).modRod n
          (fun r => { r with gain := gain })).wr F.ROD_STAT_GAIN_USED n.val gain
      let s2 := s1.emit (ix 24 n.val) [⟨.result, .ok, n.val, t.tag, t.tagSq, s.sys.timebase, content, 0, false⟩] (some t.id)
      s2.endRodTxn n t.id .ok
    else s) s)

/-! ### TRANSCEIVE (R150) -/

/-- The exchange that a TRANSCEIVE asks for; `buf` are the bytes its data fetch brought when INLINE is 0. With EOF_ONLY
no CRC is appended: an EOF alone is sent (R128). DEDUCED (log entry 54). -/
def transceiveFrame (t : Txn) (buf : List Byte) : Exchange :=
  let d := t.desc
  let prof := match t.snap with
    | some k => k.prof (descByte d 16 % 4)
    | none => (RodSnap.none.prof 0)
  let opt := descByte d 17
  let len := descField d 20 2
  let rw := descField d 24 4
  let bytes := if bit opt 2 then descBytes d 32 len else (padTo len buf).take len
  ⟨.ready, .transceive, some t.id, { prof with respWait := if rw = 0 then prof.respWait else rw }, bytes, descByte d 18,
    descByte d 19, bit opt 0 && !bit opt 3, bit opt 1, bit opt 4, descField d 22 2, false, 0, [], ExCount.zero, [], 0⟩

/-- The transmit bytes of a TRANSCEIVE can be taken: they stand in the descriptor, there are none, or memory requests may be
issued (R102, R150). -/
def State.hasTxBytes (s : State) (t : Txn) : Bool :=
  bit (descByte t.desc 17) 2 || descField t.desc 20 2 == 0 || s.mayDma

/-- TRANSCEIVE: its frame waits until nothing holds it (R110, R150, R667). -/
def execTransceive (n : Fin 24) (buf : List Byte) (s : State) : Out :=
  .next (onSome (s.rodTake? n 3) (fun t s =>
    if s.hasTxBytes t then s.beginRodTxn n t (fun s => s.putFrame n (transceiveFrame t buf)) else s) s)

/-! ### RUN_PLAN and STOP_PLAN (R160 to R163) -/

/-- Tiles that an invocation verifies: its plan tile and its filter tiles (R239, R497). -/
def planTiles (tile : Nat) (f : Option (Nat × Nat)) : List Nat :=
  tile :: (match f with | some x => filterTiles x.1 x.2 | none => [])

/-- The invocation that a RUN_PLAN starts (R160, R214, R239). LAST_STEP is 0 until a step has run.
DESIGN CHOICE (log entry 65). -/
def newPlan (t : Txn) (f : Option (Nat × Nat)) (behind : List Nat) : Plan :=
  let d := t.desc
  ⟨descField d 16 2, descByte d 18, descByte d 19 % 4, descField d 20 2, descField d 22 2, descField d 20 2, 0, 0, 0, 0,
    none, .boundary, none, f, (match t.snap with | some k => k | none => RodSnap.none), t.slot, none, none, false,
    false, behind⟩

/-- RUN_PLAN (R143, R161): once no plan runs and nothing dispatched before it is left, its tiles are verified and the
invocation starts, taking over the slot; a failed check completes it CHECKSUM_FAIL. -/
def execRunPlan (n : Fin 24) (crcs : List (Nat × Word)) (s : State) : Out :=
  .next (onSome (s.rodTake? n 5) (fun t s =>
    match s.plan? n with
    | some _ => s
    | none =>
      if s.nltPassed t.desc then s.endRodTxn n t.id .late
      else if !s.verifierFree then s
      else
      let f := s.filterNow
      match s.verifyPlanTiles crcs (planTiles (descByte t.desc 18) f) with
      | (s1, true) =>
        let behind := (s1.txns.filter (fun u => u.unit == n.val && u.isQueued && u.id != t.id)).map (·.id)
        let s2 := ((s1.modRod n (fun r => { r with plan := some (newPlan t f behind) })).passStart n.val t.id).settingsInForce n
        ((s2.modTxn t.id (fun t => { t with slot := .none })).finish t.id .ok).wr F.ROD_PLAN_STAT_PASSES n.val 0
      | (s1, false) => (s1.finish t.id .checksumFail).settleDoom) s)

/-- STOP_PLAN (R163): completes at once when no plan runs, otherwise after the PLAN_END record. -/
def execStopPlan (n : Fin 24) (s : State) : Out :=
  .next (onSome (s.txns.find? (fun t => t.unit == n.val && t.isQueued && t.op == 6)) (fun t s =>
    match s.plan? n with
    | none => s.finish t.id .ok
    | some p =>
      let w := descByte t.desc 16
      let stop := if p.stop = some 0 then some 0 else some w
      ((s.run t.id).modPlan n (fun p => { p with stop := stop })).planBoundary n) s)

/-! ### FLUSH and ABORT (R164 to R167) -/

/-- End transactions of the rod, first to last. -/
def State.endRodTxns (s : State) (n : Fin 24) (ts : List Txn) (st : Status) : State :=
  forAll ts (fun (t : Txn) (s : State) => s.endRodTxn n t.id st) s

/-- The held record whose exchange is in front of the rod (R146); none: its counts go to the registers at once. -/
def State.heldOfAir (s : State) (n : Fin 24) (x : Exchange) : Option (List Byte) :=
  match x.purpose, s.tag? n with
  | .perTag _ _ _, some t => if x.txn.isNone && !t.carried then some t.uid else none
  | _, _ => none

/-- The running invocation is ended from outside: its exchange stops on the air (R165), the WRITE record of a tag whose
record was carried is written (R251), and its held records go. An exchange of a held record is not counted (R146). -/
def State.killPlan (s : State) (n : Fin 24) (c : PlanCause) : State :=
  match s.plan? n with
  | some p =>
    let s1 : State := match (s.rod n).air with
      | some x =>
        if x.txn.isNone && x.phase != AirPhase.ready then
          let held := s.heldOfAir n x
          let ended := if x.phase = .tx || x.phase = .receiving then s.sys.timebase else x.sent
          ((if held.isSome then s else s.addCounts n.val x.cnt).modTag n (fun t =>
            if t.inWrites then { t with stamp := some ended } else t)).cutAir n x held
        else s
      | none => s
    let s2 := State.discardAll n .flush (((s1.cutWrites n).modInv n (fun i => { i with tag := none })).modRod n (fun r =>
      if p.stage = .waiting true then { r with rampAfter := false } else r))
    match p.stage with
    | .ending _ => s2.settlePlan n
    | _ => s2.endPlan n c
  | none => s

/-- FLUSH (R166): everything fetched before it ends FLUSHED, then the plan, the held records and the FIFO's producer
side. -/
def State.rodFlush (s : State) (n : Fin 24) (t : Txn) : State :=
  let earlier := s.txns.filter (fun u => u.unit == n.val && u.live && decide (u.id < t.id))
  let s1 := ((s.endRodTxns n earlier .flushed).killPlan n .flushed)
  let s2 := (State.discardAll n .flush s1).flushProducer (ix 24 n.val)
  let s3 := when (descByte t.desc 16 == 1) (fun s => s.fieldOff n) s2
  (s3.resumeTags).finish t.id .ok

/-- ABORT (R167): transactions dispatched before it and the plan end ABORTED. -/
def State.rodAbort (s : State) (n : Fin 24) (t : Txn) : State :=
  let earlier := s.txns.filter (fun u => u.unit == n.val && u.live && u.dispatched && decide (u.id < t.id))
  let s1 := (s.endRodTxns n earlier .aborted).killPlan n .aborted
  ((State.discardAll n .flush s1).flushProducer (ix 24 n.val)).resumeTags.finish t.id .ok

/-! ### Carrier events (R109 to R114, R117, R123) -/

/-- GUARD has passed: reader frames are allowed, and a FIELD_ON completes (R112, R148, R191). -/
def State.guardPassed (s : State) (n : Fin 24) : State :=
  let s1 := s.modRod n (fun r => { r with guard := true })
  (onSome (s.rodRuns? n 1) (fun t s => s.finish t.id .ok) s1).raiseReq n

/-- Gain chosen at carrier-on (R123) under the settings in force: with AGC the highest gain of the list at which the carrier
stays below −6 dBFS; a free value where there is none. The second part is what AGC chose. -/
def State.chooseGain (s : State) (n : Fin 24) (below : List Bool) : State × Nat × Option Nat :=
  match (s.rodInForce n).2 with
  | some k =>
    if k.agc then
      match (List.range 8).reverse.find? (fun g => below.getD g false) with
      | some g => (s, g, some g)
      | none => let d := s.drawFree; (d.1, d.2 % 8, some (d.2 % 8))
    else (s, k.gain, none)
  | none => (s, s.rd F.ROD_RX_GAIN n.val, none)

/-- GUARD of the settings in force (R22, R112). -/
def State.guardTime (s : State) (n : Fin 24) : Nat :=
  match (s.rodInForce n).2 with | some k => k.guard | none => s.rd F.ROD_FIELD_GUARD n.val

/-- CARRIER_RAMP_UP_DONE (R109, R112, R117, R123, R196): ON is reached, the gain chosen, the power code of the settings in
force taken, and the rod listens to an exchange of its zone. -/
def execCarrierRampUpDone (n : Fin 24) (below : List Bool) (s : State) : Out :=
  .next (
    if (s.rod n).carrier = .rampUp then
      let g := s.chooseGain n below
      let s1 := g.1.modRod n (fun r => { r with carrier := .on, gain := g.2.1, agcGain := g.2.2 })
      let s3 := ((s1.wr F.ROD_STAT_GAIN_USED n.val g.2.1).powerInForce n).joinListen n
      if s.guardTime n = 0 then s3.guardPassed n else s3
    else s)

/-- CARRIER_RAMP_DOWN_DONE (R114): HOLD is entered; a FIELD_OFF completes and a WAIT begins to count (R149, R219). -/
def execCarrierRampDownDone (n : Fin 24) (s : State) : Out :=
  .next (
    if (s.rod n).carrier = .rampDown then
      let s1 := (s.modRod n (fun r => { r with carrier := .hold })).fieldEdge n .rampDown .hold
      let s2 := onSome (s.rodRuns? n 2) (fun t s => s.finish t.id .ok) s1
      s2.modPlan n (fun p => if p.stage = .waiting true then { p with stage := .waiting false } else p)
    else s)

/-- HOLD_EXPIRY (R110, R114, R177): OFF is entered and a carrier that is wanted asks for its start. -/
def execHoldExpiry (n : Fin 24) (s : State) : Out :=
  .next (
    if (s.rod n).carrier = .hold && !((s.rod n).surveyHold && s.surveyBusy) then
      (s.modRod n (fun r => { r with carrier := .off, surveyHold := false })).kick n
    else s)

/-- GUARD_EXPIRY (R112). -/
def execGuardExpiry (n : Fin 24) (s : State) : Out :=
  .next (if (s.rod n).carrier = .on && !(s.rod n).guard then s.guardPassed n else s)

/-- A transaction dispatched to a rod has not ended. -/
def State.hasRodTxn (s : State) (n : Nat) : Bool := s.txns.any (fun t => t.unit == n && t.live && t.dispatched)

/-- IDLE_OFF_EXPIRY (R113, R219): no transaction and no listening duty, and no plan but one in a WAIT.
DEDUCED (log entry 70). -/
def execIdleOffExpiry (n : Fin 24) (s : State) : Out :=
  .next (
    if s.rd F.ROD_IDLE_IDLE_OFF n.val != 0 && (s.rod n).carrier == .on && !s.hasRodTxn n.val
        && (match s.plan? n with
            | some p => (match p.stage with | .waiting _ => true | _ => false)
            | none => true)
        && !s.listening n.val then (s.dequeueOf n.val none).rampDown n
    else s)

/-- POWER_STEP (R117): one code toward the goal. -/
def execPowerStep (n : Fin 24) (s : State) : Out :=
  .next (
    let r := s.rod n
    if r.carrier = .on && r.code != r.goal then
      (s.modRod n (fun r => { r with code := if r.code < r.goal then r.code + 1 else r.code - 1 })).raiseReq n
    else s)

/-! ### Air exchanges (R133 to R141, R167, R196) -/

/-- Rods that listen when rod `n` speaks (R196). -/
def State.listenersOf (s : State) (n : Fin 24) : List Nat :=
  match (s.rod n).zone with
  | some z => ((s.zoneRods z).filter (fun m => m != n && (s.rod m).carrier == .on)).map (·.val)
  | none => []

/-- FRAME_START (R123, R154, R196, R229, R667). A frame whose NLT has passed does not start. -/
def execFrameStart (n : Fin 24) (s : State) : Out :=
  .next (
    match (s.rod n).air with
    | some x =>
      match s.overdue? n with
      | some t => s.endLate n t
      | none =>
        if s.frameClear n then
          let ls := s.listenersOf n
          let g := (s.rod n).gainFor (s.snapOf n x)
          let c := if x.txn.isSome then ExCount.zero else { ExCount.zero with tx := 1, gain := some g }
          let s1 := s.modRod n (fun r =>
            { r with air := some { x with phase := .tx, listeners := ls, cnt := c }, closed := none, gain := g })
          let s2 := { s1 with field := { s1.field with
            inAir := (n.val :: ls) ++ s1.field.inAir, modulated := n.val :: s1.field.modulated } }
          let s3 := when x.txn.isSome (fun s => (s.count F.ROD_CNT_TX_COUNT n.val).wr F.ROD_STAT_GAIN_USED n.val g) s2
          let s4 := when x.prepared (fun s => s.count F.ROD_PREP_SENT_COUNT n.val) s3
          (s4.modFifo (ix 24 n.val) (fun q => { q with reserved := x.credits })).emitOut
            (.rodFrame n.val (frameBytes x) x.lastBits (frameParity x))
        else s
    | none => s)

/-- Change the exchange in front of the rod. -/
def State.modAir (s : State) (n : Fin 24) (f : Exchange → Exchange) : State :=
  s.modRod n (fun r => { r with air := r.air.map f })

/-- A decode of nothing but counts. -/
def noDecode (c : ExCount) : Decode := ⟨0, 0, 0, false, c⟩

/-- The last modulation of exchange `x` ends (R133, R152). -/
def State.frameSent (s : State) (n : Fin 24) (x : Exchange) : State :=
  if x.noRx then
    let s1 := s.endAir n none
    match x.txn with
    | some id => s1.endRodTxn n id .ok
    | none => s1.planResult n x ⟨.ok, [], 0, noDecode x.cnt, s.sys.timebase⟩
  else s.modAir n (fun x => { x with phase := .waiting, sent := s.sys.timebase })

/-- FRAME_TX_END (R133): the reference point; with NO_RX the exchange ends (R152). -/
def execFrameTxEnd (n : Fin 24) (s : State) : Out :=
  .next (
    match (s.rod n).air with
    | some x => if x.phase = .tx then (s.crcFeed (0x20 + n.val) (wholeBytes x)).frameSent n x else s
    | none => s)

/-- WINDOW_OPEN (R134). -/
def execWindowOpen (n : Fin 24) (s : State) : Out :=
  .next (s.modAir n (fun x => if x.phase = .waiting then { x with phase := .window } else x))

/-- The window of exchange `x` closes with no SOF (R137). -/
def State.windowClosed (s : State) (n : Fin 24) (x : Exchange) : State :=
  let s1 := s.endAir n (some ⟨s.heldOfAir n x, 8 * x.prof.respWait⟩)
  match x.txn with
  | some id => (s1.count F.ROD_CNT_NORESP_COUNT n.val).endRodTxn n id .noResponse
  | none => s1.planResult n x ⟨.noResponse, [], 0, noDecode { x.cnt with noresp := x.cnt.noresp + 1 }, x.sent⟩

/-- WINDOW_CLOSE (R137): no SOF was detected. DESIGN CHOICE (log entry 1). -/
def execWindowClose (n : Fin 24) (s : State) : Out :=
  .next (
    match (s.rod n).air with
    | some x => if x.phase = .window then s.windowClosed n x else s
    | none => s)

/-- A SOF after the close of the window (R137, R146): it counts for the held record whose exchange it was as long as that is
held, and for the registers once it is carried. -/
def State.lateSof (s : State) (n : Fin 24) (l : LateNote) : State :=
  let s1 := s.modRod n (fun r => { r with lateRx := true })
  let c := { ExCount.zero with late := 1, lateSof := true }
  match l.held with
  | some uid =>
    match s.heldOf n uid with
    | some h => s1.modHeld n h.1 (fun h => { h with cnt := h.cnt.add c })
    | none => s1
  | none => s1.addCounts n.val c

/-- A SOF that comes when no exchange of the rod waits for one: after the close of the last window it is a late SOF (R136,
R137). -/
def State.straySof (s : State) (n : Fin 24) (fdt : Nat) : State :=
  match (s.rod n).closed with
  | some l => if l.close < fdt && !(s.rod n).lateRx then s.lateSof n l else s
  | none => s

/-- The FRAME record of exchange `x` begins with the reception: its need is that of the largest response it accepts (R153, R465,
R472). Its packets count as begun one by one; the model takes the first. DEDUCED (log entry 49). -/
def State.groupBegins (s : State) (n : Fin 24) (x : Exchange) : State :=
  if x.credits = 0 || (s.fifo (ix 24 n.val)).openGroup.isSome then s
  else s.startGroup (ix 24 n.val) x.txn 1 (62 * x.credits)

/-- SOF_DETECT (R134 to R137). `fdt`: HFS cycles from the reference point; `chans`: the estimates made from the SOF (R197).
Inside the window, both ends included, it begins the reception; before it, it is ignored and sets EARLY_SOF; after it, the
window has closed with nothing in it and the SOF is late. -/
def execSofDetect (n : Fin 24) (fdt : Nat) (chans : List (Nat × Nat × Nat)) (s : State) : Out :=
  .next (
    match (s.rod n).air with
    | some x =>
      if x.phase = .waiting || x.phase = .window then
        if fdt < 8 * x.prof.fdtMin then
          if x.txn.isSome then s.setF F.ROD_ERR_EARLY_SOF n.val
          else s.modAir n (fun x => { x with cnt := { x.cnt with early := true } })
        else if fdt ≤ 8 * x.prof.respWait then
          (s.modAir n (fun x => { x with phase := .receiving, fdtMeas := fdt, chans := chans })).groupBegins n x
        else (s.windowClosed n x).straySof n fdt
      else if x.phase = .ready then s.straySof n fdt
      else s
    | none => s.straySof n fdt)

/-- Content of a FRAME record (R156). -/
def frameContent (x : Exchange) (crcOk coll par comb clip : Bool) (nbits collPos rssi : Nat) (data : List Byte) : List Byte :=
  leBytes 1 x.prof.proto ++ leBytes 1 (b2n crcOk + 2 * b2n coll + 4 * b2n par + 8 * b2n comb + 16 * b2n clip)
    ++ leBytes 2 nbits ++ leBytes 2 collPos ++ leBytes 2 rssi ++ leBytes 4 x.fdtMeas ++ data

/-- The reception of exchange `x` ends with what the air brought (R129 to R132, R138, R153 to R156, R197 to R199): its FRAME
record is complete, or with a response too long there is none. -/
def State.endReception (s : State) (n : Fin 24) (x : Exchange) (rx : RxReport) : State :=
  let j := judgeRx x rx
  let ms := s.combined n.val x
  let comb := decide (1 < ms.length)
  let rssi := strengthOf x ms
  let c := countOf j.status rx.clip
  let s1 := (s.noteNear n x).endAir n (some ⟨s.heldOfAir n x, 8 * x.prof.respWait⟩)
  match x.txn with
  | some id =>
    let s2 := s1.addCounts n.val c
    match s.txn? id with
    | some t =>
      if j.status = .lengthError then (s2.flushGroup (ix 24 n.val) id).endRodTxn n id .lengthError
      else
        let collPos := if j.status = .collision then j.nbits else 0xFFFF
        let content := frameContent x j.crcOk (j.status == .collision) j.parErr comb rx.clip j.nbits collPos rssi j.data
        let s3 := s2.closeGroup (ix 24 n.val) ⟨.frame, j.status, n.val, t.tag, t.tagSq, s.sys.timebase, content, 0, false⟩ id
        s3.endRodTxn n id j.status
    | none => s2
  | none =>
    let near := if (s.rod n).zone.isSome then nearestOf n.val x else n.val
    let data := if j.status = .crcError && !j.parErr && x.rxCrc then j.data.take (j.data.length - 2) else j.data
    s1.planResult n x ⟨j.status, data, j.nbits, ⟨rssi, near, strengthOf x [near], comb, x.cnt.add c⟩, s.sys.timebase⟩

/-- RESPONSE_END (R138): the end of the response, or of a frame whose SOF came too late, is recognised. -/
def execResponseEnd (n : Fin 24) (rx : RxReport) (s : State) : Out :=
  .next (
    if (s.rod n).lateRx then (s.modRod n (fun r => { r with lateRx := false })).startGap n
    else
      match (s.rod n).air with
      | some x =>
        if x.phase = .receiving then
          (s.crcFeed n.val ((placeBits x.rxAlign (rxBits rx)).take ((x.rxAlign + (rxBits rx).length) / 8))).endReception n x rx
        else s
      | none => s)

/-- NEXT_MIN_EXPIRY (R138, R191, R192). DESIGN CHOICE (log entry 8). -/
def execNextMinExpiry (n : Fin 24) (s : State) : Out :=
  .next (if (s.rod n).gap && !(s.rod n).lateRx then (s.modRod n (fun r => { r with gap := false })).raiseReq n else s)

/-! ### NLT (R143, R154, R204) -/

/-- ROD_NLT_EXPIRY (R143, R154, R204). -/
def execRodNltExpiry (n : Fin 24) (s : State) : Out :=
  .next (onSome (s.txns.find? (fun t => t.unit == n.val && s.nltPassed t.desc && s.stillWaits n t))
    (fun t s => s.endLate n t) s)

/-! ### Counters (R170) -/

/-- Effect of a write to ROD_CTL (R170). -/
def State.writeRodCtl (s : State) (n : Nat) (w : Word) : State :=
  if bit w.toNat 0 then
    forAll [F.ROD_CNT_TX_COUNT, F.ROD_CNT_OK_COUNT, F.ROD_CNT_CRC_COUNT, F.ROD_CNT_NORESP_COUNT, F.ROD_CNT_COLL_COUNT,
      F.ROD_CNT_LATE_COUNT] (fun f s => s.wr f n 0) s
  else s

/-- ROD_CNT_CLR (R170). -/
def execRodCntClr (n : Fin 24) (w : Word) (s : State) : Out :=
  .next (s.hostWrite (0x6000 + 0x100 * n.val) (fun s => s.writeRodCtl n.val w))

end Sys2Proof.Machine
end

