-- ==== Sys2Proof/Machine/PlanCmds.lean ====
section
/-! DEFINITION. Commands of plans, held records and their settings (spec/05_inventory_and_harvest.md). -/

namespace Sys2Proof.Machine
open Sys2Proof

/-! ### Start of a unit (R142, R216, R218, R264, R476, R520, R630 to R632) -/

/-- Skip the main-flow steps that cannot be carried out (R218), at most `fuel` of them. -/
def State.skipSteps (n : Fin 24) : Nat → State → State
  | 0, s => s
  | fuel + 1, s =>
    match s.plan? n with
    | some p =>
      if p.stage = .boundary && p.pc < 1024 then
        let b := s.stepBytes p p.pc
        let f := mainFault p b
        if f = 0 then s
        else State.skipSteps n fuel ((s.noteFault n p.pc f (f == 2)).modPlan n (fun p => { p with pc := p.pc + 1 }))
      else s
    | none => s

/-- Nothing keeps the plan of rod `n` from its next unit but the debug halt. -/
def State.unitMay (s : State) (n : Fin 24) : Bool :=
  match s.plan? n with
  | some p =>
    p.atBoundary && p.stop != some 0 && p.doom.isNone && (s.rodBusy? n).isNone && (s.rodNext? n).isNone
      && (s.rod n).air.isNone && s.round.step == 0 && !s.flag F.RING_STAT_HALT_AIR && s.isOn (bankOf n.val)
  | none => false

/-- The breakpoint hits: rod `n` is about to start a unit at its step (R632). -/
def State.atBreakpoint (s : State) (n : Fin 24) : Bool :=
  match s.plan? n with
  | some p => s.flag F.DBG_BP_EN && s.rd F.DBG_BP_ROD == n.val && s.rd F.DBG_BP_STEP == p.pc && !p.credit
  | none => false

/-- Halt the plan engine (R630): a unit granted before it and not begun is granted no more. -/
def State.debugHalt (s : State) (src : Nat) : State :=
  if s.flag F.DBG_STAT_HALTED then s
  else
    forAll allRods (fun (n : Fin 24) (s : State) => s.modPlan n (fun p => { p with credit := false }))
      ((s.setF F.DBG_STAT_HALTED).wr F.DBG_STAT_SRC 0 src)

/-- The unit begins: the one unit that a halted invocation was granted is used up (R632). -/
def State.unitBegins (s : State) (n : Fin 24) : State := s.modPlan n (fun p => { p with credit := false })

/-- Start the next unit of rod `n` with `f`, which says when the unit begins: skipped steps are passed over first; a halt or
a breakpoint holds it (R218, R630, R632). -/
def State.tryUnit (s : State) (n : Fin 24) (due : Plan → List Byte → Bool) (f : Plan → List Byte → State → State) : State :=
  if s.unitMay n then
    let s1 := State.skipSteps n 1024 s
    match s1.plan? n with
    | some p =>
      let b := s1.stepBytes p p.pc
      if due p b then
        if s1.flag F.DBG_STAT_HALTED && !p.credit then s1
        else if s1.atBreakpoint n then s1.debugHalt 2
        else f p b s1
      else s1
    | none => s1
  else s

/-- Start the next unit of rod `n` with `f`; it begins at once. -/
def State.startUnit (s : State) (n : Fin 24) (due : Plan → List Byte → Bool) (f : Plan → List Byte → State → State) : State :=
  s.tryUnit n due (fun p b s => f p b (s.unitBegins n))

/-- The plan goes to step `i`, between two units. -/
def State.goTo (s : State) (n : Fin 24) (i : Nat) : State :=
  (s.modPlan n (fun p => { p with stage := .boundary, pc := i })).planBoundary n

/-- A FIFO can take the one packet that a plan step needs before it starts (R476). -/
def State.planCredit (s : State) (n : Fin 24) : Bool := (s.fifo (ix 24 n.val)).mayStart 8 1

/-- The plan stands at main-flow step with opcode `op`. -/
def atStep (op : Nat) (p : Plan) (b : List Byte) : Bool := p.stage == .boundary && stepOp b == op

/-! ### END, WAIT, BRANCH_IF, EMIT (R214, R219 to R221) -/

/-- The pass ends (R163, R214): the invocation ends, or its next pass starts once its tiles are verified (R497, R498). -/
def State.endPass (s : State) (n : Fin 24) (p : Plan) (mode : Nat) (crcs : List (Nat × Word)) : State :=
  let passes := p.passes + 1
  let s1 := (s.modPlan n (fun p => { p with passes := passes })).wr F.ROD_PLAN_STAT_PASSES n.val (min 65535 passes)
  if mode = 1 || (p.repeatN != 0 && decide (p.repeatN ≤ passes)) then s1.endPlan n .done
  else if p.stop = some 1 then s1.endPlan n .stopped
  else
    match s1.verifyPlanTiles crcs (planTiles p.tile p.filter) with
    | (s2, true) => s2.goTo n p.entry
    | (s2, false) => (s2.endPlan n .checksumFail).settleDoom

/-- END (R214). `crcs`: what reading the tiles again gave. -/
def execEnd (n : Fin 24) (crcs : List (Nat × Word)) (s : State) : Out :=
  .next (s.startUnit n (fun p b => atStep 0 p b && s.verifierFree) (fun p b s =>
    (if p.pc < 1024 then s.noteStep n p.pc else s).endPass n p (byteAt b 2) crcs))

/-- WAIT (R219): with OFF the carrier ramps down first. DEDUCED (log entry 46). -/
def execWait (n : Fin 24) (s : State) : Out :=
  .next (s.startUnit n (atStep 6) (fun p b s =>
    let s1 := s.noteStep n p.pc
    let c := (s1.rod n).carrier
    if bit (byteAt b 6) 0 && c != .off && c != .hold then
      ((s1.modPlan n (fun p => { p with stage := .waiting true })).dequeueOf n.val none).fieldOff n
    else s1.modPlan n (fun p => { p with stage := .waiting false })))

/-- WAIT_EXPIRY (R219). -/
def execWaitExpiry (n : Fin 24) (s : State) : Out :=
  .next (
    match s.plan? n with
    | some p => if p.stage = .waiting false && s.round.step == 0 then s.goTo n (p.pc + 1) else s
    | none => s)

/-- COND of BRANCH_IF (R220). -/
def State.branchCond (s : State) (p : Plan) (b : List Byte) : Bool :=
  match byteAt b 2 with
  | 0 => true
  | 1 => p.invAny != some true
  | 2 => p.invAny == some true
  | 3 => decide (p.passes < stepField b 6 2)
  | 4 => bit (s.rd F.GPIO_IN_PINS) (byteAt b 3)
  | _ => !bit (s.rd F.GPIO_IN_PINS) (byteAt b 3)

/-- BRANCH_IF (R220). -/
def execBranchIf (n : Fin 24) (s : State) : Out :=
  .next (s.startUnit n (atStep 7) (fun p b s =>
    (s.noteStep n p.pc).goTo n (if s.branchCond p b then stepField b 4 2 % 1024 else p.pc + 1)))

/-- The record of an EMIT (R221). -/
def State.emitMark (s : State) (n : Fin 24) (p : Plan) (b : List Byte) : State :=
  s.emitPlan n p .result .ok s.sys.timebase ((b.drop 2).take 8 ++ leBytes 4 s.roundNo) none

/-- EMIT (R221): with SYNC = 1 it waits until the rod holds no held record. -/
def execEmit (n : Fin 24) (s : State) : Out :=
  .next (
    if s.planCredit n then
      s.startUnit n (atStep 8) (fun p b s =>
        let s1 := s.noteStep n p.pc
        if bit (byteAt b 10) 0 && !(s.rod n).held.isEmpty then s1.modPlan n (fun p => { p with stage := .emitSync })
        else (s1.emitMark n p b).goTo n (p.pc + 1))
    else s)

/-- EMIT_SYNC_WRITE (R221). -/
def execEmitSyncWrite (n : Fin 24) (s : State) : Out :=
  .next (
    match s.plan? n with
    | some p =>
      if p.stage = .emitSync && (s.rod n).held.isEmpty && s.round.step == 0 then
        (s.emitMark n p (s.stepBytes p p.pc)).goTo n (p.pc + 1)
      else s
    | none => s)

/-! ### INVENTORY and its cycles (R215, R217, R222 to R228, R241) -/

/-- The INVENTORY step as it begins (R222, R224). -/
def newInv (p : Plan) (b : List Byte) : InvRun :=
  let e : MaskEntry := ⟨stepField b 8 8, byteAt b 7, 0, bit (byteAt b 5) 0⟩
  ⟨p.pc, b, p.snap.prof (stepProfile b p.profile), [e], e, 0, 0, 0, false, false, [], 1, false, none, false⟩

/-- The first frame of a cycle (R224, R226, R227). -/
def firstFrame (i : InvRun) : Exchange :=
  let wake := bit (byteAt i.bytes 5) 3 && i.cycles == 0
  if i.prof.proto = 0 then inventory15 i.prof i.bytes i.cur
  else if i.prof.proto = 1 then requestA i.prof wake
  else requestB i.prof i.bytes wake

/-- A cycle takes its mask from the stack and begins. -/
def InvRun.nextCycle (i : InvRun) : InvRun :=
  { i with cur := i.stack.headD i.cur, stack := i.stack.tail, cycleHit := false, cycleBad := false, partUid := [],
           nextSlot := 1, inCycle := true, tag := none, slotWait := false }

/-- The INVENTORY step of rod `n` puts the first frame of its next cycle in front of the rod. -/
def State.beginCycle (s : State) (n : Fin 24) (i : InvRun) : State :=
  let j := i.nextCycle
  let s1 := if i.cycles = 0 then (s.noteStep n i.step).modPlan n (fun p => { p with invAny := some false })
    else s.wr F.ROD_PLAN_STAT_STEP n.val i.step
  ((s1.unitBegins n).modPlan n (fun p =>
    { p with wantCarrier := false, inv := some { j with cycles := i.cycles + 1 } })).putPlan n (firstFrame j)

/-- A cycle of the INVENTORY step of rod `n` begins (R241): with a free entry, a credit in credit mode, and a carrier that
is up, or ramping up at the plan's power code; otherwise the carrier or the raise is asked for, and while its start waits
for the field budget the unit has not begun (R217). -/
def State.startCycle (s : State) (n : Fin 24) (i : InvRun) : State :=
  if 4 ≤ (s.rod n).held.length || !s.planCredit n then s
  else
    let s1 := s.settingsInForce n
    let power := match (s.rodInForce n).2 with | some k => k.power | none => (s.rod n).code
    if s1.startQueued n.val none then s1.modPlan n (fun p => { p with wantCarrier := true })
    else if (s.rod n).carrier = .on || ((s.rod n).carrier = .rampUp && decide (power ≤ (s.rod n).goal)) then s1.beginCycle n i
    else (s1.modPlan n (fun p => { p with wantCarrier := true })).kick n

/-- INVENTORY (R216, R222): the step's first cycle is the unit that begins; where it cannot begin yet, INVENTORY_CYCLE begins
it later. -/
def execInventory (n : Fin 24) (s : State) : Out :=
  .next (s.tryUnit n (atStep 1) (fun p b s =>
    (s.modPlan n (fun p => { p with stage := .inventory, inv := some (newInv p b) })).startCycle n (newInv p b)))

/-- INVENTORY_CYCLE (R224, R241). -/
def execInventoryCycle (n : Fin 24) (s : State) : Out :=
  .next (s.tryUnit n (fun p _ => p.stage == .inventory) (fun _ _ s =>
    match s.inv? n with
    | some i => s.startCycle n i
    | none => s))

/-! ### Per-tag steps (R230 to R234, R250) -/

/-- The per-tag step that comes next on rod `n`, when nothing of the tag is on the air and none of its frames waits. -/
def State.tagReady? (s : State) (n : Fin 24) : Option (Plan × InvRun × TagRun × List Byte) :=
  match s.plan? n, s.inv? n, s.tag? n with
  | some p, some i, some t =>
    if (s.rod n).air.isNone && !t.quieting && !t.gone && !t.waiting && s.round.step == 0 && decide (t.pos < i.tagCount) then
      some (p, i, t, s.tagStep p i t.pos)
    else none
  | _, _, _ => none

/-- Carry out the per-tag step with opcode `op`: its frame is put in front of the rod, the first of the list as the frame
prepared in advance (R229, R232); a SELECT with no frame adds an empty entry (R257). A write step waits for the credit of its
record (R476). -/
def State.tagDo (s : State) (n : Fin 24) (op : Nat) : State :=
  match s.tagReady? n with
  | some (p, i, t, b) =>
    if stepOp b = op then
      let prof := p.snap.prof (stepProfile b (i.profNo p))
      let s1 := s.noteStep n (i.tagFirst + t.pos)
      if op = 2 && prof.proto = 1 then
        match s1.heldOf n t.uid with
        | some h =>
          let e := addEntry h.2.entries ⟨i.tagFirst + t.pos, .ok, []⟩
          (s1.modHeld n h.1 (fun h => { h with entries := e.1, trunc := e.2 })).stepDone n
        | none => s
      else if (op = 9 || op = 10) && !s.planCredit n then s
      else
        let data := if op = 9 then s.writeData p b 0 else []
        (s1.modTag n (fun t => { t with prep := false })).putPlan n
          { tagFrame prof b t.uid data t.pos 0 0 with prepared := t.prep }
    else s
  | none => s

/-- SELECT (R232). -/
def execSelect (n : Fin 24) (s : State) : Out := .next (s.tagDo n 2)
/-- READ_BLOCKS (R232). -/
def execReadBlocks (n : Fin 24) (s : State) : Out := .next (s.tagDo n 3)
/-- READ_BLOCKS_EXT (R232). -/
def execReadBlocksExt (n : Fin 24) (s : State) : Out := .next (s.tagDo n 4)
/-- GET_INFO (R232). -/
def execGetInfo (n : Fin 24) (s : State) : Out := .next (s.tagDo n 5)
/-- WRITE_BLOCKS (R234). -/
def execWriteBlocks (n : Fin 24) (s : State) : Out := .next (s.tagDo n 9)
/-- LOCK_BLOCK (R234). -/
def execLockBlock (n : Fin 24) (s : State) : Out := .next (s.tagDo n 10)

/-- WRITE_WAIT_EXPIRY (R250, R251): the unit ends without the write steps; a later carry writes their TIMEOUT record. -/
def State.giveUpWrites (s : State) (n : Fin 24) : State :=
  match s.plan? n, s.inv? n, s.tag? n with
  | some p, some i, some t =>
    if t.waiting && (s.heldOf n t.uid).isSome then
      ((s.dropWrites n p i t).modTag n (fun t => { t with waiting := false })).afterList n (fun s => s.afterTag n)
    else s
  | _, _, _ => s

/-- WRITE_WAIT_EXPIRY (R250): with the WRITE_WAIT of the settings in force (R22). -/
def execWriteWaitExpiry (n : Fin 24) (s : State) : Out :=
  .next (
    match s.plan? n with
    | some p => if p.snap.writeWait = 0 then s else s.giveUpWrites n
    | none => s)

/-! ### Filter verdict and carry (R239, R246, R249, R252) -/

/-- The verdict of held record `j` becomes known (R239, R252). -/
def State.verdict (s : State) (n : Fin 24) (j : Nat) : State :=
  match (s.rod n).held[j]?, s.plan? n with
  | some h, some p =>
    if h.verdict.isNone then
      let s1 := match p.filter with
        | some f => when (s.filterOverlap f) (fun (s : State) => s.setF F.ROD_INV_ERR_OVERLAP) s
        | none => s
      if s.verdictFor p.filter h.proto h.uid then s1.modHeld n j (fun h => { h with verdict := some true })
      else (s1.discard n j .filter).resumeTags
    else s
  | _, _ => s

/-- FILTER_VERDICT (R239). -/
def execFilterVerdict (n : Fin 24) (j : Nat) (s : State) : Out := .next (s.verdict n j)

/-- Content of the READ record of a held record (R256, R257). -/
def State.heldContent (s : State) (n : Fin 24) (h : Held) : List Byte :=
  tagContent 0 h.proto n.val h.near h.strength h.nearRssi s.roundNo h.trunc h.combined h.uid h.entries

/-- The rod's FIFO can take a whole packet of `words` words, after a swap if one can take place (R249, R471, R475). -/
def State.takesPacket (s : State) (n : Fin 24) (words : Nat) : Bool :=
  let q := (s.fifo (ix 24 n.val)).swapFor (bankWords (ix 24 n.val)) words
  decide (words ≤ bankWords (ix 24 n.val) - q.fillWords) && q.mayStart 8 1 && q.waiting.isEmpty

/-- HELD_RECORD_CARRY (R246, R249): the writing of its packet starts. -/
def State.startCarry (s : State) (n : Fin 24) (j : Nat) : State :=
  match (s.rod n).held[j]? with
  | some h =>
    let words := packetWords (tagClen h.entries)
    if s.mayCarry n h && !h.carrying && s.takesPacket n words then
      (s.startGroup (ix 24 n.val) none 1 words).modHeld n j (fun h => { h with carrying := true })
    else s
  | none => s

/-- HELD_RECORD_CARRY (R246). -/
def execHeldRecordCarry (n : Fin 24) (j : Nat) (s : State) : Out := .next (s.startCarry n j)

/-- A UID becomes CARRIED in the round (R249). -/
def State.markCarried (s : State) (uid : List Byte) : State :=
  { s with round := { s.round with dedup := s.round.dedup.map (fun d => if d.uid = uid then { d with carried := true } else d) } }

/-- The tag whose list runs has its held record carried: its write steps may start (R250). -/
def State.tagCarried (s : State) (n : Fin 24) (uid : List Byte) : State :=
  match s.tag? n with
  | some t => if t.uid == uid && !t.gone then s.modTag n (fun t => { t with carried := true, waiting := false }) else s
  | none => s

/-- The length word of a carried packet is written (R146, R249, R251, R255, R266). -/
def State.carryDone (s : State) (n : Fin 24) (j : Nat) (h : Held) (p : Plan) : State :=
  let r : RecordData := ⟨.tag, .ok, n.val, p.no, 0xFE, h.stamp, s.heldContent n h, 0, false⟩
  let s1 := (s.modFifo (ix 24 n.val) (fun q => { q with openGroup := none })).writeGroup (ix 24 n.val) (packetsOf r none) none
  let s2 := (s1.modRod n (fun r =>
    { r with held := r.held.eraseIdx j,
             closed := r.closed.map (fun c => if c.held = some h.uid then { c with held := none } else c) })).markCarried h.uid
  let s3 := ((s2.addCounts n.val h.cnt).count F.ROD_SPEC_CARRIED_COUNT n.val).count F.ROD_ROUND_CARRIED_COUNT
  let s4 := (s3.modPlan n (fun p => { p with carried := p.carried + 1 })).tagCarried n h.uid
  let s5 :=
    match h.lateWrites with
    | none => s4
    | some ks =>
      let es := (ks.map (fun k => (⟨k, .timeout, []⟩ : Entry))).foldl
        (fun (acc : List Entry × Bool) e => let r := addEntry acc.1 e; (r.1, acc.2 || r.2)) ([], false)
      s4.emitWrite n p h.proto h.near h.strength h.nearRssi es.2 h.combined h.uid es.1 s.sys.timebase
  let s6 := State.startWaiting (ix 24 n.val) (s5.fifo (ix 24 n.val)).waiting.length s5
  (s6.discardDups h.uid).resumeTags

/-- CARRY_LENGTH_WORD (R249). -/
def execCarryLengthWord (n : Fin 24) (s : State) : Out :=
  .next (
    match (s.rod n).held.zipIdx.find? (fun p => p.1.carrying), s.plan? n with
    | some h, some p => s.carryDone n h.2 h.1 p
    | _, _ => s)

/-! ### Settings (R247, R248, R268, R270) -/

/-- Effect of a write to ROD_SPEC_CTL (R268). -/
def State.writeSpecCtl (s : State) (n : Nat) (w : Word) : State :=
  if bit w.toNat 0 then
    forAll [F.ROD_SPEC_CARRIED_COUNT, F.ROD_SPEC_DISCARD_FILTER_COUNT, F.ROD_SPEC_DISCARD_DUP_COUNT,
      F.ROD_SPEC_DISCARD_CRC_COUNT, F.ROD_SPEC_DISCARD_ROUND_END_COUNT, F.ROD_SPEC_DISCARD_FLUSH_COUNT,
      F.ROD_PREP_SENT_COUNT, F.ROD_PREP_DISCARD_COUNT] (fun f s => s.wr f n 0) s
  else s

/-- SPEC_CNT_CLR (R268). -/
def execSpecCntClr (n : Fin 24) (w : Word) (s : State) : Out :=
  .next (s.hostWrite (0x60CC + 0x100 * n.val) (fun s => s.writeSpecCtl n.val w))

/-- Effect of a write to ROD_FILT_CFG (R11, R248, R270): a reserved LOG2B leaves the field; a placement past tile 15 drops
the write as a whole. -/
def State.writeFiltCfg (s : State) (w : Word) : State :=
  let tile := bits w.toNat 7 4
  let asked := bits w.toNat 11 8
  let log2b := if 4 ≤ asked && asked ≤ 11 then asked else s.rd F.ROD_FILT_CFG_LOG2B
  if 16 < tile + (2 ^ log2b + 255) / 256 then s.setF F.ROD_INV_ERR_CFG
  else
    (((s.wr F.ROD_FILT_CFG_EN 0 (bits w.toNat 0 0)).wr F.ROD_FILT_CFG_TILE 0 tile).wr F.ROD_FILT_CFG_LOG2B 0
      log2b).checkOverlap

/-- FILTER_CFG_WRITE (R270). -/
def execFilterCfgWrite (w : Word) (s : State) : Out := .next (s.hostWrite 0x5040 (fun s => s.writeFiltCfg w))

/-- Effect of a write to ROD_DEDUP_CFG (R247, R270): it takes effect at the next round boundary. -/
def State.writeDedupCfg (s : State) (w : Word) : State :=
  let base := bits w.toNat 3 0
  let asked := bits w.toNat 6 4
  let tiles := if 1 ≤ asked && asked ≤ 4 then asked else s.rd F.ROD_DEDUP_CFG_TILES
  if 16 < base + tiles then s.setF F.ROD_INV_ERR_CFG
  else (s.wr F.ROD_DEDUP_CFG_BASE 0 base).wr F.ROD_DEDUP_CFG_TILES 0 tiles

/-- DEDUP_CFG_WRITE (R247). -/
def execDedupCfgWrite (w : Word) (s : State) : Out := .next (s.hostWrite 0x5044 (fun s => s.writeDedupCfg w))

end Sys2Proof.Machine
end

