-- ==== Sys2Proof/Machine/FieldCmds.lean ====
section
/-! DEFINITION. Commands of field sharing: coupling survey, cancellation taps, zones, field budget, shutdown release
(spec/04_field_sharing.md). -/

namespace Sys2Proof.Machine
open Sys2Proof

/-! ### Coupling survey (R172 to R180) -/

/-- Bank of a rod is ON. -/
def State.rodOn (s : State) (n : Fin 24) : Bool := s.isOn (bankOf n.val)

/-- Rods of a mask. -/
def maskRods (m : Nat) : List (Fin 24) := allRods.filter (fun n => bit m n.val)

/-- Set the survey's phase. -/
def State.setSurvey (s : State) (p : SurveyPhase) : State := { s with field := { s.field with survey := p } }

/-- A survey that does not start or ends early (R179). -/
def State.abortSurvey (s : State) (cause : Nat) : State :=
  ((((s.setSurvey .idle).hfSettle).setF F.FLD_SURVEY_STAT_ABORT).wr F.FLD_SURVEY_STAT_CAUSE 0 cause).kickAll

/-- No air exchange holds the rod's carrier up (R173). -/
def State.rodQuiet (s : State) (n : Fin 24) : Bool :=
  (match (s.rod n).air with | some x => x.phase == .ready | none => true) && !s.listening n.val

/-- START of a survey (R173, R179). A rod with no exchange on the air ramps its carrier down at once, another at the end of
its exchange. DESIGN CHOICE (log entry 66). -/
def State.startSurvey (s : State) : State :=
  let m := s.rd F.FLD_SURVEY_MASK_MASK
  if !s.pwr.hfLock then s.abortSurvey 1
  else if (maskRods m).any (fun n => !s.rodOn n) then s.abortSurvey 2
  else if s.field.shutdown then s.abortSurvey 3
  else
    let s1 := { s with field := { s.field with survey := .settling, mask := m, load := s.flag F.FLD_SURVEY_CTL_LOAD,
                                               surveyed := true } }
    forAll allRods (fun (n : Fin 24) (s : State) =>
      if s.rodQuiet n then s.surveyDown n else s) s1

/-- Effect of a write to FLD_SURVEY_CTL (R172, R180). -/
def State.writeSurveyCtl (s : State) (w : Word) : State :=
  if s.surveyBusy then when (bit w.toNat 0) (fun s => s.setF F.FLD_STAT_SURVEY_BUSY) s
  else
    let s1 := s.wr F.FLD_SURVEY_CTL_LOAD 0 (bits w.toNat 1 1)
    if bit w.toNat 0 then s1.startSurvey else s1

/-- SURVEY_START (R172, R173). -/
def execSurveyStart (w : Word) (s : State) : Out := .next (s.hostWrite 0x5104 (fun s => s.writeSurveyCtl w))

/-- Effect of a write to FLD_SURVEY_MASK (R180). -/
def State.writeSurveyMask (s : State) (w : Word) : State :=
  if s.surveyBusy then s else s.wr F.FLD_SURVEY_MASK_MASK 0 (bits w.toNat 23 0)

/-- Rods whose taps a survey chooses by descending |C|², the lower rod first among equals (R178). -/
def insByCoup (key : Nat → Nat) (m : Nat) : List Nat → List Nat
  | [] => [m]
  | k :: t => if key k < key m then m :: k :: t else k :: insByCoup key m t

/-- |C[i][j]|² of the coefficient in the registers. -/
def State.coupSq (s : State) (i j : Nat) : Nat :=
  let a := signedOf 16 (s.rd F.FLD_COUP_C_I (24 * i + j))
  let b := signedOf 16 (s.rd F.FLD_COUP_C_Q (24 * i + j))
  (a * a + b * b).toNat

/-- SRC field of tap `k`. -/
def tapSrc (k : Nat) : Fld :=
  [F.FLD_TAPSEL_SRC0, F.FLD_TAPSEL_SRC1, F.FLD_TAPSEL_SRC2, F.FLD_TAPSEL_SRC3, F.FLD_TAPSEL_SRC4,
    F.FLD_TAPSEL_SRC5].getD k F.FLD_TAPSEL_SRC0

/-- Taps chosen for rod `n` (R178). -/
def State.loadTaps (s : State) (n : Fin 24) : State :=
  let cand := ((maskRods s.field.mask).map (·.val)).filter (fun m => m != n.val && s.coupSq m n.val != 0)
  let best := (cand.foldl (fun acc m => insByCoup (fun k => s.coupSq k n.val) m acc) []).take 6
  forAll (List.range 6) (fun (k : Nat) (s : State) =>
    match best[k]? with
    | some m =>
      ((s.wr (tapSrc k) n.val m).wr F.FLD_TAPW_W_I (6 * n.val + k) (s.rd F.FLD_COUP_C_I (24 * m + n.val))).wr
        F.FLD_TAPW_W_Q (6 * n.val + k) (s.rd F.FLD_COUP_C_Q (24 * m + n.val))
    | none => s.wr (tapSrc k) n.val 0x1F) s

/-- The last slot has ended (R177, R178). -/
def State.endSurvey (s : State) : State :=
  let s1 := if s.field.load then forAll (maskRods s.field.mask) (fun n s => s.loadTaps n) s else s
  (((s1.setSurvey .idle).hfSettle).setF F.FLD_SURVEY_STAT_DONE).kickAll

/-- The slot of the next masked rod at or after `i` begins, or the survey ends (R174). -/
def State.nextSlot (s : State) (i : Nat) : State :=
  match (maskRods s.field.mask).find? (fun n => decide (i ≤ n.val)) with
  | some n => (s.setSurvey (.averaging n.val)).wr F.FLD_SURVEY_STAT_ROD 0 n.val
  | none => s.endSurvey

/-- SURVEY_BEGIN (R173, R174): every carrier has reached zero. -/
def execSurveyBegin (s : State) : Out :=
  .next (
    if s.field.survey = .settling && allRods.all (fun n => (s.rod n).carrier == .off || (s.rod n).carrier == .hold) then
      s.nextSlot 0
    else s)

/-- Is |C| more than MIN_COUP dB below 1 (R175)? C in units of 1/8,192. DEDUCED (log entry 20). -/
def belowFloor (m : Nat) (c : Int × Int) : Bool :=
  decide ((c.1 * c.1 + c.2 * c.2).toNat ^ 10 * 10 ^ m < 8192 ^ 20)

/-- A half of a coefficient as 16 bits (R175); the spec states no value for one outside the register's range.
DESIGN CHOICE (log entry 4). -/
def State.coupHalf (s : State) (v : Int) : State × Nat :=
  if -32768 ≤ v ∧ v ≤ 32767 then (s, ofSigned 16 v) else (s.drawFree.1, s.drawFree.2 % 65536)

/-- A coefficient as 32 bits (R175): C_I in the low half, C_Q in the high half; one below the floor is 0, unless the receiver
clipped. -/
def State.coefficient (s : State) (clipped : Bool) (v : Int × Int) : State × Nat :=
  if !clipped && belowFloor (s.rd F.FLD_TAP_CFG_MIN_COUP) v then (s, 0)
  else
    let a := s.coupHalf v.1
    let b := a.1.coupHalf v.2
    (b.1, a.2 + 65536 * b.2)

/-- SURVEY_AVERAGE_END (R174, R175): the phasors averaged in the slot, in units of 1/81,920 of ADC full scale for the rods
0–23, so that each is also its coefficient in units of 1/8,192; and the receivers whose ADC clipped.
DEDUCED (log entry 20). -/
def execSurveyAverageEnd (v : List (Int × Int)) (clipped : List Nat) (s : State) : Out :=
  .next (
    match s.field.survey with
    | .averaging i =>
      let m := maskRods s.field.mask
      let s1 := { s with field := { s.field with survey := .tail i (m.any (fun j => clipped.contains j.val)), row := [] } }
      forAll m (fun (j : Fin 24) (s : State) =>
        let c := s.coefficient (clipped.contains j.val) (v.getD j.val (0, 0))
        { c.1 with field := { c.1.field with row := c.1.field.row ++ [(j.val, c.2)] } }) s1
    | _ => s)

/-- Value of column `j` of the measured row: not measured reads 0x8000 in both halves (R176). -/
def State.rowAt (s : State) (j : Nat) : Nat :=
  match s.field.row.find? (fun p => p.1 == j) with
  | some p => p.2
  | none => 0x80008000

/-- SURVEY_SLOT_END (R174, R176): the FLD_COUP row and the SURVEY record; after the last slot the survey ends.
DEDUCED (log entry 20). -/
def execSurveySlotEnd (s : State) : Out :=
  .next (
    match s.field.survey with
    | .tail i clip =>
      let s1 := forAll (List.range 24) (fun (j : Nat) (s : State) =>
        (s.wr F.FLD_COUP_C_I (24 * i + j) (s.rowAt j)).wr F.FLD_COUP_C_Q (24 * i + j) (s.rowAt j / 65536)) s
      let content := leBytes 1 i ++ leBytes 1 (b2n clip) ++ leBytes 2 0
        ++ ((List.range 24).map (fun j => leBytes 4 (s.rowAt j))).flatten
      let s2 := s1.emit 24 [⟨.survey, .ok, unitSys, 0xFFFF, 0xFF, s.sys.timebase, content, 0, false⟩] none
      s2.nextSlot (i + 1)
    | _ => s)

/-- A bank left ON during a survey that masks one of its rods (R179). -/
def State.surveyBankLost (s : State) : State :=
  if s.surveyBusy && (maskRods s.field.mask).any (fun n => !s.rodOn n) then s.abortSurvey 2 else s

/-! ### Cancellation taps (R181 to R187) -/

/-- A write to FLD_TAPSEL or FLD_TAPW waits for the pilot-period boundary (R186). -/
def State.writeTap (s : State) (addr : Nat) (w : Word) : State :=
  if 0x5200 ≤ addr && addr < 0x5260 then
    { s with field := { s.field with tapPend := s.field.tapPend ++ [((addr - 0x5200) / 4, none, w.toNat)] } }
  else if 0x5300 ≤ addr && addr < 0x5540 then
    { s with field := { s.field with
      tapPend := s.field.tapPend ++ [((addr - 0x5300) / 0x18, some ((addr - 0x5300) % 0x18 / 4), w.toNat)] } }
  else s

/-- TAP_WRITE (R186). -/
def execTapWrite (addr : Nat) (w : Word) (s : State) : Out := .next (s.hostWrite addr (fun s => s.writeTap addr w))

/-- A legal SRC value for rod `n` (R187). -/
def legalSrc (n v : Nat) : Bool := v == 0x1F || (decide (v < 24) && v != n)

/-- A waiting tap write takes effect (R186, R187): reserved encodings leave their field (R11). -/
def State.applyTap (s : State) (p : Nat × Option Nat × Nat) : State :=
  match p.2.1 with
  | none =>
    forAll (List.range 6) (fun (k : Nat) (s : State) =>
      let v := bits p.2.2 (5 * k + 4) (5 * k)
      if legalSrc p.1 v then s.wr (tapSrc k) p.1 v else s) s
  | some k => (s.wr F.FLD_TAPW_W_I (6 * p.1 + k) p.2.2).wr F.FLD_TAPW_W_Q (6 * p.1 + k) (p.2.2 / 65536)

/-- A weight half after a correction, saturated at the register's range (R185); true: it saturated. -/
def satHalf (v : Int) : Nat × Bool :=
  if v < -32768 then (0x8000, true) else if 32767 < v then (0x7FFF, true) else (ofSigned 16 v, false)

/-- The update of tap `k` of rod `n` with source `m` is skipped (R184, R186). -/
def State.tapSkipped (s : State) (clipped : List Nat) (n k m : Nat) : Bool :=
  let f := s.field
  let others := ((List.range 6).map (fun j => s.rd (tapSrc j) n)).filter (fun o => o != m && o != 0x1F)
  !s.flag F.FLD_CTL_TRACK_EN || f.notOn.contains n || f.notOn.contains m || f.inAir.contains n || f.inAir.contains m
    || clipped.contains n || f.surveyed
    || (s.flag F.FLD_CTL_FREEZE_MOD && others.any (fun o => f.modulated.contains o))
    || f.tapPend.any (fun p => p.1 == n && (p.2.1 == none || p.2.1 == some k))

/-! #### Numbers of the cancellation (R181 to R183) -/

/-- A(c) = 10^(c/20) in units of 2⁻³², to the nearest whole number. DEDUCED (log entry 79). -/
def ampOf (c : Nat) : Nat := [4294967296, 4819032567, 5407043472, 6066802559, 6807064429, 7637651909, 8569586390, 9615234075, 10788470075, 12104862517, 13581879131, 15239119029, 17098572778].getD c 4294967296

/-- G = 10^(3·GAIN/20) in units of 2⁻³², to the nearest whole number. DEDUCED (log entry 79). -/
def gainOf (g : Nat) : Nat := [4294967296, 6066802559, 8569586390, 12104862517, 17098572778, 24152376009, 34116137904, 48190325667].getD g 4294967296

/-- cos(2π·k/64) in units of 2⁻³², for k = 0 to 16. DEDUCED (log entry 79). -/
def cosQuarter : List Int := [4294967296, 4274285855, 4212440704, 4110027446, 3968032378, 3787822988, 3571134792, 3320054617, 3037000500, 2724698408, 2386155981, 2024633568, 1643612827, 1246763195, 837906553, 420980412, 0]

/-- cos(2π·k/64) in units of 2⁻³². -/
def cos64 (k : Nat) : Int :=
  let j := k % 64
  if j ≤ 16 then cosQuarter.getD j 0
  else if j ≤ 32 then -cosQuarter.getD (32 - j) 0
  else if j ≤ 48 then -cosQuarter.getD (j - 32) 0
  else cosQuarter.getD (64 - j) 0

/-- sin(2π·k/64) in units of 2⁻³². -/
def sin64 (k : Nat) : Int := cos64 (k + 48)

/-- Bits of the register x^6 + x^5 + 1 from a window of six on, oldest first (R182). -/
def chipBits : Nat → List Bool → List Bool
  | 0, _ => []
  | fuel + 1, w => w.headD false :: chipBits fuel (w.tail ++ [xor (w.headD false) (w.getD 5 false)])

/-- The 63-chip sequence m (R182): the register is seeded with 0b000001, its low bit first; bit 1 gives +1.
DEDUCED (log entry 79). -/
def pilotChips : List Int :=
  (chipBits 63 [true, false, false, false, false, false]).map (fun b => if b then 1 else -1)

/-- Pilot of rod `r` in chip `c` (R182): p_r(c) = m((c + 2r) mod 63). -/
def pilotChip (r c : Nat) : Int := pilotChips.getD ((c + 2 * r) % 63) 0

/-- Rod `r` sends the pilot (R182): its carrier is ON, TRACK_EN = 1, and it neither speaks nor listens. -/
def State.sendsPilot (s : State) (r : Nat) : Bool :=
  s.flag F.FLD_CTL_TRACK_EN && (s.rod (ix 23 r)).carrier == .on && !s.field.inAir.contains r

/-- Rod `r` was not steady in the period: its carrier was not ON throughout, or an exchange was on the air in which it spoke
or listened. -/
def State.unsteady (s : State) (r : Nat) : Bool := s.field.notOn.contains r || s.field.inAir.contains r

/-- Envelope of rod `r` averaged over chip `c`, in units of 10⁻⁹ (R181, R182): 0 while OFF and HOLD; the full amplitude with the
pilot's 1 % for a steady carrier; as `env` reports it for one that ramped, modulated or paused its pilot for an exchange. -/
def State.envelope (s : State) (env : List (Nat × List Int)) (r c : Nat) : Int :=
  if !s.field.sourced.contains r then 0
  else
    match (env.find? (fun p => p.1 == r)).filter (fun _ => s.unsteady r) with
    | some p => max 0 (min 1010000000 (p.2.getD c 0))
    | none => 1000000000 + (if s.sendsPilot r then 10000000 * pilotChip r c else 0)

/-- Product of complex numbers. -/
def cmul (a b : Int × Int) : Int × Int := (a.1 * b.1 - a.2 * b.2, a.1 * b.2 + a.2 * b.1)

/-- Weight of tap `k` of rod `n`, in units of 1/8,192 (R181). -/
def State.weight (s : State) (n k : Nat) : Int × Int :=
  (signedOf 16 (s.rd F.FLD_TAPW_W_I (6 * n + k)), signedOf 16 (s.rd F.FLD_TAPW_W_Q (6 * n + k)))

/-- The sum over the used taps that rod `n` subtracts from its baseband in chip `c` (R181, R187), in units of
10⁻⁹ / (8,192 · 2⁹⁶): G_n · Σ W · A(POWER_s) · e_s · (cos θ_s + j sin θ_s). Two taps with one source both act. -/
def State.correction (s : State) (env : List (Nat × List Int)) (n c : Nat) : Int × Int :=
  (List.range 6).foldl (fun (acc : Int × Int) (k : Nat) =>
    let r := s.rd (tapSrc k) n
    if r = 0x1F then acc
    else
      let src := s.rod (ix 23 r)
      let a : Int := s.envelope env r c * (ampOf src.code : Int) * (gainOf (s.rod (ix 23 n)).gain : Int)
      let v := cmul (s.weight n k) (cos64 src.phase, sin64 src.phase)
      (acc.1 + a * v.1, acc.2 + a * v.2)) (0, 0)

/-- The corrected baseband y_n averaged over chip `c` (R181), in the units of `State.correction`. -/
def State.corrected (s : State) (x : PilotReport) (n c : Nat) : Int × Int :=
  let raw := match x.base.find? (fun p => p.1 == n) with | some p => p.2.getD c (0, 0) | none => (0, 0)
  let u : Int := 8192 * 2 ^ 96
  let k := s.correction x.env n c
  (u * raw.1 - k.1, u * raw.2 - k.2)

/-- Sum of complex numbers over the chips of a period. -/
def chipSum (f : Nat → Int × Int) : Int × Int :=
  (List.range 63).foldl (fun (acc : Int × Int) c => (acc.1 + (f c).1, acc.2 + (f c).2)) (0, 0)

/-- 63² · E_k of rod `n` for source `r` (R183): the correlation of the pilot with y_n, whose period mean is removed. -/
def State.residual (s : State) (x : PilotReport) (n r : Nat) : Int × Int :=
  let y := (List.range 63).map (s.corrected x n)
  let a := chipSum (fun c => let p := pilotChip r c; (p * (y.getD c (0, 0)).1, p * (y.getD c (0, 0)).2))
  let m := chipSum (fun c => y.getD c (0, 0))
  let ps := (chipSum (fun c => (pilotChip r c, 0))).1
  (63 * a.1 - ps * m.1, 63 * a.2 - ps * m.2)

/-- A quotient rounded down or, where it is no whole number, perhaps up: the spec states no rounding.
DESIGN CHOICE (log entry 73). -/
def roundFree (a b : Int) : Int := a / b + (if a % b != 0 && Config.tapUp a b then 1 else 0)

/-- The correction of a weight for source `r` on rod `n` (R183), in units of 1/8,192:
2^(−STEP) · E_k · (cos θ − j sin θ) / (0.01 · G_n · A(POWER)). -/
def State.tapStep (s : State) (x : PilotReport) (n r : Nat) : Int × Int :=
  let src := s.rod (ix 23 r)
  let num := cmul (s.residual x n r) (cos64 src.phase, -sin64 src.phase)
  let den : Int := 3969 * 2 ^ s.rd F.FLD_CTL_STEP * 10000000 * (gainOf (s.rod (ix 23 n)).gain : Int)
    * (ampOf src.code : Int) * 2 ^ 64
  (roundFree num.1 den, roundFree num.2 den)

/-- The update of one tap (R183, R185), computed in state `o`, that at the end of the period. -/
def State.trackTapFrom (s o : State) (x : PilotReport) (clipped : List Nat) (n k : Nat) : State :=
  let m := o.rd (tapSrc k) n
  if m = 0x1F || o.tapSkipped clipped n k m then s
  else
    let d := o.tapStep x n m
    let i := satHalf (signedOf 16 (o.rd F.FLD_TAPW_W_I (6 * n + k)) + d.1)
    let q := satHalf (signedOf 16 (o.rd F.FLD_TAPW_W_Q (6 * n + k)) + d.2)
    when (i.2 || q.2) (fun s => s.setF F.FLD_STAT_TAP_SAT)
      ((s.wr F.FLD_TAPW_W_I (6 * n + k) i.1).wr F.FLD_TAPW_W_Q (6 * n + k) q.1)

/-- PILOT_PERIOD_END (R183 to R186): every used tap is updated from the weights in force during the period, then the waiting
writes take effect, and the notes of a new period begin. DESIGN CHOICE (log entry 73). -/
def execPilotPeriodEnd (x : PilotReport) (clipped : List Nat) (s : State) : Out :=
  .next (
    let steps := ((List.range 24).map (fun n => (List.range 6).map (fun k => (n, k)))).flatten
    let s1 := forAll steps (fun (p : Nat × Nat) (t : State) => t.trackTapFrom s x clipped p.1 p.2) s
    let s2 := forAll s.field.tapPend (fun (p : Nat × Option Nat × Nat) (s : State) => s.applyTap p) s1
    let on := fun (n : Fin 24) => (s.rod n).carrier == .on
    let spk := fun (n : Fin 24) => match (s.rod n).air with | some x => x.phase != AirPhase.ready | none => false
    let tx := fun (n : Fin 24) => match (s.rod n).air with | some x => x.phase == AirPhase.tx | none => false
    { s2 with field := { s2.field with
      tapPend := [], notOn := (allRods.filter (fun n => !on n)).map (·.val),
      inAir := (allRods.filter (fun n => spk n || s.listening n.val)).map (·.val),
      modulated := (allRods.filter tx).map (·.val), surveyed := s.surveyBusy,
      sourced := (allRods.filter (fun n => (s.rod n).carrier != .off && (s.rod n).carrier != .hold)).map (·.val) } })

/-! ### Zones (R188 to R195) -/

/-- Zone that FLD_ZMAP gives a rod (R188). -/
def State.zoneAsked (s : State) (n : Nat) : Option Nat :=
  let f := bits (s.rd F.FLD_ZMAP_MAP (n / 8)) (4 * (n % 8) + 3) (4 * (n % 8))
  if bit f 3 then some (f % 8) else none

/-- The rod speaks or listens: it holds its zone's grant, or listens to an exchange, or an exchange of its own is on
the air. -/
def State.rodEngaged (s : State) (n : Fin 24) : Bool :=
  s.listening n.val || (match (s.rod n).air with | some x => x.phase != AirPhase.ready | none => false)
    || (match (s.rod n).zone with | some z => s.speaker (ix 7 z) == some n.val | none => false)

/-- A waiting zone change takes effect (R189, R194): NEXT_MIN of the new zone holds for the rod (R192), and it listens to an
exchange of it (R196). -/
def State.changeZone (s : State) (n : Fin 24) (z : Option Nat) : State :=
  let gap := match z with | some k => (s.zoneRods k).any (fun m => (s.rod m).gap) | none => false
  ((s.modRod n (fun r =>
    { r with zone := z, zonePend := none, gap := r.gap || gap,
             req := if z.isSome then r.req.map (fun q => { q with runs := 0 }) else none })).joinListen n).raiseReq n

/-- The change that FLD_ZMAP asks of a rod: at once where the rod stands at a boundary already, otherwise it waits
(R189). -/
def State.askZone (s : State) (n : Fin 24) : State :=
  let r := s.rod n
  let z := s.zoneAsked n.val
  if r.zone = z then s.modRod n (fun r => { r with zonePend := none })
  else
    let now := !s.rodEngaged n && (match r.zone with | some o => !s.zoneBusy o | none => true)
    if now then s.changeZone n z else s.modRod n (fun r => { r with zonePend := some z })

/-- Effect of a write to FLD_ZMAP (R188, R189). -/
def State.writeZoneMap (s : State) (g : Nat) (w : Word) : State :=
  forAll (List.range 8) (fun (i : Nat) (s : State) => s.askZone (ix 23 (8 * g + i))) (s.wr F.FLD_ZMAP_MAP g w.toNat)

/-- ZONE_MAP_WRITE (R189). -/
def execZoneMapWrite (g : Fin 3) (w : Word) (s : State) : Out :=
  .next (s.hostWrite (0x5120 + 4 * g.val) (fun s => s.writeZoneMap g.val w))

/-- ZONE_CHANGE_EFFECT (R189): the old zone stands between two units and the rod is silent. -/
def execZoneChangeEffect (n : Fin 24) (s : State) : Out :=
  .next (
    match (s.rod n).zonePend with
    | some z =>
      let boundary := match (s.rod n).zone with
        | some o => (s.speaker (ix 7 o)).isNone && !s.zoneBusy o
        | none => true
      if boundary && !s.rodEngaged n then s.changeZone n z else s
    | none => s)

/-- The rod whose number follows the last granted one, counting upward with wrap (R193). -/
def followsIn (last : Nat) (cand : List Nat) : Option Nat :=
  ((List.range 24).map (fun i => (last + 1 + i) % 24)).find? cand.contains

/-- The request that the next decision of a zone grants (R193, R194). -/
def State.grantChoice (s : State) (z : Fin 8) : Option Nat :=
  let reqs := (s.zoneRods z.val).filterMap (fun n => (s.rod n).req.map (fun q => (n.val, q)))
  let host := (reqs.filter (fun p => p.2.host)).map (·.1)
  let plan := reqs.filter (fun p => !p.2.host)
  let h := s.rd F.FLD_CTL_HOST_RUN
  let planWins := h != 0 && plan.any (fun p => decide (h ≤ p.2.runs))
  let cand := if host.isEmpty || planWins then plan.map (·.1) else host
  followsIn (vget s.field.lastGrant z) cand

/-- A zone grants the speaker role to rod `n` (R193, R194). -/
def State.grant (s : State) (z : Fin 8) (n : Fin 24) : State :=
  let host := match (s.rod n).req with | some q => q.host | none => false
  let s1 := s.modRod n (fun r => { r with req := none })
  let s2 := (s1.setSpeaker z (some n.val))
  let s3 := { s2 with field := { s2.field with lastGrant := vset s2.field.lastGrant z n.val } }
  if host then
    forAll (s3.zoneRods z.val) (fun (m : Fin 24) (s : State) =>
      s.modRod m (fun r => { r with req := r.req.map (fun q => if q.host then q else { q with runs := q.runs + 1 }) })) s3
  else s3

/-- ZONE_GRANT (R193). -/
def execZoneGrant (z : Fin 8) (s : State) : Out :=
  .next (
    match s.speaker z, s.grantChoice z with
    | none, some n => s.grant z (ix 23 n)
    | _, _ => s)

/-! ### Field budget (R201 to R205) -/

/-- The start at the head of the queue (R203). -/
def State.queueHead? (s : State) : Option Start := s.field.queue.head?

/-- BUDGET_START_ALLOWED (R202 to R204): the head of the queue fits; no start is made during a survey or shutdown, with the
PLL unlocked, or after the NLT of its transaction. -/
def execBudgetStartAllowed (s : State) : Out :=
  .next (
    match s.queueHead? with
    | some p =>
      let n := ix 23 p.rod
      match (s.overdue? n).filter (fun t => p.owner == some t.id) with
      | some t => s.endLate n t
      | none =>
        let able := (s.rod n).carrier == .on || ((s.rod n).carrier == .off && s.pwr.hfLock && s.isOn (bankOf n.val)
          && !s.padsHeld (bankOf n.val))
        if able && s.startFits n p.code && !s.surveyBusy && !s.field.shutdown then
          (s.setQueue s.field.queue.tail).makeStart n p.code
        else s
    | none => s)

/-- Effect of a write to FLD_BUDGET (R11, R205). -/
def State.writeBudget (s : State) (w : Word) : State :=
  let l := bits w.toNat 12 0
  let t := bits w.toNat 28 16
  let s1 := if l ≤ 6000 then s.wr F.FLD_BUDGET_LIMIT 0 l else s
  if t ≤ 6000 then s1.wr F.FLD_BUDGET_THR_LIMIT 0 t else s1

/-- BUDGET_LIMIT_WRITE (R205). -/
def execBudgetLimitWrite (w : Word) (s : State) : Out := .next (s.hostWrite 0x5180 (fun s => s.writeBudget w))

/-! ### Release of a shutdown (R206, R209) -/

/-- Latest reading of sensor `i`, in units of 0.25 °C. -/
def State.temp (s : State) (i : Nat) : Int := signedOf 16 (s.rd F.FLD_TEMP_TEMP i)

/-- Effect of a write to FLD_THERM (R206, R209): every reading must be at or below 115.00 °C. -/
def State.writeTherm (s : State) (w : Word) : State :=
  if bit w.toNat 0 && s.field.shutdown && (List.range 4).all (fun i => decide (s.temp i ≤ 460)) then
    { s with field := { s.field with shutdown := false } }
  else s

/-- SHUTDOWN_CLEAR (R209). -/
def execShutdownClear (w : Word) (s : State) : Out := .next (s.hostWrite 0x51A0 (fun s => s.writeTherm w))

/-- Rods at thermal shutdown (R208): carriers at zero in HOLD, transactions ABORTED, invocations ended, held records
discarded. -/
def State.rodsShutdown (s : State) : State :=
  let s1 := s.setQueue []
  let s2 := forAll allRods (fun (n : Fin 24) (s : State) =>
    let live := s.txns.filter (fun u => u.unit == n.val && u.live && u.dispatched)
    let a := (s.endRodTxns n live .aborted).killPlan n .aborted
    ((State.discardAll n .flush a).flushProducer (ix 24 n.val)).carrierGone n (if s.rodOn n then .hold else .off)) s1
  let s3 := if s2.surveyBusy then s2.abortSurvey 3 else s2
  s3.resumeTags

end Sys2Proof.Machine
end

