-- ==== Sys2Proof/Machine/PeriCmds.lean ====
section
/-! DEFINITION. The serial master port and the general-purpose pins (spec/13_timers_crc_serial.md, R567 to R577). -/

namespace Sys2Proof.Machine
open Sys2Proof

/-! ### The serial master (R568 to R575) -/

/-- BAD_DESCRIPTOR of an XFER (R66, R572). DESIGN CHOICE (log entry 18). -/
def xferBad (d : Desc) : Bool :=
  let b := descByte d
  let zero := fun (o n : Nat) => descField d o n != 0
  decide (4 ≤ b 16) || decide (8 ≤ b 17) || decide (32 < b 18) || decide (32 < b 19) || decide (31 < b 20)
    || decide (64 ≤ b 21) || lanesOf d 0 == 0 || lanesOf d 1 == 0 || lanesOf d 2 == 0 || decide (4096 < xferLen d)
    || zero 35 1 || zero 38 2
    || b 18 % lanesOf d 0 != 0 || b 19 % lanesOf d 1 != 0
    || (xferInline d && (xferRead d || decide (24 < xferLen d)))
    || (if xferInline d then zero (40 + min 24 (xferLen d)) (24 - min 24 (xferLen d)) else zero 48 16)
    || (!xferRead d && !xferInline d && xferLen d != 0 && descField d 40 8 == 0)
    || (if xferStat d then b 34 == 0 || descField d 36 2 == 0 else zero 32 3 || zero 36 2)

/-- The groups of a SERIAL record (R467, R573): at most 8 fragments each, MORE set in the last fragment of a group that
another one follows; `early`: the transfer ended before its last byte. `stamp`: when a group is closed after which so many
bytes were still read. -/
def serialGroups (r : RecordData) (data : List Byte) (early : Bool) (stamp : Nat → DWord) : List RecordData :=
  let gs := chunks Byte 1824 (data.length / 1824 + 1) data
  let tailPiece := early && data.length % 1824 == 0
  gs.zipIdx.map (fun g =>
      { r with content := g.1, frag := 8 * g.2, more := decide (g.2 + 1 < gs.length) || tailPiece,
               stamp := if g.1.length = 1824 then stamp (data.length - 1824 * (g.2 + 1)) else r.stamp })
    ++ (if tailPiece then [{ r with content := [], frag := 8 * gs.length, more := false }] else [])

/-- Time from the end of a byte of read data to the end of its frame, in µs rounded up: `left` more bytes and HOLD (R567 to
R569). DESIGN CHOICE (log entry 36). -/
def readTail (set : SpiSet) (lanes left : Nat) : Nat := ((left * (8 / lanes) * 2 + set.hold) * set.div + 239) / 240

/-- The records of a transfer that has ended (R573): SERIAL for read data without a host buffer, then RESULT. A group is
stamped with the time its eighth fragment was full. DESIGN CHOICE (log entry 36). -/
def State.xferRecords (s : State) (t : Txn) (st : Status) (got : List Byte) (count frames status : Nat) : State :=
  let base : RecordData := ⟨.serial, .ok, unitSpi, t.tag, t.tagSq, s.sys.timebase, [], 0, false⟩
  let stamp := fun (left : Nat) => s.sys.timebase
    - BitVec.ofNat 64 (readTail (t.spi.getD (s.spiSet (descByte t.desc 16 % 4))) (lanesOf t.desc 2) left)
  let s1 :=
    if xferRead t.desc && descField t.desc 40 8 == 0 && !got.isEmpty then
      forAll (serialGroups base got (decide (got.length < xferLen t.desc)) stamp)
        (fun (r : RecordData) (s : State) => s.emit 24 [r] (some t.id)) s
    else s
  s1.emitAcc .result st unitSpi t s.sys.timebase
    (leBytes 4 count ++ leBytes 1 frames ++ leBytes 1 status ++ leBytes 2 0)

/-- A dispatched XFER ends with a status (R573, R574), and the next frame may start. DESIGN CHOICE (log entry 36). -/
def State.endXfer (s : State) (t : Txn) (st : Status) (got : List Byte) (count frames status : Nat) : State :=
  ((({ s with spi := if s.spi.any (fun (r : SpiRun) => r.txn == t.id) then none else s.spi }).xferRecords t st got count frames
    status).finish t.id st).serialNext

/-- The data phase of a transfer passes the CRC units and reaches its buffer (R561, R573). -/
def State.dataPhase (s : State) (d : Desc) (l : List Byte) : State :=
  let s1 := s.dataOut (descByte d 16 % 4) (xferHead d) (xferRead d) l
  if xferRead d && descField d 40 8 != 0 && !l.isEmpty then s1.bufWrite (descField d 40 8) l else s1

/-- XFER (R102, R571, R572, R574): its first frame starts, with the settings in force at its dispatch (R22), or it is LATE.
`buf`: the bytes fetched from its host buffer. -/
def execXfer (buf : List Byte) (s : State) : Out :=
  .next (onSome (s.takeHead? unitSpi 1) (fun (t : Txn) (s : State) =>
    if s.nltPassed t.desc then s.endXfer t .late [] 0 0 0
    else if s.spi.isNone && s.wireFree && s.xferReady t.desc then
      let data := if xferRead t.desc then []
        else (if xferInline t.desc then descBytes t.desc 40 24 else padTo (xferLen t.desc) buf).take (xferLen t.desc)
      let cs := descByte t.desc 16 % 4
      (({ s.run t.id with spi := some ⟨t.id, 1, 0, true, 0, data, none, false, 0⟩ }).modSerial (fun x =>
        { x with last := false })).frameOut cs (t.spi.getD (s.spiSet cs)) (xferHead t.desc) (xferLen t.desc)
    else s) s)

/-- The data that a frame of a transfer has moved: none before its status phase or after a busy status byte (R570, R574). -/
def xferData (r : SpiRun) (d : Desc) (e : SpiEnd) (busy : Bool) : List Byte :=
  if (xferStat d && e.status.isNone) || busy then []
  else if xferRead d then e.data.take (xferLen d) else r.out.take e.sent

/-- A frame of the running transfer ends (R568, R570, R573, R574). Only a cut frame ends before its status phase or with part
of its data, and data for a host buffer come only while they may be written (R102). -/
def State.xferFrameEnd (s : State) (r : SpiRun) (t : Txn) (e : SpiEnd) : State :=
  let d := t.desc
  let status := if xferStat d then (e.status.map (· % 256)).getD r.lastStatus else 0
  let busy := xferStat d && e.status.any (fun b => b % 256 &&& descByte d 32 == descByte d 33)
  let l := xferData r d e busy
  if xferRead d && descField d 40 8 != 0 && !l.isEmpty && !s.mayDma then s
  else if r.cut.isNone && ((xferStat d && e.status.isNone) || (!busy && decide (l.length < xferLen d))) then s
  else
    let s1 := (s.count F.SPI_CNT_FRAME_COUNT).dataPhase d l
    match r.cut with
    | some st => s1.endXfer t st l l.length r.frames status
    | none =>
      if !busy then s1.endXfer t .ok l l.length r.frames status
      else if descByte d 34 ≤ r.busy + 1 then s1.endXfer t .busyTimeout [] 0 r.frames status
      else
        ({ s1 with spi := some { r with busy := r.busy + 1, onWire := false, due := false, lastStatus := status,
                                        waitFrom := s.pwr.aonMicros } }).serialNext

/-- SPI_FRAME_END (R568, R571, R575): a frame of the mirror, or of the running transfer, has ended. -/
def execSpiFrameEnd (e : SpiEnd) (s : State) : Out :=
  .next (
    if !s.isOn .core then s
    else if e.mirror then
      match s.serial.frames with
      | f :: rest => if s.serial.onWire then s.mirrorFrameEnd f rest e.status e.data else s
      | [] => s
    else
      match s.spi with
      | some r =>
        if r.onWire then onSome (s.txn? r.txn) (fun (t : Txn) (s : State) => s.xferFrameEnd r t e) s else s
      | none => s)

/-- The retry wait of the running XFER is the one that ends: the mirror has none, or its RETRY_INT is over.
DESIGN CHOICE (log entry 36). -/
def State.xferWaitEnds (s : State) (r : SpiRun) : Bool :=
  !r.onWire && !r.due
    && (s.serial.retry != .waiting
      || (s.txn? r.txn).any (fun t => decide (r.waitFrom + descField t.desc 36 2 ≤ s.pwr.aonMicros)))

/-- SPI_RETRY_EXPIRY (R570, R571): the wait after a busy status byte is over; the whole frame is sent again when its turn
comes. DESIGN CHOICE (log entry 36). -/
def execSpiRetryExpiry (s : State) : Out :=
  .next (
    if !s.isOn .core then s
    else
      match s.spi.filter (fun r => s.xferWaitEnds r) with
      | some r => ({ s with spi := some { r with due := true } }).serialNext
      | none =>
        if s.serial.retry = .waiting then (s.modSerial (fun x => { x with retry := .due })).serialNext else s)

/-- SPI_NLT_EXPIRY (R574): an XFER whose first frame has not started by its NLT completes LATE. -/
def execSpiNltExpiry (s : State) : Out :=
  .next (onSome (s.txns.find? (fun t => t.unit == unitSpi && t.op == 1 && t.isQueued && s.nltPassed t.desc))
    (fun (t : Txn) (s : State) => s.endXfer t .late [] 0 0 0) s)

/-- The running transfer is cut with a status (R574): at once in a retry wait, otherwise at the end of its frame.
DESIGN CHOICE (log entry 36). -/
def State.cutXfer (s : State) (st : Status) : State :=
  match s.spi with
  | some r =>
    onSome (s.txn? r.txn) (fun (t : Txn) (s : State) =>
      if r.onWire then { s with spi := some { r with cut := r.cut.or (some st) } }
      else s.endXfer t st [] 0 r.frames r.lastStatus) s
  | none => s

/-- FLUSH of the serial master (R574): every XFER fetched earlier ends FLUSHED. -/
def State.spiFlush (s : State) : State :=
  forAll (s.txns.filter (fun t => t.unit == unitSpi && t.op == 1)) (fun (t : Txn) (s : State) =>
    match t.phase with
    | .staged => s.finish t.id .flushed
    | .queued => s.endXfer t .flushed [] 0 0 0
    | .running => s.cutXfer .flushed
    | .done _ => s) s

/-! ### General-purpose pins (R576, R577) -/

/-- The edges of lock triggers that a change of level makes (R338, R576): `ch` the pins that changed to the levels `v`. -/
def State.pinTriggers (s : State) (ch v : Nat) : State :=
  forAll (List.range 4) (fun (l : Nat) (s : State) =>
    let k := s.rd F.ACC_LOCK_TRIG_GPIO l
    let e := s.rd F.ACC_LOCK_TRIG_EDGE l
    if bit ch k && (e == 3 || (e == 1 && bit v k) || (e == 2 && !bit v k)) then s.trigger 3 l else s) s

/-- Synchronised levels become `v`: a rising pin is a tick of the timers with CLK = EXT on it (R550), each changed pin an edge of
its capture signal (R555); enabled pins that change open the gathering window (R577), and selected edges are triggers of their
locks (R338). -/
def State.setPins (s : State) (v : Nat) : State :=
  let old := s.rd F.GPIO_IN_PINS
  let all := old ^^^ (v % 65536)
  let ch := all &&& s.rd F.GPIO_EVT_EN_PINS
  let s1 := s.wr F.GPIO_IN_PINS 0 v
  let s2 := if all = 0 then s1
    else (s1.tickAll 2 (fun s n => let k := s.rd F.TMR_CTL_EXT_PIN n.val; bit all k && bit v k)).signalEdges 0x10 16 old (v % 65536)
  (if ch = 0 then s2
   else { s2 with gpio := { s2.gpio with window := true, changed := s2.gpio.changed ||| ch } }).pinTriggers all v

/-- Bits of `v` where `m` is 1, bits of `u` elsewhere. -/
def mixBits (m v u : Nat) : Nat := (v &&& m) ||| (u &&& (65535 - m % 65536))

/-- Output pins show the level driven (R576); while the pads of CORE are held they keep their levels (R601).
DESIGN CHOICE (log entry 37). -/
def State.drivePins (s : State) : State :=
  if s.padsHeld .core then s
  else s.setPins (mixBits (s.rd F.GPIO_DIR_PINS) (s.rd F.GPIO_OUT_PINS) (s.rd F.GPIO_IN_PINS))

/-- Write of GPIO_DIR or GPIO_OUT (R576). -/
def writeGpioOut (addr : Nat) (w : Word) (s : State) : State :=
  (s.wr (if addr = 0xE800 then F.GPIO_DIR_PINS else F.GPIO_OUT_PINS) 0 (bits w.toNat 15 0)).drivePins

/-- The synchronised level of an input pin changes. DESIGN CHOICE (log entry 37). -/
def State.pinLevel (s : State) (k : Fin 16) (level : Bool) : State :=
  if s.isOn .core && !bit (s.rd F.GPIO_DIR_PINS) k.val then
    s.setPins (mixBits (2 ^ k.val) (if level then 65535 else 0) (s.rd F.GPIO_IN_PINS))
  else s

/-- GPIO_EDGE (R338, R577): the synchronised level of an input pin changes. DESIGN CHOICE (log entry 37). -/
def execGpioEdge (k : Fin 16) (level : Bool) (s : State) : Out := .next (s.pinLevel k level)

/-- A lock names pin `k` with an edge (R338). -/
def State.triggerPin (s : State) (k : Nat) : Bool :=
  (List.range 4).any (fun l => s.rd F.ACC_LOCK_TRIG_GPIO l == k && s.rd F.ACC_LOCK_TRIG_EDGE l != 0)

/-- ACC_GPIO_TRIGGER (R338, R576): the level of an input pin that some lock names changes. The same change of level as in
GPIO_EDGE: whichever command tells it first makes it. DESIGN CHOICE (log entry 37). -/
def execAccGpioTrigger (k : Fin 16) (level : Bool) (s : State) : Out :=
  .next (if s.triggerPin k.val then s.pinLevel k level else s)

/-- GPIO_WINDOW_END (R577). -/
def execGpioWindowEnd (s : State) : Out :=
  .next (
    if s.gpio.window && s.isOn .core then
      let ch := s.gpio.changed
      ({ s with gpio := { s.gpio with window := false, changed := 0 } }).raise .gpioChange unitGpio
        (leBytes 2 ch ++ leBytes 2 (s.rd F.GPIO_IN_PINS &&& ch))
    else s)

end Sys2Proof.Machine
end

