-- ==== Sys2Proof/Machine/RingOps.lean ====
section
/-! DEFINITION. Shared operations of the ring: links, tokens, entries of a WALK (spec/12_chaining.md). -/

namespace Sys2Proof.Machine
open Sys2Proof

/-! ### Links (R503, R504) -/

/-- The roles in which links operate (R503). -/
def State.ringRole (s : State) : Bool := s.sys.role == .head || s.sys.role == .satellite

/-- Set the state of a link. -/
def State.setLink (s : State) (up : Bool) (st : Nat) : State :=
  s.wr (if up then F.RING_STAT_UP_LINK else F.RING_STAT_DN_LINK) 0 st

/-- Links that may train do so, links that may not are OFF (R503, R504, R601). -/
def State.ringTrain (s : State) : State :=
  let may := s.isOn .ring && s.flag F.RING_CFG_EN && s.ringRole && !s.padsHeld .ring
  forAll [true, false] (fun (up : Bool) (s : State) =>
    if !may then s.setLink up 0 else if s.linkSt up = 0 then s.setLink up 1 else s) s

/-- Cable delay of a receiving link in LINK cycles (R524). -/
def State.cable (s : State) (up : Bool) : Nat := s.rd (if up then F.RING_CABLE_UP else F.RING_CABLE_DN)

/-! ### Tokens (R515 to R518) -/

/-- The CRC-16 of a token, over TYPE, TSEQ and payload (R515). -/
def tokenCrc (type tseq : Nat) (payload : List Byte) : Nat :=
  (crc16B (leBytes 1 type ++ leBytes 1 tseq ++ payload)).toNat

/-- The CRC of a received token is good (R517). -/
def tokenGood (t : TokenRx) : Bool := t.crc == tokenCrc t.type t.tseq t.payload

/-- The CRC with which a received token goes on with a payload: the received one where the payload is unchanged, else a new
one, XOR 0xFFFF where the received one was bad (R517). -/
def crcOnward (t : TokenRx) (payload : List Byte) : Nat :=
  if payload = t.payload then t.crc
  else if tokenGood t then tokenCrc t.type t.tseq payload
  else Nat.xor (tokenCrc t.type t.tseq payload) 0xFFFF

/-- A token leaves on a link with a CRC, when the link is UP. -/
def State.sendOn (s : State) (up : Bool) (type tseq : Nat) (payload : List Byte) (crc : Nat) : State :=
  if s.linkIsUp up then s.emitOut (.ringToken up type tseq payload crc) else s

/-- A token originates here: it takes the next TSEQ (R518) and leaves on the links of a list. -/
def State.originate (s : State) (links : List Bool) (type : Nat) (payload : List Byte) : State :=
  let q := s.ring.tseq
  (forAll links (fun (up : Bool) (s : State) => s.sendOn up type q payload (tokenCrc type q payload)) s).modRing (fun r =>
    { r with tseq := (q + 1) % 256 })

/-- Links on which the head sends WALKs, and its other tokens (R526, R532): DOWN, and while the ring is broken and was
closed also UP. Only links that are UP. -/
def State.headLinks (s : State) : List Bool :=
  ([false] ++ (if s.ring.wasClosed && !s.flag F.RING_STAT_CLOSED then [true] else [])).filter s.linkIsUp

/-- A token received on a link is noted (R517): none when it is not received or its CRC is bad. A satellite forwards it,
a head absorbs it. `payload`: what is forwarded. -/
def State.passToken (s : State) (t : TokenRx) (payload : List Byte) : State :=
  let s1 := if s.sys.role = .satellite then s.sendOn (!t.up) t.type t.tseq payload (crcOnward t payload) else s
  if tokenGood t then s1 else s1.setF F.RING_ERR_TOKEN_CRC

/-- The device can act on a token (R517). -/
def State.tokenIn (s : State) (t : TokenRx) : Bool := s.linkIsUp t.up

/-- A token that is acted on counts (R547). DESIGN CHOICE (log entry 33). -/
def State.countToken (s : State) : State := s.count F.RING_CNT_TOKEN_COUNT

/-- A HALT, RESUME or RESET is aimed at this satellite (R520, R525). -/
def State.aimed (s : State) (p : List Byte) : Bool := bit (byteAt p 2) 0 || leNat (p.take 2) == s.originSerial

/-- ECHO leaves on a link to measure its cable (R524). -/
def State.sendEcho (s : State) (up : Bool) : State :=
  (s.originate [up] 8 (leBytes 2 0)).modRing (fun r => if up then { r with echoUp := true } else { r with echoDn := true })

/-! ### Data frames (R507 to R513) -/

/-- The link on which a satellite sends data (R502, R530): true UP. -/
def State.dataUp (s : State) : Bool := !s.flag F.RING_STAT_REVERSED

/-- A data frame as sent (R507). -/
def ringFrameBytes (age hops origin : Nat) (event reversed : Bool) (item : List Byte) : List Byte :=
  let b := leBytes 3 (min 0xFFFFFF age) ++ leBytes 1 hops ++ leBytes 2 origin ++ leBytes 1 (b2n event + 2 * b2n reversed)
    ++ leBytes 1 0 ++ item
  b ++ leBytes 4 (crc32c b).toNat

/-- A received data frame has a good CRC (R507, R510). -/
def ringFrameGood (b : List Byte) : Bool :=
  decide (12 ≤ b.length) && leNat (b.drop (b.length - 4)) == (crc32c (b.take (b.length - 4))).toNat

/-- The transmitter on a link is held (R514). -/
def State.heldOn (s : State) (up : Bool) : Bool := if up then s.ring.heldUp else s.ring.heldDn

/-! ### Entries of a WALK (R526) -/

/-- The entry of this device. -/
def State.walkEntry (s : State) (joined : Bool) : List Byte :=
  leBytes 2 s.originSerial
    ++ leBytes 1 (if s.sys.role = .head then 0 else if s.flag F.BEAM_ADDR_VALID then s.rd F.BEAM_ADDR_ADDR else 0xFF)
    ++ leBytes 1 (b2n s.ring.dup + 2 * b2n joined + 4 * s.rd F.RING_STAT_REVERSED + 8 * b2n (s.linkIsUp false))

/-- Entries of a WALK payload, four bytes each. -/
def walkEntries (p : List Byte) : List (List Byte) := chunks Byte 4 (p.length / 4) (p.drop 5)

/-- The head sends a WALK on its links (R526): it is on its way until it returns. -/
def State.sendWalk (s : State) (links : List Bool) (txn : Option Nat) : State :=
  let n := s.ring.wno
  let p := leBytes 2 s.originSerial ++ leBytes 2 n ++ leBytes 1 (2 * s.rd F.RING_STAT_CLOSED) ++ s.walkEntry false
  (s.originate links 5 p).modRing (fun r =>
    { r with wno := (n + 1) % 65536, walks := r.walks ++ links.map (fun up => (⟨n, up, txn⟩ : WalkRun)) })

end Sys2Proof.Machine
end

