-- ==== Sys2Proof/Machine/RingCmds.lean ====
section
/-! DEFINITION. Commands of the ring (spec/12_chaining.md): links, data frames, flow control, tokens, discovery, ring
descriptors. -/

namespace Sys2Proof.Machine
open Sys2Proof

/-! ### Links (R503, R504, R524, R530) -/

/-- The UP link of a satellite has left UP: it turns round when its ring was closed, and sends BREAK downward (R530). -/
def State.turnRound (s : State) : State :=
  if s.sys.role == .satellite && s.ring.walkClosed then
    (s.setF F.RING_STAT_REVERSED).originate [false] 7 (leBytes 2 s.originSerial)
  else s

/-- The head's ring has stopped being closed: a RING_BREAK of each side is due (R531). DESIGN CHOICE (log entry 34). -/
def State.ringOpened (s : State) : State :=
  if s.sys.role == .head && s.flag F.RING_STAT_CLOSED then
    (s.wr F.RING_STAT_CLOSED 0 0).modRing (fun r => { r with wasClosed := true, breakDue := true, lastIdx := 0 })
  else s

/-- A link is lost to this device (R504): what was under way on it is forgotten. DEDUCED (log entry 32). -/
def State.linkLeft (s : State) (up : Bool) : State :=
  let s1 := (s.modRing (fun r =>
    if up then { r with heldUp := false, echoUp := false } else { r with heldDn := false, echoDn := false })).ringOpened
  if up then s1.turnRound else s1

/-- Write of RING_CFG (R503, R546); reserved values of TS_INT and FWD_RUN keep the old one (R11). -/
def writeRingCfgReg (w : Word) (s : State) : State :=
  let v := w.toNat
  let ti := bits v 15 8
  let fr := bits v 19 16
  let upWas := s.linkIsUp true
  let dnWas := s.linkIsUp false
  let s1 := (((((s.wr F.RING_CFG_EN 0 (bits v 0 0)).wr F.RING_CFG_TS_EN 0 (bits v 1 1)).wr F.RING_CFG_TS_INT 0
    (if 1 ≤ ti && ti ≤ 100 then ti else s.rd F.RING_CFG_TS_INT)).wr F.RING_CFG_FWD_RUN 0
    (if 1 ≤ fr then fr else s.rd F.RING_CFG_FWD_RUN)).wr F.RING_CFG_RST_EN 0 (bits v 20 20)).ringTrain
  when (upWas && !s1.linkIsUp true) (fun s => s.linkLeft true)
    (when (dnWas && !s1.linkIsUp false) (fun s => s.linkLeft false) s1)

/-- RING_CFG_WRITE (R503). -/
def execRingCfgWrite (w : Word) (s : State) : Out := .next (s.hostWrite 0xC000 (writeRingCfgReg w))

/-- LINK_UP (R504, R514, R524): a TRAINING link is aligned; it measures its cable and its queue is looked at.
DEDUCED (log entry 32). -/
def execLinkUp (up : Bool) (s : State) : Out :=
  .next (if s.isOn .ring && s.linkSt up == 1 then ((s.setLink up 2).sendEcho up).flowCheck up else s)

/-- LINK_LOSS (R504). DEDUCED (log entry 32). -/
def execLinkLoss (up : Bool) (s : State) : Out :=
  .next (if s.linkIsUp up then ((s.setLink up 1).setF F.RING_ERR_ALIGN).linkLeft up else s)

/-! ### Data frames (R507 to R514) -/

/-- Count a drop of the head for an origin (R513). DESIGN CHOICE (log entry 35). -/
def addDrop (o : Nat) : List (Nat × Nat) → List (Nat × Nat)
  | [] => [(o, 1)]
  | (k, c) :: t => if k = o then (k, c + 1) :: t else (k, c) :: addDrop o t

/-- The head takes a good frame into ring ingress, or drops its item for its age (R513). -/
def State.frameToHead (s : State) (up : Bool) (b : List Byte) : State :=
  let age := leNat (b.take 3)
  let budget := s.rd F.RING_LAT_BUDGET_BUDGET
  let origin := leNat ((b.drop 4).take 2)
  if budget = 0 ∨ age ≤ 8 * budget then
    { s with ingress := s.ingress ++ [⟨bit (byteAt b 6) 0, (b.take (b.length - 4)).drop 8, up⟩] }
  else
    (s.count F.RING_CNT_LATDROP_COUNT).modRing (fun r => { r with drops := addDrop origin r.drops })

/-- A satellite stores a good frame to forward it (R510). -/
def State.frameToForward (s : State) (up : Bool) (b : List Byte) : State :=
  s.modRing (fun r => { r with fwd := r.fwd ++
    [⟨leNat (b.take 3), byteAt b 3, leNat ((b.drop 4).take 2), bit (byteAt b 6) 0, (b.take (b.length - 4)).drop 8, up⟩] })

/-- A received data frame is checked and taken (R510, R513, R514). -/
def State.takeFrame (s : State) (up : Bool) (bytes : List Byte) : State :=
  if !ringFrameGood bytes then (s.setF F.RING_ERR_CRC).count F.RING_CNT_CRC_COUNT
  else if s.sys.role == .head then (s.frameToHead up bytes).flowCheck up
  else (s.frameToForward up bytes).flowCheck up

/-- DATA_FRAME_RECEIVED (R510, R561): a data frame, ring header to CRC. -/
def execDataFrameReceived (up : Bool) (bytes : List Byte) (s : State) : Out :=
  .next (if s.linkIsUp up then (s.crcFeed (if up then 0x51 else 0x53) bytes).takeFrame up bytes else s)

/-- The own item that a satellite may send next (R488, R489, R509): the oldest in the board, in a SEALED tile that is
verified for the present burst. -/
def State.ownItem (s : State) : Option (Fin 64 × BoardRec) :=
  if s.isOn .board && s.flag F.RING_STAT_JOINED && !s.flag F.RING_STAT_HALT_EGRESS then
    match s.oldestRec (fun _ => true) with
    | some (t, r) => if s.mayLeave t then some (t, r) else none
    | none => none
  else none

/-- A frame leaves a satellite (R507, R530, R561). -/
def State.sendFrame (s : State) (up : Bool) (age hops origin : Nat) (event : Bool) (item : List Byte) : State :=
  let b := ringFrameBytes age hops origin event (!up) item
  (s.emitOut (.ringFrame up b)).crcFeed (if up then 0x50 else 0x52) b

/-- A satellite sends its own item (R512). -/
def State.sendOwn (s : State) (up : Bool) (t : Fin 64) (r : BoardRec) : State :=
  (((s.sendFrame up (8 * (s.sys.timebase.toNat - r.time)) 0 s.originSerial r.event (s.recBytes t r)).markLeft t
    r.seq).modRing (fun x => { x with ownWait := 0 })).askVerify

/-- A satellite forwards the first frame in its queue (R511, R512); `res`: its residence in units of 125 ns. -/
def State.sendForward (s : State) (up : Bool) (f : RingFrame) (res : Nat) (waits : Bool) : State :=
  ((((s.sendFrame up (f.age + res + 1) ((f.hops + 1) % 256) f.origin f.event f.item).modRing (fun r =>
    { r with fwd := r.fwd.tail, ownWait := r.ownWait + b2n waits })).count F.RING_CNT_FWD_COUNT).flowCheck
      true).flowCheck false

/-- DATA_FRAME_SEND (R511): a satellite starts its next frame on the link on which it sends data; `res` is the residence
of a forwarded frame in units of 125 ns. -/
def execDataFrameSend (up : Bool) (res : Nat) (s : State) : Out :=
  .next (
    if !s.linkIsUp up || s.sys.role != .satellite || s.dataUp != up || s.heldOn up then s
    else
      match s.ring.fwd, s.ownItem with
      | [], none => s
      | [], some (t, r) => s.sendOwn up t r
      | f :: _, none => s.sendForward up f res false
      | f :: _, some (t, r) =>
        if s.rd F.RING_CFG_FWD_RUN ≤ s.ring.ownWait then s.sendOwn up t r else s.sendForward up f res true)

/-- LATENCY_DROP_REPORT (R513). DESIGN CHOICE (log entry 35). -/
def execLatencyDropReport (origin : Nat) (s : State) : Out :=
  .next (
    match s.ring.drops.find? (fun p => p.1 == origin) with
    | some p =>
      (s.modRing (fun r => { r with drops := r.drops.filter (fun p => p.1 != origin) })).raise .ringLatencyDrop unitRing
        (leBytes 2 p.1 ++ leBytes 2 (min 65535 p.2))
    | none => s)

/-- FLOW_SYMBOL_RECEIVED (R514). -/
def execFlowSymbolReceived (up xoff : Bool) (s : State) : Out :=
  .next (
    if s.linkIsUp up then s.modRing (fun r => if up then { r with heldUp := xoff } else { r with heldDn := xoff })
    else s)

/-- XOFF_REPEAT (R514): while this device holds the neighbour on a receive link, XOFF is sent again. -/
def execXoffRepeat (up : Bool) (s : State) : Out :=
  .next (if s.linkIsUp up && s.holdsLink up then s.emitOut (.ringFlow up true) else s)

/-! ### Tokens a satellite forwards (R517 to R523, R525, R530) -/

/-- A token of one type is received: forwarded or absorbed, and acted on by a satellite when its CRC is good (R517). -/
def State.onToken (s : State) (t : TokenRx) (type : Nat) (act : State → State) : State :=
  if s.tokenIn t && t.type == type then
    when (tokenGood t && s.sys.role == .satellite) act (s.passToken t t.payload)
  else s

/-- ROUND_TOKEN (R261, R519). -/
def execRoundToken (t : TokenRx) (s : State) : Out :=
  .next (s.onToken t 1 (fun s =>
    if s.flag F.ROD_ROUND_CFG_RING_IN then
      let s1 := s.countToken
      { s1 with round := { s1.round with
          starts := s1.round.starts ++ [(3, some (BitVec.ofNat 32 (leNat (t.payload.take 4))))] } }
    else s))

/-- Set or clear the halt bits that SCOPE names (R520). -/
def State.setHalt (s : State) (t : TokenRx) (v : Nat) : State :=
  if s.aimed t.payload then
    when (bit (byteAt t.payload 3) 0) (fun s => s.wr F.RING_STAT_HALT_AIR 0 v)
      (when (bit (byteAt t.payload 3) 1) (fun s => s.wr F.RING_STAT_HALT_EGRESS 0 v) s.countToken)
  else s

/-- HALT_TOKEN (R520). -/
def execHaltToken (t : TokenRx) (s : State) : Out := .next (s.onToken t 2 (fun s => s.setHalt t 1))

/-- RESUME_TOKEN (R520). -/
def execResumeToken (t : TokenRx) (s : State) : Out := .next (s.onToken t 3 (fun s => s.setHalt t 0))

/-- Head time that a TIME_SYNC carries at the moment its SOT arrived, in 1/240 µs (R522). -/
def State.syncTime (s : State) (t : TokenRx) : Nat :=
  240 * leNat (t.payload.take 8) + byteAt t.payload 8 + leNat ((t.payload.drop 9).take 4) + s.cable t.up

/-- The satellite's timebase follows the head (R522): it never decreases, it stands still until the value catches up. -/
def State.syncTo (s : State) (v next : Nat) : State :=
  let now := s.sys.timebase.toNat
  let s1 := if now ≤ v / 240 then { s with sys := { s.sys with timebase := BitVec.ofNat 64 (v / 240) } } else s
  let s2 := s1.modRing (fun r =>
    { r with frac := v % 240, hold := now - v / 240, synNext := next, synAt := s.pwr.aonMicros })
  (s2.wr F.SYS_TB_STAT_COARSE 0 0).setF F.SYS_TB_STAT_SYNCED

/-- TIME_SYNC_TOKEN (R517, R521, R522): `since`, the time from the arrival of SOT to this moment, and `res`, the residence
of SOT, in LINK cycles. -/
def execTimeSyncToken (t : TokenRx) (since res : Nat) (s : State) : Out :=
  .next (
    if s.tokenIn t && t.type == 4 then
      let delay := leNat ((t.payload.drop 9).take 4) + res + s.cable t.up
      let s1 := s.passToken t (t.payload.take 9 ++ leBytes 4 delay ++ (t.payload.drop 13).take 1)
      if tokenGood t && s.sys.role == .satellite then
        s1.countToken.syncTo (s.syncTime t + since) (byteAt t.payload 13)
      else s1
    else s)

/-- TIME_SYNC_SEND (R521): `frac`, the head's timebase fraction in 1/240 µs at the moment SOT leaves. -/
def execTimeSyncSend (frac : Nat) (s : State) : Out :=
  .next (
    if s.isOn .ring && s.isOn .core && s.sys.role == .head && s.flag F.RING_CFG_TS_EN && !s.flag F.SYS_TB_STAT_COARSE
        && !s.headLinks.isEmpty then
      s.originate s.headLinks 4 (leBytes 8 s.sys.timebase.toNat ++ leBytes 1 (frac % 240) ++ leBytes 4 0
        ++ leBytes 1 (s.rd F.RING_CFG_TS_INT))
    else s)

/-- No TIME_SYNC has come within 2 × NEXT ms of the last one (R523). -/
def State.syncLate (s : State) : Bool := decide (s.ring.synAt + 2000 * s.ring.synNext ≤ s.pwr.aonMicros)

/-- TIME_SYNC_TIMEOUT (R523). -/
def execTimeSyncTimeout (s : State) : Out :=
  .next (
    if s.isOn .core && s.sys.role == .satellite && s.flag F.SYS_TB_STAT_SYNCED && s.syncLate then
      ((s.wr F.SYS_TB_STAT_SYNCED 0 0).setF F.SYS_TB_STAT_COARSE).raise .timeSyncLost unitRing []
    else s)

/-- BREAK_TOKEN (R530). -/
def execBreakToken (t : TokenRx) (s : State) : Out :=
  .next (s.onToken t 7 (fun s => if t.up && s.ring.walkClosed then s.countToken.setF F.RING_STAT_REVERSED else s))

/-- RESERVED_TYPE_TOKEN (R518). -/
def execReservedTypeToken (t : TokenRx) (s : State) : Out :=
  .next (if s.tokenIn t && (t.type == 0 || decide (8 < t.type)) then s.passToken t t.payload else s)

/-! ### Cable delay (R524) -/

/-- Cable delay from a round trip and the partner's residence, in LINK cycles (R524). The spec does not say which way a
half is rounded. DESIGN CHOICE (log entries 4 and 33). -/
def State.cableOf (s : State) (span res : Nat) : State × Nat :=
  if span < res + 16 then (s.drawFree.1, s.drawFree.2 % 65536)
  else if (span - res - 16) % 2 = 0 then (s, (span - res - 16) / 2)
  else (s.drawFree.1, (span - res - 16) / 2 + s.drawFree.2 % 2)

/-- ECHO_TOKEN (R524): `span` is this device's residence for a request, and the round trip for a return.
DESIGN CHOICE (log entry 33). -/
def execEchoToken (t : TokenRx) (span : Nat) (s : State) : Out :=
  .next (
    if !(s.tokenIn t && t.type == 8) then s
    else if !tokenGood t then s.setF F.RING_ERR_TOKEN_CRC
    else
      let res := leNat (t.payload.take 2)
      if res = 0 then s.countToken.sendOn t.up 8 t.tseq (leBytes 2 span) (tokenCrc 8 t.tseq (leBytes 2 span))
      else if (if t.up then s.ring.echoUp else s.ring.echoDn) then
        let p := s.countToken.cableOf span res
        (p.1.wr (if t.up then F.RING_CABLE_UP else F.RING_CABLE_DN) 0 p.2).modRing (fun r =>
          if t.up then { r with echoUp := false } else { r with echoDn := false })
      else s)

/-- CABLE_MEASURE (R524). -/
def execCableMeasure (up : Bool) (s : State) : Out := .next (if s.linkIsUp up then s.sendEcho up else s)

/-! ### Discovery (R526 to R531) -/

/-- WALK_SEND (R526). -/
def execWalkSend (s : State) : Out :=
  .next (if s.isOn .ring && s.sys.role == .head && !s.headLinks.isEmpty then s.sendWalk s.headLinks none else s)

/-- A WALK that is not reflected passes a satellite (R526 to R528, R530): `full`, it holds 255 entries.
DESIGN CHOICE (log entry 34). -/
def State.walkState (s : State) (t : TokenRx) (es : List (List Byte)) (dup full : Bool) : State :=
  let closed := bit (byteAt t.payload 4) 1
  let s1 := s.countToken.modRing (fun r => { r with walkClosed := closed })
  let s2 := if t.up then s1.wr F.RING_STAT_REVERSED 0 0 else s1
  if full then s2
  else ((s2.wr F.RING_STAT_JOINED 0 (b2n (!dup))).wr F.RING_STAT_HOPS 0 es.length).modRing (fun r => { r with dup := dup })

/-- A satellite receives a WALK (R517, R526, R528). DESIGN CHOICE (log entry 33). -/
def State.walkSatellite (s : State) (t : TokenRx) : State :=
  if bit (byteAt t.payload 4) 0 then s.passToken t t.payload
  else
    let es := walkEntries t.payload
    let full := decide (255 ≤ es.length)
    let dup := es.any (fun e => leNat (e.take 2) == s.originSerial)
    let s1 := if tokenGood t then s.walkState t es dup full else s.setF F.RING_ERR_TOKEN_CRC
    let mine : State :=
      (s.wr F.RING_STAT_REVERSED 0 (if t.up then 0 else s.rd F.RING_STAT_REVERSED)).modRing (fun r => { r with dup := dup })
    let p := if full then t.payload else t.payload ++ mine.walkEntry (!dup)
    let back := p.take 4 ++ leBytes 1 (byteAt p 4 + 1) ++ p.drop 5
    if s.linkIsUp (!t.up) then s1.sendOn (!t.up) t.type t.tseq p (crcOnward t p)
    else s1.sendOn t.up t.type t.tseq back (crcOnward t back)

/-- The device of a WALK entry at an index. -/
def deviceOf (up : Bool) (i : Nat) (e : List Byte) : RingDevice :=
  ⟨leNat (e.take 2), byteAt e 2, byteAt e 3, up, i, 0⟩

/-- Order of the present-device list (R546): DOWN side first, each in walk order. -/
def RingDevice.before (a b : RingDevice) : Bool :=
  if a.upSide == b.upSide then decide (a.hops ≤ b.hops) else b.upSide

/-- Place a device in the list. -/
def placeDevice (d : RingDevice) : List RingDevice → List RingDevice
  | [] => [d]
  | e :: t => if e.before d then e :: placeDevice d t else d :: e :: t

/-- The head evaluates one entry of a returned WALK (R527, R529). DESIGN CHOICE (log entry 34). -/
def State.walkDevice (s : State) (d : RingDevice) : State :=
  if bit d.eflags 0 then (s.setF F.RING_ERR_SERIAL_DUP).wr F.RING_DUP_SERIAL 0 d.serial
  else
    let known := s.ring.devices.any (fun x => x.serial == d.serial)
    when (!known) (fun s => s.raise .ringJoin unitRing (leBytes 2 d.serial ++ leBytes 1 d.hops))
      (s.modRing (fun r => { r with devices := placeDevice d (r.devices.filter (fun x => x.serial != d.serial)) }))

/-- Devices that a returned WALK should have listed and does not are missing once more, those of its side and those of a side
on which the head sends no WALK any more; missing twice they leave (R529). DESIGN CHOICE (log entry 34). -/
def State.walkMissing (s : State) (up : Bool) (serials : List Nat) : State :=
  let s1 := s.modRing (fun r => { r with devices := r.devices.map (fun d =>
    if (d.upSide == up || !s.headLinks.contains d.upSide) && !serials.contains d.serial then
      { d with missed := d.missed + 1 }
    else d) })
  let gone := s1.ring.devices.filter (fun d => decide (2 ≤ d.missed))
  forAll gone (fun (d : RingDevice) (s : State) =>
      s.raise .ringLeave unitRing (leBytes 2 d.serial ++ leBytes 1 d.hops))
    (s1.modRing (fun r => { r with devices := r.devices.filter (fun d => decide (d.missed < 2)) }))

/-- A RING_BREAK of a side (R531). -/
def State.raiseBreak (s : State) (dn : Bool) (serial : Nat) : State :=
  s.raise .ringBreak unitRing (leBytes 1 (b2n dn) ++ leBytes 2 serial)

/-- Serial of the last entry of a WALK: the head's own when no satellite has appended. -/
def lastSerial (own : Nat) (es : List (List Byte)) : Nat :=
  match es.getLast? with
  | some e => leNat (e.take 2)
  | none => own

/-- The first WALK returned after the ring has stopped being closed: one RING_BREAK for each side, with the last entry that
returned on that side (R531). DESIGN CHOICE (log entry 34). -/
def State.reportBreaks (s : State) : State :=
  let own := s.originSerial
  ((s.raiseBreak true (s.ring.lastDn.getD own)).raiseBreak false (s.ring.lastUp.getD own)).modRing (fun r =>
    { r with breakDue := false })

/-- The last entry that returned on a side. -/
def State.noteLast (s : State) (up : Bool) (es : List (List Byte)) : State :=
  let q := lastSerial s.originSerial es
  s.modRing (fun r => if up then { r with lastUp := some q } else { r with lastDn := some q, lastIdx := es.length - 1 })

/-- The ring is open: after a WALK of one side the breaks that are due are reported, else one that the reflecting device has
come nearer (R531). -/
def State.openShape (s : State) (up : Bool) (es : List (List Byte)) : State :=
  let s1 := s.noteLast up es
  if s.ring.breakDue then s1.reportBreaks
  else when (!up && decide (es.length - 1 < s.ring.lastIdx)) (fun s => s.raiseBreak true (s.ring.lastDn.getD s.originSerial)) s1

/-- A WALK that comes back unreflected closes the ring; a reflected one finds it open (R528, R531). -/
def State.walkShape (s : State) (w : WalkRun) (t : TokenRx) (es : List (List Byte)) : State :=
  if !bit (byteAt t.payload 4) 0 && t.up && !w.up then
    ((s.setF F.RING_STAT_CLOSED).modRing (fun r =>
      { r with wasClosed := true, breakDue := false, cntUp := 0, lastUp := none })).noteLast false es
  else (when (!w.up) (fun (s : State) => s.ringOpened) s).openShape w.up es

/-- The record of a RING_WALK whose WALKs have all returned (R532): the entries of the DOWN side, then of the UP side.
DESIGN CHOICE (log entry 34). -/
def State.walkRecord (s : State) (id : Nat) : State :=
  match s.txn? id with
  | some t =>
    if t.isRunning && !s.ring.walks.any (fun w => w.txn == some id) then
      let gs := s.ring.got.filter (fun g => g.txn == id)
      let es := ((gs.filter (fun g => !g.up)) ++ gs.filter (fun g => g.up)).map (·.entries)
      let hd : Nat × Nat := match gs.find? (fun g => !g.up), gs.head? with
        | some g, _ => (g.wno, g.flags)
        | none, some g => (g.wno, g.flags)
        | none, none => (0, 0)
      let body := es.flatten
      let s1 := s.emitAcc .result .ok unitRing t s.sys.timebase
        (leBytes 2 hd.1 ++ leBytes 1 (body.length / 4) ++ leBytes 1 hd.2 ++ body)
      (s1.modRing (fun r => { r with got := r.got.filter (fun g => g.txn != id) })).finish id .ok
    else s
  | none => s

/-- A WALK returns to the head (R528, R529, R531, R532). DESIGN CHOICE (log entry 34). -/
def State.walkHead (s : State) (w : WalkRun) (t : TokenRx) : State :=
  let es := walkEntries t.payload
  let ds := (es.zipIdx.map (fun p => deviceOf w.up p.2 p.1)).drop 1
  let s1 := (s.countToken.modRing (fun r => { r with walks := r.walks.erase w })).walkShape w t es
  let s2 := forAll ds (fun (d : RingDevice) (s : State) => s.walkDevice d) s1
  let s3 := s2.walkMissing w.up ((ds.filter (fun d => !bit d.eflags 0)).map (·.serial))
  let s4 := s3.modRing (fun r => if w.up then { r with cntUp := es.length } else { r with cntDn := es.length })
  let s5 := s4.wr F.RING_STAT_DEVICES 0 (s4.ring.cntDn + s4.ring.cntUp)
  onSome w.txn (fun (id : Nat) (s : State) =>
    (s.modRing (fun r => { r with got := r.got ++
      [⟨id, w.up, w.wno, byteAt t.payload 4, t.payload.drop 5⟩] })).walkRecord id) s5

/-- The WALK of the head that has come back: it returns reflected on the link it left on, or unreflected on the other. -/
def State.walkOf (s : State) (t : TokenRx) : Option WalkRun :=
  let back := if bit (byteAt t.payload 4) 0 then t.up else !t.up
  if leNat (t.payload.take 2) = s.originSerial then
    s.ring.walks.find? (fun w => w.wno == leNat ((t.payload.drop 2).take 2) && w.up == back)
  else none

/-- WALK_TOKEN (R526). -/
def execWalkToken (t : TokenRx) (s : State) : Out :=
  .next (
    if !(s.tokenIn t && t.type == 5) then s
    else if s.sys.role == .satellite then s.walkSatellite t
    else if !tokenGood t then s.setF F.RING_ERR_TOKEN_CRC
    else onSome (s.walkOf t) (fun w s => s.walkHead w t) s)

/-- WALK_TIMEOUT (R529, R532): the oldest WALK that left on a link is lost. -/
def execWalkTimeout (up : Bool) (s : State) : Out :=
  .next (onSome (s.ring.walks.find? (fun w => w.up == up)) (fun (w : WalkRun) (s : State) =>
    let s1 := (s.modRing (fun r => { r with walks := r.walks.erase w })).setF F.RING_ERR_WALK_LOST
    onSome w.txn (fun (id : Nat) (s : State) =>
      (s.modRing (fun r => { r with got := r.got.filter (fun g => g.txn != id) })).finish id .timeout) s1) s)

/-- WALK_ABSENCE_TIMEOUT (R527). -/
def execWalkAbsenceTimeout (s : State) : Out :=
  .next (if s.isOn .ring && s.sys.role == .satellite then s.wr F.RING_STAT_JOINED 0 0 else s)

/-! ### Ring descriptors (R532) -/

/-- A ring descriptor sends its token on the head's links. DESIGN CHOICE (log entry 34). -/
def State.ringDesc (s : State) (op type : Nat) (payload : Desc → List Byte) : State :=
  onSome (s.takeHead? unitRing op) (fun (t : Txn) (s : State) =>
    if s.headLinks.isEmpty then s.finish t.id .timeout
    else (s.originate s.headLinks type (payload t.desc)).finish t.id .ok) s

/-- RING_HALT (R532): TARGET, TFLAGS and SCOPE. -/
def execRingHalt (s : State) : Out := .next (s.ringDesc 1 2 (fun d => descBytes d 16 4))

/-- RING_RESUME (R532). -/
def execRingResume (s : State) : Out := .next (s.ringDesc 2 3 (fun d => descBytes d 16 4))

/-- RING_RESET (R532): TARGET and TFLAGS. -/
def execRingReset (s : State) : Out := .next (s.ringDesc 3 6 (fun d => descBytes d 16 3))

/-- RING_WALK (R532): a WALK at once; it is reported when it has returned. -/
def execRingWalk (s : State) : Out :=
  .next (onSome (s.takeHead? unitRing 4) (fun (t : Txn) (s : State) =>
    if s.headLinks.isEmpty then s.finish t.id .timeout
    else (s.run t.id).sendWalk s.headLinks (some t.id)) s)

end Sys2Proof.Machine
end

