-- ==== Sys2Proof/Machine/PwrOps.lean ====
section
/-! DEFINITION. The power controller: domains entering and leaving ON, requests, wakes, resets
(spec/14_power_clocks_reset.md). -/

namespace Sys2Proof.Machine
open Sys2Proof

/-- Change the power controller. -/
def State.modPwr (s : State) (f : PwrPart → PwrPart) : State := { s with pwr := f s.pwr }

/-- State of a domain (R578). -/
def State.pst (s : State) (d : Domain) : PState := vget s.pwr.st d.num

/-- Set the state of a domain. -/
def State.setPst (s : State) (d : Domain) (p : PState) : State := s.modPwr (fun w => { w with st := vset w.st d.num p })

/-- Set the request or wake in progress. -/
def State.setPwrRun (s : State) (r : Option PwrRun) : State := s.modPwr (fun w => { w with run := r })





/-! ### Pads (R599 to R601) -/

/-- Domains with a pad group of their own that can be latched (R599). -/
def padGroups : List Domain := [.core, .host, .ring, .hfa, .hfb, .lf, .uhf]

/-- The pads of a domain's group are latched (R600). -/
def State.holdPads (s : State) (d : Domain) : State :=
  if padGroups.contains d then
    s.wr F.PWR_PAD_RELEASE_HELD 0 (s.rd F.PWR_PAD_RELEASE_HELD ||| 2 ^ d.num.val)
  else s

/-- What waited for the pads of a group goes on (R601). -/
def State.padsFreed (s : State) (d : Domain) : State :=
  match d with
  | .ring => s.ringTrain
  | .hfa => s.kickAll
  | .hfb => s.kickAll
  | .core => s.drivePins.serialNext
  | _ => s

/-- The pads of a group are released. -/
def State.freePads (s : State) (d : Domain) : State :=
  if s.padsHeld d then
    (s.wr F.PWR_PAD_RELEASE_HELD 0 (s.rd F.PWR_PAD_RELEASE_HELD ^^^ 2 ^ d.num.val)).padsFreed d
  else s

/-- Write of PWR_PAD_RELEASE (R600): bits written 1 release their groups. -/
def writePadRelease (w : Word) (s : State) : State :=
  forAll padGroups (fun (d : Domain) (s : State) => if bit w.toNat d.num.val then s.freePads d else s) s

/-! ### Events (R83, R588, R591, R598) -/

/-- A PWR_STATE event. -/
def State.pwrEvent (s : State) (d : Domain) (new old : PState) (cause : Nat) : State :=
  s.raise .pwrState (unitPd d) (leBytes 1 new.code ++ leBytes 1 old.code ++ leBytes 1 cause)

/-- Cause in a PWR_STATE event (R83). -/
def PwrCause.code : PwrCause → Nat
  | .descriptor => 0 | .register => 1 | .wake => 2 | .startup => 1

/-! ### A domain leaves ON (R581, R590, R592) -/

/-- Every dispatched transaction of a unit that satisfies `p` ends with a status. -/
def State.endUnit (s : State) (unit : Nat) (p : Txn → Bool) (st : Status) : State :=
  forAll (s.txns.filter (fun t => t.unit == unit && t.live && t.dispatched && p t))
    (fun (t : Txn) (s : State) => s.finish t.id st) s

/-- A rod of a bank that leaves ON: its transactions and invocation end, its carrier is OFF (R581, R592). -/
def State.rodDown (s : State) (n : Fin 24) : State :=
  let live := s.txns.filter (fun u => u.unit == n.val && u.live && u.dispatched)
  let a := (s.endRodTxns n live .domainOff).killPlan n .domainOff
  ((((State.discardAll n .flush a).flushProducer (ix 24 n.val)).dequeue n.val).carrierGone n .off).modRod n (fun r =>
    { r with surveyHold := false })

/-- Rods of a bank. -/
def bankRods (d : Domain) : List (Fin 24) := allRods.filter (fun n => bankOf n.val == d)

/-- The exchange that uses the air through a unit that leaves ON is cut short (R351, R394). -/
def State.cutAcc (s : State) (p : AccRun → Bool) : State :=
  match s.acc.run with
  | some r => if r.stage != .ready && p r then s.cutRun r .domain else s
  | none => s

/-- Loads in progress are cut as PLAN leaves ON: their tiles go out of service with what they hold, and a LOAD_TILE
completes DOMAIN_OFF (R495). DESIGN CHOICE (log entry 19). -/
def State.cutLoads (s : State) : State :=
  let s1 := forAll ((List.finRange 16).filter (fun t => (s.planTile t).st == .loading))
    (fun (t : Fin 16) (s : State) => s.planTileOut t) { s with board := { s.board with window := none } }
  (s1.endUnit unitSys (fun t => t.op == 0x31) .domainOff).settleDoom

/-- The units of a domain come to rest as it leaves ON (R581, R590, R592). DEDUCED (log entry 29). -/
def State.unitsDown (s : State) (d : Domain) : State :=
  match d with
  | .hfa => (forAll (bankRods .hfa) (fun n s => s.rodDown n) s).resumeTags
  | .hfb => (forAll (bankRods .hfb) (fun n s => s.rodDown n) s).resumeTags
  | .lf =>
    let s1 := s.cutAcc (fun _ => s.link.frame.isSome || (match s.link.listen with | .transponder _ => true | _ => false))
    forAll (List.range 8) (fun (n : Nat) (s : State) => s.lfStop n) s1
  | .uhf =>
    let s1 := s.cutAcc (fun _ => s.uhf.need != .none)
    ((forAll (s1.txns.filter (fun t => t.unit == unitUhf && t.live && t.dispatched))
      (fun (t : Txn) (s : State) => s.endUhf t.id .domainOff) s1).dropTrain.modUhf (fun u => { u with need := .none })).setRadio 0 0
  | .crypto =>
    let s1 := (s.cutAcc (fun r => r.cipher != .idle || (match r.stage with | .draw _ _ => true | _ => false))).endVd .domainOff
    let gone := s1.cph.jobs.map (·.txn)
    let s2 := ({ s1 with txns := s1.txns.filter (fun t => !gone.contains t.id) }).endUnit unitCph (fun t => t.op == 1 || t.op == 2 || t.op == 3) .domainOff
    let s3 : State := { s2 with cph := { CphPart.reset with waits := s2.cph.waits }, rng := RngPart.reset }
    (s3.wr F.CPH_RNG_STAT_READY 0 0).settleWaits
  | .keys => forAll s.keys.imports (fun (r : ImportReq) (s : State) => s.endImport r .domainOff) s
  | .plan => s.cutLoads
  | .ring =>
    let s1 := forAll [F.RING_STAT_UP_LINK, F.RING_STAT_DN_LINK, F.RING_STAT_JOINED, F.RING_STAT_CLOSED,
      F.RING_STAT_REVERSED] (fun (f : Fld) (s : State) => s.wr f 0 0) s
    { (s1.endUnit unitRing (fun _ => true) .domainOff).modRing (fun r => { RingPart.reset with
        frac := r.frac, hold := r.hold, synNext := r.synNext, synAt := r.synAt })
      with ingress := [] }
  | .host => { s with host := { s.host with speed := 0, width := 0 } }
  | _ => s

/-! ### A domain in OFF (R580) -/

/-- CORE loses its contents: registers, SEQ, timebase, transactions, everything its units hold. Events held while BOARD
is not ON stay: only a reset whose scope includes CORE discards them (R670). -/
def State.coreLost (s : State) : State :=
  let s1 := s.resetRegs (fun a => domainOf a == .core)
  { s1 with
    sys := { SysPart.reset with
      role := s.sys.role, rolePins := s.sys.rolePins, nextId := s.sys.nextId, fresh := s.sys.fresh,
      heldEvents := s.sys.heldEvents, heldLost := s.sys.heldLost },
    txns := [], rods := s.rods.map (fun r => { r with zone := none, zonePend := none }),
    field := FieldPart.reset, round := RoundPart.reset, fifos := vset s.fifos 24 (Fifo.empty true),
    link := { s.link with frame := none, last := none, listen := .none }, acc := s.acc.coreReset,
    ring := { s.ring with hold := 0, frac := 0 }, beam := BeamPart.reset, tmr := Vector.replicate 16 Timer.reset, crc := Vector.replicate 4 CrcUnit.reset, spi := none, serial := SerialPart.reset,
    gpio := ⟨false, 0, 0⟩, test := { s.test with bist := none } }

/-- A domain reaches OFF: its registers and memories are lost (R580). -/
def State.domainLost (s : State) (d : Domain) : State :=
  match d with
  | .aon => s
  | .core => s.coreLost
  | .host => s.hostReset
  | .keys =>
    let s1 := (s.resetRegs (fun a => domainOf a == .keys)).zeroizeKeys
    { s1 with keys := KeysPart.reset }
  | .plan =>
    let s1 := s.resetRegs (fun a => domainOf a == .plan)
    { s1 with planMem := [], round := { s.round with dedup := [] },
              board := { s.board with planTiles := Vector.replicate 16 ⟨.empty, 0⟩, window := none } }
  | .board =>
    let s1 := s.resetRegs (fun a => domainOf a == .board)
    { s1 with boardMem := [], board := { BoardPart.reset with planTiles := s.board.planTiles, window := s.board.window } }
  | .crypto => { s.resetRegs (fun a => domainOf a == .crypto) with cph := { CphPart.reset with waits := s.cph.waits }, rng := RngPart.reset }
  | .ring =>
    { s.resetRegs (fun a => domainOf a == .ring) with
      ring := { RingPart.reset with frac := s.ring.frac, hold := s.ring.hold }, ingress := [] }
  | .lf => { s.resetRegs (fun a => domainOf a == .lf) with link := { s.link with drives := LinkPart.reset.drives, opens := LinkPart.reset.opens } }
  | .uhf =>
    { s.resetRegs (fun a => domainOf a == .uhf) with uhf := s.uhf.uhfReset }
  | .hfa | .hfb =>
    let s1 := s.resetRegs (fun a => domainOf a == d)
    forAll (bankRods d) (fun (n : Fin 24) (s : State) =>
      (s.modRod n (fun r => { Rod.reset with zone := r.zone, zonePend := r.zonePend })).modFifo (ix 24 n.val) (fun _ =>
        Fifo.empty false)) s1

/-! ### A domain comes ON (R43, R487, R580, R600, R670) -/

/-- Held events are committed in order once BOARD is ON, then one EQ_OVERFLOW for those that found no place (R670). -/
def State.releaseHeld (s : State) : State :=
  let lost := s.sys.heldLost
  let s1 := forAll s.sys.heldEvents (fun (e : Event) (s : State) => s.stageEvent e)
    { s with sys := { s.sys with heldEvents := [], heldLost := 0 } }
  let s2 := if lost = 0 then s1 else s1.raise .eqOverflow unitSys (leBytes 2 lost)
  s2.settleEvents



/-- A domain that left `old` is ON (R43, R441, R405, R424, R580). DEDUCED (log entry 21). -/
def State.comeOn (s : State) (d : Domain) (old : PState) : State :=
  let s1 := s.setPst d .on
  let s2 : State := match d with
    | .core =>
      if old = .ret then
        ({ s1 with sys := { s1.sys with
          timebase := s1.sys.timebase + BitVec.ofNat 64 (s.pwr.coreAway * 1000000 / 32768) } }).setF F.SYS_TB_STAT_COARSE
      else s1
    | .keys => s1.deriveKek
    | .board => s1.releaseHeld.agedSeal
    | .uhf => ((s1.wr F.UHF_CAL_STAT_VALID 0 0).calDue).wr F.UHF_DIV_STAT_LAST 0 0
    | .ring => s1.ringTrain
    | .host => when (s.pwr.unreported != 0 && s.pwr.step == 0) State.reportReset s1.flushOwed
    | _ => s1
  let s3 := if d = .core then s2.modPwr (fun w => { w with coreAway := 0 }) else s2
  if bit (s.rd F.PWR_PAD_AUTO_AUTO) d.num.val then s3.freePads d else s3

/-! ### Wake positions (R596 to R598) -/

/-- Positions of the wake order (R596). -/
def wakeOrder : List (List Domain) :=
  [[.core], [.keys], [.plan, .board], [.crypto], [.host], [.ring], [.hfa], [.hfb], [.lf], [.uhf]]

/-- State that a domain left in this run. -/
def PwrRun.leftOf (r : PwrRun) (d : Domain) : PState := ((r.left.find? (fun p => p.1 == d)).map (·.2)).getD .off

/-- Domains of a run in wake order, with the state they left. -/
def PwrRun.woken (r : PwrRun) : List (Domain × PState) :=
  (wakeOrder.flatten.filter (fun d => r.left.any (fun p => p.1 == d))).map (fun d => (d, r.leftOf d))

/-- Latch bits of wakes whose domains are all ON clear (R595); with nothing latched there is nothing left to replay. -/
def State.clearLatches (s : State) : State :=
  let due := s.latchedSources.filter (fun i => (withNeeds (s.namedBy i)).all s.isOn)
  let s1 := s.wr F.PWR_WAKE_LATCH_LATCHED 0 ((due.map (fun i => 2 ^ (i - 1))).foldl (fun v m => v &&& (127 ^^^ m))
    (s.rd F.PWR_WAKE_LATCH_LATCHED))
  let s2 := if due.contains 1 then s1.modPwr (fun w => { w with tallyBanks := [] }) else s1
  if s2.latchedSources.isEmpty then s2.modPwr (fun w => { w with replay := false }) else s2

/-- SET_POWER writes its RESULT record and completes (R593). DESIGN CHOICE (log entry 24). -/
def State.setPowerDone (s : State) (sp : SetPower) (ok : Bool) : State :=
  match s.txn? sp.txn with
  | some t =>
    let st : Status := if ok then .ok else .timeout
    let content := leBytes 1 (if ok then 0xFF else sp.refuser) ++ leBytes 1 (if ok then 0 else sp.reason) ++ leBytes 2 sp.tries
    ((s.modPwr (fun w => { w with setPower := none })).emitAcc .result .ok unitSys t s.sys.timebase content).finish t.id st
  | none => s.modPwr (fun w => { w with setPower := none })

/-- A request is over (R591, R593, R613). -/
def State.requestOver (s : State) (ok : Bool) : State :=
  let s1 := ((s.setPwrRun none).wr F.PWR_STAT_RESULT 0 (if ok then 1 else 2)).setF F.PWR_STAT_DONE
  let s2 := s1.clearLatches
  match s2.pwr.setPower with
  | some sp =>
    if sp.active then
      if ok then s2.setPowerDone sp true
      else if s2.pwr.aonMicros + 1000 ≤ sp.deadline then
        s2.modPwr (fun w => { w with setPower := some { sp with active := false } })
      else s2.setPowerDone sp false
    else s2
  | none => s2

/-- Events at the end of a wake: for each domain in wake order PWR_STATE, then for a wake one WAKE of each source that
names it directly, in ascending order (R598). DEDUCED (log entry 29). -/
def State.wakeEvents (s : State) (r : PwrRun) : State :=
  forAll r.woken (fun (p : Domain × PState) (s : State) =>
    let s1 := s.pwrEvent p.1 .on p.2 r.cause.code
    forAll (r.named.filter (fun q => q.2 == p.1)) (fun (q : Nat × Domain) (s : State) =>
      s.raise .wake (unitPd p.1) (leBytes 1 q.1 ++ leBytes 1 (b2n r.replay))) s1) s

/-- The run has brought its last domain ON. -/
def State.endPwrRun (s : State) (r : PwrRun) : State :=
  if r.phase = 2 then s.requestOver false
  else
    let s1 := s.wakeEvents r
    if r.cause = .wake then (s1.setPwrRun none).clearLatches else s1.requestOver true

/-- The next position of a run starts (R596, R597): CORE waits first for a stopped crystal. DEDUCED (log entry 29). -/
def State.nextPos (s : State) (r : PwrRun) : State :=
  match wakeOrder.find? (fun p => p.any r.up.contains) with
  | none => s.endPwrRun r
  | some p =>
    if p.contains .core && !s.pwr.xtal27 then s.setPwrRun (some { r with xtalWait := true })
    else
      let ds := p.filter r.up.contains
      (forAll ds (fun (d : Domain) (s : State) => s.setPst d .transit) s).setPwrRun (some
        { r with xtalWait := false, pos := ds, up := r.up.filter (fun d => !ds.contains d),
                 left := r.left ++ ds.map (fun d => (d, s.pst d)) })

/-- The domains of the present position reach ON (R591, R596). -/
def State.posDone (s : State) (r : PwrRun) : State :=
  let s1 := forAll r.pos (fun (d : Domain) (s : State) =>
    let s2 := s.comeOn d (r.leftOf d)
    if r.phase = 2 then (s2.freePads d).pwrEvent d .on (r.leftOf d) 3 else s2) s
  s1.nextPos { r with pos := [] }

/-! ### Requests (R586 to R592) -/

/-- Targets of PWR_REQ bits [23:0]: one of 0 OFF, 1 RETENTION, 2 ON, 3 no change for each domain. -/
def targetsOf (v : Nat) : List Nat := (List.range 12).map (fun d => if d = 0 then 3 else bits v (2 * d + 1) (2 * d))

/-- Target of a domain. -/
def tgt (l : List Nat) (d : Domain) : Nat := l.getD d.num.val 3

/-- Step 1 of R587: the first need of a domain targeted ON that is named RETENTION or OFF. The pair of BOARD and CORE is
left to step 2 when CORE is named so. -/
def needRefused (l : List Nat) : Option (Domain × Nat × Nat) :=
  ((Domain.all.filter (fun d => tgt l d == 2)).flatMap (fun d =>
    (Domain.all.filter (fun n => d.needs.contains n && decide (tgt l n < 2) && !(d == .board && n == .core))).map (fun n =>
      (n, 4, tgt l n)))).head?

/-- Needs of domains targeted ON become ON targets (R587). -/
def fillNeeds (l : List Nat) : List Nat :=
  let on := Domain.all.filter (fun d => tgt l d == 2)
  Domain.all.map (fun n => if tgt l n = 3 && n != .aon && on.any (fun d => d.needs.contains n) then 2 else tgt l n)

/-- The check of a request as a whole (R587): its targets, or the refuser, reason and requested state. -/
def State.checkRequest (s : State) (l : List Nat) : List Nat × Option (Domain × Nat × Nat) :=
  match needRefused l with
  | some r => (l, some r)
  | none =>
    let a := fillNeeds l
    let lowers := tgt l .core < 2
    if lowers ∧ tgt l .board = 2 then (l, some (.board, 4, 2))
    else
      let b := if lowers ∧ tgt a .board = 3 then a.set Domain.board.num.val (tgt l .core) else a
      if s.sys.role = .satellite ∧ tgt b .host = 2 then (b, some (.host, 6, 2))
      else if s.sys.role = .standalone ∧ tgt b .ring = 2 then (b, some (.ring, 6, 2))
      else (b, none)

/-- Entry order: the reverse of the wake order, BOARD just before CORE (R588). -/
def entryOrder : List Domain := [.uhf, .lf, .hfb, .hfa, .ring, .host, .crypto, .plan, .keys, .board, .core]

/-- Members whose state is lowered, with their targets, in entry order (R587, R588). -/
def State.lowered (s : State) (l : List Nat) : List (Domain × PState) :=
  (entryOrder.filter (fun d => decide (tgt l d < 2) && decide (tgt l d < (s.pst d).code) && s.pst d != .transit)).map
    (fun d => (d, if tgt l d = 0 then .off else .ret))

/-- Domains to bring ON. -/
def State.raised (s : State) (l : List Nat) : List Domain :=
  Domain.all.filter (fun d => d != .aon && tgt l d == 2 && s.pst d != .on)

/-- The bank of a domain has something in its FIFOs or held records (R589). -/
def State.bankRecords (s : State) (d : Domain) : Bool :=
  (bankRods d).any (fun n =>
    let q := s.fifo (ix 24 n.val)
    !q.quiet || !q.waiting.isEmpty || !(s.rod n).held.isEmpty)

/-- The BUSY test of R589. -/
def State.busyTest (s : State) (d : Domain) : Bool :=
  match d with
  | .core =>
    s.slotsUsed != 0 || s.acc.pulse.toList.any (fun b => b) || s.acc.mirror.writing || s.acc.restoring || s.round.step != 0
  | .hfa | .hfb =>
    s.surveyBusy || (bankRods d).any (fun n =>
      s.hasRodTxn n.val || (s.plan? n).isSome || s.listening n.val
        || (match (s.rod n).carrier with | .off => false | .hold => false | _ => true))
  | .lf => (List.range 8).any (fun n => s.rd F.LF_STAT_STATE n == 1 || s.rd F.LF_STAT_STATE n == 2)
  | .uhf => s.radio != 0 || s.uhfBusy || s.radioHeld || s.uhf.need != .none
  | .crypto =>
    !s.cph.queue.isEmpty || s.cph.cores.toList.any (fun c => c.run.isSome) || !s.rng.queue.isEmpty || s.acc.vd.isSome
      || (match s.acc.run with | some r => (match r.stage with | .draw _ _ => true | _ => false) | none => false)
  | .keys => !s.keys.imports.isEmpty
  | .plan => s.board.planTiles.toList.any (fun t => t.st == .loading)
  | .ring => !s.ring.fwd.isEmpty || !s.ingress.isEmpty
  | .host => s.txns.any (fun t => t.unit == unitSys && t.op == 0x31 && t.isRunning) || !s.host.owed.isEmpty
  | _ => false

/-- The RECORDS test of R589. -/
def State.recordsTest (s : State) (d : Domain) (target : PState) : Bool :=
  match d with
  | .hfa | .hfb => s.bankRecords d
  | .core => !(s.fifo 24).quiet || !(s.fifo 24).waiting.isEmpty
  | .board => target == .off && s.board.tiles.toList.any (fun t => t.st == .opened || t.st == .sealing || t.st == .sealed)
  | .host => !s.host.staging.isEmpty || s.txns.any (fun t => t.sq.isSome && !t.live && !t.orphan)
  | _ => false

/-- The reason for which a member refuses (R589, R592): the first that applies. -/
def State.memberRefuses (s : State) (r : PwrRun) (d : Domain) (target : PState) : Option Nat :=
  let skip := r.force && d != .core && d != .board
  if !skip && s.busyTest d then some 1
  else if s.wakeDomains.contains d then some 2
  else if !skip && s.recordsTest d target then some 3
  else if Domain.all.any (fun e => e != d && s.isOn e && e.needs.contains d && !r.todo.any (fun p => p.1 == e)) then some 4
  else if d = .host && s.host.bme then some 5
  else none

/-- A refusal is counted, recorded and reported (R591). -/
def State.reportRefusal (s : State) (d : Domain) (reason req : Nat) : State :=
  let s1 := ((((s.count F.PWR_REFUSE_CNT_COUNT d.num.val).wr F.PWR_LAST_REFUSER_DOMAIN 0 d.num.val).wr
    F.PWR_LAST_REFUSER_REASON 0 reason).wr F.PWR_LAST_REFUSER_REQ_STATE 0 req).setF F.PWR_LAST_REFUSER_VALID
  (s1.raise .pwrRefused (unitPd d) (leBytes 1 reason ++ leBytes 1 req)).modPwr (fun w =>
    { w with setPower := w.setPower.map (fun sp =>
        if sp.active then { sp with refuser := d.num.val, reason := reason } else sp) })

/-- A member passes its test and enters (R590). DEDUCED (log entry 29). -/
def State.enterMember (s : State) (r : PwrRun) (d : Domain) (target : PState) : State :=
  let old := s.pst d
  let s1 := if old = .on then (s.unitsDown d).holdPads d else s
  let s2 := (s1.setPst d .transit).surveyBankLost
  s2.setPwrRun (some { r with todo := r.todo.filter (fun p => p.1 != d), cur := some (d, target), left := [(d, old)] })

/-- The next lowered member has its turn; after the last, the targeted domains wake (R588, R589, R591). -/
def State.nextMember (s : State) (r : PwrRun) : State :=
  match r.todo with
  | [] => s.nextPos { r with phase := 3, left := [] }
  | (d, target) :: rest =>
    match s.memberRefuses { r with todo := rest } d target with
    | none => s.enterMember r d target
    | some reason =>
      (s.reportRefusal d reason target.code).nextPos
        { r with phase := 2, todo := [], up := r.entered.map (·.1), left := [] }

/-- A request starts: it is checked as a whole, and its first member has its turn (R587, R588). -/
def State.startRequest (s : State) (cause : PwrCause) (force : Bool) (l : List Nat) : State :=
  match s.checkRequest l with
  | (_, some x) => (s.reportRefusal x.1 x.2.1 x.2.2).requestOver false
  | (a, none) =>
    s.nextMember ⟨cause, 1, force, s.lowered a, none, [], s.raised a, [], [], false, false, []⟩

/-- The member in progress has entered (R588, R592, R603). -/
def State.memberEntered (s : State) (r : PwrRun) (d : Domain) (target : PState) : State :=
  let s1 := s.setPst d target
  let s2 := if target = .off then s1.domainLost d else s1
  let s3 := if d = .core then s2.modPwr (fun w => { w with xtal27 := s.flag F.CLK_CFG_XTAL_KEEP }) else s2
  let s4 := if d = .core || d = .board then s3 else s3.pwrEvent d target (r.leftOf d) r.cause.code
  s4.hfSettle.nextMember { r with cur := none, entered := (d, target) :: r.entered }

/-- Write of PWR_REQ (R586, R613): the targets are kept, and a request starts unless all are "no change"; that of a beam
write only once the write has been answered. -/
def writePwrReq (w : Word) (s : State) : State :=
  if s.pwrBusy then s.setF F.PWR_STAT_DROPPED
  else
    let v := w.toNat
    let s1 := (s.wr F.PWR_REQ_TGT 0 (bits v 23 2)).wr F.PWR_REQ_FORCE 0 (bits v 24 24)
    let l := targetsOf v
    if l.all (· == 3) then s1
    else if s.pwr.answering then s1.modPwr (fun p => { p with staged := some (bit v 24, l) })
    else s1.startRequest .register (bit v 24) l

/-- The write has been answered: a request that it holds starts (R586). -/
def State.releaseRequest (s : State) : State :=
  let s1 := s.modPwr (fun p => { p with answering := false, staged := none })
  match s.pwr.staged with
  | some x => s1.startRequest .register x.1 x.2
  | none => s1

/-! ### Resets (R605 to R607, R673) -/

/-- The release outputs go inactive with CORE's reset, which makes POL 0 (R383, R385). -/
def State.dropPulses (s : State) : State :=
  forAll (List.range 4) (fun (l : Nat) (s : State) =>
    if s.relLevel (ix 3 l) then s.emitOut (.release l false) else s) s

/-- A reset of every domain, AON included (R605): start-up begins at step 1 with the role sampled. `b`: bit of the
source. What waits for the block stays. -/
def State.fullReset (s : State) (b pins : Nat) : State :=
  let s1 := s.dropPulses
  ({ State.reset with
    pending := s1.pending, out := s1.out, otpMem := s1.otpMem,
    sys := { SysPart.reset with role := roleOf pins, rolePins := pins % 4, nextId := s.sys.nextId, fresh := s.sys.fresh },
    pwr := { PwrPart.reset with unreported := 2 ^ b } }).wr F.RST_CAUSE_CAUSE 0 (2 ^ b)

/-- A reset of every domain except AON (R605, R673): the domains are OFF, start-up begins again with CORE's wake. -/
def State.warmReset (s : State) (b : Nat) : State :=
  let s0 := (s.dropPulses.noteReset b)
  let s1 := forAll (Domain.all.filter (· != .aon)) (fun (d : Domain) (s : State) => s.domainLost d)
    ({ s0 with
      txns := [], host := { s0.host with staging := [] }, sys := { s0.sys with heldEvents := [], heldLost := 0 } })
  let s2 : State := { s1 with
    host := HostPart.reset, keys := KeysPart.reset, cph := CphPart.reset, rng := RngPart.reset,
    ring := RingPart.reset, link := LinkPart.reset, rods := Vector.replicate 24 Rod.reset, acc := s0.acc.coreReset,
    pwr := { s0.pwr with
      st := PwrPart.reset.st, run := none, setPower := none, xtal27 := s0.flag F.CLK_CFG_XTAL_KEEP, hfLock := false,
      coreAway := 0, wdt := 0, answering := false, staged := none, step := 1, halted := false, haltInt := false, warm := true, imageTiles := [],
      imageRegs := [] } }
  s2.wr F.PWR_PAD_RELEASE_HELD 0 0

end Sys2Proof.Machine
end

