-- ==== Sys2Proof/Machine/TestCmds.lean ====
section
/-! DEFINITION. Self-test, boundary scan and the debug halt (spec/15_test_and_debug.md). -/

namespace Sys2Proof.Machine
open Sys2Proof

/-- Change the self-test part. -/
def State.modTest (s : State) (f : TestPart → TestPart) : State := { s with test := f s.test }

/-! ### Items of a run (R615 to R617) -/

/-- Domain of a memory of R616. -/
def memDomain (m : Nat) : Domain := [Domain.board, .plan, .keys, .hfa, .hfb, .core, .ring, .host].getD m .aon

/-- Items of a selection in the order in which they are tested: partition d, then 16 + m for memory m (R617). -/
def bistItems (l m : Nat) : List Nat :=
  (List.range 16).filter (fun d => bit l d) ++ ((List.range 8).filter (fun i => bit m i)).map (· + 16)

/-- Domain of an item. -/
def itemDomain (k : Nat) : Domain := if k < 16 then Domain.ofNum k else memDomain (k - 16)

/-- Target domains of a run, in wake order (R619, R622). -/
def bistTargets (l m : Nat) : List Domain :=
  wakeOrder.flatten.filter (fun d => (bistItems l m).any (fun k => itemDomain k == d))

/-- Expected value of an item; none when it is not programmed (R617). -/
def State.expected (s : State) (k : Nat) : Option Nat :=
  match (if k < 16 then s.otp.misr.getD k none else s.otp.msig.getD (k - 16) none) with
  | some v => if v = 0 then none else some v
  | none => none

/-- An item has been tested (R617): `sig`, its MISR or signature; `clean`, March C− found no mismatch. -/
def State.judgeItem (s : State) (b : BistRun) (k sig : Nat) (clean : Bool) : BistRun :=
  let v := if k < 16 then sig % 2 ^ 64 else sig % 2 ^ 32
  let b1 := { b with todo := b.todo.tail, sigs := (k, v) :: b.sigs }
  match s.expected k with
  | none => { b1 with noexp := k :: b.noexp }
  | some e => if v = e && (decide (k < 16) || clean) then { b1 with pass := k :: b.pass } else b1

/-- Items as a mask of partitions and a mask of memories. -/
def itemMasks (l : List Nat) : Nat × Nat :=
  (((l.filter (· < 16)).map (fun k => 2 ^ k)).sum, ((l.filter (fun k => 16 ≤ k)).map (fun k => 2 ^ (k - 16))).sum)

/-- A checked item failed. -/
def BistRun.anyFail (b : BistRun) : Bool :=
  b.sigs.any (fun p => !b.pass.contains p.1 && !b.noexp.contains p.1)

/-- Signature of an item. -/
def BistRun.sigOf (b : BistRun) (k : Nat) : Nat := ((b.sigs.find? (fun p => p.1 == k)).map (·.2)).getD 0

/-- Content of a BIST record (R626). -/
def bistContent (b : BistRun) (scope : Nat) : List Byte :=
  let p := itemMasks b.pass
  let x := itemMasks b.noexp
  leBytes 2 b.lmask ++ leBytes 2 p.1 ++ leBytes 2 x.1 ++ leBytes 1 b.mmask ++ leBytes 1 p.2 ++ leBytes 1 x.2
    ++ leBytes 1 scope ++ leBytes 2 0
    ++ ((bistItems b.lmask 0).map (fun k => leBytes 8 (b.sigOf k))).flatten
    ++ ((bistItems 0 b.mmask).map (fun k => leBytes 4 (b.sigOf k))).flatten

/-- A finished run goes into the BIST registers and writes its record (R617, R625, R626). -/
def State.bistReport (s : State) (b : BistRun) (scope : Nat) : State :=
  let p := itemMasks b.pass
  let x := itemMasks b.noexp
  let s1 := (((s.wr F.BIST_PASS_L 0 p.1).wr F.BIST_PASS_M 0 p.2).wr F.BIST_NOEXP_L 0 x.1).wr F.BIST_NOEXP_M 0 x.2
  let s2 := forAll b.sigs (fun (q : Nat × Nat) (s : State) =>
    if q.1 < 16 then (s.wr F.BIST_MISR_LO_VALUE (q.1 - 1) q.2).wr F.BIST_MISR_HI_VALUE (q.1 - 1) (q.2 / 2 ^ 32)
    else s.wr F.BIST_MSIG_VALUE (q.1 - 16) q.2) s1
  let s3 := ((s2.wr F.BIST_STAT_RESULT 0 (if b.anyFail then 2 else 1)).setF F.BIST_STAT_DONE).wr F.BIST_STAT_SCOPE 0 scope
  let t := b.txn.bind s.txn?
  s3.emit 24 [⟨.bist, if b.anyFail then .checksumFail else .ok, unitSys, (t.map Txn.tag).getD 0xFFFF,
    (t.map Txn.tagSq).getD 0xFF, s.sys.timebase, bistContent b scope, 0, false⟩] b.txn

/-! ### Runtime runs (R618 to R623) -/

/-- Selections that a runtime run may name (R615, R616, R618). -/
def bistAllowed (l m : Nat) : Bool :=
  (l != 0 || m != 0) && (List.range 16).all (fun d => !bit l d || (decide (3 ≤ d) && decide (d ≤ 9)))
    && (List.range 8).all (fun i => !bit m i || (i != 0 && i != 5 && i != 7))

/-- The check of a run as a whole (R619); none: it may go on. -/
def State.bistCheck (s : State) (l m : Nat) : Option Status :=
  let ts := bistTargets l m
  if !bistAllowed l m then some .badDescriptor
  else if ts.any (fun d => !s.isOn d) then some .domainOff
  else if Domain.all.any (fun e => s.isOn e && !ts.contains e && e.needs.any ts.contains) then some .badDescriptor
  else none

/-- A run ends without a result (R620, R623). DESIGN CHOICE (log entry 30). -/
def State.bistCut (s : State) (txn : Option Nat) (st : Status) : State :=
  let s1 := ((s.modTest (fun t => { t with bist := none })).wr F.BIST_STAT_RESULT 0 3).setF F.BIST_STAT_DONE
  onSome txn (fun (id : Nat) (s : State) => s.finish id st) s1

/-- A run starts: it is checked and waits for its targets (R619, R620). DESIGN CHOICE (log entry 30). -/
def State.bistStart (s : State) (txn : Option Nat) (l m : Nat) : State :=
  match s.bistCheck l m with
  | some st => s.bistCut txn st
  | none =>
    (onSome txn (fun (id : Nat) (s : State) => s.run id) s).modTest (fun t =>
      { t with bist := some ⟨txn, l, m, true, bistItems l m, [], [], []⟩ })

/-- BIST_RUN (R618): it waits its turn while a request, a wake or another run is in progress.
DESIGN CHOICE (log entry 30). -/
def execBistRun (s : State) : Out :=
  .next (
    if s.pwrBusy then s
    else onSome (s.takeHead? unitSys 0x40) (fun (t : Txn) (s : State) =>
      s.bistStart (some t.id) (descField t.desc 16 2) (descByte t.desc 18)) s)

/-- Write of BIST_CTL (R618, R620). DESIGN CHOICE (log entries 30 and 90). -/
def writeBistCtl (w : Word) (s : State) : State :=
  let s1 := match s.test.bist with
    | some b => if bit w.toNat 1 && b.waiting && b.txn.isNone then s.bistCut none .aborted else s
    | none => s
  if bit w.toNat 0 && !s.pwrBusy then s1.bistStart none (s.rd F.BIST_SEL_LMASK) (s.rd F.BIST_SEL_MMASK) else s1

/-- BIST_CANCEL (R620). -/
def execBistCancel (w : Word) (s : State) : Out := .next (s.hostWrite 0xF000 (writeBistCtl w))

/-- A BIST_RUN whose NLT passes while it waits completes LATE (R620). -/
def State.bistLate (s : State) : State :=
  match s.test.bist with
  | some b =>
    match b.txn.bind s.txn? with
    | some t => if b.waiting && s.nltPassed t.desc then s.bistCut (some t.id) .late else s
    | none => s
  | none => s

/-- BIST_TARGETS_READY (R620, R621): every target passes the BUSY and RECORDS tests and is entered. -/
def execBistTargetsReady (s : State) : Out :=
  .next (
    let s0 := s.bistLate
    match s0.test.bist with
    | some b =>
      let ts := bistTargets b.lmask b.mmask
      if b.waiting && ts.all (fun d => !s0.busyTest d && !s0.recordsTest d .off) then
        let s1 := forAll ts (fun (d : Domain) (s : State) => ((s.unitsDown d).holdPads d).setPst d .transit) s0
        let s2 := if ts.contains .keys then s1.zeroizeKeys else s1
        s2.surveyBankLost.hfSettle.modTest (fun t => { t with bist := some { b with waiting := false } })
      else s0
    | none => s0)

/-- Every target is ON as from OFF, its pads held, with a PWR_STATE event (R622). DESIGN CHOICE (log entry 30). -/
def State.bistTargetsOn (s : State) (b : BistRun) : State :=
  let s1 := s.modTest (fun t => { t with bist := none })
  forAll (bistTargets b.lmask b.mmask) (fun (d : Domain) (s : State) =>
    ((s.domainLost d).comeOn d .off).pwrEvent d .on .off 1) s1

/-- BIST_ITEM_DONE (R617, R622, R626): an item has been tested; after the last the run ends. -/
def execBistItemDone (sig : Nat) (clean : Bool) (s : State) : Out :=
  .next (
    match s.test.bist with
    | some b =>
      match b.waiting, b.todo with
      | false, k :: rest =>
        let b1 := s.judgeItem b k sig clean
        if rest.isEmpty then
          let s1 := (s.bistReport b1 0).bistTargetsOn b1
          onSome b.txn (fun (id : Nat) (s : State) => s.finish id (if b1.anyFail then .checksumFail else .ok)) s1
        else s.modTest (fun t => { t with bist := some b1 })
      | _, _ => s
    | none => s)

/-- Thermal shutdown ends a run at once (R623). DESIGN CHOICE (log entry 30). -/
def State.bistShutdown (s : State) : State :=
  match s.test.bist with
  | some b => if b.waiting then s.bistCut b.txn .aborted else (s.bistTargetsOn b).bistCut b.txn .aborted
  | none => s

/-! ### Boundary scan (R627 to R629) -/

/-- The identification register (R627). -/
def State.idcode (s : State) : Nat :=
  (s.otp.idVersion % 16) * 2 ^ 28 + 0x2408 * 2 ^ 12 + (s.otp.idMaker % 2 ^ 11) * 2 + 1

/-- What drives the balls with boundary cells (R627 to R629); the observe-only cells of REL_OUT never drive. -/
def TestPart.ballDrive (t : TestPart) : BallDrive :=
  if t.tap = 0x0D then .highZ
  else if t.takesBalls then
    .cells (((boundaryChain.zip t.cells).filter (fun c => !c.1.observeOnly)).map (·.2))
      (if t.tap = 8 then .pulse else if t.tap = 9 then .train else .level)
  else .units

/-- The test part becomes `t`: a change of what drives the balls shows there. -/
def State.setTest (s : State) (t : TestPart) : State :=
  let s1 : State := { s with test := t }
  if t.ballDrive = s.test.ballDrive then s1 else s1.emitOut (.balls t.ballDrive)

/-- The TAP selects an instruction (R627, R629). DESIGN CHOICE (log entry 56). -/
def State.selectTap (s : State) (ir : Nat) : State :=
  let s1 := s.setTest { s.test with tap := ir }
  if ir = 2 then s1.emitOut (.tapId s.idcode) else s1

/-- The selected instruction puts the boundary register between TDI and TDO (R627). -/
def TestPart.scansCells (t : TestPart) : Bool := [0, 1, 8, 9].contains t.tap

/-- The data register of the selected instruction as Capture-DR leaves it, the bit next to TDO first (R627): the levels at the
balls, the identification register, or the one bit of BYPASS. -/
def State.captured (s : State) (balls : List Bool) : List Bool :=
  if s.test.scansCells then (balls ++ List.replicate boundaryChain.length false).take boundaryChain.length
  else if s.test.tap = 2 then (List.range 32).map (fun i => bit s.idcode i)
  else [false]

/-- A scan of the selected data register (R627): its captured bits leave at TDO ahead of those shifted in, and Update-DR gives
the boundary cells what the register then holds. The debug port is not scanned here: its accesses are the debug commands'.
DESIGN CHOICE (log entry 56). -/
def State.scanDr (s : State) (balls tdi : List Bool) : State :=
  if tdi.isEmpty || s.test.tap == 0x10 then s
  else
    let stream := s.captured balls ++ tdi
    let s1 := s.emitOut (.tdo (stream.take tdi.length))
    if s.test.scansCells then s1.setTest { s1.test with cells := stream.drop tdi.length } else s1

/-- JTAG_INSTRUCTION (R627, R629): values without an entry act as BYPASS. DESIGN CHOICE (log entry 56). -/
def execJtagInstruction (x : TapScan) (s : State) : Out :=
  .next ((s.selectTap (if [0, 1, 2, 8, 9, 0x0C, 0x0D, 0x10].contains (x.ir % 32) then x.ir % 32 else 0x1F)).scanDr x.balls x.tdi)

/-- TAP_RESET (R627): IDCODE is selected. -/
def execTapReset (s : State) : Out := .next (s.selectTap 2)

/-! ### Debug halt (R630 to R632) -/

/-- RESUME (R630, R631, R632): invocations that stand at the breakpoint, between two units, pass it; a frame that was held back
starts. -/
def State.debugGo (s : State) : State :=
  if s.flag F.DBG_STAT_HALTED then
    let s1 := forAll allRods (fun (n : Fin 24) (s : State) =>
      s.modPlan n (fun p => { p with credit := s.atBreakpoint n && p.atBoundary })) s
    let s2 := (s1.wr F.DBG_STAT_HALTED 0 0).wr F.DBG_STAT_STOPPED 0 0
    (s2.raise .debugHalt unitDev (leBytes 1 0)).accResume
  else s

/-- STEP (R632): every halted invocation may run one unit. DEDUCED (log entry 31). -/
def State.debugUnit (s : State) : State :=
  if s.flag F.DBG_STAT_HALTED then
    let s1 := forAll allRods (fun (n : Fin 24) (s : State) => s.modPlan n (fun p => { p with credit := true })) s
    if s.rods.toList.any (fun r => r.plan.isSome) then s1.wr F.DBG_STAT_STOPPED 0 0 else s1
  else s

/-- Write of DBG_CTL (R630, R632); `src`: 0 register, 1 JTAG. DESIGN CHOICE (log entry 90). -/
def writeDbgCtl (src : Nat) (w : Word) (s : State) : State :=
  let s1 := if bit w.toNat 0 then s.debugHalt src else s
  let s2 := if bit w.toNat 1 then s1.debugGo else s1
  if bit w.toNat 2 then s2.debugUnit else s2

/-- DEBUG_HALT (R630): over BAR0 or the beam, or through DBG_ACCESS while it is selected and not locked.
DESIGN CHOICE (log entry 56). -/
def execDebugHalt (jtag : Bool) (w : Word) (s : State) : Out :=
  .next (
    if jtag then if s.test.tap = 0x10 && !s.otp.debugLocked then writeDbgCtl 1 w s else s
    else s.hostWrite 0xF800 (writeDbgCtl 0 w))

/-- DEBUG_RESUME (R630). -/
def execDebugResume (w : Word) (s : State) : Out := .next (s.hostWrite 0xF800 (writeDbgCtl 0 w))

/-- DEBUG_STEP (R632). -/
def execDebugStep (w : Word) (s : State) : Out := .next (s.hostWrite 0xF800 (writeDbgCtl 0 w))

/-- An invocation is at rest (R631): it stands between two units, or has ended. -/
def Plan.atRest (p : Plan) : Bool := !p.credit && (p.atBoundary || (match p.stage with | .ending _ => true | _ => false))

/-- DEBUG_STOPPED (R631): every invocation and the sequencer are at rest. DEDUCED (log entry 31). -/
def execDebugStopped (s : State) : Out :=
  .next (
    if s.flag F.DBG_STAT_HALTED && !s.flag F.DBG_STAT_STOPPED && s.accAtRest
        && s.rods.toList.all (fun r => match r.plan with | some p => p.atRest | none => true) then
      (s.setF F.DBG_STAT_STOPPED).raise .debugHalt unitDev (leBytes 1 1)
    else s)

end Sys2Proof.Machine
end

