-- ==== Sys2Proof/Machine/ThermalCmds.lean ====
section
/-! DEFINITION. Die temperature, throttle and shutdown, and the HF PLL (spec/04_field_sharing.md R206 to R209,
spec/14_power_clocks_reset.md R603). -/

namespace Sys2Proof.Machine
open Sys2Proof

/-- First sensor whose reading reaches a threshold, lowest number first (R207). -/
def firstAt (l : List Int) (th : Int) : Nat := ((List.range 4).find? (fun i => decide (th ≤ l.getD i 0))).getD 0

/-- Sensor with the highest reading, the lowest number among equals. -/
def hottestOf (l : List Int) : Nat :=
  ((List.range 4).find? (fun i => l.all (fun x => decide (x ≤ l.getD i 0)))).getD 0

/-- A THERMAL_THROTTLE event (R83). -/
def State.throttleEvent (s : State) (k : Nat) (on : Bool) (l : List Int) : State :=
  s.raise .thermalThrottle unitDev (leBytes 1 k ++ leBytes 1 (b2n on) ++ leBytes 2 (ofSigned 16 (l.getD k 0)))

/-- Throttle is entered (R207): idle carriers that are ON ramp down. -/
def State.enterThrottle (s : State) (l : List Int) : State :=
  let s1 : State := { s with field := { s.field with throttle := true } }
  let s2 := forAll allRods (fun (n : Fin 24) (s : State) =>
    if (s.rod n).carrier = .on && !s.hasRodTxn n.val && (s.plan? n).isNone && !s.listening n.val then s.fieldOff n else s) s1
  s2.throttleEvent (firstAt l 500) true l

/-- Throttle is left (R207). -/
def State.leaveThrottle (s : State) (l : List Int) : State :=
  ({ s with field := { s.field with throttle := false } }).throttleEvent (hottestOf l) false l

/-- Shutdown is entered (R208): carriers, LF outputs and the power amplifier are off, what uses them ends ABORTED. -/
def State.enterShutdown (s : State) (l : List Int) : State :=
  let s1 : State := { s with field := { s.field with shutdown := true, throttle := true } }
  let s2 := s1.accShutdown.rodsShutdown
  let s3 := forAll (List.range 8) (fun (n : Nat) (s : State) => s.lfStop n) s2
  let s4 := (forAll (s3.txns.filter (fun t => t.unit == unitUhf && t.live && t.dispatched))
    (fun (t : Txn) (s : State) => s.endUhf t.id .aborted) s3).dropTrain.modUhf (fun u => { u with need := .none })
  let s5 := (if s4.isOn .uhf then s4.setRadio 0 0 else s4).bistShutdown
  let k := firstAt l 540
  s5.raise .thermalShutdown unitDev (leBytes 1 k ++ leBytes 2 (ofSigned 16 (l.getD k 0)))

/-- TEMP_SAMPLE (R206 to R209, R416): the four readings in units of 0.25 °C. DEDUCED (log entry 29). -/
def execTempSample (t0 t1 t2 t3 : Int) (s : State) : Out :=
  .next (
    if s.isOn .core then
      let l := [t0, t1, t2, t3]
      let s1 := forAll (List.range 4) (fun (i : Nat) (s : State) => s.wr F.FLD_TEMP_TEMP i (ofSigned 16 (l.getD i 0))) s
      let s2 :=
        if s1.field.shutdown then s1
        else
          let hot := l.any (fun x => decide (500 ≤ x))
          let a := if !s1.field.throttle && hot then s1.enterThrottle l
            else if s1.field.throttle && l.all (fun x => decide (x ≤ 480)) then s1.leaveThrottle l
            else s1
          if l.any (fun x => decide (540 ≤ x)) then a.enterShutdown l else a
      s2.calTemp
    else s)

/-- HF_PLL_LOCK (R603): the PLL locks once it is asked for, or loses its lock. -/
def execHfPllLock (locked : Bool) (s : State) : Out :=
  .next (
    if locked then if s.hfReq then (s.modPwr (fun w => { w with hfLock := true })).kickAll else s
    else s.modPwr (fun w => { w with hfLock := false }))

end Sys2Proof.Machine
end

