-- ==== Sys2Proof/Machine/RoundCmds.lean ====
section
/-! DEFINITION. Round boundaries (spec/05_inventory_and_harvest.md, R261 to R266). -/

namespace Sys2Proof.Machine
open Sys2Proof

/-- The next waiting ROUND_END: everything before it in the system unit's queue has ended or is a ROUND_END too. -/
def State.nextRoundEnd (s : State) : Option Txn :=
  if s.txns.any (fun t => t.unit == unitSys && t.isRunning && t.op != 0x30) then none
  else match s.head? unitSys with
    | some t => if t.op == 0x30 then some t else none
    | none => none

/-- ROUND_END (R261, R262): a start; it completes when its boundary has ended. -/
def execRoundEnd (s : State) : Out :=
  .next (onSome s.nextRoundEnd (fun (t : Txn) (s : State) => (s.run t.id).roundStart 0) s)

/-- Write of ROD_ROUND_CTL (R261). -/
def writeRoundCtl (w : Word) (s : State) : State := if bit w.toNat 0 then s.roundStart 1 else s

/-- ROUND_CTL_END (R261). -/
def execRoundCtlEnd (w : Word) (s : State) : Out := .next (s.hostWrite 0x5054 (writeRoundCtl w))

/-- Number carried by the last ROUND token among starts. -/
def startToken (l : List (Nat × Option Word)) : Option Word := l.foldl (fun acc p => p.2.or acc) none

/-- Starts that have arisen join the boundary in progress (R263). -/
def State.joinRound (s : State) : State :=
  if s.round.starts.isEmpty then s
  else
    let tk := startToken s.round.starts
    let s1 := (s.setF F.ROD_INV_ERR_MERGED).modRound (fun r => { r with starts := [], token := tk.or r.token })
    if s.round.step = 7 then
      match tk with
      | some w => s1.wr F.ROD_ROUND_NO_ROUND 0 w.toNat
      | none => s1
    else s1

/-- What step 1 does on one rod (R264): frames of the plan that have not started are not sent, a tag that waits for its
carry gives its write steps up, one whose write steps had begun ends them, and a start that a plan step waits for leaves the
budget queue (R217). DEDUCED (log entry 55). -/
def State.roundStop (s : State) (n : Fin 24) : State :=
  let s0 := ((s.dropPlanFrame n).dropPrep n).dequeueOf n.val none
  let s1 := (s0.modPlan n (fun p => { p with wantCarrier := false })).giveUpWrites n
  match s1.plan? n, s1.inv? n, s1.tag? n with
  | some p, some i, some t =>
    if t.inWrites && t.carried && !t.quieting && (s1.rod n).air.isNone then
      (s1.endWrites n p i t t.pos).afterList n (fun s => s.afterTag n)
    else s1
  | _, _, _ => s1

/-- ROUND_BOUNDARY (R263, R264): the starts that have arisen begin one boundary, or join the one in progress. -/
def execRoundBoundary (s : State) : Out :=
  .next (
    if s.round.starts.isEmpty || !s.isOn .core then s
    else if s.round.step = 0 then
      let tk := startToken s.round.starts
      forAll allRods (fun (n : Fin 24) (s : State) => s.roundStop n)
        (s.modRound (fun r => { r with step := 1, starts := [], token := tk }))
    else s.joinRound)

/-- Discard the held records of a rod that satisfy `p`, reason ROUND_END (R264 step 3). At most `fuel` of them. -/
def State.discardWhere (n : Fin 24) (p : Held → Bool) : Nat → State → State
  | 0, s => s
  | fuel + 1, s =>
    match (s.rod n).held.zipIdx.find? (fun h => p h.1) with
    | some h => State.discardWhere n p fuel (s.discard n h.2 .roundEnd)
    | none => s

/-- No exchange is on the air (R264 step 2). -/
def State.airQuiet (s : State) : Bool :=
  allRods.all (fun n => match (s.rod n).air with | some x => x.phase == .ready | none => true)

/-- No held record waits for its verdict, is being carried or is one that R246 carries, and every record of a tag has been
written (R264 step 3). -/
def State.heldSettled (s : State) : Bool :=
  allRods.all (fun n => (s.rod n).held.all (fun h => h.verdict.isSome && !h.carrying && !s.mayCarry n h)
    && (s.fifo (ix 24 n.val)).waiting.all (fun g => g.1.all (fun r => r.type != .tag)))

/-- All rod record FIFOs are empty (R264 step 4). -/
def State.rodFifosEmpty (s : State) : Bool :=
  allRods.all (fun n => (s.fifo (ix 24 n.val)).quiet && (s.fifo (ix 24 n.val)).waiting.isEmpty)

/-- Step 6: the deduplication table is cleared and moves to the tiles that ROD_DEDUP_CFG names (R247, R264, R492). -/
def State.clearDedup (s : State) : State :=
  let base := s.rd F.ROD_DEDUP_CFG_BASE
  let tiles := s.rd F.ROD_DEDUP_CFG_TILES
  let all := (List.range s.round.tiles).map (· + s.round.base) ++ (List.range tiles).map (· + base)
  let s1 := forAll all (fun (t : Nat) (s : State) =>
    let s2 := s.modPlanTile (ix 15 t) (fun _ => ⟨.empty, 0⟩)
    { s2 with planMem := Memory.zeroTile s2.planMem t }) s
  (s1.modRound (fun r => { r with dedup := [], base := base, tiles := tiles })).checkOverlap

/-- Step 7: the round number changes, ROUND_DONE arises, the head sends the ROUND token (R264, R266, R519). -/
def State.roundDone (s : State) : State :=
  let old := s.roundNo
  let no := match s.round.token with | some w => w.toNat | none => (old + 1) % 2 ^ 32
  let s1 := ((s.wr F.ROD_ROUND_NO_ROUND 0 no).raise .roundDone unitDev
    (leBytes 1 old ++ leBytes 2 (min 65535 (s.rd F.ROD_ROUND_CARRIED_COUNT))
      ++ leBytes 2 (min 65535 (s.rd F.ROD_ROUND_DISC_COUNT))))
  if s.sys.role == .head && s.flag F.ROD_ROUND_CFG_RING_OUT && !s1.headLinks.isEmpty then
    s1.originate s1.headLinks 1 (leBytes 4 no)
  else s1

/-- The device's own ROUND_DONE waits for its commit. -/
def State.doneWaits (s : State) : Bool :=
  (s.host.staging ++ s.sys.heldEvents ++ s.sys.waitEvents).any (fun e =>
    e.code == EventCode.roundDone.code && e.origin.isNone)

/-- A running invocation starts its present pass again at ENTRY (R265). -/
def State.restartPass (s : State) (n : Fin 24) : State :=
  match s.plan? n with
  | some p =>
    match p.stage with
    | .ending _ => s
    | _ =>
      let s2 := (s.dequeueOf n.val none).modPlan n (fun p => { p with stage := .boundary, pc := p.entry, inv := none, wantCarrier := false })
      (when (s.rod n).air.isNone (fun (s : State) => s.releaseGrant n) s2).planBoundary n
  | none => s

/-- Step 8: the counts of the round return to 0, ROUND_ENDs complete, work resumes (R262, R264, R265). -/
def State.roundResume (s : State) : State :=
  let s1 := ((s.modRound (fun r => { r with step := 0, token := none })).wr
    F.ROD_ROUND_CARRIED_COUNT 0 0).wr F.ROD_ROUND_DISC_COUNT 0 0
  let s2 := forAll (s.txns.filter (fun t => t.unit == unitSys && t.isRunning && t.op == 0x30))
    (fun (t : Txn) (s : State) => s.finish t.id .ok) s1
  (forAll allRods (fun (n : Fin 24) (s : State) => s.restartPass n) s2).kickAll

/-- Go to a step. -/
def State.roundGo (s : State) (k : Nat) : State := s.modRound (fun r => { r with step := k })

/-- The present step has reached its end: the next one begins (R264). -/
def State.roundStep (s : State) : State :=
  match s.round.step with
  | 1 => s.roundGo 2
  | 2 =>
    if s.airQuiet then
      (forAll allRods (fun (n : Fin 24) (s : State) => State.discardWhere n (fun h => !h.complete) (s.rod n).held.length s)
        (s.roundGo 3)).settleAll
    else s
  | 3 =>
    if s.heldSettled then
      (forAll allRods (fun (n : Fin 24) (s : State) => State.discardAll n .roundEnd s) (s.roundGo 4)).settleAll
    else s
  | 4 => if s.rodFifosEmpty then (s.roundGo 5).sealOpen else s
  | 5 => if s.tilesIn .sealing = 0 then s.roundGo 6 else s
  | 6 => (s.clearDedup.roundGo 7).roundDone
  | 7 => if s.doneWaits then s else s.roundResume
  | _ => s

/-- ROUND_STEP_END (R264). DESIGN CHOICE (log entry 8). -/
def execRoundStepEnd (s : State) : Out :=
  .next (if s.round.step = 0 || !s.isOn .core then s else s.joinRound.roundStep)

end Sys2Proof.Machine
end

