-- ==== Sys2Proof/Machine/TimerCmds.lean ====
section
/-! DEFINITION. The general timers (spec/13_timers_crc_serial.md, R549 to R560). -/

namespace Sys2Proof.Machine
open Sys2Proof

/-! ### Ticks of the crystal (R549 to R551) -/

/-- A tick of timer `n` whose effect satisfies `p`, at the new levels of TMR_GATE[7:0] (R550, R555): the one that a command
tells is that of the crystal. The timebase and the pins tick their timers by themselves. DESIGN CHOICE (log entry 37). -/
def State.tickIf (s : State) (n : Fin 16) (tgate : Nat) (p : State → Bool) : State :=
  let s1 : State := { s with gpio := { s.gpio with tgate := tgate % 256 } }
  let s2 := if s1.takes n 1 && p s1 then s1.tick n else s1
  s2.signalEdges 1 8 s.gpio.tgate (tgate % 256)

/-- TIMER_TICK (R549, R551): one tick of the selected source; `tgate`, the levels of TMR_GATE[7:0] in its cycle.
DESIGN CHOICE (log entry 1). -/
def execTimerTick (n : Fin 16) (tgate : Nat) (s : State) : Out := .next (s.tickIf n tgate (fun _ => true))

/-- TIMER_MATCH (R551): a tick that brings the count to PERIOD or above. -/
def execTimerMatch (n : Fin 16) (tgate : Nat) (s : State) : Out := .next (s.tickIf n tgate (fun s => s.matches n))

/-- TIMER_OVERFLOW (R551): a tick that wraps the count to 0. -/
def execTimerOverflow (n : Fin 16) (tgate : Nat) (s : State) : Out :=
  .next (s.tickIf n tgate (fun s => (s.timer n).wraps))

/-! ### Captures (R556 to R558) -/

/-- The pin edge that the capture input of timer `n` shows (R555): its TMR_GATE pin or its GPIO input changes to the level, and
every timer that has chosen that signal sees it. The FIELD and TOKEN signals are the machine's own, and their edges capture
when they arise. DESIGN CHOICE (log entry 37). -/
def State.inputEdge (s : State) (src : Nat) (rising : Bool) : State :=
  if 1 ≤ src && src ≤ 8 then
    s.gateEdges (if rising then s.gpio.tgate ||| 2 ^ (src - 1) else s.gpio.tgate &&& (255 - 2 ^ (src - 1)))
  else if 0x10 ≤ src && src ≤ 0x1F then s.pinLevel (ix 15 (src - 0x10)) rising
  else s

/-- TIMER_CAPTURE_EDGE (R555, R556): the capture input of a timer shows an edge. DESIGN CHOICE (log entry 37). -/
def execTimerCaptureEdge (n : Fin 16) (rising : Bool) (s : State) : Out :=
  .next (if s.isOn .core then s.inputEdge (s.rd F.TMR_CTL_CAPT_SRC n.val) rising else s)

/-- A capture pair closes: a capture in the shadow moves into the capture register (R558). -/
def State.closePair (s : State) (n : Fin 16) : State :=
  let pend := s.flag F.TMR_STAT_CAPT_PEND n.val
  (s.modTimer n (fun t => { t with pairOpen := false, capt := if pend then t.shadow else t.capt })).wr
    F.TMR_STAT_CAPT_PEND n.val 0

/-! ### Commands (R553) -/

/-- Write of TMR_CMD[n] (R553). -/
def writeTmrCmd (n : Fin 16) (w : Word) (s : State) : State :=
  let v := w.toNat
  let k := b2n (bit v 0) + b2n (bit v 1) + b2n (bit v 2)
  if 1 < k then s.setF F.TMR_STAT_CMD_ERR n.val
  else
    let s1 := if bit v 0 then (s.modTimer n (fun t => { t with count := 0 })).setF F.TMR_STAT_RUN n.val
      else if bit v 1 then s.setF F.TMR_STAT_RUN n.val
      else if bit v 2 then s.wr F.TMR_STAT_RUN n.val 0 else s
    if bit v 3 then s1.capture n else s1

/-- A write of TMR_CMD[n] that sets bit `b`. -/
def State.timerCmd (s : State) (n : Fin 16) (w : Word) (b : Nat) : State :=
  if bit w.toNat b then s.hostWrite (0xD004 + 0x40 * n.val) (writeTmrCmd n w) else s

/-- TMR_START (R553). -/
def execTmrStart (n : Fin 16) (w : Word) (s : State) : Out := .next (s.timerCmd n w 0)

/-- TMR_RESUME (R553). -/
def execTmrResume (n : Fin 16) (w : Word) (s : State) : Out := .next (s.timerCmd n w 1)

/-- TMR_STOP (R553). -/
def execTmrStop (n : Fin 16) (w : Word) (s : State) : Out := .next (s.timerCmd n w 2)

/-- TMR_SWCAPT (R553, R556). -/
def execTmrSwcapt (n : Fin 16) (w : Word) (s : State) : Out := .next (s.timerCmd n w 3)

/-! ### Loads (R554) and reads (R557, R558) -/

/-- Write of a count or period half (R554). Other addresses: no effect. -/
def writeTmrHalf (addr : Nat) (w : Word) (s : State) : State :=
  let n : Fin 16 := ix 15 ((addr - 0xD000) / 0x40)
  let o := (addr - 0xD000) % 0x40
  if o = 0x10 then s.modTimer n (fun t => { t with stagedCnt := w })
  else if o = 0x14 then s.modTimer n (fun t => { t with count := w ++ t.stagedCnt })
  else if o = 0x18 then s.modTimer n (fun t => { t with stagedPer := w })
  else if o = 0x1C then s.modTimer n (fun t => { t with period := w ++ t.stagedPer })
  else s

/-- An address of timer `n`'s window. -/
def isTimerReg (addr : Nat) : Bool := decide (0xD000 ≤ addr) && decide (addr < 0xD400)

/-- TMR_LO_WRITE (R554). -/
def execTmrLoWrite (addr : Nat) (w : Word) (s : State) : Out :=
  .next (if isTimerReg addr && (addr % 0x40 == 0x10 || addr % 0x40 == 0x18) then s.hostWrite addr (writeTmrHalf addr w) else s)

/-- TMR_HI_WRITE (R554). -/
def execTmrHiWrite (addr : Nat) (w : Word) (s : State) : Out :=
  .next (if isTimerReg addr && (addr % 0x40 == 0x14 || addr % 0x40 == 0x1C) then s.hostWrite addr (writeTmrHalf addr w) else s)

/-- Low and high halves of a 64-bit value. -/
def loHalf (v : DWord) : Nat := v.toNat % 2 ^ 32
/-- High half. -/
def hiHalf (v : DWord) : Nat := v.toNat / 2 ^ 32

/-- A read of TMR_CNT_LO (R557): value and latch. -/
def State.readCntLo (s : State) (n : Fin 16) : State × Nat :=
  let c := (s.timer n).count
  (s.modTimer n (fun t => { t with cntLatch := some (BitVec.ofNat 32 (hiHalf c)) }), loHalf c)

/-- A read of TMR_CNT_HI (R557). -/
def State.readCntHi (s : State) (n : Fin 16) : State × Nat :=
  match (s.timer n).cntLatch with
  | some h => (s.modTimer n (fun t => { t with cntLatch := none }), h.toNat)
  | none => (s.setF F.TMR_STAT_UNLATCHED n.val, hiHalf (s.timer n).count)

/-- A read of TMR_CAPT_LO (R557, R558): an open pair closes first, then a new one opens. -/
def State.readCaptLo (s : State) (n : Fin 16) : State × Nat :=
  let s1 := if (s.timer n).pairOpen then s.closePair n else s
  let c := (s1.timer n).capt
  (s1.modTimer n (fun t => { t with pairOpen := true, captLatch := some (BitVec.ofNat 32 (hiHalf c)) }), loHalf c)

/-- A read of TMR_CAPT_HI (R557, R558). -/
def State.readCaptHi (s : State) (n : Fin 16) : State × Nat :=
  match (s.timer n).captLatch with
  | some h => ((s.modTimer n (fun t => { t with captLatch := none })).closePair n, h.toNat)
  | none => (s.setF F.TMR_STAT_UNLATCHED n.val, hiHalf (s.timer n).capt)

/-- A host read of a register in CORE: the reader sees the value, 0 with an access fault while CORE is not ON (R602). -/
def State.coreRead (s : State) (addr : Nat) (r : State × Nat) : State :=
  if s.isOn .core then r.1.emitOut (.readData addr r.2) else (s.accessFault addr false false).emitOut (.readData addr 0)

/-- TMR_CNT_LO_READ (R557). -/
def execTmrCntLoRead (n : Fin 16) (s : State) : Out := .next (s.coreRead (0xD010 + 0x40 * n.val) (s.readCntLo n))

/-- TMR_CNT_HI_READ (R557). -/
def execTmrCntHiRead (n : Fin 16) (s : State) : Out := .next (s.coreRead (0xD014 + 0x40 * n.val) (s.readCntHi n))

/-- TMR_CAPT_LO_READ (R558). -/
def execTmrCaptLoRead (n : Fin 16) (s : State) : Out := .next (s.coreRead (0xD020 + 0x40 * n.val) (s.readCaptLo n))

/-- TMR_CAPT_HI_READ (R558). -/
def execTmrCaptHiRead (n : Fin 16) (s : State) : Out := .next (s.coreRead (0xD024 + 0x40 * n.val) (s.readCaptHi n))

end Sys2Proof.Machine
end

