-- ==== Sys2Proof/Machine/RegWrite.lean ====
section
/-! DEFINITION. A write to any register of the map: access types, reserved encodings, offsets that hold no register, and
the effects that writes of particular registers have (R9, R11, R12, R602 and each chapter's register tables). -/

namespace Sys2Proof.Machine
open Sys2Proof

/-- Every register row. -/
def regMapRow? (addr : Nat) : Option RegSpec := if addr % 4 = 0 then findReg regMap addr else none

/-! ### Fields by their access type (R9, R11) -/

/-- Value of a field that the register file holds. -/
def State.getField (s : State) (addr i : Nat) (f : FieldSpec) : Nat := tabGet (f.rst + f.step * i) s.regs (fldKey addr f.lo)

/-- Set a field of the register file. -/
def State.setField (s : State) (addr i : Nat) (f : FieldSpec) (v : Nat) : State :=
  { s with regs := tabSet (f.rst + f.step * i) s.regs (fldKey addr f.lo) v }

/-- A field takes its bits of a written word as its access type says; a reserved encoding leaves it (R9, R11). Locked
fields of the access block follow ACC_CFG.PLOCK (R398). -/
def State.writeField (s : State) (addr i v : Nat) (f : FieldSpec) : State :=
  let new := bits v f.hi f.lo
  let old := s.getField addr i f
  match f.acc with
  | .rw => if f.ok new then s.setField addr i f new else s
  | .rwl => if f.ok new && !s.flag F.ACC_CFG_PLOCK then s.setField addr i f new else s
  | .w1c => s.setField addr i f (old ^^^ (old &&& new))
  | .w1s => s.setField addr i f (old ||| new)
  | .ro => s
  | .wo => s

/-- A write to a register with no effect beyond its fields. -/
def State.writeFields (s : State) (r : RegSpec) (addr : Nat) (w : Word) : State :=
  forAll r.fields (fun (f : FieldSpec) (s : State) => s.writeField addr (r.index addr) w.toNat f) s

/-- A write by the access types alone, at an address that may hold no register. -/
def writePlain (addr : Nat) (w : Word) (s : State) : State :=
  match regMapRow? addr with
  | some r => s.writeFields r addr w
  | none => s

/-! ### Writes with effects of their own -/

/-- Write of MSIX_CTRL: messages of a vector that is no longer masked go (R95). -/
def writeMsixCtrl (addr : Nat) (w : Word) (s : State) : State := (writePlain addr w s).flushPba

/-- Write of CLK_CFG (R603): the AON source in use follows AON_SRC, the crystal once it is stable. -/
def writeClkCfg (w : Word) (s : State) : State :=
  let v := w.toNat
  let s1 := (s.wr F.CLK_CFG_AON_SRC 0 (bits v 0 0)).wr F.CLK_CFG_XTAL_KEEP 0 (bits v 1 1)
  if bit v 0 then
    (s1.modPwr (fun p => { p with xtal32 := true })).wr F.CLK_STAT_AON_ACT 0 (s1.rd F.CLK_STAT_XTAL32K_OK)
  else s1.wr F.CLK_STAT_AON_ACT 0 0

/-- Write of RST_SW (R607). -/
def writeRstSw (w : Word) (s : State) : State := if bits w.toNat 15 0 = 0x5A3C then s.warmReset 5 else s

/-- The watchdog counts again from 0 (R607). -/
def State.wdtRestart (s : State) : State := s.modPwr (fun p => { p with wdt := 0 })

/-- Write of RST_WDT_CFG (R607): the count starts when EN becomes 1. -/
def writeWdtCfg (w : Word) (s : State) : State :=
  let s1 := writePlain 0x4108 w s
  if s1.flag F.RST_WDT_CFG_EN && !s.flag F.RST_WDT_CFG_EN then s1.wdtRestart else s1

/-- Write of RST_WDT_KICK (R607). -/
def writeKick (w : Word) (s : State) : State := if bits w.toNat 15 0 = 0x4B1D then s.wdtRestart else s

/-- Write of ROD_TX[n] (R11, R116): a POWER above MAX_POWER leaves POWER and sets REG_LIM. -/
def writeRodTx (n : Nat) (w : Word) (s : State) : State :=
  let p := bits w.toNat 3 0
  let above := decide (s.otp.maxPower.getD 12 < p)
  let s1 := writePlain (0x6004 + 0x100 * n) w s
  if above then (s1.wr F.ROD_TX_POWER n (s.rd F.ROD_TX_POWER n)).setF F.ROD_ERR_REG_LIM n else s1

/-- Write of BRD_TILE_SEL: the descriptor of the tile is captured (R499). -/
def writeTileSel (w : Word) (s : State) : State :=
  let t : Fin 64 := ix 63 (bits w.toNat 5 0)
  let x := s.tile t
  let seqOf := fun (o : Option BoardRec) => (o.map (fun r => r.seq.toNat)).getD 0
  (((((((s.wr F.BRD_TILE_SEL_TILE 0 t.val).wr F.BRD_TILE_INFO_STATE 0 x.st.code).wr F.BRD_TILE_INFO_UNITS 0 x.units).wr
    F.BRD_TILE_INFO_RECORDS 0 x.recs.length).wr F.BRD_TILE_CRC_CRC 0 x.crc.toNat).wr F.BRD_TILE_FIRST_SEQ 0
    (seqOf x.recs.head?)).wr F.BRD_TILE_LAST_SEQ 0 (seqOf x.recs.getLast?))

/-- Write of BRD_TILE_CTL (R490): what the read-back finds is open. -/
def writeTileCtlFree (w : Word) (s : State) : State :=
  match s.drawFree with
  | (s1, v) => writeTileCtl w (v % 2 == 1) s1

/-- Write of BEAM_ADDR (R541, R546): the address is valid. -/
def writeBeamAddr (w : Word) (s : State) : State :=
  (s.wr F.BEAM_ADDR_ADDR 0 (bits w.toNat 5 0)).setF F.BEAM_ADDR_VALID

/-- Write of BEAM_TILE_REL (R543): a satellite without a ring frees a SEALED tile. -/
def writeTileRel (w : Word) (s : State) : State :=
  let t : Fin 64 := ix 63 (bits w.toNat 5 0)
  if bit w.toNat 8 && s.sys.role == .satellite && !s.flag F.RING_CFG_EN && (s.tile t).st == .sealed && s.isOn .board then
    s.freeTile t
  else s

/-- Index of the instance of a block at `base` with instances `stride` apart. -/
def instOf (base stride addr : Nat) : Nat := (addr - base) / stride

/-- Effects of writes in SYS, DOORBELL and HOST (spec/01_architecture.md, spec/02_host_rings.md). -/
def hookHost (addr : Nat) : Option (Word → State → State) :=
  if addr = 0x48 then some writeTbLo
  else if addr = 0x4C then some writeTbHi
  else if addr = 0x64 then some writeSlotPeak
  else if addr = 0x70 then some writeHostDrop
  else if 0x1000 ≤ addr && addr < 0x1100 then some (writeSqDoorbell (ix 31 (instOf 0x1000 8 addr)))
  else if 0x1100 ≤ addr && addr < 0x11A8 then some (writeHeadDoorbell (devRingOf (instOf 0x1100 8 addr)))
  else if 0x2100 ≤ addr && addr < 0x2500 && addr % 0x20 < 0xC then some (writeRingCfg addr)
  else if 0x2500 ≤ addr && addr < 0x27A0 && addr % 0x20 < 0x10 then some (writeRingCfg addr)
  else if 0x2800 ≤ addr && addr < 0x2A00 && addr % 0x10 = 0xC then some (writeMsixCtrl addr)
  else none

/-- Effects of writes in PWR, CLK and RST (spec/14_power_clocks_reset.md). -/
def hookPwr (addr : Nat) : Option (Word → State → State) :=
  if addr = 0x3004 then some writePwrReq
  else if addr = 0x3010 then some writePadRelease
  else if addr = 0x4000 then some writeClkCfg
  else if addr = 0x4104 then some writeRstSw
  else if addr = 0x4108 then some writeWdtCfg
  else if addr = 0x410C then some writeKick
  else none

/-- Effects of writes in ROD, FLD and TLY (spec/03_rods.md to spec/06_tally_scan.md). -/
def hookRods (addr : Nat) : Option (Word → State → State) :=
  if addr = 0x5040 then some (fun w s => s.writeFiltCfg w)
  else if addr = 0x5044 then some (fun w s => s.writeDedupCfg w)
  else if addr = 0x5054 then some writeRoundCtl
  else if addr = 0x5108 then some (fun w s => s.writeSurveyMask w)
  else if addr = 0x5104 then some (fun w s => s.writeSurveyCtl w)
  else if 0x5120 ≤ addr && addr < 0x512C then some (fun w s => s.writeZoneMap (instOf 0x5120 4 addr) w)
  else if addr = 0x5180 then some (fun w s => s.writeBudget w)
  else if addr = 0x51A0 then some (fun w s => s.writeTherm w)
  else if (0x5200 ≤ addr && addr < 0x5260) || (0x5300 ≤ addr && addr < 0x5540) then some (fun w s => s.writeTap addr w)
  else if addr = 0x5F00 then some (fun w s => s.writeTallyCtl w)
  else if addr = 0x5F08 then some (fun w s => s.writeTallyEn w)
  else if 0x5F40 ≤ addr && addr < 0x5FA0 then some (fun w s => s.tallyLater (instOf 0x5F40 4 addr) (some w.toNat))
  else if 0x6000 ≤ addr && addr < 0x7800 && addr % 0x100 = 0 then some (fun w s => s.writeRodCtl (instOf 0x6000 0x100 addr) w)
  else if 0x6000 ≤ addr && addr < 0x7800 && addr % 0x100 = 4 then some (writeRodTx (instOf 0x6000 0x100 addr))
  else if 0x6000 ≤ addr && addr < 0x7800 && addr % 0x100 = 0xCC then
    some (fun w s => s.writeSpecCtl (instOf 0x6000 0x100 addr) w)
  else none

/-- Effects of writes in ACC, TOK, LF and UHF (spec/07_lorle_link.md to spec/09_uhf_radio.md). -/
def hookAccess (addr : Nat) : Option (Word → State → State) :=
  if addr = 0x8000 then some writeAccCfg
  else if addr = 0x8014 then some writeMirrorCfg
  else if addr = 0x8070 then some writeAccCmd
  else if 0x8100 ≤ addr && addr < 0x8200 && addr % 0x40 = 0x1C then
    some (fun w s => if bit w.toNat 0 then s.trigger 2 (instOf 0x8100 0x40 addr) else s)
  else if 0x8400 ≤ addr && addr ≤ 0x8418 then some (writeTok addr)
  else if 0x8840 ≤ addr && addr < 0x8940 && addr % 0x20 < 0x0C then some (writeLfCfg addr)
  else if 0x8840 ≤ addr && addr < 0x8940 && addr % 0x20 = 0x10 then some (writeLfErr (instOf 0x8840 0x20 addr))
  else if addr = 0x9000 then some writeUhfCtl
  else if addr = 0x9008 then some (fun w s => if syncOk w.toNat then s.wr F.UHF_SYNC_SYNC 0 w.toNat else s)
  else none

/-- Effects of writes in KEY, CPH, BRD and FIFO (spec/10_key_store_and_cipher.md, spec/11_record_memory.md). -/
def hookStore (addr : Nat) : Option (Word → State → State) :=
  if addr = 0xA000 then some writeKeyCfg
  else if addr = 0xA018 then some writeTokSel
  else if addr = 0xA0B0 then some writeKeyCmd
  else if addr = 0xA440 then some writeRngCtl
  else if addr = 0xB000 then some writeBrdCfg
  else if addr = 0xB004 then some writeBrdCtl
  else if addr = 0xB010 then some writeTileSel
  else if addr = 0xB024 then some writeTileCtlFree
  else if addr = 0xB040 then some writePlanCtl
  else if addr = 0xB048 then some writePlanData
  else if addr = 0xB054 then some writeUcode
  else if 0xB400 ≤ addr && addr < 0xB720 && addr % 0x20 = 0 then some (writeFifoCfg (ix 24 (instOf 0xB400 0x20 addr)))
  else none

/-- Effects of writes in RING, BEAM, TMR, CRC, GPIO, BIST and DBG (spec/12_chaining.md to spec/15_test_and_debug.md). -/
def hookRest (addr : Nat) : Option (Word → State → State) :=
  if addr = 0xC000 then some writeRingCfgReg
  else if addr = 0xC804 then some writeBeamAddr
  else if addr = 0xC814 then some writeTileRel
  else if 0xD000 ≤ addr && addr < 0xD400 && addr % 0x40 = 4 then some (writeTmrCmd (ix 15 (instOf 0xD000 0x40 addr)))
  else if 0xD000 ≤ addr && addr < 0xD400 && 0x10 ≤ addr % 0x40 && addr % 0x40 < 0x20 then some (writeTmrHalf addr)
  else if 0xD800 ≤ addr && addr < 0xD900 && addr % 0x40 = 0x0C then some (writeCrcCtl (ix 3 (instOf 0xD800 0x40 addr)))
  else if 0xD800 ≤ addr && addr < 0xD900 && addr % 0x40 < 0x0C then some (writeCrcCfg addr)
  else if addr = 0xE800 || addr = 0xE804 then some (writeGpioOut addr)
  else if addr = 0xF000 then some writeBistCtl
  else if addr = 0xF800 then some (writeDbgCtl 0)
  else none

/-- The effect of its own that a write of a register has, if it has one. -/
def hookOf (addr : Nat) : Option (Word → State → State) :=
  if addr < 0x3000 then hookHost addr
  else if addr < 0x5000 then hookPwr addr
  else if addr < 0x8000 then hookRods addr
  else if addr < 0xA000 then hookAccess addr
  else if addr < 0xC000 then hookStore addr
  else hookRest addr

/-- A write that reaches its register: an offset that holds no register drops it (R12). -/
def writeReg (addr : Nat) (w : Word) (s : State) : State :=
  match regMapRow? addr with
  | none => s
  | some r =>
    match hookOf addr with
    | some f => f w s
    | none => s.writeFields r addr w

/-- A 32-bit write from the host, the beam or the register list: dropped while the register's domain is not ON (R602). -/
def State.regWrite (s : State) (addr : Nat) (w : Word) (beam : Bool) : State :=
  if (regMapRow? addr).isNone then s
  else if s.isOn (domainOf addr) then writeReg addr w s
  else s.accessFault addr true beam

/-- A write of the host to BAR0 (R51): 32 bits, or 64 bits as two 32-bit accesses, lower address first. -/
def State.bar0Write (s : State) (addr : Nat) (w : Word) (hi : Option Word) : State :=
  onSome hi (fun (h : Word) (s : State) => s.regWrite (addr + 4) h false) (s.regWrite addr w false)

/-- REGISTER_WRITE (R9, R11, R12, R51, R602): `hi` is the upper half of a 64-bit access. -/
def execRegisterWrite (addr : Nat) (w : Word) (hi : Option Word) (s : State) : Out := .next (s.bar0Write addr w hi)

end Sys2Proof.Machine
end

