-- ==== Sys2Proof/Machine/RegRead.lean ====
section
/-! DEFINITION. Reads of registers: the fields whose value is a view of the state, and reads with effects of their own
(R9, R12, R53, R602 and each chapter's register tables). -/

namespace Sys2Proof.Machine
open Sys2Proof

/-! ### Views -/

/-- PHASE of the running transaction of the sequencer (ACC_STAT, R398). DESIGN CHOICE (log entry 53). -/
def State.accPhase (s : State) : Nat :=
  match s.acc.run with
  | none => if s.acc.vd.isSome then 10 else 0
  | some r =>
    if r.op = 2 then 9
    else
      match r.stage with
      | .interlock => 8
      | .draw _ true => 7
      | .judge .drawn => 7
      | .judge .ranged => 7
      | .air =>
        let isRange := fun (o : Option DownFrame) => match o with | some x => x.kind == .range | none => false
        if isRange s.link.frame || (s.link.frame.isNone && isRange s.link.last
            && (match s.link.listen with | .train _ _ => true | _ => false)) then 7 else r.phase
      | _ => r.phase

/-- ZROLE of a rod (ROD_STAT, R170). -/
def State.zoneRole (s : State) (n : Fin 24) : Nat :=
  let r := s.rod n
  if (List.finRange 8).any (fun z => s.speaker z == some n.val) || (match r.air with | some x => x.phase != .ready | none => false) then 1
  else if s.listening n.val then 2
  else if r.req.isSome || s.inQueue n.val then 3 else 0

/-- Device shown in RING_LIST: the DOWN side first, then the UP side, each in walk order (R546). -/
def State.listed (s : State) : Option RingDevice :=
  let l := s.ring.devices.filter (fun d => !d.upSide) ++ s.ring.devices.filter (fun d => d.upSide)
  l[s.rd F.RING_LIST_SEL_IDX]?

/-- INT_N is held low (R3, R96): by the vectors while INTN_EN = 1, or by the halt of start-up; not while the TAP has taken the balls (R629).
DESIGN CHOICE (log entry 28). -/
def State.intNLow (s : State) : Bool :=
  !s.test.takesBalls
    && ((s.isOn .host && s.flag F.HOST_CTL_INTN_EN && s.rd F.HOST_INT_STAT_VEC != 0) || s.pwr.haltInt)

/-- The device is a beam master (R543). -/
def State.beamMaster (s : State) : Bool := s.sys.role == .head || s.sys.role == .standalone

/-- Views in SYS and HOST. -/
def State.viewHost (s : State) (a lo : Nat) : Option Nat :=
  if a = 0x40 then some s.sys.seq.toNat
  else if a = 0x60 then some (if lo = 0 then s.slotsUsed else if lo = 16 then s.generalUsed else s.borrowed)
  else if a = 0x2004 then
    some (if lo = 0 then b2n (s.pwr.step == 0) else if lo = 1 then b2n s.host.bme else if lo = 2 then b2n s.host.d3
      else if lo = 3 then s.host.speed else s.host.width)
  else if 0x2100 ≤ a && a < 0x2500 && a % 0x20 = 0x0C && lo = 16 then some (b2n (s.sqIdle (instOf 0x2100 0x20 a)))
  else if 0x2500 ≤ a && a < 0x27A0 && a % 0x20 = 0x10 then
    let i : Fin 21 := ix 20 (instOf 0x2500 0x20 a)
    if lo = 16 then some (b2n (s.ringRoom i == 0))
    else if lo = 17 then some (b2n !(vget s.host.unsig i).isEmpty) else none
  else if a = 0x2A00 then some s.host.pba.toNat
  else none

/-- Views in PWR and CLK. -/
def State.viewPwr (s : State) (a lo : Nat) : Option Nat :=
  if a = 0x3000 then some ((Domain.all.map (fun d => (s.pst d).code * 4 ^ d.num.val)).sum)
  else if a = 0x3008 then
    if lo = 0 then some (b2n s.pwrBusy)
    else if lo = 1 then some ((s.pwr.run.map (·.phase)).getD 0) else none
  else if a = 0x3024 && lo = 8 then some (b2n s.pwr.replay)
  else if a = 0x4004 then
    if lo = 0 then some (b2n s.pwr.xtal27)
    else if lo = 1 then some (b2n (s.isOn .core))
    else if lo = 2 then some (b2n s.pwr.hfLock)
    else if lo = 3 then some (b2n s.hfReq)
    else if lo = 4 then some (b2n (s.isOn .host)) else none
  else none

/-- The plan of rod `n` waits for a free speculation entry (R241, R267). -/
def State.waitsEntry (s : State) (n : Fin 24) : Bool :=
  match s.plan? n with
  | some p =>
    p.stage == .inventory && decide (4 ≤ (s.rod n).held.length)
      && (match p.inv with | some i => !i.inCycle || i.slotWait | none => false)
  | none => false

/-- Views in ROD, FLD and TLY. -/
def State.viewRods (s : State) (a lo : Nat) : Option Nat :=
  if a = 0x5000 then some (b2n s.pwr.hfLock)
  else if a = 0x5004 then some (if lo = 0 then s.otp.maxPower.getD 12 else b2n s.otp.regLocked)
  else if a = 0x5008 then
    some ((allRods.map (fun n =>
      let c := (s.rod n).carrier
      if s.rodOn n && c != .off && c != .hold then 2 ^ n.val else 0)).sum)
  else if a = 0x5058 then
    if lo = 0 then some (b2n (s.round.step != 0)) else if lo = 1 then some s.round.step else none
  else if a = 0x510C && lo = 0 then some (b2n s.surveyBusy)
  else if 0x5140 ≤ a && a < 0x5160 then
    let z : Fin 8 := ix 7 (instOf 0x5140 4 a)
    some (if lo = 0 then (s.speaker z).getD 0x1F
      else if lo = 5 then b2n (s.zoneBusy z.val)
      else if lo = 8 then (s.zoneRods z.val).length
      else b2n ((s.zoneRods z.val).any (fun n => (s.rod n).zonePend.isSome)))
  else if a = 0x5184 then
    some (if lo = 0 then s.budgetUsed else if lo = 16 then allRods.countP (fun n => s.inQueue n.val)
      else if lo = 24 then b2n s.field.throttle else b2n s.field.shutdown)
  else if 0x6000 ≤ a && a < 0x7800 then
    let n : Fin 24 := ix 23 (instOf 0x6000 0x100 a)
    if a % 0x100 = 0x80 then
      if lo = 0 then
        some (match (s.rod n).carrier with | .off => 0 | .rampUp => 1 | .rampDown => 1 | .on => 2 | .hold => 3)
      else if lo = 2 then some (s.zoneRole n)
      else if lo = 4 then some (b2n (s.rod n).plan.isSome)
      else if lo = 8 then some (s.slotsOf n.val .rod + s.slotsOf n.val .borrowed)
      else none
    else if a % 0x100 = 0xC8 then
      some (if lo = 0 then (s.rod n).held.length else (s.rod n).held.countP (fun h => h.complete))
    else if a % 0x100 = 0xC0 && lo = 12 then some (b2n (s.waitsEntry n))
    else none
  else none

/-- Views in ACC, TOK, LF and UHF. W of a channel that drives is free until the end of its span
reports it. DESIGN CHOICE (log entries 22 and 74). -/
def State.viewAccess (s : State) (a lo : Nat) : Option Nat :=
  if a = 0x8004 then
    some (if lo = 0 then b2n (s.acc.run.isSome || s.acc.vd.isSome)
      else if lo = 1 then (s.acc.run.map (·.lock)).getD 0
      else if lo = 3 then s.accPhase
      else if lo = 7 then b2n s.acc.restoring
      else if lo = 8 then b2n s.acc.needRestore
      else ((List.range 4).map (fun l => if s.trigPending l then 2 ^ l else 0)).sum)
  else if a = 0x800C then some s.acc.epoch.toNat
  else if a = 0x8018 then some (if lo = 0 then b2n (s.acc.mirror.writing || s.acc.restoring) else s.acc.mirror.sector)
  else if a = 0x801C then some s.acc.mirror.gen
  else if a = 0x8024 then
    let i := s.rd F.ACC_TFAIL_SEL_TIDX
    some (if lo = 0 then s.tokFails i else s.waitLeft true i)
  else if a = 0x8074 && lo = 0 then some (b2n s.accCmdBusy)
  else if 0x8100 ≤ a && a < 0x8200 then
    let l := instOf 0x8100 0x40 a
    let fb := vget s.acc.fb (ix 3 l)
    if a % 0x40 = 0x20 then
      some (if lo = 0 then s.lockFails l
        else if lo = 8 then b2n (s.waiting false l)
        else if lo = 9 then b2n (vget s.acc.pulse (ix 3 l))
        else if lo = 10 then b2n fb
        else if lo = 11 then b2n (vget s.acc.fbKnown (ix 3 l) && fb == s.flag F.ACC_REL_CFG_FB_POL l)
        else b2n (s.trigPending l))
    else if a % 0x40 = 0x24 then some (s.waitLeft false l)
    else none
  else if a = 0x841C && lo = 0 then some (b2n (s.link.frame.isSome || s.link.listen != .none))
  else if a = 0x8800 then some (if lo = 0 then s.otp.maxIpk.getD 200 else b2n s.otp.regLocked)
  else if a = 0x8804 then
    some (((List.range 8).map (fun n =>
      if s.rd F.LF_STAT_STATE n = 1 || s.rd F.LF_STAT_STATE n = 2 then 2 ^ n else 0)).sum)
  else if 0x8840 ≤ a && a < 0x8940 && a % 0x20 = 0x0C && lo = 8 then
    let n := instOf 0x8840 0x20 a
    if s.rd F.LF_STAT_STATE n = 1 then
      some (4 + Config.lfWidth n s.sys.timebase.toNat % (105 - (vget s.link.drives (ix 7 n)).dead))
    else none
  else if a = 0x9010 then
    if lo = 6 then some (b2n s.uhf.calStep)
    else if lo = 3 then some (b2n (decide (2 ≤ s.radio) && !s.radioLocking))
    else if lo = 4 then some (if s.uhfBusy then 1 else if s.radioHeld then 2 else 0)
    else if lo = 7 then some (b2n !s.regionSet) else none
  else if a = 0x9040 then some (if lo = 0 then s.otp.region else b2n s.otp.regLocked)
  else if a = 0x9044 then some s.otp.f0
  else if a = 0x9048 then some (if lo = 0 then s.otp.spacing else s.otp.nChan)
  else if 0x9050 ≤ a && a < 0x9070 then
    let b := s.otp.subBands.getD (instOf 0x9050 4 a) (0, 0)
    some (if lo = 0 then b.1 else b.2)
  else if 0x9070 ≤ a && a < 0x9090 then some ((s.sbUsed (instOf 0x9070 4 a) + 999) / 1000)
  else if 0x9100 ≤ a && a < 0x9180 then
    some (((List.range 8).map (fun j => s.otp.chmap.getD (8 * instOf 0x9100 4 a + j) 0 * 16 ^ j)).sum)
  else none

/-- Views in KEY, CPH, BRD and FIFO. DESIGN CHOICE (log entry 22). -/
def State.viewStore (s : State) (a lo : Nat) : Option Nat :=
  if a = 0xA004 then
    some (if lo = 0 then s.slotsLoaded else if lo = 16 then b2n s.otp.rootOk else b2n s.keys.importing)
  else if a = 0xA014 then
    let k := s.keySlot (s.rd F.KEY_SLOT_SEL_SLOT)
    some (if lo = 0 then b2n k.loaded else if lo = 1 then b2n k.aes256 else if lo = 2 then k.usage else k.gen)
  else if a = 0xA0B4 && lo = 0 then some (b2n s.keyCmdBusy)
  else if a = 0xA400 then
    some (if lo = 0 then s.cph.queue.length
      else if lo = 8 then (allCores.map (fun c => if (s.core c).run.isSome then 2 ^ c.val else 0)).sum
      else b2n (s.cph.cores.toList.any (·.preload)))
  else if a = 0xB008 then
    some (if lo = 0 then s.tilesIn .free
      else if lo = 8 then (s.openTile?.map (·.val)).getD 0
      else if lo = 14 then b2n s.openTile?.isSome
      else if lo = 16 then s.tilesIn .out
      else if lo = 23 then b2n s.board.full
      else b2n !s.askVerify.board.verify.isEmpty)
  else if a = 0xB048 then
    let t := s.rd F.BRD_PLAN_CTL_TILE
    some (if s.isDedupTile t then 0
      else leNat (Memory.readBytes s.planMem (tileBytes * t + 4 * s.rd F.BRD_PLAN_ADDR_WORD) 4))
  else if a = 0xB050 then
    some (((List.finRange 16).map (fun t => (if s.isDedupTile t.val then 0 else (s.planTile t).st.code) * 4 ^ t.val)).sum)
  else if a = 0xB700 then some 1
  else if 0xB400 ≤ a && a < 0xB720 && a % 0x20 = 4 then
    let f : Fin 25 := ix 24 (instOf 0xB400 0x20 a)
    let q := s.fifo f
    if f.val < 24 && !s.isOn (bankOf f.val) then some 0
    else if lo = 0 then
      some (q.fillWords + (match q.openGroup with
        | some g => if g.discarded then 0
          else Config.openWords f.val s.sys.timebase.toNat % (min g.need (bankWords f - q.fillWords) + 1)
        | none => 0))
    else if lo = 11 then some (b2n q.bank)
    else if lo = 12 then some (b2n q.isOpen)
    else if lo = 13 then some (if q.credit then q.credits (creditTotal f) else 0)
    else if lo = 19 then some (b2n (s.modePending f)) else none
  else none

/-- Views in RING, BEAM, TMR, SPI, BIST and DBG. -/
def State.viewRest (s : State) (a lo : Nat) : Option Nat :=
  if a = 0xC008 then
    if lo = 9 then some (b2n (s.ring.sentUp || s.ring.sentDn))
    else if lo = 10 then some (b2n (s.ring.heldUp || s.ring.heldDn)) else none
  else if a = 0xC024 then
    match s.listed with
    | some d => some (if lo = 0 then d.serial else if lo = 16 then d.beam else d.eflags)
    | none => none
  else if a = 0xC804 && lo = 6 then if s.beamMaster then some 1 else none
  else if a = 0xC808 then
    if lo = 4 then some (b2n s.beamMaster) else if lo = 5 then some (b2n s.beam.window.isSome) else none
  else if 0xD000 ≤ a && a < 0xD400 then
    let n : Fin 16 := ix 15 (instOf 0xD000 0x40 a)
    if a % 0x40 = 8 then
      if lo = 8 then some (b2n (s.signalLevel (s.rd F.TMR_CTL_GATE_SRC n.val)))
      else if lo = 9 then some (b2n (s.frozen n)) else none
    else if a % 0x40 = 0x18 then some (loHalf (s.timer n).period)
    else if a % 0x40 = 0x1C then some (hiHalf (s.timer n).period)
    else none
  else if a = 0xE000 then
    let owner := s.serialOwner
    some (if lo = 0 then b2n (owner.1 != 0) else if lo = 1 then owner.2 else owner.1)
  else if a = 0xF008 then
    if lo = 0 then some (b2n s.test.bist.isSome)
    else if lo = 1 then some (b2n ((s.test.bist.map (·.waiting)).getD false)) else none
  else if a = 0xF804 && lo = 4 then some (b2n s.otp.debugLocked)
  else none

/-- Value of a field that is a view of the state. -/
def State.view (s : State) (a lo : Nat) : Option Nat :=
  if a < 0x3000 then s.viewHost a lo
  else if a < 0x5000 then s.viewPwr a lo
  else if a < 0x8000 then s.viewRods a lo
  else if a < 0xA000 then s.viewAccess a lo
  else if a < 0xC000 then s.viewStore a lo
  else s.viewRest a lo

/-! ### Reads -/

/-- Value of a field as a read returns it: write-only fields read 0 (R9). DESIGN CHOICE (log entry 22). -/
def State.readField (s : State) (addr i : Nat) (f : FieldSpec) : Nat :=
  if f.acc = .wo then 0 else ((s.view addr f.lo).getD (s.getField addr i f)) % 2 ^ (f.hi - f.lo + 1)

/-- The word that a register holds. -/
def State.readFields (s : State) (r : RegSpec) (addr : Nat) : Nat :=
  (r.fields.map (fun f => s.readField addr (r.index addr) f * 2 ^ f.lo)).sum

/-- A read of SYS_TB_LO or SYS_TB_HI (R46). -/
def State.readTb (s : State) (hi : Bool) : State × Nat :=
  if hi then
    match s.sys.tbLatch with
    | some h => ({ s with sys := { s.sys with tbLatch := none } }, h.toNat)
    | none => (s.setF F.SYS_TB_STAT_UNLATCHED, s.sys.timebase.toNat / 2 ^ 32)
  else
    ({ s with sys := { s.sys with tbLatch := some (s.sys.timebase.extractLsb' 32 32) } }, s.sys.timebase.toNat % 2 ^ 32)

/-- A read that reaches its register, with its effect. -/
def State.readReg (s : State) (addr : Nat) : State × Nat :=
  match regMapRow? addr with
  | none => (s, 0)
  | some r =>
    let n : Fin 16 := ix 15 (instOf 0xD000 0x40 addr)
    if addr = 0x48 then s.readTb false
    else if addr = 0x4C then s.readTb true
    else if 0xD000 ≤ addr && addr < 0xD400 && addr % 0x40 = 0x10 then s.readCntLo n
    else if 0xD000 ≤ addr && addr < 0xD400 && addr % 0x40 = 0x14 then s.readCntHi n
    else if 0xD000 ≤ addr && addr < 0xD400 && addr % 0x40 = 0x20 then s.readCaptLo n
    else if 0xD000 ≤ addr && addr < 0xD400 && addr % 0x40 = 0x24 then s.readCaptHi n
    else (s, s.readFields r addr)

/-- A 32-bit read from the beam: 0 where no register lies, with an access fault while the register's domain is not ON (R54,
R602), and 0 in the host blocks, which answer PCI Express only (R53). -/
def State.beamRegRead (s : State) (addr : Nat) : State × Nat :=
  if (regMapRow? addr).isNone then (s, 0)
  else if !s.isOn (domainOf addr) then (s.accessFault addr false true, 0)
  else if 0x1000 ≤ addr && addr < 0x3000 then (s, 0)
  else s.readReg addr

/-- A 32-bit write from the beam (R12, R53, R54, R602). -/
def State.beamRegWrite (s : State) (addr : Nat) (w : Word) : State :=
  if 0x1000 ≤ addr && addr < 0x3000 && s.isOn .host then s else s.regWrite addr w true

/-- A 32-bit read from BAR0 (R12, R51, R602). -/
def State.hostRegRead (s : State) (addr : Nat) : State × Nat :=
  if (regMapRow? addr).isNone then (s, 0)
  else if s.isOn (domainOf addr) then s.readReg addr
  else (s.accessFault addr false false, 0)

/-- A read of the host from BAR0 (R51): 32 bits, or with `wide` 64 bits as two 32-bit accesses, lower address first. -/
def State.bar0Read (s : State) (addr : Nat) (wide : Bool) : State × Nat :=
  let r := s.hostRegRead addr
  if wide then
    let h := r.1.hostRegRead (addr + 4)
    (h.1, r.2 + 2 ^ 32 * h.2)
  else r

end Sys2Proof.Machine
end

