-- ==== Sys2Proof/Machine/PwrCmds.lean ====
section
/-! DEFINITION. Power requests, wakes, clocks and resets as commands (spec/14_power_clocks_reset.md, R525). -/

namespace Sys2Proof.Machine
open Sys2Proof

/-! ### Requests (R586 to R593) -/

/-- PWR_REQ_WRITE (R586). -/
def execPwrReqWrite (w : Word) (s : State) : Out := .next (s.hostWrite 0x3004 (writePwrReq w))

/-- An attempt of a SET_POWER: a request of its targets, or nothing to do when every target is "no change" (R593).
DESIGN CHOICE (log entry 24). -/
def State.attemptPower (s : State) (sp : SetPower) (t : Txn) : State :=
  let l := targetsOf (descField t.desc 16 3)
  let s1 := s.modPwr (fun p => { p with setPower := some { sp with tries := sp.tries + 1, active := true } })
  if l.all (· == 3) then s1.setPowerDone { sp with tries := sp.tries + 1 } true
  else s1.startRequest .descriptor (bit (descByte t.desc 19) 0) l

/-- SET_POWER (R593): it waits, holding its slot, while a request, a wake or a self-test run is in progress.
DESIGN CHOICE (log entry 24). -/
def execSetPower (s : State) : Out :=
  .next (
    if s.pwrBusy || s.pwr.setPower.isSome then s
    else onSome (s.takeHead? unitSys 0x20) (fun (t : Txn) (s : State) =>
      (s.run t.id).attemptPower ⟨t.id, 0, t.since + 1000 * descField t.desc 20 2, 0, 0, false⟩ t) s)

/-- SET_POWER_RETRY (R593): the next attempt after a refused one, unless it would start too late. -/
def execSetPowerRetry (s : State) : Out :=
  .next (
    match s.pwr.setPower with
    | some sp =>
      if sp.active || s.pwrBusy then s
      else if sp.deadline < s.pwr.aonMicros then s.setPowerDone sp false
      else onSome (s.txn? sp.txn) (fun (t : Txn) (s : State) => s.attemptPower sp t) s
    | none => s)

/-- Packets that a forced bank has published are committed before it enters (R592). DEDUCED (log entry 29). -/
def State.memberEmpty (s : State) (d : Domain) : Bool :=
  (bankRods d).all (fun n =>
    let q := s.fifo (ix 24 n.val)
    q.quiet && q.waiting.isEmpty)

/-- MEMBER_ENTRY_DONE (R588). -/
def execMemberEntryDone (s : State) : Out :=
  .next (
    match s.pwr.run with
    | some r =>
      match r.cur with
      | some (d, target) =>
        if (d == .hfa || d == .hfb) && !s.memberEmpty d then s else s.memberEntered r d target
      | none => s
    | none => s)

/-! ### Wakes (R594 to R598) -/

/-- PWR_WAKE_GPIO chooses an edge of GPIO[k] (R594): 1 rising, 2 falling, 3 both. DESIGN CHOICE (log entry 25). -/
def State.wakeEdge (s : State) (k : Fin 4) (rising : Bool) : Bool :=
  bit (s.rd F.PWR_WAKE_GPIO_EDGE) (2 * k.val + (if rising then 0 else 1))

/-- Does the condition of R594 hold for a source that a pin or a link reports? TALLY and TIMER come from TALLY_EVALUATE
and WAKE_TIMER_EXPIRY. DESIGN CHOICE (log entry 25). -/
def State.sourceDetected (s : State) (src : Nat) (k : Fin 4) (rising : Bool) : Bool :=
  if src = 3 then s.wakeEdge k rising
  else if src = 4 then !s.isOn .core
  else if src = 5 then !s.isOn .ring
  else src == 6 || src == 7

/-- WAKE_SOURCE (R594): `k` and `rising`, the pin and the edge for the source GPIO. DESIGN CHOICE (log entry 25). -/
def execWakeSource (src : Nat) (k : Fin 4) (rising : Bool) (s : State) : Out :=
  .next (if s.sourceDetected src k rising then s.fireWake src [] else s)

/-- The wake timer reaches 0 (R594). -/
def State.wakeTimerDone (s : State) : State := (s.wr F.PWR_WAKE_TIMER_COUNT 0 0).fireWake 2 []

/-- WAKE_TIMER_EXPIRY (R594): a stopped timer does not expire. DESIGN CHOICE (log entry 25). -/
def execWakeTimerExpiry (s : State) : Out := .next (if s.rd F.PWR_WAKE_TIMER_COUNT = 0 then s else s.wakeTimerDone)

/-- WAKE_START (R595): the latched wakes run as one. -/
def execWakeStart (s : State) : Out :=
  .next (
    if s.pwrBusy || s.pwr.step != 0 || s.latchedSources.isEmpty then s
    else
      let srcs := s.latchedSources
      let up := s.wakeDomains.filter (fun d => !s.isOn d)
      let named := srcs.flatMap (fun i => ((s.namedBy i).filter up.contains).map (fun d => (i, d)))
      (s.modPwr (fun p => { p with replay := false })).nextPos
        ⟨.wake, 3, false, [], none, [], up, [], [], s.pwr.replay, false, named⟩)

/-- XTAL_START_DONE (R597): the crystal is stable; a wake that waited for it starts its first position.
DESIGN CHOICE (log entry 28). -/
def execXtalStartDone (s : State) : Out :=
  .next (
    if s.pwr.xtal27 then s
    else
      let s1 := s.modPwr (fun p => { p with xtal27 := true })
      match s.pwr.run with
      | some r => if r.xtalWait then s1.nextPos r else s
      | none => if s.pwr.step = 1 && !s.pwr.halted then s1 else s)

/-- WAKE_POSITION_DONE (R596): the domains of the position reach ON, and the next position starts.
DESIGN CHOICE (log entry 8). -/
def execWakePositionDone (s : State) : Out :=
  .next (
    match s.pwr.run with
    | some r => if r.pos.isEmpty then s else s.posDone r
    | none => s)

/-! ### Pads and clocks (R600, R603, R609) -/

/-- PAD_RELEASE (R600). -/
def execPadRelease (w : Word) (s : State) : Out := .next (s.hostWrite 0x3010 (writePadRelease w))

/-- AON_SRC_WRITE (R603). -/
def execAonSrcWrite (w : Word) (s : State) : Out := .next (s.hostWrite 0x4000 (writeClkCfg w))

/-- XTAL32K_STABLE (R603): AON switches to the crystal when AON_SRC selects it. -/
def execXtal32kStable (s : State) : Out :=
  .next (
    if s.pwr.xtal32 then (s.setF F.CLK_STAT_XTAL32K_OK).wr F.CLK_STAT_AON_ACT 0 (s.rd F.CLK_CFG_AON_SRC) else s)

/-- PCIE_LINK_CHANGE (R609): the link has trained with a speed and width, or is down (either is 0). While HOST is not ON
or its pads are held, and in SATELLITE role, the link does not train (R4, R581, R601). -/
def execPcieLinkChange (speed width : Nat) (s : State) : Out :=
  .next (
    if 3 < speed || 2 < width then s
    else
      let up := speed != 0 && width != 0 && s.isOn .host && !s.padsHeld .host && s.sys.role != .satellite
      { s with host := { s.host with speed := if up then speed else 0, width := if up then width else 0 } })

/-! ### Resets (R525, R605, R607, R635) -/

/-- POWER_ON_RESET (R605, R635): `pins` is ROLE[1:0]. -/
def execPowerOnReset (pins : Nat) (s : State) : Out := .next (s.fullReset 0 pins)

/-- RESET_N (R605). -/
def execResetN (pins : Nat) (s : State) : Out := .next (s.fullReset 1 pins)

/-- The watchdog counts: it is enabled, CORE is ON, and no debug halt pauses it (R607). -/
def State.wdtRuns (s : State) : Bool :=
  s.flag F.RST_WDT_CFG_EN && s.isOn .core && !(s.flag F.RST_WDT_CFG_DBG_PAUSE && s.flag F.DBG_STAT_HALTED)

/-- WATCHDOG_EXPIRY (R607): the rest of TIMEOUT passes without a kick. -/
def execWatchdogExpiry (s : State) : Out := .next (if s.wdtRuns then s.warmReset 3 else s)

/-- SOFTWARE_RESET (R607). -/
def execSoftwareReset (w : Word) (s : State) : Out := .next (s.hostWrite 0x4104 (writeRstSw w))

/-- WATCHDOG_KICK (R607). -/
def execWatchdogKick (w : Word) (s : State) : Out := .next (s.hostWrite 0x410C (writeKick w))

/-- RESET_TOKEN (R525): the token is forwarded whole; a satellite with RST_EN = 1 at which it is aimed then resets. -/
def execResetToken (t : TokenRx) (s : State) : Out :=
  .next (s.onToken t 6 (fun s =>
    if s.aimed t.payload && s.flag F.RING_CFG_RST_EN then s.countToken.warmReset 4 else s))

end Sys2Proof.Machine
end

