-- ==== Sys2Proof/Machine/Startup.lean ====
section
/-! DEFINITION. Start-up, step by step (R608 to R612, R624, R625, R669, R673). -/

namespace Sys2Proof.Machine
open Sys2Proof

/-- Set the step of start-up in progress. -/
def State.goStep (s : State) (k : Nat) : State := s.modPwr (fun p => { p with step := k })

/-- Domains that wake at a step begin to come ON. -/
def State.beginWake (s : State) (ds : List Domain) : State := forAll ds (fun (d : Domain) (s : State) => s.setPst d .transit) s

/-- Domains that were coming ON from OFF are ON. -/
def State.wakeOver (s : State) (ds : List Domain) : State :=
  forAll ds (fun (d : Domain) (s : State) => if s.pst d = .transit then s.comeOn d .off else s) s

/-- HOST comes ON in HEAD and STANDALONE roles (R608 step 7). -/
def State.wakesHost (s : State) : List Domain := if s.beamMaster then [.host] else []

/-- RING comes ON in HEAD and SATELLITE roles (R608 step 8). -/
def State.wakesRing (s : State) : List Domain := if s.ringRole then [.ring] else []

/-- Start-up halts as in the reserved role (R3, R625): CORE is OFF again and INT_N is held low.
DESIGN CHOICE (log entry 28). -/
def State.haltStartup (s : State) : State :=
  ((s.domainLost .core).setPst .core .off).modPwr (fun p =>
    { p with halted := true, haltInt := true, xtal27 := s.flag F.CLK_CFG_XTAL_KEEP })

/-! ### The OTP load and the start-up self-test (R612, R624, R625) -/

/-- Partitions and memories of the start-up run that the role allows (R624). -/
def bootMasks (r : Role) : Nat × Nat :=
  match r with
  | .satellite => (0x3FA, 0x7F)
  | .standalone => (0x3F6, 0xBF)
  | _ => (0x3FE, 0xFF)

/-- The start-up run with the results of its items; none while some item has no result yet. -/
def State.bootRunOf (s : State) (results : List (Nat × Nat × Bool)) : Option BistRun :=
  let m := bootMasks s.sys.role
  let items := bistItems m.1 m.2
  if items.all (fun k => results.any (fun r => r.1 == k)) then
    some (items.foldl (fun b k =>
      match results.find? (fun r => r.1 == k) with
      | some r => s.judgeItem b k r.2.1 r.2.2
      | none => b) ⟨none, m.1, m.2, false, items, [], [], []⟩)
  else none

/-- Elementwise OR of two lists of numbers, the shorter one filled up with zeros. -/
def orList : List Nat → List Nat → List Nat
  | [], l => l
  | l, [] => l
  | a :: s, b :: t => (a ||| b) :: orList s t

/-- OR of two values of which one not programmed is none. -/
def orOpt : Option Nat → Option Nat → Option Nat
  | none, b => b
  | a, none => a
  | some a, some b => some (a ||| b)

/-- Elementwise OR of two lists of such values. -/
def orOpts : List (Option Nat) → List (Option Nat) → List (Option Nat)
  | [], l => l
  | l, [] => l
  | a :: s, b :: t => orOpt a b :: orOpts s t

/-- Two lists of pairs, OR-ed elementwise. -/
def orPairs : List (Nat × Nat) → List (Nat × Nat) → List (Nat × Nat)
  | [], l => l
  | l, [] => l
  | a :: s, b :: t => (a.1 ||| b.1, a.2 ||| b.2) :: orPairs s t

/-- The records of the OTP array `k` once bits of `o` have been programmed into it (R612): a bit changes from 0 to 1 only, and
none of the regulatory record once its lock bit is set (R407). DESIGN CHOICE (log entry 81). -/
def Otp.burnt (k o : Otp) : Otp where
  serial := k.serial ||| o.serial
  idVersion := k.idVersion ||| o.idVersion
  idMaker := k.idMaker ||| o.idMaker
  aonSrc := k.aonSrc || o.aonSrc
  debugLocked := k.debugLocked || o.debugLocked
  region := if k.regLocked then k.region else k.region ||| o.region
  f0 := if k.regLocked then k.f0 else k.f0 ||| o.f0
  spacing := if k.regLocked then k.spacing else k.spacing ||| o.spacing
  nChan := if k.regLocked then k.nChan else k.nChan ||| o.nChan
  chmap := if k.regLocked then k.chmap else orList k.chmap o.chmap
  subBands := if k.regLocked then k.subBands else orPairs k.subBands o.subBands
  maxPower := if k.regLocked then k.maxPower else orOpt k.maxPower o.maxPower
  maxIpk := if k.regLocked then k.maxIpk else orOpt k.maxIpk o.maxIpk
  regLocked := k.regLocked || o.regLocked
  vendor := k.vendor ||| o.vendor
  revision := k.revision ||| o.revision
  subVendor := k.subVendor ||| o.subVendor
  subSystem := k.subSystem ||| o.subSystem
  rootKey := (orList (k.rootKey.map (·.toNat)) (o.rootKey.map (·.toNat))).map (BitVec.ofNat 8)
  rootOk := k.rootOk || o.rootOk
  bootCs := k.bootCs ||| o.bootCs
  bootAddr := k.bootAddr ||| o.bootAddr
  bootDiv := k.bootDiv ||| o.bootDiv
  bistStartup := k.bistStartup || o.bistStartup
  bistHalt := k.bistHalt || o.bistHalt
  misr := orOpts k.misr o.misr
  msig := orOpts k.msig o.msig

/-- OTP is read (R608 steps 3 and 4, R612): the array with what has been programmed into it since it was read last, from outside,
with VPP_OTP at its programming level. The values stay in AON; AON_SRC is set from them (R603).
DESIGN CHOICE (log entry 81). -/
def State.otpLoaded (s : State) (o : Otp) : State :=
  let k := s.otpMem.burnt o
  writeClkCfg (BitVec.ofNat 32 (b2n k.aonSrc + 2 * s.rd F.CLK_CFG_XTAL_KEEP)) { s with otp := k, otpMem := k }

/-- Step 3 ends without a start-up run: KEYS wakes, or in the reserved role start-up halts (R3, R608). -/
def State.afterOtp (s : State) : State :=
  if s.sys.role = .reserved && !s.pwr.warm then s.haltStartup else (s.beginWake [.keys]).goStep 4

/-- Domains of the start-up run other than CORE, by position of the wake order (R596, R624). -/
def bootPositions (r : Role) : List (List Domain) :=
  let m := bootMasks r
  ((wakeOrder.map (fun p => p.filter (fun d => d != .core && (bistTargets m.1 m.2).contains d)))).filter (fun p => !p.isEmpty)

/-- Every domain except AON goes OFF after the start-up run, and start-up goes on with CORE's wake and from step 3 (R624). -/
def State.bootOff (s : State) : State :=
  let s1 := forAll (Domain.all.filter (· != .aon)) (fun (d : Domain) (s : State) => (s.domainLost d).setPst d .off) s
  ((s1.modPwr (fun p => { p with xtal27 := s.flag F.CLK_CFG_XTAL_KEEP })).beginWake [.core]).goStep 2

/-- The start-up run goes on (R624, R625): its domains come ON from OFF position by position; with all ON its items are tested,
and then its results are kept and the domains are OFF again. DESIGN CHOICE (log entry 27). -/
def State.bootTest (s : State) (inp : StartInput) : State :=
  match s.test.bootWake with
  | p :: rest =>
    ((forAll p (fun (d : Domain) (s : State) => s.setPst d .on) s).beginWake (rest.headD [])).modTest (fun t =>
      { t with bootWake := rest })
  | [] =>
    match s.bootRunOf inp.results with
    | none => s
    | some b =>
      let s1 := s.bootOff.modTest (fun t => { t with bootRun := some b, bootDone := true, bootOn := false })
      if b.anyFail && s1.otp.bistHalt then s1.haltStartup else s1

/-- Step 3 (R608, R612, R624, R673). DESIGN CHOICE (log entry 27). -/
def State.otpStep (s : State) (inp : StartInput) : State :=
  if s.test.bootOn then s.bootTest inp
  else if s.pwr.warm || s.test.bootDone then s.afterOtp
  else
    let s1 := s.otpLoaded inp.otp
    if s1.otp.bistStartup && s1.sys.role != .reserved then
      let l := bootPositions s1.sys.role
      (s1.beginWake (l.headD [])).modTest (fun t => { t with bootOn := true, bootWake := l })
    else s1.afterOtp

/-! ### The image (R610, R611, R669) -/

/-- Entry `i` of the tile table: tile, image offset and expected CRC (R610). -/
def imageTile (b : List Byte) (i : Nat) : Nat × Nat × Word :=
  (byteAt b (16 + 12 * i), leNat ((b.drop (16 + 12 * i + 4)).take 4),
    BitVec.ofNat 32 (leNat ((b.drop (16 + 12 * i + 8)).take 4)))

/-- Entry `i` of the register list that starts at `off`. -/
def imageReg (b : List Byte) (off i : Nat) : Nat × Nat :=
  (leNat ((b.drop (off + 8 * i)).take 4), leNat ((b.drop (off + 8 * i + 4)).take 4))

/-- HCRC of an image holds. DESIGN CHOICE (log entry 27). -/
def imageGood (b : List Byte) : Bool :=
  let n := byteAt b 4
  let k := leNat ((b.drop 6).take 2)
  let off := leNat ((b.drop 8).take 4)
  crc32c (padTo 12 (b.take 12) ++ padTo (12 * n) ((b.drop 16).take (12 * n)) ++ padTo (8 * k) ((b.drop off).take (8 * k)))
    == BitVec.ofNat 32 (leNat ((b.drop 12).take 4))

/-- The image header has been read. -/
def State.headerRead (s : State) (b : List Byte) : State :=
  if leNat (b.take 4) != 0x4B544C32 then (s.setF F.SYS_BOOT_STAT_NO_IMAGE).goStep 12
  else if !imageGood b then (s.setF F.SYS_BOOT_STAT_BAD_IMAGE).goStep 12
  else
    let tiles := (List.range (byteAt b 4)).map (imageTile b)
    let regs := (List.range (leNat ((b.drop 6).take 2))).map (imageReg b (leNat ((b.drop 8).take 4)))
    (s.modPwr (fun p => { p with imageTiles := tiles, imageRegs := regs })).goStep (if tiles.isEmpty then 12 else 11)

/-- A tile of the image has been read: it is loaded and checked, unless it is referenced (R493, R494).
DESIGN CHOICE (log entry 27). -/
def State.imageTileRead (s : State) (e : Nat × Nat × Word) (bytes : List Byte) : State :=
  let t : Fin 16 := ix 15 e.1
  if s.referenced t then s
  else
    match (s.fillPlanTile t (padTo tileBytes bytes)).endLoad t e.2.2 with
    | (s1, true) => s1.wr F.SYS_BOOT_STAT_LOADED 0 (s1.rd F.SYS_BOOT_STAT_LOADED ||| 2 ^ t.val)
    | (s1, false) => s1.settleDoom

/-- The BIST record of the start-up run is still on its way to the counting board (R625). -/
def State.bistOnWay (s : State) : Bool :=
  let q := s.fifo 24
  (q.fill ++ q.drain).any (fun p => p.type == RecType.bist.code)
    || q.waiting.any (fun g => g.1.any (fun r => r.type == .bist))

/-- Start-up ends (R606, R608 step 12, R625): the results of a start-up run are copied and its record is written; once that
has been committed, RESET_CAUSE is, and start-up is complete. -/
def State.startupDone (s : State) : State :=
  match s.test.bootRun with
  | some b => (s.bistReport b 1).modTest (fun t => { t with bootRun := none })
  | none =>
    if s.bistOnWay then s
    else ((s.reportReset.setF F.SYS_BOOT_STAT_DONE)).modPwr (fun p => { p with step := 0, warm := false })

/-- The register list is applied entry by entry; a PWR_REQ entry is applied whole before the next (R611). At its end
start-up is complete. DESIGN CHOICE (log entry 27). -/
def State.applyRegs : Nat → State → State
  | 0, s => s
  | fuel + 1, s =>
    if s.pwr.run.isSome || s.pwr.step != 12 then s
    else
      match s.pwr.imageRegs with
      | [] => s.startupDone
      | (a, v) :: rest =>
        let s1 := s.modPwr (fun p => { p with imageRegs := rest })
        State.applyRegs fuel
          (if 0x1000 ≤ a && a < 0x3000 then s1 else s1.regWrite a (BitVec.ofNat 32 v) false)

/-! ### SFDP discovery (R611) -/

/-- DWORD `k` (from 1) of the Basic Flash Parameter Table at byte `p`. -/
def sfdpWord (b : List Byte) (p k : Nat) : Nat := leNat ((b.drop (p + 4 * (k - 1))).take 4)

/-- The flash that the bytes read from SFDP address 0 describe; none without valid SFDP (R611). The places of the fields are
those of JESD216. PRESUMED (log entry 77). -/
def Flash.ofSfdp (b : List Byte) : Option Flash :=
  let p := leNat ((b.drop 12).take 3)
  let n := byteAt b 11
  if leNat (b.take 4) != 0x50444653 || byteAt b 8 != 0 || decide (n < 9) || decide (b.length < p + 4 * n) then none
  else
    let w := sfdpWord b p
    some ⟨bits (w 1) 18 17 == 2,
      if bit (w 1) 22 then some (bits (w 3) 31 24, bits (w 3) 20 16 + bits (w 3) 23 21) else none,
      if bits (w 1) 1 0 = 1 then bits (w 1) 15 8 else Flash.plain.erase,
      if 11 ≤ n then 2 ^ bits (w 11) 7 4 else 256⟩

/-- Discovery ends (R611, R669): the commands found, or SFDP_FAIL and command 0x03. -/
def State.sfdpRead (s : State) (b : List Byte) : State :=
  let s1 := s.loadOver b
  match Flash.ofSfdp b with
  | some f => s1.modPwr (fun p => { p with flash := f })
  | none => (s1.modPwr (fun p => { p with flash := Flash.plain })).setF F.SYS_BOOT_STAT_SFDP_FAIL

/-- The next step of start-up; a load ends only when its frame is on the wire (R571). DESIGN CHOICE (log entry 27). -/
def State.advanceStep (s : State) (inp : StartInput) : State :=
  match s.pwr.step with
  | 1 => ((s.modPwr (fun p => { p with xtal27 := true })).beginWake [.core]).goStep 2
  | 2 => (s.wakeOver [.core]).goStep 3
  | 3 => s.otpStep inp
  | 4 => ((s.wakeOver [.keys]).beginWake [.plan, .board]).goStep 5
  | 5 => ((s.wakeOver [.plan, .board]).beginWake [.crypto]).goStep 6
  | 6 => ((s.wakeOver [.crypto]).beginWake s.wakesHost).goStep 7
  | 7 => ((s.wakeOver [.host]).beginWake s.wakesRing).goStep 8
  | 8 => ((s.wakeOver [.ring]).goStep 9).serialNext
  | 9 => if s.serial.load then ((s.sfdpRead inp.sfdp).goStep 10).serialNext else s
  | 10 => if s.serial.load then ((s.loadOver inp.image).headerRead inp.image).serialNext else s
  | 11 =>
    match s.pwr.imageTiles with
    | [] => s.goStep 12
    | e :: rest =>
      if s.serial.load then
        ((((s.loadOver inp.tile).imageTileRead e inp.tile).modPwr (fun p => { p with imageTiles := rest })).goStep
          (if rest.isEmpty then 12 else 11)).serialNext
      else s
  | 12 => State.applyRegs (s.pwr.imageRegs.length + 1) s
  | _ => s

/-- STARTUP_ADVANCE (R608): a halted start-up goes no further. -/
def execStartupAdvance (inp : StartInput) (s : State) : Out := .next (if s.pwr.halted then s else s.advanceStep inp)

end Sys2Proof.Machine
end

