-- ==== Sys2Proof/Machine/DescChecks.lean ====
section
/-! DEFINITION. The checks of a descriptor at its dispatch or at its fetch: BAD_DESCRIPTOR (R66 and the PARAMS tables of the
unit chapters), DOMAIN_OFF (R584), and the order of outcomes (R668). -/

namespace Sys2Proof.Machine
open Sys2Proof

/-- Some byte of the descriptor from `k` on is not 0. -/
def tailSet (d : Desc) (k : Nat) : Bool := descField d k (64 - k) != 0

/-- Some of `n` bytes from `k` on is not 0. -/
def partSet (d : Desc) (k n : Nat) : Bool := descField d k n != 0

/-- Reserved FLAGS bits or reserved bytes 4 to 7 are not 0 (R65, R66). -/
def commonBad (d : Desc) : Bool := decide (8 ≤ descByte d 1) || partSet d 4 4

/-! ### Rods (R126, R140, R148 to R167) -/

/-- The FDT_MIN in force exceeds the RESP_WAIT in force (R140). -/
def windowBad (p : Profile) (d : Desc) : Bool :=
  let rw := descField d 24 4
  decide ((if rw = 0 then p.respWait else rw) < p.fdtMin)

/-- Layout of a TRANSCEIVE (R150). -/
def transceiveForm (d : Desc) : Bool :=
  let len := descField d 20 2
  decide (4 ≤ descByte d 16) || decide (32 ≤ descByte d 17) || decide (8 ≤ descByte d 18) || decide (8 ≤ descByte d 19)
    || decide (2 ^ 28 ≤ descField d 24 4) || partSet d 28 4 || decide (256 < len)
    || (if bit (descByte d 17) 2 then decide (32 < len) || tailSet d (32 + min 32 len) else tailSet d 40)

/-- The further rules of R151 and R140 for a profile. -/
def transceiveRules (p : Profile) (d : Desc) : Bool :=
  let opt := descByte d 17
  let len := descField d 20 2
  let rxMax := descField d 22 2
  let last := descByte d 18 != 0
  let align := descByte d 19 != 0
  (if bit opt 3 then p.proto != 0 || len != 0 else len == 0)
    || ((last || align) && p.proto != 1) || (bit opt 0 && last)
    || (if bit opt 4 then rxMax != 0 || bit opt 1 || align
        else rxMax == 0 || decide ((if p.proto = 0 then 1024 else 256) < rxMax))
    || windowBad p d

/-- The profile that a rod descriptor names, if it names one. -/
def State.namedProfile (s : State) (n : Nat) (d : Desc) : Option Profile :=
  if descByte d 0 = 3 then some (s.profile n (descByte d 16 % 4))
  else if descByte d 0 = 5 then some (s.profile n (descByte d 19 % 4)) else none

/-- A named profile holds a combination that R126 does not allow. DEDUCED (log entry 14). -/
def State.profileBad (s : State) (n : Nat) (d : Desc) : Bool :=
  match s.namedProfile n d with
  | some p => !p.legal
  | none => false

/-- Layout of the rod descriptors other than TRANSCEIVE (R148, R149, R157, R160, R163, R166, R167); an undefined opcode is
bad. -/
def rodForm (d : Desc) : Bool :=
  let op := descByte d 0
  let b := descByte d
  if op = 1 || op = 2 || op = 0x0F then tailSet d 16
  else if op = 3 then transceiveForm d
  else if op = 4 then decide (10 < b 16) || decide (1 < b 17) || tailSet d 18
  else if op = 5 then decide (16 ≤ b 18) || decide (4 ≤ b 19) || decide (1024 ≤ descField d 20 2) || tailSet d 24
  else if op = 6 || op = 0x0E then decide (2 ≤ b 16) || tailSet d 17
  else true

/-- A rod descriptor completes BAD_DESCRIPTOR (R66, R126, R140, R151, R160, R247). The times of a profile are tested for a
TRANSCEIVE only, not for the default profile of a RUN_PLAN (R140). DESIGN CHOICE (log entry 83). -/
def State.rodBad (s : State) (n : Nat) (d : Desc) : Bool :=
  rodForm d || s.profileBad n d
    || (descByte d 0 == 3 && (match s.namedProfile n d with | some p => transceiveRules p d | none => false))
    || (descByte d 0 == 5 && s.isDedupTile (descByte d 18))

/-! ### The other units -/

/-- SQ25 (R410, R426, R430). While no region is programmed there is no plan that a channel could lie outside of (R406).
DEDUCED (log entry 17). DESIGN CHOICE (log entry 18). -/
def State.uhfBad (s : State) (d : Desc) : Bool :=
  let op := descByte d 0
  let b := descByte d
  let chBad := s.regionSet && decide (s.otp.nChan ≤ b 16)
  let lenBad := descField d 20 2 == 0 || decide (216 < descField d 20 2)
  if op = 1 then decide (2 < b 16) || (s.regionSet && decide (s.otp.nChan ≤ b 17)) || tailSet d 18
  else if op = 2 then
    chBad || decide (31 ≤ b 17) || decide (8 ≤ b 18) || partSet d 19 1 || lenBad || partSet d 22 2
      || (if bit (b 18) 1 then decide (32 < descField d 20 2) || partSet d 24 8 || tailSet d (32 + min 32 (descField d 20 2))
          else tailSet d 32)
  else if op = 3 then
    chBad || decide (8 ≤ b 17) || decide (3 < b 18) || partSet d 19 1 || lenBad || partSet d 22 2
      || descField d 24 4 == 0 || decide (1000000 < descField d 24 4) || tailSet d 28
  else if op = 4 || op = 0x0F then tailSet d 16
  else if op = 5 then
    chBad || decide (31 ≤ b 17) || decide (1 < b 18) || partSet d 19 1 || descField d 20 4 == 0
      || decide (10000000 < descField d 20 4) || tailSet d 24
  else true

/-- SQ26 and SQ27 (R443, R446, R451, R452, R455, R461). -/
def cphBad (d : Desc) : Bool :=
  let op := descByte d 0
  let len := descField d 20 2
  if op = 1 then
    decide (512 ≤ descField d 16 2) || decide (4 ≤ descByte d 18) || partSet d 19 1 || partSet d 22 2
      || (if bit (descByte d 18) 1 then !(len == 16 || len == 32) || tailSet d (32 + min 32 len) else tailSet d 40)
  else if op = 2 then partSet d 18 6 || tailSet d 32
  else if op = 3 || op = 0x0F then tailSet d 16
  else if op = 0x10 then tailSet d 48
  else if op = 0x11 then false
  else if op = 0x12 then decide (512 ≤ descField d 16 2) || tailSet d 18
  else true

/-- SQ28 (R262, R494, R495, R593, R618). -/
def State.sysBad (s : State) (d : Desc) : Bool :=
  let op := descByte d 0
  let b := descByte d
  if op = 0x20 then bits (b 16) 5 0 != 63 || decide (1 < b 19) || tailSet d 22
  else if op = 0x30 then tailSet d 16
  else if op = 0x31 then decide (16 ≤ b 16) || partSet d 17 3 || tailSet d 32 || s.referenced (ix 15 (b 16))
  else if op = 0x40 then
    (List.range 16).any (fun i => bit (descField d 16 2) i && (decide (i < 3) || decide (9 < i)))
      || (b 18 &&& 0xA1) != 0 || tailSet d 19
  else true

/-- Extent of a beam SPACE (R536); 0 for the reserved one. -/
def spaceSize (sp : Nat) : Nat := [0x10000, 0x40000, 0x100000, 0].getD sp 0

/-- Bytes 24 to 63 of a beam descriptor (R65, R544): the words of a WRITE, START, STOP or CLAIM_CALL inline, or their host
address; every byte that is not used is 0. -/
def beamDataBad (d : Desc) : Bool :=
  let words := descByte d 21 + 1
  if descByte d 0 = 1 then tailSet d 24
  else if bit (descByte d 22) 0 then partSet d 24 8 || decide (8 < words) || tailSet d (32 + 4 * min 8 words)
  else tailSet d 32

/-- SQ29 (R535, R536, R544, R545). OP is the opcode less one. DESIGN CHOICE (log entry 18). -/
def beamBad (d : Desc) : Bool :=
  let op := descByte d 0
  let a := descField d 18 3
  let cnt := descByte d 21
  let opt := descByte d 22
  if op = 0 || 5 < op then true
  else
    decide (64 ≤ descByte d 16) || decide (3 ≤ descByte d 17) || decide (64 ≤ cnt) || decide (4 ≤ opt) || partSet d 23 1
      || (bit opt 1 && (op != 2 || partSet d 16 1)) || (op == 5 && partSet d 16 5) || beamDataBad d
      || (if op ≤ 2 then a % 4 != 0 || decide (spaceSize (descByte d 17) ≤ a)
          else if op = 3 then decide (24 ≤ a) || cnt != 1
          else if op = 4 then decide (24 ≤ a) || cnt != 0
          else cnt != 0)

/-- SQ31 (R532): SCOPE is used by HALT and RESUME only. DESIGN CHOICE (log entry 18). -/
def ringBad (d : Desc) : Bool :=
  let op := descByte d 0
  if op = 0 || 4 < op then true
  else (if op = 4 then partSet d 16 3 else decide (1 < descByte d 18)) || decide ((if op ≤ 2 then 3 else 0) < descByte d 19)
    || tailSet d 20

/-- SQ30 (R572, R574). -/
def spiBad (d : Desc) : Bool :=
  if descByte d 0 = 1 then xferBad d
  else if descByte d 0 = 0x0E || descByte d 0 = 0x0F then tailSet d 16 else true

/-- The descriptor of unit `u` completes BAD_DESCRIPTOR (R66). Opcode 0 is NOP on every ring (R65).
DESIGN CHOICE (log entry 15). -/
def State.descBad (s : State) (u : Nat) (d : Desc) : Bool :=
  commonBad d
    || (if descByte d 0 = 0 then tailSet d 16
        else if u < 24 then s.rodBad u d
        else if u = 24 then s.accBad (descByte d 0) (descBytes d 16 48)
        else if u = 25 then s.uhfBad d
        else if u = 26 then cphBad d
        else if u = unitSys then s.sysBad d
        else if u = unitBeam then beamBad d
        else if u = unitSpi then spiBad d
        else if u = unitRing then ringBad d
        else true)

/-! ### Domains (R584) -/

/-- Domains checked for a descriptor of a unit. DESIGN CHOICE (log entry 15). -/
def descDomains (u op : Nat) : List Domain :=
  if u < 24 then [bankOf u]
  else if u = 24 then [.plan, .crypto, .keys]
  else if u = 25 then [.uhf]
  else if u = 26 then
    if op = 1 || op = 2 || op = 3 || op = 0x0F then [.crypto] else if op = 0 then [] else [.keys]
  else if u = unitSys then if op = 0x31 then [.plan] else []
  else if u = unitRing then [.ring]
  else []

/-- Thermal shutdown ends the descriptor ABORTED at its dispatch (R209). An OPEN ends through its exchange instead, with
its ACCESS record. DEDUCED (log entry 16). -/
def shutAborts (u op : Nat) : Bool :=
  op != 0 && (decide (u < 24) || (u == 24 && op == 2) || u == unitUhf)

/-- REGULATORY at the dispatch of an SQ25 descriptor (R406, R427). DEDUCED (log entry 17). -/
def State.uhfRegulatory (s : State) (d : Desc) : Bool :=
  let op := descByte d 0
  if op = 0 || op = 0x0F then false
  else if !s.regionSet then true
  else if op = 2 || op = 5 then
    let b := s.subBand (descByte d 16)
    b == 15 || decide (s.sbPower b < descByte d 17)
  else false

/-- LENGTH_ERROR at the dispatch of a CIPHER (R452). -/
def cipherLengthBad (d : Desc) : Bool :=
  let len := descField d 20 2
  len % 16 != 0 || len == 0 || decide (4096 < len) || (descField d 24 8 == 0 && decide (224 < len))

/-- LENGTH_ERROR at the dispatch of a RANDOM (R461). -/
def randomLengthBad (d : Desc) : Bool :=
  let n := descField d 16 2
  n == 0 || decide (4096 < n) || (descField d 24 8 == 0 && decide (224 < n))

/-- The status with which a descriptor of unit `u` ends at its dispatch, in the order of R668; none: it is dispatched.
DEDUCED (log entries 10 and 16). -/
def State.dispatchEnd (s : State) (u : Nat) (d : Desc) : Option Status :=
  let op := descByte d 0
  if s.descBad u d then some .badDescriptor
  else if !(descDomains u op).all s.isOn then some .domainOff
  else if s.field.shutdown && shutAborts u op then some .aborted
  else if s.nltPassed d && !(s.field.shutdown && u == 24 && op == 1) then some .late
  else if u = unitUhf && s.uhfRegulatory d then some .regulatory
  else if u = unitCph && op = 1 && cipherLengthBad d then some .lengthError
  else if u = unitCph && op = 2 && randomLengthBad d then some .lengthError
  else none



/-- The status with which a descriptor carried out at fetch ends without effect, in the order of R668: BAD_DESCRIPTOR,
DOMAIN_OFF, LATE (R68 holds for every descriptor). DEDUCED (log entry 10). -/
def State.fetchEnd (s : State) (u : Nat) (d : Desc) : Option Status :=
  if s.descBad u d then some .badDescriptor
  else if !(descDomains u (descByte d 0)).all s.isOn then some .domainOff
  else if s.nltPassed d then some .late
  else none

/-- ROD_ERR.PROFILE is set when a rod descriptor names a profile that R126 does not allow (R126). One
with reserved header bits set has no effect at all (R66), another error of its PARAMS
beside the profile does not keep the bit from being set. DEDUCED (log entry 14). DESIGN CHOICE (log entry 83). -/
def State.noteProfile (s : State) (u : Nat) (d : Desc) : State :=
  if decide (u < 24) && !commonBad d && s.profileBad u d then s.setF F.ROD_ERR_PROFILE u else s

end Sys2Proof.Machine
end

