-- ==== Sys2Proof/Machine/Scheduler.lean ====
section
/-! DEFINITION. The scheduler: descriptor fetch, dispatch, and the descriptors carried out at fetch
(spec/01_architecture.md R27 to R31, spec/02_host_rings.md R65 to R70, R104, R668). -/

namespace Sys2Proof.Machine
open Sys2Proof

/-! ### Fetch (R30, R61, R69) -/

/-- Opcodes of a unit that are carried out at fetch (R164, R388, R395, R430, R446, R455, R574). -/
def atFetch (u op : Nat) : Bool :=
  if u < 24 then op == 0x0E || op == 0x0F
  else if u = unitAcc then op == 4 || op == 0x0F
  else if u = unitUhf then op == 0x0F
  else if u = unitCph then op == 0x0F || op == 0x12
  else if u = unitSpi then op == 0x0E || op == 0x0F
  else false



/-- A transaction joins the list. DESIGN CHOICE (log entries 13 and 51). -/
def State.addTxn (s : State) (unit : Nat) (sq : Option Nat) (d : Desc) (ph : TxPhase) (data : List Byte) : State :=
  { s with txns := s.txns ++ [newTxn s.sys.nextId unit sq d ph data], sys := { s.sys with nextId := s.sys.nextId + 1 } }

/-- A descriptor is fetched into host staging. -/
def State.fetchDesc (s : State) (q : Fin 32) (d : Desc) (ph : TxPhase) : State :=
  (s.count F.HOST_SQ_STAT_FETCHED q.val).addTxn (sqUnit q.val) (some q.val) d ph []

/-- DESCRIPTOR_FETCH (R30, R31, R61, R69). A descriptor that is carried out at fetch has a command of its own. -/
def execDescriptorFetch (q : Fin 32) (d : Desc) (s : State) : Out :=
  .next (
    if s.mayFetch q && !atFetch (sqUnit q.val) (descByte d 0) && s.slotFor q.val
        && (!s.needsGeneral q.val || s.generalTurn q.val) then
      let s1 : State := if s.needsGeneral q.val then { s with sys := { s.sys with lastGeneral := q.val } } else s
      s1.fetchDesc q d .staged
    else s)

/-- Host address of the next descriptor of ring `q` (R57, R61). -/
def State.sqAddr (s : State) (q : Nat) : Nat :=
  s.rd F.HOST_SQ_BASE_LO_BASE q * 64 + s.rd F.HOST_SQ_BASE_HI_BASE q * 2 ^ 32
    + 64 * (s.rd F.HOST_SQ_STAT_FETCHED q % 2 ^ s.rd F.HOST_SQ_CFG_SIZE q)

/-- FETCH_FAIL (R104, R105): fetching from the ring stops. -/
def execFetchFail (q : Fin 32) (s : State) : Out :=
  .next (
    if s.mayFetch q then
      ((s.setF F.HOST_SQ_STAT_FAULT q.val).hostErr 0 0 q.val (s.sqAddr q.val)).hostFault 0 q.val 0
    else s)

/-! ### Dispatch (R27 to R29, R66 to R68, R668) -/

/-- The next descriptor that ring `q` has staged; for a rod of a satellite, the next that came over the beam. -/
def State.nextStaged (s : State) (q : Nat) : Option Txn :=
  s.txns.find? (fun t => t.phase == .staged && (t.sq == some q || (t.sq.isNone && t.unit == q)))

/-- FENCE holds the descriptor: an earlier one of its ring has no committed completion (R67).
DESIGN CHOICE (log entry 11). -/
def State.fenced (s : State) (t : Txn) : Bool :=
  bit (descByte t.desc 1) 0 && s.txns.any (fun u => u.sq == t.sq && u.unit == t.unit && decide (u.id < t.id))

/-- What a dispatch adds at the unit: a rod keeps its settings (R22), the sequencer, the cipher queue and the key store
take the request into their order (R338, R443, R448); a LOAD_TILE starts its load (R493); the radio keeps its settings, and a calibration cycle becomes due
(R416); the serial master and the beam keep theirs (R22). -/
def State.atDispatch (s : State) (t : Txn) : State :=
  let op := t.op
  if op = 0 then s
  else if t.unit < 24 then s.rodDispatched (ix 23 t.unit) t.id
  else if t.unit = unitAcc then
    let r : AccReq := .desc t.id (s.lockSet (descByte t.desc 16 % 4))
    s.modAcc (fun a => { a with reqs := a.reqs ++ [r] })
  else if t.unit = unitUhf then s.uhfDispatched t
  else if t.unit = unitCph then
    if op = 1 then { s with cph := { s.cph with queue := s.cph.queue ++ [(t.id, [])] } }
    else if op = 2 || op = 3 then s.queueRandom t.id
    else if op = 0x10 || op = 0x11 then s.queueImport t.id else s
  else if t.unit = unitSys then
    if op = 0x31 then s.modPlanTile (ix 15 (descByte t.desc 16)) (fun x => { x with st := .loading }) else s
  else if t.unit = unitSpi then s.modTxn t.id (fun t => { t with spi := some (s.spiSet (descByte t.desc 16)) })
  else if t.unit = unitBeam then s.modTxn t.id (fun t => { t with retry := s.rd F.BEAM_CFG_RETRY })
  else s

/-- A descriptor takes its slot and is dispatched, or completes with the first outcome that is due (R668). -/
def State.dispatchTxn (s : State) (t : Txn) (k : SlotKind) : State :=
  let s1 := (s.modTxn t.id (fun t => { t with slot := k, phase := .queued, since := s.pwr.aonMicros })).notePeak
  match s.dispatchEnd t.unit t.desc with
  | some st =>
    when (st == .late && t.unit == unitUhf) (fun s => s.count F.UHF_CNT_LATE_COUNT)
      ((s1.noteProfile t.unit t.desc).finish t.id st)
  | none => s1.atDispatch t

/-- The scheduler dispatches nothing while CORE or BOARD is not ON (R582, R583). -/
def State.mayDispatch (s : State) (t : Txn) : Bool := s.isOn .core && s.isOn .board && !s.fenced t

/-- DESCRIPTOR_DISPATCH (R27, R67, R668): the next staged descriptor of ring `q`. One that came over the beam takes a general
slot only on its turn (R31). DEDUCED (log entry 12). -/
def execDescriptorDispatch (q : Fin 32) (s : State) : Out :=
  .next (
    match s.nextStaged q.val with
    | some t =>
      match s.freeSlot t.unit with
      | some k =>
        if s.mayDispatch t then
          if k = .borrowed && t.sq.isNone then
            if s.generalTurn q.val then ({ s with sys := { s.sys with lastGeneral := q.val } }).dispatchTxn t k else s
          else s.dispatchTxn t k
        else s
      | none => s
    | none => s)

/-- NOP (R66): a dispatched NOP completes OK. DESIGN CHOICE (log entry 15). -/
def execNop (q : Fin 32) (s : State) : Out :=
  .next (onSome (s.txns.find? (fun t => t.sq == some q.val && t.isQueued && t.op == 0))
    (fun (t : Txn) (s : State) => s.finish t.id .ok) s)

/-! ### Data fetches that fail (R104) -/

/-- VERIFY_DECRYPT reads its ciphertext: the checks that come before the read have passed (R396). -/
def State.vdReads (s : State) (t : Txn) : Bool :=
  let enc := s.keySlot (descField t.desc 16 2)
  let mac := s.keySlot (descField t.desc 18 2)
  let len := descField t.desc 22 2
  s.isOn .crypto && s.isOn .keys && enc.loaded && mac.loaded && bit enc.usage 2 && bit mac.usage 2
    && len % 16 == 0 && len != 0 && decide (len ≤ 4096)
    && (match s.accTake? 6 with | some (.desc id _) => id == t.id | _ => false)

/-- A transaction still reads, or is to read, a host buffer. -/
def State.readsBuffer (s : State) (t : Txn) : Bool :=
  let op := t.op
  let b := descByte t.desc
  if t.unit < 24 then op == 3 && t.isQueued && !bit (b 17) 2 && descField t.desc 20 2 != 0
  else if t.unit = unitAcc then op == 6 && t.isQueued && s.vdReads t
  else if t.unit = unitUhf then op == 2 && t.isQueued && !bit (b 18) 1
  else if t.unit = unitCph then
    !bit (b 18) 1 && s.needsInput t
  else if t.unit = unitSys then op == 0x31 && t.isRunning
  else if t.unit = unitBeam then decide (2 ≤ op) && t.isQueued && !bit (b 22) 0
  else if t.unit = unitSpi then
    op == 1 && t.isQueued && !xferRead t.desc && !xferInline t.desc && xferLen t.desc != 0
  else false

/-- A transaction whose data fetch failed completes ABORTED (R104). -/
def State.dataFailed (s : State) (t : Txn) : State :=
  if t.unit < 24 then s.endRodTxn (ix 23 t.unit) t.id .aborted
  else if t.unit = unitAcc then
    match s.accTake? 6 with
    | some q => (s.takeReq q).finish t.id .aborted
    | none => s
  else if t.unit = unitUhf then s.endUhf t.id .aborted
  else if t.unit = unitCph then
    if t.isQueued then s.endCipher t.id .aborted else s.stopCores (fun r => r.txn == t.id) .aborted
  else if t.unit = unitSys then ((s.planTileOut (ix 15 (descByte t.desc 16))).finish t.id .aborted).settleDoom
  else if t.unit = unitSpi then s.endXfer t .aborted [] 0 0 0
  else s.finish t.id .aborted

/-- DATA_FETCH_FAIL (R104, R105): a read of a host buffer at `addr` fails: HOST_ERR.DATA_FETCH, and the descriptor completes
ABORTED. DESIGN CHOICE (log entry 19). -/
def execDataFetchFail (q : Fin 32) (addr : DWord) (s : State) : Out :=
  .next (
    if s.mayDma then
      onSome (s.txns.find? (fun t => t.sq == some q.val && s.readsBuffer t))
        (fun (t : Txn) (s : State) => (s.dataFailed t).hostErr 1 0 q.val addr.toNat) s
    else s)

/-! ### Descriptors carried out at fetch (R164) -/

/-- Fetch of a descriptor that is carried out at fetch: in order of its ring, without a slot, after the earlier completions
when FENCE is set (R67). `act` is its effect when no other outcome is due.
DEDUCED (log entry 10). DESIGN CHOICE (log entry 11). -/
def State.carryOut (s : State) (q : Fin 32) (op : Nat) (d : Desc) (act : Txn → State → State) : State :=
  let id := s.sys.nextId
  if s.mayFetch q && descByte d 0 == op
      && !(bit (descByte d 1) 0 && s.txns.any (fun t => t.sq == some q.val)) then
    let s1 := s.fetchDesc q d .running
    match s.fetchEnd (sqUnit q.val) d with
    | some st => s1.finish id st
    | none => act (newTxn id (sqUnit q.val) (some q.val) d .running []) s1
  else s

/-- SQ26 or SQ27. -/
def cipherSq (sq27 : Bool) : Fin 32 := if sq27 then 27 else 26

/-- ROD_FLUSH (R164, R166). -/
def execRodFlush (n : Fin 24) (d : Desc) (s : State) : Out :=
  .next (s.carryOut (ix 31 n.val) 0x0E d (fun t s => s.rodFlush n t))

/-- ROD_ABORT (R164, R167). -/
def execRodAbort (n : Fin 24) (d : Desc) (s : State) : Out :=
  .next (s.carryOut (ix 31 n.val) 0x0F d (fun t s => s.rodAbort n t))

/-- REVOKE (R388). -/
def execRevoke (d : Desc) (s : State) : Out :=
  .next (s.carryOut 24 4 d (fun t s => (s.revokeEntry (descField d 16 2)).finish t.id .ok))

/-- ACC_ABORT (R395). -/
def execAccAbort (d : Desc) (s : State) : Out :=
  .next (s.carryOut 24 0x0F d (fun t s => (s.accAbort (descBytes d 16 48)).finish t.id .ok))

/-- UHF_ABORT (R430). -/
def execUhfAbort (d : Desc) (s : State) : Out := .next (s.carryOut 25 0x0F d (fun t s => s.uhfAbort t))

/-- ERASE (R446). -/
def execErase (sq27 : Bool) (d : Desc) (s : State) : Out :=
  .next (s.carryOut (cipherSq sq27) 0x12 d (fun t s => s.eraseCmd (some t.id) (descField d 16 2)))

/-- CIPHER_ABORT (R455). -/
def execCipherAbort (sq27 : Bool) (d : Desc) (s : State) : Out :=
  .next (s.carryOut (cipherSq sq27) 0x0F d (fun t s => s.cipherAbort t))

/-- SPI_FLUSH (R574). -/
def execSpiFlush (d : Desc) (s : State) : Out :=
  .next (s.carryOut 30 0x0E d (fun t s => s.spiFlush.finish t.id .ok))

/-- SPI_ABORT (R574). -/
def execSpiAbort (d : Desc) (s : State) : Out :=
  .next (s.carryOut 30 0x0F d (fun t s => (s.cutXfer .aborted).finish t.id .ok))

end Sys2Proof.Machine
end

