-- ==== Sys2Proof/Machine/BeamCmds.lean ====
section
/-! DEFINITION. The beam: frames, the master's transactions from SQ29, the slave's requests, claiming of addresses
(spec/12_chaining.md, R533 to R548). -/

namespace Sys2Proof.Machine
open Sys2Proof

/-! ### Frames (R535) -/

/-- A frame of bytes with its CRC. -/
def withCrc (b : List Byte) : List Byte := b ++ leBytes 2 (crc16B b).toNat

/-- The CRC of a received frame is good. -/
def beamCrcGood (b : List Byte) : Bool :=
  decide (8 ≤ b.length) && leNat (b.drop (b.length - 2)) == (crc16B (b.take (b.length - 2))).toNat

/-- CRC field of a received frame. -/
def beamCrc (b : List Byte) : Nat := leNat (b.drop (b.length - 2))
/-- Beam address of a frame. -/
def beamTo (b : List Byte) : Nat := byteAt b 0 % 64
/-- KIND: 0 REQUEST, 1 RESPONSE, 2 CLAIM, 3 BROADCAST. -/
def beamKind (b : List Byte) : Nat := byteAt b 0 / 64
/-- OP: 0 READ, 1 WRITE, 2 START, 3 STOP, 4 CLAIM_CALL. -/
def beamOp (b : List Byte) : Nat := byteAt b 1 % 8
/-- SPACE of a frame. -/
def beamSpace (b : List Byte) : Nat := byteAt b 1 / 8 % 4
/-- TSEQ of a frame. -/
def beamTseq (b : List Byte) : Nat := byteAt b 1 / 32
/-- A of a frame. -/
def beamA (b : List Byte) : Nat := leNat ((b.drop 2).take 3)
/-- Words of a frame: CNT + 1. -/
def beamWords (b : List Byte) : Nat := byteAt b 5 + 1
/-- DATA of a request. -/
def beamData (b : List Byte) : List Byte := (b.drop 6).take (b.length - 8)
/-- Word `i` of the data of a request. -/
def beamWord (b : List Byte) (i : Nat) : Nat := leNat (((beamData b).drop (4 * i)).take 4)

/-- A request or broadcast frame. -/
def reqFrame (addr kind op space tseq a cnt : Nat) (data : List Byte) : List Byte :=
  withCrc (leBytes 1 (addr + 64 * kind) ++ leBytes 1 (op + 8 * space + 32 * tseq) ++ leBytes 3 a ++ leBytes 1 cnt ++ data)

/-- The response to a request: CTL, A and CNT echoed, RSTAT, DATA. -/
def respFrame (addr : Nat) (req : List Byte) (rstat : Nat) (data : List Byte) : List Byte :=
  withCrc (leBytes 1 (addr + 64) ++ (req.drop 1).take 5 ++ leBytes 1 rstat ++ data)

/-- Change the beam. -/
def State.modBeam (s : State) (f : BeamPart → BeamPart) : State := { s with beam := f s.beam }

/-- A frame with a bad CRC was received (R548). -/
def State.beamBadCrc (s : State) : State := (s.setF F.BEAM_STAT_CRC_ERR).count F.BEAM_CNT_CRC_COUNT

/-! ### The master (R541 to R545) -/

/-- The master may send: CORE is ON, no transaction is in progress, and no claim window is open (R541, R544). -/
def State.beamFree (s : State) : Bool :=
  s.isOn .core && s.beamMaster && s.beam.run.isNone && s.beam.window.isNone

/-- The transaction at the head of SQ29 when it has opcode `op` and the beam is free. -/
def State.beamTake? (s : State) (op : Nat) : Option Txn := if s.beamFree then s.takeHead? unitBeam op else none

/-- The transaction at the head of SQ29 begins: it waits while it may not read its data (R102), and completes LATE when
its NLT has passed (R545). -/
def State.beamBegin (s : State) (op : Nat) (f : Txn → State → State) : State :=
  onSome (s.beamTake? op) (fun (t : Txn) (s : State) =>
    if s.nltPassed t.desc then s.finish t.id .late
    else if op = 1 || bit (descByte t.desc 22) 0 || s.mayDma then f t s
    else s) s

/-- Data words of an SQ29 descriptor: inline, or the bytes that its data fetch brought. -/
def beamOut (d : Desc) (buf : List Byte) : List Byte :=
  let n := 4 * (descByte d 21 + 1)
  if bit (descByte d 22) 0 then descBytes d 32 n else (padTo n buf).take n

/-- Request frame of an SQ29 descriptor. -/
def State.beamRequest (s : State) (d : Desc) (kind : Nat) (data : List Byte) : List Byte :=
  reqFrame (if kind = 0 then descByte d 16 % 64 else 0) kind (descByte d 0 - 1) (descByte d 17 % 4) s.beam.tseq (descField d 18 3)
    (descByte d 21) data

/-- A frame goes out under the next TSEQ. DEDUCED (log entry 38). -/
def State.beamSend (s : State) (frame : List Byte) : State :=
  (s.modBeam (fun b => { b with tseq := (b.tseq + 1) % 8 })).emitOut (.beamFrame frame)

/-- A request goes out and its response is awaited. -/
def State.beamAsk (s : State) (t : Txn) (frame : List Byte) : State :=
  ((s.run t.id).beamSend frame).modBeam (fun b => { b with run := some ⟨t.id, frame, 0⟩ })

/-- BEAM_READ (R544). -/
def execBeamRead (s : State) : Out :=
  .next (s.beamBegin 1 (fun (t : Txn) (s : State) => s.beamAsk t (s.beamRequest t.desc 0 [])))

/-- BEAM_WRITE (R544, R545): a broadcast is sent once and completes OK. -/
def execBeamWrite (buf : List Byte) (s : State) : Out :=
  .next (s.beamBegin 2 (fun (t : Txn) (s : State) =>
    let data := beamOut t.desc buf
    if bit (descByte t.desc 22) 1 then (s.beamSend (s.beamRequest t.desc 3 data)).finish t.id .ok
    else s.beamAsk t (s.beamRequest t.desc 0 data)))

/-- BEAM_START (R544). -/
def execBeamStart (buf : List Byte) (s : State) : Out :=
  .next (s.beamBegin 3 (fun (t : Txn) (s : State) => s.beamAsk t (s.beamRequest t.desc 0 (beamOut t.desc buf))))

/-- BEAM_STOP (R544). -/
def execBeamStop (buf : List Byte) (s : State) : Out :=
  .next (s.beamBegin 4 (fun (t : Txn) (s : State) => s.beamAsk t (s.beamRequest t.desc 0 (beamOut t.desc buf))))

/-- A CLAIM_CALL that offers address `a` opens a claim window (R541). -/
def State.claimCall (s : State) (a : Nat) (data : List Byte) (txn : Option Nat) : State :=
  (s.beamSend (reqFrame 0 3 4 0 s.beam.tseq 0 0 data)).modBeam (fun b => { b with window := some (a, txn) })

/-- BEAM_CLAIM_CALL (R541, R544): address 0 is never offered. DESIGN CHOICE (log entry 39). -/
def execBeamClaimCall (buf : List Byte) (s : State) : Out :=
  .next (s.beamBegin 5 (fun (t : Txn) (s : State) =>
    let data := beamOut t.desc buf
    let a := byteAt data 0
    if a = 0 || 64 ≤ a then s.finish t.id .badDescriptor else (s.run t.id).claimCall a data (some t.id)))

/-- The transaction of the master is over. -/
def State.beamOver (s : State) (id : Nat) (st : Status) : State := (s.modBeam (fun b => { b with run := none })).finish id st

/-- The request is sent again with the same TSEQ, or its tries are used up and it ends with `st` (R545).
DEDUCED (log entry 38). -/
def State.beamRetry (s : State) (r : BeamRun) (st : Status) : State :=
  if decide (r.tries < ((s.txn? r.txn).map (·.retry)).getD 0) then
    ((s.modBeam (fun b => { b with run := some { r with tries := r.tries + 1 } })).count F.BEAM_CNT_RETRY_COUNT).emitOut
      (.beamFrame r.frame)
  else s.beamOver r.txn st

/-- A response belongs to a request: it comes from the address asked, and echoes CTL, A and CNT (R535). -/
def answers (req resp : List Byte) : Bool :=
  beamKind resp == 1 && beamTo resp == beamTo req && (resp.drop 1).take 5 == (req.drop 1).take 5

/-- A good response: the BEAM record, then the completion (R545). DEDUCED (log entry 38). -/
def State.beamAnswered (s : State) (r : BeamRun) (resp : List Byte) : State :=
  match s.txn? r.txn with
  | some t =>
    let rstat := byteAt resp 6
    let st : Status := if bit rstat 2 then .badDescriptor else .ok
    let data := if t.op = 1 then (resp.drop 7).take (resp.length - 9) else []
    let content := resp.take 1 ++ leBytes 1 rstat ++ (resp.drop 2).take 4 ++ [0, 0] ++ data
    ((s.count F.BEAM_CNT_FRAME_COUNT).emitAcc .beam .ok unitBeam t s.sys.timebase content).beamOver t.id st
  | none => s.modBeam (fun b => { b with run := none })

/-- BEAM_RESPONSE (R545). -/
def execBeamResponse (bytes : List Byte) (s : State) : Out :=
  .next (
    match s.beam.run with
    | some r =>
      if !s.isOn .core then s
      else if !beamCrcGood bytes then s.beamBadCrc.beamRetry r .crcError
      else if answers r.frame bytes then s.beamAnswered r bytes else s
    | none => s)

/-- BEAM_RESPONSE_TIMEOUT (R545): no response began within 6 µs. -/
def execBeamResponseTimeout (s : State) : Out :=
  .next (
    match s.beam.run with
    | some r => if s.isOn .core then (s.setF F.BEAM_STAT_TIMEOUT).beamRetry r .timeout else s
    | none => s)

/-- BEAM_FRAME_ABORT (R534): the frame being received is aborted. A response that the master awaits counts as one with a
bad CRC; a slave drops the request. DEDUCED (log entry 38). -/
def execBeamFrameAbort (s : State) : Out :=
  .next (
    match s.beam.run with
    | some r => if s.isOn .core then s.beamBadCrc.beamRetry r .crcError else s
    | none => s)

/-- BEAM_NLT_EXPIRY (R545): a transaction whose request frame has not started by its NLT completes LATE. -/
def execBeamNltExpiry (s : State) : Out :=
  .next (onSome (s.txns.find? (fun t => t.unit == unitBeam && t.isQueued && s.nltPassed t.desc))
    (fun (t : Txn) (s : State) => s.finish t.id .late) s)

/-- Bit `a` of BEAM_MAP. -/
def State.beamMapped (s : State) (a : Nat) : Bool :=
  if a = 0 then true
  else if a < 32 then bit (2 * s.rd F.BEAM_MAP_LO_MAP) a else bit (s.rd F.BEAM_MAP_HI_MAP) (a - 32)

/-- Set bit `a` of BEAM_MAP. -/
def State.mapBeam (s : State) (a : Nat) : State :=
  if a = 0 then s
  else if a < 32 then s.wr F.BEAM_MAP_LO_MAP 0 (s.rd F.BEAM_MAP_LO_MAP ||| 2 ^ (a - 1))
  else s.wr F.BEAM_MAP_HI_MAP 0 (s.rd F.BEAM_MAP_HI_MAP ||| 2 ^ (a - 32))

/-- CLAIM_WINDOW_END (R541): a claim that arrived is reported and its address entered in BEAM_MAP. DEDUCED (log entry 38). -/
def execClaimWindowEnd (serial : Option DWord) (s : State) : Out :=
  .next (
    match s.beam.window with
    | some (a, txn) =>
      if s.isOn .core then
        let s1 := s.modBeam (fun b => { b with window := none })
        let s2 := onSome serial (fun (v : DWord) (s : State) =>
          ((s.count F.BEAM_CNT_FRAME_COUNT).mapBeam a).raise .beamClaim unitBeam (leBytes 1 a ++ leBytes 2 v.toNat)) s1
        onSome txn (fun (id : Nat) (s : State) => s.finish id .ok) s2
      else s
    | none => s)

/-- AUTO_CLAIM_CALL (R543): the lowest free address is offered between transactions. -/
def execAutoClaimCall (s : State) : Out :=
  .next (
    if s.beamFree && s.flag F.BEAM_CFG_AUTO_CLAIM then
      onSome ((List.range 64).find? (fun a => !s.beamMapped a))
        (fun (a : Nat) (s : State) => s.claimCall a (leBytes 4 a) none) s
    else s)

/-! ### The slave (R537 to R542) -/

/-- The device is a beam slave whose CORE is ON. -/
def State.beamSlave (s : State) : Bool := s.isOn .core && !s.beamMaster

/-- End of the block in which a burst may run (R538). -/
def blockEnd (space a : Nat) : Nat :=
  if space = 0 then
    if 0x6000 ≤ a && a < 0x7800 then (a / 0x100 + 1) * 0x100
    else if 0x7800 ≤ a && a < 0x8000 then 0x8000
    else (a / 0x1000 + 1) * 0x1000
  else (a / tileBytes + 1) * tileBytes

/-- A request whose SPACE, A or CNT the frame layout does not allow (R535, R536). DESIGN CHOICE (log entry 40). -/
def beamReject (b : List Byte) : Bool :=
  beamA b % 4 != 0 || decide (spaceSize (beamSpace b) ≤ beamA b) || decide (64 < beamWords b)

/-- RSTAT bits and BEAM_STAT flags of a burst: ADDR_OVR when it ran past its block (R538). -/
def State.overrun (s : State) (b : List Byte) : State × Nat :=
  if blockEnd (beamSpace b) (beamA b) < beamA b + 4 * beamWords b then (s.setF F.BEAM_STAT_ADDR_OVR, 1) else (s, 0)

/-- One word read by a burst (R538, R52, R498, R602). -/
def State.beamReadWord (s : State) (space a : Nat) : State × Nat :=
  if space = 0 then s.beamRegRead a
  else if space = 1 then
    (s, if s.isOn .plan && !s.isDedupTile (a / tileBytes) then leNat (Memory.readBytes s.planMem a 4) else 0)
  else (s, if s.isOn .board then leNat (Memory.readBytes s.boardMem a 4) else 0)

/-- The words of a READ, from word `i` on, `n` of them. -/
def State.beamReadWords (b : List Byte) : Nat → Nat → State → State × List Byte
  | 0, _, s => (s, [])
  | n + 1, i, s =>
    let a := beamA b + 4 * i
    let r := if a < blockEnd (beamSpace b) (beamA b) then s.beamReadWord (beamSpace b) a else (s, 0)
    let rest := State.beamReadWords b n (i + 1) r.1
    (rest.1, leBytes 4 r.2 ++ rest.2)

/-- A READ: state, RSTAT, data (R538). DESIGN CHOICE (log entry 40). -/
def State.beamReading (s : State) (b : List Byte) : State × Nat × List Byte :=
  if beamReject b then (s, 4, List.replicate (4 * (beamWords b)) 0)
  else
    let o := s.overrun b
    let r := State.beamReadWords b (beamWords b) 0 o.1
    (r.1, o.2, r.2)

/-- One word of a WRITE in SPACE 0 or 1 (R538, R539). -/
def State.beamWriteWord (s : State) (space a w : Nat) : State :=
  if space = 0 then s.beamRegWrite a (BitVec.ofNat 32 w)
  else { s with planMem := Memory.writeBytes s.planMem a (leBytes 4 w) }

/-- A WRITE: state and RSTAT (R247, R538, R539). DESIGN CHOICE (log entry 40). -/
def State.beamWriting (s : State) (b : List Byte) : State × Nat :=
  if beamReject b || beamSpace b = 2 then (s, 4)
  else
    let o := s.overrun b
    if beamSpace b = 1 && (s.board.window != some (beamA b / tileBytes) || s.isDedupTile (beamA b / tileBytes)) then (o.1.setF F.BEAM_STAT_PLAN_WR, o.2 + 2)
    else
      (forAll (List.range (beamWords b)) (fun (i : Nat) (s : State) =>
        let a := beamA b + 4 * i
        if a < blockEnd (beamSpace b) (beamA b) then s.beamWriteWord (beamSpace b) a (beamWord b i) else s) o.1, o.2)

/-- A request to this slave: a repeated one is answered with the stored response, any other is served by `act`, which
gives the state, RSTAT and data of its response (R537, R542). DEDUCED (log entry 38). -/
def State.beamServe (s : State) (b : List Byte) (op : Nat) (act : State → State × Nat × List Byte) : State :=
  if beamKind b != 0 || beamOp b != op || !s.flag F.BEAM_ADDR_VALID || s.rd F.BEAM_ADDR_ADDR != beamTo b then s
  else
    let s0 := s.count F.BEAM_CNT_FRAME_COUNT
    match s.beam.served.filter (fun v => v.1 == beamTseq b && v.2.1 == beamCrc b) with
    | some v => s0.emitOut (.beamFrame v.2.2)
    | none =>
      let r := act (s0.modPwr (fun p => { p with answering := true, staged := none }))
      let resp := respFrame (beamTo b) b r.2.1 r.2.2
      if r.1.isOn .core then
        (((r.1.wr F.BEAM_STAT_LAST_TSEQ 0 (beamTseq b)).modBeam (fun x =>
          { x with served := some (beamTseq b, beamCrc b, resp) })).emitOut (.beamFrame resp)).releaseRequest
      else r.1.releaseRequest

/-- A frame that reaches a slave: its CRC is checked first. -/
def State.beamHeard (s : State) (b : List Byte) (f : State → State) : State :=
  if s.beamSlave then (if beamCrcGood b then f s else s.beamBadCrc) else s

/-- BEAM_REQ_READ (R538). -/
def execBeamReqRead (bytes : List Byte) (s : State) : Out :=
  .next (s.beamHeard bytes (fun s => s.beamServe bytes 0 (fun s => s.beamReading bytes)))

/-- BEAM_REQ_WRITE (R538, R539, R545): a broadcast is carried out without a response. -/
def execBeamReqWrite (bytes : List Byte) (s : State) : Out :=
  .next (s.beamHeard bytes (fun s =>
    if beamKind bytes = 3 then
      if beamOp bytes = 1 && s.flag F.BEAM_ADDR_VALID then ((s.count F.BEAM_CNT_FRAME_COUNT).beamWriting bytes).1 else s
    else s.beamServe bytes 1 (fun s => let r := s.beamWriting bytes; (r.1, r.2, []))))

/-- The descriptor that a beam START or STOP stands for: opcode, and PARAMS from byte 16 on (R540).
DESIGN CHOICE (log entry 40). -/
def beamDesc (op : Nat) (params : List Byte) : Desc :=
  BitVec.ofNat 512 (leNat (leBytes 1 op ++ List.replicate 15 0 ++ params))

/-- A START or STOP takes effect in a satellite: the descriptor goes into the rod's command queue, or is carried out at
once when it is a FLUSH or ABORT (R540). DESIGN CHOICE (log entry 40). -/
def State.beamPlace (s : State) (n : Fin 24) (d : Desc) (tseq : Nat) : State :=
  let id := s.sys.nextId
  let data := leBytes 1 tseq
  let op := descByte d 0
  if atFetch n.val op then
    let s1 := s.addTxn n.val none d .running data
    match s1.fetchEnd n.val d with
    | some st => s1.finish id st
    | none =>
      let t := newTxn id n.val none d .running data
      if op = 0x0E then s1.rodFlush n t else s1.rodAbort n t
  else s.addTxn n.val none d .staged data

/-- START or STOP with descriptor `d`: REJECT unless the device is a satellite, A names a rod, CNT is right, and the checks
of R66 and R160 pass (R540). -/
def State.beamCommand (s : State) (b : List Byte) (cnt : Nat) (ok : Bool) (d : Desc) : State × Nat × List Byte :=
  if s.sys.role != .satellite || decide (24 ≤ beamA b) || byteAt b 5 != cnt || !ok || s.descBad (beamA b) d then (s, 4, [])
  else (s.beamPlace (ix 23 (beamA b)) d (beamTseq b), 0, [])

/-- BEAM_REQ_START (R540): a RUN_PLAN with PARAMS bytes 16 to 23. -/
def execBeamReqStart (bytes : List Byte) (s : State) : Out :=
  .next (s.beamHeard bytes (fun s => s.beamServe bytes 2 (fun s =>
    s.beamCommand bytes 1 true (beamDesc 5 ((padTo 8 (beamData bytes)).take 8)))))

/-- BEAM_REQ_STOP (R540): a STOP_PLAN, FLUSH or ABORT with PARAMS byte 16. -/
def execBeamReqStop (bytes : List Byte) (s : State) : Out :=
  .next (s.beamHeard bytes (fun s => s.beamServe bytes 3 (fun s =>
    let op := byteAt (beamData bytes) 0
    s.beamCommand bytes 0 (op == 6 || op == 0x0E || op == 0x0F) (beamDesc op (leBytes 1 (byteAt (beamData bytes) 1))))))

/-- BEAM_REQ_CLAIM_CALL (R541): a slave without a valid address will send its claim frame. DESIGN CHOICE (log entry 39). -/
def execBeamReqClaimCall (bytes : List Byte) (s : State) : Out :=
  .next (s.beamHeard bytes (fun s =>
    let a := byteAt (beamData bytes) 0
    if beamKind bytes = 3 && beamOp bytes = 4 && !s.flag F.BEAM_ADDR_VALID && a != 0 && decide (a < 64) then
      (s.count F.BEAM_CNT_FRAME_COUNT).modBeam (fun b => { b with claiming := some a })
    else s))

/-- CLAIM_FRAME (R541): the claim frame goes out; unopposed to its end, it wins the address. -/
def execClaimFrame (won : Bool) (s : State) : Out :=
  .next (
    match s.beam.claiming with
    | some a =>
      if s.beamSlave then
        let s1 := (s.modBeam (fun b => { b with claiming := none })).emitOut (.claimFrame a s.otp.serial)
        if won then (s1.wr F.BEAM_ADDR_ADDR 0 a).setF F.BEAM_ADDR_VALID else s1
      else s
    | none => s)

/-- BEAM_ADDR_WRITE (R542): a write from the host takes effect at once; one over the beam comes with BEAM_REQ_WRITE, whose
response still carries the old address. -/
def execBeamAddrWrite (w : Word) (s : State) : Out := .next (s.hostWrite 0xC804 (writeBeamAddr w))

/-- BEAM_TILE_REL (R543). -/
def execBeamTileRel (w : Word) (s : State) : Out := .next (s.hostWrite 0xC814 (writeTileRel w))

end Sys2Proof.Machine
end

