-- ==== Sys2Proof/Machine/LinkCmds.lean ====
section
/-! DEFINITION. Commands of the Lorle link: downlink frames, LF channels, slots, transponder answers, ranging trains
(spec/07_lorle_link.md). -/

namespace Sys2Proof.Machine
open Sys2Proof

/-! ### Downlink frames and LF channels -/

/-- Channel `n` drives a transponder exchange, at TP_IPK (R298, R325). -/
def State.lfTp (s : State) (n : Nat) : Bool :=
  match s.link.frame, s.link.last with
  | some x, _ => x.tp && x.chan == n
  | none, some x => x.tp && x.chan == n
  | none, none => false

/-- Regulation of channel `n` is frozen: from t_E until the transponder answer ends (R327). -/
def State.lfFrozen (s : State) (n : Nat) : Bool :=
  s.link.frame.isNone && (match s.link.listen with | .transponder c => c == n | _ => false)

/-- A channel that drives or listens enters FAULT (R300 to R302): its span ends there, and its exchange, or only its segment
(R311, R351). `oc`: OVERCURRENT, otherwise OPEN. -/
def State.channelFault (s : State) (n : Nat) (sp : LfSpan) (oc : Bool) : State :=
  let s0 := s.lfSpan n (s.lfTp n) (s.lfFrozen n) sp
  let s1 := (s0.setF (if oc then F.LF_ERR_OVERCURRENT else F.LF_ERR_OPEN) n).wr F.LF_STAT_STATE n 3
  let own : Bool := match s.link.frame, s.link.last with
    | some x, _ => x.chan == n
    | none, some x => x.tp && x.chan == n
    | none, none => false
  match own, s1.acc.run with
  | true, some r => s1.cutRun r .lfFault
  | true, none => s1.linkStop
  | false, _ => s1.modFrame (fun x =>
      if x.segChan = some n then { x with segChan := none, sent := x.sent.dropLast ++ [false] } else x)

/-- Channel `n` drives or listens. -/
def State.lfBusy (s : State) (n : Nat) : Bool := s.rd F.LF_STAT_STATE n == 1 || s.rd F.LF_STAT_STATE n == 2

/-- A reported span of channel `n`: a fault met in it puts the channel into FAULT; otherwise `go`. -/
def State.withSpan (s : State) (n : Nat) (sp : LfSpan) (go : State → State) : State :=
  match (s.lfWalk n (s.lfTp n) (s.lfFrozen n) sp).fault with
  | some oc => if s.lfBusy n then s.channelFault n sp oc else go s
  | none => go s

/-- DOWNLINK_END (R307, R325): the frame in progress, whose charge and burst are over, reaches t_E.
DESIGN CHOICE (log entry 9). -/
def execDownlinkEnd (sp : LfSpan) (s : State) : Out :=
  .next (
    match s.link.frame with
    | some x =>
      if x.charging || (x.burst && decide (x.segPos < 6)) then s
      else if x.burst then (s.frameOver x sp).sentOnly x
      else s.withSpan x.chan sp (fun s => (s.frameOver x sp).sentOnly x)
    | none => s)

/-- Channel whose driven span ends at the next start or end of a segment (R311). -/
def DownFrame.spanChan (x : DownFrame) : Option Nat :=
  if x.segPos = 0 then some x.chan else if x.segPos % 2 = 1 then x.segChan else none

/-- BURST_SEGMENT (R311). -/
def execBurstSegment (sp : LfSpan) (s : State) : Out :=
  .next (
    match s.link.frame.bind (·.spanChan) with
    | some c => s.withSpan c sp (·.segStep sp)
    | none => s.segStep sp)

/-- LF_OVERCURRENT (R300): `sp` is the span up to the cycle whose peak exceeds IOC. -/
def execLfOvercurrent (n : Fin 8) (sp : LfSpan) (s : State) : Out :=
  .next (
    if s.lfBusy n.val && (s.lfWalk n.val (s.lfTp n.val) (s.lfFrozen n.val) sp).fault == some true then
      s.channelFault n.val sp true
    else s)

/-- LF_OPEN_FAULT (R301): `sp` is the span up to the 64th update that shows an open coil. -/
def execLfOpenFault (n : Fin 8) (sp : LfSpan) (s : State) : Out :=
  .next (
    if s.lfBusy n.val && (s.lfWalk n.val (s.lfTp n.val) (s.lfFrozen n.val) sp).fault == some false then
      s.channelFault n.val sp false
    else s)

/-- LF_ERR_WRITE (R302). -/
def execLfErrWrite (n : Fin 8) (w : Word) (s : State) : Out := .next (s.hostWrite (0x8850 + 0x20 * n.val) (writeLfErr n.val w))

/-- LF_CHANNEL_CFG_WRITE (R303, R304). -/
def execLfChannelCfgWrite (addr : Nat) (w : Word) (s : State) : Out :=
  .next (if 0x8840 ≤ addr && addr < 0x8940 then s.hostWrite addr (writeLfCfg addr w) else s)

/-- TOK_REG_WRITE (R334). -/
def execTokRegWrite (addr : Nat) (w : Word) (s : State) : Out :=
  .next (if 0x8400 ≤ addr && addr < 0x841C then s.hostWrite addr (writeTok addr w) else s)

/-- TOK_CNT_CLR (R335): a write of 1 to TOK_CFG.CNT_CLR. -/
def execTokCntClr (w : Word) (s : State) : Out :=
  .next (if bit w.toNat 31 then s.hostWrite 0x8400 (writeTok 0x8400 w) else s)

/-! ### Slots (R316 to R320) -/

/-- Set what the link listens to. -/
def State.setListen (s : State) (l : ListenState) : State := s.modLink (fun k => { k with listen := l })

/-- SLOT_OPEN (R317, R319). -/
def execSlotOpen (s : State) : Out :=
  .next (
    match s.link.listen with
    | .slots n k none =>
      if k < n then
        let on := s.isOn .uhf && s.radio == 3
        (s.setListen (.slots n k (some ⟨0, [], on, on, none, s.sys.timebase⟩))).modUhf (fun u => { u with divA := none })
      else s
    | _ => s)

/-- The UHF_FRAME record of a frame that RECEIVE takes begins with its reception where the access FIFO can take it, and otherwise
at its end (R465, R466, R472). DEDUCED (log entry 49). -/
def State.uhfGroup (s : State) (t : Txn) : State :=
  let len := 12 + descField t.desc 20 2
  if (s.fifo 24).waiting.isEmpty && (s.fifo 24).mayStart 16 1 && !s.uhf.inFrame then s.startGroup 24 (some t.id) 1 (packetWords len)
  else s

/-- A sync word for a RECEIVE window (R427, R428). -/
def State.rxSync (s : State) (w : Word) : State :=
  match s.running? unitUhf with
  | some t =>
    if t.op = 3 && s.uhf.window && s.radio == 3 && decide (syncErrors t.sync w ≤ descByte t.desc 18) then
      (s.modUhf (fun u => { u with inFrame := true })).uhfGroup t
    else s
  | none => s

/-- SYNC_DETECT (R318): `w` are the last 32 bits received, `t` is their end from the start of the slot in units of 1/240 µs;
the window is 1,466.67 µs to 1,866.67 µs, both ends included. -/
def execSyncDetect (t : Nat) (w : Word) (s : State) : Out :=
  .next (
    match s.link.listen, s.link.last with
    | .slots n k (some c), some x =>
      if c.rx && decide (352000 ≤ t) && decide (t ≤ 448000) && decide (syncErrors x.tok.sync w ≤ x.tok.syncErr) then
        s.setListen (.slots n k (some { c with syncs := c.syncs + 1 }))
      else s
    | _, _ => s.rxSync w)

/-- UPLINK_FRAME_END (R314): a frame whose sync word was accepted ends. -/
def execUplinkFrameEnd (rx : UhfRx) (s : State) : Out :=
  .next (
    match s.link.listen with
    | .slots n k (some c) =>
      if c.frames.length < c.syncs then
        let body := rx.bytes.take 40
        let s1 := (s.crcFeed 0x40 rx.bytes).noteDiv
        let ch := c.chosen.getD (s1.rd F.UHF_DIV_RSSI_RSSI_A, s1.rd F.UHF_DIV_RSSI_RSSI_B, s1.rd F.UHF_DIV_STAT_LAST)
        let f : UplinkFrame := ⟨body, bodyGood body, ch.1, ch.2.1, ch.2.2, rx.ferr % 65536, s.sys.timebase⟩
        s1.setListen (.slots n k (some { c with frames := c.frames ++ [f] }))
      else s
    | _ => s)

/-- A time of the timebase `us` later (R332). Windows end in whole µs. DESIGN CHOICE (log entry 89). -/
def later (t : DWord) (us : Nat) : DWord := t + BitVec.ofNat 64 us

/-- A slot has its outcome (R320): noted, recorded, passed on. With no frame received FERR is a free value (R333 states
none), and the stamp is the end of the sync window (R318, R332). -/
def State.slotDecided (s : State) (x : DownFrame) (k energy : Nat) (c : SlotRun) (last : Bool) : State :=
  let o := slotOutcome x k energy c
  match c.frames.head? with
  | some f =>
    (s.noteOutcome x o 0 k f.aerial f.rssiA f.rssiB f.ferr f.body f.stamp).answerIn x k (some o) f.body last
  | none =>
    let ch := c.chosen.getD (0x8000, 0x8000, s.rd F.UHF_DIV_STAT_LAST)
    let d := s.drawFree
    (d.1.noteOutcome x o 0 k ch.2.2 ch.1 ch.2.1 (d.2 % 65536) [] (later c.start 1866)).answerIn x k (some o) [] last

/-- SLOT_END (R319, R320): `energy` are the levels received around the slot with their times; `early`: RX was reached before
the slot's window opened. A slot whose window opened before RX was reached is lost. DESIGN CHOICE (log entry 1). -/
def execSlotEnd (energy : List (Int × Nat)) (early : Bool) (s : State) : Out :=
  .next (
    match s.link.listen, s.link.last with
    | .slots n k (some c), some x =>
      let last := decide (n ≤ k + 1)
      let s1 := if last then (s.setListen .none).modUhf (fun u => { u with need := .none }) else s.setListen (.slots n (k + 1) none)
      if c.rxAtStart || (c.rx && early) then s1.slotDecided x k (energyTime x.tok.energyTh energy) c last
      else (s1.count F.TOK_CNT_MISSED_COUNT).answerIn x k none [] last
    | _, _ => s)

/-! ### Ranging trains (R321 to R324) -/

/-- The 32 challenge bits of the path in progress (R358). DEDUCED (log entry 43). -/
def State.challengeBits (s : State) : List Bool :=
  match s.acc.run.bind (·.path) with
  | some p => (List.range 32).map (fun i => bit (byteAt p.challenge (i / 8)) (i % 8))
  | none => []

/-- DB_POWER for a train, as it was when its transaction was dispatched (R22, R414). -/
def State.trainPower (s : State) : Nat :=
  match s.acc.run with | some r => r.cfg.dbPower | none => s.rd F.UHF_TX_CFG_DB_POWER

/-- TRAIN_START (R321, R403, R414): the train goes out when the radio has reached TX; otherwise it is not sent. -/
def execTrainStart (s : State) : Out :=
  .next (
    match s.link.listen, s.link.last with
    | .train false _, some x =>
      if s.isOn .uhf && s.radio = 4 then
        let top := s.sbPower (s.subBand x.tok.dbChan)
        let want := s.trainPower
        let s1 := if top < want then s.setF F.UHF_ERR_DB_CLAMP else s
        (s1.emitOut (.rangingTrain x.tok.dbChan (min want top) 0 1 x.tok.spacing s.challengeBits)).setListen (.train true true)
      else (s.dropTrain.setListen (.train true false)).modUhf (fun u => { u with need := .none })
    | _, _ => s)

/-- t_i of a response cell in 0.25 ns and its bit (R321 to R323): the cell starts at the rising edge of its pulse, less 250 ns
when the pulse lies in the second half, which is a 0; the challenge cell ends 500 ns after its start. A response that starts
before that has no t_i of its own and is missing (R324). -/
def trainTime (c : TrainCell) : Option (Nat × Bool) :=
  let lead := if c.second then 3000 else 2000
  if lead ≤ c.edge then some (c.edge - lead, !c.second) else none

/-- TRAIN_END (R323, R324, R369): for each cell its response, none where none came. DESIGN CHOICE (log entry 8). -/
def execTrainEnd (cells : List (Option TrainCell)) (s : State) : Out :=
  .next (
    match s.link.listen with
    | .train true sent =>
      let s1 := (s.setListen .none).modUhf (fun u => { u with need := .none })
      s1.trainMeasured (if sent then cells.map (·.bind trainTime) else [])
    | _ => s)

/-! ### Transponder exchanges (R325 to R328) -/

/-- TP_CHARGE_END (R325). -/
def execTpChargeEnd (s : State) : Out := .next (s.modFrame (fun x => { x with charging := false }))

/-- A transponder answer or its window ends (R325, R328): the carrier stays on. Without a complete body the stamp of its record
is the end of the answer window, 320 cycles after t_E (R332). -/
def State.tpDone (s : State) (x : DownFrame) (o : LinkOutcome) (body : List Byte) : State :=
  let stamp := if body.length = 40 then s.sys.timebase else later s.link.ended 2560
  ((((s.setListen .none).wr F.LF_STAT_STATE x.chan 1).noteOutcome x o 1 0 x.chan 0 0 0 body stamp)).answerIn x 0
    (some o) body true

/-- TP_ANSWER_END (R325 to R328): the answer has ended; `halves`: P in the two halves of each bit, header and body. -/
def execTpAnswerEnd (head : TpHead) (halves : List (Nat × Nat)) (s : State) : Out :=
  .next (
    match s.link.listen, s.link.last with
    | .transponder _, some x =>
      match tpAnswer (vget s.link.drives (ix 7 x.chan)).lmTh head halves with
      | some body => s.tpDone x (tpOutcome x body) body
      | none => s.tpDone x .empty []
    | _, _ => s)

/-- TP_WINDOW_END (R328). DEDUCED (log entry 42). -/
def execTpWindowEnd (s : State) : Out :=
  .next (
    match s.link.listen, s.link.last with
    | .transponder _, some x => s.tpDone x .empty []
    | _, _ => s)

end Sys2Proof.Machine
end

