-- ==== Sys2Proof/Machine/Dispatch.lean ====
section
/-! DEFINITION. Every command's arm: a direct call of its meaning. -/

namespace Sys2Proof.Machine
open Sys2Proof

/-- The effect of a command on everything but the queue. DESIGN CHOICE (log entry 57). -/
def exec (i : Instr) (s : State) : Host.Outcome State Fault Refusal :=
  match i with
  | .powerOnReset pins => Sys2Proof.Machine.execPowerOnReset pins s
  | .resetN pins => Sys2Proof.Machine.execResetN pins s
  | .perstReset => Sys2Proof.Machine.execPerstReset s
  | .watchdogExpiry => Sys2Proof.Machine.execWatchdogExpiry s
  | .softwareReset w => Sys2Proof.Machine.execSoftwareReset w s
  | .watchdogKick w => Sys2Proof.Machine.execWatchdogKick w s
  | .startupAdvance inp => Sys2Proof.Machine.execStartupAdvance inp s
  | .registerWrite addr w hi => Sys2Proof.Machine.execRegisterWrite addr w hi s
  | .bar0BadAccess write addr size => Sys2Proof.Machine.execBar0BadAccess write addr size s
  | .bar2Write off => Sys2Proof.Machine.execBar2Write off s
  | .sysTbLoRead => Sys2Proof.Machine.execSysTbLoRead s
  | .sysTbHiRead => Sys2Proof.Machine.execSysTbHiRead s
  | .sysTbLoWrite w => Sys2Proof.Machine.execSysTbLoWrite w s
  | .sysTbHiWrite w => Sys2Proof.Machine.execSysTbHiWrite w s
  | .slotPeakClr w => Sys2Proof.Machine.execSlotPeakClr w s
  | .sysHostDropClr w => Sys2Proof.Machine.execSysHostDropClr w s
  | .sqTailDoorbell q w => Sys2Proof.Machine.execSqTailDoorbell q w s
  | .headDoorbell r w => Sys2Proof.Machine.execHeadDoorbell r w s
  | .hostRingCfgWrite addr w => Sys2Proof.Machine.execHostRingCfgWrite addr w s
  | .sqTeardownDone q => Sys2Proof.Machine.execSqTeardownDone q s
  | .pcieBmeD3Change bme d3 msixOn msixMask => Sys2Proof.Machine.execPcieBmeD3Change bme d3 msixOn msixMask s
  | .descriptorFetch q d => Sys2Proof.Machine.execDescriptorFetch q d s
  | .fetchFail q => Sys2Proof.Machine.execFetchFail q s
  | .dataFetchFail q addr => Sys2Proof.Machine.execDataFetchFail q addr s
  | .descriptorDispatch q => Sys2Proof.Machine.execDescriptorDispatch q s
  | .nop q => Sys2Proof.Machine.execNop q s
  | .completionCommit q => Sys2Proof.Machine.execCompletionCommit q s
  | .recordEgress k => Sys2Proof.Machine.execRecordEgress k s
  | .eventEgress => Sys2Proof.Machine.execEventEgress s
  | .ringModTimeExpiry r => Sys2Proof.Machine.execRingModTimeExpiry r s
  | .hfPllLock locked => Sys2Proof.Machine.execHfPllLock locked s
  | .fieldOn n => Sys2Proof.Machine.execFieldOn n s
  | .fieldOnPllTimeout n => Sys2Proof.Machine.execFieldOnPllTimeout n s
  | .fieldOff n => Sys2Proof.Machine.execFieldOff n s
  | .transceive n buf => Sys2Proof.Machine.execTransceive n buf s
  | .measure n => Sys2Proof.Machine.execMeasure n s
  | .measureDone n amp phase noise clip => Sys2Proof.Machine.execMeasureDone n amp phase noise clip s
  | .runPlan n crcs => Sys2Proof.Machine.execRunPlan n crcs s
  | .stopPlan n => Sys2Proof.Machine.execStopPlan n s
  | .rodFlush n d => Sys2Proof.Machine.execRodFlush n d s
  | .rodAbort n d => Sys2Proof.Machine.execRodAbort n d s
  | .carrierRampUpDone n below => Sys2Proof.Machine.execCarrierRampUpDone n below s
  | .carrierRampDownDone n => Sys2Proof.Machine.execCarrierRampDownDone n s
  | .holdExpiry n => Sys2Proof.Machine.execHoldExpiry n s
  | .guardExpiry n => Sys2Proof.Machine.execGuardExpiry n s
  | .idleOffExpiry n => Sys2Proof.Machine.execIdleOffExpiry n s
  | .powerStep n => Sys2Proof.Machine.execPowerStep n s
  | .frameStart n => Sys2Proof.Machine.execFrameStart n s
  | .frameTxEnd n => Sys2Proof.Machine.execFrameTxEnd n s
  | .windowOpen n => Sys2Proof.Machine.execWindowOpen n s
  | .windowClose n => Sys2Proof.Machine.execWindowClose n s
  | .sofDetect n fdt chans => Sys2Proof.Machine.execSofDetect n fdt chans s
  | .responseEnd n rx => Sys2Proof.Machine.execResponseEnd n rx s
  | .nextMinExpiry n => Sys2Proof.Machine.execNextMinExpiry n s
  | .rodNltExpiry n => Sys2Proof.Machine.execRodNltExpiry n s
  | .rodCntClr n w => Sys2Proof.Machine.execRodCntClr n w s
  | .surveyStart w => Sys2Proof.Machine.execSurveyStart w s
  | .surveyBegin => Sys2Proof.Machine.execSurveyBegin s
  | .surveyAverageEnd v clipped => Sys2Proof.Machine.execSurveyAverageEnd v clipped s
  | .surveySlotEnd => Sys2Proof.Machine.execSurveySlotEnd s
  | .pilotPeriodEnd x clipped => Sys2Proof.Machine.execPilotPeriodEnd x clipped s
  | .tapWrite addr w => Sys2Proof.Machine.execTapWrite addr w s
  | .zoneMapWrite g w => Sys2Proof.Machine.execZoneMapWrite g w s
  | .zoneChangeEffect n => Sys2Proof.Machine.execZoneChangeEffect n s
  | .zoneGrant z => Sys2Proof.Machine.execZoneGrant z s
  | .budgetStartAllowed => Sys2Proof.Machine.execBudgetStartAllowed s
  | .budgetLimitWrite w => Sys2Proof.Machine.execBudgetLimitWrite w s
  | .tempSample t0 t1 t2 t3 => Sys2Proof.Machine.execTempSample t0 t1 t2 t3 s
  | .shutdownClear w => Sys2Proof.Machine.execShutdownClear w s
  | .endStep n crcs => Sys2Proof.Machine.execEnd n crcs s
  | .inventory n => Sys2Proof.Machine.execInventory n s
  | .inventoryCycle n => Sys2Proof.Machine.execInventoryCycle n s
  | .selectStep n => Sys2Proof.Machine.execSelect n s
  | .readBlocks n => Sys2Proof.Machine.execReadBlocks n s
  | .readBlocksExt n => Sys2Proof.Machine.execReadBlocksExt n s
  | .getInfo n => Sys2Proof.Machine.execGetInfo n s
  | .waitStep n => Sys2Proof.Machine.execWait n s
  | .waitExpiry n => Sys2Proof.Machine.execWaitExpiry n s
  | .branchIf n => Sys2Proof.Machine.execBranchIf n s
  | .emitStep n => Sys2Proof.Machine.execEmit n s
  | .emitSyncWrite n => Sys2Proof.Machine.execEmitSyncWrite n s
  | .writeBlocks n => Sys2Proof.Machine.execWriteBlocks n s
  | .lockBlock n => Sys2Proof.Machine.execLockBlock n s
  | .filterVerdict n j => Sys2Proof.Machine.execFilterVerdict n j s
  | .heldRecordCarry n j => Sys2Proof.Machine.execHeldRecordCarry n j s
  | .carryLengthWord n => Sys2Proof.Machine.execCarryLengthWord n s
  | .writeWaitExpiry n => Sys2Proof.Machine.execWriteWaitExpiry n s
  | .roundEnd => Sys2Proof.Machine.execRoundEnd s
  | .roundCtlEnd w => Sys2Proof.Machine.execRoundCtlEnd w s
  | .roundBoundary => Sys2Proof.Machine.execRoundBoundary s
  | .roundStepEnd => Sys2Proof.Machine.execRoundStepEnd s
  | .specCntClr n w => Sys2Proof.Machine.execSpecCntClr n w s
  | .filterCfgWrite w => Sys2Proof.Machine.execFilterCfgWrite w s
  | .dedupCfgWrite w => Sys2Proof.Machine.execDedupCfgWrite w s
  | .tallyRunWrite w => Sys2Proof.Machine.execTallyRunWrite w s
  | .tallyEnWrite w => Sys2Proof.Machine.execTallyEnWrite w s
  | .tallyBaseWrite n w => Sys2Proof.Machine.execTallyBaseWrite n w s
  | .scanInstant => Sys2Proof.Machine.execScanInstant s
  | .tallyBurst => Sys2Proof.Machine.execTallyBurst s
  | .tallyEvaluate amp ph => Sys2Proof.Machine.execTallyEvaluate amp ph s
  | .tallyWakeEvent => Sys2Proof.Machine.execTallyWakeEvent s
  | .downlinkEnd sp => Sys2Proof.Machine.execDownlinkEnd sp s
  | .burstSegment sp => Sys2Proof.Machine.execBurstSegment sp s
  | .lfOvercurrent n sp => Sys2Proof.Machine.execLfOvercurrent n sp s
  | .lfOpenFault n sp => Sys2Proof.Machine.execLfOpenFault n sp s
  | .lfErrWrite n w => Sys2Proof.Machine.execLfErrWrite n w s
  | .lfChannelCfgWrite addr w => Sys2Proof.Machine.execLfChannelCfgWrite addr w s
  | .slotOpen => Sys2Proof.Machine.execSlotOpen s
  | .syncDetect t w => Sys2Proof.Machine.execSyncDetect t w s
  | .uplinkFrameEnd rx => Sys2Proof.Machine.execUplinkFrameEnd rx s
  | .slotEnd energy early => Sys2Proof.Machine.execSlotEnd energy early s
  | .trainStart => Sys2Proof.Machine.execTrainStart s
  | .trainEnd cells => Sys2Proof.Machine.execTrainEnd cells s
  | .tpChargeEnd => Sys2Proof.Machine.execTpChargeEnd s
  | .tpAnswerEnd base halves => Sys2Proof.Machine.execTpAnswerEnd base halves s
  | .tpWindowEnd => Sys2Proof.Machine.execTpWindowEnd s
  | .tokRegWrite addr w => Sys2Proof.Machine.execTokRegWrite addr w s
  | .tokCntClr w => Sys2Proof.Machine.execTokCntClr w s
  | .openLock => Sys2Proof.Machine.execOpen s
  | .accLockStart l w => Sys2Proof.Machine.execAccLockStart l w s
  | .accGpioTrigger k level => Sys2Proof.Machine.execAccGpioTrigger k level s
  | .accPeriodicTrigger l => Sys2Proof.Machine.execAccPeriodicTrigger l s
  | .exchangeStart crcs => Sys2Proof.Machine.execExchangeStart crcs s
  | .accNltExpiry => Sys2Proof.Machine.execAccNltExpiry s
  | .candidateJudge => Sys2Proof.Machine.execCandidateJudge s
  | .interlockWaitExpiry => Sys2Proof.Machine.execInterlockWaitExpiry s
  | .relFbDebounce l level => Sys2Proof.Machine.execRelFbDebounce l level s
  | .releaseNoMove l => Sys2Proof.Machine.execReleaseNoMove l s
  | .releasePulseEnd l => Sys2Proof.Machine.execReleasePulseEnd l s
  | .penaltyWaitEnd token k => Sys2Proof.Machine.execPenaltyWaitEnd token k s
  | .accCalibrate crcs => Sys2Proof.Machine.execAccCalibrate crcs s
  | .enrol => Sys2Proof.Machine.execEnrol s
  | .revoke d => Sys2Proof.Machine.execRevoke d s
  | .clearPenalty => Sys2Proof.Machine.execClearPenalty s
  | .verifyDecrypt src crcs => Sys2Proof.Machine.execVerifyDecrypt src crcs s
  | .accAbort d => Sys2Proof.Machine.execAccAbort d s
  | .skipRestore w => Sys2Proof.Machine.execSkipRestore w s
  | .accPlock w => Sys2Proof.Machine.execAccPlock w s
  | .mirrorRestoreStart w => Sys2Proof.Machine.execMirrorRestoreStart w s
  | .mirrorRestoreDone a b => Sys2Proof.Machine.execMirrorRestoreDone a b s
  | .mirrorWriteDone ok pages => Sys2Proof.Machine.execMirrorWriteDone ok pages s
  | .setRest => Sys2Proof.Machine.execSetRest s
  | .transmit buf => Sys2Proof.Machine.execTransmit buf s
  | .receive => Sys2Proof.Machine.execReceive s
  | .uhfCalibrate => Sys2Proof.Machine.execUhfCalibrate s
  | .cwCommand => Sys2Proof.Machine.execCw s
  | .uhfAbort d => Sys2Proof.Machine.execUhfAbort d s
  | .uhfTransitionDone => Sys2Proof.Machine.execUhfTransitionDone s
  | .synthLockTimeout => Sys2Proof.Machine.execSynthLockTimeout s
  | .calStepDone => Sys2Proof.Machine.execCalStepDone s
  | .calIntervalExpiry => Sys2Proof.Machine.execCalIntervalExpiry s
  | .dutyBucketRotate => Sys2Proof.Machine.execDutyBucketRotate s
  | .uhfNltExpiry earliest => Sys2Proof.Machine.execUhfNltExpiry earliest s
  | .uhfTxEnd actual => Sys2Proof.Machine.execUhfTxEnd actual s
  | .cwEnd actual => Sys2Proof.Machine.execCwEnd actual s
  | .uhfFrameReceived rx => Sys2Proof.Machine.execUhfFrameReceived rx s
  | .receiveWindowEnd => Sys2Proof.Machine.execReceiveWindowEnd s
  | .import128 => Sys2Proof.Machine.execImport128 s
  | .import256 => Sys2Proof.Machine.execImport256 s
  | .erase sq27 d => Sys2Proof.Machine.execErase sq27 d s
  | .kgenWrite w => Sys2Proof.Machine.execKgenWrite w s
  | .keyPlock w => Sys2Proof.Machine.execKeyPlock w s
  | .tokenEntryCapture w => Sys2Proof.Machine.execTokenEntryCapture w s
  | .cipher buf => Sys2Proof.Machine.execCipher buf s
  | .cipherAbort sq27 d => Sys2Proof.Machine.execCipherAbort sq27 d s
  | .cipherRequestStart => Sys2Proof.Machine.execCipherRequestStart s
  | .keyPreload c => Sys2Proof.Machine.execKeyPreload c s
  | .cipherBlockDone c => Sys2Proof.Machine.execCipherBlockDone c s
  | .random => Sys2Proof.Machine.execRandom s
  | .reseed => Sys2Proof.Machine.execReseed s
  | .rngGenerate entropy => Sys2Proof.Machine.execRngGenerate entropy s
  | .rngReady entropy nonce => Sys2Proof.Machine.execRngReady entropy nonce s
  | .rngHealthFail rct apt => Sys2Proof.Machine.execRngHealthFail rct apt s
  | .rngRestart w => Sys2Proof.Machine.execRngRestart w s
  | .bankSwap f => Sys2Proof.Machine.execBankSwap f s
  | .drainTake ecc => Sys2Proof.Machine.execDrainTake ecc s
  | .fifoModeWrite f w => Sys2Proof.Machine.execFifoModeWrite f w s
  | .fifoModeChange f => Sys2Proof.Machine.execFifoModeChange f s
  | .tileSealDone t => Sys2Proof.Machine.execTileSealDone t s
  | .sealAgeExpiry => Sys2Proof.Machine.execSealAgeExpiry s
  | .brdSealWrite w => Sys2Proof.Machine.execBrdSealWrite w s
  | .tileVerifyDone t crc => Sys2Proof.Machine.execTileVerifyDone t crc s
  | .tileFree t => Sys2Proof.Machine.execTileFree t s
  | .tileRestore w bad => Sys2Proof.Machine.execTileRestore w bad s
  | .loadTile => Sys2Proof.Machine.execLoadTile s
  | .loadTileDone src => Sys2Proof.Machine.execLoadTileDone src s
  | .planWindowOpen w => Sys2Proof.Machine.execPlanWindowOpen w s
  | .planWindowClose w => Sys2Proof.Machine.execPlanWindowClose w s
  | .planDataWrite w => Sys2Proof.Machine.execPlanDataWrite w s
  | .ucodePlock w => Sys2Proof.Machine.execUcodePlock w s
  | .ringCfgWrite w => Sys2Proof.Machine.execRingCfgWrite w s
  | .linkUp up => Sys2Proof.Machine.execLinkUp up s
  | .linkLoss up => Sys2Proof.Machine.execLinkLoss up s
  | .dataFrameReceived up bytes => Sys2Proof.Machine.execDataFrameReceived up bytes s
  | .dataFrameSend up res => Sys2Proof.Machine.execDataFrameSend up res s
  | .latencyDropReport origin => Sys2Proof.Machine.execLatencyDropReport origin s
  | .flowSymbolReceived up xoff => Sys2Proof.Machine.execFlowSymbolReceived up xoff s
  | .xoffRepeat up => Sys2Proof.Machine.execXoffRepeat up s
  | .roundToken t => Sys2Proof.Machine.execRoundToken t s
  | .haltToken t => Sys2Proof.Machine.execHaltToken t s
  | .resumeToken t => Sys2Proof.Machine.execResumeToken t s
  | .timeSyncToken t since res => Sys2Proof.Machine.execTimeSyncToken t since res s
  | .timeSyncSend frac => Sys2Proof.Machine.execTimeSyncSend frac s
  | .timeSyncTimeout => Sys2Proof.Machine.execTimeSyncTimeout s
  | .echoToken t span => Sys2Proof.Machine.execEchoToken t span s
  | .cableMeasure up => Sys2Proof.Machine.execCableMeasure up s
  | .walkToken t => Sys2Proof.Machine.execWalkToken t s
  | .walkSend => Sys2Proof.Machine.execWalkSend s
  | .walkTimeout up => Sys2Proof.Machine.execWalkTimeout up s
  | .walkAbsenceTimeout => Sys2Proof.Machine.execWalkAbsenceTimeout s
  | .resetToken t => Sys2Proof.Machine.execResetToken t s
  | .breakToken t => Sys2Proof.Machine.execBreakToken t s
  | .ringHalt => Sys2Proof.Machine.execRingHalt s
  | .ringResume => Sys2Proof.Machine.execRingResume s
  | .ringReset => Sys2Proof.Machine.execRingReset s
  | .ringWalk => Sys2Proof.Machine.execRingWalk s
  | .beamRead => Sys2Proof.Machine.execBeamRead s
  | .beamWrite buf => Sys2Proof.Machine.execBeamWrite buf s
  | .beamStart buf => Sys2Proof.Machine.execBeamStart buf s
  | .beamStop buf => Sys2Proof.Machine.execBeamStop buf s
  | .beamClaimCall buf => Sys2Proof.Machine.execBeamClaimCall buf s
  | .beamResponse bytes => Sys2Proof.Machine.execBeamResponse bytes s
  | .beamResponseTimeout => Sys2Proof.Machine.execBeamResponseTimeout s
  | .beamNltExpiry => Sys2Proof.Machine.execBeamNltExpiry s
  | .beamReqRead bytes => Sys2Proof.Machine.execBeamReqRead bytes s
  | .beamReqWrite bytes => Sys2Proof.Machine.execBeamReqWrite bytes s
  | .beamReqStart bytes => Sys2Proof.Machine.execBeamReqStart bytes s
  | .beamReqStop bytes => Sys2Proof.Machine.execBeamReqStop bytes s
  | .beamReqClaimCall bytes => Sys2Proof.Machine.execBeamReqClaimCall bytes s
  | .claimFrame won => Sys2Proof.Machine.execClaimFrame won s
  | .claimWindowEnd serial => Sys2Proof.Machine.execClaimWindowEnd serial s
  | .autoClaimCall => Sys2Proof.Machine.execAutoClaimCall s
  | .beamAddrWrite w => Sys2Proof.Machine.execBeamAddrWrite w s
  | .beamTileRel w => Sys2Proof.Machine.execBeamTileRel w s
  | .tmrStart n w => Sys2Proof.Machine.execTmrStart n w s
  | .tmrResume n w => Sys2Proof.Machine.execTmrResume n w s
  | .tmrStop n w => Sys2Proof.Machine.execTmrStop n w s
  | .tmrSwcapt n w => Sys2Proof.Machine.execTmrSwcapt n w s
  | .timerMatch n tgate => Sys2Proof.Machine.execTimerMatch n tgate s
  | .timerOverflow n tgate => Sys2Proof.Machine.execTimerOverflow n tgate s
  | .timerCaptureEdge n rising => Sys2Proof.Machine.execTimerCaptureEdge n rising s
  | .tmrLoWrite addr w => Sys2Proof.Machine.execTmrLoWrite addr w s
  | .tmrHiWrite addr w => Sys2Proof.Machine.execTmrHiWrite addr w s
  | .tmrCntLoRead n => Sys2Proof.Machine.execTmrCntLoRead n s
  | .tmrCntHiRead n => Sys2Proof.Machine.execTmrCntHiRead n s
  | .tmrCaptLoRead n => Sys2Proof.Machine.execTmrCaptLoRead n s
  | .tmrCaptHiRead n => Sys2Proof.Machine.execTmrCaptHiRead n s
  | .crcStart u w => Sys2Proof.Machine.execCrcStart u w s
  | .crcStop u w => Sys2Proof.Machine.execCrcStop u w s
  | .crcCfgWrite addr w => Sys2Proof.Machine.execCrcCfgWrite addr w s
  | .crcFrameEnd u => Sys2Proof.Machine.execCrcFrameEnd u s
  | .xfer buf => Sys2Proof.Machine.execXfer buf s
  | .spiFlush d => Sys2Proof.Machine.execSpiFlush d s
  | .spiAbort d => Sys2Proof.Machine.execSpiAbort d s
  | .spiFrameEnd e => Sys2Proof.Machine.execSpiFrameEnd e s
  | .spiRetryExpiry => Sys2Proof.Machine.execSpiRetryExpiry s
  | .spiNltExpiry => Sys2Proof.Machine.execSpiNltExpiry s
  | .gpioEdge k level => Sys2Proof.Machine.execGpioEdge k level s
  | .gpioWindowEnd => Sys2Proof.Machine.execGpioWindowEnd s
  | .pwrReqWrite w => Sys2Proof.Machine.execPwrReqWrite w s
  | .setPower => Sys2Proof.Machine.execSetPower s
  | .setPowerRetry => Sys2Proof.Machine.execSetPowerRetry s
  | .memberEntryDone => Sys2Proof.Machine.execMemberEntryDone s
  | .wakeSource src k rising => Sys2Proof.Machine.execWakeSource src k rising s
  | .wakeTimerExpiry => Sys2Proof.Machine.execWakeTimerExpiry s
  | .wakeStart => Sys2Proof.Machine.execWakeStart s
  | .xtalStartDone => Sys2Proof.Machine.execXtalStartDone s
  | .wakePositionDone => Sys2Proof.Machine.execWakePositionDone s
  | .padRelease w => Sys2Proof.Machine.execPadRelease w s
  | .aonSrcWrite w => Sys2Proof.Machine.execAonSrcWrite w s
  | .xtal32kStable => Sys2Proof.Machine.execXtal32kStable s
  | .bistRun => Sys2Proof.Machine.execBistRun s
  | .bistCancel w => Sys2Proof.Machine.execBistCancel w s
  | .bistTargetsReady => Sys2Proof.Machine.execBistTargetsReady s
  | .bistItemDone sig clean => Sys2Proof.Machine.execBistItemDone sig clean s
  | .jtagInstruction ir => Sys2Proof.Machine.execJtagInstruction ir s
  | .tapReset => Sys2Proof.Machine.execTapReset s
  | .debugHalt jtag w => Sys2Proof.Machine.execDebugHalt jtag w s
  | .debugStopped => Sys2Proof.Machine.execDebugStopped s
  | .debugResume w => Sys2Proof.Machine.execDebugResume w s
  | .debugStep w => Sys2Proof.Machine.execDebugStep w s
  | .pcieLinkChange speed width => Sys2Proof.Machine.execPcieLinkChange speed width s
  | .diversityChoice rssiA rssiB => Sys2Proof.Machine.execDiversityChoice rssiA rssiB s
  | .importWriteCycle => Sys2Proof.Machine.execImportWriteCycle s
  | .timerTick n tgate => Sys2Proof.Machine.execTimerTick n tgate s
  | .reservedTypeToken t => Sys2Proof.Machine.execReservedTypeToken t s
  | .beamFrameAbort => Sys2Proof.Machine.execBeamFrameAbort s

end Sys2Proof.Machine
end

