-- ==== Sys2Proof/Machine/Tick.lean ====
section
/-! DEFINITION. What passes in a microsecond in which no command arrives: the timebase, AON time, the wake timer, the
watchdog, the pause that ends a burst (R41, R43, R488, R522, R594, R607). -/

namespace Sys2Proof.Machine
open Sys2Proof

/-- The timebase counts while CORE is ON, unless it stands still to be caught up with (R41, R522); each increment is a tick of
the timers with CLK = US (R550). DESIGN CHOICE (log entry 2). -/
def State.tickBase (s : State) : State :=
  if s.isOn .core then
    if s.ring.hold = 0 then
      ({ s with sys := { s.sys with timebase := s.sys.timebase + 1 } }).tickAll 0 (fun _ _ => true)
    else { s with ring := { s.ring with hold := s.ring.hold - 1 } }
  else s

/-- AON time passes: microseconds and cycles of 32.768 kHz, on which the wake timer counts down (R594); failure waits end at their time (R375). The cycles in which
CORE is not ON are counted for the next wake (R43). DESIGN CHOICE (log entry 2). DEDUCED (log entry 21). -/
def State.tickAon (s : State) : State :=
  let m := s.pwr.aonMicros + 1
  let c := m * 32768 / 1000000
  let s1 := (s.modPwr (fun p => { p with aonMicros := m, aonCycles := c })).modAcc (fun a =>
    { a with waits := a.waits.filter (fun w => decide (m < w.until_)) })
  let left := s.rd F.PWR_WAKE_TIMER_COUNT
  if c = s.pwr.aonCycles then s1
  else
    let s2 := if s.isOn .core then s1 else s1.modPwr (fun p => { p with coreAway := p.coreAway + 1 })
    if left = 0 then s2 else if left = 1 then s2.wakeTimerDone else s2.wr F.PWR_WAKE_TIMER_COUNT 0 (left - 1)

/-- The watchdog counts AON time while it is enabled and CORE is ON; it pauses in a debug halt when DBG_PAUSE = 1 (R607).
DESIGN CHOICE (log entry 2). -/
def State.tickWdt (s : State) : State :=
  if s.wdtRuns then
    let s1 := s.modPwr (fun p => { p with wdt := p.wdt + 1 })
    if s.rd F.RST_WDT_CFG_TIMEOUT * 1000 ≤ s1.pwr.wdt then s1.warmReset 3 else s1
  else s

/-- A burst from a tile ends with a pause longer than 1 µs (R488), after which a record asks for a verification again.
DESIGN CHOICE (log entry 2). -/
def State.tickBurst (s : State) : State :=
  match s.board.lastLeft with
  | none => s
  | some k =>
    if k = 0 then { s with board := { s.board with lastLeft := some 1 } }
    else ({ s with board := { s.board with burst := none, lastLeft := none } }).askVerify

/-- A microsecond passes. DESIGN CHOICE (log entry 2). -/
def State.idleTick (s : State) : State := s.tickBase.tickBurst.tickAon.bistLate.tickWdt

end Sys2Proof.Machine
end

