-- ==== Sys2Proof/Machine/Step.lean ====
section
/-! DEFINITION. One step: the command at the front of the queue, or a microsecond when none waits. -/

namespace Sys2Proof.Machine
open Sys2Proof

/-- The first waiting command is carried out on the state with the rest of the queue; with none waiting a microsecond
passes. DESIGN CHOICE (log entries 2, 7 and 8). -/
def step (s : State) : Host.Outcome State Fault Refusal :=
  match s.pending with
  | [] => .next s.idleTick
  | i :: rest => exec i { s with pending := rest }

/-- The state with the command that a word spells at the front of its queue. DESIGN CHOICE (log entry 7). -/
def State.withFetchWord (s : State) (nbits w : Nat) : State :=
  match decodeTableWord nbits w with
  | some i => { s with pending := i :: s.pending }
  | none => s

end Sys2Proof.Machine
end

