-- ==== Sys2Proof/Safety.lean ====
section
/-! DEFINITION. What counts as a safe state, in the terms that statements use. -/

namespace Sys2Proof.Machine
open Sys2Proof

/-- The memories that the spec addresses keep their canonical form: the counting board and plan memory. -/
def State.memWf (s : State) : Bool := Memory.wf s.boardMem && Memory.wf s.planMem

/-- `t` differs from `s` at most in register fields, and among those only in the fields with the listed keys: the frame of
a command that writes registers and nothing else. -/
def RegsOnly (s t : State) (keys : List Nat) : Prop :=
  t = { s with regs := t.regs } ∧ ∀ (f : Fld) (i : Nat), f.key i ∉ keys → t.rd f i = s.rd f i

/-- Key of HOST_ERR bit `b`, and of the fields that capture the first error (R105). -/
def hostErrKeys (b : Nat) : List Nat :=
  [fldKey 0x2008 b, F.HOST_ERR_SRC_RING.key 0, F.HOST_ERR_SRC_KIND.key 0, F.HOST_ERR_SRC_BIT.key 0,
    F.HOST_ERR_ADDR_LO_ADDR.key 0, F.HOST_ERR_ADDR_HI_ADDR.key 0]

/-- HOST_ERR bit `b` as a field. -/
def hostErrBit (b : Nat) : Fld := ⟨0x2008, 0, b, b, 0, 0⟩

/-- What an error of the host interface does (R104, R105): bit `b` of HOST_ERR is set; the first error while all bits are 0
is captured, a later one is not; nothing else changes. -/
def HostErrNoted (s t : State) (b kind ring addr : Nat) : Prop :=
  t.rd (hostErrBit b) = 1 ∧
  ((∀ i < 8, s.rd (hostErrBit i) = 0) →
    t.rd F.HOST_ERR_SRC_RING = ring % 32 ∧ t.rd F.HOST_ERR_SRC_KIND = kind % 4 ∧ t.rd F.HOST_ERR_SRC_BIT = b % 8 ∧
    t.rd F.HOST_ERR_ADDR_LO_ADDR = addr % 2 ^ 32 ∧ t.rd F.HOST_ERR_ADDR_HI_ADDR = addr / 2 ^ 32 % 2 ^ 32) ∧
  ((∃ i < 8, s.rd (hostErrBit i) ≠ 0) → RegsOnly s t [fldKey 0x2008 b]) ∧
  RegsOnly s t (hostErrKeys b)

/-- The log of a state after the outputs `os`, newest first: what would leave through balls that the TAP has taken does not
leave (R629). -/
def State.logged (s : State) (os : List Output) : List Output :=
  os.filter (fun o => !(s.test.takesBalls && o.atBalls)) ++ s.out

/-- The posted writes of a 16-byte ring entry with its PHASE, newest first (R58, R86). -/
def State.entryWrites (s : State) (addr : Nat) (b : List Byte) (phase : Bool) : List Output :=
  let e := b.take 15 ++ [BitVec.ofNat 8 (byteAt b 15 + 128 * b2n phase)]
  if s.flag F.HOST_CTL_SPLIT_PHASE then [.hostWrite (addr + 12) (e.drop 12), .hostWrite addr (e.take 12)]
  else [.hostWrite addr e]

/-- Tile `t` has been zeroed and made FREE, and draining resumes (R485, R489, R491): what waited for a FREE tile follows. -/
def TileFreed (s u : State) (t : Fin 64) : Prop :=
  ∃ v : State, v.tile t = ⟨.free, [], 0⟩ ∧ (∀ k, k ≠ t → v.tile k = s.tile k) ∧ v.board.full = false ∧
    (∀ a, Memory.read v.boardMem a = if a / 16384 = t.val then 0 else Memory.read s.boardMem a) ∧
    v = { s with board := v.board, boardMem := v.boardMem } ∧ u = v.settleEvents.agedSeal ∧
    (s.sys.waitEvents = [] → s.board.ageOut = false → u = v)

/-- A step answers a next state. -/
def goesOn (o : Host.Outcome State Fault Refusal) : Bool :=
  match o with
  | .next _ => true
  | .fault _ => false
  | .refused _ => false

/-- `t` differs from `s` at most in rod `n` and in the register fields with the listed keys. -/
def RodFrame (s t : State) (n : Fin 24) (keys : List Nat) : Prop :=
  (∀ m, m ≠ n → t.rod m = s.rod m) ∧ RegsOnly { s with rods := t.rods } t keys

/-- Rod `n` is about to start the main-flow step with opcode `op` of its invocation `p`: it stands at a unit boundary with
nothing to do first, the step can be carried out (R218), and the debug unit neither halts it nor has a breakpoint
(R216, R630, R632). -/
def PlanAtStep (s : State) (n : Fin 24) (p : Plan) (op : Nat) : Prop :=
  s.plan? n = some p ∧ s.unitMay n = true ∧ p.stage = .boundary ∧ p.pc < 1024 ∧ mainFault p (s.stepBytes p p.pc) = 0 ∧
  stepOp (s.stepBytes p p.pc) = op ∧ s.flag F.DBG_STAT_HALTED = false ∧ s.flag F.DBG_BP_EN = false

/-- Rod `n`'s carrier is ON at the power of its plan's settings and no raise of the plan waits (R111, R217). -/
abbrev CarrierServes (s : State) (n : Fin 24) (p : Plan) : Prop :=
  (s.rod n).carrier = .on ∧ p.snap.power ≤ (s.rod n).goal ∧ s.startQueued n.val none = false

/-- The invocation once its present main-flow step has begun: STEPS and LAST_STEP count it (R162). -/
def Plan.begun (p : Plan) : Plan := { p with credit := false, steps := p.steps + 1, lastStep := p.pc }

/-- COND of a BRANCH_IF step holds (R220). -/
def CondHolds (s : State) (p : Plan) (b : List Byte) : Prop :=
  byteAt b 2 = 0 ∨ (byteAt b 2 = 1 ∧ p.invAny ≠ some true) ∨ (byteAt b 2 = 2 ∧ p.invAny = some true) ∨
  (byteAt b 2 = 3 ∧ p.passes < stepField b 6 2) ∨ (byteAt b 2 = 4 ∧ (s.rd F.GPIO_IN_PINS).testBit (byteAt b 3) = true) ∨
  (byteAt b 2 = 5 ∧ (s.rd F.GPIO_IN_PINS).testBit (byteAt b 3) = false)

/-- Transaction `id` has ended with a status. -/
def EndsWith (t : State) (id : Nat) (st : Status) : Prop := ∃ v, t.txn? id = some v ∧ v.phase = .done st

/-- The plan tiles of a list are READY and reading them again gives their checksums (R497). -/
def TilesGood (s : State) (crcs : List (Nat × Word)) (tiles : List Nat) : Prop :=
  ∀ k ∈ tiles, (s.planTile (ix 15 k)).st = .ready ∧ ∀ c ∈ crcs, c.1 = (ix 15 k).val → c.2 = (s.planTile (ix 15 k)).crc

/-- The identity that the next transaction gets is used by nothing in the state. -/
def FreshId (s : State) : Prop :=
  (∀ u ∈ s.txns, u.id < s.sys.nextId) ∧ (∀ p ∈ s.cph.queue, p.1 < s.sys.nextId) ∧
  (∀ i, .desc i ∈ s.keys.imports → i < s.sys.nextId) ∧ (∀ w ∈ s.cph.waits, ∀ i, w.txn = some i → i < s.sys.nextId) ∧
  (∀ r i c, s.acc.run = some r → r.req = .desc i c → i < s.sys.nextId)

/-- A command that is carried out at its fetch is fetched from ring `q` as the next transaction, nothing in its descriptor
or in the domains of its unit forbids it, and it has no FENCE (R67, R71, R668). -/
def CarriedOut (s : State) (q : Fin 32) (op : Nat) (d : Desc) : Prop :=
  s.mayFetch q = true ∧ descByte d 0 = op ∧ (descByte d 1).testBit 0 = false ∧ s.fetchEnd (sqUnit q.val) d = none ∧ FreshId s

/-- What an access to a register of a domain that is not ON does (R602): it is counted; the first one while VALID is 0 is
captured with its address, domain and direction; nothing else changes. -/
def AccessFaultNoted (s t : State) (addr : Nat) (write beam : Bool) : Prop :=
  t.rd F.PWR_CNT_ACCESS_FAULT_COUNT = (s.rd F.PWR_CNT_ACCESS_FAULT_COUNT + 1) % F.PWR_CNT_ACCESS_FAULT_COUNT.size ∧
  t.flag F.PWR_ACCESS_FAULT_VALID = true ∧
  (s.flag F.PWR_ACCESS_FAULT_VALID = false → t.rd F.PWR_ACCESS_FAULT_ADDR = addr % F.PWR_ACCESS_FAULT_ADDR.size ∧
    t.rd F.PWR_ACCESS_FAULT_DOMAIN = (domainOf addr).num.val ∧ t.rd F.PWR_ACCESS_FAULT_WRITE = b2n write ∧
    t.rd F.PWR_ACCESS_FAULT_BEAM = b2n beam) ∧
  (s.flag F.PWR_ACCESS_FAULT_VALID = true → RegsOnly s t [F.PWR_CNT_ACCESS_FAULT_COUNT.key 0]) ∧
  RegsOnly s t [F.PWR_CNT_ACCESS_FAULT_COUNT.key 0, F.PWR_ACCESS_FAULT_VALID.key 0, F.PWR_ACCESS_FAULT_ADDR.key 0,
    F.PWR_ACCESS_FAULT_DOMAIN.key 0, F.PWR_ACCESS_FAULT_WRITE.key 0, F.PWR_ACCESS_FAULT_BEAM.key 0]

/-- The power code that a transaction of rod `n` kept at its dispatch (R22). -/
def codeKept (s : State) (n : Fin 24) (u : Txn) : Nat := match u.snap with | some k => k.power | none => (s.rod n).code

/-- A FLUSH or ABORT of an idle rod, fetched from its ring, has ended OK with nothing in front of it: its packets still being
written are gone and no rod has changed (R166, R167). -/
def CutEnds (s t : State) (n : Fin 24) : Prop :=
  ∃ v, t.txns = [v] ∧ v.phase = .done .ok ∧ v.slot = .none ∧ v.sq = some n.val ∧ (t.fifo (ix 24 n.val)).openGroup = none ∧
    t.rods = s.rods ∧ t.rd F.HOST_SQ_STAT_FETCHED n.val = (s.rd F.HOST_SQ_STAT_FETCHED n.val + 1) % 65536

/-- What a FLUSH (`all`: every descriptor fetched earlier) or an ABORT (the dispatched ones) of rod `n` ends: the transactions
with the status, the plan, the held records, the exchange, whose reader frame ends on the air; what is only staged stays
under an ABORT, and the carrier as it is (R165 to R167). -/
def RodCut (s t : State) (n : Fin 24) (all : Bool) (st : Status) : Prop :=
  t.plan? n = none ∧ (t.rod n).held = [] ∧ (t.fifo (ix 24 n.val)).openGroup = none ∧
  (∀ u, s.txn? u.id = some u → u.id < s.sys.nextId → u.unit = n.val → u.live = true →
    (all = true ∨ u.dispatched = true → EndsWith t u.id st) ∧
    (all = false → u.dispatched = false → ∃ v, t.txn? u.id = some v ∧ v.phase = .staged)) ∧
  (∀ x, (s.rod n).air = some x →
    (∃ u, s.rodBusy? n = some u ∧ s.txn? u.id = some u ∧ u.id < s.sys.nextId ∧ x.txn = some u.id) ∨
      ((s.plan? n).isSome = true ∧ x.txn = none ∧ x.phase ≠ .ready) →
    (t.rod n).air = none ∧ (x.phase = .tx → ∀ o ∈ s.logged [.rodFrameCut n.val], o ∈ t.out))

/-- The carrier of rod `n` is left as it is, unless a ramp-down was already due (FIELD 0 of FLUSH, ABORT). -/
def CarrierLeft (s t : State) (n : Fin 24) : Prop :=
  (s.rod n).rampAfter = false → s.field.survey ≠ .settling → (t.rod n).carrier = (s.rod n).carrier

end Sys2Proof.Machine
end

