-- ==== Sys2Proof/Certificates/Slice0/Obligations.lean ====
section
/-! DEFINITION. The statements about the machine, for the provers. -/

open Sys2Proof Sys2Proof.Machine

/-- O1, derived (spec/00_scope.md (R9, R11, R12), spec/02_host_rings.md (R51), spec/08_access_sequencer.md (R398),
spec/14_power_clocks_reset.md (R602)). A 32-bit REGISTER_WRITE to an offset that holds no register changes nothing;
to a register whose domain is not ON it changes only the access-fault registers, counting the access and leaving
VALID set; to a register without an effect of its own it writes each field of the row by its access type, and to one
with an effect it has that effect. A field takes a legal value if it is read-write (a locked field while
ACC_CFG.PLOCK is 0), keeps its value on a reserved encoding, clears or sets the bits written 1 if it is W1C or W1S,
and keeps its value if it is read-only or write-only; the field with another key is unchanged. A 64-bit write is two
32-bit writes, the lower address first. -/
def Obligations.RegisterWritesFollowTheirAccessTypes : Prop :=
  (∀ (s : State) (addr : Nat) (w : Word), regMapRow? addr = none → exec (.registerWrite addr w none) s = .next s) ∧
  (∀ (s : State) (addr : Nat) (w : Word) (r : RegSpec), regMapRow? addr = some r → s.isOn (domainOf addr) = false →
    ∃ t, exec (.registerWrite addr w none) s = .next t ∧
      t.rd F.PWR_CNT_ACCESS_FAULT_COUNT = (s.rd F.PWR_CNT_ACCESS_FAULT_COUNT + 1) % F.PWR_CNT_ACCESS_FAULT_COUNT.size ∧
      t.flag F.PWR_ACCESS_FAULT_VALID = true ∧
      (s.flag F.PWR_ACCESS_FAULT_VALID = false → t.rd F.PWR_ACCESS_FAULT_ADDR = addr % F.PWR_ACCESS_FAULT_ADDR.size ∧
        t.rd F.PWR_ACCESS_FAULT_WRITE = 1 ∧ t.rd F.PWR_ACCESS_FAULT_BEAM = 0) ∧
      (s.flag F.PWR_ACCESS_FAULT_VALID = true → RegsOnly s t [F.PWR_CNT_ACCESS_FAULT_COUNT.key 0]) ∧
      RegsOnly s t [F.PWR_CNT_ACCESS_FAULT_COUNT.key 0, F.PWR_ACCESS_FAULT_VALID.key 0, F.PWR_ACCESS_FAULT_ADDR.key 0,
        F.PWR_ACCESS_FAULT_DOMAIN.key 0, F.PWR_ACCESS_FAULT_WRITE.key 0, F.PWR_ACCESS_FAULT_BEAM.key 0]) ∧
  (∀ (s : State) (addr : Nat) (w : Word) (r : RegSpec), regMapRow? addr = some r → s.isOn (domainOf addr) = true →
    (∀ f, hookOf addr = some f → exec (.registerWrite addr w none) s = .next (f w s)) ∧
    (hookOf addr = none → exec (.registerWrite addr w none) s =
      .next (forAll r.fields (fun (f : FieldSpec) (s : State) => s.writeField addr (r.index addr) w.toNat f) s))) ∧
  (∀ (s : State) (addr i v : Nat) (f : FieldSpec),
    let new := bits v f.hi f.lo
    let old := s.getField addr i f
    (s.writeField addr i v f).getField addr i f =
      (match f.acc with
       | .rw => if f.ok new then new else old
       | .rwl => if f.ok new && !s.flag F.ACC_CFG_PLOCK then new else old
       | .w1c => old ^^^ (old &&& new)
       | .w1s => old ||| new
       | .ro => old
       | .wo => old) ∧
    RegsOnly s (s.writeField addr i v f) [fldKey addr f.lo]) ∧
  (∀ (s : State) (addr : Nat) (w h : Word), ∃ u t, exec (.registerWrite addr w none) s = .next u ∧
    exec (.registerWrite (addr + 4) h none) u = .next t ∧ exec (.registerWrite addr w (some h)) s = .next t)

/-- O2, derived (spec/01_architecture.md (R41, R46, R47, R48), spec/02_host_rings.md (R103)). While CORE is ON, a read
of SYS_TB_LO returns bits 31..0 and latches bits 63..32; a read of SYS_TB_HI returns the latched bits and uses the
latch up, or with none returns the live bits and sets UNLATCHED; a write of SYS_TB_LO stages the low half, a write
of SYS_TB_HI loads both halves, clears COARSE and ends a catch-up with an earlier TIME_SYNC (the model's choice, log
entry 58). A write of 1 to CLR makes SYS_SLOT_PEAK the present number of slots in use, or sets both SYS_HOST_DROP
counts to 0; a write of 0 there changes nothing. What is read leaves through the balls of PCI Express unless the TAP
has taken them (R629). Nothing else changes. -/
def Obligations.TimebaseIsReadAndLoadedInHalves : Prop :=
  ∀ s : State, s.isOn .core = true →
    (∃ t, exec .sysTbLoRead s = .next t ∧ t.out = s.logged [.readData 0x48 (s.sys.timebase.toNat % 2 ^ 32)] ∧
      t = { s with out := t.out, sys := { s.sys with tbLatch := some (s.sys.timebase.extractLsb' 32 32) } }) ∧
    (∀ h, s.sys.tbLatch = some h → exec .sysTbHiRead s =
      .next { s with sys := { s.sys with tbLatch := none }, out := s.logged [.readData 0x4C h.toNat] }) ∧
    (s.sys.tbLatch = none → ∃ t, exec .sysTbHiRead s = .next t ∧ t.flag F.SYS_TB_STAT_UNLATCHED = true ∧
      t.out = s.logged [.readData 0x4C (s.sys.timebase.toNat / 2 ^ 32)] ∧
      RegsOnly s { t with out := s.out } [F.SYS_TB_STAT_UNLATCHED.key 0]) ∧
    (∀ w, exec (.sysTbLoWrite w) s = .next { s with sys := { s.sys with tbStaged := w } }) ∧
    (∀ w, ∃ t, exec (.sysTbHiWrite w) s = .next t ∧
      t.sys = { s.sys with timebase := BitVec.ofNat 64 (w.toNat * 2 ^ 32 + s.sys.tbStaged.toNat) } ∧
      t.rd F.SYS_TB_STAT_COARSE = 0 ∧ t.ring = { s.ring with hold := 0 } ∧
      RegsOnly s { t with sys := s.sys, ring := s.ring } [F.SYS_TB_STAT_COARSE.key 0]) ∧
    (∀ w : Word, w.toNat.testBit 31 = true → ∃ t, exec (.slotPeakClr w) s = .next t ∧
      t.rd F.SYS_SLOT_PEAK_PEAK = s.slotsUsed % 512 ∧ RegsOnly s t [F.SYS_SLOT_PEAK_PEAK.key 0]) ∧
    (∀ w : Word, w.toNat.testBit 31 = true → ∃ t, exec (.sysHostDropClr w) s = .next t ∧
      t.rd F.SYS_HOST_DROP_COMPL = 0 ∧ t.rd F.SYS_HOST_DROP_EVT = 0 ∧
      RegsOnly s t [F.SYS_HOST_DROP_COMPL.key 0, F.SYS_HOST_DROP_EVT.key 0]) ∧
    (∀ w : Word, w.toNat.testBit 31 = false → exec (.slotPeakClr w) s = .next s ∧ exec (.sysHostDropClr w) s = .next s)

/-- O3, derived (spec/00_scope.md (R3), spec/01_architecture.md (R32), spec/02_host_rings.md (R102, R103),
spec/14_power_clocks_reset.md (R578, R580, R605, R606, R608, R612), spec/16_electrical_and_package.md (R635, R654)).
After POWER_ON_RESET or RESET_N with ROLE[1:0] at `pins`, the role is the sampled one, AON is ON and every other
domain OFF, start-up stands at step 1, RST_CAUSE holds the one bit of the source, every other register field reads
its reset value, the counting board and plan memory list no byte, no transaction exists, SEQ and the timebase are 0,
no key slot is loaded, every SPI_CS_N is high, SPI_SCK, BEAM_DE and every REL_OUT are low, TDO is not driven, and
the OTP array and the commands that wait are as before. PERST_RESET sets bit 2 of RST_CAUSE; an ON HOST stays ON,
any other state of it becomes OFF, and the other domains keep theirs; every HOST register field reads its reset
value, the host part is at reset but for the events staged and the buffer writes of dispatched transactions that are
still owed (that PERST is one step after which HOST is ON again, or OFF, is the model's choice, log entry 26),
SYS_HOST_MARK is the SEQ, both SYS_HOST_DROP counts have risen, saturating, by the completions and the events that
waited, no transaction of an SQ remains but those dispatched and not ended, each marked so that its completion is
discarded, transactions of the beam stay, and the memories, keys, rods and waiting commands are as before. The pads
of HOST, and no others, are released. -/
def Obligations.FullResetsAndPerstResetTheirDomains : Prop :=
  (
    ∀ (s : State) (pins : Nat),
      let resets := fun (o : Host.Outcome State Fault Refusal) (b : Nat) => ∃ t, o = .next t ∧ t.sys.role = roleOf pins ∧ (∀ d, t.pst d = if d = .aon then .on else .off) ∧
        t.pwr.step = 1 ∧ t.pwr.halted = false ∧ t.pwr.run = none ∧
        t.rd F.RST_CAUSE_CAUSE = 2 ^ b ∧
        (∀ (f : Fld) (k : Nat), f.key k ≠ F.RST_CAUSE_CAUSE.key 0 → t.rd f k = f.dflt k) ∧
        t.boardMem = [] ∧ t.planMem = [] ∧ t.txns = [] ∧ t.sys.seq = 0 ∧ t.sys.timebase = 0 ∧
        t.rods = Vector.replicate 24 Rod.reset ∧ t.host = HostPart.reset ∧ t.keys = KeysPart.reset ∧
        t.board = BoardPart.reset ∧ t.acc = AccPart.reset ∧ t.otpMem = s.otpMem ∧ t.pending = s.pending ∧
        (∀ c : Fin 4, t.csN c = true ∧ t.sckIdle c = false ∧ t.relLevel c = false) ∧ t.beamDe = false ∧ t.tdoLevel = none
      resets (exec (.powerOnReset pins) s) 0 ∧ resets (exec (.resetN pins) s) 1) ∧ (
    ∀ s : State,
      ∃ t, exec .perstReset s = .next t ∧
        t.pst .host = (if s.pst .host = .on then .on else .off) ∧ (∀ d, d ≠ .host → t.pst d = s.pst d) ∧
        t.rd F.RST_CAUSE_CAUSE = (s.rd F.RST_CAUSE_CAUSE ||| 4) % 64 ∧
        (∀ d : Domain, t.padsHeld d = (s.padsHeld d && d != .host)) ∧
        (∀ (f : Fld) (k : Nat), 0x1000 ≤ f.key k / 32 → f.key k / 32 < 0x3000 → f.key k ≠ F.HOST_EQ_STAT_LOST.key 0 →
          t.rd f k = f.dflt k) ∧
        t.host = { HostPart.reset with staging := t.host.staging, overflow := t.host.overflow, owed := s.host.owed } ∧
        t.rd F.SYS_HOST_MARK_SEQ = s.sys.seq.toNat % F.SYS_HOST_MARK_SEQ.size ∧
        t.rd F.SYS_HOST_DROP_COMPL = min (F.SYS_HOST_DROP_COMPL.size - 1)
          (s.rd F.SYS_HOST_DROP_COMPL + s.txns.countP (fun u => u.sq.isSome && !u.live)) % F.SYS_HOST_DROP_COMPL.size ∧
        t.rd F.SYS_HOST_DROP_EVT = min (F.SYS_HOST_DROP_EVT.size - 1) (s.rd F.SYS_HOST_DROP_EVT + s.host.staging.length) %
          F.SYS_HOST_DROP_EVT.size ∧
        (∀ u ∈ t.txns, u.sq.isSome = true → u.orphan = true ∧ u.live = true ∧ u.dispatched = true) ∧
        t.txns.filter (fun u => u.sq.isNone) = s.txns.filter (fun u => u.sq.isNone) ∧
        t.boardMem = s.boardMem ∧ t.planMem = s.planMem ∧ t.keys = s.keys ∧ t.rods = s.rods ∧ t.pending = s.pending)

/-- O4, derived (spec/14_power_clocks_reset.md (R578, R580, R605, R606, R607, R673), spec/16_electrical_and_package.md
(R654)). WATCHDOG_EXPIRY while the watchdog is enabled, CORE is ON and no debug halt pauses it, and SOFTWARE_RESET
with the key 0x5A3C, leave AON ON and every other domain OFF, start-up at step 1 with AON kept, no transaction,
request or wake, no byte listed in the counting board and plan memory, no key; RST_CAUSE gains the bit of the
source, no pad is held, and every SPI_CS_N is high, SPI_SCK and every REL_OUT are low, every other field of an AON
register, the OTP array and values and the waiting commands are kept. Any other key, or a watchdog that does not
run, changes nothing. WATCHDOG_KICK with 0x4B1D in the low half sets the watchdog count to 0 and changes nothing
else; any other value changes nothing. A command not due changes nothing (log entry 1). -/
def Obligations.WarmResetsAndTheWatchdogKick : Prop :=
  (
    (∀ (s : State) (i : Instr) (b : Nat),
      ((i = .watchdogExpiry ∧ b = 3 ∧ s.flag F.RST_WDT_CFG_EN = true ∧ s.isOn .core = true ∧
          (s.flag F.RST_WDT_CFG_DBG_PAUSE && s.flag F.DBG_STAT_HALTED) = false) ∨
        (∃ w : Word, i = .softwareReset w ∧ b = 5 ∧ bits w.toNat 15 0 = 0x5A3C ∧ s.isOn .aon = true)) →
      ∃ t, exec i s = .next t ∧ (∀ d, t.pst d = if d = .aon then .on else .off) ∧ t.pwr.step = 1 ∧ t.pwr.warm = true ∧
        t.pwr.run = none ∧ t.pwr.setPower = none ∧ t.pwr.aonMicros = s.pwr.aonMicros ∧ t.pwr.wdt = 0 ∧
        t.txns = [] ∧ t.boardMem = [] ∧ t.planMem = [] ∧ t.keys = KeysPart.reset ∧ t.rods = Vector.replicate 24 Rod.reset ∧
        t.rd F.RST_CAUSE_CAUSE = (s.rd F.RST_CAUSE_CAUSE ||| 2 ^ b) % 64 ∧ t.rd F.PWR_PAD_RELEASE_HELD = 0 ∧
        (∀ (f : Fld) (k : Nat), domainOf (f.key k / 32) = .aon → f.key k ≠ F.RST_CAUSE_CAUSE.key 0 →
          f.key k ≠ F.PWR_PAD_RELEASE_HELD.key 0 → t.rd f k = s.rd f k) ∧
        (∀ c : Fin 4, t.csN c = true ∧ t.sckIdle c = false ∧ t.relLevel c = false) ∧ t.otpMem = s.otpMem ∧
        t.pending = s.pending ∧ t.otp = s.otp) ∧
    (∀ (s : State) (w : Word), s.isOn .aon = true → bits w.toNat 15 0 ≠ 0x5A3C → exec (.softwareReset w) s = .next s) ∧
    (∀ s : State, s.flag F.RST_WDT_CFG_EN = false ∨ s.isOn .core = false ∨
      (s.flag F.RST_WDT_CFG_DBG_PAUSE && s.flag F.DBG_STAT_HALTED) = true → exec .watchdogExpiry s = .next s)) ∧ (
    ∀ (s : State) (w : Word), s.isOn .aon = true →
      exec (.watchdogKick w) s =
        .next (if w.toNat % 65536 = 0x4B1D then { s with pwr := { s.pwr with wdt := 0 } } else s))

/-- O5, derived (spec/00_scope.md (R3), spec/11_record_memory.md (R493, R494), spec/14_power_clocks_reset.md (R603,
R606, R608, R609, R610, R611, R612, R669, R673), spec/15_test_and_debug.md (R624, R625)). While start-up is halted
or over STARTUP_ADVANCE changes nothing. Step 1 starts the crystal, brings CORE into transit and goes to step 2;
step 2 brings CORE ON. Step 3 after a warm reset, or once the start-up run has been made, wakes KEYS and goes to
step 4, OTP untouched; a cold start reads OTP, the array with the bits programmed since, and does the same, but in
the reserved role it halts with INT_N low and CORE OFF. Where OTP enables the start-up run its domains come ON by
positions of the wake order; it waits until every item has a result, keeps the results, sets the domains OFF and
begins CORE's wake anew, and halts when an item failed and OTP asks for it. Steps 4 to 8 bring the domains of the
step ON and the next in transit: KEYS; PLAN and BOARD; CRYPTO; HOST in HEAD and STANDALONE; RING in HEAD and
SATELLITE. Steps 9 to 11 go on when their load frame is on the wire: at step 9 the flash commands become those that
valid SFDP bytes describe, else command 0x03 with SFDP_FAIL set; at step 10 bytes without the magic set NO_IMAGE, a
header whose HCRC fails sets BAD_IMAGE, both with step 12 next, and a good header gives the tile table and the
register list; at step 11 the first tile leaves the table and unless it is referenced fills the plan tile, READY
with its LOADED bit set when its CRC-32C is the expected one, else OUT. At step 12 nothing happens while a power
request runs; register entries are applied, dropped in the host range; then a start-up run is recorded, and once its
record is committed DONE is set, start-up is over and the reset causes are reported. How the waits fall on steps,
and OTP being programmed between reads, are the model's choices (log entries 1, 27, 28). -/
def Obligations.StartupGoesThroughItsSteps : Prop :=
  (
    (∀ (s : State) (inp : StartInput), s.pwr.halted = true ∨ s.pwr.step = 0 ∨ 12 < s.pwr.step →
      exec (.startupAdvance inp) s = .next s) ∧
    (∀ (s : State) (inp : StartInput), s.pwr.halted = false → s.pwr.step = 1 → exec (.startupAdvance inp) s =
      .next { s with pwr := { s.pwr with xtal27 := true, step := 2, st := vset s.pwr.st Domain.core.num .transit } }) ∧
    (∀ (s : State) (inp : StartInput), s.pwr.halted = false → s.pwr.step = 2 → s.pst .core = .transit →
      ∃ t, exec (.startupAdvance inp) s = .next t ∧ t = (s.comeOn .core .off).goStep 3 ∧ t.pwr.step = 3 ∧
        ∀ d, t.pst d = if d = .core then .on else s.pst d) ∧
    (∀ (s : State) (inp : StartInput), s.pwr.halted = false → s.pwr.step = 3 →
      (s.test.bootOn = false → s.pwr.warm = true ∨ (s.test.bootDone = true ∧ s.sys.role ≠ .reserved) →
        exec (.startupAdvance inp) s = .next { s with pwr := { s.pwr with step := 4, st := vset s.pwr.st Domain.keys.num .transit } }) ∧
      (s.test.bootOn = false → s.pwr.warm = false → s.test.bootDone = true → s.sys.role = .reserved → ∃ t, exec (.startupAdvance inp) s = .next t ∧
        t.pwr.halted = true ∧ t.pwr.haltInt = true ∧ t.pst .core = .off ∧ t.otp = s.otp) ∧
      (s.test.bootOn = false → s.pwr.warm = false → s.test.bootDone = false →
        ((s.otpMem.burnt inp.otp).bistStartup = false ∨ s.sys.role = .reserved → ∃ t, exec (.startupAdvance inp) s = .next t ∧
          t.otp = s.otpMem.burnt inp.otp ∧ t.otpMem = s.otpMem.burnt inp.otp ∧
          t.rd F.CLK_CFG_AON_SRC = b2n (s.otpMem.burnt inp.otp).aonSrc ∧
          (s.sys.role ≠ .reserved → t.pwr.step = 4 ∧ t.pwr.halted = false ∧
            ∀ d, t.pst d = if d = .keys then .transit else s.pst d) ∧
          (s.sys.role = .reserved → t.pwr.halted = true ∧ t.pwr.haltInt = true ∧
            ∀ d, t.pst d = if d = .core then .off else s.pst d)) ∧
        ((s.otpMem.burnt inp.otp).bistStartup = true → s.sys.role ≠ .reserved → ∃ t, exec (.startupAdvance inp) s = .next t ∧
          t.otp = s.otpMem.burnt inp.otp ∧ t.test.bootOn = true ∧ t.test.bootWake = bootPositions s.sys.role ∧ t.pwr.step = 3 ∧
          ∀ d, t.pst d = if d ∈ (bootPositions s.sys.role).headD [] then .transit else s.pst d)) ∧
      (s.test.bootOn = true →
        (∀ p rest, s.test.bootWake = p :: rest → ∃ t, exec (.startupAdvance inp) s = .next t ∧ t.test.bootWake = rest ∧
          t.test.bootOn = true ∧ t.pwr.step = 3 ∧
          ∀ d, t.pst d = if d ∈ rest.headD [] then .transit else if d ∈ p then .on else s.pst d) ∧
        (s.test.bootWake = [] → s.bootRunOf inp.results = none → exec (.startupAdvance inp) s = .next s) ∧
        (∀ b, s.test.bootWake = [] → s.bootRunOf inp.results = some b → ∃ t, exec (.startupAdvance inp) s = .next t ∧
          t.test.bootRun = some b ∧ t.test.bootDone = true ∧ t.test.bootOn = false ∧ t.otp = s.otp ∧ t.pwr.step = 2 ∧
          t.pwr.halted = (b.anyFail && s.otp.bistHalt) ∧
          ∀ d, t.pst d = if d = .aon then s.pst .aon else if d = .core ∧ (b.anyFail && s.otp.bistHalt) = false then .transit
            else .off))) ∧
    (∀ (s : State) (inp : StartInput), s.pwr.halted = false →
      (s.pwr.step = 4 → s.pst .keys = .transit → ∃ t, exec (.startupAdvance inp) s = .next t ∧ t.pwr.step = 5 ∧
        t = (((s.comeOn .keys .off).setPst .plan .transit).setPst .board .transit).goStep 5 ∧
        ∀ d, t.pst d = if d = .keys then .on else if d = .plan ∨ d = .board then .transit else s.pst d) ∧
      (s.pwr.step = 5 → s.pst .plan = .transit → s.pst .board = .transit → ∃ t, exec (.startupAdvance inp) s = .next t ∧
        t.pwr.step = 6 ∧ t = (((s.comeOn .plan .off).comeOn .board .off).setPst .crypto .transit).goStep 6 ∧
        ∀ d, t.pst d = if d = .plan ∨ d = .board then .on else if d = .crypto then .transit else s.pst d) ∧
      (s.pwr.step = 6 → s.pst .crypto = .transit → ∃ t, exec (.startupAdvance inp) s = .next t ∧ t.pwr.step = 7 ∧
        ∀ d, t.pst d = if d = .crypto then .on
          else if d = .host ∧ (s.sys.role = .head ∨ s.sys.role = .standalone) then .transit else s.pst d) ∧
      (s.pwr.step = 7 → ∃ t, exec (.startupAdvance inp) s = .next t ∧ t.pwr.step = 8 ∧
        ∀ d, t.pst d = if d = .host ∧ s.pst .host = .transit then .on
          else if d = .ring ∧ (s.sys.role = .head ∨ s.sys.role = .satellite) then .transit else s.pst d) ∧
      (s.pwr.step = 8 → ∃ t, exec (.startupAdvance inp) s = .next t ∧ t.pwr.step = 9 ∧
        ∀ d, t.pst d = if d = .ring ∧ s.pst .ring = .transit then .on else s.pst d))) ∧
  (
    (∀ (s : State) (inp : StartInput), s.pwr.halted = false → s.serial.load = false →
      s.pwr.step = 9 ∨ s.pwr.step = 10 ∨ (s.pwr.step = 11 ∧ s.pwr.imageTiles ≠ []) → exec (.startupAdvance inp) s = .next s) ∧
    (∀ (s : State) (inp : StartInput), s.pwr.halted = false → s.serial.load = true → s.pwr.step = 9 →
      ∃ t, exec (.startupAdvance inp) s = .next t ∧
      t.rd F.SPI_CNT_FRAME_COUNT = (s.rd F.SPI_CNT_FRAME_COUNT + 1) % F.SPI_CNT_FRAME_COUNT.size ∧
      t.pwr = { s.pwr with step := 10, flash := (Flash.ofSfdp inp.sfdp).getD Flash.plain } ∧
      t.flag F.SYS_BOOT_STAT_SFDP_FAIL = (if (Flash.ofSfdp inp.sfdp).isNone then true else s.flag F.SYS_BOOT_STAT_SFDP_FAIL)) ∧
    (∀ (s : State) (inp : StartInput), s.pwr.halted = false → s.serial.load = true → s.pwr.step = 10 →
      (leNat (inp.image.take 4) ≠ 0x4B544C32 → ∃ t, exec (.startupAdvance inp) s = .next t ∧
        t.flag F.SYS_BOOT_STAT_NO_IMAGE = true ∧ t.pwr = { s.pwr with step := 12 }) ∧
      (leNat (inp.image.take 4) = 0x4B544C32 → imageGood inp.image = false → ∃ t, exec (.startupAdvance inp) s = .next t ∧
        t.flag F.SYS_BOOT_STAT_BAD_IMAGE = true ∧ t.pwr = { s.pwr with step := 12 }) ∧
      (leNat (inp.image.take 4) = 0x4B544C32 → imageGood inp.image = true → ∃ t, exec (.startupAdvance inp) s = .next t ∧
        t.pwr = { s.pwr with
          imageTiles := (List.range (byteAt inp.image 4)).map (imageTile inp.image),
          imageRegs := (List.range (leNat ((inp.image.drop 6).take 2))).map
            (imageReg inp.image (leNat ((inp.image.drop 8).take 4))),
          step := if byteAt inp.image 4 = 0 then 12 else 11 } ∧
        t.rd F.SPI_CNT_FRAME_COUNT = (s.rd F.SPI_CNT_FRAME_COUNT + 1) % F.SPI_CNT_FRAME_COUNT.size)) ∧
    (∀ (s : State) (inp : StartInput), s.pwr.halted = false → s.pwr.step = 11 →
      (s.pwr.imageTiles = [] → exec (.startupAdvance inp) s = .next { s with pwr := { s.pwr with step := 12 } }) ∧
      (∀ k off crc rest, s.serial.load = true → s.pwr.imageTiles = (k, off, crc) :: rest →
        let onward := fun (u : State) =>
          ((u.modPwr (fun p => { p with imageTiles := rest })).goStep (if rest = [] then 12 else 11)).serialNext
        let m := Memory.writeBytes s.planMem (tileBytes * (ix 15 k).val) ((padTo tileBytes inp.tile).take tileBytes)
        ∃ u, exec (.startupAdvance inp) s = .next (onward u) ∧
        (s.referenced (ix 15 k) = true → u = s.loadOver inp.tile) ∧
        (s.referenced (ix 15 k) = false → crc32c (Memory.tile m (ix 15 k).val) = crc →
          u.planMem = m ∧ u.planTile (ix 15 k) = ⟨.ready, crc⟩ ∧ (u.rd F.SYS_BOOT_STAT_LOADED).testBit (ix 15 k).val = true) ∧
        (s.referenced (ix 15 k) = false → crc32c (Memory.tile m (ix 15 k).val) ≠ crc → ∃ v : State, u = v.settleDoom ∧
          v.planMem = m ∧ (v.planTile (ix 15 k)).st = .out ∧ v.rd F.SYS_BOOT_STAT_LOADED = s.rd F.SYS_BOOT_STAT_LOADED))) ∧
    (∀ (s : State) (inp : StartInput), s.pwr.halted = false → s.pwr.step = 12 →
      (s.pwr.run.isSome = true → exec (.startupAdvance inp) s = .next s) ∧
      (s.pwr.run = none → s.pwr.imageRegs = [] →
        (∀ b, s.test.bootRun = some b → ∃ t, exec (.startupAdvance inp) s = .next t ∧ t.test.bootRun = none ∧ t.pwr = s.pwr) ∧
        (s.test.bootRun = none → s.bistOnWay = true → exec (.startupAdvance inp) s = .next s) ∧
        (s.test.bootRun = none → s.bistOnWay = false → ∃ t, exec (.startupAdvance inp) s = .next t ∧
          t.flag F.SYS_BOOT_STAT_DONE = true ∧ t.pwr = { s.pwr with step := 0, warm := false, unreported := 0 })) ∧
      (∀ a v rest, s.pwr.run = none → s.pwr.imageRegs = (a, v) :: rest →
        let s1 : State := { s with pwr := { s.pwr with imageRegs := rest } }
        let u := if 0x1000 ≤ a ∧ a < 0x3000 then s1 else s1.regWrite a (BitVec.ofNat 32 v) false
        (u.pwr.run.isSome = true ∨ u.pwr.step ≠ 12 → exec (.startupAdvance inp) s = .next u) ∧
        (u.pwr.halted = false → u.pwr.step = 12 → u.pwr.imageRegs = rest →
          exec (.startupAdvance inp) s = exec (.startupAdvance inp) u))))

/-- O6, derived (spec/02_host_rings.md (R61, R62, R63, R64, R93, R104, R105)). While HOST is ON, a tail doorbell of an
enabled SQ that leaves at most the ring's size outstanding sets the doorbell count and nothing else; beyond that it
sets DB_ERR and HOST_ERR bit 2; of a disabled ring it sets HOST_ERR bit 3; both rejections commit HOST_FAULT and
leave the count. A head doorbell of an enabled device-written ring between the old head and the producer count (even
for the EQ) sets the count and drops the unsignalled entries it consumes; otherwise it is rejected the same way. -/
def Obligations.DoorbellsAreTakenInRangeOrRejected : Prop :=
  (∀ (s : State) (q : Fin 32) (w : Word), s.isOn .host = true →
    let tail := w.toNat % 65536
    let out := (tail + 65536 - s.rd F.HOST_SQ_STAT_FETCHED q.val) % 65536
    (s.flag F.HOST_SQ_CFG_EN q.val = true → out ≤ 2 ^ s.rd F.HOST_SQ_CFG_SIZE q.val →
      exec (.sqTailDoorbell q w) s = .next (s.wr F.DOORBELL_SQ_COUNT q.val tail)) ∧
    (s.flag F.HOST_SQ_CFG_EN q.val = true → 2 ^ s.rd F.HOST_SQ_CFG_SIZE q.val < out →
      ∃ u, HostErrNoted (s.wr F.HOST_SQ_STAT_DB_ERR q.val 1) u 2 0 q.val (0x1000 + 8 * q.val) ∧
        exec (.sqTailDoorbell q w) s = .next (u.raise .hostFault unitSys [0#8, BitVec.ofNat 8 q.val, 2#8])) ∧
    (s.flag F.HOST_SQ_CFG_EN q.val = false →
      ∃ u, HostErrNoted s u 3 0 q.val (0x1000 + 8 * q.val) ∧
        exec (.sqTailDoorbell q w) s = .next (u.raise .hostFault unitSys [0#8, BitVec.ofNat 8 q.val, 3#8]))) ∧
  (∀ (s : State) (r : DevRing) (w : Word), s.isOn .host = true →
    let head := w.toNat % 65536
    let prev := s.rd F.DOORBELL_CQ_COUNT r.idx.val
    let prod := s.rd F.HOST_CQ_STAT_WRITTEN r.idx.val
    let ok := (head + 65536 - prev) % 65536 ≤ (prod + 65536 - prev) % 65536 ∧ ¬(r = .eq ∧ head % 2 = 1)
    (s.flag F.HOST_CQ_CFG_EN r.idx.val = true → ok →
      ∃ t, exec (.headDoorbell r w) s = .next t ∧ t.rd F.DOORBELL_CQ_COUNT r.idx.val = head ∧
        vget t.host.unsig r.idx = (vget s.host.unsig r.idx).filter
          (fun e => decide ((prod + 65536 - e.1) % 65536 < (prod + 65536 - head) % 65536)) ∧
        (∀ j, j ≠ r.idx → vget t.host.unsig j = vget s.host.unsig j) ∧
        t.host = { s.host with unsig := t.host.unsig } ∧
        RegsOnly s { t with host := s.host } [F.DOORBELL_CQ_COUNT.key r.idx.val]) ∧
    (s.flag F.HOST_CQ_CFG_EN r.idx.val = true → ¬ok →
      ∃ u, HostErrNoted (s.wr F.HOST_CQ_STAT_DB_ERR r.idx.val 1) u 2 r.kindNo.1 r.kindNo.2 (0x1100 + 8 * r.idx.val) ∧
        exec (.headDoorbell r w) s =
          .next (u.raise .hostFault unitSys [BitVec.ofNat 8 r.kindNo.1, BitVec.ofNat 8 r.kindNo.2, 2#8])) ∧
    (s.flag F.HOST_CQ_CFG_EN r.idx.val = false →
      ∃ u, HostErrNoted s u 3 r.kindNo.1 r.kindNo.2 (0x1100 + 8 * r.idx.val) ∧
        exec (.headDoorbell r w) s =
          .next (u.raise .hostFault unitSys [BitVec.ofNat 8 r.kindNo.1, BitVec.ofNat 8 r.kindNo.2, 3#8])))

/-- O7, derived (spec/02_host_rings.md (R62, R90, R97, R98, R100, R101, R104)). While HOST is ON, of an SQ and of a
device-written ring alike: a write of BASE_LO or BASE_HI of a disabled ring sets it; one that would change it while
enabled is dropped and sets HOST_ERR bit 4; one that repeats it changes nothing. A write of HOST_SQ_CFG with EN = 1
to a disabled SQ whose CQ is enabled, SIZE in 4 to 12, takes SIZE, CQ, STOP and EN and brings FETCHED, the doorbell,
DONE and FAULT to 0 (FAULT: the model's choice, log entry 60); with its CQ disabled EN stays 0 and HOST_ERR bit 5 is
set. A write with EN = 0 to an enabled SQ disables it at once when it is idle, otherwise marks it, and
SQ_TEARDOWN_DONE disables a marked SQ once it is idle and otherwise changes nothing; that a running plan does not
count there is the model's choice (log entry 61). A write of the CFG of a disabled CQ, RQ or EQ takes SIZE in 4 to
12, VECTOR, IRQ_EN and EN, and with EN = 1 brings WRITTEN, LOST and the doorbell to 0 and leaves no entry
unsignalled; of an enabled one it takes IRQ_EN, keeps SIZE and VECTOR, sets HOST_ERR bit 4 when it would change
them, and with EN = 0 disables the ring, but a CQ that an enabled SQ names stays enabled and HOST_ERR bit 5 is set.
A write of MOD takes MOD_CNT, and MOD_TIME unless it is 0, while the ring is disabled; while it is enabled one that
would change them is dropped and sets HOST_ERR bit 4. -/
def Obligations.RingsAreConfiguredOnlyWhileDisabled : Prop :=
  ∀ (s : State) (q : Fin 32) (w : Word), s.isOn .host = true →
    let a := 0x2100 + 0x20 * q.val
    let v := w.toNat
    let locked := fun (en : Bool) (addr : Nat) (f : Fld) (k new kind ring : Nat) =>
      (new = s.rd f k → exec (.hostRingCfgWrite addr w) s = .next s) ∧
      (new ≠ s.rd f k → en = false → exec (.hostRingCfgWrite addr w) s = .next (s.wr f k new)) ∧
      (new ≠ s.rd f k → en = true → ∃ t, exec (.hostRingCfgWrite addr w) s = .next t ∧ HostErrNoted s t 4 kind ring addr)
    locked (s.flag F.HOST_SQ_CFG_EN q.val) a F.HOST_SQ_BASE_LO_BASE q.val (v / 64) 0 q.val ∧
    locked (s.flag F.HOST_SQ_CFG_EN q.val) (a + 4) F.HOST_SQ_BASE_HI_BASE q.val v 0 q.val ∧
    (∀ r : DevRing,
      let k := r.idx.val
      let c := 0x2500 + 0x20 * k
      locked (s.flag F.HOST_CQ_CFG_EN k) c F.HOST_CQ_BASE_LO_BASE k (v / 64) r.kindNo.1 r.kindNo.2 ∧
      locked (s.flag F.HOST_CQ_CFG_EN k) (c + 4) F.HOST_CQ_BASE_HI_BASE k v r.kindNo.1 r.kindNo.2 ∧
      (s.flag F.HOST_CQ_CFG_EN k = false → ∃ t, exec (.hostRingCfgWrite (c + 8) w) s = .next t ∧
        t.rd F.HOST_CQ_CFG_SIZE k = (if 4 ≤ v % 16 ∧ v % 16 ≤ 12 then v % 16 else s.rd F.HOST_CQ_CFG_SIZE k) % 16 ∧
        t.rd F.HOST_CQ_CFG_VECTOR k = v / 16 % 32 ∧ t.rd F.HOST_CQ_CFG_IRQ_EN k = v / 2 ^ 17 % 2 ∧
        (v.testBit 16 = true → t.rd F.HOST_CQ_CFG_EN k = 1 ∧ t.rd F.HOST_CQ_STAT_WRITTEN k = 0 ∧
          t.rd F.DOORBELL_CQ_COUNT k = 0 ∧ t.rd F.HOST_CQ_STAT_LOST k = 0 ∧ vget t.host.unsig r.idx = [] ∧
          RegsOnly s { t with host := s.host } [F.HOST_CQ_CFG_SIZE.key k, F.HOST_CQ_CFG_VECTOR.key k, F.HOST_CQ_CFG_IRQ_EN.key k,
            F.HOST_CQ_CFG_EN.key k, F.HOST_CQ_STAT_WRITTEN.key k, F.DOORBELL_CQ_COUNT.key k, F.HOST_CQ_STAT_LOST.key k]) ∧
        (v.testBit 16 = false → RegsOnly s t [F.HOST_CQ_CFG_SIZE.key k, F.HOST_CQ_CFG_VECTOR.key k,
          F.HOST_CQ_CFG_IRQ_EN.key k])) ∧
      (s.flag F.HOST_CQ_CFG_EN k = true → ∃ t, exec (.hostRingCfgWrite (c + 8) w) s = .next t ∧
        t.rd F.HOST_CQ_CFG_IRQ_EN k = v / 2 ^ 17 % 2 ∧
        t.rd F.HOST_CQ_CFG_SIZE k = s.rd F.HOST_CQ_CFG_SIZE k ∧ t.rd F.HOST_CQ_CFG_VECTOR k = s.rd F.HOST_CQ_CFG_VECTOR k ∧
        ((4 ≤ v % 16 ∧ v % 16 ≤ 12 ∧ v % 16 ≠ s.rd F.HOST_CQ_CFG_SIZE k) ∨ v / 16 % 32 ≠ s.rd F.HOST_CQ_CFG_VECTOR k →
          t.rd (hostErrBit 4) = 1) ∧
        let named := ∃ m : Fin 16, r = .cq m ∧ ∃ i : Fin 32, s.flag F.HOST_SQ_CFG_EN i.val = true ∧
          s.rd F.HOST_SQ_CFG_CQ i.val = m.val
        (v.testBit 16 = false → ¬named → t.rd F.HOST_CQ_CFG_EN k = 0) ∧
        (v.testBit 16 = false → named → t.flag F.HOST_CQ_CFG_EN k = true ∧ t.rd (hostErrBit 5) = 1) ∧
        (v.testBit 16 = true → t.flag F.HOST_CQ_CFG_EN k = true)) ∧
      (s.flag F.HOST_CQ_CFG_EN k = false → ∃ t, exec (.hostRingCfgWrite (c + 12) w) s = .next t ∧
        t.rd F.HOST_CQ_MOD_MOD_CNT k = v % 256 ∧
        t.rd F.HOST_CQ_MOD_MOD_TIME k = (if v / 2 ^ 16 % 1024 = 0 then s.rd F.HOST_CQ_MOD_MOD_TIME k else v / 2 ^ 16 % 1024) ∧
        RegsOnly s t [F.HOST_CQ_MOD_MOD_CNT.key k, F.HOST_CQ_MOD_MOD_TIME.key k]) ∧
      (s.flag F.HOST_CQ_CFG_EN k = true →
        v % 256 ≠ s.rd F.HOST_CQ_MOD_MOD_CNT k ∨ (v / 2 ^ 16 % 1024 ≠ 0 ∧ v / 2 ^ 16 % 1024 ≠ s.rd F.HOST_CQ_MOD_MOD_TIME k) →
        ∃ t, exec (.hostRingCfgWrite (c + 12) w) s = .next t ∧ HostErrNoted s t 4 r.kindNo.1 r.kindNo.2 (c + 12))) ∧
    (s.flag F.HOST_SQ_CFG_EN q.val = false → v.testBit 16 = true → 4 ≤ v % 16 → v % 16 ≤ 12 →
      s.flag F.HOST_CQ_CFG_EN (v / 256 % 16) = true →
      ∃ t, exec (.hostRingCfgWrite (a + 8) w) s = .next t ∧
        t.rd F.HOST_SQ_CFG_SIZE q.val = v % 16 ∧ t.rd F.HOST_SQ_CFG_CQ q.val = v / 256 % 16 ∧
        t.rd F.HOST_SQ_CFG_STOP q.val = v / 2 ^ 17 % 2 ∧ t.rd F.HOST_SQ_CFG_EN q.val = 1 ∧
        t.rd F.HOST_SQ_STAT_FETCHED q.val = 0 ∧ t.rd F.DOORBELL_SQ_COUNT q.val = 0 ∧ t.rd F.HOST_SQ_DONE_DONE q.val = 0 ∧
        t.rd F.HOST_SQ_STAT_FAULT q.val = 0 ∧
        RegsOnly s { t with host := s.host } [F.HOST_SQ_CFG_SIZE.key q.val, F.HOST_SQ_CFG_CQ.key q.val,
          F.HOST_SQ_CFG_STOP.key q.val, F.HOST_SQ_CFG_EN.key q.val, F.HOST_SQ_STAT_FETCHED.key q.val,
          F.DOORBELL_SQ_COUNT.key q.val, F.HOST_SQ_DONE_DONE.key q.val, F.HOST_SQ_STAT_FAULT.key q.val]) ∧
    (s.flag F.HOST_SQ_CFG_EN q.val = false → v.testBit 16 = true →
      s.flag F.HOST_CQ_CFG_EN (v / 256 % 16) = false →
      ∃ t, exec (.hostRingCfgWrite (a + 8) w) s = .next t ∧ t.rd F.HOST_SQ_CFG_EN q.val = s.rd F.HOST_SQ_CFG_EN q.val ∧
        t.rd (hostErrBit 5) = 1) ∧
    (s.flag F.HOST_SQ_CFG_EN q.val = true → v.testBit 16 = false →
      ∃ t, exec (.hostRingCfgWrite (a + 8) w) s = .next t ∧
        (if s.txns.all (fun u => u.sq != some q.val) then t.rd F.HOST_SQ_CFG_EN q.val = 0 ∧ vget t.host.tearing q = false
         else t.rd F.HOST_SQ_CFG_EN q.val = s.rd F.HOST_SQ_CFG_EN q.val ∧ vget t.host.tearing q = true)) ∧
    exec (.sqTeardownDone q) s =
      .next (if vget s.host.tearing q = true ∧ s.txns.all (fun u => u.sq != some q.val) = true then
        let u := s.wr F.HOST_SQ_CFG_EN q.val 0
        { u with host := { u.host with tearing := vset u.host.tearing q false } }
      else s)

/-- O8, derived (spec/00_scope.md (R3, R4), spec/02_host_rings.md (R91, R92, R93, R95, R102),
spec/14_power_clocks_reset.md (R581, R601, R609)). PCIE_BME_D3_CHANGE while HOST is ON takes Bus Master Enable,
D3hot, and (the model's choice, log entry 6: they have no row of their own) MSI-X Enable and the Function Mask, and
changes besides them only pending bits, waiting buffer writes and what leaves; while memory requests may not be
issued nothing leaves; when they may, the buffer writes that waited are posted in their order, and while messages
may go too the pending bits of unmasked vectors are sent and cleared. RING_MOD_TIME_EXPIRY with IRQ_EN and an
unsignalled entry sets the vector's HOST_INT_STAT bit, leaves no entry unsignalled and sends the message or sets its
pending bit; otherwise it changes nothing. PCIE_LINK_CHANGE sets SPEED and WIDTH when HOST is ON with free pads in a
role other than SATELLITE and both are legal and not 0, and both become 0 otherwise. A command not due changes
nothing (log entry 1). -/
def Obligations.BusMasteringAndTheLinkGateTheHost : Prop :=
  (∀ (s : State) (bme d3 on mask : Bool),
    (s.isOn .host = false → exec (.pcieBmeD3Change bme d3 on mask) s = .next s) ∧
    (s.isOn .host = true → ∃ t, exec (.pcieBmeD3Change bme d3 on mask) s = .next t ∧
      t = { s with out := t.out, host := { s.host with bme := bme, d3 := d3, msixEnable := on, msixMask := mask,
                                                       pba := t.host.pba, owed := t.host.owed } } ∧
      ((bme = false ∨ d3 = true) → t.out = s.out ∧ t.host.owed = s.host.owed ∧ t.host.pba = s.host.pba) ∧
      ((on = false ∨ mask = true) → t.host.pba = s.host.pba) ∧
      (bme = true → d3 = false → t.host.owed = [] ∧
        ((on = false ∨ mask = true) → t.out = s.logged (s.host.owed.map (fun w => Output.hostWrite w.1 w.2)).reverse)) ∧
      (∀ v < 32, bme = true → d3 = false → on = true → mask = false →
        s.flag F.MSIX_CTRL_MASK v = false → t.host.pba.getLsbD v = false ∧
        (s.host.pba.getLsbD v = true → s.test.takesBalls = false → .msi v ∈ t.out)))) ∧
  (∀ (s : State) (r : DevRing), s.isOn .host = true →
    (s.flag F.HOST_CQ_CFG_IRQ_EN r.idx.val = true → vget s.host.unsig r.idx ≠ [] →
      ∃ t, exec (.ringModTimeExpiry r) s = .next t ∧ vget t.host.unsig r.idx = [] ∧
        t.rd F.HOST_INT_STAT_VEC =
          (s.rd F.HOST_INT_STAT_VEC ||| 2 ^ s.rd F.HOST_CQ_CFG_VECTOR r.idx.val) % F.HOST_INT_STAT_VEC.size ∧
        RegsOnly s { t with out := s.out, host := s.host } [F.HOST_INT_STAT_VEC.key 0] ∧
        ((t.out = s.logged [.msi (s.rd F.HOST_CQ_CFG_VECTOR r.idx.val)] ∧ t.host.pba = s.host.pba) ∨
          (t.out = s.out ∧ t.host.pba = s.host.pba ||| 1#32 <<< s.rd F.HOST_CQ_CFG_VECTOR r.idx.val))) ∧
    (s.flag F.HOST_CQ_CFG_IRQ_EN r.idx.val = false ∨ vget s.host.unsig r.idx = [] →
      exec (.ringModTimeExpiry r) s = .next s)) ∧
  (∀ (s : State) (speed width : Nat), speed ≤ 3 → width ≤ 2 →
    exec (.pcieLinkChange speed width) s = .next { s with host := { s.host with
      speed := if speed ≠ 0 ∧ width ≠ 0 ∧ s.isOn .host = true ∧ s.padsHeld .host = false ∧ s.sys.role ≠ .satellite then speed else 0,
      width := if speed ≠ 0 ∧ width ≠ 0 ∧ s.isOn .host = true ∧ s.padsHeld .host = false ∧ s.sys.role ≠ .satellite then width else 0 } })

/-- O9, derived (spec/01_architecture.md (R28, R29, R30, R31), spec/02_host_rings.md (R61, R69, R104, R105)).
DESCRIPTOR_FETCH of a ring that may be fetched from, of a descriptor not carried out at fetch, with its slot limits
and turn met, adds 1 to FETCHED and puts the descriptor, staged, behind all others; otherwise it changes nothing
(log entry 1). FETCH_FAIL of such a ring sets FAULT and HOST_ERR bit 0 with the descriptor's address and commits
HOST_FAULT, leaving the transactions; otherwise it changes nothing. A ring may be fetched from only while HOST, CORE
and BOARD are ON, start-up is over, the role is not SATELLITE, Bus Master Enable is 1, D3hot is not, and the ring is
enabled, not stopped, not being disabled, without a fault, and its doorbell differs from FETCHED; that fetching
waits for the end of start-up (log entry 27) and that the rotation passes over a ring that must not fetch (log entry
12) are the model's choices. -/
def Obligations.DescriptorsAreFetchedInOrder : Prop :=
  ∀ (s : State) (q : Fin 32) (d : Desc),
    (s.mayFetch q = true → s.isOn .host = true ∧ s.isOn .core = true ∧ s.isOn .board = true ∧ s.host.bme = true ∧
      s.host.d3 = false ∧ s.sys.role ≠ .satellite ∧ s.pwr.step = 0 ∧ s.flag F.HOST_SQ_CFG_EN q.val = true ∧
      s.flag F.HOST_SQ_CFG_STOP q.val = false ∧ vget s.host.tearing q = false ∧ s.flag F.HOST_SQ_STAT_FAULT q.val = false ∧
      s.rd F.HOST_SQ_STAT_FETCHED q.val ≠ s.rd F.DOORBELL_SQ_COUNT q.val) ∧
    (s.mayFetch q = true → atFetch (sqUnit q.val) (descByte d 0) = false → s.slotFor q.val = true →
      (s.needsGeneral q.val = false ∨ s.generalTurn q.val = true) →
      ∃ t, exec (.descriptorFetch q d) s = .next t ∧
        t.txns = s.txns ++ [newTxn s.sys.nextId (sqUnit q.val) (some q.val) d .staged []] ∧
        t.rd F.HOST_SQ_STAT_FETCHED q.val = (s.rd F.HOST_SQ_STAT_FETCHED q.val + 1) % 65536 ∧
        t.sys = { s.sys with nextId := s.sys.nextId + 1, lastGeneral := t.sys.lastGeneral } ∧
        (s.needsGeneral q.val = false → t.sys.lastGeneral = s.sys.lastGeneral) ∧
        RegsOnly s { t with txns := s.txns, sys := s.sys } [F.HOST_SQ_STAT_FETCHED.key q.val]) ∧
    (s.mayFetch q = false ∨ atFetch (sqUnit q.val) (descByte d 0) = true ∨ s.slotFor q.val = false ∨
        (s.needsGeneral q.val = true ∧ s.generalTurn q.val = false) → exec (.descriptorFetch q d) s = .next s) ∧
    (s.mayFetch q = true → ∃ u, HostErrNoted (s.wr F.HOST_SQ_STAT_FAULT q.val 1) u 0 0 q.val (s.sqAddr q.val) ∧
      exec (.fetchFail q) s = .next (u.raise .hostFault unitSys [0#8, BitVec.ofNat 8 q.val, 0#8])) ∧
    (s.mayFetch q = false → exec (.fetchFail q) s = .next s)

/-- O10, derived (spec/01_architecture.md (R27, R28, R29, R48), spec/02_host_rings.md (R66, R67, R668),
spec/04_field_sharing.md (R209), spec/09_uhf_radio.md (R407), spec/10_key_store_and_cipher.md (R450)).
DESCRIPTOR_DISPATCH with a free slot of a staged descriptor that no FENCE holds, while CORE and BOARD are ON, in a
rod descriptor from the beam that must borrow with its turn in the rotation, answers a next state in which the
descriptor holds that slot and its time of dispatch and waits in its unit's queue, or has ended with the first
outcome due in this order: BAD_DESCRIPTOR; DOMAIN_OFF with a domain of its unit not ON; ABORTED in thermal shutdown
for a rod, the UHF radio or CALIBRATE; LATE with its NLT passed, but not for an OPEN in shutdown; REGULATORY at the
radio; LENGTH_ERROR of a cipher request or a RANDOM. The other descriptors, the waiting commands and the memories
are as before. A NOP with no outcome due changes nothing but its own entry and the peak of the slots. Without a
staged descriptor, a free slot, its turn or leave nothing changes. NOP ends a queued NOP of its ring OK and changes
nothing else; without one nothing changes. That a command not due changes nothing (log entry 1), and that an OPEN in
shutdown is not tested for LATE (log entry 16), are the model's choices. -/
def Obligations.DispatchTakesASlotAndAppliesTheOutcomesInOrder : Prop :=
  (∀ (s : State) (q : Fin 32) (u : Txn) (k : SlotKind), s.nextStaged q.val = some u → s.txn? u.id = some u →
    s.freeSlot u.unit = some k → s.isOn .core = true → s.isOn .board = true → s.fenced u = false →
    let due : Option Status :=
      if s.descBad u.unit u.desc = true then some .badDescriptor
      else if (descDomains u.unit u.op).all s.isOn = false then some .domainOff
      else if s.field.shutdown = true ∧ u.op ≠ 0 ∧ (u.unit < 24 ∨ (u.unit = 24 ∧ u.op = 2) ∨ u.unit = 25) then some .aborted
      else if s.nltPassed u.desc = true ∧ ¬(s.field.shutdown = true ∧ u.unit = 24 ∧ u.op = 1) then some .late
      else if u.unit = 25 ∧ s.uhfRegulatory u.desc = true then some .regulatory
      else if u.unit = 26 ∧ u.op = 1 ∧ cipherLengthBad u.desc = true then some .lengthError
      else if u.unit = 26 ∧ u.op = 2 ∧ randomLengthBad u.desc = true then some .lengthError
      else none
    (k ≠ .borrowed ∨ u.sq ≠ none ∨ s.generalTurn q.val = true →
    (∃ t v, exec (.descriptorDispatch q) s = .next t ∧ t.txn? u.id = some v ∧ v.slot = k ∧ v.since = s.pwr.aonMicros ∧
      v.desc = u.desc ∧ v.unit = u.unit ∧ v.sq = u.sq ∧
      v.phase = (match due with | some st => .done st | none => .queued) ∧
      t.txns.filter (fun w => w.id != u.id) = s.txns.filter (fun w => w.id != u.id) ∧
      t.pending = s.pending ∧ t.boardMem = s.boardMem ∧ t.planMem = s.planMem)) ∧
    (k = .borrowed → u.sq = none → s.generalTurn q.val = false → exec (.descriptorDispatch q) s = .next s) ∧
    (u.sq ≠ none → due = none → u.op = 0 → exec (.descriptorDispatch q) s =
      .next ((s.modTxn u.id (fun t => { t with slot := k, phase := .queued, since := s.pwr.aonMicros })).notePeak))) ∧
  (∀ (s : State) (q : Fin 32), s.nextStaged q.val = none → exec (.descriptorDispatch q) s = .next s) ∧
  (∀ (s : State) (q : Fin 32) (u : Txn), s.nextStaged q.val = some u →
    (s.freeSlot u.unit = none ∨ s.isOn .core = false ∨ s.isOn .board = false ∨ s.fenced u = true) →
    exec (.descriptorDispatch q) s = .next s) ∧
  (∀ (s : State) (q : Fin 32) (u : Txn),
    s.txns.find? (fun t => t.sq == some q.val && t.isQueued && t.op == 0) = some u → s.txn? u.id = some u →
    ∃ t v, exec (.nop q) s = .next t ∧ t = { s with txns := t.txns } ∧ t.txn? u.id = some v ∧
      v = { u with phase := .done .ok, barrier := s.sys.nextId } ∧
      t.txns.filter (fun w => w.id != u.id) = s.txns.filter (fun w => w.id != u.id)) ∧
  (∀ (s : State) (q : Fin 32), s.txns.find? (fun t => t.sq == some q.val && t.isQueued && t.op == 0) = none →
    exec (.nop q) s = .next s)

/-- O11, derived (spec/01_architecture.md (R19, R27, R32), spec/02_host_rings.md (R71, R85, R92, R94, R103),
spec/12_chaining.md (R540)). COMPLETION_COMMIT of an SQ whose next completion waits, with HOST and BOARD ON, bus
mastering, its CQ enabled with room and every record written, writes the 16 completion bytes with their PHASE at the
producer position of the CQ, takes the next SEQ, advances the CQ and DONE by one and forgets the transaction. One of
a transaction that a HOST reset found dispatched is only counted and forgotten. With no completion that may be
committed, no room or records outstanding nothing changes, and an ended beam transaction of a rod has its STATUS,
DONE and TSEQ in BEAM_DSTAT and is forgotten. -/
def Obligations.CompletionsAreCommittedInTheirOrder : Prop :=
  ∀ (s : State) (q : Fin 32) (u : Txn),
    (s.nextCompletion q.val = some u → u.orphan = true →
      exec (.completionCommit q) s = .next ((s.countSat F.SYS_HOST_DROP_COMPL).dropTxn u.id)) ∧
    (s.nextCompletion q.val = some u → u.orphan = false → s.mayDma = true → s.isOn .board = true →
      let m := s.rd F.HOST_SQ_CFG_CQ q.val
      s.flag F.HOST_CQ_CFG_EN m = true → 1 ≤ s.ringRoom (ix 20 m) → m < 16 → s.recordsOut u = false →
      ∃ t, exec (.completionCommit q) s = .next t ∧ t.sys = { s.sys with seq := s.sys.seq + 1 } ∧
        t.rd F.HOST_CQ_STAT_WRITTEN m = (s.rd F.HOST_CQ_STAT_WRITTEN m + 1) % 65536 ∧
        t.rd F.HOST_SQ_DONE_DONE q.val = (s.rd F.HOST_SQ_DONE_DONE q.val + 1) % F.HOST_SQ_DONE_DONE.size ∧
        t.txns = s.txns.filter (fun v => v.id != u.id) ∧
        (s.flag F.HOST_CTL_SPLIT_PHASE = false → s.test.takesBalls = false →
          .hostWrite (s.ringBase (ix 20 m) + 16 * (s.rd F.HOST_CQ_STAT_WRITTEN m % s.ringSize (ix 20 m)))
            (let b := completionBytes (s.sys.seq + 1) s.sys.timebase u
             b.take 15 ++ [BitVec.ofNat 8 (byteAt b 15 +
               128 * b2n (phaseAt (s.ringSize (ix 20 m)) (s.rd F.HOST_CQ_STAT_WRITTEN m)))]) ∈ t.out) ∧
        RegsOnly s { t with sys := s.sys, host := s.host, txns := s.txns, out := s.out }
          [F.HOST_CQ_STAT_WRITTEN.key m, F.HOST_SQ_DONE_DONE.key q.val, F.HOST_INT_STAT_VEC.key 0]) ∧
    (s.nextCompletion q.val = some u → u.orphan = false →
      (s.mayDma = false ∨ s.isOn .board = false ∨ s.recordsOut u = true ∨
        s.flag F.HOST_CQ_CFG_EN (s.rd F.HOST_SQ_CFG_CQ q.val) = false ∨ s.ringRoom (ix 20 (s.rd F.HOST_SQ_CFG_CQ q.val)) = 0) →
      exec (.completionCommit q) s = .next s) ∧
    (s.nextCompletion q.val = none → (24 ≤ q.val ∨ s.txns.find? (fun t => t.unit == q.val && t.sq.isNone) = none) →
      exec (.completionCommit q) s = .next s) ∧
    (s.nextCompletion q.val = none → q.val < 24 →
      s.txns.find? (fun t => t.unit == q.val && t.sq.isNone) = some u → u.live = false →
      s.fifos.toList.any (fun f => f.holds u.id) = false →
      exec (.completionCommit q) s = .next ((((s.wr F.BEAM_DSTAT_STATUS q.val u.status.code).wr F.BEAM_DSTAT_DONE q.val 1).wr
        F.BEAM_DSTAT_TSEQ q.val (byteAt u.data 0)).dropTxn u.id))

/-- O12, derived (spec/02_host_rings.md (R51, R52, R104, R105)). DATA_FETCH_FAIL of an SQ with a descriptor that reads a
host buffer sets HOST_ERR bit 1 with the address of the failing request and ends the descriptor ABORTED, a cipher
request that a core works on at its next block boundary; with none, or while the device may not master the bus, it
changes nothing. While HOST is ON an access that BAR0 does not accept (not 32 or 64 bits, or not naturally aligned)
answers a read with Unsupported Request and changes nothing else, and as a write sets HOST_ERR.ACC_SIZE and changes
nothing else; a BAR2 write sets HOST_ERR.BAR2_WR with its offset (the model's choice, log entry 52) and changes
nothing else. An accepted access is none of these, and nothing changes while HOST is not ON. A command not due
changes nothing (log entry 1). -/
def Obligations.HostErrorsAreCapturedAndFetchFailuresAbort : Prop :=
  (
    ∀ (s : State) (q : Fin 32) (addr : DWord) (u : Txn),
      (s.mayDma = true → s.txns.find? (fun t => t.sq == some q.val && s.readsBuffer t) = some u → s.txn? u.id = some u →
        ∃ t, exec (.dataFetchFail q addr) s = .next t ∧ HostErrNoted (s.dataFailed u) t 1 0 q.val addr.toNat ∧
          (u.unit ≠ unitCph ∨ u.isQueued = true → ∃ v, t.txn? u.id = some v ∧ v.phase = .done .aborted) ∧
          (u.unit = unitCph → u.isQueued = false → t.cph = { s.cph with cores := s.cph.cores.map (fun c => { c with
            run := c.run.map (fun r => if r.txn == u.id && r.stop.isNone then { r with stop := some .aborted } else r) }) })) ∧
      (s.mayDma = false ∨ s.txns.find? (fun t => t.sq == some q.val && s.readsBuffer t) = none →
        exec (.dataFetchFail q addr) s = .next s)) ∧ (
    ∀ (s : State) (addr size : Nat) (w : Bool),
      let accepted := (size = 4 ∧ addr % 4 = 0) ∨ (size = 8 ∧ addr % 8 = 0)
      (s.isOn .host = false ∨ accepted → exec (.bar0BadAccess w addr size) s = .next s) ∧
      (s.isOn .host = true → ¬accepted →
        exec (.bar0BadAccess false addr size) s = .next { s with out := s.logged [.unsupported addr] } ∧
        (∃ t, exec (.bar0BadAccess true addr size) s = .next t ∧ HostErrNoted s t 6 0 0 addr)) ∧
      (s.isOn .host = true → ∃ t, exec (.bar2Write addr) s = .next t ∧ HostErrNoted s t 7 0 0 addr) ∧
      (s.isOn .host = false → exec (.bar2Write addr) s = .next s))

/-- O13, derived (spec/02_host_rings.md (R67, R668), spec/03_rods.md (R164), spec/08_access_sequencer.md (R388, R395),
spec/09_uhf_radio.md (R430), spec/10_key_store_and_cipher.md (R446, R455), spec/13_timers_crc_serial.md (R574)).
Each of the nine commands that are carried out at fetch changes nothing when its ring may not be fetched from, when
the descriptor is another, or when FENCE finds an earlier descriptor of the ring. When the descriptor is bad it
counts as fetched, joins the list and ends BAD_DESCRIPTOR, when a domain of its unit is not ON DOMAIN_OFF, and with
its NLT passed LATE (there the opcode lists of some units name no LATE: the model's choice, log entry 10), without a
slot and without any effect at its unit. When FENCE holds such a descriptor is the model's choice too (log entry
11), as is that a command not due changes nothing (log entry 1). -/
def Obligations.AtFetchDescriptorsEndWithoutASlot : Prop :=
  ∀ (s : State) (i : Instr) (q : Fin 32) (op : Nat) (d : Desc),
    ((∃ n : Fin 24, q = ix 31 n.val ∧ ((i = .rodFlush n d ∧ op = 0x0E) ∨ (i = .rodAbort n d ∧ op = 0x0F))) ∨
      (i = .revoke d ∧ q = 24 ∧ op = 4) ∨ (i = .accAbort d ∧ q = 24 ∧ op = 0x0F) ∨ (i = .uhfAbort d ∧ q = 25 ∧ op = 0x0F) ∨
      (∃ b, q = cipherSq b ∧ ((i = .erase b d ∧ op = 0x12) ∨ (i = .cipherAbort b d ∧ op = 0x0F))) ∨
      (i = .spiFlush d ∧ q = 30 ∧ op = 0x0E) ∨ (i = .spiAbort d ∧ q = 30 ∧ op = 0x0F)) →
    (s.mayFetch q = false ∨ descByte d 0 ≠ op ∨
        ((descByte d 1).testBit 0 = true ∧ s.txns.any (fun t => t.sq == some q.val) = true) → exec i s = .next s) ∧
    (∀ st, s.mayFetch q = true → descByte d 0 = op →
      ((descByte d 1).testBit 0 = false ∨ s.txns.any (fun t => t.sq == some q.val) = false) →
      ((s.descBad (sqUnit q.val) d = true ∧ st = Status.badDescriptor) ∨ (s.descBad (sqUnit q.val) d = false ∧
        (descDomains (sqUnit q.val) op).all s.isOn = false ∧ st = .domainOff) ∨ (s.descBad (sqUnit q.val) d = false ∧
        (descDomains (sqUnit q.val) op).all s.isOn = true ∧ s.nltPassed d = true ∧ st = .late)) → s.txn? s.sys.nextId = none →
      ∃ t v, exec i s = .next t ∧ t.txns = s.txns ++ [v] ∧ v.phase = .done st ∧ v.slot = .none ∧ v.desc = d ∧ v.sq = some q.val ∧
        t.rd F.HOST_SQ_STAT_FETCHED q.val = (s.rd F.HOST_SQ_STAT_FETCHED q.val + 1) % 65536 ∧
        RegsOnly s { t with txns := s.txns, sys := s.sys } [F.HOST_SQ_STAT_FETCHED.key q.val])

/-- O14, derived (spec/01_architecture.md (R32, R34, R40), spec/02_host_rings.md (R58, R73, R74, R77, R78, R79, R80,
R81, R86, R89, R90, R92), spec/11_record_memory.md (R464, R478, R479, R482, R483, R486, R488, R489, R491),
spec/12_chaining.md (R508, R513)). RECORD_EGRESS of an enabled RQ outside SATELLITE, with memory requests allowed
and BOARD ON, whose oldest record lies in a SEALED tile that is verified for the present burst or for the one that
begins, with room, writes the PAD header if one is needed, then the record's units after the first, then its first
with PHASE, then at most one message; it advances the RQ, marks the record as left, makes the tile that of the
burst, and leaves the other tiles, the board's bytes and SEQ. EVENT_EGRESS outside SATELLITE under the same
conditions, with room for two entries, takes the first staged event, gives it the next SEQ and the LAST_SEQ of its
unit, writes its second entry, then its first, each with PHASE, then at most one message, advances the EQ by 2, and
stages EQ_OVERFLOW when events were lost and staging has room. In a SATELLITE it commits the oldest waiting event
with the next SEQ into the tile that takes it (EVENT_EGRESS of a SATELLITE and the other bytes of a PAD: log entries
47, 59; a command not due changes nothing: log entry 1). DRAIN_TAKE with BOARD and CORE ON, draining not stopped, a
FIFO with a packet in its drain bank next, and a tile for it, stores it at the tile's next free unit: the packet's
own; with a word in error or words dropped it is the packet with CHECKSUM_FAIL and no content, and with its first
word in error one notice for all packets of the bank. It gets the next SEQ, noted as its unit's last; its descriptor
joins the tile; the packets leave the bank (only they, no group waiting); CORR_COUNT and UNCORR_COUNT count the
words; the rotation moves on; the board's other bytes, plan memory, rods and other FIFOs are as before. With no tile
for it draining stops, the stall is counted and the source keeps its turn. A record from the ring is committed the
same way with its origin and changes no LAST_SEQ; an event from the ring is staged. -/
def Obligations.PacketsAreCommittedAndItemsLeaveInOrder : Prop :=
  (
    (∀ (s : State) (k : Fin 4) (t : Fin 64) (r : BoardRec),
      s.mayDma = true → s.isOn .board = true → s.sys.role ≠ .satellite → s.flag F.HOST_CQ_CFG_EN (16 + k.val) = true →
      s.oldestRec (fun r => !r.event && s.routeOf r == k.val) = some (t, r) →
      let i := (DevRing.rq k).idx
      let c := s.rd F.HOST_CQ_STAT_WRITTEN i.val
      let size := s.ringSize i
      let pad := if size - c % size < r.len then size - c % size else 0
      let c1 := if pad = 0 then c else (c + pad) % 65536
      let b := Memory.readBytes s.boardMem (16384 * t.val + 16 * r.unit) (16 * r.len)
      ((s.tile t).st ≠ .sealed ∨ (s.board.burst ≠ some t.val ∧ t.val ∉ s.board.verified) ∨ s.ringRoom i < r.len + pad →
        exec (.recordEgress k) s = .next s) ∧
      ((s.tile t).st = .sealed → s.board.burst = some t.val ∨ t.val ∈ s.board.verified → r.len + pad ≤ s.ringRoom i →
        ∃ u m, exec (.recordEgress k) s = .next u ∧ m.length ≤ 1 ∧ (∀ o ∈ m, ∃ v, o = Output.msi v) ∧
          u.out = m ++ s.logged (s.entryWrites (s.ringBase i + 16 * (c1 % size)) (b.take 16) (phaseAt size c1) ++
            [.hostWrite (s.ringBase i + 16 * (c1 % size) + 16) (b.drop 16)] ++
            (if pad = 0 then [] else s.entryWrites (s.ringBase i + 16 * (c % size)) (padBytes pad) (phaseAt size c))) ∧
          u.rd F.HOST_CQ_STAT_WRITTEN i.val = (c1 + r.len) % 65536 ∧
          (u.tile t).recs = (s.tile t).recs.map (fun x => if x.seq = r.seq then { x with left := true } else x) ∧
          (∀ v, v ≠ t → u.tile v = s.tile v) ∧ u.board.burst = some t.val ∧ u.boardMem = s.boardMem ∧ u.sys = s.sys ∧
          u.txns = s.txns ∧ RegsOnly s { u with out := s.out, host := s.host, board := s.board }
            [F.HOST_CQ_STAT_WRITTEN.key i.val, F.HOST_INT_STAT_VEC.key 0])) ∧
    (∀ (s : State) (k : Fin 4), (s.mayDma = false ∨ s.isOn .board = false ∨ s.sys.role = .satellite ∨
        s.flag F.HOST_CQ_CFG_EN (16 + k.val) = false ∨
        s.oldestRec (fun r => !r.event && s.routeOf r == k.val) = none) → exec (.recordEgress k) s = .next s) ∧
    (∀ (s : State) (e : Event) (rest : List Event), s.sys.role ≠ .satellite → s.host.staging = e :: rest →
      s.mayDma = true → s.isOn .board = true → s.flag F.HOST_CQ_CFG_EN 20 = true → 2 ≤ s.ringRoom 20 →
      let c := s.rd F.HOST_CQ_STAT_WRITTEN 20
      let addr := s.ringBase 20 + 16 * (c % s.ringSize 20)
      let ph := phaseAt (s.ringSize 20) c
      let b := eventBytes (s.sys.seq + 1) s.sys.timebase (s.otp.serial.toNat % 65536)
        (if e.origin.isSome then e else { e with lastSeq := s.lastSeqOf e.unit })
      ∃ u m, exec .eventEgress s = .next u ∧ m.length ≤ 1 ∧ (∀ o ∈ m, ∃ v, o = Output.msi v) ∧
        u.out = m ++ s.logged (s.entryWrites addr (b.take 16) ph ++ s.entryWrites (addr + 16) (b.drop 16) ph) ∧
        u.host.staging = rest ++ (if s.host.overflow = 0 ∨ 64 ≤ rest.length then []
          else [⟨0x17, 0x1C, (padTo 5 (leBytes 2 s.host.overflow)).take 5, none, none⟩]) ∧
        u.host.overflow = (if 64 ≤ rest.length then s.host.overflow else 0) ∧
        u.sys = { s.sys with seq := s.sys.seq + 1 } ∧ u.rd F.HOST_CQ_STAT_WRITTEN 20 = (c + 2) % 65536 ∧
        RegsOnly s { u with out := s.out, host := s.host, sys := s.sys }
          [F.HOST_CQ_STAT_WRITTEN.key 20, F.HOST_INT_STAT_VEC.key 0]) ∧
    (∀ s : State, s.sys.role ≠ .satellite → (s.host.staging = [] ∨ s.mayDma = false ∨ s.isOn .board = false ∨
        s.flag F.HOST_CQ_CFG_EN 20 = false ∨ s.ringRoom 20 < 2) → exec .eventEgress s = .next s) ∧
    (∀ s : State, s.sys.role = .satellite → (s.sys.waitEvents = [] ∨ s.isOn .board = false ∨ s.board.full = true) →
      exec .eventEgress s = .next s) ∧
    (∀ (s v : State) (t : Fin 64) (e : Event) (rest : List Event), s.sys.role = .satellite → s.sys.waitEvents = e :: rest →
      s.isOn .board = true → s.board.full = false → s.roomFor 2 = (v, some t) →
      let q := s.sys.seq + 1
      let b := eventBytes q s.sys.timebase (s.otp.serial.toNat % 65536)
        (if e.origin.isSome then e else { e with lastSeq := s.lastSeqOf e.unit })
      ∃ u, exec .eventEgress s = .next u ∧ u.sys = { s.sys with seq := q, waitEvents := rest } ∧
        (u.tile t).recs = (v.tile t).recs ++ [⟨q, (v.tile t).units, 2, false, none, e.unit, false, true, s.sys.timebase.toNat⟩] ∧
        u.boardMem = Memory.writeBytes s.boardMem (16384 * t.val + 16 * (v.tile t).units) b ∧
        u = { s with sys := u.sys, board := u.board, boardMem := u.boardMem })) ∧
  (
    (∀ (s v : State) (f : Fin 25) (p : Packet) (rest : List Packet) (ecc : List (Nat × Bool)) (t : Fin 64)
        (p1 : Packet) (c : List Byte) (st : Nat) (stamp : DWord) (k : Nat),
      s.isOn .board = true → s.isOn .core = true → s.board.full = false → s.nextSource = some f.val →
      (s.fifo f).drain = p :: rest →
      let here := ecc.filter (fun e => decide (e.1 < p.words))
      let bad := (here.filter (·.2)).map (·.1)
      ((bad = [] ∧ p.ovr = false ∧ p1 = p ∧ c = p.content ∧ st = p.status ∧ stamp = p.stamp ∧ k = 1) ∨
        (0 ∉ bad ∧ (bad ≠ [] ∨ p.ovr = true) ∧ p1 = poisonPacket f bad p ∧ c = [] ∧ st = 0x0D ∧ stamp = s.sys.timebase ∧
          k = 1) ∨
        (0 ∈ bad ∧ p1 = discardNotice f ∧ c = leBytes 2 (sumWords (p :: rest)) ∧ st = 0x0D ∧ stamp = s.sys.timebase ∧
          k = rest.length + 1)) →
      (s.roomFor (recordLen c.length) = (v, none) → exec (.drainTake ecc) s =
        .next (if v.board.full then v else { v with board := { v.board with full := true } }.count F.BRD_CNT_FULL_COUNT)) ∧
      (s.roomFor (recordLen c.length) = (v, some t) →
        let q := s.sys.seq + 1
        let at_ := 16384 * t.val + 16 * (v.tile t).units
        let b := recordBytes q q (s.otp.serial.toNat % 65536) p1 c.length c st stamp false
        ∃ u, exec (.drainTake ecc) s = .next u ∧ u.sys.seq = q ∧
          u.sys.lastSeq = (p1.source, q) :: s.sys.lastSeq.filter (fun x => x.1 != p1.source) ∧
          u.board.lastSource = f.val ∧ (∀ g, g ≠ f → u.fifo g = s.fifo g) ∧
          ((s.fifo f).waiting = [] → u.fifo f = { s.fifo f with drain := (s.fifo f).drain.drop k }) ∧
          (u.tile t).recs = (v.tile t).recs ++ [⟨q, (v.tile t).units, recordLen c.length, false, p1.txn, p1.source, false,
            false, s.sys.timebase.toNat⟩] ∧
          (∀ a, a < at_ ∨ at_ + b.length ≤ a → Memory.read u.boardMem a = Memory.read s.boardMem a) ∧
          (∀ i, i < b.length → Memory.read u.boardMem (at_ + i) = b.getD i 0) ∧
          u.rd F.FIFO_CNT_CORR_COUNT f.val =
            (s.rd F.FIFO_CNT_CORR_COUNT f.val + (here.filter (fun e => !e.2)).length) % F.FIFO_CNT_CORR_COUNT.size ∧
          u.rd F.FIFO_CNT_UNCORR_COUNT f.val = (if bad = [] then s.rd F.FIFO_CNT_UNCORR_COUNT f.val
            else (s.rd F.FIFO_CNT_UNCORR_COUNT f.val + (if 0 ∈ bad then 1 else bad.length)) % F.FIFO_CNT_UNCORR_COUNT.size) ∧
          u.planMem = s.planMem ∧ u.rods = s.rods ∧ u.pending = s.pending)) ∧
    (∀ (s v : State) (r : RingItem) (rest : List RingItem) (ecc : List (Nat × Bool)) (t : Fin 64),
      s.isOn .board = true → s.isOn .core = true → s.board.full = false → s.nextSource = some 25 → s.ingress = r :: rest →
      (r.event = false → s.roomFor (recordLen (packetOfBytes r.bytes).content.length) = (v, some t) →
        let p := packetOfBytes r.bytes
        let q := s.sys.seq + 1
        ∃ u, exec (.drainTake ecc) s = .next u ∧ u.ingress = rest ∧ u.sys = { s.sys with seq := q } ∧
          u.board.lastSource = 25 ∧
          u.boardMem = Memory.writeBytes s.boardMem (16384 * t.val + 16 * (v.tile t).units)
            (recordBytes q (BitVec.ofNat 32 (leNat ((r.bytes.drop 4).take 4))) (leNat ((r.bytes.drop 8).take 2)) p
              p.content.length p.content p.status p.stamp true) ∧
          (u.tile t).recs = (v.tile t).recs ++ [⟨q, (v.tile t).units, recordLen p.content.length, false, none, p.source, true,
            false, s.sys.timebase.toNat⟩]) ∧
      (r.event = true → s.sys.role ≠ .satellite → s.host.staging.length < 64 → ∃ u, exec (.drainTake ecc) s = .next u ∧
        u.ingress = rest ∧ u.sys = s.sys ∧ u.host = { s.host with staging := s.host.staging ++ [eventOfBytes r.bytes] } ∧
        u.boardMem = s.boardMem ∧ u.board.lastSource = 25)) ∧
    (∀ (s : State) (ecc : List (Nat × Bool)),
      (s.isOn .board = false ∨ s.isOn .core = false ∨ s.board.full = true ∨ s.nextSource = none) →
      exec (.drainTake ecc) s = .next s))

/-- O15, derived (spec/11_record_memory.md (R469, R471, R475, R477)). BANK_SWAP of a FIFO whose drain bank is empty,
whose fill bank holds a packet and in which no group is open exchanges the banks; otherwise it changes nothing.
FIFO_MODE_WRITE while BOARD is ON writes the CREDIT bit of a rod FIFO and nothing of the access FIFO.
FIFO_MODE_CHANGE of a FIFO whose CREDIT differs from its mode, both banks empty, no group open, takes the mode, and
with no group waiting nothing else changes; otherwise, where no change waits or the FIFO is not quiet, it changes
nothing (log entry 1). A group whose words a flush has discarded is not open (the model's choice, log entry 49). No
other FIFO changes. -/
def Obligations.BanksSwapAndModesChangeOnlyWhenQuiet : Prop :=
  ∀ (s : State) (f : Fin 25),
    ((s.fifo f).drain = [] → (s.fifo f).fill ≠ [] → (s.fifo f).isOpen = false →
      ∃ t, exec (.bankSwap f) s = .next t ∧
        t.fifo f = { s.fifo f with bank := !(s.fifo f).bank, fill := [], drain := (s.fifo f).fill, fillWords := 0 } ∧
        (∀ g, g ≠ f → t.fifo g = s.fifo g) ∧ t = { s with fifos := t.fifos }) ∧
    ((s.fifo f).drain ≠ [] ∨ (s.fifo f).fill = [] ∨ (s.fifo f).isOpen = true → exec (.bankSwap f) s = .next s) ∧
    (∀ w : Word, s.isOn .board = true → exec (.fifoModeWrite f w) s =
      .next (if f = 24 then s else s.wr F.FIFO_CFG_CREDIT f.val (w.toNat % 2))) ∧
    (f ≠ 24 → s.flag F.FIFO_CFG_CREDIT f.val ≠ (s.fifo f).credit → (s.fifo f).fill = [] → (s.fifo f).drain = [] →
      (s.fifo f).isOpen = false → (s.fifo f).waiting = [] →
      ∃ t, exec (.fifoModeChange f) s = .next t ∧ t.fifo f = { s.fifo f with credit := s.flag F.FIFO_CFG_CREDIT f.val } ∧
        (∀ g, g ≠ f → t.fifo g = s.fifo g) ∧ t = { s with fifos := t.fifos }) ∧
    (f ≠ 24 → s.flag F.FIFO_CFG_CREDIT f.val ≠ (s.fifo f).credit → (s.fifo f).fill = [] → (s.fifo f).drain = [] →
      (s.fifo f).isOpen = false →
      ∃ t, exec (.fifoModeChange f) s = .next t ∧ (t.fifo f).credit = s.flag F.FIFO_CFG_CREDIT f.val ∧
        (∀ g, g ≠ f → t.fifo g = s.fifo g)) ∧
    (f = 24 ∨ s.flag F.FIFO_CFG_CREDIT f.val = (s.fifo f).credit ∨ (s.fifo f).fill ≠ [] ∨ (s.fifo f).drain ≠ [] ∨
      (s.fifo f).isOpen = true → exec (.fifoModeChange f) s = .next s)

/-- O16, derived (spec/11_record_memory.md (R485, R487, R488, R489, R490, R491), spec/12_chaining.md (R508, R543)).
TILE_SEAL_DONE of a tile being sealed stores the CRC of its bytes, makes it SEALED and counts. BRD_CTL.SEAL makes
the OPEN tile begin sealing. SEAL_AGE_EXPIRY with an OPEN tile that holds a record and SEAL_AGE not 0 does so when
BOARD is ON and LOW tiles are FREE, and otherwise only notes that the age is over. TILE_VERIFY_DONE of the tile
whose verification has been asked for first, with BOARD ON, counts; with the stored checksum a SEALED tile may serve
the burst that begins and nothing else changes, with another it is OUT, its records are lost with the transactions
that wait on them marked failed, and TILE_FAIL is set. TILE_FREE of a SEALED tile whose records have all left zeroes
its bytes and no other, makes it FREE and lets draining resume; a restore of an OUT tile does the same, or zeroes it
and leaves it OUT when it reads back wrong; BEAM_TILE_REL does it for a SEALED tile of a satellite without a ring.
In every other case named here nothing changes (log entry 1). In which order tiles that ask at one moment are
verified is the model's choice (log entry 22). -/
def Obligations.TilesAreSealedVerifiedAndFreed : Prop :=
  ∀ (s : State) (t : Fin 64),
    ((s.tile t).st = .sealing → ∃ u, exec (.tileSealDone t) s = .next u ∧
      u.tile t = { s.tile t with st := .sealed, crc := crc32c (Memory.tile s.boardMem t.val) } ∧
      (∀ v, v ≠ t → u.tile v = s.tile v) ∧
      u.rd F.BRD_CNT_SEAL_COUNT = (s.rd F.BRD_CNT_SEAL_COUNT + 1) % F.BRD_CNT_SEAL_COUNT.size ∧
      RegsOnly s { u with board := s.board } [F.BRD_CNT_SEAL_COUNT.key 0]) ∧
    ((s.tile t).st ≠ .sealing → exec (.tileSealDone t) s = .next s) ∧
    (∀ w : Word, s.isOn .board = true →
      (w.toNat.testBit 0 = false ∨ s.openTile? = none → exec (.brdSealWrite w) s = .next s) ∧
      (w.toNat.testBit 0 = true → s.openTile? = some t → exec (.brdSealWrite w) s = .next { s with board := { s.board with
        tiles := vmod s.board.tiles t (fun x => { x with st := .sealing }), ageOut := false } })) ∧
    (s.openTile? = none → exec .sealAgeExpiry s = .next s) ∧
    (s.openTile? = some t →
      ((s.tile t).recs = [] ∨ s.rd F.BRD_CFG_SEAL_AGE = 0 → exec .sealAgeExpiry s = .next s) ∧
      ((s.tile t).recs ≠ [] → s.rd F.BRD_CFG_SEAL_AGE ≠ 0 → exec .sealAgeExpiry s =
        .next (if s.isOn .board = true ∧ s.rd F.BRD_CFG_LOW ≤ s.tilesIn .free then { s with board := { s.board with
            tiles := vmod s.board.tiles t (fun x => { x with st := .sealing }), ageOut := false } }
          else { s with board := { s.board with ageOut := true } }))) ∧
    (∀ crc : Word, s.isOn .board = true → s.askVerify.board.verify.head? = some t.val →
      (∃ u, exec (.tileVerifyDone t crc) s = .next u ∧
        u.rd F.BRD_CNT_VERIFY_COUNT = (s.rd F.BRD_CNT_VERIFY_COUNT + 1) % F.BRD_CNT_VERIFY_COUNT.size ∧ u.boardMem = s.boardMem ∧
        ((s.tile t).st ≠ .sealed → u.board = { s.board with verify := u.board.verify }) ∧
        ((s.tile t).st = .sealed → crc = (s.tile t).crc → u.board = { s.board with
            verify := u.board.verify, verified := s.board.verified ++ [t.val], burst := (if s.board.burst = some t.val then none else s.board.burst) } ∧
          RegsOnly s { u with board := s.board } [F.BRD_CNT_VERIFY_COUNT.key 0]) ∧
        ((s.tile t).st = .sealed → crc ≠ (s.tile t).crc → (u.tile t).st = .out ∧ (∀ r ∈ (u.tile t).recs, r.left = true) ∧
          (∀ v, v ≠ t → u.tile v = s.tile v) ∧ u.flag F.BRD_ERR_TILE_FAIL = true ∧
          (∀ r ∈ (s.tile t).recs, r.left = false → ∀ id, r.txn = some id → ∀ x ∈ u.txns, x.id = id → x.failed = true)))) ∧
    (∀ crc : Word, s.isOn .board = false ∨ s.askVerify.board.verify.head? ≠ some t.val →
      exec (.tileVerifyDone t crc) s = .next s) ∧
    ((s.tile t).st = .sealed → (∀ r ∈ (s.tile t).recs, r.left = true) →
      ∃ u, exec (.tileFree t) s = .next u ∧ TileFreed s u t) ∧
    ((s.tile t).st ≠ .sealed ∨ (∃ r ∈ (s.tile t).recs, r.left = false) → exec (.tileFree t) s = .next s) ∧
    (∀ (w : Word) (bad : Bool), s.isOn .board = true → w.toNat % 64 = t.val →
      (w.toNat.testBit 8 = true → (s.tile t).st = .out →
        (bad = false → ∃ u, exec (.tileRestore w bad) s = .next u ∧ TileFreed s u t) ∧
        (bad = true → ∃ u, exec (.tileRestore w bad) s = .next u ∧ u.tile t = ⟨.out, [], 0⟩ ∧
          (∀ v, v ≠ t → u.tile v = s.tile v) ∧
          (∀ a, Memory.read u.boardMem a = if a / 16384 = t.val then 0 else Memory.read s.boardMem a) ∧
          u = { s with board := u.board, boardMem := u.boardMem })) ∧
      (w.toNat.testBit 8 = false ∨ (s.tile t).st ≠ .out → exec (.tileRestore w bad) s = .next s)) ∧
    (∀ w : Word, s.isOn .core = true → w.toNat % 64 = t.val →
      (w.toNat.testBit 8 = true → s.isOn .board = true → s.sys.role = .satellite → s.flag F.RING_CFG_EN = false →
        (s.tile t).st = .sealed → ∃ u, exec (.beamTileRel w) s = .next u ∧ TileFreed s u t) ∧
      (w.toNat.testBit 8 = false ∨ s.isOn .board = false ∨ s.sys.role ≠ .satellite ∨ s.flag F.RING_CFG_EN = true ∨
        (s.tile t).st ≠ .sealed → exec (.beamTileRel w) s = .next s))

/-- O17, derived (spec/02_host_rings.md (R102), spec/05_inventory_and_harvest.md (R247), spec/11_record_memory.md (R492,
R493, R494, R495, R496, R498)). A LOAD_TILE that is dispatched with nothing due makes its tile LOADING and no other,
of a referenced tile it ends BAD_DESCRIPTOR; LOAD_TILE at the head of SQ28 runs. LOAD_TILE_DONE stores the first
16384 bytes in that tile and no other; with the expected CRC-32C the tile is READY with that CRC and the descriptor
ends OK, with another it is OUT, PLAN_FAIL is set, the descriptor ends CHECKSUM_FAIL, and invocations that stand
between units and use the tile end; while memory requests may not be issued it changes nothing. OPEN starts a window
load of an unreferenced tile while none is open and PLAN is ON; with PLAN not ON it only writes TILE; of a
referenced tile, or while a load is open, it sets PLAN_BUSY. A write of BRD_PLAN_DATA stores its word at ADDR in the
open tile, unless that has become a deduplication tile, leaves every other byte and adds 1 to ADDR; with none open
it sets PLAN_SEQ. CLOSE ends the load: READY with the CRC of BRD_PLAN_CRC, OUT otherwise; with none open it ends
nothing. That the reference is tested at dispatch is the model's choice (log entry 19), that one write carries out
CLOSE before OPEN too (log entry 90), and that a command not due changes nothing (log entry 1). A write of 1 to
PLOCK locks the microcode mask, which the write sets unless it was locked. -/
def Obligations.PlanTilesAreLoadedAndChecked : Prop :=
  (∀ (s : State) (u : Txn), s.takeHead? unitSys 0x31 = some u → s.txn? u.id = some u →
    exec .loadTile s = .next (s.run u.id)) ∧
  (∀ (s : State) (q : Fin 32) (u : Txn) (k : SlotKind), s.nextStaged q.val = some u → s.txn? u.id = some u →
    s.freeSlot u.unit = some k → s.mayDispatch u = true → u.sq = some q.val → u.unit = unitSys → u.op = 0x31 →
    let tile : Fin 16 := ix 15 (descByte u.desc 16)
    (s.dispatchEnd unitSys u.desc = none → ∃ t, exec (.descriptorDispatch q) s = .next t ∧ (t.planTile tile).st = .loading ∧
      (∀ j, j ≠ tile → t.planTile j = s.planTile j) ∧ t.planMem = s.planMem) ∧
    (s.referenced tile = true → ∃ t v, exec (.descriptorDispatch q) s = .next t ∧ t.txn? u.id = some v ∧
      v.phase = .done .badDescriptor ∧ t.board = s.board)) ∧
  (∀ s : State, s.takeHead? unitSys 0x31 = none → exec .loadTile s = .next s) ∧
  (∀ (s : State) (u : Txn) (src : List Byte), s.running? unitSys = some u → u.op = 0x31 → s.txn? u.id = some u →
    let tile : Fin 16 := ix 15 (descByte u.desc 16)
    let crc := BitVec.ofNat 32 (descField u.desc 20 4)
    let m := Memory.writeBytes s.planMem (16384 * tile.val) (src.take 16384)
    (s.mayDma = false → exec (.loadTileDone src) s = .next s) ∧
    (s.mayDma = true → crc32c (Memory.tile m tile.val) = crc → ∃ t v, exec (.loadTileDone src) s = .next t ∧ t.planMem = m ∧
      t.planTile tile = ⟨.ready, crc⟩ ∧ (∀ k, k ≠ tile → t.planTile k = s.planTile k) ∧ t.txn? u.id = some v ∧
      v.phase = .done .ok ∧ t = { s with planMem := t.planMem, board := t.board, txns := t.txns }) ∧
    (s.mayDma = true → crc32c (Memory.tile m tile.val) ≠ crc → ∃ (t : State) (v : Txn), exec (.loadTileDone src) s = .next t.settleDoom ∧ t.planMem = m ∧
      (t.planTile tile).st = .out ∧ (∀ k, k ≠ tile → t.planTile k = s.planTile k) ∧ t.flag F.BRD_ERR_PLAN_FAIL = true ∧
      t.txn? u.id = some v ∧ v.phase = .done .checksumFail)) ∧
  (∀ (s : State) (w : Word), s.isOn .board = true →
    let tile : Fin 16 := ix 15 (w.toNat % 16)
    (w.toNat.testBit 8 = true → w.toNat.testBit 9 = false → s.board.window = none →
      (s.referenced tile = false → s.isOn .plan = true →
        ∃ t, exec (.planWindowOpen w) s = .next t ∧ t.board.window = some tile.val ∧ (t.planTile tile).st = .loading ∧
          (∀ k, k ≠ tile → t.planTile k = s.planTile k) ∧ t.rd F.BRD_PLAN_CTL_TILE = tile.val ∧
          RegsOnly s { t with board := s.board } [F.BRD_PLAN_CTL_TILE.key 0]) ∧
      (s.referenced tile = false → s.isOn .plan = false →
        exec (.planWindowOpen w) s = .next (s.wr F.BRD_PLAN_CTL_TILE 0 tile.val)) ∧
      (s.referenced tile = true →
        exec (.planWindowOpen w) s = .next ((s.wr F.BRD_PLAN_CTL_TILE 0 tile.val).wr F.BRD_ERR_PLAN_BUSY 0 1))) ∧
    (w.toNat.testBit 8 = true → w.toNat.testBit 9 = false → s.board.window.isSome = true →
      exec (.planWindowOpen w) s = .next (s.wr F.BRD_ERR_PLAN_BUSY 0 1)) ∧
    (w.toNat.testBit 8 = false → exec (.planWindowOpen w) s = .next s) ∧
    (∀ k : Fin 16, w.toNat.testBit 9 = true → s.board.window = some k.val →
      ∃ t : State, exec (.planWindowClose w) s =
          .next (if w.toNat.testBit 8 then t.settleDoom.setF F.BRD_ERR_PLAN_BUSY else t.settleDoom) ∧
        t.board.window = none ∧ t.planMem = s.planMem ∧ (∀ j, j ≠ k → t.planTile j = s.planTile j) ∧
        (let crc : Word := BitVec.ofNat 32 (s.rd F.BRD_PLAN_CRC_CRC)
         if crc32c (Memory.tile s.planMem k.val) = crc then t.planTile k = ⟨.ready, crc⟩
         else (t.planTile k).st = .out ∧ t.flag F.BRD_ERR_PLAN_FAIL = true)) ∧
    (w.toNat.testBit 8 = false → w.toNat.testBit 9 = true → s.board.window = none →
      exec (.planWindowClose w) s = .next (s.wr F.BRD_PLAN_CTL_TILE 0 tile.val)) ∧
    (w.toNat.testBit 9 = false → exec (.planWindowClose w) s = .next s)) ∧
  (∀ (s : State) (w : Word), s.isOn .plan = true →
    (s.board.window = none → exec (.planDataWrite w) s = .next (s.wr F.BRD_ERR_PLAN_SEQ 0 1)) ∧
    (∀ k, s.board.window = some k → ∃ t, exec (.planDataWrite w) s = .next t ∧
      t.rd F.BRD_PLAN_ADDR_WORD = (s.rd F.BRD_PLAN_ADDR_WORD + 1) % 4096 ∧
      (∀ i < 4, s.isDedupTile k = false →
        Memory.read t.planMem (16384 * k + 4 * s.rd F.BRD_PLAN_ADDR_WORD + i) = BitVec.ofNat 8 (w.toNat / 256 ^ i)) ∧
      (∀ a, s.isDedupTile k = true ∨ a < 16384 * k + 4 * s.rd F.BRD_PLAN_ADDR_WORD ∨
        16384 * k + 4 * s.rd F.BRD_PLAN_ADDR_WORD + 4 ≤ a → Memory.read t.planMem a = Memory.read s.planMem a) ∧
      RegsOnly s { t with planMem := s.planMem } [F.BRD_PLAN_ADDR_WORD.key 0])) ∧
  (∀ (s : State) (w : Word), s.isOn .board = true →
    (w.toNat.testBit 16 = true →
      exec (.ucodePlock w) s = .next ((if s.flag F.BRD_UCODE_PLOCK then s else s.wr F.BRD_UCODE_MASK 0 (w.toNat % 65536)).wr
        F.BRD_UCODE_PLOCK 0 1)) ∧
    (w.toNat.testBit 16 = false → exec (.ucodePlock w) s = .next s))

/-- O18, derived (spec/14_power_clocks_reset.md (R586, R587, R588, R589, R591, R593, R613)). PWR_REQ_WRITE while a
request, wake or self-test run is in progress only sets DROPPED. Otherwise it keeps the targets and FORCE; with
every target "no change" nothing starts, and otherwise the request starts. A request that the whole check refuses
leaves every domain's state; when no wake is latched and no SET_POWER is under way it counts the refuser, captures
it in PWR_LAST_REFUSER, and ends with RESULT 2 and DONE. With nothing lowered and nothing to raise it ends with
RESULT 1. SET_POWER waits while one is in progress; with nothing to change it ends OK, no domain changing state;
otherwise it makes its first attempt, a request of its targets. SET_POWER_RETRY without a SET_POWER that waits for
one, or while power is busy, changes nothing, after its deadline ends the SET_POWER TIMEOUT, and up to it makes the
next attempt. Model's choices: a command not due changes nothing (log entry 1), SET_POWER with no change (24), the
order of the checks' events (29). -/
def Obligations.PowerRequestsAreCheckedAsAWhole : Prop :=
  (∀ (s : State) (w : Word), s.isOn .aon = true →
    (s.pwrBusy = true → exec (.pwrReqWrite w) s = .next (s.wr F.PWR_STAT_DROPPED 0 1)) ∧
    (s.pwrBusy = false →
      let s1 := (s.wr F.PWR_REQ_TGT 0 (w.toNat / 4 % 2 ^ 22)).wr F.PWR_REQ_FORCE 0 (w.toNat / 2 ^ 24 % 2)
      ((targetsOf w.toNat).all (· == 3) = true → exec (.pwrReqWrite w) s = .next s1) ∧
      ((targetsOf w.toNat).all (· == 3) = false →
        exec (.pwrReqWrite w) s = .next (s1.startRequest .register (w.toNat.testBit 24) (targetsOf w.toNat))) ∧
      (∀ a x, (targetsOf w.toNat).all (· == 3) = false → s.checkRequest (targetsOf w.toNat) = (a, some x) →
        ∃ t, exec (.pwrReqWrite w) s = .next t ∧ t.pwr.st = s.pwr.st ∧ t.pwr.run = none ∧
          (s.latchedSources = [] → s.pwr.setPower = none → t.rd F.PWR_STAT_RESULT = 2 ∧ t.flag F.PWR_STAT_DONE = true ∧
            t.flag F.PWR_LAST_REFUSER_VALID = true ∧ t.rd F.PWR_LAST_REFUSER_DOMAIN = x.1.num.val ∧
            t.rd F.PWR_LAST_REFUSER_REASON = x.2.1 % 8 ∧
            t.rd F.PWR_REFUSE_CNT_COUNT x.1.num.val = (s.rd F.PWR_REFUSE_CNT_COUNT x.1.num.val + 1) % F.PWR_REFUSE_CNT_COUNT.size)) ∧
      (∀ a, (targetsOf w.toNat).all (· == 3) = false → s.checkRequest (targetsOf w.toNat) = (a, none) →
        s.lowered a = [] → s.raised a = [] → s.pwr.setPower = none → s.latchedSources = [] →
        ∃ t, exec (.pwrReqWrite w) s = .next t ∧ t.pwr.st = s.pwr.st ∧ t.pwr.run = none ∧ t.rd F.PWR_STAT_RESULT = 1 ∧
          t.flag F.PWR_STAT_DONE = true))) ∧
  (∀ (s : State) (u : Txn), s.takeHead? unitSys 0x20 = some u →
    (s.pwrBusy = true ∨ s.pwr.setPower.isSome = true → exec .setPower s = .next s) ∧
    (s.pwrBusy = false → s.pwr.setPower = none → (targetsOf (descField u.desc 16 3)).all (· == 3) = true →
      s.txn? u.id = some u → ∃ t v, exec .setPower s = .next t ∧ t.pwr.setPower = none ∧ t.pwr.st = s.pwr.st ∧
        t.txn? u.id = some v ∧ v.phase = .done .ok) ∧
    (s.pwrBusy = false → s.pwr.setPower = none → (targetsOf (descField u.desc 16 3)).all (· == 3) = false →
      exec .setPower s = .next (({ s.run u.id with pwr := { s.pwr with setPower := some ⟨u.id, 1, u.since + 1000 * descField u.desc 20 2, 0, 0, true⟩ } } : State).startRequest
        .descriptor ((descByte u.desc 19).testBit 0) (targetsOf (descField u.desc 16 3))))) ∧
  (∀ (s : State), (s.pwr.setPower = none → exec .setPowerRetry s = .next s) ∧
    (∀ sp, s.pwr.setPower = some sp → sp.active = true ∨ s.pwrBusy = true → exec .setPowerRetry s = .next s) ∧
    (∀ sp u, s.pwr.setPower = some sp → sp.active = false → s.pwrBusy = false → sp.deadline < s.pwr.aonMicros →
      s.txn? sp.txn = some u → u.live = true → ∃ t v, exec .setPowerRetry s = .next t ∧ t.pwr.setPower = none ∧
        t.txn? sp.txn = some v ∧ v.phase = .done .timeout) ∧
    (∀ sp u, s.pwr.setPower = some sp → sp.active = false → s.pwrBusy = false → s.pwr.aonMicros ≤ sp.deadline →
      s.txn? sp.txn = some u → (targetsOf (descField u.desc 16 3)).all (· == 3) = false →
      exec .setPowerRetry s = .next (({ s with pwr := { s.pwr with setPower := some { sp with tries := sp.tries + 1, active := true } } } : State).startRequest .descriptor ((descByte u.desc 19).testBit 0)
          (targetsOf (descField u.desc 16 3)))))

/-- O19, derived (spec/14_power_clocks_reset.md (R578, R580, R588, R590, R594, R595, R596, R597, R598, R600, R603)).
MEMBER_ENTRY_DONE with a member entering, a bank only when its FIFOs are empty, lets the member reach its target;
with none it changes nothing. When the last lowered member of a register request, none of CORE and the banks,
reaches RETENTION and nothing is to be raised, no other domain changes, the memories keep their contents, and the
request ends with RESULT 1. WAKE_SOURCE of a detected and enabled source, for GPIO an edge that PWR_WAKE_GPIO
chooses for its pin, latches it, marking a replay while power is busy; not enabled or not detected it changes
nothing. WAKE_TIMER_EXPIRY stops a running timer and latches source 2 when it is enabled. WAKE_START with power
busy, start-up not over or no source latched changes nothing; otherwise a wake with a domain to bring ON starts the
first position of the wake order, waiting for the crystal when CORE is to come ON and the crystal is stopped, and
one with none ends. XTAL_START_DONE makes a stopped crystal stable at step 1 of start-up and for a wake that waits
for it, whose CORE then starts; otherwise it changes nothing. WAKE_POSITION_DONE brings the domains of the position
ON. PAD_RELEASE frees the held groups whose bits are written 1 and no others. AON_SRC_WRITE takes AON_SRC and
XTAL_KEEP; with AON_SRC 1 the 32 kHz crystal is asked for and AON_ACT is 1 once it is stable, with 0 AON_ACT is 0.
XTAL32K_STABLE sets XTAL32K_OK and makes AON_ACT equal AON_SRC when the crystal was asked for, and changes nothing
otherwise. Model's choices: a command not due changes nothing (log entry 1), WAKE_SOURCE does not report TALLY and
TIMER (25), start-up and wakes (27), what XTAL_START_DONE waits for (28). -/
def Obligations.MembersEnterWakesRunAndPadsAreReleased : Prop :=
  (
    (∀ (s : State) (r : PwrRun), s.pwr.run = some r →
      (∀ d target, r.cur = some (d, target) → (d ≠ .hfa ∧ d ≠ .hfb) ∨ s.memberEmpty d = true →
        exec .memberEntryDone s = .next (s.memberEntered r d target)) ∧
      (∀ d target, r.cur = some (d, target) → (d = .hfa ∨ d = .hfb) → s.memberEmpty d = false →
        exec .memberEntryDone s = .next s) ∧
      (r.cur = none → exec .memberEntryDone s = .next s) ∧
      (∀ d, r.cur = some (d, .ret) → d ≠ .core → d ≠ .hfa → d ≠ .hfb → r.todo = [] → r.up = [] → r.phase = 1 →
        r.cause = .register → s.latchedSources = [] → s.pwr.setPower = none →
        ∃ t, exec .memberEntryDone s = .next t ∧ t.pst d = .ret ∧ (∀ e, e ≠ d → t.pst e = s.pst e) ∧ t.pwr.run = none ∧
          t.rd F.PWR_STAT_RESULT = 1 ∧ t.boardMem = s.boardMem ∧ t.planMem = s.planMem) ∧
      (r.pos = [] → exec .wakePositionDone s = .next s) ∧
      (r.pos ≠ [] → exec .wakePositionDone s = .next (s.posDone r) ∧
        ∀ d ∈ r.pos, r.up.contains d = false → (s.posDone r).pst d = .on)) ∧
    (∀ (s : State) (src : Nat) (k : Fin 4) (rise : Bool), 1 ≤ src → src ≤ 7 →
      (∀ e, src = 3 → e = (s.rd F.PWR_WAKE_GPIO_EDGE / 4 ^ k.val) % 4 →
        (s.sourceDetected src k rise = true ↔ e = 3 ∨ (e = 1 ∧ rise = true) ∨ (e = 2 ∧ rise = false))) ∧
      (s.sourceDetected src k rise = true → (s.rd F.PWR_WAKE_EN_EN).testBit (src - 1) = true →
        ∃ t, exec (.wakeSource src k rise) s = .next t ∧
          t.rd F.PWR_WAKE_LATCH_LATCHED = (s.rd F.PWR_WAKE_LATCH_LATCHED ||| 2 ^ (src - 1)) % 128 ∧
          t.pwr = { s.pwr with replay := s.pwr.replay || s.pwrBusy } ∧
          RegsOnly s { t with pwr := s.pwr } [F.PWR_WAKE_LATCH_LATCHED.key 0]) ∧
      (s.sourceDetected src k rise = false ∨ (s.rd F.PWR_WAKE_EN_EN).testBit (src - 1) = false →
        exec (.wakeSource src k rise) s = .next s)) ∧
    (∀ s : State, (s.rd F.PWR_WAKE_TIMER_COUNT = 0 → exec .wakeTimerExpiry s = .next s) ∧
      (s.rd F.PWR_WAKE_TIMER_COUNT ≠ 0 → ∃ t, exec .wakeTimerExpiry s = .next t ∧ t.rd F.PWR_WAKE_TIMER_COUNT = 0 ∧
        ((s.rd F.PWR_WAKE_EN_EN).testBit 1 = true →
          t.rd F.PWR_WAKE_LATCH_LATCHED = (s.rd F.PWR_WAKE_LATCH_LATCHED ||| 2) % 128))) ∧
    (∀ s : State,
      (s.pwrBusy = true ∨ s.pwr.step ≠ 0 ∨ s.latchedSources = [] → exec .wakeStart s = .next s) ∧
      (s.pwrBusy = false → s.pwr.step = 0 → s.latchedSources ≠ [] → s.isOn .core = true →
        s.wakeDomains.filter (fun d => !s.isOn d) ≠ [] →
        ∃ t r, exec .wakeStart s = .next t ∧ t.pwr.run = some r ∧ r.cause = .wake ∧ r.phase = 3 ∧ r.pos ≠ [] ∧
          (∀ d ∈ r.pos, t.pst d = .transit ∧ s.isOn d = false ∧ s.wakeDomains.contains d = true) ∧
          t = { s with pwr := t.pwr }) ∧
      (s.pwrBusy = false → s.pwr.step = 0 → s.latchedSources ≠ [] → (s.wakeDomains.filter (fun d => !s.isOn d)).contains .core = true →
        ∃ t r, exec .wakeStart s = .next t ∧ t.pwr.run = some r ∧ r.cause = .wake ∧ r.phase = 3 ∧ t = { s with pwr := t.pwr } ∧
          (s.pwr.xtal27 = true → r.pos = [.core] ∧ t.pst .core = .transit) ∧
          (s.pwr.xtal27 = false → r.pos = [] ∧ r.xtalWait = true ∧ t.pwr.st = s.pwr.st)) ∧
      (s.pwrBusy = false → s.pwr.step = 0 → s.latchedSources ≠ [] → s.wakeDomains.filter (fun d => !s.isOn d) = [] →
        ∃ t, exec .wakeStart s = .next t ∧ t.pwr.run = none ∧ t.pwr.st = s.pwr.st)) ∧
    (∀ s : State, (s.pwr.xtal27 = true → exec .xtalStartDone s = .next s) ∧
      (s.pwr.xtal27 = false → s.pwr.run = none → s.pwr.step = 1 → s.pwr.halted = false →
        exec .xtalStartDone s = .next { s with pwr := { s.pwr with xtal27 := true } }) ∧
      (∀ r, s.pwr.xtal27 = false → s.pwr.run = some r → r.xtalWait = true → r.up.contains .core = true →
        ∃ t q, exec .xtalStartDone s = .next t ∧ t.pwr.xtal27 = true ∧ t.pwr.run = some q ∧ q.pos = [.core] ∧
          q.xtalWait = false ∧ t.pst .core = .transit) ∧
      (∀ r, s.pwr.run = some r → r.xtalWait = false → exec .xtalStartDone s = .next s) ∧
      (s.pwr.run = none → s.pwr.step ≠ 1 ∨ s.pwr.halted = true → exec .xtalStartDone s = .next s))) ∧ (
    ∀ (s : State) (w : Word), s.isOn .aon = true →
      (∃ t, exec (.padRelease w) s = .next t ∧ ∀ d : Domain, t.padsHeld d = (s.padsHeld d && !(padGroups.contains d && w.toNat.testBit d.num.val))) ∧
      (s.rd F.PWR_PAD_RELEASE_HELD = 0 → exec (.padRelease w) s = .next s) ∧
      (∃ t, exec (.aonSrcWrite w) s = .next t ∧ t.rd F.CLK_CFG_AON_SRC = w.toNat % 2 ∧ t.rd F.CLK_CFG_XTAL_KEEP = w.toNat / 2 % 2 ∧
        (w.toNat.testBit 0 = true → t.pwr.xtal32 = true ∧ t.rd F.CLK_STAT_AON_ACT = s.rd F.CLK_STAT_XTAL32K_OK % 2) ∧
        (w.toNat.testBit 0 = false → t.pwr = s.pwr ∧ t.rd F.CLK_STAT_AON_ACT = 0) ∧
        RegsOnly s { t with pwr := s.pwr } [F.CLK_CFG_AON_SRC.key 0, F.CLK_CFG_XTAL_KEEP.key 0, F.CLK_STAT_AON_ACT.key 0]) ∧
      exec .xtal32kStable s = .next (if s.pwr.xtal32 then
        (s.wr F.CLK_STAT_XTAL32K_OK 0 1).wr F.CLK_STAT_AON_ACT 0 (s.rd F.CLK_CFG_AON_SRC) else s))

/-- O20, derived (spec/03_rods.md (R22, R109, R110, R112, R113, R114, R117, R123, R148, R149), spec/04_field_sharing.md
(R203, R204), spec/14_power_clocks_reset.md (R603)). FIELD_ON whose NLT passed while it waited ends LATE. Otherwise
it runs, with its settings in force: at an ON carrier it ends OK and no carrier changes state; with the PLL unlocked
it waits; at an OFF carrier that nothing forbids it asks for its start at the power code it kept, which is made when
the budget queue is empty and the start fits, and joins the queue's end otherwise. FIELD_ON_PLL_TIMEOUT ends a
running FIELD_ON or CARRIER measurement TIMEOUT when the PLL is unlocked and the carrier OFF, and otherwise changes
nothing. FIELD_OFF at an OFF or held carrier ends OK and leaves the carrier; an ON carrier ramps down, a listener
when its exchange ends. The end of a ramp-up makes the carrier ON with the gain of the settings in force, shown in
GAIN_USED, and guarded at once when their GUARD is 0. The end of a ramp-down enters HOLD and ends a running
FIELD_OFF OK; HOLD ends in OFF; GUARD_EXPIRY allows frames and ends a running FIELD_ON OK; IDLE_OFF ramps an idle ON
carrier down, a plan being none or in a WAIT; POWER_STEP moves the code one step toward its goal. Each changes no
other rod's carrier, and outside its carrier state changes nothing but what the timers capture at the edge of its
FIELD. A lost PLL lock clears the lock and nothing else; a lock that something asks for sets it, and one that
nothing asks for changes nothing. The model's choices: what a FIELD_ON that waits ends with (log entry 63), whose
settings are in force (68), when a plan's carrier idles off (70), and that a command not due changes nothing (1). -/
def Obligations.CarriersRampHoldAndStep : Prop :=
  ∀ (s : State) (n : Fin 24),
    (∀ u, s.rodTake? n 1 = some u → s.txn? u.id = some u →
      (s.nltPassed u.desc = true → ∃ t v, exec (.fieldOn n) s = .next t ∧ t.txn? u.id = some v ∧ v.phase = .done .late) ∧
      (s.nltPassed u.desc = false → (s.rod n).carrier = .on → ∃ t v, exec (.fieldOn n) s = .next t ∧
        t.txn? u.id = some v ∧ v.phase = .done .ok ∧ (∀ m, (t.rod m).carrier = (s.rod m).carrier)) ∧
      (s.nltPassed u.desc = false → (s.rod n).carrier ≠ .on → s.pwr.hfLock = false →
        exec (.fieldOn n) s = .next ((s.run u.id).settingsInForce n)) ∧
      (s.nltPassed u.desc = false → (s.rod n).carrier = .off → s.pwr.hfLock = true → s.isOn (bankOf n.val) = true →
        s.padsHeld (bankOf n.val) = false → s.surveyBusy = false → s.field.shutdown = false → s.startQueued n.val (some u.id) = false →
        ∃ t, exec (.fieldOn n) s = .next t ∧ t.txns = (s.run u.id).txns ∧ (∀ m, m ≠ n → t.rod m = s.rod m) ∧
          (s.field.queue = [] → s.startFits n (codeKept s n u) = true →
            (t.rod n).carrier = .rampUp ∧ (t.rod n).code = codeKept s n u ∧ (t.rod n).guard = false ∧
            t.field = { s.field with sourced := t.field.sourced } ∧
            t = { s.fieldEdge n .off .rampUp with rods := t.rods, txns := t.txns, field := t.field }) ∧
          (s.field.queue ≠ [] ∨ s.startFits n (codeKept s n u) = false →
            (t.rod n).carrier = .off ∧ t.field.queue = s.field.queue ++ [⟨n.val, codeKept s n u, some u.id⟩] ∧
            t = { s with rods := t.rods, txns := t.txns, field := t.field }))) ∧
    (s.wantsOn? n = none → exec (.fieldOnPllTimeout n) s = .next s) ∧
    (∀ u, s.wantsOn? n = some u → s.txn? u.id = some u →
      (s.pwr.hfLock = false → (s.rod n).carrier = .off → ∃ t v, exec (.fieldOnPllTimeout n) s = .next t ∧
        t.txn? u.id = some v ∧ v.phase = .done .timeout ∧ (∀ m, (t.rod m).carrier = (s.rod m).carrier)) ∧
      (s.pwr.hfLock = true ∨ (s.rod n).carrier ≠ .off → exec (.fieldOnPllTimeout n) s = .next s)) ∧
    (∀ u, s.rodTake? n 2 = some u → s.txn? u.id = some u →
      ((s.rod n).carrier = .off ∨ (s.rod n).carrier = .hold → ∃ t v, exec (.fieldOff n) s = .next t ∧
        t.txn? u.id = some v ∧ v.phase = .done .ok ∧ (t.rod n).carrier = (s.rod n).carrier ∧ (∀ m, m ≠ n → t.rod m = s.rod m) ∧
        t = { s with rods := t.rods, txns := t.txns, field := t.field }) ∧
      ((s.rod n).carrier = .on → s.listening n.val = false → ∃ t, exec (.fieldOff n) s = .next t ∧
        (t.rod n).carrier = .rampDown ∧ (t.rod n).guard = false ∧ (∀ m, m ≠ n → t.rod m = s.rod m) ∧
        t = { s with rods := t.rods, txns := t.txns, field := t.field }) ∧
      ((s.rod n).carrier = .on → s.listening n.val = true → ∃ t, exec (.fieldOff n) s = .next t ∧
        (t.rod n).rampAfter = true ∧ (t.rod n).carrier = .on ∧ (∀ m, m ≠ n → t.rod m = s.rod m) ∧
        t = { s with rods := t.rods, txns := t.txns, field := t.field })) ∧
    (∀ below, (s.rod n).carrier = .rampUp → ∃ t, exec (.carrierRampUpDone n below) s = .next t ∧ (t.rod n).carrier = .on ∧
      (t.rod n).guard = ((s.rod n).guard || decide (s.guardTime n = 0)) ∧
      t.rd F.ROD_STAT_GAIN_USED n.val = (t.rod n).gain % F.ROD_STAT_GAIN_USED.size ∧
      (∀ k, (s.rodInForce n).2 = some k → k.agc = false → (t.rod n).gain = k.gain) ∧
      (∀ k g, (s.rodInForce n).2 = some k → k.agc = true → g < 8 → below.getD g false = true →
        (∀ h, g < h → h < 8 → below.getD h false = false) → (t.rod n).gain = g) ∧
      (∀ m, m ≠ n → (t.rod m).carrier = (s.rod m).carrier)) ∧
    (∀ below, (s.rod n).carrier ≠ .rampUp → exec (.carrierRampUpDone n below) s = .next s) ∧
    ((s.rod n).carrier = .rampDown → ∃ t, exec (.carrierRampDownDone n) s = .next t ∧ (t.rod n).carrier = .hold ∧
      (∀ m, m ≠ n → t.rod m = s.rod m) ∧ t = { s.fieldEdge n .rampDown .hold with rods := t.rods, txns := t.txns } ∧
      (∀ u, s.rodRuns? n 2 = some u → s.txn? u.id = some u → ∃ v, t.txn? u.id = some v ∧ v.phase = .done .ok)) ∧
    ((s.rod n).carrier ≠ .rampDown → exec (.carrierRampDownDone n) s = .next s) ∧
    ((s.rod n).carrier = .hold → ((s.rod n).surveyHold && s.surveyBusy) = false → s.wantsCarrier n = false →
      ∃ t, exec (.holdExpiry n) s = .next t ∧ t.rod n = { s.rod n with carrier := .off, surveyHold := false } ∧
        (∀ m, m ≠ n → t.rod m = s.rod m) ∧ t = { s with rods := t.rods }) ∧
    ((s.rod n).carrier ≠ .hold ∨ ((s.rod n).surveyHold && s.surveyBusy) = true → exec (.holdExpiry n) s = .next s) ∧
    ((s.rod n).carrier = .on → (s.rod n).guard = false → ∃ t, exec (.guardExpiry n) s = .next t ∧ (t.rod n).guard = true ∧
      (t.rod n).carrier = .on ∧ (∀ m, m ≠ n → t.rod m = s.rod m) ∧ t = { s with rods := t.rods, txns := t.txns } ∧
      (∀ u, s.rodRuns? n 1 = some u → s.txn? u.id = some u → ∃ v, t.txn? u.id = some v ∧ v.phase = .done .ok)) ∧
    ((s.rod n).carrier ≠ .on ∨ (s.rod n).guard = true → exec (.guardExpiry n) s = .next s) ∧
    (s.rd F.ROD_IDLE_IDLE_OFF n.val ≠ 0 → (s.rod n).carrier = .on → s.hasRodTxn n.val = false →
      (s.plan? n = none ∨ ∃ p w, s.plan? n = some p ∧ p.stage = .waiting w) →
      s.listening n.val = false → ∃ t, exec (.idleOffExpiry n) s = .next t ∧ (t.rod n).carrier = .rampDown ∧
        (∀ m, m ≠ n → t.rod m = s.rod m) ∧ t = { s with rods := t.rods, field := t.field }) ∧
    (s.rd F.ROD_IDLE_IDLE_OFF n.val = 0 ∨ (s.rod n).carrier ≠ .on ∨ s.hasRodTxn n.val = true ∨ s.listening n.val = true →
      exec (.idleOffExpiry n) s = .next s) ∧
    ((s.rod n).carrier = .on → (s.rod n).code ≠ (s.rod n).goal → ∃ t, exec (.powerStep n) s = .next t ∧
        (t.rod n).code = (if (s.rod n).code < (s.rod n).goal then (s.rod n).code + 1 else (s.rod n).code - 1) ∧
        (t.rod n).goal = (s.rod n).goal ∧ (∀ m, m ≠ n → t.rod m = s.rod m) ∧ t = { s with rods := t.rods }) ∧
    ((s.rod n).carrier ≠ .on ∨ (s.rod n).code = (s.rod n).goal → exec (.powerStep n) s = .next s) ∧
    exec (.hfPllLock false) s = .next { s with pwr := { s.pwr with hfLock := false } } ∧
    (s.hfReq = true → ∃ t, exec (.hfPllLock true) s = .next t ∧ t.pwr = { s.pwr with hfLock := true }) ∧
    (s.hfReq = false → exec (.hfPllLock true) s = .next s)

/-- O21, derived (spec/03_rods.md (R129, R133, R134, R137, R138, R146, R150, R152, R153, R170, R667)). TRANSCEIVE whose
NLT passed while it waited ends LATE; with its bytes at hand it readies the frame of its descriptor, otherwise it
waits. FRAME_START ends a transaction that waited past its NLT; with every condition clear it sends the frame's
bytes, their CRC when TX_CRC is 1, and their parity bits for Type A, with the listeners of the zone, and counts it
for a transaction; otherwise it changes nothing. At the end of its transmission the exchange waits, or with NO_RX
its transaction ends OK. FDT_MIN opens the window. A SOF from 8*FDT_MIN to 8*RESP_WAIT, both included, begins the
reception with its FDT_MEAS and opens the group of its FRAME record, whose need is that of the largest response it
accepts; an earlier one sets EARLY_SOF for a transaction; a later one ends a transaction NO_RESPONSE and counts as
late. WINDOW_CLOSE ends a transaction NO_RESPONSE and counts it. The end of the response ends a transaction with the
status of the checks; that of a late frame starts NEXT_MIN. NEXT_MIN_EXPIRY lets the next frame go unless a late
frame is on the air. Up to its window no other rod changes. Model's choices: the verifier's order (log entry 22), a
command not due (log entry 1). -/
def Obligations.ExchangesGoThroughTheirPhases : Prop :=
  ∀ (s : State) (n : Fin 24),
    (∀ u buf, s.rodTake? n 3 = some u → s.hasTxBytes u = false → exec (.transceive n buf) s = .next s) ∧
    (∀ u buf, s.rodTake? n 3 = some u → s.txn? u.id = some u → s.hasTxBytes u = true → s.nltPassed u.desc = true →
      ∃ t v, exec (.transceive n buf) s = .next t ∧ t.txn? u.id = some v ∧ v.phase = .done .late) ∧
    (∀ u buf, s.rodTake? n 3 = some u → s.txn? u.id = some u → s.hasTxBytes u = true → s.nltPassed u.desc = false →
      ∃ t x, exec (.transceive n buf) s = .next t ∧ (t.rod n).air = some x ∧ t.txns = (s.run u.id).txns ∧
      x.phase = .ready ∧ x.txn = some u.id ∧ x.noRx = (descByte u.desc 17).testBit 4 ∧
      x.bytes = (if (descByte u.desc 17).testBit 2 then descBytes u.desc 32 (descField u.desc 20 2)
        else (padTo (descField u.desc 20 2) buf).take (descField u.desc 20 2)) ∧
      (∀ m, m ≠ n → t.rod m = s.rod m)) ∧
    (∀ x, (s.rod n).air = some x →
      (∀ u, s.overdue? n = some u → exec (.frameStart n) s = .next (s.endLate n u)) ∧
      (s.overdue? n = none → s.frameClear n = false → exec (.frameStart n) s = .next s) ∧
      (s.overdue? n = none → s.frameClear n = true → ∃ t y, exec (.frameStart n) s = .next t ∧ (t.rod n).air = some y ∧ y.phase = .tx ∧
        y.bytes = x.bytes ∧ y.listeners = s.listenersOf n ∧ (t.rod n).gain = (s.rod n).gainFor (s.snapOf n x) ∧
        t.out = s.logged [.rodFrame n.val (if x.txCrc then x.bytes ++ leBytes 2 (rodCrc x.prof.proto x.bytes).toNat
          else x.bytes) x.lastBits (if x.prof.proto = 1 then (wholeBytes x).map oddParity else [])] ∧
        (x.txn.isSome = true → x.prepared = false →
          t.rd F.ROD_CNT_TX_COUNT n.val = (s.rd F.ROD_CNT_TX_COUNT n.val + 1) % F.ROD_CNT_TX_COUNT.size) ∧
        (∀ m, m ≠ n → t.rod m = s.rod m) ∧ t.txns = s.txns) ∧
      (x.phase ≠ .tx → exec (.frameTxEnd n) s = .next s) ∧
      (x.phase = .tx → x.noRx = false → ∃ t, exec (.frameTxEnd n) s = .next t ∧
        (t.rod n).air = some { x with phase := .waiting, sent := s.sys.timebase } ∧ (∀ m, m ≠ n → t.rod m = s.rod m) ∧ t.txns = s.txns) ∧
      (∀ u, x.phase = .tx → x.noRx = true → x.txn = some u.id → s.txn? u.id = some u → u.live = true →
        s.rodBusy? n = some u →
        ∃ t v, exec (.frameTxEnd n) s = .next t ∧ t.txn? u.id = some v ∧ v.phase = .done .ok) ∧
      (∃ t, exec (.windowOpen n) s = .next t ∧ (t.rod n).air =
          some (if x.phase = .waiting then { x with phase := .window } else x) ∧ (∀ m, m ≠ n → t.rod m = s.rod m) ∧
        t = { s with rods := t.rods }) ∧
      (x.phase ≠ .window → exec (.windowClose n) s = .next s) ∧
      (∀ u, x.phase = .window → x.txn = some u.id → s.txn? u.id = some u → u.live = true → s.rodBusy? n = some u →
        ∃ t v, exec (.windowClose n) s = .next t ∧ t.txn? u.id = some v ∧ v.phase = .done .noResponse ∧
          t.rd F.ROD_CNT_NORESP_COUNT n.val = (s.rd F.ROD_CNT_NORESP_COUNT n.val + 1) % F.ROD_CNT_NORESP_COUNT.size) ∧
      (∀ fdt chans, x.phase = .waiting ∨ x.phase = .window →
        (8 * x.prof.fdtMin ≤ fdt → fdt ≤ 8 * x.prof.respWait → ∃ t, exec (.sofDetect n fdt chans) s = .next t ∧
          (t.rod n).air = some { x with phase := .receiving, fdtMeas := fdt, chans := chans } ∧
          (x.credits ≠ 0 → (s.fifo (ix 24 n.val)).openGroup = none → ∃ g, (t.fifo (ix 24 n.val)).openGroup = some g ∧
            g.txn = x.txn ∧ g.need = 62 * x.credits) ∧
          (x.credits = 0 → t.fifos = s.fifos) ∧
          (∀ m, m ≠ n → t.rod m = s.rod m) ∧ t = { s with rods := t.rods, fifos := t.fifos }) ∧
        (fdt < 8 * x.prof.fdtMin → x.txn.isSome = true →
          exec (.sofDetect n fdt chans) s = .next (s.wr F.ROD_ERR_EARLY_SOF n.val 1)) ∧
        (∀ u, 8 * x.prof.fdtMin ≤ fdt → 8 * x.prof.respWait < fdt → (s.rod n).lateRx = false → x.purpose = .transceive →
          x.txn = some u.id → s.txn? u.id = some u → u.live = true → s.rodBusy? n = some u →
          ∃ t v, exec (.sofDetect n fdt chans) s = .next t ∧ t.txn? u.id = some v ∧ v.phase = .done .noResponse ∧
            t.flag F.ROD_ERR_LATE_SOF n.val = true ∧
            t.rd F.ROD_CNT_LATE_COUNT n.val = (s.rd F.ROD_CNT_LATE_COUNT n.val + 1) % F.ROD_CNT_LATE_COUNT.size)) ∧
      (∀ rx, (s.rod n).lateRx = false → x.phase ≠ .receiving → exec (.responseEnd n rx) s = .next s) ∧
      (∀ rx u, (s.rod n).lateRx = false → x.phase = .receiving → x.txn = some u.id → s.txn? u.id = some u → u.live = true →
        s.rodBusy? n = some u →
        ∃ t v, exec (.responseEnd n rx) s = .next t ∧ t.txn? u.id = some v ∧ v.phase = .done (judgeRx x rx).status)) ∧
    (∀ rx, (s.rod n).lateRx = true → ∃ t, exec (.responseEnd n rx) s = .next t ∧ (t.rod n).lateRx = false ∧ (t.rod n).gap = true) ∧
    ((s.rod n).gap = true → (s.rod n).lateRx = false → ∃ t, exec (.nextMinExpiry n) s = .next t ∧ (t.rod n).gap = false ∧
      (∀ m, m ≠ n → t.rod m = s.rod m) ∧ t = { s with rods := t.rods }) ∧
    ((s.rod n).gap = false ∨ (s.rod n).lateRx = true → exec (.nextMinExpiry n) s = .next s)

/-- O22, derived (spec/03_rods.md (R142, R143, R154, R157, R158, R159, R160, R161, R163, R164, R166, R167),
spec/03_rods.md (R170)). MEASURE whose NLT passed while it waited ends LATE; otherwise it runs and changes no other
rod, no FIFO, and no register but what the timers capture at the edge of its FIELD. MEASURE_DONE of a measurement
that can end ends it OK, in CARRIER mode with its amplitude and phase in ROD_MEAS, and otherwise changes nothing.
RUN_PLAN with no plan running ends LATE when its NLT has passed; otherwise, its tiles verified, it starts the
invocation at ENTRY, which takes over its slot, and ends OK, and with a failed tile it ends CHECKSUM_FAIL and no
plan runs; it waits while the checksum engine verifies a tile. STOP_PLAN without a plan ends OK at once; with one it
waits and asks the plan to stop. ROD_NLT_EXPIRY of a waiting transaction whose NLT has passed ends it LATE, or
FIELD_BUDGET when only the budget holds it; with none it changes nothing. ROD_CNT_CLR with bit 0 zeroes the six
counters and nothing else, without it nothing. FLUSH and ABORT end OK: every transaction of the rod fetched earlier
ends FLUSHED, for ABORT every dispatched one ABORTED while a staged one stays; no plan, no held record and no open
group of the rod remains, its exchange ends, a reader frame on the air with the protocol's EOF; the carrier stays as
it is with FIELD 0 and ABORT, and ramps down with FIELD 1. With nothing to end they change no rod. Model's choices:
the verifier's order (log entry 22), a command not due (log entry 1). -/
def Obligations.RodDescriptorsMeasureStopAndEnd : Prop :=
  (∀ (s : State) (n : Fin 24) (u : Txn), s.rodTake? n 4 = some u → s.txn? u.id = some u → s.nltPassed u.desc = true →
    ∃ t v, exec (.measure n) s = .next t ∧ t.txn? u.id = some v ∧ v.phase = .done .late) ∧
  (∀ (s : State) (n : Fin 24) (u : Txn), s.rodTake? n 4 = some u → s.txn? u.id = some u → s.nltPassed u.desc = false → ∃ t, exec (.measure n) s = .next t ∧
    t.txns = (s.run u.id).txns ∧ (∀ m, m ≠ n → t.rod m = s.rod m) ∧ t.fifos = s.fifos ∧
    (t.regs = s.regs ∨ ((s.rod n).carrier = .off ∧ t.regs = (s.fieldEdge n .off .rampUp).regs))) ∧
  (∀ (s : State) (n : Fin 24) (u : Txn) (a p k : Nat) (clip : Bool), s.rodRuns? n 4 = some u → s.txn? u.id = some u →
    (s.canMeasure n u = false → exec (.measureDone n a p k clip) s = .next s) ∧
    (s.canMeasure n u = true → ∃ t v, exec (.measureDone n a p k clip) s = .next t ∧ t.txn? u.id = some v ∧
      v.phase = .done .ok ∧ (descByte u.desc 17 = 0 → t.rd F.ROD_MEAS_AMP n.val = a % 65536 ∧
        t.rd F.ROD_MEAS_PHASE n.val = p % 1024))) ∧
  (∀ (s : State) (n : Fin 24) (u : Txn) (crcs : List (Nat × Word)), s.rodTake? n 5 = some u → s.txn? u.id = some u →
    s.plan? n = none →
    (s.nltPassed u.desc = true → ∃ t v, exec (.runPlan n crcs) s = .next t ∧ t.txn? u.id = some v ∧ v.phase = .done .late ∧ t.plan? n = none) ∧
    (s.nltPassed u.desc = false → s.board.verify = [] → ∀ s1, State.verifyPlanTiles crcs (planTiles (descByte u.desc 18) s.filterNow) s = (s1, true) → ∃ t v pl, exec (.runPlan n crcs) s = .next t ∧ t.txn? u.id = some v ∧
      v.phase = .done .ok ∧ v.slot = .none ∧ t.plan? n = some pl ∧ pl.tile = descByte u.desc 18 ∧ pl.entry = descField u.desc 20 2 ∧
      pl.slot = u.slot ∧ t.rd F.ROD_PLAN_STAT_PASSES n.val = 0) ∧
    (s.nltPassed u.desc = false → s.board.verify = [] → ∀ s1, State.verifyPlanTiles crcs (planTiles (descByte u.desc 18) s.filterNow) s = (s1, false) → ∃ t v, exec (.runPlan n crcs) s = .next t ∧ t.txn? u.id = some v ∧
      v.phase = .done .checksumFail ∧ t.plan? n = none) ∧
    (s.nltPassed u.desc = false → s.board.verify ≠ [] → exec (.runPlan n crcs) s = .next s)) ∧
  (∀ (s : State) (n : Fin 24) (u : Txn), s.txns.find? (fun t => t.unit == n.val && t.isQueued && t.op == 6) = some u →
    s.txn? u.id = some u →
    (s.plan? n = none → ∃ t v, exec (.stopPlan n) s = .next t ∧ t = { s with txns := t.txns } ∧
      t.txn? u.id = some v ∧ v.phase = .done .ok) ∧
    (∀ p, s.plan? n = some p → exec (.stopPlan n) s = .next (((s.run u.id).modPlan n (fun q =>
      { q with stop := if p.stop = some 0 then some 0 else some (descByte u.desc 16) })).planBoundary n))) ∧
  (∀ (s : State) (n : Fin 24) (u : Txn),
    s.txns.find? (fun t => t.unit == n.val && s.nltPassed t.desc && s.stillWaits n t) = some u → s.txn? u.id = some u →
    ∃ t v, exec (.rodNltExpiry n) s = .next t ∧ t.txn? u.id = some v ∧
      v.phase = .done (if s.onlyBudget n u then .fieldBudget else .late)) ∧
  (∀ (s : State) (n : Fin 24), s.txns.find? (fun t => t.unit == n.val && s.nltPassed t.desc && s.stillWaits n t) = none →
    exec (.rodNltExpiry n) s = .next s) ∧
  (∀ (s : State) (n : Fin 24) (w : Word), s.isOn (bankOf n.val) = true →
    ∃ t, exec (.rodCntClr n w) s = .next t ∧ (w.toNat.testBit 0 = false → t = s) ∧
      (w.toNat.testBit 0 = true → (∀ f ∈ [F.ROD_CNT_TX_COUNT, F.ROD_CNT_OK_COUNT, F.ROD_CNT_CRC_COUNT,
          F.ROD_CNT_NORESP_COUNT, F.ROD_CNT_COLL_COUNT, F.ROD_CNT_LATE_COUNT], t.rd f n.val = 0) ∧
        RegsOnly s t [F.ROD_CNT_TX_COUNT.key n.val, F.ROD_CNT_OK_COUNT.key n.val, F.ROD_CNT_CRC_COUNT.key n.val,
          F.ROD_CNT_NORESP_COUNT.key n.val, F.ROD_CNT_COLL_COUNT.key n.val, F.ROD_CNT_LATE_COUNT.key n.val])) ∧
  (∀ (s : State) (n : Fin 24) (d : Desc), s.mayFetch (ix 31 n.val) = true → s.txns = [] → s.plan? n = none →
    (s.rod n).held = [] → s.fetchEnd n.val d = none → (∀ m, s.plan? m = none) →
    (descByte d 0 = 0x0E → descByte d 16 = 0 → ∃ t, exec (.rodFlush n d) s = .next t ∧ CutEnds s t n) ∧
    (descByte d 0 = 0x0F → ∃ t, exec (.rodAbort n d) s = .next t ∧ CutEnds s t n)) ∧
  (∀ (s : State) (n : Fin 24) (d : Desc), s.mayFetch (ix 31 n.val) = true → (descByte d 1).testBit 0 = false →
    s.fetchEnd n.val d = none → s.txn? s.sys.nextId = none →
    (descByte d 0 = 0x0E → ∃ t, exec (.rodFlush n d) s = .next t ∧ RodCut s t n true .flushed ∧ EndsWith t s.sys.nextId .ok ∧
      (descByte d 16 = 0 → CarrierLeft s t n) ∧
      (descByte d 16 = 1 → (s.rod n).carrier = .on → s.listening n.val = false → (t.rod n).carrier = .rampDown)) ∧
    (descByte d 0 = 0x0F → ∃ t, exec (.rodAbort n d) s = .next t ∧ RodCut s t n false .aborted ∧ EndsWith t s.sys.nextId .ok ∧
      CarrierLeft s t n))

/-- O23, derived (spec/03_rods.md (R162), spec/05_inventory_and_harvest.md (R214, R216, R219, R220, R221, R222),
spec/11_record_memory.md (R497, R498)). At a main-flow step that can be carried out and that nothing holds, each
step but INVENTORY is counted in STEPS and noted in LAST_STEP and ROD_PLAN_STAT.STEP, and: WAIT waits, with OFF
ramping an ON carrier that does not listen down first, and WAIT_EXPIRY goes on at the next position; BRANCH_IF goes
to TARGET when COND holds and to the next position otherwise; EMIT with SYNC 0, or of a rod that holds no record,
writes its RESULT record of MARK and round number and goes on, with SYNC 1 it waits while the rod holds a record,
and EMIT_SYNC_WRITE then writes it; END with MODE 1, or at the repeat limit, ends the invocation of a rod that holds
nothing, and with MODE 0, no limit reached and all its tiles verified, increments PASSES and goes on at ENTRY.
INVENTORY enters its step with no UID decoded; its first cycle waits, uncounted, while there is no free entry or no
credit; with both and the carrier ON at the plan's power it is counted as the step and its first frame stands in
front of the rod; while a raise of the plan waits it waits. The model's choices: details of a plan (log entry 46),
the order of the verifier (22), a command not due (1). No other rod changes. -/
def Obligations.PlanStepsMoveTheInvocation : Prop :=
  ∀ (s : State) (n : Fin 24) (p : Plan),
    let b := s.stepBytes p p.pc
    let key := F.ROD_PLAN_STAT_STEP.key n.val
    (PlanAtStep s n p 6 → (byteAt b 6).testBit 0 = false → ∃ t, exec (.waitStep n) s = .next t ∧
      t.plan? n = some { p.begun with stage := .waiting false } ∧ t.rd F.ROD_PLAN_STAT_STEP n.val = p.pc ∧
      RodFrame s t n [key] ∧ t.rod n = { s.rod n with plan := t.plan? n }) ∧
    (PlanAtStep s n p 6 → (byteAt b 6).testBit 0 = true → (s.rod n).carrier = .on → s.listening n.val = false →
      ∃ t, exec (.waitStep n) s = .next t ∧ t.plan? n = some { p.begun with stage := .waiting true } ∧
        (t.rod n).carrier = .rampDown ∧ t.rd F.ROD_PLAN_STAT_STEP n.val = p.pc ∧ (∀ m, m ≠ n → t.rod m = s.rod m)) ∧
    (s.plan? n = some p → p.stage = .waiting false → s.round.step = 0 →
      exec (.waitExpiry n) s = .next (s.goTo n (p.pc + 1))) ∧
    (s.plan? n = some p → p.stage = .waiting false → s.round.step = 0 → p.stop ≠ some 0 → p.doom = none →
      ∃ t, exec (.waitExpiry n) s = .next t ∧ t.plan? n = some { p with stage := .boundary, pc := p.pc + 1 } ∧
        RodFrame s t n [] ∧ t.rod n = { s.rod n with plan := t.plan? n }) ∧
    (PlanAtStep s n p 7 → ∃ t, exec (.branchIf n) s = .next t ∧
      (CondHolds s p b → t.plan? n = some { p.begun with pc := stepField b 4 2 % 1024 }) ∧
      (¬CondHolds s p b → t.plan? n = some { p.begun with pc := p.pc + 1 }) ∧
      t.rd F.ROD_PLAN_STAT_STEP n.val = p.pc ∧ RodFrame s t n [key] ∧ t.rod n = { s.rod n with plan := t.plan? n }) ∧
    (PlanAtStep s n p 8 → s.planCredit n = true → (byteAt b 10).testBit 0 = false ∨ (s.rod n).held = [] → ∃ u t, exec (.emitStep n) s = .next t ∧
      RodFrame s u n [key] ∧ u.plan? n = some p.begun ∧
      t.fifos = (u.emitPlan n p .result .ok s.sys.timebase ((b.drop 2).take 8 ++ leBytes 4 s.roundNo) none).fifos ∧
      t.plan? n = some { p.begun with pc := p.pc + 1 } ∧ (∀ m, m ≠ n → t.rod m = s.rod m) ∧ t.field = s.field ∧ t.txns = s.txns) ∧
    (PlanAtStep s n p 8 → s.planCredit n = true → (byteAt b 10).testBit 0 = true → (s.rod n).held ≠ [] →
      ∃ t, exec (.emitStep n) s = .next t ∧ t.plan? n = some { p.begun with stage := .emitSync } ∧ RodFrame s t n [key] ∧
        t.rod n = { s.rod n with plan := t.plan? n }) ∧
    (s.plan? n = some p → p.stage = .emitSync → s.round.step = 0 → p.stop ≠ some 0 → p.doom = none →
      ((s.rod n).held ≠ [] → exec (.emitSyncWrite n) s = .next s) ∧
      ((s.rod n).held = [] → ∃ t, exec (.emitSyncWrite n) s = .next t ∧
        t.fifos = (s.emitPlan n p .result .ok s.sys.timebase ((b.drop 2).take 8 ++ leBytes 4 s.roundNo) none).fifos ∧
        t.plan? n = some { p with stage := .boundary, pc := p.pc + 1 } ∧ (∀ m, m ≠ n → t.rod m = s.rod m) ∧ t.txns = s.txns)) ∧
    (PlanAtStep s n p 1 → (newInv p b).step = p.pc ∧ (newInv p b).bytes = b ∧
      (newInv p b).prof = p.snap.prof (stepProfile b p.profile) ∧ (newInv p b).cycles = 0 ∧ (newInv p b).decoded = 0 ∧
      (newInv p b).stack = [⟨stepField b 8 8, byteAt b 7, 0, (byteAt b 5).testBit 0⟩] ∧ (newInv p b).tag = none ∧
      (newInv p b).inCycle = false ∧
      (4 ≤ (s.rod n).held.length ∨ s.planCredit n = false → ∃ t, exec (.inventory n) s = .next t ∧
        t.rod n = { s.rod n with plan := some { p with stage := .inventory, inv := some (newInv p b) } } ∧ RodFrame s t n []) ∧
      ((s.rod n).held.length < 4 → s.planCredit n = true → CarrierServes s n p → ∃ t, exec (.inventory n) s = .next t ∧
        (t.rod n).air = some (firstFrame (newInv p b).nextCycle) ∧
        t.plan? n = some { p.begun with
          stage := .inventory, wantCarrier := false, invAny := some false, inv := some { (newInv p b).nextCycle with cycles := 1 } } ∧
        t.rd F.ROD_PLAN_STAT_STEP n.val = p.pc ∧ (∀ m, m ≠ n → t.rod m = s.rod m)) ∧
      ((s.rod n).held.length < 4 → s.planCredit n = true → (s.rod n).carrier = .on → s.startQueued n.val none = true →
        ∃ t, exec (.inventory n) s = .next t ∧ (t.rod n).air = none ∧
        t.plan? n = some { p with stage := .inventory, inv := some (newInv p b), wantCarrier := true })) ∧
    (∀ crcs, PlanAtStep s n p 0 → s.board.verify = [] → byteAt b 2 = 1 ∨ (p.repeatN ≠ 0 ∧ p.repeatN ≤ p.passes + 1) → (s.rod n).held = [] → ∃ t, exec (.endStep n crcs) s = .next t ∧
      t.plan? n = none ∧ (∀ m, m ≠ n → t.rod m = s.rod m) ∧ (t.rod n).held = [] ∧ (t.rod n).carrier = (s.rod n).carrier ∧
      t.rd F.ROD_PLAN_STAT_PASSES n.val = min 65535 (p.passes + 1)) ∧
    (∀ crcs, PlanAtStep s n p 0 → s.board.verify = [] → byteAt b 2 = 0 → p.repeatN = 0 ∨ p.passes + 1 < p.repeatN → p.stop = none →
      (∀ k ∈ planTiles p.tile p.filter, (s.planTile (ix 15 k)).st = .ready ∧
        ∀ c ∈ crcs, c.1 = (ix 15 k).val → c.2 = (s.planTile (ix 15 k)).crc) →
      ∃ t, exec (.endStep n crcs) s = .next t ∧
        t.plan? n = some { p.begun with passes := p.passes + 1, stage := .boundary, pc := p.entry } ∧
        t.rd F.ROD_PLAN_STAT_PASSES n.val = min 65535 (p.passes + 1) ∧
        RodFrame s t n [key, F.ROD_PLAN_STAT_PASSES.key n.val, F.BRD_CNT_VERIFY_COUNT.key 0])

/-- O24, derived (spec/05_inventory_and_harvest.md (R217, R222, R224, R229, R230, R231, R232, R234, R241, R250, R257)).
INVENTORY_CYCLE with no free entry changes nothing; with one, the record credit and the carrier ON at the plan's
power it pops a mask and readies its first frame, for ISO/IEC 15693 the Inventory request of that mask. With a tag's
list at a step of its kind, SELECT, READ_BLOCKS, READ_BLOCKS_EXT, GET_INFO, WRITE_BLOCKS and LOCK_BLOCK ready the
frame of the step, but SELECT of Type A adds an empty entry to the held record, unless a failed tile is about to end
the invocation; in the addressed mode of ISO/IEC 15693 the frames are 0x25, 0x23 with block and count, 0x33 with
16-bit block and count, 0x2B, 0x21 with its first block and data, and 0x22 with its block, each with flags and UID.
Each is noted in ROD_PLAN_STAT.STEP, and no other rod changes. WRITE_WAIT_EXPIRY of a tag that waits for its carry
notes the write steps in its held record as given up and ends its list, with the QUIET frame where asked for; with
no tag that waits, or WRITE_WAIT 0 when the plan was dispatched, it changes nothing. WRITE_BLOCKS and LOCK_BLOCK
wait for a credit. The command bytes of the frames are taken from the standards (log entry 48); a command not due
changes nothing (log entry 1). -/
def Obligations.InventoryCyclesAndPerTagStepsSendTheirFrames : Prop :=
  ∀ (s : State) (n : Fin 24),
    (∀ p i, s.plan? n = some p → p.stage = .inventory → p.inv = some i → s.unitMay n = true → s.flag F.DBG_STAT_HALTED = false →
      s.flag F.DBG_BP_EN = false →
      (4 ≤ (s.rod n).held.length → exec (.inventoryCycle n) s = .next s) ∧
      ((s.rod n).held.length < 4 → s.planCredit n = true → CarrierServes s n p → ∃ t, exec (.inventoryCycle n) s = .next t ∧
        (t.rod n).air = some (firstFrame i.nextCycle) ∧ t.inv? n = some { i.nextCycle with cycles := i.cycles + 1 } ∧
        (∀ m, m ≠ n → t.rod m = s.rod m)) ∧
      (∀ e rest, (s.rod n).held.length < 4 → s.planCredit n = true → CarrierServes s n p → i.prof.proto = 0 →
        i.stack = e :: rest → ∃ t x j, exec (.inventoryCycle n) s = .next t ∧ (t.rod n).air = some x ∧ x.phase = .ready ∧
          x.txn = none ∧ x.purpose = .inv15 0 ∧ x.txCrc = true ∧
          x.bytes = leBytes 1 (flags15 i.prof + 4 + (if (byteAt i.bytes 5).testBit 1 then 0x10 else 0) + (if e.slots16 then 0 else 0x20))
            ++ [1#8] ++ (if (byteAt i.bytes 5).testBit 1 then leBytes 1 (byteAt i.bytes 6) else []) ++ leBytes 1 e.len
            ++ leBytes ((e.len + 7) / 8) e.mask ∧
          s.inv? n = some i ∧ t.inv? n = some j ∧ j.stack = rest ∧ j.cur = e ∧ j.cycles = i.cycles + 1 ∧ j.inCycle = true ∧
          j.decoded = i.decoded ∧ (∀ m, m ≠ n → t.rod m = s.rod m))) ∧
    (∀ p i g b, s.tagReady? n = some (p, i, g, b) →
      let prof := p.snap.prof (stepProfile b (i.profNo p))
      let fl := flags15 prof + 0x20
      let fo := fl + (if (byteAt b 5).testBit 0 then 0x40 else 0)
      let Sends := fun (o : Out) (data bytes : List Byte) => ∃ t x, o = .next t ∧ (t.rod n).air = some x ∧
        x = { tagFrame prof b g.uid data g.pos 0 0 with prepared := g.prep } ∧ x.phase = .ready ∧
        x.txn = none ∧ x.purpose = .perTag g.pos 0 0 ∧ x.txCrc = true ∧ x.rxCrc = true ∧
        (prof.proto = 0 → (stepOp b = 2 ∨ (byteAt b 5).testBit 1 = false) → x.bytes = bytes) ∧
        t.rd F.ROD_PLAN_STAT_STEP n.val = (i.tagFirst + g.pos) % F.ROD_PLAN_STAT_STEP.size ∧ (∀ m, m ≠ n → t.rod m = s.rod m)
      let data := Memory.readBytes s.planMem (16384 * p.tile + 16 * (stepField b 6 2 % 1024)) (byteAt b 4)
      (stepOp b = 2 → prof.proto ≠ 1 → Sends (exec (.selectStep n) s) [] (leBytes 1 fl ++ [0x25#8] ++ g.uid)) ∧
      (∀ k h, stepOp b = 2 → prof.proto = 1 → p.doom = none → s.heldOf n g.uid = some (k, h) → ∃ t h', exec (.selectStep n) s = .next t ∧
        (t.rod n).held[k]? = some h' ∧ h'.entries = (addEntry h.entries ⟨i.tagFirst + g.pos, .ok, []⟩).1) ∧
      (stepOp b = 3 → Sends (exec (.readBlocks n) s) []
        (leBytes 1 fo ++ [0x23#8] ++ g.uid ++ leBytes 1 (byteAt b 2) ++ leBytes 1 (byteAt b 4))) ∧
      (stepOp b = 4 → Sends (exec (.readBlocksExt n) s) []
        (leBytes 1 fo ++ [0x33#8] ++ g.uid ++ leBytes 2 (stepField b 2 2) ++ leBytes 2 (byteAt b 4))) ∧
      (stepOp b = 5 → Sends (exec (.getInfo n) s) [] (leBytes 1 fo ++ [0x2B#8] ++ g.uid)) ∧
      (stepOp b = 9 → s.planCredit n = true → Sends (exec (.writeBlocks n) s) data (leBytes 1 fl ++ [0x21#8] ++ g.uid ++ leBytes 1 (byteAt b 2) ++ data)) ∧
      (stepOp b = 10 → s.planCredit n = true → Sends (exec (.lockBlock n) s) [] (leBytes 1 fl ++ [0x22#8] ++ g.uid ++ leBytes 1 (byteAt b 2))) ∧
      (s.planCredit n = false → exec (.writeBlocks n) s = .next s ∧ exec (.lockBlock n) s = .next s)) ∧
    (∀ p i g k h, s.plan? n = some p → s.inv? n = some i → s.tag? n = some g → g.waiting = true → i.quiet = true →
      s.round.step = 0 → s.heldOf n g.uid = some (k, h) → p.snap.writeWait ≠ 0 →
      ∃ t g', exec (.writeWaitExpiry n) s = .next t ∧ t.tag? n = some g' ∧ g'.waiting = false ∧ g'.quieting = true ∧
        (t.rod n).held[k]? = some { h with
            complete := true, lateWrites := if s.writeBefore p i i.tagCount then some (s.writeSteps p i g.pos) else none } ∧ (∀ m, m ≠ n → t.rod m = s.rod m)) ∧
    (∀ p i g k h, s.plan? n = some p → s.inv? n = some i → s.tag? n = some g → g.waiting = true → i.quiet = false →
      p.doom = none → s.heldOf n g.uid = some (k, h) → p.snap.writeWait ≠ 0 →
      ∃ t, exec (.writeWaitExpiry n) s = .next t ∧ t.tag? n = none ∧
        (t.rod n).held[k]? = some { h with
            complete := true, lateWrites := if s.writeBefore p i i.tagCount then some (s.writeSteps p i g.pos) else none } ∧ (∀ m, m ≠ n → t.rod m = s.rod m)) ∧
    ((∀ g, s.tag? n = some g → g.waiting = false) → exec (.writeWaitExpiry n) s = .next s) ∧
    (∀ p, s.plan? n = some p → p.snap.writeWait = 0 → exec (.writeWaitExpiry n) s = .next s)

/-- O25, derived (spec/05_inventory_and_harvest.md (R236, R238, R239, R245, R246, R249, R252, R266, R268)). While no
tag's list is abandoned: FILTER_VERDICT of a held record without a verdict passes it when no filter is in force, or
when the filter tiles do not overlap the deduplication tiles and its key is present, and otherwise discards it and
counts FILTER, an overlap also setting OVERLAP; a verdict already there stays. HELD_RECORD_CARRY of a record that
R246 carries, whose FIFO can take the packet, marks it as being written and opens the group; of any other it changes
nothing. CARRY_LENGTH_WORD of a rod's only held record, with no other of its UID, no slot or ending invocation that
waits for it and no group behind it, writes the READ record, marks the UID CARRIED, frees the entry and counts it. A
command not due changes nothing (log entry 1). -/
def Obligations.HeldRecordsAreJudgedCarriedAndCounted : Prop :=
  ∀ (s : State) (n : Fin 24) (j : Nat) (h : Held) (p : Plan), (s.rod n).held[j]? = some h → s.plan? n = some p →
    (∀ (m : Fin 24) g, s.tag? m = some g → g.gone = false ∧ g.uid ≠ h.uid) →
    (h.verdict ≠ none → exec (.filterVerdict n j) s = .next s) ∧
    (h.verdict = none → p.filter = none → exec (.filterVerdict n j) s =
      .next (s.modHeld n j (fun h => { h with verdict := some true }))) ∧
    (∀ f, h.verdict = none → p.filter = some f → s.filterOverlap f = false →
      let hit := ∃ i < 8, Memory.readBytes s.planMem
        (16384 * f.1 + 64 * ((crc32c (filterKey h.proto h.uid)).toNat % 2 ^ f.2) + 8 * i) 8 = filterKey h.proto h.uid
      ∃ t, exec (.filterVerdict n j) s = .next t ∧
        (hit → t = s.modHeld n j (fun h => { h with verdict := some true })) ∧
        (¬hit → (t.rod n).held = (s.rod n).held.eraseIdx j ∧
          t.rd F.ROD_SPEC_DISCARD_FILTER_COUNT n.val = (s.rd F.ROD_SPEC_DISCARD_FILTER_COUNT n.val + 1) % 2 ^ 32 ∧
          ∀ m, m ≠ n → (t.rod m).held = (s.rod m).held)) ∧
    (∀ f, h.verdict = none → p.filter = some f → s.filterOverlap f = true → ∃ t, exec (.filterVerdict n j) s = .next t ∧
      t.rd F.ROD_INV_ERR_OVERLAP = 1 ∧ (t.rod n).held = (s.rod n).held.eraseIdx j ∧
      t.rd F.ROD_SPEC_DISCARD_FILTER_COUNT n.val = (s.rd F.ROD_SPEC_DISCARD_FILTER_COUNT n.val + 1) % 2 ^ 32 ∧
      ∀ m, m ≠ n → (t.rod m).held = (s.rod m).held) ∧
    (let words := packetWords (tagClen h.entries)
     let goes := h.complete = true ∧ h.verdict = some true ∧ h.registered = true ∧ h.carrying = false ∧
       s.isCarried h.uid = false ∧ (∀ (m : Fin 24), ∀ g ∈ (s.rod m).held, outranks g m.val h n.val = false) ∧
       s.takesPacket n words = true
     (¬goes → exec (.heldRecordCarry n j) s = .next s) ∧
     (goes → ∃ t, exec (.heldRecordCarry n j) s = .next t ∧ (t.rod n).held[j]? = some { h with carrying := true } ∧
       (t.fifo (ix 24 n.val)).openGroup = some ⟨none, 1, words, false⟩ ∧ (∀ m, m ≠ n → t.rod m = s.rod m) ∧
       t = { s with rods := t.rods, fifos := t.fifos })) ∧
    ((s.rod n).held = [h] → h.carrying = true → h.lateWrites = none → (∀ (m : Fin 24), m ≠ n → ∀ g ∈ (s.rod m).held, g.uid ≠ h.uid) →
      (∀ (m : Fin 24) q c, s.plan? m = some q → q.stage ≠ .ending c) → (s.fifo (ix 24 n.val)).waiting = [] →
      (∀ (m : Fin 24) i, s.inv? m = some i → i.slotWait = false) →
      ∃ t, exec (.carryLengthWord n) s = .next t ∧ (t.rod n).held = [] ∧
        t.fifos = ((s.modFifo (ix 24 n.val) (fun q => { q with openGroup := none })).writeGroup (ix 24 n.val)
          (packetsOf ⟨.tag, .ok, n.val, p.no, 0xFE, h.stamp, tagContent 0 h.proto n.val h.near h.strength h.nearRssi s.roundNo
            h.trunc h.combined h.uid h.entries, 0, false⟩ none) none).fifos ∧
        (∀ d ∈ t.round.dedup, d.uid = h.uid → d.carried = true) ∧ (∀ m, m ≠ n → t.rod m = s.rod m) ∧
        t.plan? n = some { p with carried := p.carried + 1 } ∧
        t.rd F.ROD_SPEC_CARRIED_COUNT n.val = (s.rd F.ROD_SPEC_CARRIED_COUNT n.val + 1) % 2 ^ 32)

/-- O26, derived (spec/00_scope.md (R11), spec/05_inventory_and_harvest.md (R247, R248, R261, R262, R263, R264, R265,
R266, R268, R270), spec/11_record_memory.md (R487)). ROUND_END and a write of ROD_ROUND_CTL with END give a start of
their kind, and ROUND_CTL_END without END none. ROUND_BOUNDARY with starts and no boundary in progress enters step 1
with the last token's number; with one in progress it sets MERGED. ROUND_STEP_END goes from step 1 to 2; step 2
waits for exchanges on the air, 3 for held records that are carried, 4 for the rod FIFOs, 5 for the seal; after step
6 the deduplication table is empty and the round number is the token's or one more; step 7 waits for ROUND_DONE and
then, no rod holding a record, returns to idle with the round's counts 0 and ends the running ROUND_ENDs OK. While
CORE is ON, SPEC_CNT_CLR with bit 0 set makes the eight speculation counters of its rod 0 and changes nothing else;
without it it changes nothing. FILTER_CFG_WRITE of a placement that ends past tile 15 sets ROD_INV_ERR.CFG and
changes nothing else; otherwise it sets EN, TILE and LOG2B (left as it is for a reserved value) and may set OVERLAP.
DEDUP_CFG_WRITE likewise sets BASE and TILES. A command not due changes nothing (log entry 1). -/
def Obligations.RoundsRunInOrderAndTheirSettingsApply : Prop :=
  (
    ∀ s : State,
      (∀ u, s.nextRoundEnd = some u → s.txn? u.id = some u → ∃ t, exec .roundEnd s = .next t ∧
        t.round = { s.round with starts := s.round.starts ++ [(0, none)] } ∧ t.txn? u.id = some { u with phase := .running } ∧
        t = { s with round := t.round, txns := t.txns }) ∧
      (s.nextRoundEnd = none → exec .roundEnd s = .next s) ∧
      (∀ w, s.isOn .core = true → exec (.roundCtlEnd w) s = .next
        (if w.getLsbD 0 then { s with round := { s.round with starts := s.round.starts ++ [(1, none)] } } else s)) ∧
      (s.round.starts = [] → exec .roundBoundary s = .next s) ∧
      (s.isOn .core = true → s.round.starts ≠ [] → s.round.step = 0 → ∃ t, exec .roundBoundary s = .next t ∧
        t.round = { s.round with step := 1, starts := [], token := s.round.starts.foldl (fun acc x => x.2.or acc) none }) ∧
      (s.isOn .core = true → s.round.starts ≠ [] → s.round.step ≠ 0 → ∃ t, exec .roundBoundary s = .next t ∧
        t.rd F.ROD_INV_ERR_MERGED = 1 ∧ t.round.step = s.round.step ∧ t.round.starts = [] ∧
        RegsOnly { s with round := t.round } t [F.ROD_INV_ERR_MERGED.key 0, F.ROD_ROUND_NO_ROUND.key 0]) ∧
      (s.round.step = 0 → exec .roundStepEnd s = .next s) ∧
      (s.isOn .core = true → s.round.starts = [] →
        (s.round.step = 1 → exec .roundStepEnd s = .next { s with round := { s.round with step := 2 } }) ∧
        (s.round.step = 2 → (∃ n x, (s.rod n).air = some x ∧ x.phase ≠ .ready) → exec .roundStepEnd s = .next s) ∧
        (s.round.step = 2 → (∀ n x, (s.rod n).air = some x → x.phase = .ready) → ∃ t, exec .roundStepEnd s = .next t ∧
          t.round = { s.round with step := 3 } ∧ ∀ n, (s.rod n).held.length ≤ 4 → (t.rod n).held = (s.rod n).held.filter (·.complete)) ∧
        (s.round.step = 3 → s.heldSettled = false → exec .roundStepEnd s = .next s) ∧
        (s.round.step = 3 → s.heldSettled = true → ∃ t, exec .roundStepEnd s = .next t ∧ t.round = { s.round with step := 4 } ∧
          ∀ n, (s.rod n).held.length ≤ 4 → (t.rod n).held = []) ∧
        (s.round.step = 4 → s.rodFifosEmpty = false → exec .roundStepEnd s = .next s) ∧
        (s.round.step = 4 → s.rodFifosEmpty = true → ∃ t, exec .roundStepEnd s = .next t ∧ t.round = { s.round with step := 5 } ∧
          (∀ k, s.openTile? = some k → (t.tile k).st = .sealing)) ∧
        (s.round.step = 5 → s.tilesIn .sealing = 0 → exec .roundStepEnd s = .next { s with round := { s.round with step := 6 } }) ∧
        (s.round.step = 5 → s.tilesIn .sealing ≠ 0 → exec .roundStepEnd s = .next s) ∧
        (s.round.step = 6 → ∃ t, exec .roundStepEnd s = .next t ∧ t.round.step = 7 ∧ t.round.dedup = [] ∧
          t.round.base = s.rd F.ROD_DEDUP_CFG_BASE ∧ t.round.tiles = s.rd F.ROD_DEDUP_CFG_TILES ∧
          t.rd F.ROD_ROUND_NO_ROUND = (match s.round.token with | some w => w.toNat | none => (s.roundNo + 1) % 2 ^ 32)) ∧
        (s.round.step = 7 → s.doneWaits = true → exec .roundStepEnd s = .next s) ∧
        (s.round.step = 7 → s.doneWaits = false → (∀ n, (s.rod n).held = []) → ∃ t, exec .roundStepEnd s = .next t ∧ t.round.step = 0 ∧ t.round.token = none ∧
          t.rd F.ROD_ROUND_CARRIED_COUNT = 0 ∧ t.rd F.ROD_ROUND_DISC_COUNT = 0 ∧
          ∀ u ∈ s.txns, u.unit = unitSys → u.isRunning = true → u.op = 0x30 → s.txn? u.id = some u → EndsWith t u.id .ok))) ∧ (
    ∀ (s : State) (n : Fin 24) (w : Word), s.isOn .core = true →
      let v := w.toNat
      let clr : List Fld := [F.ROD_SPEC_CARRIED_COUNT, F.ROD_SPEC_DISCARD_FILTER_COUNT, F.ROD_SPEC_DISCARD_DUP_COUNT,
        F.ROD_SPEC_DISCARD_CRC_COUNT, F.ROD_SPEC_DISCARD_ROUND_END_COUNT, F.ROD_SPEC_DISCARD_FLUSH_COUNT,
        F.ROD_PREP_SENT_COUNT, F.ROD_PREP_DISCARD_COUNT]
      let log2b := if 4 ≤ v / 256 % 16 ∧ v / 256 % 16 ≤ 11 then v / 256 % 16 else s.rd F.ROD_FILT_CFG_LOG2B
      let past := 16 < v / 16 % 16 + (2 ^ log2b + 255) / 256
      let tiles := if 1 ≤ v / 16 % 8 ∧ v / 16 % 8 ≤ 4 then v / 16 % 8 else s.rd F.ROD_DEDUP_CFG_TILES
      (w.getLsbD 0 = true → ∃ t, exec (.specCntClr n w) s = .next t ∧ (∀ f ∈ clr, t.rd f n.val = 0) ∧
        RegsOnly s t (clr.map (fun f => f.key n.val))) ∧
      (w.getLsbD 0 = false → exec (.specCntClr n w) s = .next s) ∧
      (past → exec (.filterCfgWrite w) s = .next (s.wr F.ROD_INV_ERR_CFG 0 1)) ∧
      (¬past → ∃ t, exec (.filterCfgWrite w) s = .next t ∧ t.rd F.ROD_FILT_CFG_EN = v % 2 ∧
        t.rd F.ROD_FILT_CFG_TILE = v / 16 % 16 ∧ t.rd F.ROD_FILT_CFG_LOG2B = log2b % 16 ∧
        RegsOnly s t [F.ROD_FILT_CFG_EN.key 0, F.ROD_FILT_CFG_TILE.key 0, F.ROD_FILT_CFG_LOG2B.key 0, F.ROD_INV_ERR_OVERLAP.key 0]) ∧
      (16 < v % 16 + tiles → exec (.dedupCfgWrite w) s = .next (s.wr F.ROD_INV_ERR_CFG 0 1)) ∧
      (v % 16 + tiles ≤ 16 → ∃ t, exec (.dedupCfgWrite w) s = .next t ∧ t.rd F.ROD_DEDUP_CFG_BASE = v % 16 ∧
        t.rd F.ROD_DEDUP_CFG_TILES = tiles % 8 ∧ RegsOnly s t [F.ROD_DEDUP_CFG_BASE.key 0, F.ROD_DEDUP_CFG_TILES.key 0]))

/-- O27, derived (spec/04_field_sharing.md (R172, R173, R174, R175, R176, R177, R179, R180)). SURVEY_START with START
while no survey runs ends with ABORT and CAUSE 1 with the PLL unlocked, 2 with a masked rod's bank not ON, 3 in
shutdown, and otherwise settles with the mask and LOAD; while one runs it only sets SURVEY_BUSY; without START it
sets LOAD. SURVEY_BEGIN waits for every carrier to be at zero and then averages in the slot of the lowest masked
rod, or ends the survey of an empty mask. SURVEY_AVERAGE_END of a slot keeps one coefficient for each masked rod
that fits its registers, 0 below the floor unless the receiver clipped, and notes whether one clipped;
SURVEY_SLOT_END after it writes them as the row, unmeasured entries 0x8000, and goes to the next masked rod or ends
with DONE. Each changes nothing outside its phase (log entry 1). Model's choices: CLIP and the floor (log entry 20),
when a quiet rod ramps down (66). -/
def Obligations.SurveysMeasureEveryMaskedRodInTurn : Prop :=
  ∀ s : State, s.isOn .core = true →
    let masked := fun (m k : Nat) => m.testBit k = true
    (∀ w : Word, s.field.survey ≠ .idle → exec (.surveyStart w) s =
      .next (if w.getLsbD 0 then s.wr F.FLD_STAT_SURVEY_BUSY 0 1 else s)) ∧
    (∀ w : Word, s.field.survey = .idle → w.getLsbD 0 = false → exec (.surveyStart w) s =
      .next (s.wr F.FLD_SURVEY_CTL_LOAD 0 (w.toNat / 2 % 2))) ∧
    (∀ w : Word, s.field.survey = .idle → w.getLsbD 0 = true →
      let bank := ∃ n : Fin 24, masked (s.rd F.FLD_SURVEY_MASK_MASK) n.val ∧ s.isOn (bankOf n.val) = false
      ∃ t, exec (.surveyStart w) s = .next t ∧
        (s.pwr.hfLock = false → t.field.survey = .idle ∧ t.rd F.FLD_SURVEY_STAT_ABORT = 1 ∧ t.rd F.FLD_SURVEY_STAT_CAUSE = 1) ∧
        (s.pwr.hfLock = true → bank → t.field.survey = .idle ∧ t.rd F.FLD_SURVEY_STAT_ABORT = 1 ∧
          t.rd F.FLD_SURVEY_STAT_CAUSE = 2) ∧
        (s.pwr.hfLock = true → ¬bank → s.field.shutdown = true → t.field.survey = .idle ∧ t.rd F.FLD_SURVEY_STAT_ABORT = 1 ∧
          t.rd F.FLD_SURVEY_STAT_CAUSE = 3) ∧
        (s.pwr.hfLock = true → ¬bank → s.field.shutdown = false → t.field.survey = .settling ∧
          t.field.mask = s.rd F.FLD_SURVEY_MASK_MASK ∧ (t.field.load = true ↔ w.getLsbD 1 = true) ∧
          (∀ n, s.rodQuiet n = true → (t.rod n).carrier ≠ .on ∧ (t.rod n).carrier ≠ .rampUp))) ∧
    (s.field.survey ≠ .settling ∨ (∃ n, (s.rod n).carrier ≠ .off ∧ (s.rod n).carrier ≠ .hold) →
      exec .surveyBegin s = .next s) ∧
    (s.field.survey = .settling → (∀ n, (s.rod n).carrier = .off ∨ (s.rod n).carrier = .hold) →
      (∀ n : Fin 24, masked s.field.mask n.val → (∀ m < n.val, ¬masked s.field.mask m) →
        ∃ t, exec .surveyBegin s = .next t ∧ t.field = { s.field with survey := .averaging n.val } ∧
          t.rd F.FLD_SURVEY_STAT_ROD = n.val ∧ RegsOnly { s with field := t.field } t [F.FLD_SURVEY_STAT_ROD.key 0]) ∧
      ((∀ m < 24, ¬masked s.field.mask m) → ∃ t, exec .surveyBegin s = .next t ∧
        t.field.survey = .idle ∧ t.rd F.FLD_SURVEY_STAT_DONE = 1)) ∧
    (∀ i v clip, s.field.survey = .averaging i → ∃ t, exec (.surveyAverageEnd v clip) s = .next t ∧
      t.field.survey = .tail i ((maskRods s.field.mask).any (fun j => clip.contains j.val)) ∧ t.field.row.map (·.1) = (List.range 24).filter (fun k => s.field.mask.testBit k) ∧
      (∀ k < 24, ∀ a c, masked s.field.mask k → v.getD k (0, 0) = (a, c) → -32768 ≤ a → a ≤ 32767 → -32768 ≤ c → c ≤ 32767 →
        (k, if clip.contains k = false ∧ (a * a + c * c).toNat ^ 10 * 10 ^ s.rd F.FLD_TAP_CFG_MIN_COUP < 8192 ^ 20 then 0
            else (a % 65536).toNat + 65536 * (c % 65536).toNat) ∈ t.field.row)) ∧
    (∀ v clip, (∀ i, s.field.survey ≠ .averaging i) → exec (.surveyAverageEnd v clip) s = .next s) ∧
    ((∀ i clip, s.field.survey ≠ .tail i clip) → exec .surveySlotEnd s = .next s) ∧
    (∀ i clip, i < 24 → s.field.survey = .tail i clip → ∃ t, exec .surveySlotEnd s = .next t ∧
      (∀ j < 24,
        let v := match s.field.row.find? (fun p => p.1 == j) with | some p => p.2 | none => 0x80008000
        t.rd F.FLD_COUP_C_I (24 * i + j) = v % 65536 ∧ t.rd F.FLD_COUP_C_Q (24 * i + j) = v / 65536 % 65536) ∧
      (∀ n : Fin 24, i < n.val → masked s.field.mask n.val → (∀ m, i < m → m < n.val → ¬masked s.field.mask m) →
        t.field.survey = .averaging n.val) ∧
      ((∀ m, i < m → m < 24 → ¬masked s.field.mask m) → t.field.survey = .idle ∧ t.rd F.FLD_SURVEY_STAT_DONE = 1))

/-- O28, derived (spec/04_field_sharing.md (R182, R183, R184, R185, R186, R187)). TAP_WRITE to a tap register while CORE
is ON adds the write to the waiting ones and changes no register. PILOT_PERIOD_END of a period with a single waiting
write of a weight sets the weight to it; with one of a selector it sets each legal source and leaves each field with
a reserved one; after it none waits, and the notes of the new period are those of its first instant. A used tap
whose update nothing skips adds its correction to its weight, saturated. With TRACK_EN 0, during a survey, and of an
unused tap, and of a rod whose carrier was not ON throughout, that spoke or listened, or whose ADC clipped, no
weight without a waiting write changes. What PILOT_PERIOD_END reports and the rounding of a correction are the
model's choices (log entry 73). -/
def Obligations.TapsAreWrittenAtThePilotPeriodBoundary : Prop :=
  ∀ (s : State) (e : PilotReport) (cl : List Nat),
    (∀ (n : Fin 24) (k : Fin 6) (w : Word), s.isOn .core = true →
      exec (.tapWrite (0x5300 + 0x18 * n.val + 4 * k.val) w) s =
        .next { s with field := { s.field with tapPend := s.field.tapPend ++ [(n.val, some k.val, w.toNat)] } } ∧
      exec (.tapWrite (0x5200 + 4 * n.val) w) s =
        .next { s with field := { s.field with tapPend := s.field.tapPend ++ [(n.val, none, w.toNat)] } }) ∧
    (∃ t, exec (.pilotPeriodEnd e cl) s = .next t ∧ t.field.tapPend = [] ∧ t = { s with regs := t.regs, field := t.field } ∧
      t.field = { s.field with tapPend := [], notOn := t.field.notOn, inAir := t.field.inAir, modulated := t.field.modulated, surveyed := s.surveyBusy, sourced := t.field.sourced } ∧
      (∀ n : Fin 24, n.val ∈ t.field.sourced ↔ (s.rod n).carrier ≠ .off ∧ (s.rod n).carrier ≠ .hold) ∧
      (∀ n : Fin 24, n.val ∈ t.field.notOn ↔ (s.rod n).carrier ≠ .on) ∧
      (∀ (n : Fin 24) (k : Fin 6) (w : Word), s.field.tapPend = [(n.val, some k.val, w.toNat)] →
        t.rd F.FLD_TAPW_W_I (6 * n.val + k.val) = w.toNat % 65536 ∧ t.rd F.FLD_TAPW_W_Q (6 * n.val + k.val) = w.toNat / 65536) ∧
      (∀ (n : Fin 24) (k : Fin 6) (w : Word), s.field.tapPend = [(n.val, none, w.toNat)] →
        let v := w.toNat / 2 ^ (5 * k.val) % 32
        t.rd (tapSrc k.val) n.val =
          if v = 0x1F ∨ (v < 24 ∧ v ≠ n.val) then v else s.rd (tapSrc k.val) n.val) ∧
      (∀ (n : Fin 24) (k : Fin 6), s.rd (tapSrc k.val) n.val ≠ 0x1F →
        s.tapSkipped cl n.val k.val (s.rd (tapSrc k.val) n.val) = false →
        let d := s.tapStep e n.val (s.rd (tapSrc k.val) n.val)
        t.rd F.FLD_TAPW_W_I (6 * n.val + k.val) = (satHalf (signedOf 16 (s.rd F.FLD_TAPW_W_I (6 * n.val + k.val)) + d.1)).1 ∧
        t.rd F.FLD_TAPW_W_Q (6 * n.val + k.val) = (satHalf (signedOf 16 (s.rd F.FLD_TAPW_W_Q (6 * n.val + k.val)) + d.2)).1) ∧
      (∀ (n : Fin 24) (k : Fin 6),
        s.flag F.FLD_CTL_TRACK_EN = false ∨ n.val ∈ s.field.notOn ∨ n.val ∈ s.field.inAir ∨ n.val ∈ cl ∨ s.field.surveyed = true ∨
          s.rd (tapSrc k.val) n.val = 0x1F →
        (∀ p ∈ s.field.tapPend, p.1 = n.val → p.2.1 = none) →
        t.rd F.FLD_TAPW_W_I (6 * n.val + k.val) = s.rd F.FLD_TAPW_W_I (6 * n.val + k.val) ∧
        t.rd F.FLD_TAPW_W_Q (6 * n.val + k.val) = s.rd F.FLD_TAPW_W_Q (6 * n.val + k.val)))

/-- O29, derived (spec/04_field_sharing.md (R188, R189, R190, R191, R193, R194)). ZONE_MAP_WRITE while CORE is ON sets
the register; each rod of its group then has the zone it asks for, or keeps its zone with the change waiting, and
other rods keep their zones and carriers. ZONE_CHANGE_EFFECT of a silent rod whose zone stands between two units
makes the waiting change, after which the rod, its carrier ON, listens to the exchange on the air of its zone;
otherwise it changes nothing. ZONE_GRANT of a zone without a speaker and with a request makes a requesting rod of
the zone the speaker and the last granted one and takes its request; it is the next in rotation when all requests
are of one class, and a host-class one when there is one and HOST_RUN is 0. With a speaker, or without a request,
nothing changes (log entry 1). -/
def Obligations.ZonesGrantOneSpeakerAtATime : Prop :=
  ∀ s : State,
    (∀ (g : Fin 3) (w : Word), s.isOn .core = true → ∃ t, exec (.zoneMapWrite g w) s = .next t ∧
      t.rd F.FLD_ZMAP_MAP g.val = w.toNat ∧ RegsOnly { s with rods := t.rods, field := t.field } t [F.FLD_ZMAP_MAP.key g.val] ∧
      t.field = { s.field with inAir := t.field.inAir } ∧ (∀ n : Fin 24, (t.rod n).carrier = (s.rod n).carrier) ∧
      (∀ n : Fin 24, n.val / 8 ≠ g.val → (t.rod n).zone = (s.rod n).zone ∧ (t.rod n).zonePend = (s.rod n).zonePend) ∧
      (∀ n : Fin 24, n.val / 8 = g.val →
        let f := w.toNat / 16 ^ (n.val % 8) % 16
        let z := if 8 ≤ f then some (f % 8) else none
        ((t.rod n).zone = z ∧ (t.rod n).zonePend = none) ∨ ((t.rod n).zone = (s.rod n).zone ∧ (t.rod n).zonePend = some z))) ∧
    (∀ n : Fin 24, (s.rod n).zonePend = none → exec (.zoneChangeEffect n) s = .next s) ∧
    (∀ (n : Fin 24) z, (s.rod n).zonePend = some z → s.rodEngaged n = false →
      (∀ o, (s.rod n).zone = some o → s.speaker (ix 7 o) = none ∧ s.zoneBusy o = false) →
      ∃ t, exec (.zoneChangeEffect n) s = .next t ∧ (t.rod n).zone = z ∧ (t.rod n).zonePend = none ∧
        (t.rod n).carrier = (s.rod n).carrier ∧ (t.rod n).air = (s.rod n).air ∧
        (∀ m, m ≠ n → (t.rod m).zone = (s.rod m).zone ∧ (t.rod m).zonePend = (s.rod m).zonePend ∧ (t.rod m).carrier = (s.rod m).carrier) ∧
        (∀ k m x, z = some k → (s.rod n).carrier = .on → m ≠ n → (s.rod m).zone = some k → (s.rod m).air = some x →
          x.phase ≠ .ready → ∃ y, (t.rod m).air = some y ∧ y.listeners.contains n.val = true) ∧
        t = { s with rods := t.rods, field := t.field }) ∧
    (∀ (n : Fin 24) z o, (s.rod n).zonePend = some z → (s.rod n).zone = some o → s.speaker (ix 7 o) ≠ none ∨ s.zoneBusy o = true →
      exec (.zoneChangeEffect n) s = .next s) ∧
    (∀ (n : Fin 24) z, (s.rod n).zonePend = some z → s.rodEngaged n = true → exec (.zoneChangeEffect n) s = .next s) ∧
    (∀ z : Fin 8,
      let wants := fun n : Fin 24 => (s.rod n).zone = some z.val ∧ (s.rod n).req ≠ none
      (s.speaker z ≠ none ∨ (∀ n, ¬wants n) → exec (.zoneGrant z) s = .next s) ∧
      (s.speaker z = none → (∃ n, wants n) → ∃ t n, exec (.zoneGrant z) s = .next t ∧ wants n ∧
        t.speaker z = some n.val ∧ vget t.field.lastGrant z = n.val ∧ (t.rod n).req = none ∧
        (∀ y, y ≠ z → t.speaker y = s.speaker y) ∧
        (∀ m : Fin 24, (s.rod m).zone ≠ some z.val → t.rod m = s.rod m) ∧ t = { s with rods := t.rods, field := t.field } ∧
        ((∀ m : Fin 24, ∀ a b, wants m → (s.rod m).req = some a → (s.rod n).req = some b → a.host = b.host) →
          ∀ m, wants m → (n.val + 23 - vget s.field.lastGrant z % 24) % 24 ≤ (m.val + 23 - vget s.field.lastGrant z % 24) % 24) ∧
        (s.rd F.FLD_CTL_HOST_RUN = 0 → (∃ m q, (s.rod m).zone = some z.val ∧ (s.rod m).req = some q ∧ q.host = true) →
          ∃ q, (s.rod n).req = some q ∧ q.host = true)))

/-- O30, derived (spec/04_field_sharing.md (R201, R202, R203, R205, R206, R207, R208, R209)). BUDGET_START_ALLOWED of a
head that fits, with no survey and no shutdown, ramps an OFF carrier, its PLL locked, its bank ON and its pads free,
up at the head's code, or makes that code the goal of an ON carrier, and takes the head from the queue; one whose
transaction waits past its NLT ends so instead; of a head that does not fit, in a survey or in shutdown it changes
nothing (log entry 1). BUDGET_LIMIT_WRITE while CORE is ON sets each of the two limits that is at most 6000.
TEMP_SAMPLE while CORE is ON stores the readings; outside shutdown it throttles at 125.00 °C, ends throttle when all
are at or below 120.00 °C, and shuts down at 135.00 °C, after which every carrier is OFF or in HOLD. SHUTDOWN_CLEAR
with SD_CLR ends shutdown when every reading is at or below 115.00 °C. -/
def Obligations.TheFieldBudgetAndTemperatureGateTheCarriers : Prop :=
  ∀ s : State,
    (∀ (n : Fin 24) b o rest, s.field.queue = ⟨n.val, b, o⟩ :: rest →
      (∀ u, s.overdue? n = some u → o = some u.id → exec .budgetStartAllowed s = .next (s.endLate n u)) ∧
      ((∀ u, s.overdue? n = some u → o ≠ some u.id) →
        (s.startFits n b = false ∨ s.surveyBusy = true ∨ s.field.shutdown = true → exec .budgetStartAllowed s = .next s) ∧
        (s.startFits n b = true → s.field.survey = .idle → s.field.shutdown = false →
          ((s.rod n).carrier = .off → s.pwr.hfLock = true → s.isOn (bankOf n.val) = true → s.padsHeld (bankOf n.val) = false →
            ∃ t, exec .budgetStartAllowed s = .next t ∧ (t.rod n).carrier = .rampUp ∧ (t.rod n).code = b ∧ (t.rod n).goal = b ∧
              (∀ m, m ≠ n → t.rod m = s.rod m) ∧ t.field = { s.field with queue := rest, sourced := n.val :: s.field.sourced } ∧
              t = { s.fieldEdge n .off .rampUp with rods := t.rods, field := t.field }) ∧
          ((s.rod n).carrier = .on → ∃ t, exec .budgetStartAllowed s = .next t ∧ (t.rod n).carrier = .on ∧
              (t.rod n).code = (s.rod n).code ∧ (t.rod n).goal = b ∧ (∀ m, m ≠ n → t.rod m = s.rod m) ∧
              t.field = { s.field with queue := rest } ∧ t = { s with rods := t.rods, field := t.field })))) ∧
    (s.field.queue = [] → exec .budgetStartAllowed s = .next s) ∧
    (∀ w : Word, s.isOn .core = true →
      let l := w.toNat % 8192
      let h := w.toNat / 65536 % 8192
      ∃ t, exec (.budgetLimitWrite w) s = .next t ∧
        t.rd F.FLD_BUDGET_LIMIT = (if l ≤ 6000 then l else s.rd F.FLD_BUDGET_LIMIT) ∧
        t.rd F.FLD_BUDGET_THR_LIMIT = (if h ≤ 6000 then h else s.rd F.FLD_BUDGET_THR_LIMIT) ∧
        RegsOnly s t [F.FLD_BUDGET_LIMIT.key 0, F.FLD_BUDGET_THR_LIMIT.key 0]) ∧
    (∀ t0 t1 t2 t3 : Int, s.isOn .core = true →
      let l := [t0, t1, t2, t3]
      ∃ t, exec (.tempSample t0 t1 t2 t3) s = .next t ∧ (∀ i < 4, t.rd F.FLD_TEMP_TEMP i = (l.getD i 0 % 65536).toNat) ∧
        (t.field.shutdown = true ↔ s.field.shutdown = true ∨ ∃ x ∈ l, 540 ≤ x) ∧
        (s.field.shutdown = false → (t.field.throttle = true ↔ (∃ x ∈ l, 500 ≤ x) ∨
          (s.field.throttle = true ∧ ∃ x ∈ l, 480 < x))) ∧
        (s.field.shutdown = false → (∃ x ∈ l, 540 ≤ x) → ∀ n, (t.rod n).carrier = .off ∨ (t.rod n).carrier = .hold)) ∧
    (∀ w : Word, s.isOn .core = true →
      (w.getLsbD 0 = true → (∀ i < 4, s.temp i ≤ 460) → exec (.shutdownClear w) s =
        .next { s with field := { s.field with shutdown := false } }) ∧
      (w.getLsbD 0 = false ∨ (∃ i < 4, 460 < s.temp i) → exec (.shutdownClear w) s = .next s))

/-- O31, derived (spec/06_tally_scan.md (R275, R276, R277, R278, R279, R282, R287, R290)). While AON is ON,
TALLY_RUN_WRITE sets RUN, and with 0 lets the sequence end with its present slot; TALLY_EN_WRITE sets TLY_EN and,
with no sequence and no waiting write, zeroes the count and rearms each rod whose bit it clears; TALLY_BASE_WRITE
likewise sets the baseline with fractions 0 and, with VALID 0, rearms the rod; during a sequence both wait.
SCAN_INSTANT without RUN or during a sequence changes nothing; otherwise the waiting writes act first, then it
counts a skip in shutdown or under XGUARD, and otherwise counts a scan and starts the sequence of the enabled rods
whose bank sleeps, in ascending order, with the settings of that instant. TALLY_BURST drives the burst of the
present slot at its level if the bank still sleeps, and otherwise changes nothing. Once CORE is ON, TALLY_WAKE_EVENT
empties the list of detections and raises the event of a single one whose TLY_WAKE bit is set; while CORE is not ON
it changes nothing. An instant with no eligible rod is the model's choice (log entry 88), and that a command not due
changes nothing (log entry 1). -/
def Obligations.TallyScansVisitTheSleepingEnabledRods : Prop :=
  ∀ s : State,
    (∀ w : Word, s.isOn .aon = true → ∃ t, exec (.tallyRunWrite w) s = .next t ∧ t.rd F.TLY_CTL_RUN = w.toNat % 2 ∧
      t.tally = (if w.getLsbD 0 then s.tally else { s.tally with seq := s.tally.seq.map (fun q => { q with last := true }) }) ∧
      RegsOnly { s with tally := t.tally } t [F.TLY_CTL_RUN.key 0]) ∧
    (∀ w : Word, s.isOn .aon = true → ∃ t, exec (.tallyEnWrite w) s = .next t ∧ t.rd F.TLY_EN_EN = w.toNat % 2 ^ 24 ∧
      (s.tally.seq ≠ none → RegsOnly { s with tally := t.tally } t [F.TLY_EN_EN.key 0] ∧
        t.tally = { s.tally with pend := s.tally.pend ++ ((List.range 24).filter (fun n =>
          (s.rd F.TLY_EN_EN).testBit n && !w.getLsbD n)).map (fun n => (n, none)) }) ∧
      (s.tally.seq = none → s.tally.pend = [] →
        RegsOnly { s with tally := t.tally } t [F.TLY_EN_EN.key 0, F.TLY_DISARM_DISARM.key 0] ∧ ∀ n : Fin 24,
        vget t.tally.counts n = (if (s.rd F.TLY_EN_EN).testBit n.val = true ∧ w.getLsbD n.val = false then 0 else vget s.tally.counts n) ∧
        (t.rd F.TLY_DISARM_DISARM).testBit n.val = ((s.rd F.TLY_DISARM_DISARM).testBit n.val &&
          !((s.rd F.TLY_EN_EN).testBit n.val && !w.getLsbD n.val)) ∧
        vget t.tally.fracA n = vget s.tally.fracA n ∧ vget t.tally.fracP n = vget s.tally.fracP n)) ∧
    (∀ (n : Fin 24) (w : Word), s.isOn .aon = true →
      (s.tally.seq ≠ none → exec (.tallyBaseWrite n w) s =
        .next { s with tally := { s.tally with pend := s.tally.pend ++ [(n.val, some w.toNat)] } }) ∧
      (s.tally.seq = none → s.tally.pend = [] → ∃ t, exec (.tallyBaseWrite n w) s = .next t ∧
        t.rd F.TLY_BASE_AMP n.val = w.toNat % 4096 ∧
        t.rd F.TLY_BASE_VALID n.val = w.toNat / 2 ^ 15 % 2 ∧ t.rd F.TLY_BASE_PH n.val = w.toNat / 2 ^ 16 % 1024 ∧
        (w.getLsbD 15 = false → (t.rd F.TLY_DISARM_DISARM).testBit n.val = false) ∧
        vget t.tally.fracA n = 0 ∧ vget t.tally.fracP n = 0 ∧ t.tally.counts = s.tally.counts ∧
        RegsOnly { s with tally := t.tally } t [F.TLY_BASE_AMP.key n.val, F.TLY_BASE_VALID.key n.val, F.TLY_BASE_PH.key n.val,
          F.TLY_DISARM_DISARM.key 0])) ∧
    (s.flag F.TLY_CTL_RUN = true → s.tally.seq = none → exec .scanInstant s = exec .scanInstant s.tallyPending ∧ s.tallyPending.tally.pend = []) ∧
    (s.flag F.TLY_CTL_RUN = false ∨ s.tally.seq ≠ none → exec .scanInstant s = .next s) ∧
    (s.flag F.TLY_CTL_RUN = true → s.tally.seq = none → s.tally.pend = [] →
      let live := ∃ n, (s.rod n).carrier = .on ∨ (s.rod n).carrier = .rampUp ∨ (s.rod n).carrier = .rampDown
      let skip := s.field.shutdown = true ∨ (s.flag F.TLY_CFG_XGUARD = true ∧ (s.surveyBusy = true ∨ live))
      let rods := (List.range 24).filter (fun n => (s.rd F.TLY_EN_EN).testBit n && s.bankAsleep n)
      (skip → ∃ t, exec .scanInstant s = .next t ∧ t.tally = s.tally ∧
        t.rd F.TLY_CNT_SKIP_COUNT = (s.rd F.TLY_CNT_SKIP_COUNT + 1) % F.TLY_CNT_SKIP_COUNT.size ∧
        RegsOnly s t [F.TLY_CNT_SKIP_COUNT.key 0]) ∧
      (¬skip → ∃ t, exec .scanInstant s = .next t ∧
        t.rd F.TLY_CNT_SCAN_COUNT = (s.rd F.TLY_CNT_SCAN_COUNT + 1) % F.TLY_CNT_SCAN_COUNT.size ∧
        (rods = [] → t.tally = s.tally) ∧
        (rods ≠ [] → t.tally = { s.tally with seq := some ⟨rods, false, false, s.rd F.TLY_CFG_CONFIRM, s.rd F.TLY_CFG_TRACK,
            s.flag F.TLY_CFG_REARM, s.rd F.TLY_TH_AMP_TH, s.rd F.TLY_TH_PH_TH, s.rd F.TLY_CFG_LEVEL⟩ } ∧
          t.rd F.TLY_STAT_SCANNING = 1 ∧ t.rd F.TLY_STAT_SLOT_ROD = rods.headD 0x1F) ∧
        RegsOnly { s with tally := t.tally } t [F.TLY_CNT_SCAN_COUNT.key 0, F.TLY_STAT_SCANNING.key 0, F.TLY_STAT_SLOT_ROD.key 0])) ∧
    (∀ q n rest, s.tally.seq = some q → q.rods = n :: rest →
      (s.bankAsleep n = true → exec .tallyBurst s = .next { s with
        tally := { s.tally with seq := some { q with burst := true } }, out := s.logged [.tallyBurst n q.level] }) ∧
      (s.bankAsleep n = false → exec .tallyBurst s = .next s)) ∧
    (s.tally.seq = none → exec .tallyBurst s = .next s) ∧
    (s.isOn .core = true → ∃ t, exec .tallyWakeEvent s = .next t ∧ t.tally = { s.tally with hits := [] }) ∧
    (∀ h, s.isOn .core = true → s.tally.hits = [h] → (s.rd F.TLY_WAKE_WAKE).testBit h.rod = true → exec .tallyWakeEvent s =
      .next (({ s with tally := { s.tally with hits := [] } } : State).raise .tallyWake h.rod
        (leBytes 2 (h.dA % 65536).toNat ++ leBytes 2 (h.dP % 65536).toNat ++ leBytes 1 h.count))) ∧
    (∀ h, s.isOn .core = true → s.tally.hits = [h] → (s.rd F.TLY_WAKE_WAKE).testBit h.rod = false → exec .tallyWakeEvent s =
      .next { s with tally := { s.tally with hits := [] } }) ∧
    (s.isOn .core = false → exec .tallyWakeEvent s = .next s)

/-- O32, derived (spec/06_tally_scan.md (R279, R280, R282, R284, R285, R286, R288, R289, R292)). TALLY_EVALUATE of a
driven slot writes TLY_LAST. With no valid baseline the sample becomes it. Over a threshold an armed rod's count
rises, and at CONFIRM + 1 its TLY_WAKE bit is set, the detection is noted unless that bit already waits for its
event, the count is 0 and with REARM 1 the rod is disarmed; a disarmed rod's count is 0. Not over, the count is 0
and the rod rearms, and with TRACK 0 the baseline stays. A slot that was left out changes nothing of the rod. Then
the next rod's slot begins, or the sequence ends after the last. What a second confirmation of a bit that is still 1
does is the model's choice (log entry 67). -/
def Obligations.TallySamplesAreJudgedAgainstTheirBaseline : Prop :=
  ∀ (s : State) (q : TallySeq) (n : Fin 24) (rest : List Nat) (amp ph : Nat), s.tally.seq = some q → q.rods = n.val :: rest →
    let dA : Int := (amp : Int) - s.rd F.TLY_BASE_AMP n.val
    let dP : Int := ((ph : Int) - s.rd F.TLY_BASE_PH n.val + 512) % 1024 - 512
    let above := (q.ampTh ≠ 0 ∧ q.ampTh < dA.natAbs) ∨ (q.phTh ≠ 0 ∧ q.phTh < dP.natAbs)
    let c := vget s.tally.counts n + 1
    let armed := (s.rd F.TLY_DISARM_DISARM).testBit n.val = false
    ∃ t, exec (.tallyEvaluate amp ph) s = .next t ∧
      (rest = [] ∨ q.last = true → t.tally.seq = none ∧ t.rd F.TLY_STAT_SCANNING = 0) ∧
      (∀ m tl, rest = m :: tl → q.last = false → t.tally.seq = some { q with rods := rest, burst := false }) ∧
      (q.burst = false → t.tally = { s.tally with seq := t.tally.seq } ∧
        RegsOnly { s with tally := t.tally } t [F.TLY_STAT_SCANNING.key 0, F.TLY_STAT_SLOT_ROD.key 0]) ∧
      (amp < 4096 → ph < 1024 → q.burst = true →
        t.rd F.TLY_LAST_AMP n.val = amp ∧ t.rd F.TLY_LAST_PH n.val = ph ∧
        (s.flag F.TLY_BASE_VALID n.val = false → t.rd F.TLY_BASE_AMP n.val = amp ∧ t.rd F.TLY_BASE_PH n.val = ph ∧
          t.rd F.TLY_BASE_VALID n.val = 1 ∧ vget t.tally.counts n = 0 ∧ t.tally.hits = s.tally.hits ∧
          t.rd F.TLY_WAKE_WAKE = s.rd F.TLY_WAKE_WAKE) ∧
        (s.flag F.TLY_BASE_VALID n.val = true → above → armed → c < q.confirm + 1 → vget t.tally.counts n = c ∧
          t.tally.hits = s.tally.hits ∧ t.rd F.TLY_WAKE_WAKE = s.rd F.TLY_WAKE_WAKE ∧ t.rd F.TLY_LAST_OVER n.val = 1) ∧
        (s.flag F.TLY_BASE_VALID n.val = true → above → armed → q.confirm + 1 ≤ c → vget t.tally.counts n = 0 ∧
          t.tally.hits = (if (s.rd F.TLY_WAKE_WAKE).testBit n.val = true ∧ ∃ h ∈ s.tally.hits, h.rod = n.val then s.tally.hits
            else s.tally.hits.filter (fun h => h.rod ≠ n.val) ++ [⟨n.val, dA, dP, q.confirm + 1⟩]) ∧ (t.rd F.TLY_WAKE_WAKE).testBit n.val = true ∧
          (q.rearm = true → (t.rd F.TLY_DISARM_DISARM).testBit n.val = true)) ∧
        (s.flag F.TLY_BASE_VALID n.val = true → above → ¬armed → vget t.tally.counts n = 0 ∧ t.tally.hits = s.tally.hits ∧
          t.rd F.TLY_WAKE_WAKE = s.rd F.TLY_WAKE_WAKE) ∧
        (s.flag F.TLY_BASE_VALID n.val = true → ¬above → vget t.tally.counts n = 0 ∧ t.tally.hits = s.tally.hits ∧
          t.rd F.TLY_WAKE_WAKE = s.rd F.TLY_WAKE_WAKE ∧ (t.rd F.TLY_DISARM_DISARM).testBit n.val = false ∧
          (q.track = 0 → t.rd F.TLY_BASE_AMP n.val = s.rd F.TLY_BASE_AMP n.val ∧
            t.rd F.TLY_BASE_PH n.val = s.rd F.TLY_BASE_PH n.val)))

/-- O33, derived (spec/07_lorle_link.md (R307, R308, R311, R316, R320, R321, R325, R328)). DOWNLINK_END without a frame,
or while its charge or its burst runs, changes nothing; otherwise, its span showing no fault and the frame being no
CONFIRM or END of a running exchange, it sends the frame, which becomes the last one, and listens: 8 slots after
POLL, 1 after a targeted POLL or a CHALLENGE, the train after RANGE, nothing after CONFIRM and END, the transponder
window in transponder mode; a frame without a burst also ends its driven span, its channel going off, in transponder
mode staying on. TP_CHARGE_END ends the charge. BURST_SEGMENT with no fault in its span starts the next segment on
its channel when that is usable and as silence otherwise, or ends the present one; without a burst in progress it
changes nothing. A fault in the span of either puts the driven channel into FAULT instead. That DOWNLINK_END is not
due while the charge runs is the model's choice (log entry 9), and that a command not due changes nothing (log entry
1). -/
def Obligations.DownlinkFramesEndInTheirListening : Prop :=
  ∀ (s : State) (sp : LfSpan),
    (s.link.frame = none → exec (.downlinkEnd sp) s = .next s ∧ exec (.burstSegment sp) s = .next s ∧ exec .tpChargeEnd s = .next s) ∧
    (∀ x, s.link.frame = some x →
      let calm := ∀ c, x.spanChan = some c → (s.lfWalk c (s.lfTp c) (s.lfFrozen c) sp).fault = none
      let lone := s.acc.run = none ∨ (x.kind ≠ .confirm ∧ x.kind ≠ .finish)
      (x.charging = true ∨ (x.burst = true ∧ x.segPos < 6) → exec (.downlinkEnd sp) s = .next s) ∧
      (exec .tpChargeEnd s = .next { s with link := { s.link with frame := some { x with charging := false } } }) ∧
      (∀ oc, x.charging = false → x.burst = false → (s.lfWalk x.chan x.tp false sp).fault = some oc → s.lfBusy x.chan = true →
        exec (.downlinkEnd sp) s = .next (s.channelFault x.chan sp oc)) ∧
      (x.charging = false → x.burst = true → 6 ≤ x.segPos → x.tp = false → lone → exec (.downlinkEnd sp) s = .next { s with
        out := s.logged [.lfFrame x.chan false x.tok.cw x.bytes], uhf := { s.uhf with need := x.needAfter },
        link := { s.link with frame := none, last := some x, listen := x.listenAfter, ended := s.sys.timebase } }) ∧
      (x.charging = false → x.burst = false → lone → s.lfFault x.chan = false → (s.lfWalk x.chan x.tp false sp).fault = none →
        ∃ t, exec (.downlinkEnd sp) s = .next t ∧ t.link.frame = none ∧ t.link.last = some x ∧
        t.link.listen = x.listenAfter ∧ t.uhf.need = x.needAfter ∧
        t.out = s.logged [.lfDrive x.chan (vget s.link.drives (ix 7 x.chan)).damp (s.lfWalk x.chan x.tp false sp).runs.reverse,
          .lfFrame x.chan x.tp (if x.tp then x.tok.charge else x.tok.cw) x.bytes] ∧
        (x.tp = true → x.kind = .poll ∨ x.kind = .challenge → t.rd F.LF_STAT_STATE x.chan = 2) ∧
        (x.tp = false ∨ x.kind = .finish → t.rd F.LF_STAT_STATE x.chan = 0) ∧ t.link.ended = s.sys.timebase ∧ t.acc = s.acc ∧ t.sys = { s.sys with fresh := t.sys.fresh } ∧
        RegsOnly { s with out := t.out, link := t.link, uhf := t.uhf, sys := t.sys } t [F.LF_STAT_STATE.key x.chan,
          F.LF_STAT_W.key x.chan, F.LF_MEAS_PHASE.key x.chan, F.LF_MEAS_IPK_MEAS.key x.chan]) ∧
      (x.tp = false → x.kind = .poll → x.listenAfter = .slots 8 0 none ∧ x.needAfter = .slots x.tok.ulChan) ∧
      (x.tp = false → (∃ i, x.kind = .repoll i ∨ x.kind = .resync i) ∨ x.kind = .challenge →
        x.listenAfter = .slots 1 0 none ∧ x.needAfter = .slots x.tok.ulChan) ∧
      (x.kind = .range → x.listenAfter = .train false false ∧ x.needAfter = .train x.tok.dbChan) ∧
      (x.kind = .confirm ∨ x.kind = .finish → x.listenAfter = .none ∧ x.needAfter = .none) ∧
      (x.tp = true → x.kind = .poll ∨ x.kind = .challenge → x.listenAfter = .transponder x.chan ∧ x.needAfter = .none) ∧
      (∀ c oc, x.spanChan = some c → (s.lfWalk c (s.lfTp c) (s.lfFrozen c) sp).fault = some oc → s.lfBusy c = true →
        exec (.burstSegment sp) s = .next (s.channelFault c sp oc)) ∧
      (calm → x.burst = false ∨ 6 ≤ x.segPos → exec (.burstSegment sp) s = .next s) ∧
      (∀ c, calm → x.burst = true → x.segPos = 0 ∨ x.segPos = 2 ∨ x.segPos = 4 → x.segs[x.segPos / 2]? = some c →
        (c < 8 → s.segUsable x c = true → ∃ t, exec (.burstSegment sp) s = .next t ∧
          t.link.frame = some { x with segPos := x.segPos + 1, sent := x.sent ++ [true], segChan := some c } ∧
          t.rd F.LF_STAT_STATE c = 1) ∧
        (8 ≤ c ∨ s.segUsable x c = false → ∃ t, exec (.burstSegment sp) s = .next t ∧
          t.link.frame = some { x with segPos := x.segPos + 1, sent := x.sent ++ [false], segChan := none })) ∧
      (calm → x.burst = true → x.segPos = 1 ∨ x.segPos = 3 ∨ x.segPos = 5 → ∃ t, exec (.burstSegment sp) s = .next t ∧
        t.link.frame = some { x with segPos := x.segPos + 1, segChan := none } ∧
        (∀ c, x.segChan = some c → s.lfFault c = false → t.rd F.LF_STAT_STATE c = 0)))

/-- O34, derived (spec/00_scope.md (R11), spec/07_lorle_link.md (R300, R301, R302, R303, R304, R334, R335)).
LF_OVERCURRENT and LF_OPEN_FAULT of a channel that drives or listens, whose span shows that fault, set its bit and
put it in FAULT, and end the frame it carries when no exchange runs; of an idle channel or with another span they
change nothing. LF_ERR_WRITE while LF is ON clears the written bits, and the channel leaves FAULT when both fault
bits are 0. LF_CHANNEL_CFG_WRITE sets EN and TP_EN; an IPK or TP_IPK above the OTP limit keeps its field and sets
REG_LIM, one outside 10 to 200 keeps it; DEAD, RSNS and LM_TH keep a reserved value out, and DAMP and IOC take
effect. TOK_REG_WRITE while CORE is ON takes legal values of the TOK registers and keeps a field written with an
illegal one; TOK_CNT_CLR with CNT_CLR zeroes the five counters. A command not due changes nothing (log entry 1). -/
def Obligations.LfChannelsFaultAndAreConfigured : Prop :=
  ∀ (s : State) (n : Fin 8) (w : Word),
    let v := w.toNat
    let a := 0x8840 + 0x20 * n.val
    let on := s.rd F.LF_STAT_STATE n.val = 1 ∨ s.rd F.LF_STAT_STATE n.val = 2
    let shows := fun sp : LfSpan => (s.lfWalk n.val (s.lfTp n.val) (s.lfFrozen n.val) sp).fault
    (∀ sp, ¬on ∨ shows sp ≠ some true → exec (.lfOvercurrent n sp) s = .next s) ∧
    (∀ sp, ¬on ∨ shows sp ≠ some false → exec (.lfOpenFault n sp) s = .next s) ∧
    (∀ sp, on → s.acc.run = none →
      (shows sp = some true → ∃ t, exec (.lfOvercurrent n sp) s = .next t ∧ t.rd F.LF_ERR_OVERCURRENT n.val = 1 ∧
        t.rd F.LF_STAT_STATE n.val = 3 ∧ (∀ x, s.link.frame = some x → x.chan = n.val → t.link.frame = none ∧ t.link.listen = .none) ∧
        t = { s with regs := t.regs, link := t.link, uhf := t.uhf, sys := t.sys, out := t.out }) ∧
      (shows sp = some false → ∃ t, exec (.lfOpenFault n sp) s = .next t ∧ t.rd F.LF_ERR_OPEN n.val = 1 ∧
        t.rd F.LF_STAT_STATE n.val = 3 ∧ (∀ x, s.link.frame = some x → x.chan = n.val → t.link.frame = none ∧ t.link.listen = .none) ∧
        t = { s with regs := t.regs, link := t.link, uhf := t.uhf, sys := t.sys, out := t.out })) ∧
    (s.isOn .lf = true → ∃ t, exec (.lfErrWrite n w) s = .next t ∧
      t.rd F.LF_ERR_REG_LIM n.val = (if w.getLsbD 0 then 0 else s.rd F.LF_ERR_REG_LIM n.val) ∧
      t.rd F.LF_ERR_OVERCURRENT n.val = (if w.getLsbD 1 then 0 else s.rd F.LF_ERR_OVERCURRENT n.val) ∧
      t.rd F.LF_ERR_OPEN n.val = (if w.getLsbD 2 then 0 else s.rd F.LF_ERR_OPEN n.val) ∧
      t.rd F.LF_STAT_STATE n.val = (if s.lfFault n.val = true ∧ t.lfFault n.val = false then 0 else s.rd F.LF_STAT_STATE n.val) ∧
      RegsOnly s t [F.LF_ERR_REG_LIM.key n.val, F.LF_ERR_OVERCURRENT.key n.val, F.LF_ERR_OPEN.key n.val, F.LF_STAT_STATE.key n.val]) ∧
    (s.isOn .lf = true →
      (∃ t, exec (.lfChannelCfgWrite a w) s = .next t ∧ t.rd F.LF_CFG_EN n.val = v % 2 ∧ t.rd F.LF_CFG_TP_EN n.val = v / 2 % 2 ∧
        RegsOnly s t [F.LF_CFG_EN.key n.val, F.LF_CFG_TP_EN.key n.val]) ∧
      (∃ t, exec (.lfChannelCfgWrite (a + 4) w) s = .next t ∧
        let top := s.otp.maxIpk.getD 200
        let i := v % 256
        let p := v / 256 % 256
        t.rd F.LF_DRV_IPK n.val = (if 10 ≤ i ∧ i ≤ 200 ∧ i ≤ top then i else s.rd F.LF_DRV_IPK n.val) ∧
        t.rd F.LF_DRV_TP_IPK n.val = (if 10 ≤ p ∧ p ≤ 200 ∧ p ≤ top then p else s.rd F.LF_DRV_TP_IPK n.val) ∧
        (top < i ∨ top < p → t.rd F.LF_ERR_REG_LIM n.val = 1) ∧
        t.rd F.LF_DRV_DEAD n.val = (if v / 65536 % 16 = 0 then s.rd F.LF_DRV_DEAD n.val else v / 65536 % 16) ∧ t.rd F.LF_DRV_DAMP n.val = v / 2 ^ 20 % 4 ∧
        RegsOnly s t [F.LF_DRV_IPK.key n.val, F.LF_DRV_TP_IPK.key n.val, F.LF_DRV_DEAD.key n.val, F.LF_DRV_DAMP.key n.val,
          F.LF_ERR_REG_LIM.key n.val]) ∧
      (∃ t, exec (.lfChannelCfgWrite (a + 8) w) s = .next t ∧ t.rd F.LF_SNS_IOC n.val = v / 256 % 256 ∧
        t.rd F.LF_SNS_RSNS n.val = (if 10 ≤ v % 256 ∧ v % 256 ≤ 250 then v % 256 else s.rd F.LF_SNS_RSNS n.val) ∧
        t.rd F.LF_SNS_LM_TH n.val = (if 5 ≤ v / 65536 % 256 ∧ v / 65536 % 256 ≤ 100 then v / 65536 % 256 else s.rd F.LF_SNS_LM_TH n.val) ∧
        RegsOnly s t [F.LF_SNS_RSNS.key n.val, F.LF_SNS_IOC.key n.val, F.LF_SNS_LM_TH.key n.val])) ∧
    (s.isOn .core = true →
      (exec (.tokRegWrite 0x8404 w) s = .next (s.wr F.TOK_WAKE_ID_WAKE_ID 0 (v % 65536))) ∧
      (exec (.tokRegWrite 0x8410 w) s =
        .next (if v = 0 ∨ v = 0xFFFFFFFF ∨ v = 0xAAAAAAAA ∨ v = 0x55555555 then s else s.wr F.TOK_SYNC_SYNC 0 v)) ∧
      (∃ t, exec (.tokRegWrite 0x8414 w) s = .next t ∧
        t.rd F.TOK_SLOT_CFG_FIRST = (if 100 ≤ v % 4096 then v % 4096 else s.rd F.TOK_SLOT_CFG_FIRST) ∧
        t.rd F.TOK_SLOT_CFG_SLOT = (if 1050 ≤ v / 65536 % 4096 then v / 65536 % 4096 else s.rd F.TOK_SLOT_CFG_SLOT) ∧
        RegsOnly s t [F.TOK_SLOT_CFG_FIRST.key 0, F.TOK_SLOT_CFG_SLOT.key 0]) ∧
      (∃ t, exec (.tokRegWrite 0x8400 w) s = .next t ∧
        t.rd F.TOK_CFG_TRACE = (if v % 4 = 3 then s.rd F.TOK_CFG_TRACE else v % 4)) ∧
      (∃ t, exec (.tokRegWrite 0x8408 w) s = .next t ∧
        t.rd F.TOK_DL_CFG_CW = (if 4 ≤ v % 32 then v % 32 else s.rd F.TOK_DL_CFG_CW) ∧
        t.rd F.TOK_DL_CFG_CHARGE = (if 10 ≤ v / 256 % 256 then v / 256 % 256 else s.rd F.TOK_DL_CFG_CHARGE) ∧
        RegsOnly s t [F.TOK_DL_CFG_CW.key 0, F.TOK_DL_CFG_CHARGE.key 0]) ∧
      (∃ t, exec (.tokRegWrite 0x840C w) s = .next t ∧
        t.rd F.TOK_UL_CFG_CHAN = (if v % 256 < s.otp.nChan then v % 256 else s.rd F.TOK_UL_CFG_CHAN) ∧
        t.rd F.TOK_UL_CFG_ENERGY_TH = (if 120 ≤ v / 256 % 256 ∧ v / 256 % 256 ≤ 240 then v / 256 % 256 else s.rd F.TOK_UL_CFG_ENERGY_TH) ∧
        t.rd F.TOK_UL_CFG_SYNC_ERR = v / 65536 % 4 ∧
        RegsOnly s t [F.TOK_UL_CFG_CHAN.key 0, F.TOK_UL_CFG_ENERGY_TH.key 0, F.TOK_UL_CFG_SYNC_ERR.key 0]) ∧
      (∃ t, exec (.tokRegWrite 0x8418 w) s = .next t ∧
        t.rd F.TOK_DB_CFG_CHAN = (if v % 256 < s.otp.nChan ∧ s.subBand (v % 256) ≠ 15 then v % 256 else s.rd F.TOK_DB_CFG_CHAN) ∧
        t.rd F.TOK_DB_CFG_DELAY = (if 2 ≤ v / 256 % 256 then v / 256 % 256 else s.rd F.TOK_DB_CFG_DELAY) ∧
        t.rd F.TOK_DB_CFG_SPACING = (if 12 ≤ v / 65536 % 256 ∧ v / 65536 % 256 ≤ 64 then v / 65536 % 256 else s.rd F.TOK_DB_CFG_SPACING) ∧
        RegsOnly s t [F.TOK_DB_CFG_CHAN.key 0, F.TOK_DB_CFG_DELAY.key 0, F.TOK_DB_CFG_SPACING.key 0]) ∧
      (w.getLsbD 31 = true → ∃ t, exec (.tokCntClr w) s = .next t ∧ t.rd F.TOK_CNT_FRAME_COUNT = 0 ∧
        t.rd F.TOK_CNT_COLL_COUNT = 0 ∧ t.rd F.TOK_CNT_STRAY_COUNT = 0 ∧ t.rd F.TOK_CNT_MISSED_COUNT = 0 ∧
        t.rd F.TOK_CNT_DB_MISS_COUNT = 0 ∧
        RegsOnly s t [F.TOK_CNT_FRAME_COUNT.key 0, F.TOK_CNT_COLL_COUNT.key 0, F.TOK_CNT_STRAY_COUNT.key 0,
          F.TOK_CNT_MISSED_COUNT.key 0, F.TOK_CNT_DB_MISS_COUNT.key 0, F.TOK_CFG_TRACE.key 0])) ∧
    (w.getLsbD 31 = false → exec (.tokCntClr w) s = .next s)

/-- O35, derived (spec/07_lorle_link.md (R314, R317, R318, R319, R320, R321, R324, R328, R332, R335)). SLOT_OPEN opens
the next slot and notes whether the radio is in RX. SYNC_DETECT inside the window with few enough errors counts one;
outside it, or with more, it changes nothing in a slot. UPLINK_FRAME_END of an accepted sync keeps the frame;
without one it changes nothing. SLOT_END with no exchange running goes to the next slot, or after the last ends
listening and the need of the radio; a slot whose window opened before RX counts MISSED, another shows its number
and EMPTY, COLLISION, STRAY or FRAME by the first test that applies. TRAIN_START sends the train from aerial A to be
received at B when the radio is in TX and otherwise leaves it unsent, its need gone, and TRAIN_END with no exchange
running counts the cells of an unsent one as missing. TP_ANSWER_END and TP_WINDOW_END with no exchange running end
the window with their outcome, EMPTY without a header, the carrier staying on. The outcome of a slot with a sync and
no complete frame is the model's choice (log entry 50), and that a command not due changes nothing (log entry 1). -/
def Obligations.SlotsTrainsAndWindowsHaveOneOutcome : Prop :=
  ∀ s : State,
    (∀ n k, s.link.listen = .slots n k none → k < n → exec .slotOpen s = .next { s with
      link := { s.link with listen := .slots n k (some ⟨0, [], s.isOn .uhf && s.radio == 3, s.isOn .uhf && s.radio == 3, none, s.sys.timebase⟩) },
      uhf := { s.uhf with divA := none } }) ∧
    (∀ n k c x, s.link.listen = .slots n k (some c) → s.link.last = some x →
      (∀ t w, c.rx = true → 352000 ≤ t → t ≤ 448000 → syncErrors x.tok.sync w ≤ x.tok.syncErr → exec (.syncDetect t w) s =
        .next { s with link := { s.link with listen := .slots n k (some { c with syncs := c.syncs + 1 }) } }) ∧
      (∀ t w, c.rx = false ∨ t < 352000 ∨ 448000 < t ∨ x.tok.syncErr < syncErrors x.tok.sync w → exec (.syncDetect t w) s = .next s) ∧
      (∀ rx, c.frames.length < c.syncs → ∃ t f, exec (.uplinkFrameEnd rx) s = .next t ∧
        t.link = { s.link with listen := .slots n k (some { c with frames := c.frames ++ [f] }) } ∧
        f.body = rx.bytes.take 40 ∧ (f.good = true ↔ (rx.bytes.take 40).length = 40 ∧
          leNat ((rx.bytes.take 40).drop 38) = (crc16B (rx.bytes.take 38)).toNat) ∧ f.stamp = s.sys.timebase) ∧
      (∀ rx, c.syncs ≤ c.frames.length → exec (.uplinkFrameEnd rx) s = .next s) ∧
      (∀ energy early, s.acc.run = none → ∃ t, exec (.slotEnd energy early) s = .next t ∧
        (n ≤ k + 1 → t.link.listen = .none ∧ t.uhf.need = .none) ∧ (k + 1 < n → t.link.listen = .slots n (k + 1) none) ∧
        t.link = { s.link with listen := t.link.listen } ∧
        (c.rxAtStart = false → c.rx = false ∨ early = false →
          t.rd F.TOK_CNT_MISSED_COUNT = (s.rd F.TOK_CNT_MISSED_COUNT + 1) % 2 ^ 32 ∧
          RegsOnly { s with link := t.link, uhf := t.uhf } t [F.TOK_CNT_MISSED_COUNT.key 0]) ∧
        (c.rxAtStart = true ∨ (c.rx = true ∧ early = true) → t.rd F.TOK_STAT_SLOT = k % 8 ∧
          t.rd F.TOK_CNT_MISSED_COUNT = s.rd F.TOK_CNT_MISSED_COUNT ∧
          (c.syncs = 0 → energyTime x.tok.energyTh energy < 1667 → t.rd F.TOK_STAT_OUTCOME = 0) ∧
          (2 ≤ c.syncs ∨ (∃ f ∈ c.frames, f.good = false) ∨ c.frames = [] → 0 < c.syncs ∨ 1667 ≤ energyTime x.tok.energyTh energy →
            t.rd F.TOK_STAT_OUTCOME = 1 ∧ t.rd F.TOK_CNT_COLL_COUNT = (s.rd F.TOK_CNT_COLL_COUNT + 1) % 2 ^ 32) ∧
          (∀ f, c.syncs = 1 → c.frames = [f] → f.good = true →
            (bodyFits x f.body = true → tidxFits x k f.body = true → t.rd F.TOK_STAT_OUTCOME = 3 ∧
              t.rd F.TOK_CNT_FRAME_COUNT = (s.rd F.TOK_CNT_FRAME_COUNT + 1) % 2 ^ 32) ∧
            (bodyFits x f.body = false ∨ tidxFits x k f.body = false → t.rd F.TOK_STAT_OUTCOME = 2 ∧
              t.rd F.TOK_CNT_STRAY_COUNT = (s.rd F.TOK_CNT_STRAY_COUNT + 1) % 2 ^ 32))))) ∧
    (∀ b x, s.link.listen = .train false b → s.link.last = some x →
      (s.isOn .uhf = true → s.rd F.UHF_STAT_STATE = 4 → ∃ t p, exec .trainStart s = .next t ∧
        t.out = s.logged [.rangingTrain x.tok.dbChan p 0 1 x.tok.spacing s.challengeBits] ∧ p ≤ s.trainPower ∧
        p ≤ s.sbPower (s.subBand x.tok.dbChan) ∧
        t.link = { s.link with listen := .train true true }) ∧
      (s.rd F.UHF_STAT_STATE ≠ 4 → ∃ t, exec .trainStart s = .next t ∧
        t.link = { s.link with listen := .train true false } ∧ t.uhf.need = .none ∧ t.out = s.out)) ∧
    (∀ b cells, s.link.listen = .train true b → s.acc.run = none → ∃ t, exec (.trainEnd cells) s = .next t ∧
      t.link = { s.link with listen := .none } ∧ t.uhf = { s.uhf with need := .none } ∧
      (b = false → t.rd F.TOK_CNT_DB_MISS_COUNT = (s.rd F.TOK_CNT_DB_MISS_COUNT + 32) % 2 ^ 32) ∧
      RegsOnly { s with link := t.link, uhf := t.uhf } t [F.TOK_CNT_DB_MISS_COUNT.key 0]) ∧
    (∀ c x head halves, s.link.listen = .transponder c → s.link.last = some x → s.acc.run = none →
      let answer := tpAnswer (vget s.link.drives (ix 7 x.chan)).lmTh head halves
      (∃ t, exec .tpWindowEnd s = .next t ∧ t.link = { s.link with listen := .none } ∧ t.rd F.LF_STAT_STATE x.chan = 1 ∧
        t.rd F.TOK_STAT_OUTCOME = 0) ∧
      (∃ t, exec (.tpAnswerEnd head halves) s = .next t ∧ t.link = { s.link with listen := .none } ∧
        t.rd F.LF_STAT_STATE x.chan = 1 ∧
        (answer = none → t.rd F.TOK_STAT_OUTCOME = 0) ∧
        (∀ body, answer = some body → bodyGood body = false → t.rd F.TOK_STAT_OUTCOME = 1) ∧
        (∀ body, answer = some body → bodyGood body = true → t.rd F.TOK_STAT_OUTCOME =
          if bodyFits x body = true ∧ tidxFits x 0 body = true then 3 else 2)))

/-- O36, derived (spec/07_lorle_link.md (R306, R307, R308, R309), spec/08_access_sequencer.md (R337, R338, R339, R340,
R341, R342, R350, R375)). OPEN waits while NEED_RESTORE is 1 and then, at the head of the requests with the
sequencer free, becomes the next exchange of its lock. START, the selected edge of the input pin that one lock
names, and a PERIODIC interval give a trigger of an enabled lock, and one is dropped and counted when one is pending
or its exchange runs, while NEED_RESTORE is 1, or with PLAN or CRYPTO not ON; a pin that no lock names does nothing.
EXCHANGE_START, the checksum engine being free, of a ready exchange, or of the trigger at the head, with its
microcode verified ends it with one refusal and no air traffic during the lock's wait, and otherwise, with LF and
UHF ON and the channel usable, starts the untargeted POLL with burst; the trigger of a lock no longer enabled is
dropped and counted. ACC_NLT_EXPIRY ends an OPEN or CALIBRATE whose NLT has passed LATE. PENALTY_WAIT_END of a wait
whose time has come ends it, and of one that still runs changes nothing. Model's choices: a command not due changes
nothing (log entry 1), the verifier's order (log entry 22), a trigger whose lock is disabled (53), the order of the
tests at the gate (91). -/
def Obligations.AccessRequestsWaitTheirTurnAndStart : Prop :=
  ∀ s : State,
    (s.acc.needRestore = true → exec .openLock s = .next s) ∧
    (∀ q, s.acc.needRestore = false → s.accTake? 1 = some q → ∃ t r, exec .openLock s = .next t ∧ t.acc.run = some r ∧
      r.req = q ∧ r.op = 1 ∧ r.stage = .ready ∧ r.lock = byteAt (s.reqParams q) 0 % 4 ∧ r.cfg = s.reqSet q ∧ r.cands = [] ∧
      t.acc = { s.acc with reqs := s.acc.reqs.tail, run := some r } ∧ t = { s with acc := t.acc, txns := t.txns }) ∧
    (∀ l : Fin 4,
      let dropped := s.flag F.ACC_LOCK_CFG_EN l.val = false ∨ s.acc.needRestore = true ∨ s.isOn .plan = false ∨
        s.isOn .crypto = false ∨ (∃ j, .trig j l.val ∈ s.acc.reqs) ∨ s.exchanging l.val = true
      let triggers := fun (o : Host.Outcome State Fault Refusal) (k : Nat) =>
        (dropped → o = .next (s.count F.ACC_LOCK_CNT_SKIP_COUNT l.val)) ∧
        (¬dropped → o = .next { s with acc := { s.acc with reqs := s.acc.reqs ++ [.trig k l.val] } })
      (∀ w : Word, s.isOn .core = true → w.getLsbD 0 = true → triggers (exec (.accLockStart l w) s) 2) ∧
      (∀ w : Word, w.getLsbD 0 = false → exec (.accLockStart l w) s = .next s) ∧
      (s.isOn .core = true → s.rd F.ACC_LOCK_TRIG_POLL_INT l.val ≠ 0 → triggers (exec (.accPeriodicTrigger l) s) 4) ∧
      (∀ (p : Fin 16) (b : Bool), s.isOn .core = true → (s.rd F.GPIO_DIR_PINS).testBit p.val = false →
        (s.rd F.GPIO_IN_PINS).testBit p.val ≠ b → s.rd F.ACC_LOCK_TRIG_GPIO l.val = p.val →
        (s.rd F.ACC_LOCK_TRIG_EDGE l.val = 3 ∨ s.rd F.ACC_LOCK_TRIG_EDGE l.val = (if b then 1 else 2)) →
        (∀ j : Fin 4, j ≠ l → s.rd F.ACC_LOCK_TRIG_GPIO j.val ≠ p.val) →
        ∃ u : State, u.rd F.GPIO_IN_PINS = mixBits (2 ^ p.val) (if b then 65535 else 0) (s.rd F.GPIO_IN_PINS) ∧ u.acc = s.acc ∧
          u.rods = s.rods ∧ u.txns = s.txns ∧ u.link = s.link ∧ u.keys = s.keys ∧
          ((∀ n < 16, s.rd F.TMR_CTL_CLK n ≠ 2 ∧ s.rd F.TMR_CTL_CAPT_SRC n ≠ 0x10 + p.val) →
            ∃ g, u = { s.wr F.GPIO_IN_PINS 0 (mixBits (2 ^ p.val) (if b then 65535 else 0) (s.rd F.GPIO_IN_PINS)) with gpio := g }) ∧
          (dropped → exec (.accGpioTrigger p b) s = .next (u.count F.ACC_LOCK_CNT_SKIP_COUNT l.val)) ∧
          (¬dropped → exec (.accGpioTrigger p b) s =
            .next { u with acc := { s.acc with reqs := s.acc.reqs ++ [.trig 3 l.val] } }))) ∧
    (∀ (p : Fin 16) (b : Bool), (∀ l < 4, s.rd F.ACC_LOCK_TRIG_GPIO l ≠ p.val) → exec (.accGpioTrigger p b) s = .next s) ∧
    (∀ l : Fin 4, s.rd F.ACC_LOCK_TRIG_POLL_INT l.val = 0 → exec (.accPeriodicTrigger l) s = .next s) ∧
    (∀ k l rest crcs, s.acc.run = none → s.acc.vd = none → s.acc.reqs = .trig k l :: rest → l < 4 → s.accAble = true →
      s.acc.needRestore = false → s.uhfBusy = false → s.board.verify = [] → s.flag F.ACC_LOCK_CFG_EN l = false →
      exec (.exchangeStart crcs) s =
        .next (({ s with acc := { s.acc with reqs := rest } } : State).count F.ACC_LOCK_CNT_SKIP_COUNT l)) ∧
    (∀ r crcs, ((s.acc.run = some r ∧ r.stage = .ready) ∨ (s.acc.run = none ∧ ∃ k l rest, s.acc.reqs = .trig k l :: rest ∧
        s.flag F.ACC_LOCK_CFG_EN l = true ∧ r = s.newRun (.trig k l))) → r.lock < 4 → s.acc.vd = none → s.accAble = true →
      s.acc.needRestore = false → s.uhfBusy = false → s.board.verify = [] → TilesGood s crcs s.ucodeTiles → s.reqLate r.req = false → s.field.shutdown = false →
      (s.waiting false r.lock = true → ∃ t, exec (.exchangeStart crcs) s = .next t ∧ t.acc.run = none ∧ t.link.frame = none ∧
        t.rd F.ACC_LOCK_CNT_REFUSE_COUNT r.lock = (s.rd F.ACC_LOCK_CNT_REFUSE_COUNT r.lock + 1) % 2 ^ 32) ∧
      (s.waiting false r.lock = false → s.isOn .lf = true → s.isOn .uhf = true → s.regionSet = true →
        s.lfUsable r.cfg.lfCh false = true → ∃ t x, exec (.exchangeStart crcs) s = .next t ∧
        t.acc.run = some { r with phase := 2, stage := .air, sentOn := some (r.cfg.lfCh, false), heldFrame := none } ∧
        t.link.frame = some x ∧ x.kind = .poll ∧ x.chan = r.cfg.lfCh ∧ x.target = 0xFFFF ∧ x.burst = true ∧ x.segs = r.cfg.segs ∧
        (let b := leBytes 2 (s.rd F.TOK_WAKE_ID_WAKE_ID) ++ [0x81#8, 0xFF#8, 0xFF#8] ++ leBytes 2 (s.otp.serial.toNat % 65536) ++
          leBytes 1 r.lock
         x.bytes = b ++ leBytes 2 (crc16B b).toNat) ∧
        t.rd F.LF_STAT_STATE r.cfg.lfCh = 1)) ∧
    (∀ id c u, s.acc.run = none → s.acc.reqs = [.desc id c] → s.txn? id = some u → u.live = true → (u.op = 1 ∨ u.op = 2) →
      s.nltPassed u.desc = true → ∃ t, exec .accNltExpiry s = .next t ∧ t.acc.reqs = [] ∧ t.acc.run = none ∧ EndsWith t id .late) ∧
    (∀ b i, (s.waiting b i = true → exec (.penaltyWaitEnd b i) s = .next s) ∧
      (s.waiting b i = false → exec (.penaltyWaitEnd b i) s = .next { s with acc := { s.acc with
        waits := s.acc.waits.filter (fun w => !(w.token == b && w.idx == i)) } }))

/-- O37, derived (spec/08_access_sequencer.md (R347, R360, R376, R381, R382, R383, R384, R385, R389, R391)).
CANDIDATE_JUDGE refuses a candidate whose entry is EMPTY with one record and goes on to the next candidate; with its
train passed, no waits, an ENROLLED entry and agreeing feedback it grants: the release output of the lock takes its
active level, GRANT counts and both failure counts are 0, and without END the exchange ends. INTERLOCK_WAIT_EXPIRY
refuses the candidate that waits for the interlock, REVOKED when its token has been revoked since. REL_FB_DEBOUNCE
of a new level with no exchange takes it and raises INTERLOCK, and RELEASE_FAULT when it opens with no pulse; the
present level, once known, changes nothing, and a first level that is the reset value makes it known and raises no
event (the model's choice, log entry 78). RELEASE_NO_MOVE ends the time of its pulse and raises RELEASE_FAULT when
the feedback still shows the closed level; RELEASE_PULSE_END brings the output to its inactive level. A command not
due changes nothing (log entry 1). -/
def Obligations.CandidatesAreJudgedAndLocksReleased : Prop :=
  ∀ (s : State),
    (∀ r c d rest, s.acc.run = some r → r.op = 1 → r.lock < 4 → r.cands = c :: d :: rest → s.isOn .core = true → s.isOn .crypto = true →
      s.isOn .keys = true → r.stage = .judge .start → (s.entry c.tidx).st = 0 →
      ∃ t, exec .candidateJudge s = .next t ∧ t.acc = { s.acc with run := t.acc.run } ∧
        t.acc.run = some { r with
          cands := d :: rest, taken := true, retries := 0, answered := c.tidx :: r.answered, path := none,
          lastReason := some .unknownToken, stage := .judge .start, cipher := .idle } ∧
        t.rd F.ACC_LOCK_CNT_REFUSE_COUNT r.lock = (s.rd F.ACC_LOCK_CNT_REFUSE_COUNT r.lock + 1) % 2 ^ 32) ∧
    (∀ r p, s.acc.run = some r → r.op = 1 → r.lock < 4 → s.isOn .core = true → s.isOn .crypto = true → s.isOn .keys = true →
      r.stage = .judge .ranged → r.path = some p → p.verdict = none → s.waiting false r.lock = false →
      s.waiting true p.cand.tidx = false → (s.entry p.cand.tidx).st = 1 → s.interlockAgrees r = true → r.cfg.endEn = false →
      s.test.takesBalls = false →
      ∃ t, exec .candidateJudge s = .next t ∧ t.acc.run = none ∧ vget t.acc.pulse (ix 3 r.lock) = true ∧
        .release r.lock (!r.cfg.pol) ∈ t.out ∧ t.lockFails r.lock = 0 ∧ t.tokFails p.cand.tidx = 0 ∧
        t.rd F.ACC_LOCK_CNT_GRANT_COUNT r.lock = (s.rd F.ACC_LOCK_CNT_GRANT_COUNT r.lock + 1) % 2 ^ 32 ∧ t.keys = s.keys) ∧
    (∀ r p d rest, s.acc.run = some r → r.op = 1 → r.lock < 4 → r.stage = .interlock → r.path = some p → r.cands = d :: rest →
      ∃ t, exec .interlockWaitExpiry s = .next t ∧
        t.acc = { s.acc with run := some { r with
          path := none, lastReason := some (if (s.entry p.cand.tidx).st = 2 then .revoked else .interlock), stage := .judge .start } } ∧
        t.rd F.ACC_LOCK_CNT_REFUSE_COUNT r.lock = (s.rd F.ACC_LOCK_CNT_REFUSE_COUNT r.lock + 1) % 2 ^ 32) ∧
    (s.acc.run = none → exec .interlockWaitExpiry s = .next s ∧ exec .candidateJudge s = .next s) ∧
    (∀ (l : Fin 4) (b : Bool),
      (vget s.acc.fb l = b → vget s.acc.fbKnown l = true → exec (.relFbDebounce l b) s = .next s) ∧
      (s.isOn .core = false → exec (.relFbDebounce l b) s = .next s) ∧
      (s.isOn .core = true → s.acc.run = none → vget s.acc.fb l = b → vget s.acc.fbKnown l = false →
        exec (.relFbDebounce l b) s =
          .next { s with acc := { s.acc with fb := vset s.acc.fb l b, fbKnown := vset s.acc.fbKnown l true } }) ∧
      (vget s.acc.fb l ≠ b → vget s.acc.fbKnown l = true → s.isOn .core = true → s.acc.run = none →
        let v : State := { s with acc := { s.acc with fb := vset s.acc.fb l b, fbKnown := vset s.acc.fbKnown l true } }
        let u := v.raise .interlock unitAcc (leBytes 1 l.val ++ leBytes 1 (if b then 1 else 0))
        exec (.relFbDebounce l b) s = .next (if b ≠ s.flag F.ACC_REL_CFG_FB_POL l.val ∧ vget s.acc.pulse l = false then
          u.raise .releaseFault unitAcc (leBytes 1 l.val ++ [2#8]) else u)) ∧
      (vget s.acc.moveWait l = false → exec (.releaseNoMove l) s = .next s) ∧
      (vget s.acc.moveWait l = true →
        let u : State := { s with acc := { s.acc with moveWait := vset s.acc.moveWait l false } }
        exec (.releaseNoMove l) s = .next (if vget s.acc.fb l = s.flag F.ACC_REL_CFG_FB_POL l.val then
          u.raise .releaseFault unitAcc (leBytes 1 l.val ++ [1#8]) else u)) ∧
      (vget s.acc.pulse l = true → exec (.releasePulseEnd l) s =
        .next { s with out := s.logged [.release l.val (s.flag F.ACC_REL_CFG_POL l.val)], acc := { s.acc with pulse := vset s.acc.pulse l false } }) ∧
      (vget s.acc.pulse l = false → exec (.releasePulseEnd l) s = .next s))

/-- O38, derived (spec/08_access_sequencer.md (R372, R376, R387, R388, R395, R396, R672),
spec/10_key_store_and_cipher.md (R446)). At the head with the sequencer free, ENROL of a free entry with a loaded
key slot that no other enrolled entry names writes the entry as ENROLLED and clears its count; otherwise it ends
BAD_DESCRIPTOR, and with KEYS not ON DOMAIN_OFF, with the key store unchanged. CLEAR_PENALTY sets the count to 0 and
ends its wait. CALIBRATE that nothing forbids sends the targeted POLL to its token. VERIFY_DECRYPT refuses a bad
length, an EMPTY slot and a slot of another use with their statuses, otherwise reads its ciphertext once memory
requests may be issued; then it makes a cipher request for the MAC on its turn for a general slot, and when the tag
agrees one for the decryption, writes the plaintext once it may, and ends OK; with another tag it ends AUTH_FAIL and
writes nothing, and a slot erased meanwhile ends it KEY_REVOKED. REVOKE at its fetch makes an ENROLLED entry
REVOKED, empties its key slot, increments the epoch and ends OK, and of another entry changes nothing of the keys.
ABORT at its fetch ends the running exchange, CALIBRATE or VERIFY_DECRYPT, and with TRIG drops every pending
trigger. When ENROL and VERIFY_DECRYPT make their checks is the model's choice (log entry 41), and so are the
sequencer's cipher requests (13, 45). -/
def Obligations.TokensAreEnrolledRevokedAndTheirCountsCleared : Prop :=
  ∀ s : State,
    (∀ id c u, s.accTake? 3 = some (.desc id c) → s.txn? id = some u → u.live = true → s.isOn .keys = false →
      ∃ t, exec .enrol s = .next t ∧ EndsWith t id .domainOff ∧ t.keys = s.keys ∧ t.acc = { s.acc with reqs := s.acc.reqs.tail }) ∧
    (∀ id c u, s.accTake? 3 = some (.desc id c) → s.txn? id = some u → u.live = true → s.isOn .keys = true →
      let ps := s.paramsOf id
      let i := leNat (ps.take 2)
      let slot := leNat ((ps.drop 2).take 2)
      let bad := (s.entry i).st = 1 ∨ (s.keySlot slot).loaded = false ∨
        (∃ e ∈ s.keys.entries, e.1 ≠ i ∧ e.2.st = 1 ∧ e.2.keySlot = slot)
      (bad → ∃ t, exec .enrol s = .next t ∧ EndsWith t id .badDescriptor ∧ t.keys = s.keys ∧ t.acc = { s.acc with reqs := s.acc.reqs.tail }) ∧
      (¬bad → ∃ t, exec .enrol s = .next t ∧ EndsWith t id .ok ∧ (t.entry i).st = 1 ∧ (t.entry i).locks = byteAt ps 4 % 16 ∧
        (t.entry i).keySlot = slot ∧ (t.entry i).modes = byteAt ps 5 ∧ (t.entry i).pendValid = false ∧
        (t.entry i).last = BitVec.ofNat 32 (leNat ((ps.drop 8).take 4)) ∧ t.tokFails i = 0 ∧ t.waiting true i = false ∧
        (∀ j, j ≠ i → t.entry j = s.entry j) ∧ t.keys.slots = s.keys.slots)) ∧
    (∀ id c u, s.accTake? 5 = some (.desc id c) → s.txn? id = some u → u.live = true →
      let ps := s.paramsOf id
      ∃ t, exec .clearPenalty s = .next t ∧ EndsWith t id .ok ∧ t.keys = s.keys ∧
        (byteAt ps 0 = 0 → t.lockFails (byteAt ps 1 % 4) = 0 ∧ t.waiting false (byteAt ps 1 % 4) = false ∧ t.acc.tokFails = s.acc.tokFails) ∧
        (byteAt ps 0 = 1 → t.tokFails (leNat ((ps.drop 2).take 2) % 1024) = 0 ∧
          t.waiting true (leNat ((ps.drop 2).take 2) % 1024) = false ∧ t.acc.lockFails = s.acc.lockFails)) ∧
    (∀ q crcs, s.accTake? 2 = some q → s.accAble = true → s.uhfBusy = false → s.board.verify = [] → TilesGood s crcs s.ucodeTiles → s.reqLate q = false →
      s.field.shutdown = false → s.isOn .lf = true → s.isOn .uhf = true → s.regionSet = true → s.lfUsable (s.reqSet q).lfCh false = true →
      ∃ t x, exec (.accCalibrate crcs) s = .next t ∧ t.link.frame = some x ∧ x.chan = (s.reqSet q).lfCh ∧
        x.target = leNat (((s.reqParams q).drop 2).take 2) % 1024 ∧ x.burst = true ∧
        (∃ r, t.acc.run = some r ∧ r.op = 2 ∧ r.stage = .air ∧ r.req = q) ∧ t.acc.reqs = s.acc.reqs.tail) ∧
    (∀ id c u src crcs, s.accTake? 6 = some (.desc id c) → s.txn? id = some u → u.live = true → s.isOn .crypto = true →
      s.isOn .keys = true → s.board.verify = [] → TilesGood s crcs s.ucodeTiles →
      let ps := s.paramsOf id
      let len := leNat ((ps.drop 6).take 2)
      let enc := s.keySlot (leNat (ps.take 2))
      let mac := s.keySlot (leNat ((ps.drop 2).take 2))
      let badLen := len % 16 ≠ 0 ∨ len = 0 ∨ 4096 < len
      let badUse := enc.usage.testBit 2 = false ∨ mac.usage.testBit 2 = false
      ∃ t, exec (.verifyDecrypt src crcs) s = .next t ∧ t.out = s.out ∧ t.keys = s.keys ∧ t.acc.run = s.acc.run ∧
        (badLen → EndsWith t id .lengthError) ∧
        (¬badLen → (enc.loaded = false ∨ mac.loaded = false) → EndsWith t id .keyRevoked) ∧
        (¬badLen → enc.loaded = true → mac.loaded = true → badUse → EndsWith t id .badDescriptor) ∧
        (¬badLen → enc.loaded = true → mac.loaded = true → ¬badUse → (s.mayDma = false → t = s) ∧
          (s.mayDma = true → t.acc = { s.acc with reqs := s.acc.reqs.tail, vd := some ⟨id, (padTo len src).take len, false, false, .idle⟩ }))) ∧
    (∀ v u src crcs, s.acc.vd = some v → v.cipher ≠ .waits v.txn → s.txn? v.txn = some u → u.live = true →
      s.isOn .crypto = true → s.isOn .keys = true →
      let ps := s.paramsOf v.txn
      let len := leNat ((ps.drop 6).take 2)
      let iv := (ps.drop 24).take 16
      let slot := if v.verified then leNat (ps.take 2) else leNat ((ps.drop 2).take 2)
      let blocks := if v.verified then len / 16 else cmacBlocks (16 + len)
      let Ends := fun (st : Status) (out : List Output) => ∃ t, exec (.verifyDecrypt src crcs) s = .next t ∧ t.keys = s.keys ∧
        t.acc.vd = none ∧ t.out = out ∧ EndsWith t v.txn st
      (v.keyLost = true ∨ v.cipher = .refused → Ends .keyRevoked s.out) ∧
      (v.keyLost = false →
        (v.cipher = .idle → s.generalTurn 32 = false → exec (.verifyDecrypt src crcs) s = .next s) ∧
        (v.cipher = .idle → s.generalTurn 32 = true → ∃ t w, exec (.verifyDecrypt src crcs) s = .next t ∧
          t.acc = { s.acc with vd := some { v with cipher := .waits s.sys.nextId } } ∧ t.cph.queue = s.cph.queue ++ [(s.sys.nextId, [])] ∧
          t.cph.jobs = s.cph.jobs ++ [⟨s.sys.nextId, slot, blocks⟩] ∧ t.txns = s.txns ++ [w] ∧ w.id = s.sys.nextId ∧
          w.slot = .general ∧ t.keys = s.keys ∧ t.out = s.out) ∧
        (∀ id, v.cipher = .waits id → exec (.verifyDecrypt src crcs) s = .next s) ∧
        (∀ key, v.cipher = .done key → v.verified = false →
          let tag := (cmac8 key (iv ++ v.staged)).take (byteAt ps 5) = (ps.drop 40).take (byteAt ps 5)
          (tag → exec (.verifyDecrypt src crcs) s =
            .next { s with acc := { s.acc with vd := some { v with verified := true, cipher := .idle } } }) ∧
          (¬tag → Ends .authFail s.out)) ∧
        (∀ key, v.cipher = .done key → v.verified = true →
          (s.mayDma = false → exec (.verifyDecrypt src crcs) s = .next s) ∧
          (s.mayDma = true → Ends .ok (s.logged [.hostWrite (leNat ((ps.drop 16).take 8)) (vdDecrypt (byteAt ps 4 == 1)
            key iv (chunks Byte 16 (len / 16 + 1) v.staged))]))))) ∧
    (∀ d, CarriedOut s 24 4 d →
      let i := descField d 16 2
      let e := s.entry i
      ∃ t, exec (.revoke d) s = .next t ∧ EndsWith t s.sys.nextId .ok ∧
        (e.st = 1 → t.entry i = { e with st := 2 } ∧ (t.keySlot e.keySlot).loaded = false ∧ t.acc.epoch = s.acc.epoch + 1) ∧
        (e.st ≠ 1 → t.keys = s.keys ∧ t.acc = s.acc) ∧ (∀ j, j ≠ i → t.entry j = s.entry j)) ∧
    (∀ d, CarriedOut s 24 0x0F d → ∃ t, exec (.accAbort d) s = .next t ∧ EndsWith t s.sys.nextId .ok ∧
      (∀ r, s.acc.run = some r → r.stage ≠ .ready → t.acc.run = none ∧ t.link.frame = none) ∧
      (∀ v u, s.acc.vd = some v → v.cipher ≠ .waits v.txn → s.txn? v.txn = some u → u.live = true → t.acc.vd = none ∧ EndsWith t v.txn .aborted) ∧
      ((descByte d 16).testBit 0 = true → t.acc.reqs = s.acc.reqs.filter (fun q => match q with | .trig _ _ => false | _ => true)) ∧
      ((descByte d 16).testBit 0 = false → s.acc.run = none → s.acc.vd = none → t.acc = s.acc))

/-- O39, derived (spec/00_scope.md (R9), spec/08_access_sequencer.md (R341, R378, R379, R380, R398)). While CORE is ON,
SKIP_RESTORE with its bit clears NEED_RESTORE, and ACC_PLOCK with its bit sets PLOCK; without their bits they change
nothing. MIRROR_RESTORE_START with EN becoming 1 while NEED_RESTORE is 1 starts the restore, whose two reads of
1,044 bytes are queued for the serial master and the first begins when the master is free; with PLOCK it changes
nothing. MIRROR_RESTORE_DONE of what both reads brought sets ACC_ERR.RESTORE when neither image is valid, otherwise
loads the newest one's epoch, counts, sector and generation, and either way clears NEED_RESTORE; before both reads
have ended it changes nothing. MIRROR_WRITE_DONE of a write whose frames have all ended takes the other sector and
the next generation, one that fails between two frames sets ACC_ERR.MIRROR and drops the frames that are left; with
no write in progress, a frame on the wire or another number of pages it changes nothing. Which sector comes next and
what a failed write leaves are the model's choice (log entry 44), the commands of the flash are taken from its
standard (log entry 77). -/
def Obligations.SequencerLocksAndTheMirrorRestores : Prop :=
  ∀ (s : State) (w : Word),
    (w.getLsbD 17 = false → exec (.skipRestore w) s = .next s) ∧ (w.getLsbD 16 = false → exec (.accPlock w) s = .next s) ∧
    (s.isOn .core = true →
      (w.getLsbD 17 = true → ∃ t, exec (.skipRestore w) s = .next t ∧ t.acc = { s.acc with needRestore := false } ∧
        t = { s with regs := t.regs, acc := t.acc }) ∧
      (w.getLsbD 16 = true → ∃ t, exec (.accPlock w) s = .next t ∧ t.rd F.ACC_CFG_PLOCK = 1 ∧
        (s.flag F.ACC_CFG_PLOCK = true → w.getLsbD 17 = false → RegsOnly s t [F.ACC_CFG_PLOCK.key 0])) ∧
      (s.flag F.ACC_CFG_PLOCK = true → exec (.mirrorRestoreStart w) s = .next s) ∧
      (s.flag F.ACC_CFG_PLOCK = false → ∃ t, exec (.mirrorRestoreStart w) s = .next t ∧
        t.rd F.ACC_MIRROR_CFG_EN = w.toNat % 2 ∧ t.rd F.ACC_MIRROR_CFG_CS = w.toNat / 2 % 4 ∧
        t.rd F.ACC_MIRROR_CFG_BASE = w.toNat / 16 % 4096 ∧
        t.acc = { s.acc with restoring := s.acc.restoring || (w.getLsbD 0 && !s.flag F.ACC_MIRROR_CFG_EN && s.acc.needRestore) } ∧
        (let starts := w.getLsbD 0 && !s.flag F.ACC_MIRROR_CFG_EN && s.acc.needRestore && !s.acc.restoring
         let fr := fun k => s.pwr.flash.readFrame (4096 * (w.toNat / 16 % 4096 + k)) 1044
         (starts = false → t.serial = s.serial ∧ t.spi = s.spi ∧ t.out = s.out) ∧
         (starts = true → t.serial.frames = s.serial.frames ++ [fr 0, fr 1] ∧ t.serial.cs = w.toNat / 2 % 4) ∧
         (starts = true → s.wireFree = true → s.serial.frames = [] → s.serial.retry = .none → s.loadFrame = none →
           s.xferWaits = false → t.serial.onWire = true ∧
           t.out = s.logged [.spiFrame (w.toNat / 2 % 4) (s.spiSet (w.toNat / 2 % 4)) (fr 0).head ((fr 0).head.io 1044)])) ∧
        RegsOnly { s with acc := t.acc, out := t.out, serial := t.serial, spi := t.spi } t [F.ACC_MIRROR_CFG_EN.key 0,
          F.ACC_MIRROR_CFG_CS.key 0, F.ACC_MIRROR_CFG_BASE.key 0, F.SPI_CNT_RETRY_COUNT.key 0])) ∧
    (∀ a b, (s.acc.restoring = false ∨ s.serial.frames ≠ [] ∨ s.serial.got ≠ [a.take 1044, b.take 1044] →
        exec (.mirrorRestoreDone a b) s = .next s) ∧
      (s.acc.restoring = true → s.serial.frames = [] → s.serial.got = [a.take 1044, b.take 1044] → s.acc.mirror.dirty = false →
        ∃ t, exec (.mirrorRestoreDone a b) s = .next t ∧
        t.acc.restoring = false ∧ t.acc.needRestore = false ∧ t.serial.frames = [] ∧ t.serial.got = [] ∧
        (newestImage a b = none → t = { s.wr F.ACC_ERR_RESTORE 0 1 with acc := t.acc, serial := t.serial } ∧
          t.acc = { s.acc with restoring := false, needRestore := false }) ∧
        (∀ k g img, newestImage a b = some (k, g, img) → t.acc.epoch = BitVec.ofNat 32 (leNat ((img.drop 8).take 4)) ∧
          (∀ l < 4, t.lockFails l = byteAt img (12 + l)) ∧ (∀ i < 1024, t.tokFails i = byteAt img (16 + i)) ∧
          t.acc.mirror = { s.acc.mirror with sector := k, gen := g }))) ∧
    (s.acc.mirror.image = none → ∀ ok n, exec (.mirrorWriteDone ok n) s = .next s) ∧
    (∀ g, s.acc.mirror.image = some g →
      let p := s.serial.programmed ((g.bytes.length + 255) / 256)
      let done := fun sector gen => ({ s.dropFrames with acc := { s.acc with mirror := ⟨none, false, sector, gen⟩ } } : State)
      (∀ ok n, n ≠ p ∨ s.serial.onWire = true → exec (.mirrorWriteDone ok n) s = .next s) ∧
      (s.serial.frames ≠ [] → exec (.mirrorWriteDone true p) s = .next s) ∧
      (s.serial.onWire = false → s.acc.mirror.dirty = false →
        (s.serial.frames = [] → exec (.mirrorWriteDone true p) s =
          .next (done (1 - s.acc.mirror.sector) ((s.acc.mirror.gen + 1) % 2 ^ 32)).serialNext) ∧
        exec (.mirrorWriteDone false p) s =
          .next ((done s.acc.mirror.sector s.acc.mirror.gen).wr F.ACC_ERR_MIRROR 0 1).serialNext))

/-- O40, derived (spec/09_uhf_radio.md (R404, R411, R412, R413, R416, R419, R421, R426, R427, R428, R430)). At the head
with UHF ON and the radio not held, SET_REST takes REST and REST_CH, and ends OK where the radio is in that SLEEP or
STANDBY already; RECEIVE runs, and where the radio stands in RX on its channel, calibrated, its window opens at
once, or it ends LATE when its NLT has passed; CALIBRATE runs and a cycle is due, whose step starts in SYNTH_ON on
its channel where the radio may be on; TRANSMIT keeps its bytes with their CRC, once its data fetch may be issued.
TRANSMIT and CW with the radio in SYNTH_ON or RX on their channel, calibrated and idle, end LATE when their first
bit cannot start by NLT, and otherwise are admitted when the ledger has room for their planned time, which is
charged and counted, or end REGULATORY with DUTY set and counted; in a calibration step, and away from SYNTH_ON and
RX, they only run. UHF_NLT_EXPIRY ends the first waiting transaction whose NLT has passed LATE and counts it. ABORT
at its fetch ends the running transaction ABORTED and itself OK. Model's choices: what is in a calibration step (log
entry 75), when the radio is held (76), commands at fetch (10), the channel of a calibration cycle (92). -/
def Obligations.RadioCommandsStartAndAskTheLedger : Prop :=
  ∀ s : State,
    (∀ u, s.uhfTake? 1 = some u → s.txn? u.id = some u → s.uhf.need = .none → ∃ t, exec .setRest s = .next t ∧
      t.rd F.UHF_CTL_REST = descByte u.desc 16 % 4 ∧ t.rd F.UHF_CTL_REST_CH = descByte u.desc 17 ∧
      (s.rd F.UHF_STAT_STATE = descByte u.desc 16 % 4 → s.rd F.UHF_STAT_STATE ≤ 1 → EndsWith t u.id .ok) ∧
      (s.rd F.UHF_STAT_STATE ≠ descByte u.desc 16 % 4 → t.txn? u.id = some { u with phase := .running })) ∧
    (∀ u, s.uhfTake? 3 = some u → s.txn? u.id = some u → ∃ t, exec .receive s = .next t ∧
      let there := s.uhf.need = .none ∧ s.rd F.UHF_STAT_STATE = 3 ∧ s.rd F.UHF_STAT_CHAN = descByte u.desc 16 ∧
        s.flag F.UHF_CAL_STAT_VALID = true
      (¬there → t.txn? u.id = some { u with phase := .running } ∧
        t = { s with txns := t.txns, link := { s.link with listen := t.link.listen } } ∧
        (s.rd F.UHF_STAT_STATE ≠ 3 → t.link = s.link)) ∧
      (there → s.nltPassed u.desc = true → EndsWith t u.id .late) ∧
      (there → s.nltPassed u.desc = false → t.txn? u.id = some { u with phase := .running } ∧
        t.uhf = { s.uhf with window := true, divA := none } ∧ t.regs = s.regs)) ∧
    (∀ u, s.uhfTake? 4 = some u → s.txn? u.id = some u → ∃ t, exec .uhfCalibrate s = .next t ∧
      t.txn? u.id = some { u with phase := .running } ∧ t.rd F.UHF_CAL_STAT_DUE = 1 ∧
      (s.rd F.UHF_STAT_STATE ≠ 2 → t.uhf = s.uhf) ∧
      (s.rd F.UHF_STAT_STATE = 2 → s.rd F.UHF_STAT_CHAN = s.rd F.UHF_CTL_REST_CH → s.uhf.need = .none →
        s.radioOff = false → t.uhf.calStep = true) ∧
      RegsOnly { s with txns := t.txns, uhf := { s.uhf with calStep := t.uhf.calStep } } t [F.UHF_CAL_STAT_DUE.key 0]) ∧
    (let starts := fun (o : Host.Outcome State Fault Refusal) (u : Txn) =>
        let r := s.rd F.UHF_STAT_STATE
        let band := s.subBand (descByte u.desc 16)
        let planned := plannedTx u (r == 3)
        ((r ≠ 2 ∧ r ≠ 3) ∨ s.uhf.calStep = true → ∃ t, o = .next t ∧ t.txn? u.id = some { u with phase := .running } ∧
          t = { s with txns := t.txns, uhf := { s.uhf with bytes := t.uhf.bytes } }) ∧
        (r = 2 ∨ r = 3 → s.rd F.UHF_STAT_CHAN = descByte u.desc 16 → s.uhf.admitted = false → s.uhf.charge = none →
          s.flag F.UHF_CAL_STAT_VALID = true → s.radioOff = false → s.uhf.calStep = false →
          (s.lateBy u.desc (if r = 3 then 40 else 25) = true → ∃ t, o = .next t ∧ EndsWith t u.id .late ∧
            t.uhf.ledger = s.uhf.ledger ∧
            t.rd F.UHF_CNT_LATE_COUNT = (s.rd F.UHF_CNT_LATE_COUNT + 1) % F.UHF_CNT_LATE_COUNT.size) ∧
          (s.lateBy u.desc (if r = 3 then 40 else 25) = false → s.sbUsed band + planned ≤ s.sbLimit band →
            ∃ t, o = .next t ∧ t.uhf.admitted = true ∧
            t.uhf.charge = some ⟨band, planned, 0, false⟩ ∧ t.sbUsed band = s.sbUsed band + planned ∧
            t.txn? u.id = some { u with phase := .running } ∧
            t.rd F.UHF_CNT_TX_COUNT = (s.rd F.UHF_CNT_TX_COUNT + 1) % F.UHF_CNT_TX_COUNT.size) ∧
          (s.lateBy u.desc (if r = 3 then 40 else 25) = false → s.sbLimit band < s.sbUsed band + planned →
            ∃ t, o = .next t ∧ EndsWith t u.id .regulatory ∧
            t.uhf.ledger = s.uhf.ledger ∧ t.rd F.UHF_ERR_DUTY = 1 ∧
            t.rd F.UHF_CNT_REG_COUNT = (s.rd F.UHF_CNT_REG_COUNT + 1) % F.UHF_CNT_REG_COUNT.size))
     (∀ u buf, s.uhfTake? 2 = some u → s.txn? u.id = some u →
        ((descByte u.desc 18).testBit 1 = true ∨ s.mayDma = true → starts (exec (.transmit buf) s) u) ∧
        ((descByte u.desc 18).testBit 1 = false → s.mayDma = false → exec (.transmit buf) s = .next s)) ∧
     (∀ u, s.uhfTake? 5 = some u → s.txn? u.id = some u → starts (exec .cwCommand s) u)) ∧
    (∀ u buf, s.uhfTake? 2 = some u → s.txn? u.id = some u → s.rd F.UHF_STAT_STATE ≤ 1 →
      ((descByte u.desc 18).testBit 1 = true ∨ s.mayDma = true) → ∃ t, exec (.transmit buf) s = .next t ∧
      (let n := descField u.desc 20 2
       let b := if (descByte u.desc 18).testBit 1 then descBytes u.desc 32 n else (padTo n buf).take n
       t.uhf.bytes = if (descByte u.desc 18).testBit 0 then b ++ leBytes 2 (crc16B b).toNat else b)) ∧
    (∀ e u, s.txns.find? (fun v => v.unit == unitUhf && s.uhfWaits v && (s.nltPassed v.desc ||
        ((descByte v.desc 1).testBit 2 && !s.radioHeld && decide (descField v.desc 8 8 < e)))) = some u → s.txn? u.id = some u →
      ∃ t, exec (.uhfNltExpiry e) s = .next t ∧ EndsWith t u.id .late ∧
        t.rd F.UHF_CNT_LATE_COUNT = (s.rd F.UHF_CNT_LATE_COUNT + 1) % F.UHF_CNT_LATE_COUNT.size) ∧
    (∀ d u, CarriedOut s 25 0x0F d → s.running? unitUhf = some u → s.txn? u.id = some u → ∃ t, exec (.uhfAbort d) s = .next t ∧
      EndsWith t u.id .aborted ∧ EndsWith t s.sys.nextId .ok ∧ t.uhf.charge = s.uhf.charge) ∧
    (∀ d, CarriedOut s 25 0x0F d → s.running? unitUhf = none → ∃ t, exec (.uhfAbort d) s = .next t ∧
      EndsWith t s.sys.nextId .ok ∧ t.uhf = s.uhf)

/-- O41, derived (spec/09_uhf_radio.md (R400, R401, R402, R403, R404, R411, R415, R416, R417, R420, R422, R424)).
UHF_TRANSITION_DONE with UHF ON brings the radio to a goal of SYNTH_ON or below that is lower, after a calibration
step in progress unless the radio must stop, from RX or TX to another channel by way of SYNTH_ON, from TX to RX, and
otherwise one state up: to STANDBY with the PLL locked, to SYNTH_ON on the goal's channel, and into RX or TX when it
may enter; at its goal only a due calibration step may start. SYNTH_LOCK_TIMEOUT while the synthesiser locks returns
to STANDBY with LOCK_FAIL and ends the transaction that needed it TIMEOUT, or drops what the sequencer needed, whose
train is not charged. CAL_STEP_DONE of the step in progress counts it, and after the 32nd the cycle is valid and
counted; the next step starts only where it ends before a transition that the sequencer has scheduled.
CAL_INTERVAL_EXPIRY makes a cycle due. DUTY_BUCKET_ROTATE makes a zeroed bucket current in every sub-band.
DIVERSITY_CHOICE in RX with diversity on changes the aerial only for a difference of more than 8, once for a slot;
with it off aerial A is measured. A command not due changes nothing (log entry 1); a step that the radio leaves is
made again (75), and a cycle runs on the channel of entry 92. -/
def Obligations.TheRadioStepsTowardItsGoal : Prop :=
  ∀ s : State,
    (s.isOn .uhf = false → exec .uhfTransitionDone s = .next s ∧ exec .synthLockTimeout s = .next s ∧ exec .calStepDone s = .next s ∧
      exec .calIntervalExpiry s = .next s ∧ ∀ a b, exec (.diversityChoice a b) s = .next s) ∧
    (s.isOn .uhf = true → s.rd F.UHF_STAT_STATE ≤ 4 →
      let g := s.radioGoal
      let r := s.rd F.UHF_STAT_STATE
      let ch := s.rd F.UHF_STAT_CHAN
      ∃ t, exec .uhfTransitionDone s = .next t ∧
        (g.1 < r → g.1 ≤ 2 → s.uhf.calStep = true → s.radioOff = false → t = s) ∧
        (g.1 < r → g.1 ≤ 2 → s.uhf.calStep = false ∨ s.radioOff = true → t.rd F.UHF_STAT_STATE = g.1 ∧ t.rd F.UHF_STAT_CHAN = ch ∧ t.rd F.UHF_STAT_LOCK = (if g.1 = 2 then 1 else 0)) ∧
        (3 ≤ r → 3 ≤ g.1 → ch ≠ g.2 → t.rd F.UHF_STAT_STATE = 2 ∧ t.rd F.UHF_STAT_CHAN = ch) ∧
        (r = 4 → g.1 = 3 → ch = g.2 → t.rd F.UHF_STAT_STATE = 3 ∧ t.rd F.UHF_STAT_CHAN = ch) ∧
        (r = 0 → 1 ≤ g.1 → s.pwr.hfLock = true → t.rd F.UHF_STAT_STATE = 1) ∧
        (r = 0 → s.pwr.hfLock = false → t = s) ∧
        (r = 1 → 2 ≤ g.1 → g.2 < 256 → t.rd F.UHF_STAT_STATE = 2 ∧ t.rd F.UHF_STAT_CHAN = g.2 ∧ t.rd F.UHF_STAT_LOCK = 1) ∧
        (r = 2 → 2 ≤ g.1 → ch ≠ g.2 → g.2 < 256 → s.uhf.calStep = false → t.rd F.UHF_STAT_STATE = 2 ∧ t.rd F.UHF_STAT_CHAN = g.2) ∧
        (r = 2 → 2 ≤ g.1 → ch ≠ g.2 → s.uhf.calStep = true → t = s) ∧
        (r = 2 → 3 ≤ g.1 → g.1 ≤ 4 → ch = g.2 → s.mayEnter g.1 = true → t.rd F.UHF_STAT_STATE = g.1) ∧
        ((r = 2 ∧ 3 ≤ g.1 ∧ ch = g.2 ∧ s.mayEnter g.1 = false) ∨ (r = g.1 ∧ (ch = g.2 ∨ r < 2)) →
          t = { s with uhf := { s.uhf with calStep := t.uhf.calStep } })) ∧
    (s.isOn .uhf = true → s.radioLocking = true → ∃ t, exec .synthLockTimeout s = .next t ∧ t.rd F.UHF_STAT_STATE = 1 ∧
      t.rd F.UHF_ERR_LOCK_FAIL = 1 ∧
      (∀ u, s.uhf.need = .none → s.running? unitUhf = some u → s.txn? u.id = some u → EndsWith t u.id .timeout) ∧
      (∀ c, s.uhf.need = .slots c → t.uhf = { s.uhf with need := .none, calStep := false } ∧ t.txns = s.txns) ∧
      (∀ c, s.uhf.need = .train c → t.uhf.need = .none ∧ t.txns = s.txns ∧
        (s.uhf.charge.all (·.train) = true → t.uhf.charge = none))) ∧
    (s.radioLocking = false → exec .synthLockTimeout s = .next s) ∧
    (s.uhf.calStep = false → exec .calStepDone s = .next s) ∧
    (s.isOn .uhf = true → s.uhf.calStep = true →
      (s.rd F.UHF_CAL_STAT_STEP < 31 → ∃ t, exec .calStepDone s = .next t ∧ t.rd F.UHF_CAL_STAT_STEP = s.rd F.UHF_CAL_STAT_STEP + 1 ∧
        (s.rd F.UHF_STAT_STATE = 2 → s.flag F.UHF_CAL_STAT_DUE = true → s.running? unitUhf = none → s.radioLocking = false →
          2 ≤ s.radioGoal.1 → s.stepInTime = true → t.uhf = s.uhf) ∧
        (s.stepInTime = false → t.uhf.calStep = false)) ∧
      (s.rd F.UHF_CAL_STAT_STEP = 31 → ∃ t, exec .calStepDone s = .next t ∧ t.rd F.UHF_CAL_STAT_STEP = 0 ∧
        t.rd F.UHF_CAL_STAT_DUE = 0 ∧ t.rd F.UHF_CAL_STAT_VALID = 1 ∧ t.uhf.calStep = false ∧
        t.rd F.UHF_CNT_CAL_COUNT = (s.rd F.UHF_CNT_CAL_COUNT + 1) % F.UHF_CNT_CAL_COUNT.size)) ∧
    (s.isOn .uhf = true → s.rd F.UHF_CAL_CFG_INTERVAL = 0 → exec .calIntervalExpiry s = .next s) ∧
    (s.isOn .uhf = true → s.rd F.UHF_CAL_CFG_INTERVAL ≠ 0 → ∃ t, exec .calIntervalExpiry s = .next t ∧ t.rd F.UHF_CAL_STAT_DUE = 1 ∧
      RegsOnly { s with uhf := { s.uhf with calStep := t.uhf.calStep } } t [F.UHF_CAL_STAT_DUE.key 0]) ∧
    (∃ t, exec .dutyBucketRotate s = .next t ∧ (∀ b : Fin 8, vget t.uhf.ledger b = (0 :: vget s.uhf.ledger b).take 60) ∧
      t = { s with uhf := { s.uhf with ledger := t.uhf.ledger, charge := s.uhf.charge.map (fun c => { c with age := c.age + 1 }) } }) ∧
    (∀ a b, s.isOn .uhf = true → s.rd F.UHF_STAT_STATE ≠ 3 → exec (.diversityChoice a b) s = .next s) ∧
    (∀ a b n k c, s.link.listen = .slots n k (some c) → c.chosen.isSome = true → exec (.diversityChoice a b) s = .next s) ∧
    (∀ a b, s.isOn .uhf = true → s.rd F.UHF_STAT_STATE = 3 → s.divOn = true →
      let x := signedOf 16 a
      let y := signedOf 16 b
      let old := s.rd F.UHF_DIV_STAT_LAST
      let now := if old = 0 ∧ x + 8 < y then 1 else if old ≠ 0 ∧ y + 8 < x then 0 else if old = 0 then 0 else 1
      (s.link.listen = .none ∨ ∃ n k c, s.link.listen = .slots n k (some c) ∧ c.chosen = none) →
      ∃ t, exec (.diversityChoice a b) s = .next t ∧ t.rd F.UHF_DIV_RSSI_RSSI_A = a % 65536 ∧ t.rd F.UHF_DIV_RSSI_RSSI_B = b % 65536 ∧
        t.rd F.UHF_DIV_STAT_LAST = now ∧
        t.link = { s.link with listen := match s.link.listen with
          | .slots n k (some c) => .slots n k (some { c with chosen := some (a % 65536, b % 65536, now) })
          | l => l } ∧
        RegsOnly { s with link := t.link } t [F.UHF_DIV_RSSI_RSSI_A.key 0, F.UHF_DIV_RSSI_RSSI_B.key 0, F.UHF_DIV_STAT_LAST.key 0]) ∧
    (∀ a b, s.isOn .uhf = true → s.rd F.UHF_STAT_STATE = 3 → s.divOn = false → s.link.listen = .none →
      exec (.diversityChoice a b) s = .next { s with uhf := { s.uhf with divA := some (a % 65536) } }) ∧
    (∀ a b n k c, s.isOn .uhf = true → s.rd F.UHF_STAT_STATE = 3 → s.divOn = false → s.link.listen = .slots n k (some c) →
      c.chosen = none → exec (.diversityChoice a b) s = .next { s with
        uhf := { s.uhf with divA := some (a % 65536) }
        link := { s.link with listen := .slots n k (some { c with chosen := some (a % 65536, 0x8000, 0) }) } })

/-- O42, derived (spec/09_uhf_radio.md (R412, R413, R424, R427, R428, R429)). UHF_TX_END of a TRANSMIT on the air and
CW_END of a CW end them OK and leave TX with the charge corrected to the actual time; without a charge, and CW_END
with nothing running, they change nothing. UHF_TX_END also corrects the charge of a transmission that was aborted,
and a SET_REST that waited for it ends OK at its state, and of a train, which has then been sent. UHF_FRAME_RECEIVED
of a frame in reception counts it, notes whether its CRC was good, and keeps the window open unless STOP is set;
without one it changes nothing. RECEIVE_WINDOW_END closes the window, and with no frame in reception ends the
RECEIVE NO_RESPONSE without a record, OK with a good one, and CRC_ERROR with only bad ones. A command not due
changes nothing (log entry 1). -/
def Obligations.RadioTransmissionsAndReceptionsEnd : Prop :=
  ∀ s : State,
    (∀ a, s.uhf.charge = none → exec (.uhfTxEnd a) s = .next s) ∧
    (∀ a c, s.uhf.charge = some c → s.running? unitUhf = none → s.uhf.need = .none → ∃ t, exec (.uhfTxEnd a) s = .next t ∧
      t.uhf.charge = none ∧ t.txns = s.txns) ∧
    (∀ a c k, s.uhf.charge = some c → s.running? unitUhf = none → s.uhf.need = .train k →
      (s.rd F.UHF_STAT_STATE = 4 → ∃ t, exec (.uhfTxEnd a) s = .next t ∧ t.uhf.charge = none ∧ t.uhf.need = .none ∧
        t.rd F.UHF_STAT_STATE ≤ 2 ∧ t.txns = s.txns) ∧
      (s.rd F.UHF_STAT_STATE ≠ 4 → exec (.uhfTxEnd a) s = .next s)) ∧
    (∀ a c u, s.uhf.charge = some c → s.uhf.need = .none → s.running? unitUhf = some u → s.txn? u.id = some u → s.rd F.UHF_STAT_STATE = 4 →
      (∀ v ∈ s.txns, v.unit = unitUhf → v.phase = .running → v = u) → u.op = 1 → s.uhf.admitted = false → s.radioOff = false →
      s.rd F.UHF_CTL_REST ≤ 1 → ∃ t, exec (.uhfTxEnd a) s = .next t ∧ EndsWith t u.id .ok ∧ t.uhf.charge = none ∧
        t.rd F.UHF_STAT_STATE = s.rd F.UHF_CTL_REST) ∧
    (∀ a c u, s.uhf.charge = some c → s.uhf.need = .none → s.running? unitUhf = some u → s.txn? u.id = some u → s.rd F.UHF_STAT_STATE = 4 →
      (∀ v ∈ s.txns, v.unit = unitUhf → v.phase = .running → v = u) →
      (u.op = 2 → s.uhf.admitted = true → ∃ t, exec (.uhfTxEnd a) s = .next t ∧ EndsWith t u.id .ok ∧ t.uhf.charge = none ∧
        t.rd F.UHF_STAT_STATE ≤ 2) ∧
      (u.op = 5 → ∃ t, exec (.cwEnd a) s = .next t ∧ EndsWith t u.id .ok ∧ t.uhf.charge = none ∧ t.rd F.UHF_STAT_STATE ≤ 2 ∧
        (∀ l, c.age = 0 → c.band < 8 → s.uhf.ledger = vset s.uhf.ledger (ix 7 c.band) (c.planned :: l) → a ≤ c.planned →
          vget t.uhf.ledger (ix 7 c.band) = a :: l))) ∧
    (∀ a, s.running? unitUhf = none → exec (.cwEnd a) s = .next s) ∧
    (∀ rx, s.uhf.inFrame = false → exec (.uhfFrameReceived rx) s = .next s) ∧
    (∀ rx u, s.running? unitUhf = some u → s.txn? u.id = some u → u.op = 3 → s.uhf.inFrame = true →
      let n := descField u.desc 20 2
      let data := (padTo n rx.bytes).take n
      let good := (descByte u.desc 17).testBit 0 = false ∨ leNat ((rx.bytes.drop n).take 2) = (crc16B data).toNat
      ∃ t, exec (.uhfFrameReceived rx) s = .next t ∧
        t.rd F.UHF_CNT_FRAME_COUNT = (s.rd F.UHF_CNT_FRAME_COUNT + 1) % F.UHF_CNT_FRAME_COUNT.size ∧ t.uhf.inFrame = false ∧
        ((descByte u.desc 17).testBit 2 = false → s.uhf.window = true → t.uhf.window = true ∧ t.uhf.records = s.uhf.records + 1 ∧
          (t.uhf.anyOk = true ↔ s.uhf.anyOk = true ∨ good)) ∧
        ((descByte u.desc 17).testBit 2 = true ∨ s.uhf.window = false →
          (s.uhf.anyOk = true ∨ good → EndsWith t u.id .ok) ∧ (s.uhf.anyOk = false → ¬good → EndsWith t u.id .crcError))) ∧
    (s.uhf.window = false → exec .receiveWindowEnd s = .next s) ∧
    (∀ u, s.running? unitUhf = some u → s.txn? u.id = some u → u.op = 3 → s.uhf.window = true →
      (s.uhf.inFrame = true → exec .receiveWindowEnd s = .next { s with uhf := { s.uhf with window := false } }) ∧
      (s.uhf.inFrame = false → ∃ t, exec .receiveWindowEnd s = .next t ∧ t.uhf.window = false ∧
        EndsWith t u.id (if s.uhf.records = 0 then .noResponse else if s.uhf.anyOk then .ok else .crcError)))

/-- O43, derived (spec/10_key_store_and_cipher.md (R438, R440, R441, R443, R444, R446, R447, R462, R463)). The import at
the head, with KEYS ON and none in progress, begins when the command is of its opcode; without a root key it ends
AUTH_FAIL with NO_ROOT. IMPORT_WRITE_CYCLE of an unwrapped key loads the slot with its attributes and the next GEN,
counts it and ends OK; of one that does not unwrap it leaves every slot, sets UNWRAP, counts it and ends AUTH_FAIL.
KGEN_WRITE without PLOCK sets KGEN and derives the key-encryption key again when it changes; KEY_PLOCK locks it.
TOKEN_ENTRY_CAPTURE shows the whole entry in KEY_TOK_DATA. ERASE at its fetch of a LOADED slot that no core uses
empties and zeroes it, counts it and ends OK, a queued request that names it ending KEY_REVOKED; of an EMPTY slot it
changes no slot. Model's choices: a command not due changes nothing (log entry 1), commands at fetch (10). -/
def Obligations.KeysAreImportedErasedAndGenerationsDerived : Prop :=
  ∀ s : State,
    (let begins := fun (o : Host.Outcome State Fault Refusal) (op : Nat) => ∀ r rest, s.keys.imports = r :: rest →
      (s.isOn .keys = false ∨ s.keys.importing = true ∨ (s.importReq r).1 ≠ op → o = .next s) ∧
      (s.isOn .keys = true → s.keys.importing = false → (s.importReq r).1 = op →
        (s.otp.rootOk = true → ∃ t, o = .next t ∧ t.keys = { s.keys with importing := true } ∧
          (∀ id u, r = .desc id → s.txn? id = some u → t.txn? id = some { u with phase := .running }) ∧
          t = { s with keys := t.keys, txns := t.txns }) ∧
        (s.otp.rootOk = false → ∃ t, o = .next t ∧ t.keys = { s.keys with imports := rest, importing := false } ∧
          t.rd F.KEY_ERR_NO_ROOT = 1 ∧ (∀ id u, r = .desc id → s.txn? id = some u → u.live = true → EndsWith t id .authFail)))
     begins (exec .import128 s) 0x10 ∧ begins (exec .import256 s) 0x11) ∧
    (∀ r rest, s.keys.imports = r :: rest → s.isOn .keys = true → s.keys.importing = true →
      (∀ slot k256 usage key, unwrapped (s.importReq r).1 s.keys.kek (s.importReq r).2 = some (slot, k256, usage, key) →
        ∃ t, exec .importWriteCycle s = .next t ∧
          t.keySlot slot = ⟨true, k256, usage, ((s.keySlot slot).gen + 1) % 65536, key⟩ ∧ (∀ j, j ≠ slot → t.keySlot j = s.keySlot j) ∧
          t.keys.imports = rest ∧ t.keys.importing = false ∧ t.keys.entries = s.keys.entries ∧
          t.rd F.KEY_CNT_IMPORT_COUNT = (s.rd F.KEY_CNT_IMPORT_COUNT + 1) % F.KEY_CNT_IMPORT_COUNT.size ∧
          (∀ id u, r = .desc id → s.txn? id = some u → u.live = true → EndsWith t id .ok)) ∧
      (unwrapped (s.importReq r).1 s.keys.kek (s.importReq r).2 = none → ∃ t, exec .importWriteCycle s = .next t ∧
        t.keys = { s.keys with imports := rest, importing := false } ∧ t.rd F.KEY_ERR_UNWRAP = 1 ∧
        t.rd F.KEY_CNT_UNWRAP_FAIL_COUNT = (s.rd F.KEY_CNT_UNWRAP_FAIL_COUNT + 1) % F.KEY_CNT_UNWRAP_FAIL_COUNT.size ∧
        (∀ id u, r = .desc id → s.txn? id = some u → u.live = true → EndsWith t id .authFail))) ∧
    (∀ w : Word, s.isOn .keys = true → ∃ t, exec (.kgenWrite w) s = .next t ∧
      t.rd F.KEY_CFG_KGEN = (if s.flag F.KEY_CFG_PLOCK then s.rd F.KEY_CFG_KGEN else w.toNat % 16) ∧
      (s.flag F.KEY_CFG_PLOCK = false → w.toNat % 16 ≠ s.rd F.KEY_CFG_KGEN → t.keys.kek =
        if s.otp.rootOk then cmac s.otp.rootKey ([1#8, 0x4B#8, 0x45#8, 0x4B#8, 0x57#8] ++ leBytes 1 (w.toNat % 16)) ++
          cmac s.otp.rootKey ([2#8, 0x4B#8, 0x45#8, 0x4B#8, 0x57#8] ++ leBytes 1 (w.toNat % 16)) else []) ∧
      t.keys = { s.keys with kek := t.keys.kek } ∧
      RegsOnly { s with keys := t.keys } t [F.KEY_CFG_KGEN.key 0, F.KEY_CFG_PLOCK.key 0]) ∧
    (∀ w : Word, (w.getLsbD 4 = false → exec (.keyPlock w) s = .next s) ∧
      (w.getLsbD 4 = true → s.isOn .keys = true → ∃ t, exec (.keyPlock w) s = .next t ∧ t.rd F.KEY_CFG_PLOCK = 1 ∧
        t.keys.slots = s.keys.slots)) ∧
    (∀ w : Word, s.isOn .keys = true → ∃ t, exec (.tokenEntryCapture w) s = .next t ∧ t.rd F.KEY_TOK_SEL_TIDX = w.toNat % 1024 ∧
      (∀ k < 12, t.rd F.KEY_TOK_DATA_DATA k = leNat (((tokEntryBytes (s.entry (w.toNat % 1024))).drop (4 * k)).take 4)) ∧
      RegsOnly s t (F.KEY_TOK_SEL_TIDX.key 0 :: (List.range 12).map (F.KEY_TOK_DATA_DATA.key ·))) ∧
    (∀ (b : Bool) d, CarriedOut s (cipherSq b) 0x12 d → s.keys.importing = false → s.startedTxns (fun _ => true) = [] →
      let slot := descField d 16 2
      (((s.keySlot slot).loaded = true → (∀ id x u, s.cph.queue = [(id, x)] → s.job? id = none → s.txn? id = some u → u.cipherSlot = slot → u.live = true →
          ∃ t, exec (.erase b d) s = .next t ∧ EndsWith t id .keyRevoked ∧ t.cph.queue = []) ∧
        ∃ t, exec (.erase b d) s = .next t ∧ EndsWith t s.sys.nextId .ok ∧
          t.keySlot slot = { s.keySlot slot with loaded := false, usage := 0, key := [] } ∧
          (∀ j, j ≠ slot → t.keySlot j = s.keySlot j) ∧ t.keys.entries = s.keys.entries ∧
          t.rd F.KEY_CNT_ERASE_COUNT = (s.rd F.KEY_CNT_ERASE_COUNT + 1) % F.KEY_CNT_ERASE_COUNT.size) ∧
       ((s.keySlot slot).loaded = false → ∃ t, exec (.erase b d) s = .next t ∧ EndsWith t s.sys.nextId .ok ∧ t.keys = s.keys)))

/-- O44, derived (spec/10_key_store_and_cipher.md (R447, R448, R449, R450, R451, R452, R453, R454, R455, R463)). CIPHER
stages further input of the first request that lacks some and may be read, the inline bytes or the next that its
fetch brought. CIPHER_REQUEST_START of the head with an idle core takes the slot's key onto the core and leaves the
queue; an EMPTY slot ends it KEY_REVOKED and counts, a USAGE without its direction BAD_DESCRIPTOR. KEY_PRELOAD puts
the head's LOADED key into an idle core when none is preloaded. CIPHER_BLOCK_DONE waits while its block is not
staged or cannot be written, and otherwise writes the block of the running request to DST, counts it and goes on,
and after the last ends it OK and frees the core; a stopped request ends with its status, its block not output. A
request of the access sequencer takes its turn in the same queue and cores: it has no input and no output, and the
sequencer gets its result after its last block, or learns that its slot was EMPTY. ABORT at its fetch ends the
earlier waiting request of its ring ABORTED, and itself OK when none is started. Model's choices: a command not due
changes nothing (log entry 1), commands at fetch (10), counters and the sequencer's requests (45). -/
def Obligations.CipherRequestsRunBlockByBlock : Prop :=
  ∀ s : State,
    (let lacks := fun (v : Txn) => s.needsInput v && ((descByte v.desc 18).testBit 1 || s.mayDma)
     ∀ buf,
      (∀ u got, s.txns.find? lacks = some u → s.cipherInput? u.id = some got →
        let n := u.cipherLen
        ∃ t, exec (.cipher buf) s = .next t ∧ t.cipherInput? u.id = some (got ++
            if (descByte u.desc 18).testBit 1 then descBytes u.desc 32 n else buf.take (n - got.length)) ∧
          (∀ j, j ≠ u.id → t.cipherInput? j = s.cipherInput? j) ∧ t.cph.waits = s.cph.waits ∧ t = { s with cph := t.cph }) ∧
      (s.txns.find? lacks = none → exec (.cipher buf) s = .next s)) ∧
    (∀ id inp rest u c, s.isOn .crypto = true → s.isOn .keys = true → s.cph.queue = (id, inp) :: rest → s.idleCore? = some c →
      s.job? id = none → s.txn? id = some u → u.live = true →
      let k := s.keySlot u.cipherSlot
      let dir := if (descByte u.desc 18).testBit 0 then 1 else 0
      (k.loaded = false → ∃ t, exec .cipherRequestStart s = .next t ∧ EndsWith t id .keyRevoked ∧
        t.rd F.CPH_CNT_REVOKED_COUNT = (s.rd F.CPH_CNT_REVOKED_COUNT + 1) % F.CPH_CNT_REVOKED_COUNT.size) ∧
      (k.loaded = true → k.usage.testBit dir = false → ∃ t, exec .cipherRequestStart s = .next t ∧ EndsWith t id .badDescriptor ∧
        t.cph.cores = s.cph.cores) ∧
      (k.loaded = true → k.usage.testBit dir = true → ∃ t, exec .cipherRequestStart s = .next t ∧
        t.core c = ⟨some ⟨id, u.cipherSlot, k.key, 0, inp, [], none⟩, some (u.cipherSlot, k.gen), false⟩ ∧
        (∀ j, j ≠ c → t.core j = s.core j) ∧ t.cph.queue = rest.filter (fun p => p.1 != id) ∧
        t.txn? id = some { u with phase := .running } ∧ t = { s with cph := t.cph, txns := t.txns })) ∧
    (∀ id x rest c j, s.isOn .crypto = true → s.isOn .keys = true → s.cph.queue = (id, x) :: rest → s.idleCore? = some c →
      s.job? id = some j →
      let k := s.keySlot j.slot
      (k.loaded = true → ∃ t, exec .cipherRequestStart s = .next t ∧
        t.core c = ⟨some ⟨id, j.slot, k.key, 0, [], [], none⟩, some (j.slot, k.gen), false⟩ ∧ (∀ i, i ≠ c → t.core i = s.core i) ∧
        t.cph.queue = rest.filter (fun p => p.1 != id) ∧ t = { s with cph := t.cph, txns := t.txns }) ∧
      (k.loaded = false → ∃ t, exec .cipherRequestStart s = .next t ∧ t.txns = s.txns.filter (fun v => v.id != id) ∧
        t.job? id = none ∧ t.cph.cores = s.cph.cores ∧ t.keys = s.keys ∧
        (∀ r, s.acc.run = some r → r.cipher = .waits id → t.acc.run = some { r with cipher := .refused }) ∧
        t.rd F.CPH_CNT_REVOKED_COUNT = (s.rd F.CPH_CNT_REVOKED_COUNT + 1) % F.CPH_CNT_REVOKED_COUNT.size)) ∧
    (∀ c r j, (s.core c).run = some r → r.stop = none → s.job? r.txn = some j →
      (r.done + 1 < j.blocks → ∃ t, exec (.cipherBlockDone c) s = .next t ∧ (t.core c).run = some { r with done := r.done + 1 } ∧
        t.acc = s.acc ∧ t.txns = s.txns ∧ t.out = s.out) ∧
      (j.blocks ≤ r.done + 1 → ∃ t, exec (.cipherBlockDone c) s = .next t ∧ (t.core c).run = none ∧
        t.txns = s.txns.filter (fun v => v.id != r.txn) ∧ t.out = s.out ∧
        (∀ x, s.acc.run = some x → x.cipher = .waits r.txn → t.acc.run = some { x with cipher := .done r.key }) ∧
        t.rd F.CPH_CNT_BLOCKS_COUNT = (s.rd F.CPH_CNT_BLOCKS_COUNT + 1) % F.CPH_CNT_BLOCKS_COUNT.size)) ∧
    (∀ c id x rest u, s.isOn .crypto = true → s.isOn .keys = true → (s.core c).run = none → (∀ j, (s.core j).preload = false) →
      s.cph.queue = (id, x) :: rest → s.job? id = none → s.txn? id = some u →
      ((s.keySlot u.cipherSlot).loaded = false → exec (.keyPreload c) s = .next s) ∧
      ((s.keySlot u.cipherSlot).loaded = true → ∃ t, exec (.keyPreload c) s = .next t ∧
        t.core c = { s.core c with kept := some (u.cipherSlot, (s.keySlot u.cipherSlot).gen), preload := true } ∧
        (∀ j, j ≠ c → t.core j = s.core j) ∧ t = { s with cph := { s.cph with cores := t.cph.cores } })) ∧
    (∀ c r u, (s.core c).run = some r → s.job? r.txn = none → s.txn? r.txn = some u → u.live = true →
      (∀ st, r.stop = some st → s.cph.waits = [] → ∃ t, exec (.cipherBlockDone c) s = .next t ∧ EndsWith t r.txn st ∧ (t.core c).run = none ∧
        (st ≠ .keyRevoked → t.out = s.out)) ∧
      (r.stop = none → r.inp.length < 16 * (r.done + 1) → exec (.cipherBlockDone c) s = .next s) ∧
      (r.stop = none → u.cipherDst ≠ 0 → s.mayDma = false → exec (.cipherBlockDone c) s = .next s) ∧
      (r.stop = none → 16 * (r.done + 1) ≤ r.inp.length → u.cipherDst = 0 ∨ s.mayDma = true →
        let inp := (r.inp.drop (16 * r.done)).take 16
        let blk := if (descByte u.desc 18).testBit 0 then aesDecrypt r.key inp else aesEncrypt r.key inp
        (16 * (r.done + 1) < u.cipherLen → ∃ t, exec (.cipherBlockDone c) s = .next t ∧
          (t.core c).run = some { r with done := r.done + 1, out := r.out ++ blk } ∧ (∀ j, j ≠ c → t.core j = s.core j) ∧
          (u.cipherDst = 0 → t.out = s.out) ∧
          (u.cipherDst ≠ 0 → t.out = s.logged [.hostWrite (u.cipherDst + 16 * r.done) blk]) ∧ t.txns = s.txns ∧
          t.rd F.CPH_CNT_BLOCKS_COUNT = (s.rd F.CPH_CNT_BLOCKS_COUNT + 1) % F.CPH_CNT_BLOCKS_COUNT.size) ∧
        (u.cipherLen ≤ 16 * (r.done + 1) → s.cph.waits = [] → ∃ t, exec (.cipherBlockDone c) s = .next t ∧ (t.core c).run = none ∧
          EndsWith t r.txn .ok ∧
          t.rd F.CPH_CNT_BLOCKS_COUNT = (s.rd F.CPH_CNT_BLOCKS_COUNT + 1) % F.CPH_CNT_BLOCKS_COUNT.size ∧
          (u.cipherDst ≠ 0 → t.out = s.logged [.hostWrite (u.cipherDst + 16 * r.done) blk])))) ∧
    (∀ c, (s.core c).run = none → exec (.cipherBlockDone c) s = .next s) ∧
    (∀ (b : Bool) d, CarriedOut s (cipherSq b) 0x0F d → s.startedTxns (fun _ => true) = [] → ∃ t, exec (.cipherAbort b d) s = .next t ∧
      EndsWith t s.sys.nextId .ok ∧ t.keys = s.keys ∧
      (∀ u, s.txns = [u] → u.unit = unitCph → u.sq = some (cipherSq b).val → u.live = true → u.op = 1 ∨ u.op = 2 ∨ u.op = 3 →
        EndsWith t u.id .aborted))

/-- O45, derived (spec/10_key_store_and_cipher.md (R457, R458, R459, R460, R461, R463)). RANDOM and RESEED wait at the
generator from their dispatch, in the order of their fetch; RANDOM has a LEN of 1 to 4,096, of at most 224 for a
record. RANDOM and RESEED of the host let the generator take theirs, or end TIMEOUT while FAIL is 1. RNG_GENERATE
with the generator READY gives the access sequencer the challenge bits that it waits for, and with no exchange
serves the head once it is taken: RESEED reseeds and ends OK, RANDOM counts, writes its bytes to DST and ends OK;
one whose bytes cannot be written waits. The repetition count test fails exactly when 41 consecutive bits are equal,
the other when the first bit of a window of 1,024 stands in it 794 times. RNG_READY makes the generator READY from
its seed material unless its start-up bits fail a test; a failure there, or of the bits that RNG_HEALTH_FAIL brings,
zeroes it, sets FAIL and the failed test, clears READY and ends a waiting request TIMEOUT; RNG_RESTART with RESTART
clears FAIL. Model's choices: a command not due changes nothing (log entry 1), details of an exchange that draws
(43), RESTART leaves RCT and APT (45), the first bit counts itself (82). -/
def Obligations.TheGeneratorServesItsRequestsInOrder : Prop :=
  ∀ s : State,
    (∀ t : Txn, t.unit = unitCph → t.op = 2 ∨ t.op = 3 →
      s.atDispatch t = { s with rng := { s.rng with queue := insReq t.id s.rng.queue } }) ∧
    (∀ d, randomLengthBad d = true ↔ descField d 16 2 = 0 ∨ 4096 < descField d 16 2 ∨ (descField d 24 8 = 0 ∧ 224 < descField d 16 2)) ∧
    (let taken := fun (o : Host.Outcome State Fault Refusal) (u : Txn) =>
        (s.flag F.CPH_RNG_STAT_FAIL = true → ∃ t, o = .next t ∧ EndsWith t u.id .timeout ∧
          t.rng = { s.rng with queue := s.rng.queue.filter (· != u.id) }) ∧
        (s.flag F.CPH_RNG_STAT_FAIL = false → ∃ t, o = .next t ∧ t.txn? u.id = some { u with phase := .running } ∧
          t = { s with txns := t.txns })
     (∀ u, s.rngTake? 2 = some u → s.txn? u.id = some u → taken (exec .random s) u) ∧
     (∀ u, s.rngTake? 3 = some u → s.txn? u.id = some u → taken (exec .reseed s) u)) ∧
    (∀ e id rest u, s.isOn .crypto = true → s.flag F.CPH_RNG_STAT_READY = true → s.acc.run = none → s.rng.queue = id :: rest →
      s.txn? id = some u →
      (u.phase ≠ .running ∨ (u.op = 2 ∧ descField u.desc 24 8 ≠ 0 ∧ s.mayDma = false) → exec (.rngGenerate e) s = .next s) ∧
      (u.phase = .running →
      let seed := drbgReseed ((padTo 64 e).take 64) (s.rng.key, s.rng.v)
      (u.op = 3 → ∃ t, exec (.rngGenerate e) s = .next t ∧ EndsWith t id .ok ∧ t.rng = ⟨seed.1, seed.2, rest.filter (· != id)⟩ ∧
        t.rd F.CPH_RNG_STAT_SINCE = 0 ∧
        t.rd F.CPH_RNG_CNT_RESEED_COUNT = (s.rd F.CPH_RNG_CNT_RESEED_COUNT + 1) % F.CPH_RNG_CNT_RESEED_COUNT.size) ∧
      (u.op = 2 → descField u.desc 24 8 ≠ 0 → s.mayDma = true →
        let due := s.flag F.CPH_RNG_CTL_PR = true ∨ s.rd F.CPH_RNG_CTL_RESEED_INT ≤ s.rd F.CPH_RNG_STAT_SINCE
        ∃ t, exec (.rngGenerate e) s = .next t ∧ EndsWith t id .ok ∧
          t.rd F.CPH_RNG_CNT_GEN_COUNT = (s.rd F.CPH_RNG_CNT_GEN_COUNT + 1) % F.CPH_RNG_CNT_GEN_COUNT.size ∧
          (∀ g, g = drbgGenerate (descField u.desc 16 2) (if due then seed else (s.rng.key, s.rng.v)) →
            t.out = s.logged [.hostWrite (descField u.desc 24 8) g.1] ∧ t.rng = ⟨g.2.1, g.2.2, rest.filter (· != id)⟩)))) ∧
    (∀ e r n p, s.isOn .crypto = true → s.flag F.CPH_RNG_STAT_READY = true → s.acc.run = some r → r.stage = .draw n true → r.path = some p →
      ∃ t, exec (.rngGenerate e) s = .next t ∧ t.rng.queue = s.rng.queue ∧
        t.acc = { s.acc with run := some { r with path := some { p with challenge := (s.rngBytes n e).2 }, stage := .judge .drawn } } ∧
        t.rd F.CPH_RNG_CNT_GEN_COUNT = (s.rd F.CPH_RNG_CNT_GEN_COUNT + 1) % F.CPH_RNG_CNT_GEN_COUNT.size) ∧
    (∀ l : List Bool, rctFails none 0 l = true ↔ ∃ i b, (l.drop i).take 41 = List.replicate 41 b) ∧
    (let apt := fun (l : List Bool) => ∃ b t, l.take 1024 = b :: t ∧ 794 ≤ (b :: t).count b
     let Fails := fun (o : Host.Outcome State Fault Refusal) (rct apt : Prop) => ∃ t, o = .next t ∧
        t.rd F.CPH_RNG_STAT_FAIL = 1 ∧ t.rd F.CPH_RNG_STAT_READY = 0 ∧ (rct → t.rd F.CPH_RNG_STAT_RCT = 1) ∧
        (apt → t.rd F.CPH_RNG_STAT_APT = 1) ∧ t.rng = ⟨[], [], []⟩ ∧
        (∀ id u, s.rng.queue = [id] → s.txn? id = some u → u.live = true → EndsWith t id .timeout)
     (∀ start raw, s.isOn .crypto = true →
       (s.flag F.CPH_RNG_STAT_READY = true ∨ s.flag F.CPH_RNG_STAT_FAIL = true → exec (.rngReady start raw) s = .next s) ∧
       (s.flag F.CPH_RNG_STAT_READY = false → s.flag F.CPH_RNG_STAT_FAIL = false →
         (rctFails none 0 start = true ∨ apt start → s.acc.run = none →
           Fails (exec (.rngReady start raw) s) (rctFails none 0 start = true) (apt start)) ∧
         (rctFails none 0 start = false → ¬apt start → ∃ t, exec (.rngReady start raw) s = .next t ∧
           t.rd F.CPH_RNG_STAT_READY = 1 ∧ t.rd F.CPH_RNG_STAT_SINCE = 0 ∧
           (t.rng.key, t.rng.v) = drbgInit ((padTo 64 raw).take 64) ((padTo 32 (raw.drop 64)).take 32) (leBytes 8 s.otp.serial.toNat) ∧
           t.rng.queue = s.rng.queue ∧
           RegsOnly { s with rng := t.rng } t [F.CPH_RNG_STAT_READY.key 0, F.CPH_RNG_STAT_SINCE.key 0]))) ∧
     (∀ run window, s.isOn .crypto = true → s.acc.run = none →
       (rctFails none 0 run = true ∨ apt window →
         Fails (exec (.rngHealthFail run window) s) (rctFails none 0 run = true) (apt window)) ∧
       (rctFails none 0 run = false → ¬apt window → exec (.rngHealthFail run window) s = .next s))) ∧
    (∀ w : Word, (w.getLsbD 0 = false → exec (.rngRestart w) s = .next s) ∧
      (w.getLsbD 0 = true → s.isOn .crypto = true → ∃ t, exec (.rngRestart w) s = .next t ∧ t.rd F.CPH_RNG_STAT_FAIL = 0 ∧
        t.rd F.CPH_RNG_CTL_PR = w.toNat / 2 % 2 ∧
        RegsOnly s t [F.CPH_RNG_STAT_FAIL.key 0, F.CPH_RNG_CTL_PR.key 0, F.CPH_RNG_CTL_RESEED_INT.key 0]))

/-- O46, derived (spec/12_chaining.md (R503, R504, R514, R518, R524, R528, R530, R531, R546, R547)). RING_CFG_WRITE with
RING ON takes the fields, keeping a reserved TS_INT or FWD_RUN; with EN in the HEAD or SATELLITE role and free pads
an OFF link enters TRAINING, and without EN both links are OFF. LINK_UP of a TRAINING link makes it UP, sends an
ECHO with RES 0, and XON or XOFF where the queue behind it asks for it; otherwise it changes nothing. LINK_LOSS of
an UP link puts it in TRAINING with ALIGN and forgets what was held and measured on it; a closed head's ring opens
with its breaks due; a satellite whose last WALK was CLOSED that loses UP sets REVERSED and sends BREAK downward.
CABLE_MEASURE of an UP link sends an ECHO. ECHO_TOKEN with RES 0 is returned with the residence; with another RES,
while an ECHO is out, it writes half of the round trip less RES and 16. A flow symbol holds or frees the
transmitter, and XOFF_REPEAT sends XOFF again while the neighbour is held. Model's choices: a command not due
changes nothing (log entry 1), what a lost link leaves (32), the TSEQ and half cycle of an ECHO (33), when breaks
are due (34). -/
def Obligations.RingLinksTrainMeasureAndBreak : Prop :=
  ∀ (s : State) (w : Word) (up : Bool),
    let v := w.toNat
    let cab := if up then F.RING_CABLE_UP else F.RING_CABLE_DN
    let echo := Output.ringToken up 8 s.ring.tseq (leBytes 2 0) (tokenCrc 8 s.ring.tseq (leBytes 2 0))
    (s.isOn .ring = true → ∃ t, exec (.ringCfgWrite w) s = .next t ∧ t.rd F.RING_CFG_EN = v % 2 ∧ t.rd F.RING_CFG_TS_EN = v / 2 % 2 ∧
      t.rd F.RING_CFG_TS_INT = (if 1 ≤ v / 256 % 256 ∧ v / 256 % 256 ≤ 100 then v / 256 % 256 else s.rd F.RING_CFG_TS_INT) ∧
      t.rd F.RING_CFG_FWD_RUN = (if 1 ≤ v / 65536 % 16 then v / 65536 % 16 else s.rd F.RING_CFG_FWD_RUN) ∧
      t.rd F.RING_CFG_RST_EN = v / 2 ^ 20 % 2 ∧
      (v % 2 = 1 → s.sys.role = .head ∨ s.sys.role = .satellite → s.padsHeld .ring = false →
        t.linkSt up = if s.linkSt up = 0 then 1 else s.linkSt up) ∧
      (v % 2 = 0 → t.linkSt up = 0) ∧ t = { s with regs := t.regs, ring := t.ring, out := t.out }) ∧
    (s.isOn .ring = true → s.linkSt up = 1 → ∃ t, exec (.linkUp up) s = .next t ∧ t.linkSt up = 2 ∧
      (s.holdsLink up = false → s.queueBytes up ≤ 6144 → t.out = s.logged [echo]) ∧
      (s.holdsLink up = true → s.queueBytes up ≤ 4096 → t.out = s.logged [.ringFlow up false, echo] ∧ t.holdsLink up = false) ∧
      (s.holdsLink up = false → 6144 < s.queueBytes up → t.out = s.logged [.ringFlow up true, echo] ∧ t.holdsLink up = true) ∧
      (if up then t.ring.echoUp else t.ring.echoDn) = true ∧ t.ring.tseq = (s.ring.tseq + 1) % 256 ∧
      t = { s with regs := t.regs, ring := t.ring, out := t.out }) ∧
    (s.isOn .ring = false ∨ s.linkSt up ≠ 1 → exec (.linkUp up) s = .next s) ∧
    (s.linkIsUp up = true → ∃ t, exec (.linkLoss up) s = .next t ∧ t.linkSt up = 1 ∧ t.rd F.RING_ERR_ALIGN = 1 ∧
      (if up then t.ring.heldUp = false ∧ t.ring.echoUp = false else t.ring.heldDn = false ∧ t.ring.echoDn = false) ∧
      (s.sys.role = .head → s.flag F.RING_STAT_CLOSED = true → t.rd F.RING_STAT_CLOSED = 0 ∧ t.ring.wasClosed = true ∧
        t.ring.breakDue = true) ∧
      (up = true → s.sys.role = .satellite → s.ring.walkClosed = true → t.rd F.RING_STAT_REVERSED = 1 ∧
        (s.linkIsUp false = true → t.out = s.logged [.ringToken false 7 s.ring.tseq (leBytes 2 s.originSerial)
          (tokenCrc 7 s.ring.tseq (leBytes 2 s.originSerial))])) ∧
      (up = false ∨ s.ring.walkClosed = false → t.out = s.out ∧ t.rd F.RING_STAT_REVERSED = s.rd F.RING_STAT_REVERSED)) ∧
    (s.linkIsUp up = false → exec (.linkLoss up) s = .next s ∧ exec (.cableMeasure up) s = .next s ∧ exec (.xoffRepeat up) s = .next s ∧
      (∀ x, exec (.flowSymbolReceived up x) s = .next s) ∧ ∀ k span, k.up = up → exec (.echoToken k span) s = .next s) ∧
    (s.linkIsUp up = true → (∃ t, exec (.cableMeasure up) s = .next t ∧ t.out = s.logged [echo] ∧
        (if up then t.ring.echoUp else t.ring.echoDn) = true ∧ t = { s with ring := t.ring, out := t.out }) ∧
      (s.holdsLink up = true → exec (.xoffRepeat up) s = .next { s with out := s.logged [.ringFlow up true] }) ∧
      (s.holdsLink up = false → exec (.xoffRepeat up) s = .next s) ∧
      (∀ x, exec (.flowSymbolReceived up x) s =
        .next { s with ring := if up then { s.ring with heldUp := x } else { s.ring with heldDn := x } }) ∧
      (∀ k span, k.up = up → k.type = 8 →
        (tokenGood k = false → exec (.echoToken k span) s = .next (s.setF F.RING_ERR_TOKEN_CRC)) ∧
        (tokenGood k = true → leNat (k.payload.take 2) = 0 → exec (.echoToken k span) s =
          .next { s.count F.RING_CNT_TOKEN_COUNT with out := s.logged [.ringToken up 8 k.tseq (leBytes 2 span) (tokenCrc 8 k.tseq (leBytes 2 span))] }) ∧
        (tokenGood k = true → leNat (k.payload.take 2) ≠ 0 → (if up then s.ring.echoUp else s.ring.echoDn) = true →
          leNat (k.payload.take 2) + 16 ≤ span → ∃ t, exec (.echoToken k span) s = .next t ∧
            (let d := span - leNat (k.payload.take 2) - 16
             (d % 2 = 0 → t.rd cab = d / 2 % 65536) ∧ (t.rd cab = d / 2 % 65536 ∨ t.rd cab = (d / 2 + 1) % 65536)) ∧
            (if up then t.ring.echoUp else t.ring.echoDn) = false ∧ t.out = s.out ∧
            t.rd F.RING_CNT_TOKEN_COUNT = (s.rd F.RING_CNT_TOKEN_COUNT + 1) % 2 ^ 32)))

/-- O47, derived (spec/12_chaining.md (R507, R509, R510, R511, R512, R513, R517, R518, R519, R520, R523, R525)). A
received data frame with a bad CRC is counted and discarded; a good one goes into the head's ring ingress within the
latency budget, is counted as dropped beyond it, and waits in a satellite to be forwarded; with fewer than 2 KiB
left the neighbour is sent XOFF. DATA_FRAME_SEND sends the first waiting frame with its age and hops increased, or
the device's own item when none waits or FWD_RUN frames have gone first. LATENCY_DROP_REPORT commits the count of an
origin. A satellite forwards each token received on an UP link as it is; with a bad CRC TOKEN_CRC is set and nothing
else happens; the head absorbs it. A good ROUND with RING_IN is a boundary start; HALT and RESUME aimed here set and
clear the bits of their SCOPE; BREAK from UP while CLOSED sets REVERSED; a RESET aimed here with RST_EN resets every
domain except AON after it is forwarded; a TIME_SYNC never sets the timebase back and clears COARSE. A token that is
forwarded with another payload gets a CRC that is good exactly when the received one was. TIME_SYNC_SEND sends the
timebase, and TIME_SYNC_TIMEOUT, 2 × NEXT ms after the last TIME_SYNC, sets COARSE and commits TIME_SYNC_LOST.
Model's choices: a command not due changes nothing (log entry 1), what RING_CNT_TOKEN counts (33), the bound of a
drop count (35). -/
def Obligations.RingFramesAndTokensAreTakenAndForwarded : Prop :=
  ∀ (s : State), (∀ up : Bool, s.linkIsUp up = false →
      (∀ b, exec (.dataFrameReceived up b) s = .next s) ∧ (∀ res, exec (.dataFrameSend up res) s = .next s) ∧
      (∀ k : TokenRx, k.up = up → exec (.roundToken k) s = .next s ∧ exec (.haltToken k) s = .next s ∧ exec (.resumeToken k) s = .next s ∧
        exec (.resetToken k) s = .next s ∧ exec (.breakToken k) s = .next s ∧ exec (.reservedTypeToken k) s = .next s ∧
        ∀ since res, exec (.timeSyncToken k since res) s = .next s)) ∧
   (∀ up : Bool, s.linkIsUp up = true →
    (∀ b, (ringFrameGood b = false → ∃ t, exec (.dataFrameReceived up b) s = .next t ∧ t.rd F.RING_ERR_CRC = 1 ∧
        t.ingress = s.ingress ∧ t.ring = s.ring ∧ t.out = s.out ∧
        t.rd F.RING_CNT_CRC_COUNT = (s.rd F.RING_CNT_CRC_COUNT + 1) % 2 ^ 32) ∧
      (let age := leNat (b.take 3)
       let budget := s.rd F.RING_LAT_BUDGET_BUDGET
       let item := (b.take (b.length - 4)).drop 8
       ringFrameGood b = true → ∃ t, exec (.dataFrameReceived up b) s = .next t ∧
        (s.holdsLink up = false → 8192 < t.queueBytes up + 2048 → t.holdsLink up = true ∧ t.out = s.logged [.ringFlow up true] ∧
          t.rd F.RING_CNT_XOFF_COUNT = (s.rd F.RING_CNT_XOFF_COUNT + 1) % F.RING_CNT_XOFF_COUNT.size) ∧
        (s.holdsLink up = false → t.queueBytes up + 2048 ≤ 8192 → t.holdsLink up = false ∧ t.out = s.out) ∧
        (s.sys.role = .head → budget = 0 ∨ age ≤ 8 * budget →
          t.ingress = s.ingress ++ [⟨(byteAt b 6).testBit 0, item, up⟩] ∧ t.ring.drops = s.ring.drops) ∧
        (s.sys.role = .head → budget ≠ 0 → 8 * budget < age → t.ingress = s.ingress ∧
          t.ring.drops = addDrop (leNat ((b.drop 4).take 2)) s.ring.drops ∧
          t.rd F.RING_CNT_LATDROP_COUNT = (s.rd F.RING_CNT_LATDROP_COUNT + 1) % 2 ^ 32) ∧
        (s.sys.role ≠ .head → t.ingress = s.ingress ∧ t.ring.fwd = s.ring.fwd ++
          [⟨age, (byteAt b 3), leNat ((b.drop 4).take 2), (byteAt b 6).testBit 0, item, up⟩]))) ∧
    (s.sys.role ≠ .satellite ∨ s.dataUp ≠ up ∨ s.heldOn up = true → ∀ res, exec (.dataFrameSend up res) s = .next s) ∧
    (s.sys.role = .satellite → s.dataUp = up → s.heldOn up = false → s.test.takesBalls = false → ∀ res : Nat,
      (∀ f l, s.ring.fwd = f :: l → s.ownItem = none ∨ s.ring.ownWait < s.rd F.RING_CFG_FWD_RUN →
        ∃ t, exec (.dataFrameSend up res) s = .next t ∧ t.ring.fwd = l ∧
          .ringFrame up (ringFrameBytes (f.age + res + 1) ((f.hops + 1) % 256) f.origin f.event (!up) f.item) ∈ t.out ∧
          t.boardMem = s.boardMem ∧ t.board = s.board) ∧
      (∀ k r, s.ownItem = some (k, r) → s.ring.fwd = [] ∨ s.rd F.RING_CFG_FWD_RUN ≤ s.ring.ownWait →
        ∃ t, exec (.dataFrameSend up res) s = .next t ∧ t.ring.fwd = s.ring.fwd ∧ t.ring.ownWait = 0 ∧
          t.out = s.logged [.ringFrame up (ringFrameBytes (8 * (s.sys.timebase.toNat - r.time)) 0 s.originSerial r.event (!up)
            (s.recBytes k r))]) ∧
      (s.ring.fwd = [] → s.ownItem = none → exec (.dataFrameSend up res) s = .next s)) ∧
    (∀ k : TokenRx, k.up = up →
      let f : State := { s with out :=
        if s.sys.role = .satellite ∧ s.linkIsUp (!up) = true then s.logged [.ringToken (!up) k.type k.tseq k.payload k.crc]
        else s.out }
      let n := (s.rd F.RING_CNT_TOKEN_COUNT + 1) % 2 ^ 32
      let passes := fun (o : Host.Outcome State Fault Refusal) (type : Nat) =>
        (k.type ≠ type → o = .next s) ∧ (k.type = type → tokenGood k = false → o = .next (f.setF F.RING_ERR_TOKEN_CRC)) ∧
        (k.type = type → tokenGood k = true → s.sys.role ≠ .satellite → o = .next f)
      passes (exec (.roundToken k) s) 1 ∧ passes (exec (.haltToken k) s) 2 ∧ passes (exec (.resumeToken k) s) 3 ∧
      passes (exec (.resetToken k) s) 6 ∧ passes (exec (.breakToken k) s) 7 ∧
      (k.type = 0 ∨ 8 < k.type → exec (.reservedTypeToken k) s = .next (if tokenGood k then f else f.setF F.RING_ERR_TOKEN_CRC)) ∧
      (k.type ≠ 0 → k.type ≤ 8 → exec (.reservedTypeToken k) s = .next s) ∧
      (tokenGood k = true → s.sys.role = .satellite →
        (k.type = 1 → s.flag F.ROD_ROUND_CFG_RING_IN = true → ∃ t, exec (.roundToken k) s = .next t ∧ t.rd F.RING_CNT_TOKEN_COUNT = n ∧
          t.round = { s.round with starts := s.round.starts ++ [(3, some (BitVec.ofNat 32 (leNat (k.payload.take 4))))] } ∧
          RegsOnly { f with round := t.round } t [F.RING_CNT_TOKEN_COUNT.key 0]) ∧
        (k.type = 1 → s.flag F.ROD_ROUND_CFG_RING_IN = false → exec (.roundToken k) s = .next f) ∧
        (let halts := fun (o : Host.Outcome State Fault Refusal) (v : Nat) =>
          (s.aimed k.payload = true → ∃ t, o = .next t ∧ t.rd F.RING_CNT_TOKEN_COUNT = n ∧
            t.rd F.RING_STAT_HALT_AIR = (if (byteAt k.payload 3).testBit 0 then v else s.rd F.RING_STAT_HALT_AIR) ∧
            t.rd F.RING_STAT_HALT_EGRESS = (if (byteAt k.payload 3).testBit 1 then v else s.rd F.RING_STAT_HALT_EGRESS) ∧
            RegsOnly f t [F.RING_CNT_TOKEN_COUNT.key 0, F.RING_STAT_HALT_AIR.key 0, F.RING_STAT_HALT_EGRESS.key 0]) ∧
          (s.aimed k.payload = false → o = .next f)
         (k.type = 2 → halts (exec (.haltToken k) s) 1) ∧ (k.type = 3 → halts (exec (.resumeToken k) s) 0)) ∧
        (k.type = 7 → up = true → s.ring.walkClosed = true → ∃ t, exec (.breakToken k) s = .next t ∧ t.rd F.RING_STAT_REVERSED = 1 ∧
          t.rd F.RING_CNT_TOKEN_COUNT = n ∧ RegsOnly f t [F.RING_STAT_REVERSED.key 0, F.RING_CNT_TOKEN_COUNT.key 0]) ∧
        (k.type = 7 → up = false ∨ s.ring.walkClosed = false → exec (.breakToken k) s = .next f) ∧
        (k.type = 6 → s.flag F.RING_CFG_RST_EN = false ∨ s.aimed k.payload = false → exec (.resetToken k) s = .next f) ∧
        (k.type = 6 → s.aimed k.payload = true → s.flag F.RING_CFG_RST_EN = true → ∃ t, exec (.resetToken k) s = .next t ∧
          (∀ d, t.pst d = if d = .aon then .on else .off) ∧ t.txns = [] ∧ t.keys = KeysPart.reset ∧ t.pending = s.pending ∧
          t.rd F.RST_CAUSE_CAUSE = (s.rd F.RST_CAUSE_CAUSE ||| 2 ^ 4) % 64))) ∧
    (∀ (k : TokenRx) (since res : Nat), k.up = up → k.type = 4 →
      let pay := k.payload.take 9 ++ leBytes 4 (leNat ((k.payload.drop 9).take 4) + res + s.cable up) ++ (k.payload.drop 13).take 1
      let x := 240 * leNat (k.payload.take 8) + (byteAt k.payload 8) + leNat ((k.payload.drop 9).take 4) + s.cable up + since
      ∃ t, exec (.timeSyncToken k since res) s = .next t ∧
        t.out = (if s.sys.role = .satellite ∧ s.linkIsUp (!up) = true then s.logged [.ringToken (!up) 4 k.tseq pay (crcOnward k pay)] else s.out) ∧
        (tokenGood k = false → t.sys = s.sys ∧ t.rd F.RING_ERR_TOKEN_CRC = 1) ∧ (s.sys.role ≠ .satellite → t.sys = s.sys) ∧
        (tokenGood k = true → s.sys.role = .satellite → t.rd F.SYS_TB_STAT_COARSE = 0 ∧ t.rd F.SYS_TB_STAT_SYNCED = 1 ∧
          t.ring.frac = x % 240 ∧ (s.sys.timebase.toNat ≤ x / 240 → t.sys.timebase = BitVec.ofNat 64 (x / 240) ∧ t.ring.hold = 0) ∧
          (x / 240 < s.sys.timebase.toNat → t.sys.timebase = s.sys.timebase ∧ t.ring.hold = s.sys.timebase.toNat - x / 240)))) ∧
    (∀ (k : TokenRx) p, tokenGood { k with payload := p, crc := crcOnward k p } = tokenGood k) ∧
    (∀ o p, s.ring.drops.find? (fun p => p.1 == o) = some p → exec (.latencyDropReport o) s =
      .next ({ s with ring := { s.ring with drops := s.ring.drops.filter (fun p => p.1 != o) } }.raise .ringLatencyDrop unitRing
        (leBytes 2 p.1 ++ leBytes 2 (min 65535 p.2)))) ∧
    (∀ o, s.ring.drops.find? (fun p => p.1 == o) = none → exec (.latencyDropReport o) s = .next s) ∧
    (∀ frac : Nat, s.isOn .ring = true → s.isOn .core = true → s.sys.role = .head → s.flag F.RING_CFG_TS_EN = true →
      s.flag F.SYS_TB_STAT_COARSE = false → s.headLinks ≠ [] →
      let p := leBytes 8 s.sys.timebase.toNat ++ leBytes 1 (frac % 240) ++ leBytes 4 0 ++ leBytes 1 (s.rd F.RING_CFG_TS_INT)
      exec (.timeSyncSend frac) s = .next { s with
        ring := { s.ring with tseq := (s.ring.tseq + 1) % 256 }
        out := s.logged (s.headLinks.reverse.map (fun up => .ringToken up 4 s.ring.tseq p (tokenCrc 4 s.ring.tseq p))) }) ∧
    (∀ frac : Nat, s.sys.role ≠ .head ∨ s.flag F.SYS_TB_STAT_COARSE = true ∨ s.flag F.RING_CFG_TS_EN = false ∨ s.headLinks = [] ∨
      s.isOn .core = false → exec (.timeSyncSend frac) s = .next s) ∧
    (s.isOn .core = true → s.sys.role = .satellite → s.flag F.SYS_TB_STAT_SYNCED = true →
      s.ring.synAt + 2000 * s.ring.synNext ≤ s.pwr.aonMicros → exec .timeSyncTimeout s =
      .next (((s.wr F.SYS_TB_STAT_SYNCED 0 0).setF F.SYS_TB_STAT_COARSE).raise .timeSyncLost unitRing [])) ∧
    (s.sys.role ≠ .satellite ∨ s.isOn .core = false ∨ s.flag F.SYS_TB_STAT_SYNCED = false ∨
      s.pwr.aonMicros < s.ring.synAt + 2000 * s.ring.synNext → exec .timeSyncTimeout s = .next s)

/-- O48, derived (spec/12_chaining.md (R517, R520, R525, R526, R527, R528, R529, R531, R532, R546)). A satellite appends
its entry to a WALK that is neither reflected nor full, joins unless its serial stands in it already, notes CLOSED,
and sends it on, or back with REFLECTED when its outgoing link is not UP; with a bad CRC it forwards the same bytes
as bad and only sets TOKEN_CRC; a reflected one passes as it is. The head takes the WALK that it sent: one that left
DOWN and comes in UP unreflected closes the ring, another opens it, and the breaks that are due are reported;
DEVICES counts the entries of each side; an entry with DUP sets SERIAL_DUP; the last WALK of a RING_WALK completes
it OK. WALK_SEND and RING_WALK send a WALK with the next number on the head's links; RING_HALT, RING_RESUME and
RING_RESET send their token there and complete OK, or TIMEOUT when no link is UP. WALK_TIMEOUT loses the oldest WALK
of a link and completes its RING_WALK TIMEOUT. WALK_ABSENCE_TIMEOUT clears a satellite's JOINED. Model's choices: a
command not due changes nothing (log entry 1), the TSEQ of a reflected WALK (33), the parts of discovery that are
open (34). -/
def Obligations.WalksDiscoverTheRingAndRingCommandsSendTokens : Prop :=
  ∀ s : State,
    (∀ k : TokenRx, k.type ≠ 5 ∨ s.linkIsUp k.up = false → exec (.walkToken k) s = .next s) ∧
    (∀ k : TokenRx, k.type = 5 → s.linkIsUp k.up = true →
      let es := walkEntries k.payload
      let fl := byteAt k.payload 4
      (s.sys.role = .satellite → fl.testBit 0 = true → ∃ t, exec (.walkToken k) s = .next t ∧
        t.out = (if s.linkIsUp (!k.up) = true then s.logged [.ringToken (!k.up) 5 k.tseq k.payload k.crc] else s.out) ∧
        t.rd F.RING_ERR_TOKEN_CRC = (if tokenGood k = true then s.rd F.RING_ERR_TOKEN_CRC else 1) ∧
        RegsOnly { s with out := t.out } t [F.RING_ERR_TOKEN_CRC.key 0]) ∧
      (s.sys.role = .satellite → fl.testBit 0 = false →
        let dup := es.any (fun e => leNat (e.take 2) == s.originSerial)
        let eflags := b2n dup + 2 * b2n (!dup) + 4 * (if k.up then 0 else s.rd F.RING_STAT_REVERSED) + 8 * b2n (s.linkIsUp false)
        let entry := leBytes 2 s.originSerial ++ leBytes 1 (if s.flag F.BEAM_ADDR_VALID then s.rd F.BEAM_ADDR_ADDR else 0xFF) ++
          leBytes 1 eflags
        let p := if 255 ≤ es.length then k.payload else k.payload ++ entry
        let back := p.take 4 ++ leBytes 1 (byteAt p 4 + 1) ++ p.drop 5
        ∃ t, exec (.walkToken k) s = .next t ∧
          t.out = s.logged [if s.linkIsUp (!k.up) = true then .ringToken (!k.up) 5 k.tseq p (crcOnward k p)
            else .ringToken k.up 5 k.tseq back (crcOnward k back)] ∧
          (tokenGood k = false → t.rd F.RING_ERR_TOKEN_CRC = 1 ∧ t.ring = s.ring ∧ t.rd F.RING_STAT_JOINED = s.rd F.RING_STAT_JOINED) ∧
          (tokenGood k = true → t.ring.walkClosed = fl.testBit 1 ∧
            t.rd F.RING_STAT_REVERSED = (if k.up then 0 else s.rd F.RING_STAT_REVERSED) ∧
            (es.length < 255 → t.rd F.RING_STAT_JOINED = b2n (!dup) ∧ t.rd F.RING_STAT_HOPS = es.length ∧ t.ring.dup = dup) ∧
            (255 ≤ es.length → t.rd F.RING_STAT_JOINED = s.rd F.RING_STAT_JOINED))) ∧
      (s.sys.role ≠ .satellite → tokenGood k = false → exec (.walkToken k) s = .next (s.setF F.RING_ERR_TOKEN_CRC)) ∧
      (s.sys.role ≠ .satellite → tokenGood k = true → s.walkOf k = none → exec (.walkToken k) s = .next s) ∧
      (∀ w, s.sys.role = .head → tokenGood k = true → s.walkOf k = some w → ∃ t, exec (.walkToken k) s = .next t ∧
        t.ring.walks = s.ring.walks.erase w ∧
        (fl.testBit 0 = false → k.up = true → w.up = false → t.rd F.RING_STAT_CLOSED = 1 ∧
          t.rd F.RING_STAT_DEVICES = es.length % 256 ∧ t.ring.breakDue = false) ∧
        (fl.testBit 0 = true → w.up = false → t.rd F.RING_STAT_CLOSED = 0 ∧
          t.rd F.RING_STAT_DEVICES = (es.length + s.ring.cntUp) % 256 ∧ t.ring.breakDue = false) ∧
        (fl.testBit 0 = true → w.up = true → t.rd F.RING_STAT_DEVICES = (s.ring.cntDn + es.length) % 256 ∧ t.ring.breakDue = false) ∧
        (∀ e ∈ es.drop 1, (byteAt e 3).testBit 0 = true → t.rd F.RING_ERR_SERIAL_DUP = 1) ∧
        (∀ u id, w.txn = some id → s.txn? id = some u → u.isRunning = true →
          (∀ x ∈ s.ring.walks.erase w, x.txn ≠ some id) → EndsWith t id .ok))) ∧
    (s.isOn .ring = true → s.sys.role = .head → s.headLinks ≠ [] →
      let p := leBytes 2 s.originSerial ++ leBytes 2 s.ring.wno ++ leBytes 1 (2 * s.rd F.RING_STAT_CLOSED) ++ s.walkEntry false
      let sent := s.logged (s.headLinks.reverse.map (fun up => .ringToken up 5 s.ring.tseq p (tokenCrc 5 s.ring.tseq p)))
      (∃ t, exec .walkSend s = .next t ∧ t.out = sent ∧
        t.ring.walks = s.ring.walks ++ s.headLinks.map (fun up => ⟨s.ring.wno, up, none⟩) ∧
        t.ring.wno = (s.ring.wno + 1) % 65536 ∧ t = { s with out := t.out, ring := t.ring }) ∧
      (∀ u, s.takeHead? unitRing 4 = some u → s.txn? u.id = some u → ∃ t, exec .ringWalk s = .next t ∧
        t.out = sent ∧ t.ring.walks = s.ring.walks ++ s.headLinks.map (fun up => ⟨s.ring.wno, up, some u.id⟩) ∧
        t.txn? u.id = some { u with phase := .running })) ∧
    (s.headLinks = [] ∨ s.sys.role ≠ .head → exec .walkSend s = .next s) ∧
    (let sends := fun (o : Host.Outcome State Fault Refusal) (op type n : Nat) => ∀ u, s.takeHead? unitRing op = some u → s.txn? u.id = some u →
        (s.headLinks = [] → ∃ t, o = .next t ∧ EndsWith t u.id .timeout ∧ t = { s with txns := t.txns }) ∧
        (s.headLinks ≠ [] → ∃ t, o = .next t ∧ EndsWith t u.id .ok ∧ t = { s with
          txns := t.txns
          out := s.logged (s.headLinks.reverse.map (fun up => .ringToken up type s.ring.tseq (descBytes u.desc 16 n)
            (tokenCrc type s.ring.tseq (descBytes u.desc 16 n))))
          ring := { s.ring with tseq := (s.ring.tseq + 1) % 256 } })
     sends (exec .ringHalt s) 1 2 4 ∧ sends (exec .ringResume s) 2 3 4 ∧ sends (exec .ringReset s) 3 6 3) ∧
    (∀ u, s.takeHead? unitRing 4 = some u → s.txn? u.id = some u → s.headLinks = [] → ∃ t, exec .ringWalk s = .next t ∧
      EndsWith t u.id .timeout ∧ t = { s with txns := t.txns }) ∧
    (∀ up w, s.ring.walks.find? (fun w => w.up == up) = some w →
      (w.txn = none → ∃ t, exec (.walkTimeout up) s = .next t ∧ t.rd F.RING_ERR_WALK_LOST = 1 ∧
        RegsOnly { s with ring := { s.ring with walks := s.ring.walks.erase w } } t [F.RING_ERR_WALK_LOST.key 0]) ∧
      (∀ id u, w.txn = some id → s.txn? id = some u → u.live = true → ∃ t, exec (.walkTimeout up) s = .next t ∧
        t.rd F.RING_ERR_WALK_LOST = 1 ∧ t.ring.walks = s.ring.walks.erase w ∧ EndsWith t id .timeout)) ∧
    (∀ up, s.ring.walks.find? (fun w => w.up == up) = none → exec (.walkTimeout up) s = .next s) ∧
    (s.isOn .ring = true → s.sys.role = .satellite → exec .walkAbsenceTimeout s = .next (s.wr F.RING_STAT_JOINED 0 0)) ∧
    (s.sys.role ≠ .satellite ∨ s.isOn .ring = false → exec .walkAbsenceTimeout s = .next s)

/-- O49, derived (spec/12_chaining.md (R534, R535, R541, R543, R544, R545, R548)). With the beam free, the head of SQ29
ends LATE when its NLT has passed, waits while its data may not be read, and otherwise is sent as a request frame of
its fields under the next TSEQ and runs, awaiting a response; a broadcast WRITE completes OK at once, a CLAIM_CALL
opens a claim window, and one that offers address 0 or more than 63 completes BAD_DESCRIPTOR (the model's choice,
log entry 39). A bad CRC or an aborted frame sets CRC_ERR and counts, a missing response sets TIMEOUT; the request
is then sent again while tries remain of the RETRY kept at its dispatch, and otherwise completes CRC_ERROR or
TIMEOUT. A good response completes OK, or BAD_DESCRIPTOR when its RSTAT says REJECT, and counts a frame; without a
transaction nothing happens. BEAM_NLT_EXPIRY ends the first waiting transaction whose NLT has passed LATE.
CLAIM_WINDOW_END closes the window, enters a claimed address in BEAM_MAP, commits BEAM_CLAIM and ends the descriptor
OK. AUTO_CLAIM_CALL offers the lowest address that is free in BEAM_MAP. Model's choices: a command not due changes
nothing (log entry 1), TSEQ, records and retries where they are open (38). -/
def Obligations.TheBeamMasterAsksRetriesAndClaims : Prop :=
  ∀ (s : State) (buf : List Byte),
    (let begins := fun (o : Host.Outcome State Fault Refusal) (op : Nat) (g : Txn → Prop) => ∀ u, s.beamTake? op = some u → s.txn? u.id = some u →
        (s.nltPassed u.desc = true → ∃ t, o = .next t ∧ EndsWith t u.id .late ∧ t = { s with txns := t.txns }) ∧
        (s.nltPassed u.desc = false → op ≠ 1 → (descByte u.desc 22).testBit 0 = false → s.mayDma = false → o = .next s) ∧
        (s.nltPassed u.desc = false → op = 1 ∨ (descByte u.desc 22).testBit 0 = true ∨ s.mayDma = true → g u)
     let bm := { s.beam with tseq := (s.beam.tseq + 1) % 8 }
     let asks := fun (o : Host.Outcome State Fault Refusal) (op : Nat) (data : List Byte) (u : Txn) =>
        let f := reqFrame (descByte u.desc 16 % 64) 0 (op - 1) (descByte u.desc 17 % 4) s.beam.tseq (descField u.desc 18 3) (descByte u.desc 21) data
        ∃ t, o = .next t ∧ t.txn? u.id = some { u with phase := .running } ∧
          t = { s with txns := t.txns, out := s.logged [.beamFrame f], beam := { bm with run := some ⟨u.id, f, 0⟩ } }
     begins (exec .beamRead s) 1 (fun u => asks (exec .beamRead s) 1 [] u) ∧
     begins (exec (.beamStart buf) s) 3 (fun u => asks (exec (.beamStart buf) s) 3 (beamOut u.desc buf) u) ∧
     begins (exec (.beamStop buf) s) 4 (fun u => asks (exec (.beamStop buf) s) 4 (beamOut u.desc buf) u) ∧
     begins (exec (.beamWrite buf) s) 2 (fun u =>
        ((descByte u.desc 22).testBit 1 = false → asks (exec (.beamWrite buf) s) 2 (beamOut u.desc buf) u) ∧
        ((descByte u.desc 22).testBit 1 = true → ∃ t, exec (.beamWrite buf) s = .next t ∧ EndsWith t u.id .ok ∧
          t = { s with
            txns := t.txns
            beam := bm
            out := s.logged [.beamFrame (reqFrame 0 3 1 (descByte u.desc 17 % 4) s.beam.tseq (descField u.desc 18 3) (descByte u.desc 21)
              (beamOut u.desc buf))] })) ∧
     begins (exec (.beamClaimCall buf) s) 5 (fun u =>
        let data := beamOut u.desc buf
        let a := byteAt data 0
        (a ≠ 0 → a < 64 → ∃ t, exec (.beamClaimCall buf) s = .next t ∧ t.txn? u.id = some { u with phase := .running } ∧
          t = { s with
            txns := t.txns
            out := s.logged [.beamFrame (reqFrame 0 3 4 0 s.beam.tseq 0 0 data)]
            beam := { bm with window := some (a, some u.id) } }) ∧
        (a = 0 ∨ 64 ≤ a → ∃ t, exec (.beamClaimCall buf) s = .next t ∧ EndsWith t u.id .badDescriptor ∧ t = { s with txns := t.txns }))) ∧
    (s.beam.run = none ∨ s.isOn .core = false → exec (.beamResponse buf) s = .next s ∧ exec .beamResponseTimeout s = .next s ∧ exec .beamFrameAbort s = .next s) ∧
    (∀ (r : BeamRun) (u : Txn), s.beam.run = some r → s.txn? r.txn = some u → u.live = true → s.isOn .core = true →
      (let fails := fun (o : Host.Outcome State Fault Refusal) (bad : Bool) => ∃ t, o = .next t ∧
        t.rd F.BEAM_STAT_CRC_ERR = (if bad then 1 else s.rd F.BEAM_STAT_CRC_ERR) ∧
        t.rd F.BEAM_STAT_TIMEOUT = (if bad then s.rd F.BEAM_STAT_TIMEOUT else 1) ∧
        t.rd F.BEAM_CNT_CRC_COUNT = (if bad then (s.rd F.BEAM_CNT_CRC_COUNT + 1) % 2 ^ 32 else s.rd F.BEAM_CNT_CRC_COUNT) ∧
        (r.tries < u.retry → t.out = s.logged [.beamFrame r.frame] ∧ t.txns = s.txns ∧
          t.beam = { s.beam with run := some { r with tries := r.tries + 1 } } ∧
          t.rd F.BEAM_CNT_RETRY_COUNT = (s.rd F.BEAM_CNT_RETRY_COUNT + 1) % 2 ^ 32) ∧
        (u.retry ≤ r.tries → t.out = s.out ∧ t.beam = { s.beam with run := none } ∧
          EndsWith t r.txn (if bad then .crcError else .timeout))
       (beamCrcGood buf = false → fails (exec (.beamResponse buf) s) true) ∧ fails (exec .beamFrameAbort s) true ∧
       fails (exec .beamResponseTimeout s) false) ∧
      (beamCrcGood buf = true → answers r.frame buf = true → ∃ t, exec (.beamResponse buf) s = .next t ∧
        t.beam = { s.beam with run := none } ∧ EndsWith t r.txn (if (byteAt buf 6).testBit 2 then .badDescriptor else .ok) ∧
        t.rd F.BEAM_CNT_FRAME_COUNT = (s.rd F.BEAM_CNT_FRAME_COUNT + 1) % 2 ^ 32) ∧
      (beamCrcGood buf = true → answers r.frame buf = false → exec (.beamResponse buf) s = .next s)) ∧
    (∀ u, s.txns.find? (fun t => t.unit == unitBeam && t.isQueued && s.nltPassed t.desc) = some u → s.txn? u.id = some u →
      ∃ t, exec .beamNltExpiry s = .next t ∧ EndsWith t u.id .late ∧ t = { s with txns := t.txns }) ∧
    (∀ (x : Option DWord), s.beam.window = none ∨ s.isOn .core = false → exec (.claimWindowEnd x) s = .next s) ∧
    (∀ a, s.beam.window = some (a, none) → s.isOn .core = true →
      exec (.claimWindowEnd none) s = .next { s with beam := { s.beam with window := none } } ∧
      (∀ v : DWord, 0 < a → a < 64 → ∃ t, exec (.claimWindowEnd (some v)) s =
          .next (t.raise .beamClaim unitBeam (leBytes 1 a ++ leBytes 2 v.toNat)) ∧ t.beam = { s.beam with window := none } ∧
        t.rd F.BEAM_MAP_LO_MAP = (if a < 32 then (s.rd F.BEAM_MAP_LO_MAP ||| 2 ^ (a - 1)) % F.BEAM_MAP_LO_MAP.size else s.rd F.BEAM_MAP_LO_MAP) ∧
        t.rd F.BEAM_MAP_HI_MAP = (if a < 32 then s.rd F.BEAM_MAP_HI_MAP else (s.rd F.BEAM_MAP_HI_MAP ||| 2 ^ (a - 32)) % F.BEAM_MAP_HI_MAP.size) ∧
        RegsOnly { s with beam := t.beam } t [F.BEAM_MAP_LO_MAP.key 0, F.BEAM_MAP_HI_MAP.key 0, F.BEAM_CNT_FRAME_COUNT.key 0])) ∧
    (∀ a id u x, s.beam.window = some (a, some id) → s.isOn .core = true → s.txn? id = some u → u.live = true →
      ∃ t, exec (.claimWindowEnd x) s = .next t ∧ EndsWith t id .ok ∧ t.beam = { s.beam with window := none }) ∧
    (∀ a, s.beamFree = true → s.flag F.BEAM_CFG_AUTO_CLAIM = true → (List.range 64).find? (fun a => !s.beamMapped a) = some a →
      let f := reqFrame 0 3 4 0 s.beam.tseq 0 0 (leBytes 4 a)
      exec .autoClaimCall s = .next { s with out := s.logged [.beamFrame f], beam := { s.beam with tseq := (s.beam.tseq + 1) % 8, window := some (a, none) } }) ∧
    (s.beamFree = false ∨ s.flag F.BEAM_CFG_AUTO_CLAIM = false → exec .autoClaimCall s = .next s)

/-- O50, derived (spec/12_chaining.md (R534, R535, R536, R537, R538, R539, R540, R541, R542, R543, R548)). A frame with
a bad CRC sets CRC_ERR and is counted, nothing else; a request for another address changes nothing; one with the
TSEQ and CRC of the last served is answered again as before. A READ answers with the words of memory, a rejected one
with zeros and REJECT. A WRITE into the tile of the open window changes the words of plan memory named and no other
byte; outside the window, and into a dedup tile, it sets PLAN_WR and writes nothing. A START puts a RUN_PLAN, a STOP
a STOP_PLAN into the rod's queue of a satellite, and a STOP that spells FLUSH or ABORT is carried out at once; a
refused one answers REJECT and queues nothing. CLAIM_CALL makes a slave without an address answer with a claim
frame, and an unopposed one takes the address. BEAM_ADDR_WRITE with CORE ON sets the address and VALID;
BEAM_TILE_REL zeroes and frees a SEALED tile of a satellite whose ring is disabled. Model's choices: a command not
due changes nothing (log entry 1), the rejects and the queued descriptors where they are open (40). -/
def Obligations.TheBeamSlaveServesRequestsAndClaimsAnAddress : Prop :=
  ∀ (s : State) (b : List Byte),
    (s.beamSlave = false → exec (.beamReqRead b) s = .next s ∧ exec (.beamReqWrite b) s = .next s ∧ exec (.beamReqStart b) s = .next s ∧
      exec (.beamReqStop b) s = .next s ∧ exec (.beamReqClaimCall b) s = .next s) ∧
    (let bad := fun (o : Host.Outcome State Fault Refusal) => ∃ t, o = .next t ∧ t.rd F.BEAM_STAT_CRC_ERR = 1 ∧
        t.rd F.BEAM_CNT_CRC_COUNT = (s.rd F.BEAM_CNT_CRC_COUNT + 1) % 2 ^ 32 ∧
        RegsOnly s t [F.BEAM_STAT_CRC_ERR.key 0, F.BEAM_CNT_CRC_COUNT.key 0]
     s.beamSlave = true → beamCrcGood b = false → bad (exec (.beamReqRead b) s) ∧ bad (exec (.beamReqWrite b) s) ∧
       bad (exec (.beamReqStart b) s) ∧ bad (exec (.beamReqStop b) s) ∧ bad (exec (.beamReqClaimCall b) s)) ∧
    (s.beamSlave = true → beamCrcGood b = true →
      let rest := { s.pwr with answering := false, staged := none }
      let mine := s.flag F.BEAM_ADDR_VALID = true ∧ s.rd F.BEAM_ADDR_ADDR = beamTo b ∧ beamKind b = 0
      let resp := fun (rs : Nat) (data : List Byte) => respFrame (beamTo b) b rs data
      let fresh := ∀ v, s.beam.served = some v → v.1 ≠ beamTseq b ∨ v.2.1 ≠ beamCrc b
      let n := beamWords b
      (let heard := fun (o : Host.Outcome State Fault Refusal) (op : Nat) => beamKind b = 0 →
        (beamOp b ≠ op ∨ s.flag F.BEAM_ADDR_VALID = false ∨ s.rd F.BEAM_ADDR_ADDR ≠ beamTo b → o = .next s) ∧
        (∀ v, mine → beamOp b = op → s.beam.served = some v → v.1 = beamTseq b → v.2.1 = beamCrc b →
          o = .next { s.count F.BEAM_CNT_FRAME_COUNT with out := s.logged [.beamFrame v.2.2] })
       heard (exec (.beamReqRead b) s) 0 ∧ heard (exec (.beamReqWrite b) s) 1 ∧ heard (exec (.beamReqStart b) s) 2 ∧
       heard (exec (.beamReqStop b) s) 3) ∧
      (mine → fresh → beamOp b = 0 →
        (beamReject b = true → ∃ t, exec (.beamReqRead b) s = .next t ∧ t.out = s.logged [.beamFrame (resp 4 (List.replicate (4 * n) 0))] ∧
          RegsOnly { s with out := t.out, beam := t.beam, pwr := rest } t [F.BEAM_CNT_FRAME_COUNT.key 0, F.BEAM_STAT_LAST_TSEQ.key 0]) ∧
        (∀ mem, beamReject b = false → (beamSpace b = 2 ∧ s.isOn .board = true ∧ mem = s.boardMem) ∨
            (beamSpace b = 1 ∧ s.isOn .plan = true ∧ s.isDedupTile (beamA b / tileBytes) = false ∧ mem = s.planMem) →
          beamA b + 4 * n ≤ blockEnd (beamSpace b) (beamA b) →
          let data := ((List.range n).map (fun i => leBytes 4 (leNat (Memory.readBytes mem (beamA b + 4 * i) 4)))).flatten
          ∃ t, exec (.beamReqRead b) s = .next t ∧ t.out = s.logged [.beamFrame (resp 0 data)] ∧
            t.beam = { s.beam with served := some (beamTseq b, beamCrc b, resp 0 data) } ∧ t.rd F.BEAM_STAT_LAST_TSEQ = beamTseq b ∧
            RegsOnly { s with out := t.out, beam := t.beam, pwr := rest } t [F.BEAM_CNT_FRAME_COUNT.key 0, F.BEAM_STAT_LAST_TSEQ.key 0])) ∧
      (mine → fresh → beamOp b = 1 →
        (beamReject b = true ∨ beamSpace b = 2 → ∃ t, exec (.beamReqWrite b) s = .next t ∧ t.out = s.logged [.beamFrame (resp 4 [])] ∧
          RegsOnly { s with out := t.out, beam := t.beam, pwr := rest } t [F.BEAM_CNT_FRAME_COUNT.key 0, F.BEAM_STAT_LAST_TSEQ.key 0]) ∧
        (beamReject b = false → beamSpace b = 1 → s.board.window ≠ some (beamA b / tileBytes) ∨ s.isDedupTile (beamA b / tileBytes) = true →
          beamA b + 4 * n ≤ blockEnd 1 (beamA b) → ∃ t, exec (.beamReqWrite b) s = .next t ∧
          t.out = s.logged [.beamFrame (resp 2 [])] ∧ t.planMem = s.planMem ∧ t.rd F.BEAM_STAT_PLAN_WR = 1) ∧
        (beamReject b = false → beamSpace b = 1 → s.board.window = some (beamA b / tileBytes) → s.isDedupTile (beamA b / tileBytes) = false →
          ∃ t, exec (.beamReqWrite b) s = .next t ∧
          (∀ i < n, beamA b + 4 * i < blockEnd 1 (beamA b) →
            Memory.readBytes t.planMem (beamA b + 4 * i) 4 = leBytes 4 (beamWord b i)) ∧
          (∀ a, a < beamA b ∨ beamA b + 4 * n ≤ a ∨ blockEnd 1 (beamA b) ≤ a → Memory.read t.planMem a = Memory.read s.planMem a) ∧
          t.boardMem = s.boardMem ∧ t.txns = s.txns)) ∧
      (beamKind b = 3 → beamOp b = 1 → s.flag F.BEAM_ADDR_VALID = true → beamReject b = false → beamSpace b = 0 → n = 1 →
        exec (.beamReqWrite b) s = .next ((s.count F.BEAM_CNT_FRAME_COUNT).beamRegWrite (beamA b) (BitVec.ofNat 32 (beamWord b 0)))) ∧
      (let queues := fun (o : Host.Outcome State Fault Refusal) (d : Desc) (cnt : Nat) =>
        let ok := s.sys.role = .satellite ∧ beamA b < 24 ∧ byteAt b 5 = cnt ∧ s.descBad (beamA b) d = false
        (ok → ∃ t, o = .next t ∧ t.txns = s.txns ++ [newTxn s.sys.nextId (beamA b) none d .staged (leBytes 1 (beamTseq b))] ∧
          t.out = s.logged [.beamFrame (resp 0 [])] ∧ t.planMem = s.planMem ∧ t.boardMem = s.boardMem) ∧
        (¬ok → ∃ t, o = .next t ∧ t.txns = s.txns ∧ t.out = s.logged [.beamFrame (resp 4 [])])
       let k := byteAt (beamData b) 0
       let stop := beamDesc k (leBytes 1 (byteAt (beamData b) 1))
       mine → fresh →
        (beamOp b = 2 → queues (exec (.beamReqStart b) s) (beamDesc 5 ((padTo 8 (beamData b)).take 8)) 1) ∧
        (beamOp b = 3 → k = 6 → queues (exec (.beamReqStop b) s) stop 0) ∧
        (beamOp b = 3 → k ≠ 6 → k ≠ 0x0E → k ≠ 0x0F → ∃ t, exec (.beamReqStop b) s = .next t ∧ t.txns = s.txns ∧
          t.out = s.logged [.beamFrame (resp 4 [])]) ∧
        (beamOp b = 3 → k = 0x0E ∨ k = 0x0F → s.sys.role = .satellite → beamA b < 24 → byteAt b 5 = 0 → s.descBad (beamA b) stop = false →
          s.fetchEnd (beamA b) stop = none → FreshId s → ∃ t, exec (.beamReqStop b) s = .next t ∧ EndsWith t s.sys.nextId .ok)) ∧
      (let a := byteAt (beamData b) 0
       beamKind b = 3 → beamOp b = 4 →
        (s.flag F.BEAM_ADDR_VALID = false → 0 < a → a < 64 → exec (.beamReqClaimCall b) s =
          .next { s.count F.BEAM_CNT_FRAME_COUNT with beam := { s.beam with claiming := some a } }) ∧
        (s.flag F.BEAM_ADDR_VALID = true → exec (.beamReqClaimCall b) s = .next s))) ∧
    (∀ (a : Nat) (won : Bool), s.beamSlave = true → s.beam.claiming = some a → a < 64 → ∃ t, exec (.claimFrame won) s = .next t ∧
      t.out = s.logged [.claimFrame a s.otp.serial] ∧ t.beam = { s.beam with claiming := none } ∧
      (won = true → t.rd F.BEAM_ADDR_ADDR = a ∧ t.rd F.BEAM_ADDR_VALID = 1 ∧
        RegsOnly { s with out := t.out, beam := t.beam } t [F.BEAM_ADDR_ADDR.key 0, F.BEAM_ADDR_VALID.key 0]) ∧
      (won = false → t.regs = s.regs)) ∧
    (∀ won, s.beam.claiming = none → exec (.claimFrame won) s = .next s) ∧
    (∀ w : Word, s.isOn .core = true → ∃ t, exec (.beamAddrWrite w) s = .next t ∧ t.rd F.BEAM_ADDR_ADDR = w.toNat % 64 ∧
      t.rd F.BEAM_ADDR_VALID = 1 ∧ RegsOnly s t [F.BEAM_ADDR_ADDR.key 0, F.BEAM_ADDR_VALID.key 0]) ∧
    (∀ w : Word, s.isOn .core = true →
      let k : Fin 64 := ix 63 (w.toNat % 64)
      let may := w.toNat.testBit 8 = true ∧ s.sys.role = .satellite ∧ s.flag F.RING_CFG_EN = false ∧ (s.tile k).st = .sealed ∧ s.isOn .board = true
      (¬may → exec (.beamTileRel w) s = .next s) ∧
      (may → ∃ t, exec (.beamTileRel w) s = .next t ∧ TileFreed s t k))

/-- O51, derived (spec/05_inventory_and_harvest.md (R261), spec/13_timers_crc_serial.md (R549, R551, R553, R554, R555,
R556, R557, R558, R559, R560)). TIMER_TICK of a timer that counts the crystal, runs, is not frozen and whose gate is
open adds 1 to the count, as does a rising edge of its pin for a timer that counts that pin; where the compare is
enabled and the count is at PERIOD or above the timer matches, a periodic one starts from 0 and a one-shot one
stops, and a wrapped count sets OVF; TIMER_MATCH and TIMER_OVERFLOW are the ticks that match and wrap. A selected
edge of the capture input, TMR_GATE or a pin, or SWCAPT, captures into the capture register, or, while a pair is
open, into the shadow with CAPT_PEND, and is lost with CAPT_LOST when the shadow is full. START zeroes the count and
runs, RESUME runs, STOP stops, and more than one of them only sets CMD_ERR. A write of a high half loads both
halves. A read of a low half latches the high one; a read of CAPT_LO opens a pair and one of CAPT_HI closes it.
Model's choices: a command not due changes nothing (log entry 1), which ticks and edges commands tell (37). -/
def Obligations.TimersTickCaptureAndLoad : Prop :=
  ∀ (s : State) (n : Fin 16) (g : Nat),
    (∀ w : Word, (w.getLsbD 0 = false → exec (.tmrStart n w) s = .next s) ∧ (w.getLsbD 1 = false → exec (.tmrResume n w) s = .next s) ∧
      (w.getLsbD 2 = false → exec (.tmrStop n w) s = .next s) ∧ (w.getLsbD 3 = false → exec (.tmrSwcapt n w) s = .next s)) ∧
    (let s1 : State := { s with gpio := { s.gpio with tgate := g % 256 } }
     let c := (s.timer n).count + 1
     let hit := s.flag F.TMR_CTL_CMP_EN n.val = true ∧ (s.timer n).period.toNat ≤ c.toNat
     let periodic := s.flag F.TMR_CTL_MODE n.val = true
     let ticked := fun (t : State) => (hit → periodic → (t.timer n).count = 0) ∧ (¬(hit ∧ periodic) → (t.timer n).count = c) ∧
         (hit → t.rd F.TMR_STAT_MATCH n.val = 1 ∧ (¬periodic → t.rd F.TMR_STAT_RUN n.val = 0)) ∧
         (¬hit → t.rd F.TMR_STAT_MATCH n.val = s.rd F.TMR_STAT_MATCH n.val) ∧ (¬hit ∨ periodic → t.rd F.TMR_STAT_RUN n.val = 1) ∧
         t.rd F.TMR_STAT_OVF n.val = (if c = 0 then 1 else s.rd F.TMR_STAT_OVF n.val)
     (s.gpio.tgate = g % 256 ∨ (∀ m < 16, s.rd F.TMR_CTL_CAPT_SRC m = 0 ∨ 8 < s.rd F.TMR_CTL_CAPT_SRC m) →
      (s1.takes n 1 = false → exec (.timerTick n g) s = .next s1 ∧ exec (.timerMatch n g) s = .next s1 ∧ exec (.timerOverflow n g) s = .next s1) ∧
      (¬hit → exec (.timerMatch n g) s = .next s1) ∧ (c ≠ 0 → exec (.timerOverflow n g) s = .next s1) ∧
      (let ticks := fun (o : Host.Outcome State Fault Refusal) => ∃ t, o = .next t ∧ ticked t ∧
         (hit → s.flag F.ROD_ROUND_CFG_TMR_EN = true → s.rd F.ROD_ROUND_CFG_TMR_SEL = n.val →
           t.round = { s.round with starts := s.round.starts ++ [(2, none)] }) ∧
         (¬hit ∨ s.flag F.ROD_ROUND_CFG_TMR_EN = false ∨ s.rd F.ROD_ROUND_CFG_TMR_SEL ≠ n.val → t.round = s.round) ∧
         (∀ m, m ≠ n → t.timer m = s.timer m) ∧
         RegsOnly { s1 with tmr := t.tmr, round := t.round, sys := t.sys, host := t.host } t
           [F.TMR_STAT_MATCH.key n.val, F.TMR_STAT_RUN.key n.val, F.TMR_STAT_OVF.key n.val, F.HOST_EQ_STAT_LOST.key 0]
       s1.takes n 1 = true → ticks (exec (.timerTick n g) s) ∧ (hit → ticks (exec (.timerMatch n g) s)) ∧
         (c = 0 → ticks (exec (.timerOverflow n g) s)))) ∧
     (∀ k : Fin 16, s.isOn .core = true → (s.rd F.GPIO_DIR_PINS).testBit k.val = false → (s.rd F.GPIO_IN_PINS).testBit k.val = false →
       s.rd F.TMR_CTL_EXT_PIN n.val = k.val →
       (s.wr F.GPIO_IN_PINS 0 (mixBits (2 ^ k.val) 65535 (s.rd F.GPIO_IN_PINS))).takes n 2 = true →
       ∃ t, exec (.gpioEdge k true) s = .next t ∧ ticked t)) ∧
    (let captured := fun (t : State) => t.rd F.TMR_STAT_CAPT n.val = 1 ∧
        ((s.timer n).pairOpen = false → t.timer n = { s.timer n with capt := (s.timer n).count }) ∧
        ((s.timer n).pairOpen = true → s.flag F.TMR_STAT_CAPT_PEND n.val = false →
          t.timer n = { s.timer n with shadow := (s.timer n).count } ∧ t.rd F.TMR_STAT_CAPT_PEND n.val = 1) ∧
        ((s.timer n).pairOpen = true → s.flag F.TMR_STAT_CAPT_PEND n.val = true → t.timer n = s.timer n ∧ t.rd F.TMR_STAT_CAPT_LOST n.val = 1)
     let alone := fun (gp : GpioPart) (t : State) => (∀ m, m ≠ n → t.timer m = s.timer m) ∧
        RegsOnly { s with tmr := t.tmr, sys := t.sys, host := t.host, gpio := gp } t [F.TMR_STAT_CAPT.key n.val, F.TMR_STAT_CAPT_PEND.key n.val,
          F.TMR_STAT_CAPT_LOST.key n.val, F.HOST_EQ_STAT_LOST.key 0]
     let src := s.rd F.TMR_CTL_CAPT_SRC n.val
     let picks := fun (rising : Bool) => (s.rd F.TMR_CTL_CAPT_EDGE n.val).testBit (if rising then 0 else 1) = true
     (s.isOn .core = true →
        (∀ rising, 1 ≤ src → src ≤ 8 → s.gpio.tgate < 256 → s.gpio.tgate.testBit (src - 1) ≠ rising →
          let gp := { s.gpio with tgate := if rising then s.gpio.tgate + 2 ^ (src - 1) else s.gpio.tgate - 2 ^ (src - 1) }
          (picks rising → ∃ t, exec (.timerCaptureEdge n rising) s = .next t ∧ captured t ∧ t.gpio = gp ∧
            ((∀ m : Fin 16, m ≠ n → s.rd F.TMR_CTL_CAPT_SRC m.val ≠ src) → alone gp t)) ∧
          ((∀ m < 16, s.rd F.TMR_CTL_CAPT_SRC m = src → (s.rd F.TMR_CTL_CAPT_EDGE m).testBit (if rising then 0 else 1) = false) →
            exec (.timerCaptureEdge n rising) s = .next { s with gpio := gp })) ∧
        (∀ (rising : Bool) (k : Fin 16), src = 0x10 + k.val → (s.rd F.GPIO_DIR_PINS).testBit k.val = false →
          (s.rd F.GPIO_IN_PINS).testBit k.val ≠ rising → s.rd F.TMR_CTL_CLK n.val ≠ 2 → picks rising →
          ∃ t, exec (.timerCaptureEdge n rising) s = .next t ∧ captured t) ∧
        (∀ w : Word, w.toNat % 16 = 8 → ∃ t, exec (.tmrSwcapt n w) s = .next t ∧ captured t ∧ alone s.gpio t)) ∧
     (∀ rising, src = 0 ∨ 8 < src ∧ src < 16 ∨ 31 < src ∨ s.isOn .core = false → exec (.timerCaptureEdge n rising) s = .next s)) ∧
    (s.isOn .core = true → ∀ w : Word,
      (w.toNat % 16 = 1 → ∃ t, exec (.tmrStart n w) s = .next t ∧ t.rd F.TMR_STAT_RUN n.val = 1 ∧ t.timer n = { s.timer n with count := 0 } ∧
        (∀ m, m ≠ n → t.timer m = s.timer m) ∧ RegsOnly { s with tmr := t.tmr } t [F.TMR_STAT_RUN.key n.val]) ∧
      (w.toNat % 16 = 2 → ∃ t, exec (.tmrResume n w) s = .next t ∧ t.rd F.TMR_STAT_RUN n.val = 1 ∧ RegsOnly s t [F.TMR_STAT_RUN.key n.val]) ∧
      (w.toNat % 16 = 4 → ∃ t, exec (.tmrStop n w) s = .next t ∧ t.rd F.TMR_STAT_RUN n.val = 0 ∧ RegsOnly s t [F.TMR_STAT_RUN.key n.val]) ∧
      (let errs := fun (o : Host.Outcome State Fault Refusal) => ∃ t, o = .next t ∧ t.rd F.TMR_STAT_CMD_ERR n.val = 1 ∧
        RegsOnly s t [F.TMR_STAT_CMD_ERR.key n.val]
       (w.toNat % 8 ∈ [3, 5, 7] → errs (exec (.tmrStart n w) s)) ∧ (w.toNat % 8 ∈ [3, 6, 7] → errs (exec (.tmrResume n w) s)) ∧
       (w.toNat % 8 ∈ [5, 6, 7] → errs (exec (.tmrStop n w) s))) ∧
      (exec (.tmrLoWrite (0xD010 + 0x40 * n.val) w) s = .next { s with tmr := vmod s.tmr n (fun t => { t with stagedCnt := w }) }) ∧
      (exec (.tmrLoWrite (0xD018 + 0x40 * n.val) w) s = .next { s with tmr := vmod s.tmr n (fun t => { t with stagedPer := w }) }) ∧
      (exec (.tmrHiWrite (0xD014 + 0x40 * n.val) w) s = .next { s with tmr := vmod s.tmr n (fun t => { t with count := w ++ t.stagedCnt }) }) ∧
      (exec (.tmrHiWrite (0xD01C + 0x40 * n.val) w) s = .next { s with tmr := vmod s.tmr n (fun t => { t with period := w ++ t.stagedPer }) })) ∧
    (s.isOn .core = true →
      (∃ t, exec (.tmrCntLoRead n) s = .next t ∧ t.out = .readData (0xD010 + 0x40 * n.val) ((s.timer n).count.toNat % 2 ^ 32) :: s.out ∧
        (t.timer n).cntLatch = some (BitVec.ofNat 32 ((s.timer n).count.toNat / 2 ^ 32)) ∧ t = { s with tmr := t.tmr, out := t.out }) ∧
      (∀ h, (s.timer n).cntLatch = some h → ∃ t, exec (.tmrCntHiRead n) s = .next t ∧
        t.out = .readData (0xD014 + 0x40 * n.val) h.toNat :: s.out ∧ (t.timer n).cntLatch = none) ∧
      ((s.timer n).cntLatch = none → ∃ t, exec (.tmrCntHiRead n) s = .next t ∧ t.rd F.TMR_STAT_UNLATCHED n.val = 1 ∧
        t.out = .readData (0xD014 + 0x40 * n.val) ((s.timer n).count.toNat / 2 ^ 32) :: s.out) ∧
      (let v := if (s.timer n).pairOpen = true ∧ s.flag F.TMR_STAT_CAPT_PEND n.val = true then (s.timer n).shadow else (s.timer n).capt
       ∃ t, exec (.tmrCaptLoRead n) s = .next t ∧ t.out = .readData (0xD020 + 0x40 * n.val) (v.toNat % 2 ^ 32) :: s.out ∧
        (t.timer n).pairOpen = true ∧ (t.timer n).captLatch = some (BitVec.ofNat 32 (v.toNat / 2 ^ 32)) ∧ (t.timer n).capt = v) ∧
      (∀ h, (s.timer n).captLatch = some h → ∃ t, exec (.tmrCaptHiRead n) s = .next t ∧
        t.out = .readData (0xD024 + 0x40 * n.val) h.toNat :: s.out ∧ (t.timer n).captLatch = none ∧ (t.timer n).pairOpen = false ∧
        (t.timer n).capt = (if s.flag F.TMR_STAT_CAPT_PEND n.val then (s.timer n).shadow else (s.timer n).capt) ∧
        t.rd F.TMR_STAT_CAPT_PEND n.val = 0) ∧
      ((s.timer n).captLatch = none → ∃ t, exec (.tmrCaptHiRead n) s = .next t ∧ t.rd F.TMR_STAT_UNLATCHED n.val = 1 ∧
        t.out = .readData (0xD024 + 0x40 * n.val) ((s.timer n).capt.toNat / 2 ^ 32) :: s.out))

/-- O52, derived (spec/13_timers_crc_serial.md (R561, R562, R563, R564, R565, R568, R570, R572, R573, R574, R576,
R577)). CRC_START of an idle unit seeds it and zeroes its counters, of an active one only sets BUSY_REJ; CRC_STOP
ends the run, drops its frames or gives the result of a continuous one over what has passed; CRC_FRAME_END gives the
result of the oldest frame of an active unit; settings of an active unit are refused. XFER at the head of its queue
ends LATE past its NLT, and with the wire free and its data at hand sends its first frame with the levels of its
lanes; its end sends or delivers the data and completes OK, waits for a retry while the status byte says busy and
tries remain, or completes BUSY_TIMEOUT; a cut transfer ends with its status; one whose data cannot be written
waits. A mirror frame's end keeps its data and goes to the next, or waits after a busy status. SPI_RETRY_EXPIRY
sends the waiting frame again, when the wire is free; SPI_NLT_EXPIRY ends a waiting XFER LATE. FLUSH ends the
waiting transfers FLUSHED and cuts the running one, ABORT cuts the running one, and both end OK. GPIO_EDGE of an
input takes its level and, where enabled, opens the window; GPIO_WINDOW_END commits GPIO_CHANGE. Model's choices: a
command not due changes nothing (log entry 1), commands at fetch (10), the serial master's open parts (36), pins
(37), what a unit catches of a frame in progress (80). -/
def Obligations.CrcUnitsTheSerialMasterAndThePinsDoTheirWork : Prop :=
  ∀ s : State,
    (∀ (u : Fin 4) (w : Word), (w.getLsbD 0 = false → exec (.crcStart u w) s = .next s) ∧ (w.getLsbD 1 = false → exec (.crcStop u w) s = .next s) ∧
      (s.isOn .core = true →
        let act := s.flag F.CRC_STAT_ACTIVE u.val
        let a := 0xD800 + 0x40 * u.val
        (w.toNat % 2 = 1 → act = true → exec (.crcStart u w) s = .next (s.setF F.CRC_STAT_BUSY_REJ u.val)) ∧
        (w.toNat % 4 = 1 → act = false → ∃ t, exec (.crcStart u w) s = .next t ∧ t.rd F.CRC_STAT_ACTIVE u.val = 1 ∧
          t.rd F.CRC_FCNT_VALUE u.val = 0 ∧ t.rd F.CRC_MCNT_VALUE u.val = 0 ∧
          t.crcUnit u = ⟨s.crcSeed u.val, 0, (s.streamBusy (s.rd F.CRC_CFG_STREAM u.val)).2, []⟩ ∧
          RegsOnly { s with crc := t.crc, sys := t.sys } t [F.CRC_STAT_ACTIVE.key u.val, F.CRC_FCNT_VALUE.key u.val, F.CRC_MCNT_VALUE.key u.val]) ∧
        (w.toNat % 4 = 2 → act = false → exec (.crcStop u w) s = .next s) ∧
        (w.toNat % 4 = 2 → act = true → s.flag F.CRC_CFG_MODE u.val = true → exec (.crcStop u w) s =
          .next { s.wr F.CRC_STAT_ACTIVE u.val 0 with crc := vmod s.crc u (fun x => { x with skip := false, frames := [] }) }) ∧
        (w.toNat % 4 = 2 → act = true → s.flag F.CRC_CFG_MODE u.val = false →
          let stream := s.rd F.CRC_CFG_STREAM u.val
          ∃ t l, exec (.crcStop u w) s = .next t ∧ ((s.streamBusy stream).2 = false → l = []) ∧
          (∀ x, s.streamKnown stream = some x → (s.crcUnit u).skip = false → ∃ k, l = x.take k) ∧
          t.rd F.CRC_STAT_ACTIVE u.val = 0 ∧ t.rd F.CRC_STAT_DONE u.val = 1 ∧
          t.rd F.CRC_RESULT_VALUE u.val =
            (crcRun (s.rd F.CRC_CFG_POLY u.val) (s.crcUnit u).reg l ^^^ presetXor (s.rd F.CRC_CFG_POLY u.val)).toNat ∧
          t.rd F.CRC_BYTES_VALUE u.val = ((s.crcUnit u).bytes + l.length) % 2 ^ 32 ∧
          (s.flag F.CRC_CFG_REC_EN u.val = false → RegsOnly { s with crc := t.crc, sys := t.sys } t [F.CRC_STAT_ACTIVE.key u.val,
            F.CRC_STAT_DONE.key u.val, F.CRC_RESULT_VALUE.key u.val, F.CRC_BYTES_VALUE.key u.val])) ∧
        (act = true → ∀ k ∈ [0, 4, 8], exec (.crcCfgWrite (a + k) w) s = .next (s.setF F.CRC_STAT_BUSY_REJ u.val)) ∧
        (act = false → (exec (.crcCfgWrite (a + 4) w) s = .next (s.wr F.CRC_SEED_VALUE u.val w.toNat)) ∧
          (exec (.crcCfgWrite (a + 8) w) s = .next (s.wr F.CRC_MATCH_VALUE u.val w.toNat)) ∧
          (∃ t, exec (.crcCfgWrite a w) s = .next t ∧
            t.rd F.CRC_CFG_STREAM u.val = (if legalStream (w.toNat % 128) then w.toNat % 128 else s.rd F.CRC_CFG_STREAM u.val) ∧
            t.rd F.CRC_CFG_POLY u.val = w.toNat / 256 % 4 ∧ t.rd F.CRC_CFG_MODE u.val = w.toNat / 1024 % 2 ∧
            t.rd F.CRC_CFG_SEED_EN u.val = w.toNat / 2048 % 2 ∧ t.rd F.CRC_CFG_REC_EN u.val = w.toNat / 4096 % 2 ∧
            RegsOnly s t [F.CRC_CFG_STREAM.key u.val, F.CRC_CFG_POLY.key u.val, F.CRC_CFG_MODE.key u.val, F.CRC_CFG_SEED_EN.key u.val,
              F.CRC_CFG_REC_EN.key u.val]))) ∧
      ((s.crcUnit u).frames = [] ∨ s.flag F.CRC_STAT_ACTIVE u.val = false → exec (.crcFrameEnd u) s = .next s) ∧
      (∀ f l, s.flag F.CRC_STAT_ACTIVE u.val = true → (s.crcUnit u).frames = f :: l →
        let v := (crcRun (s.rd F.CRC_CFG_POLY u.val) (s.crcSeed u.val) f ^^^ presetXor (s.rd F.CRC_CFG_POLY u.val)).toNat
        ∃ t, exec (.crcFrameEnd u) s = .next t ∧ (t.crcUnit u).frames = l ∧ t.rd F.CRC_RESULT_VALUE u.val = v ∧
          t.rd F.CRC_BYTES_VALUE u.val = f.length % 2 ^ 32 ∧ t.rd F.CRC_STAT_DONE u.val = 1 ∧
          t.rd F.CRC_FCNT_VALUE u.val = (s.rd F.CRC_FCNT_VALUE u.val + 1) % 2 ^ 32 ∧
          t.rd F.CRC_MCNT_VALUE u.val = (s.rd F.CRC_MCNT_VALUE u.val + (if v = s.rd F.CRC_MATCH_VALUE u.val then 1 else 0)) % 2 ^ 32 ∧
          (s.flag F.CRC_CFG_REC_EN u.val = false → RegsOnly { s with crc := t.crc } t [F.CRC_RESULT_VALUE.key u.val,
            F.CRC_BYTES_VALUE.key u.val, F.CRC_STAT_DONE.key u.val, F.CRC_FCNT_VALUE.key u.val, F.CRC_MCNT_VALUE.key u.val]))) ∧
    (∀ (u : Txn) (buf : List Byte), s.takeHead? unitSpi 1 = some u → s.txn? u.id = some u →
      let d := u.desc
      let data := if xferRead d then [] else (if xferInline d then descBytes d 40 24 else padTo (xferLen d) buf).take (xferLen d)
      let ready := xferRead d = true ∨ xferInline d = true ∨ xferLen d = 0 ∨ s.mayDma = true
      let cs := descByte d 16 % 4
      (s.nltPassed d = true → ∃ t, exec (.xfer buf) s = .next t ∧ EndsWith t u.id .late) ∧
      (s.nltPassed d = false → s.spi = none → s.wireFree = true → ready → ∃ t, exec (.xfer buf) s = .next t ∧
        t.txn? u.id = some { u with phase := .running } ∧
        t = { s with
          txns := t.txns
          spi := some ⟨u.id, 1, 0, true, 0, data, none, false, 0⟩
          serial := { s.serial with last := false }
          out := s.logged [.spiFrame cs (u.spi.getD (s.spiSet cs)) (xferHead d) ((xferHead d).io (xferLen d))] }) ∧
      (s.nltPassed d = false → s.wireFree = false ∨ ¬ready ∨ s.spi ≠ none → exec (.xfer buf) s = .next s)) ∧
    (s.isOn .core = false ∨ s.padsHeld .core = true ∨ s.serial.onWire = true ∨ s.serial.load = true → s.wireFree = false) ∧
    (∀ (e : SpiEnd), (s.isOn .core = false → exec (.spiFrameEnd e) s = .next s) ∧
      (e.mirror = true → s.serial.frames = [] ∨ s.serial.onWire = false → exec (.spiFrameEnd e) s = .next s) ∧
      (∀ f rest, s.isOn .core = true → e.mirror = true → s.serial.frames = f :: rest → s.serial.onWire = true →
        (e.data.length < f.read ∨ (f.head.status = true ∧ e.status = none) → exec (.spiFrameEnd e) s = .next s) ∧
        (∀ x, f.read ≤ e.data.length → f.head.status = true → e.status = some x → x.testBit 0 = true → ∃ t, exec (.spiFrameEnd e) s = .next t ∧
          t.serial.retry = .waiting ∧ t.serial.frames = f :: rest ∧ t.serial.onWire = false ∧ t.txns = s.txns) ∧
        (f.read ≤ e.data.length → f.head.status = false ∨ (∃ x, e.status = some x ∧ x.testBit 0 = false) →
          ∃ t, exec (.spiFrameEnd e) s = .next t ∧ t.serial.frames = rest ∧ t.txns = s.txns ∧
            t.serial.got = s.serial.got ++ (if f.read = 0 then [] else [e.data.take f.read]) ∧
            t.rd F.SPI_CNT_FRAME_COUNT = (s.rd F.SPI_CNT_FRAME_COUNT + 1) % F.SPI_CNT_FRAME_COUNT.size)) ∧
      (∀ (r : SpiRun) (u : Txn), s.isOn .core = true → e.mirror = false → s.spi = some r → r.onWire = true →
        s.txn? r.txn = some u → u.live = true →
        let d := u.desc
        let whole := xferStat d = true → e.status ≠ none
        let st := if xferStat d then (e.status.map (· % 256)).getD r.lastStatus else 0
        let busy := xferStat d = true ∧ ∃ x, e.status = some x ∧ x % 256 &&& descByte d 32 = descByte d 33
        let l := if xferRead d then e.data.take (xferLen d) else r.out.take e.sent
        let stored := xferRead d = true ∧ descField d 40 8 ≠ 0
        (∀ c, r.cut = some c → ¬stored ∨ s.mayDma = true → ∃ t, exec (.spiFrameEnd e) s = .next t ∧ EndsWith t r.txn c ∧ t.spi = none) ∧
        (r.cut = none → busy → r.busy + 1 < descByte d 34 → ∃ t, exec (.spiFrameEnd e) s = .next t ∧ t.txns = s.txns ∧
          t.spi = some { r with busy := r.busy + 1, onWire := false, due := false, lastStatus := st,
                                   waitFrom := s.pwr.aonMicros }) ∧
        (r.cut = none → busy → descByte d 34 ≤ r.busy + 1 → ∃ t, exec (.spiFrameEnd e) s = .next t ∧ EndsWith t r.txn .busyTimeout ∧
          t.spi = none) ∧
        (r.cut = none → whole → ¬busy → l.length = xferLen d → ¬stored ∨ s.mayDma = true → ∃ t, exec (.spiFrameEnd e) s = .next t ∧
          EndsWith t r.txn .ok ∧ t.spi = none ∧
          (l ≠ [] → s.test.takesBalls = false → .spiData (descByte d 16 % 4) l ((xferHead d).dataIo (xferRead d) l) ∈ t.out) ∧
          (stored → l ≠ [] → s.test.takesBalls = false → .hostWrite (descField d 40 8) l ∈ t.out)) ∧
        (r.cut = none → ¬busy → ¬whole ∨ l.length < xferLen d ∨ (stored ∧ l ≠ [] ∧ s.mayDma = false) →
          exec (.spiFrameEnd e) s = .next s))) ∧
    (∀ (r : SpiRun) (u : Txn), s.spi = some r → s.txn? r.txn = some u → s.isOn .core = true →
      (r.onWire = false → r.due = false → s.serial.retry ≠ .waiting ∨ r.waitFrom + descField u.desc 36 2 ≤ s.pwr.aonMicros →
        (s.wireFree = false → exec .spiRetryExpiry s = .next { s with spi := some { r with due := true } }) ∧
        (s.wireFree = true → s.loadFrame = none → s.serial.frames = [] → ∃ t, exec .spiRetryExpiry s = .next t ∧
          t.spi = some { r with onWire := true, due := false, frames := r.frames + 1 } ∧
          (let cs := descByte u.desc 16 % 4
           t.out = s.logged [.spiFrame cs (u.spi.getD (s.spiSet cs)) (xferHead u.desc) ((xferHead u.desc).io (xferLen u.desc))]) ∧
          t.rd F.SPI_CNT_RETRY_COUNT = (s.rd F.SPI_CNT_RETRY_COUNT + 1) % 2 ^ 32 ∧
          RegsOnly { s with spi := t.spi, out := t.out, serial := { s.serial with last := false } } t [F.SPI_CNT_RETRY_COUNT.key 0])) ∧
      (r.onWire = true → s.serial.retry ≠ .waiting → exec .spiRetryExpiry s = .next s) ∧
      (∀ d, CarriedOut s 30 0x0F d → u.live = true → r.cut = none → ∃ t, exec (.spiAbort d) s = .next t ∧ EndsWith t s.sys.nextId .ok ∧
        (r.onWire = true → t.spi = some { r with cut := some .aborted }) ∧
        (r.onWire = false → t.spi = none ∧ EndsWith t r.txn .aborted))) ∧
    (∀ f rest, s.isOn .core = true → s.spi = none → s.serial.retry = .waiting → s.wireFree = true → s.loadFrame = none →
      s.xferWaits = false ∨ s.serial.last = false → s.serial.frames = f :: rest → ∃ t, exec .spiRetryExpiry s = .next t ∧ t.serial.onWire = true ∧ t.serial.retry = .none ∧
        t.serial.frames = f :: rest ∧ t.rd F.SPI_CNT_RETRY_COUNT = (s.rd F.SPI_CNT_RETRY_COUNT + 1) % 2 ^ 32) ∧
    (∀ d, s.spi = none → CarriedOut s 30 0x0F d → ∃ t, exec (.spiAbort d) s = .next t ∧ EndsWith t s.sys.nextId .ok ∧ t.spi = none) ∧
    (∀ d, CarriedOut s 30 0x0E d → (∀ r, s.spi = some r → r.txn < s.sys.nextId) → ∃ t, exec (.spiFlush d) s = .next t ∧ EndsWith t s.sys.nextId .ok ∧
      (∀ u ∈ s.txns, u.unit = unitSpi → u.op = 1 → u.phase = .queued ∨ u.phase = .staged → s.txn? u.id = some u → EndsWith t u.id .flushed) ∧
      (∀ r u, s.spi = some r → r.onWire = true → r.cut = none → s.txn? r.txn = some u → u.unit = unitSpi → u.op = 1 → u.phase = .running →
        (∀ v ∈ s.txns, v.id = r.txn → v = u) → t.spi = some { r with cut := some .flushed })) ∧
    (∀ u, s.txns.find? (fun t => t.unit == unitSpi && t.op == 1 && t.isQueued && s.nltPassed t.desc) = some u → s.txn? u.id = some u →
      ∃ t, exec .spiNltExpiry s = .next t ∧ EndsWith t u.id .late) ∧
    (∀ (k : Fin 16) (level : Bool),
      (s.isOn .core = false ∨ (s.rd F.GPIO_DIR_PINS).testBit k.val = true → exec (.gpioEdge k level) s = .next s) ∧
      (s.isOn .core = true → (s.rd F.GPIO_DIR_PINS).testBit k.val = false → ∃ t, exec (.gpioEdge k level) s = .next t ∧
        (∀ j < 16, (t.rd F.GPIO_IN_PINS).testBit j = if j = k.val then level else (s.rd F.GPIO_IN_PINS).testBit j) ∧
        ((∀ l < 4, s.rd F.ACC_LOCK_TRIG_GPIO l ≠ k.val) → t.acc = s.acc) ∧
        ((∀ n < 16, s.rd F.TMR_CTL_CLK n ≠ 2 ∧ s.rd F.TMR_CTL_CAPT_SRC n ≠ 0x10 + k.val) →
          t = { s with regs := t.regs, gpio := t.gpio, acc := t.acc } ∧
          ((∀ l < 4, s.rd F.ACC_LOCK_TRIG_GPIO l ≠ k.val) → RegsOnly { s with gpio := t.gpio } t [F.GPIO_IN_PINS.key 0])) ∧
        ((s.rd F.GPIO_EVT_EN_PINS).testBit k.val = true → (s.rd F.GPIO_IN_PINS).testBit k.val ≠ level →
          t.gpio = { s.gpio with window := true, changed := s.gpio.changed ||| 2 ^ k.val }) ∧
        ((s.rd F.GPIO_EVT_EN_PINS).testBit k.val = false ∨ (s.rd F.GPIO_IN_PINS).testBit k.val = level → t.gpio = s.gpio))) ∧
    (s.gpio.window = false ∨ s.isOn .core = false → exec .gpioWindowEnd s = .next s) ∧
    (s.gpio.window = true → s.isOn .core = true → exec .gpioWindowEnd s =
      .next ({ s with gpio := { s.gpio with window := false, changed := 0 } }.raise .gpioChange unitGpio
        (leBytes 2 s.gpio.changed ++ leBytes 2 (s.rd F.GPIO_IN_PINS &&& s.gpio.changed))))

/-- O53, derived (spec/15_test_and_debug.md (R615, R616, R617, R618, R619, R620, R621, R622, R626, R627, R629, R630,
R631, R632)). BIST_RUN at the head while no request, wake or run is in progress completes with the first failing
check, or waits for its targets; CANCEL ends a register-started wait with CANCELLED and changes nothing else that
runs or waits. BIST_TARGETS_READY puts the targets that pass their tests in TRANSIT and erases keys that are one.
BIST_ITEM_DONE judges the next item: it passes when its value is the expected one and is reported apart when none is
programmed; after the last item the results stand in the registers, every target is ON and the descriptor completes
OK, or CHECKSUM_FAIL when a checked item failed. A TAP instruction is selected, one without an entry acts as BYPASS,
IDCODE shows the identification, and one under which the boundary scan takes or releases the balls (EXTEST, CLAMP,
HIGHZ) drives them so; a scan puts out what the selected register captured, of the boundary register the balls, and
leaves the boundary cells what was shifted in; a TAP reset selects IDCODE. DEBUG_HALT sets HALTED with its source,
from JTAG only through an unlocked DBG_ACCESS; DEBUG_RESUME clears HALTED and STOPPED and commits DEBUG_HALT;
DEBUG_STEP lets every halted invocation run one unit; DEBUG_STOPPED sets STOPPED once all are at rest. Model's
choices: a command not due changes nothing (log entry 1), open points of self-tests (30) and of STEP (31), whole
scans (56). -/
def Obligations.SelfTestRunsAndTheDebugHaltKeepTheirRules : Prop :=
  ∀ s : State,
    (s.pwrBusy = true → exec .bistRun s = .next s) ∧
    (∀ u, s.pwrBusy = false → s.takeHead? unitSys 0x40 = some u → s.txn? u.id = some u →
      let l := descField u.desc 16 2
      let m := descByte u.desc 18
      (bistAllowed l m = false → ∃ t, exec .bistRun s = .next t ∧ EndsWith t u.id .badDescriptor ∧ t.test.bist = none ∧
        t.rd F.BIST_STAT_RESULT = 3 ∧ t.rd F.BIST_STAT_DONE = 1) ∧
      (bistAllowed l m = true → (∃ d ∈ bistTargets l m, s.isOn d = false) → ∃ t, exec .bistRun s = .next t ∧ EndsWith t u.id .domainOff) ∧
      (s.bistCheck l m = none → ∃ t, exec .bistRun s = .next t ∧ t.txn? u.id = some { u with phase := .running } ∧
        t.test = { s.test with bist := some ⟨some u.id, l, m, true, bistItems l m, [], [], []⟩ } ∧
        t = { s with txns := t.txns, test := t.test })) ∧
    (∀ w : Word, s.isOn .core = true → w.toNat % 4 = 2 →
      (s.test.bist = none → exec (.bistCancel w) s = .next s) ∧
      (∀ b, s.test.bist = some b → b.waiting = false ∨ b.txn ≠ none → exec (.bistCancel w) s = .next s) ∧
      (∀ b, s.test.bist = some b → b.waiting = true → b.txn = none → ∃ t, exec (.bistCancel w) s = .next t ∧
        t.test = { s.test with bist := none } ∧ t.rd F.BIST_STAT_RESULT = 3 ∧ t.rd F.BIST_STAT_DONE = 1 ∧
        RegsOnly { s with test := t.test } t [F.BIST_STAT_RESULT.key 0, F.BIST_STAT_DONE.key 0])) ∧
    (s.test.bist = none → exec .bistTargetsReady s = .next s ∧ ∀ v c, exec (.bistItemDone v c) s = .next s) ∧
    (∀ b, s.test.bist = some b → b.txn = none → b.waiting = true →
      ((∃ d ∈ bistTargets b.lmask b.mmask, s.busyTest d = true ∨ s.recordsTest d .off = true) → exec .bistTargetsReady s = .next s) ∧
      ((∀ d ∈ bistTargets b.lmask b.mmask, s.busyTest d = false ∧ s.recordsTest d .off = false) → ∃ t, exec .bistTargetsReady s = .next t ∧
        t.test = { s.test with bist := some { b with waiting := false } } ∧
        (∀ d, t.pst d = if d ∈ bistTargets b.lmask b.mmask then .transit else s.pst d) ∧
        (.keys ∈ bistTargets b.lmask b.mmask → t.keys.slots = [] ∧ t.keys.entries = []))) ∧
    (∀ b k rest v c, s.test.bist = some b → b.waiting = false → b.todo = k :: rest →
      let x := if k < 16 then v % 2 ^ 64 else v % 2 ^ 32
      let b1 := s.judgeItem b k v c
      (s.expected k = none → b1.noexp = k :: b.noexp ∧ b1.pass = b.pass) ∧
      (∀ e, s.expected k = some e → b1.noexp = b.noexp ∧ b1.pass = if x = e ∧ (k < 16 ∨ c = true) then k :: b.pass else b.pass) ∧
      b1.sigs = (k, x) :: b.sigs ∧ b1.todo = rest ∧
      (rest ≠ [] → exec (.bistItemDone v c) s = .next { s with test := { s.test with bist := some b1 } }) ∧
      (rest = [] → bistAllowed b.lmask b.mmask = true → ∃ t, exec (.bistItemDone v c) s = .next t ∧ t.test.bist = none ∧
        t.rd F.BIST_STAT_DONE = 1 ∧ t.rd F.BIST_STAT_RESULT = (if b1.anyFail then 2 else 1) ∧
        (∀ d ∈ bistTargets b.lmask b.mmask, t.isOn d = true) ∧
        (∀ id u, b.txn = some id → s.txn? id = some u → u.live = true → EndsWith t id (if b1.anyFail then .checksumFail else .ok)))) ∧
    (let selects := fun (o : Host.Outcome State Fault Refusal) (k : Nat) =>
        let d := ({ s.test with tap := k } : TestPart).ballDrive
        o = .next { s with
          test := { s.test with tap := k },
          out := (if k = 2 then [.tapId s.idcode] else []) ++ ((if d = s.test.ballDrive then [] else [.balls d]) ++ s.out) };
      (∀ x : TapScan, x.tdi = [] ∨ x.ir % 32 = 0x10 →
        (x.ir % 32 ∈ [0, 1, 2, 8, 9, 0x0C, 0x0D, 0x10] → selects (exec (.jtagInstruction x) s) (x.ir % 32)) ∧
        (x.ir % 32 ∉ [0, 1, 2, 8, 9, 0x0C, 0x0D, 0x10] → selects (exec (.jtagInstruction x) s) 0x1F)) ∧
      (∀ x : TapScan, x.tdi ≠ [] →
        let n := boundaryChain.length
        let k := x.tdi.length
        let scans := fun (tap : Nat) (l : List Bool) (moves : Bool) => ∃ t, exec (.jtagInstruction x) s = .next t ∧
          t = { s with test := t.test, out := t.out } ∧ .tdo (l.take k) ∈ t.out ∧
          t.test = { s.test with tap := tap, cells := if moves then l.drop k else s.test.cells }
        (x.ir % 32 ∈ [0, 1, 8, 9] → scans (x.ir % 32) ((x.balls ++ List.replicate n false).take n ++ x.tdi) true) ∧
        (x.ir % 32 = 2 → scans 2 ((List.range 32).map (fun i => s.idcode.testBit i) ++ x.tdi) false) ∧
        (x.ir % 32 ∈ [0x0C, 0x0D] → scans (x.ir % 32) (false :: x.tdi) false) ∧
        (x.ir % 32 ∉ [0, 1, 2, 8, 9, 0x0C, 0x0D, 0x10] → scans 0x1F (false :: x.tdi) false)) ∧
      selects (exec .tapReset s) 2) ∧
    (∀ (w : Word) (jtag : Bool), (jtag = false ∧ s.isOn .aon = true) ∨ (jtag = true ∧ s.test.tap = 0x10 ∧ s.otp.debugLocked = false) →
      w.toNat % 8 = 1 →
      (s.flag F.DBG_STAT_HALTED = true → exec (.debugHalt jtag w) s = .next s) ∧
      (s.flag F.DBG_STAT_HALTED = false → ∃ t, exec (.debugHalt jtag w) s = .next t ∧ t.rd F.DBG_STAT_HALTED = 1 ∧
        t.rd F.DBG_STAT_SRC = (if jtag then 1 else 0) ∧ RegsOnly s t [F.DBG_STAT_HALTED.key 0, F.DBG_STAT_SRC.key 0])) ∧
    (∀ w : Word, s.test.tap ≠ 0x10 ∨ s.otp.debugLocked = true → exec (.debugHalt true w) s = .next s) ∧
    (∀ w : Word, s.isOn .aon = true →
      (s.flag F.DBG_STAT_HALTED = false → w.toNat % 8 = 2 → exec (.debugResume w) s = .next s) ∧
      (s.flag F.DBG_STAT_HALTED = false → w.toNat % 8 = 4 → exec (.debugStep w) s = .next s) ∧
      (s.flag F.DBG_STAT_HALTED = true → w.toNat % 8 = 2 → s.acc.run = none → ∃ t, exec (.debugResume w) s =
          .next (t.raise .debugHalt unitDev (leBytes 1 0)) ∧ t.rd F.DBG_STAT_HALTED = 0 ∧ t.rd F.DBG_STAT_STOPPED = 0 ∧
        (∀ n p, s.plan? n = some p → t.plan? n = some { p with credit := s.atBreakpoint n && p.atBoundary }) ∧
        (∀ n, s.plan? n = none → t.rod n = s.rod n) ∧
        RegsOnly { s with rods := t.rods } t [F.DBG_STAT_HALTED.key 0, F.DBG_STAT_STOPPED.key 0]) ∧
      (s.flag F.DBG_STAT_HALTED = true → w.toNat % 8 = 4 → ∃ t, exec (.debugStep w) s = .next t ∧ t.rd F.DBG_STAT_HALTED = 1 ∧
        (∀ n p, s.plan? n = some p → t.plan? n = some { p with credit := true } ∧ t.rd F.DBG_STAT_STOPPED = 0) ∧
        (∀ n, s.plan? n = none → t.rod n = s.rod n) ∧ RegsOnly { s with rods := t.rods } t [F.DBG_STAT_STOPPED.key 0])) ∧
    (s.flag F.DBG_STAT_HALTED = false ∨ s.flag F.DBG_STAT_STOPPED = true → exec .debugStopped s = .next s) ∧
    (s.flag F.DBG_STAT_HALTED = true → s.flag F.DBG_STAT_STOPPED = false → s.accAtRest = true →
      (∀ n p, s.plan? n = some p → p.atRest = true) →
      exec .debugStopped s = .next ((s.setF F.DBG_STAT_STOPPED).raise .debugHalt unitDev (leBytes 1 1)))

/-- O54, derived (spec/01_architecture.md, spec/95_what_each_step_holds.md). With a command at the front of its queue, a
step answers exactly what the command answers on the same state with the rest of the queue; with an empty queue it
answers the idle tick of one microsecond (the model's choice, log entry 2). -/
def Obligations.AStepRunsTheCommandAtTheFront : Prop :=
  (∀ (s : State) (c : Instr) (rest : List Instr), s.pending = c :: rest → step s = exec c { s with pending := rest }) ∧
  (∀ s : State, s.pending = [] → step s = .next s.idleTick)

/-- O55, derived (spec/11_record_memory.md, spec/14_power_clocks_reset.md (R578, R604)). At reset the counting board and
plan memory list no byte (every byte reads as 0, the model's choice, log entry 5), so both are in canonical form,
and the queue of commands is empty. -/
def Obligations.ResetListsNoByteOfMemory : Prop :=
  State.reset.boardMem = [] ∧ State.reset.planMem = [] ∧ State.reset.memWf = true ∧ State.reset.pending = []

/-- O56, derived (spec/11_record_memory.md (R485, R487, R490, R493, R495, R496), spec/12_chaining.md (R538, R539)). From
every state in which the lists of both memories rise strictly and list no byte that reads as unlisted, a step, of
whatever command stands at the front of the queue, answers a next state, and both memories are again in that form. -/
def Obligations.EveryStepAnswersANextStateWithCanonicalMemories : Prop :=
  ∀ s : State, s.memWf = true → ∃ t, step s = .next t ∧ t.memWf = true

/-- O57, derived (spec/11_record_memory.md (R483, R487, R489, R490, R493, R494, R495, R496), spec/12_chaining.md (R538,
R539, R543), spec/14_power_clocks_reset.md (R608, R611)). No command changes the queue of waiting commands. Every
command except STARTUP_ADVANCE, POWER_ON_RESET and RESET_N leaves the OTP values as they are. A command that neither
writes a register, drains or egresses items, frees or restores a tile, resets the device, starts it up, brings BOARD
ON or OFF, heats it into shutdown nor ends a self-test leaves every byte of the counting board; one that neither
writes a register or plan data, ends a load or a round step, resets the device, starts it up, takes PLAN OFF, heats
it into shutdown nor ends a self-test leaves every byte of plan memory. -/
def Obligations.OnlyTheseCommandsChangeTheQueueTheOtpAndTheMemories : Prop :=
  ∀ (c : Instr) (s t : State), exec c s = .next t →
    t.pending = s.pending ∧
    ((∀ i, c ≠ .startupAdvance i) → (∀ r, c ≠ .powerOnReset r) → (∀ r, c ≠ .resetN r) → t.otp = s.otp) ∧
    ((∀ w, c ≠ .softwareReset w) → (∀ k, c ≠ .resetToken k) → c ≠ .watchdogExpiry → (∀ i, c ≠ .startupAdvance i) → (∀ r, c ≠ .powerOnReset r) →
      (∀ r, c ≠ .resetN r) → (∀ a w h, c ≠ .registerWrite a w h) → (∀ b, c ≠ .beamReqWrite b) → c ≠ .memberEntryDone →
      (∀ x y z v, c ≠ .tempSample x y z v) → (∀ v b, c ≠ .bistItemDone v b) →
      ((∀ e, c ≠ .drainTake e) → c ≠ .eventEgress → (∀ k, c ≠ .tileFree k) → (∀ w b, c ≠ .tileRestore w b) → (∀ w, c ≠ .beamTileRel w) →
        c ≠ .wakePositionDone → ∀ a, Memory.read t.boardMem a = Memory.read s.boardMem a) ∧
      ((∀ b, c ≠ .loadTileDone b) → (∀ w, c ≠ .planDataWrite w) → c ≠ .roundStepEnd → ∀ a, Memory.read t.planMem a = Memory.read s.planMem a))

/-- O58, derived (spec/01_architecture.md (R41, R43), spec/08_access_sequencer.md (R375), spec/11_record_memory.md
(R488), spec/12_chaining.md (R522), spec/13_timers_crc_serial.md (R549, R550, R551), spec/14_power_clocks_reset.md
(R594, R607)). A step on an empty queue is one microsecond (the model's choice, log entry 2). Unless the watchdog's
time is then out: with CORE ON the timebase advances by 1, and each timer that counts its increments takes a tick,
or, while the timebase is held back, only the hold shrinks; AON time advances, a failure wait ends at its time, and
on a new cycle of 32.768 kHz the wake timer counts down, to 0 as a wake of source TIMER, and the time away from CORE
is counted (log entry 21); a burst whose last record left more than a microsecond ago ends; the watchdog counts
while it runs; transactions, keys, rods, both memories, the outputs and the queue stay. When its time is out, the
watchdog resets every domain but AON with cause 3. -/
def Obligations.AMicrosecondPasses : Prop :=
  ∀ s : State, s.pending = [] → s.test.bist = none → ∃ t, step s = .next t ∧ t.pending = [] ∧
    (let out := s.wdtRuns = true ∧ s.rd F.RST_WDT_CFG_TIMEOUT * 1000 ≤ s.pwr.wdt + 1
     let m := s.pwr.aonMicros + 1
     let cycle := m * 32768 / 1000000 ≠ s.pwr.aonCycles
     let count := s.rd F.PWR_WAKE_TIMER_COUNT
     (out → (∀ d, t.pst d = if d = .aon then .on else .off) ∧ t.txns = [] ∧ t.pwr.wdt = 0 ∧
       t.rd F.RST_CAUSE_CAUSE = (s.rd F.RST_CAUSE_CAUSE ||| 2 ^ 3) % 64) ∧
     (¬out →
       (s.isOn .core = true → s.ring.hold = 0 → t.sys.timebase = s.sys.timebase + 1 ∧ t.ring.hold = 0 ∧
         ∀ n : Fin 16,
           let c := (s.timer n).count + 1
           let hit := s.flag F.TMR_CTL_CMP_EN n.val = true ∧ (s.timer n).period.toNat ≤ c.toNat
           (s.takes n 0 = false → t.timer n = s.timer n) ∧
           (s.takes n 0 = true → (t.timer n).count = (if hit ∧ s.flag F.TMR_CTL_MODE n.val = true then 0 else c) ∧
             (hit → t.rd F.TMR_STAT_MATCH n.val = 1) ∧ (c = 0 → t.rd F.TMR_STAT_OVF n.val = 1) ∧
             (hit → s.flag F.TMR_CTL_MODE n.val = false → t.rd F.TMR_STAT_RUN n.val = 0))) ∧
       (s.isOn .core = true → s.ring.hold ≠ 0 → t.sys.timebase = s.sys.timebase ∧ t.ring.hold = s.ring.hold - 1 ∧ t.tmr = s.tmr) ∧
       (s.isOn .core = false → t.sys.timebase = s.sys.timebase ∧ t.ring.hold = s.ring.hold ∧ t.tmr = s.tmr) ∧
       t.pwr.aonMicros = m ∧ t.pwr.aonCycles = m * 32768 / 1000000 ∧ t.pwr.wdt = (if s.wdtRuns then s.pwr.wdt + 1 else s.pwr.wdt) ∧
       t.pwr.coreAway = (if cycle ∧ s.isOn .core = false then s.pwr.coreAway + 1 else s.pwr.coreAway) ∧
       t.acc = { s.acc with waits := s.acc.waits.filter (fun w => decide (m < w.until_)) } ∧
       t.rd F.PWR_WAKE_TIMER_COUNT = (if cycle then count - 1 else count) ∧
       (cycle → count = 1 → (2 * s.rd F.PWR_WAKE_EN_EN).testBit 2 = true → (t.rd F.PWR_WAKE_LATCH_LATCHED).testBit 1 = true) ∧
       (¬cycle ∨ count ≠ 1 → t.rd F.PWR_WAKE_LATCH_LATCHED = s.rd F.PWR_WAKE_LATCH_LATCHED) ∧
       (s.board.lastLeft = none → t.board = s.board) ∧ (s.board.lastLeft = some 0 → t.board = { s.board with lastLeft := some 1 }) ∧
       (∀ k, s.board.lastLeft = some (k + 1) → t.board = { s.board with burst := none, lastLeft := none, verify := t.board.verify }) ∧
       t.txns = s.txns ∧ t.keys = s.keys ∧ t.rods = s.rods ∧ t.boardMem = s.boardMem ∧ t.planMem = s.planMem ∧ t.out = s.out))

/-- O59, stated (spec/14_power_clocks_reset.md (R602)). While the domain of a register is OFF, in RETENTION or in
TRANSIT, a write of it over BAR0 (any register, 32 bits) or over the beam writes nothing, and a read of it over BAR0
(each read that is a command) or over the beam (any register) gives 0; each such access is counted, the first while
VALID is 0 is captured with its address, domain, direction and port, and nothing else changes. -/
def Obligations.AccessesToDomainsThatAreNotOnReadZeroAndAreCounted : Prop :=
  (∀ (s : State) (addr : Nat) (w : Word) (r : RegSpec), regMapRow? addr = some r → s.pst (domainOf addr) ≠ .on →
    (∃ t, exec (.registerWrite addr w none) s = .next t ∧ AccessFaultNoted s t addr true false) ∧
    AccessFaultNoted s (s.beamRegWrite addr w) addr true true ∧
      (s.beamRegRead addr).2 = 0 ∧ AccessFaultNoted s (s.beamRegRead addr).1 addr false true) ∧
  (∀ (s : State) (n : Fin 16), s.pst .core ≠ .on →
    let faults := fun (o : Host.Outcome State Fault Refusal) (addr : Nat) =>
      ∃ u, o = .next { u with out := s.logged [.readData addr 0] } ∧ AccessFaultNoted s u addr false false
    faults (exec .sysTbLoRead s) 0x48 ∧ faults (exec .sysTbHiRead s) 0x4C ∧
    faults (exec (.tmrCntLoRead n) s) (0xD010 + 0x40 * n.val) ∧ faults (exec (.tmrCntHiRead n) s) (0xD014 + 0x40 * n.val) ∧
    faults (exec (.tmrCaptLoRead n) s) (0xD020 + 0x40 * n.val) ∧ faults (exec (.tmrCaptHiRead n) s) (0xD024 + 0x40 * n.val))

/-- O60, stated (spec/13_timers_crc_serial.md (R558)). While CORE is ON, a read of TMR_CAPT_LO opens a pair, after it
has closed one that was open in the same way as a read of TMR_CAPT_HI closes it, and the value of the pair is the
capture register. A capture, by an edge of its input, TMR_GATE or a pin, or by SWCAPT, goes straight into the
capture register while no pair is open; while one is open it goes into the shadow and sets CAPT_PEND, or, with
CAPT_PEND set, is discarded and sets CAPT_LOST, and the pair's value stays whole. The read of TMR_CAPT_HI after it
returns the high half of the pair, closes it, moves a shadowed capture into the capture register and clears
CAPT_PEND. -/
def Obligations.CapturePairsKeepTheirValueWhole : Prop :=
  ∀ (s : State) (n : Fin 16), s.isOn .core = true →
    let lo := fun v : DWord => v.toNat % 2 ^ 32
    let hi := fun v : DWord => v.toNat / 2 ^ 32
    let pend := s.flag F.TMR_STAT_CAPT_PEND n.val
    let settled := if (s.timer n).pairOpen = true ∧ pend = true then (s.timer n).shadow else (s.timer n).capt
    (∃ t u, exec (.tmrCaptLoRead n) s = .next t ∧ t.out = s.logged [.readData (0xD020 + 0x40 * n.val) (lo settled)] ∧
      (t.timer n).pairOpen = true ∧ (t.timer n).capt = settled ∧ ((s.timer n).pairOpen = true → t.rd F.TMR_STAT_CAPT_PEND n.val = 0) ∧
      exec (.tmrCaptHiRead n) t = .next u ∧ u.out = t.logged [.readData (0xD024 + 0x40 * n.val) (hi settled)] ∧ (u.timer n).pairOpen = false) ∧
    (∀ h, (s.timer n).pairOpen = true → (s.timer n).captLatch = some h → ∃ t, exec (.tmrCaptHiRead n) s = .next t ∧
      t.out = s.logged [.readData (0xD024 + 0x40 * n.val) h.toNat] ∧ (t.timer n).pairOpen = false ∧ (t.timer n).captLatch = none ∧
      (t.timer n).capt = settled ∧ t.rd F.TMR_STAT_CAPT_PEND n.val = 0) ∧
    (let captures := fun (o : Host.Outcome State Fault Refusal) =>
      ∃ t, o = .next t ∧ (t.timer n).captLatch = (s.timer n).captLatch ∧ (t.timer n).pairOpen = (s.timer n).pairOpen ∧
        ((s.timer n).pairOpen = false → (t.timer n).capt = (s.timer n).count ∧ t.rd F.TMR_STAT_CAPT_PEND n.val = s.rd F.TMR_STAT_CAPT_PEND n.val) ∧
        ((s.timer n).pairOpen = true → (t.timer n).capt = (s.timer n).capt ∧ t.rd F.TMR_STAT_CAPT_PEND n.val = 1) ∧
        ((s.timer n).pairOpen = true → pend = false → (t.timer n).shadow = (s.timer n).count ∧
          t.rd F.TMR_STAT_CAPT_LOST n.val = s.rd F.TMR_STAT_CAPT_LOST n.val) ∧
        ((s.timer n).pairOpen = true → pend = true → (t.timer n).shadow = (s.timer n).shadow ∧ t.rd F.TMR_STAT_CAPT_LOST n.val = 1)
    (∀ rising : Bool, (s.rd F.TMR_CTL_CAPT_EDGE n.val).testBit (if rising then 0 else 1) = true →
      (let src := s.rd F.TMR_CTL_CAPT_SRC n.val
       (1 ≤ src ∧ src ≤ 8 ∧ s.gpio.tgate < 256 ∧ s.gpio.tgate.testBit (src - 1) ≠ rising) ∨
       (∃ k : Fin 16, src = 0x10 + k.val ∧ (s.rd F.GPIO_DIR_PINS).testBit k.val = false ∧ (s.rd F.GPIO_IN_PINS).testBit k.val ≠ rising ∧
         s.rd F.TMR_CTL_CLK n.val ≠ 2)) →
      captures (exec (.timerCaptureEdge n rising) s)) ∧
    (∀ w : Word, w.toNat % 16 = 8 → captures (exec (.tmrSwcapt n w) s)))
end

