-- ==== Sys2Proof/Laws/State.lean ====
section
/-! SUPPORT. Every update of the state against every field: one lemma per field, true by computation, so that no later
proof unfolds a record update; and what register fields read after a write. -/

namespace Sys2Proof.Machine
open Sys2Proof
variable (s : State)

/-! ### wr -/
@[simp] theorem State.wr_pending (f : Fld) (i v : Nat) : (s.wr f i v).pending = s.pending := (rfl)
@[simp] theorem State.wr_out (f : Fld) (i v : Nat) : (s.wr f i v).out = s.out := (rfl)
@[simp] theorem State.wr_boardMem (f : Fld) (i v : Nat) : (s.wr f i v).boardMem = s.boardMem := (rfl)
@[simp] theorem State.wr_planMem (f : Fld) (i v : Nat) : (s.wr f i v).planMem = s.planMem := (rfl)
@[simp] theorem State.wr_sys (f : Fld) (i v : Nat) : (s.wr f i v).sys = s.sys := (rfl)
@[simp] theorem State.wr_host (f : Fld) (i v : Nat) : (s.wr f i v).host = s.host := (rfl)
@[simp] theorem State.wr_txns (f : Fld) (i v : Nat) : (s.wr f i v).txns = s.txns := (rfl)
@[simp] theorem State.wr_rods (f : Fld) (i v : Nat) : (s.wr f i v).rods = s.rods := (rfl)
@[simp] theorem State.wr_field (f : Fld) (i v : Nat) : (s.wr f i v).field = s.field := (rfl)
@[simp] theorem State.wr_round (f : Fld) (i v : Nat) : (s.wr f i v).round = s.round := (rfl)
@[simp] theorem State.wr_tally (f : Fld) (i v : Nat) : (s.wr f i v).tally = s.tally := (rfl)
@[simp] theorem State.wr_fifos (f : Fld) (i v : Nat) : (s.wr f i v).fifos = s.fifos := (rfl)
@[simp] theorem State.wr_board (f : Fld) (i v : Nat) : (s.wr f i v).board = s.board := (rfl)
@[simp] theorem State.wr_ingress (f : Fld) (i v : Nat) : (s.wr f i v).ingress = s.ingress := (rfl)
@[simp] theorem State.wr_pwr (f : Fld) (i v : Nat) : (s.wr f i v).pwr = s.pwr := (rfl)
@[simp] theorem State.wr_otp (f : Fld) (i v : Nat) : (s.wr f i v).otp = s.otp := (rfl)
@[simp] theorem State.wr_otpMem (f : Fld) (i v : Nat) : (s.wr f i v).otpMem = s.otpMem := (rfl)
@[simp] theorem State.wr_link (f : Fld) (i v : Nat) : (s.wr f i v).link = s.link := (rfl)
@[simp] theorem State.wr_acc (f : Fld) (i v : Nat) : (s.wr f i v).acc = s.acc := (rfl)
@[simp] theorem State.wr_uhf (f : Fld) (i v : Nat) : (s.wr f i v).uhf = s.uhf := (rfl)
@[simp] theorem State.wr_keys (f : Fld) (i v : Nat) : (s.wr f i v).keys = s.keys := (rfl)
@[simp] theorem State.wr_cph (f : Fld) (i v : Nat) : (s.wr f i v).cph = s.cph := (rfl)
@[simp] theorem State.wr_rng (f : Fld) (i v : Nat) : (s.wr f i v).rng = s.rng := (rfl)
@[simp] theorem State.wr_ring (f : Fld) (i v : Nat) : (s.wr f i v).ring = s.ring := (rfl)
@[simp] theorem State.wr_beam (f : Fld) (i v : Nat) : (s.wr f i v).beam = s.beam := (rfl)
@[simp] theorem State.wr_tmr (f : Fld) (i v : Nat) : (s.wr f i v).tmr = s.tmr := (rfl)
@[simp] theorem State.wr_crc (f : Fld) (i v : Nat) : (s.wr f i v).crc = s.crc := (rfl)
@[simp] theorem State.wr_spi (f : Fld) (i v : Nat) : (s.wr f i v).spi = s.spi := (rfl)
@[simp] theorem State.wr_serial (f : Fld) (i v : Nat) : (s.wr f i v).serial = s.serial := (rfl)
@[simp] theorem State.wr_gpio (f : Fld) (i v : Nat) : (s.wr f i v).gpio = s.gpio := (rfl)
@[simp] theorem State.wr_test (f : Fld) (i v : Nat) : (s.wr f i v).test = s.test := (rfl)

/-! ### setF -/
@[simp] theorem State.setF_pending (f : Fld) (i : Nat) : (s.setF f i).pending = s.pending := (rfl)
@[simp] theorem State.setF_out (f : Fld) (i : Nat) : (s.setF f i).out = s.out := (rfl)
@[simp] theorem State.setF_boardMem (f : Fld) (i : Nat) : (s.setF f i).boardMem = s.boardMem := (rfl)
@[simp] theorem State.setF_planMem (f : Fld) (i : Nat) : (s.setF f i).planMem = s.planMem := (rfl)
@[simp] theorem State.setF_sys (f : Fld) (i : Nat) : (s.setF f i).sys = s.sys := (rfl)
@[simp] theorem State.setF_host (f : Fld) (i : Nat) : (s.setF f i).host = s.host := (rfl)
@[simp] theorem State.setF_txns (f : Fld) (i : Nat) : (s.setF f i).txns = s.txns := (rfl)
@[simp] theorem State.setF_rods (f : Fld) (i : Nat) : (s.setF f i).rods = s.rods := (rfl)
@[simp] theorem State.setF_field (f : Fld) (i : Nat) : (s.setF f i).field = s.field := (rfl)
@[simp] theorem State.setF_round (f : Fld) (i : Nat) : (s.setF f i).round = s.round := (rfl)
@[simp] theorem State.setF_tally (f : Fld) (i : Nat) : (s.setF f i).tally = s.tally := (rfl)
@[simp] theorem State.setF_fifos (f : Fld) (i : Nat) : (s.setF f i).fifos = s.fifos := (rfl)
@[simp] theorem State.setF_board (f : Fld) (i : Nat) : (s.setF f i).board = s.board := (rfl)
@[simp] theorem State.setF_ingress (f : Fld) (i : Nat) : (s.setF f i).ingress = s.ingress := (rfl)
@[simp] theorem State.setF_pwr (f : Fld) (i : Nat) : (s.setF f i).pwr = s.pwr := (rfl)
@[simp] theorem State.setF_otp (f : Fld) (i : Nat) : (s.setF f i).otp = s.otp := (rfl)
@[simp] theorem State.setF_otpMem (f : Fld) (i : Nat) : (s.setF f i).otpMem = s.otpMem := (rfl)
@[simp] theorem State.setF_link (f : Fld) (i : Nat) : (s.setF f i).link = s.link := (rfl)
@[simp] theorem State.setF_acc (f : Fld) (i : Nat) : (s.setF f i).acc = s.acc := (rfl)
@[simp] theorem State.setF_uhf (f : Fld) (i : Nat) : (s.setF f i).uhf = s.uhf := (rfl)
@[simp] theorem State.setF_keys (f : Fld) (i : Nat) : (s.setF f i).keys = s.keys := (rfl)
@[simp] theorem State.setF_cph (f : Fld) (i : Nat) : (s.setF f i).cph = s.cph := (rfl)
@[simp] theorem State.setF_rng (f : Fld) (i : Nat) : (s.setF f i).rng = s.rng := (rfl)
@[simp] theorem State.setF_ring (f : Fld) (i : Nat) : (s.setF f i).ring = s.ring := (rfl)
@[simp] theorem State.setF_beam (f : Fld) (i : Nat) : (s.setF f i).beam = s.beam := (rfl)
@[simp] theorem State.setF_tmr (f : Fld) (i : Nat) : (s.setF f i).tmr = s.tmr := (rfl)
@[simp] theorem State.setF_crc (f : Fld) (i : Nat) : (s.setF f i).crc = s.crc := (rfl)
@[simp] theorem State.setF_spi (f : Fld) (i : Nat) : (s.setF f i).spi = s.spi := (rfl)
@[simp] theorem State.setF_serial (f : Fld) (i : Nat) : (s.setF f i).serial = s.serial := (rfl)
@[simp] theorem State.setF_gpio (f : Fld) (i : Nat) : (s.setF f i).gpio = s.gpio := (rfl)
@[simp] theorem State.setF_test (f : Fld) (i : Nat) : (s.setF f i).test = s.test := (rfl)

/-! ### count -/
@[simp] theorem State.count_pending (f : Fld) (i k : Nat) : (s.count f i k).pending = s.pending := (rfl)
@[simp] theorem State.count_out (f : Fld) (i k : Nat) : (s.count f i k).out = s.out := (rfl)
@[simp] theorem State.count_boardMem (f : Fld) (i k : Nat) : (s.count f i k).boardMem = s.boardMem := (rfl)
@[simp] theorem State.count_planMem (f : Fld) (i k : Nat) : (s.count f i k).planMem = s.planMem := (rfl)
@[simp] theorem State.count_sys (f : Fld) (i k : Nat) : (s.count f i k).sys = s.sys := (rfl)
@[simp] theorem State.count_host (f : Fld) (i k : Nat) : (s.count f i k).host = s.host := (rfl)
@[simp] theorem State.count_txns (f : Fld) (i k : Nat) : (s.count f i k).txns = s.txns := (rfl)
@[simp] theorem State.count_rods (f : Fld) (i k : Nat) : (s.count f i k).rods = s.rods := (rfl)
@[simp] theorem State.count_field (f : Fld) (i k : Nat) : (s.count f i k).field = s.field := (rfl)
@[simp] theorem State.count_round (f : Fld) (i k : Nat) : (s.count f i k).round = s.round := (rfl)
@[simp] theorem State.count_tally (f : Fld) (i k : Nat) : (s.count f i k).tally = s.tally := (rfl)
@[simp] theorem State.count_fifos (f : Fld) (i k : Nat) : (s.count f i k).fifos = s.fifos := (rfl)
@[simp] theorem State.count_board (f : Fld) (i k : Nat) : (s.count f i k).board = s.board := (rfl)
@[simp] theorem State.count_ingress (f : Fld) (i k : Nat) : (s.count f i k).ingress = s.ingress := (rfl)
@[simp] theorem State.count_pwr (f : Fld) (i k : Nat) : (s.count f i k).pwr = s.pwr := (rfl)
@[simp] theorem State.count_otp (f : Fld) (i k : Nat) : (s.count f i k).otp = s.otp := (rfl)
@[simp] theorem State.count_otpMem (f : Fld) (i k : Nat) : (s.count f i k).otpMem = s.otpMem := (rfl)
@[simp] theorem State.count_link (f : Fld) (i k : Nat) : (s.count f i k).link = s.link := (rfl)
@[simp] theorem State.count_acc (f : Fld) (i k : Nat) : (s.count f i k).acc = s.acc := (rfl)
@[simp] theorem State.count_uhf (f : Fld) (i k : Nat) : (s.count f i k).uhf = s.uhf := (rfl)
@[simp] theorem State.count_keys (f : Fld) (i k : Nat) : (s.count f i k).keys = s.keys := (rfl)
@[simp] theorem State.count_cph (f : Fld) (i k : Nat) : (s.count f i k).cph = s.cph := (rfl)
@[simp] theorem State.count_rng (f : Fld) (i k : Nat) : (s.count f i k).rng = s.rng := (rfl)
@[simp] theorem State.count_ring (f : Fld) (i k : Nat) : (s.count f i k).ring = s.ring := (rfl)
@[simp] theorem State.count_beam (f : Fld) (i k : Nat) : (s.count f i k).beam = s.beam := (rfl)
@[simp] theorem State.count_tmr (f : Fld) (i k : Nat) : (s.count f i k).tmr = s.tmr := (rfl)
@[simp] theorem State.count_crc (f : Fld) (i k : Nat) : (s.count f i k).crc = s.crc := (rfl)
@[simp] theorem State.count_spi (f : Fld) (i k : Nat) : (s.count f i k).spi = s.spi := (rfl)
@[simp] theorem State.count_serial (f : Fld) (i k : Nat) : (s.count f i k).serial = s.serial := (rfl)
@[simp] theorem State.count_gpio (f : Fld) (i k : Nat) : (s.count f i k).gpio = s.gpio := (rfl)
@[simp] theorem State.count_test (f : Fld) (i k : Nat) : (s.count f i k).test = s.test := (rfl)

/-! ### countSat -/
@[simp] theorem State.countSat_pending (f : Fld) (i k : Nat) : (s.countSat f i k).pending = s.pending := (rfl)
@[simp] theorem State.countSat_out (f : Fld) (i k : Nat) : (s.countSat f i k).out = s.out := (rfl)
@[simp] theorem State.countSat_boardMem (f : Fld) (i k : Nat) : (s.countSat f i k).boardMem = s.boardMem := (rfl)
@[simp] theorem State.countSat_planMem (f : Fld) (i k : Nat) : (s.countSat f i k).planMem = s.planMem := (rfl)
@[simp] theorem State.countSat_sys (f : Fld) (i k : Nat) : (s.countSat f i k).sys = s.sys := (rfl)
@[simp] theorem State.countSat_host (f : Fld) (i k : Nat) : (s.countSat f i k).host = s.host := (rfl)
@[simp] theorem State.countSat_txns (f : Fld) (i k : Nat) : (s.countSat f i k).txns = s.txns := (rfl)
@[simp] theorem State.countSat_rods (f : Fld) (i k : Nat) : (s.countSat f i k).rods = s.rods := (rfl)
@[simp] theorem State.countSat_field (f : Fld) (i k : Nat) : (s.countSat f i k).field = s.field := (rfl)
@[simp] theorem State.countSat_round (f : Fld) (i k : Nat) : (s.countSat f i k).round = s.round := (rfl)
@[simp] theorem State.countSat_tally (f : Fld) (i k : Nat) : (s.countSat f i k).tally = s.tally := (rfl)
@[simp] theorem State.countSat_fifos (f : Fld) (i k : Nat) : (s.countSat f i k).fifos = s.fifos := (rfl)
@[simp] theorem State.countSat_board (f : Fld) (i k : Nat) : (s.countSat f i k).board = s.board := (rfl)
@[simp] theorem State.countSat_ingress (f : Fld) (i k : Nat) : (s.countSat f i k).ingress = s.ingress := (rfl)
@[simp] theorem State.countSat_pwr (f : Fld) (i k : Nat) : (s.countSat f i k).pwr = s.pwr := (rfl)
@[simp] theorem State.countSat_otp (f : Fld) (i k : Nat) : (s.countSat f i k).otp = s.otp := (rfl)
@[simp] theorem State.countSat_otpMem (f : Fld) (i k : Nat) : (s.countSat f i k).otpMem = s.otpMem := (rfl)
@[simp] theorem State.countSat_link (f : Fld) (i k : Nat) : (s.countSat f i k).link = s.link := (rfl)
@[simp] theorem State.countSat_acc (f : Fld) (i k : Nat) : (s.countSat f i k).acc = s.acc := (rfl)
@[simp] theorem State.countSat_uhf (f : Fld) (i k : Nat) : (s.countSat f i k).uhf = s.uhf := (rfl)
@[simp] theorem State.countSat_keys (f : Fld) (i k : Nat) : (s.countSat f i k).keys = s.keys := (rfl)
@[simp] theorem State.countSat_cph (f : Fld) (i k : Nat) : (s.countSat f i k).cph = s.cph := (rfl)
@[simp] theorem State.countSat_rng (f : Fld) (i k : Nat) : (s.countSat f i k).rng = s.rng := (rfl)
@[simp] theorem State.countSat_ring (f : Fld) (i k : Nat) : (s.countSat f i k).ring = s.ring := (rfl)
@[simp] theorem State.countSat_beam (f : Fld) (i k : Nat) : (s.countSat f i k).beam = s.beam := (rfl)
@[simp] theorem State.countSat_tmr (f : Fld) (i k : Nat) : (s.countSat f i k).tmr = s.tmr := (rfl)
@[simp] theorem State.countSat_crc (f : Fld) (i k : Nat) : (s.countSat f i k).crc = s.crc := (rfl)
@[simp] theorem State.countSat_spi (f : Fld) (i k : Nat) : (s.countSat f i k).spi = s.spi := (rfl)
@[simp] theorem State.countSat_serial (f : Fld) (i k : Nat) : (s.countSat f i k).serial = s.serial := (rfl)
@[simp] theorem State.countSat_gpio (f : Fld) (i k : Nat) : (s.countSat f i k).gpio = s.gpio := (rfl)
@[simp] theorem State.countSat_test (f : Fld) (i k : Nat) : (s.countSat f i k).test = s.test := (rfl)

/-! ### resetRegs -/
@[simp] theorem State.resetRegs_pending (p : Nat → Bool) : (s.resetRegs p).pending = s.pending := (rfl)
@[simp] theorem State.resetRegs_out (p : Nat → Bool) : (s.resetRegs p).out = s.out := (rfl)
@[simp] theorem State.resetRegs_boardMem (p : Nat → Bool) : (s.resetRegs p).boardMem = s.boardMem := (rfl)
@[simp] theorem State.resetRegs_planMem (p : Nat → Bool) : (s.resetRegs p).planMem = s.planMem := (rfl)
@[simp] theorem State.resetRegs_sys (p : Nat → Bool) : (s.resetRegs p).sys = s.sys := (rfl)
@[simp] theorem State.resetRegs_host (p : Nat → Bool) : (s.resetRegs p).host = s.host := (rfl)
@[simp] theorem State.resetRegs_txns (p : Nat → Bool) : (s.resetRegs p).txns = s.txns := (rfl)
@[simp] theorem State.resetRegs_rods (p : Nat → Bool) : (s.resetRegs p).rods = s.rods := (rfl)
@[simp] theorem State.resetRegs_field (p : Nat → Bool) : (s.resetRegs p).field = s.field := (rfl)
@[simp] theorem State.resetRegs_round (p : Nat → Bool) : (s.resetRegs p).round = s.round := (rfl)
@[simp] theorem State.resetRegs_tally (p : Nat → Bool) : (s.resetRegs p).tally = s.tally := (rfl)
@[simp] theorem State.resetRegs_fifos (p : Nat → Bool) : (s.resetRegs p).fifos = s.fifos := (rfl)
@[simp] theorem State.resetRegs_board (p : Nat → Bool) : (s.resetRegs p).board = s.board := (rfl)
@[simp] theorem State.resetRegs_ingress (p : Nat → Bool) : (s.resetRegs p).ingress = s.ingress := (rfl)
@[simp] theorem State.resetRegs_pwr (p : Nat → Bool) : (s.resetRegs p).pwr = s.pwr := (rfl)
@[simp] theorem State.resetRegs_otp (p : Nat → Bool) : (s.resetRegs p).otp = s.otp := (rfl)
@[simp] theorem State.resetRegs_otpMem (p : Nat → Bool) : (s.resetRegs p).otpMem = s.otpMem := (rfl)
@[simp] theorem State.resetRegs_link (p : Nat → Bool) : (s.resetRegs p).link = s.link := (rfl)
@[simp] theorem State.resetRegs_acc (p : Nat → Bool) : (s.resetRegs p).acc = s.acc := (rfl)
@[simp] theorem State.resetRegs_uhf (p : Nat → Bool) : (s.resetRegs p).uhf = s.uhf := (rfl)
@[simp] theorem State.resetRegs_keys (p : Nat → Bool) : (s.resetRegs p).keys = s.keys := (rfl)
@[simp] theorem State.resetRegs_cph (p : Nat → Bool) : (s.resetRegs p).cph = s.cph := (rfl)
@[simp] theorem State.resetRegs_rng (p : Nat → Bool) : (s.resetRegs p).rng = s.rng := (rfl)
@[simp] theorem State.resetRegs_ring (p : Nat → Bool) : (s.resetRegs p).ring = s.ring := (rfl)
@[simp] theorem State.resetRegs_beam (p : Nat → Bool) : (s.resetRegs p).beam = s.beam := (rfl)
@[simp] theorem State.resetRegs_tmr (p : Nat → Bool) : (s.resetRegs p).tmr = s.tmr := (rfl)
@[simp] theorem State.resetRegs_crc (p : Nat → Bool) : (s.resetRegs p).crc = s.crc := (rfl)
@[simp] theorem State.resetRegs_spi (p : Nat → Bool) : (s.resetRegs p).spi = s.spi := (rfl)
@[simp] theorem State.resetRegs_serial (p : Nat → Bool) : (s.resetRegs p).serial = s.serial := (rfl)
@[simp] theorem State.resetRegs_gpio (p : Nat → Bool) : (s.resetRegs p).gpio = s.gpio := (rfl)
@[simp] theorem State.resetRegs_test (p : Nat → Bool) : (s.resetRegs p).test = s.test := (rfl)

/-! ### emitOut -/
@[simp] theorem State.emitOut_pending (o : Output) : (s.emitOut o).pending = s.pending := (rfl)
@[simp] theorem State.emitOut_out (o : Output) : (s.emitOut o).out = if s.test.takesBalls && o.atBalls then s.out else o :: s.out := (rfl)
@[simp] theorem State.emitOut_regs (o : Output) : (s.emitOut o).regs = s.regs := (rfl)
@[simp] theorem State.emitOut_boardMem (o : Output) : (s.emitOut o).boardMem = s.boardMem := (rfl)
@[simp] theorem State.emitOut_planMem (o : Output) : (s.emitOut o).planMem = s.planMem := (rfl)
@[simp] theorem State.emitOut_sys (o : Output) : (s.emitOut o).sys = s.sys := (rfl)
@[simp] theorem State.emitOut_host (o : Output) : (s.emitOut o).host = s.host := (rfl)
@[simp] theorem State.emitOut_txns (o : Output) : (s.emitOut o).txns = s.txns := (rfl)
@[simp] theorem State.emitOut_rods (o : Output) : (s.emitOut o).rods = s.rods := (rfl)
@[simp] theorem State.emitOut_field (o : Output) : (s.emitOut o).field = s.field := (rfl)
@[simp] theorem State.emitOut_round (o : Output) : (s.emitOut o).round = s.round := (rfl)
@[simp] theorem State.emitOut_tally (o : Output) : (s.emitOut o).tally = s.tally := (rfl)
@[simp] theorem State.emitOut_fifos (o : Output) : (s.emitOut o).fifos = s.fifos := (rfl)
@[simp] theorem State.emitOut_board (o : Output) : (s.emitOut o).board = s.board := (rfl)
@[simp] theorem State.emitOut_ingress (o : Output) : (s.emitOut o).ingress = s.ingress := (rfl)
@[simp] theorem State.emitOut_pwr (o : Output) : (s.emitOut o).pwr = s.pwr := (rfl)
@[simp] theorem State.emitOut_otp (o : Output) : (s.emitOut o).otp = s.otp := (rfl)
@[simp] theorem State.emitOut_otpMem (o : Output) : (s.emitOut o).otpMem = s.otpMem := (rfl)
@[simp] theorem State.emitOut_link (o : Output) : (s.emitOut o).link = s.link := (rfl)
@[simp] theorem State.emitOut_acc (o : Output) : (s.emitOut o).acc = s.acc := (rfl)
@[simp] theorem State.emitOut_uhf (o : Output) : (s.emitOut o).uhf = s.uhf := (rfl)
@[simp] theorem State.emitOut_keys (o : Output) : (s.emitOut o).keys = s.keys := (rfl)
@[simp] theorem State.emitOut_cph (o : Output) : (s.emitOut o).cph = s.cph := (rfl)
@[simp] theorem State.emitOut_rng (o : Output) : (s.emitOut o).rng = s.rng := (rfl)
@[simp] theorem State.emitOut_ring (o : Output) : (s.emitOut o).ring = s.ring := (rfl)
@[simp] theorem State.emitOut_beam (o : Output) : (s.emitOut o).beam = s.beam := (rfl)
@[simp] theorem State.emitOut_tmr (o : Output) : (s.emitOut o).tmr = s.tmr := (rfl)
@[simp] theorem State.emitOut_crc (o : Output) : (s.emitOut o).crc = s.crc := (rfl)
@[simp] theorem State.emitOut_spi (o : Output) : (s.emitOut o).spi = s.spi := (rfl)
@[simp] theorem State.emitOut_serial (o : Output) : (s.emitOut o).serial = s.serial := (rfl)
@[simp] theorem State.emitOut_gpio (o : Output) : (s.emitOut o).gpio = s.gpio := (rfl)
@[simp] theorem State.emitOut_test (o : Output) : (s.emitOut o).test = s.test := (rfl)

/-! ### noteSeq -/
@[simp] theorem State.noteSeq_pending (u : Nat) (q : Word) : (s.noteSeq u q).pending = s.pending := (rfl)
@[simp] theorem State.noteSeq_out (u : Nat) (q : Word) : (s.noteSeq u q).out = s.out := (rfl)
@[simp] theorem State.noteSeq_regs (u : Nat) (q : Word) : (s.noteSeq u q).regs = s.regs := (rfl)
@[simp] theorem State.noteSeq_boardMem (u : Nat) (q : Word) : (s.noteSeq u q).boardMem = s.boardMem := (rfl)
@[simp] theorem State.noteSeq_planMem (u : Nat) (q : Word) : (s.noteSeq u q).planMem = s.planMem := (rfl)
@[simp] theorem State.noteSeq_host (u : Nat) (q : Word) : (s.noteSeq u q).host = s.host := (rfl)
@[simp] theorem State.noteSeq_txns (u : Nat) (q : Word) : (s.noteSeq u q).txns = s.txns := (rfl)
@[simp] theorem State.noteSeq_rods (u : Nat) (q : Word) : (s.noteSeq u q).rods = s.rods := (rfl)
@[simp] theorem State.noteSeq_field (u : Nat) (q : Word) : (s.noteSeq u q).field = s.field := (rfl)
@[simp] theorem State.noteSeq_round (u : Nat) (q : Word) : (s.noteSeq u q).round = s.round := (rfl)
@[simp] theorem State.noteSeq_tally (u : Nat) (q : Word) : (s.noteSeq u q).tally = s.tally := (rfl)
@[simp] theorem State.noteSeq_fifos (u : Nat) (q : Word) : (s.noteSeq u q).fifos = s.fifos := (rfl)
@[simp] theorem State.noteSeq_board (u : Nat) (q : Word) : (s.noteSeq u q).board = s.board := (rfl)
@[simp] theorem State.noteSeq_ingress (u : Nat) (q : Word) : (s.noteSeq u q).ingress = s.ingress := (rfl)
@[simp] theorem State.noteSeq_pwr (u : Nat) (q : Word) : (s.noteSeq u q).pwr = s.pwr := (rfl)
@[simp] theorem State.noteSeq_otp (u : Nat) (q : Word) : (s.noteSeq u q).otp = s.otp := (rfl)
@[simp] theorem State.noteSeq_otpMem (u : Nat) (q : Word) : (s.noteSeq u q).otpMem = s.otpMem := (rfl)
@[simp] theorem State.noteSeq_link (u : Nat) (q : Word) : (s.noteSeq u q).link = s.link := (rfl)
@[simp] theorem State.noteSeq_acc (u : Nat) (q : Word) : (s.noteSeq u q).acc = s.acc := (rfl)
@[simp] theorem State.noteSeq_uhf (u : Nat) (q : Word) : (s.noteSeq u q).uhf = s.uhf := (rfl)
@[simp] theorem State.noteSeq_keys (u : Nat) (q : Word) : (s.noteSeq u q).keys = s.keys := (rfl)
@[simp] theorem State.noteSeq_cph (u : Nat) (q : Word) : (s.noteSeq u q).cph = s.cph := (rfl)
@[simp] theorem State.noteSeq_rng (u : Nat) (q : Word) : (s.noteSeq u q).rng = s.rng := (rfl)
@[simp] theorem State.noteSeq_ring (u : Nat) (q : Word) : (s.noteSeq u q).ring = s.ring := (rfl)
@[simp] theorem State.noteSeq_beam (u : Nat) (q : Word) : (s.noteSeq u q).beam = s.beam := (rfl)
@[simp] theorem State.noteSeq_tmr (u : Nat) (q : Word) : (s.noteSeq u q).tmr = s.tmr := (rfl)
@[simp] theorem State.noteSeq_crc (u : Nat) (q : Word) : (s.noteSeq u q).crc = s.crc := (rfl)
@[simp] theorem State.noteSeq_spi (u : Nat) (q : Word) : (s.noteSeq u q).spi = s.spi := (rfl)
@[simp] theorem State.noteSeq_serial (u : Nat) (q : Word) : (s.noteSeq u q).serial = s.serial := (rfl)
@[simp] theorem State.noteSeq_gpio (u : Nat) (q : Word) : (s.noteSeq u q).gpio = s.gpio := (rfl)
@[simp] theorem State.noteSeq_test (u : Nat) (q : Word) : (s.noteSeq u q).test = s.test := (rfl)

/-! ### modTxn -/
@[simp] theorem State.modTxn_pending (id : Nat) (f : Txn → Txn) : (s.modTxn id f).pending = s.pending := (rfl)
@[simp] theorem State.modTxn_out (id : Nat) (f : Txn → Txn) : (s.modTxn id f).out = s.out := (rfl)
@[simp] theorem State.modTxn_regs (id : Nat) (f : Txn → Txn) : (s.modTxn id f).regs = s.regs := (rfl)
@[simp] theorem State.modTxn_boardMem (id : Nat) (f : Txn → Txn) : (s.modTxn id f).boardMem = s.boardMem := (rfl)
@[simp] theorem State.modTxn_planMem (id : Nat) (f : Txn → Txn) : (s.modTxn id f).planMem = s.planMem := (rfl)
@[simp] theorem State.modTxn_sys (id : Nat) (f : Txn → Txn) : (s.modTxn id f).sys = s.sys := (rfl)
@[simp] theorem State.modTxn_host (id : Nat) (f : Txn → Txn) : (s.modTxn id f).host = s.host := (rfl)
@[simp] theorem State.modTxn_rods (id : Nat) (f : Txn → Txn) : (s.modTxn id f).rods = s.rods := (rfl)
@[simp] theorem State.modTxn_field (id : Nat) (f : Txn → Txn) : (s.modTxn id f).field = s.field := (rfl)
@[simp] theorem State.modTxn_round (id : Nat) (f : Txn → Txn) : (s.modTxn id f).round = s.round := (rfl)
@[simp] theorem State.modTxn_tally (id : Nat) (f : Txn → Txn) : (s.modTxn id f).tally = s.tally := (rfl)
@[simp] theorem State.modTxn_fifos (id : Nat) (f : Txn → Txn) : (s.modTxn id f).fifos = s.fifos := (rfl)
@[simp] theorem State.modTxn_board (id : Nat) (f : Txn → Txn) : (s.modTxn id f).board = s.board := (rfl)
@[simp] theorem State.modTxn_ingress (id : Nat) (f : Txn → Txn) : (s.modTxn id f).ingress = s.ingress := (rfl)
@[simp] theorem State.modTxn_pwr (id : Nat) (f : Txn → Txn) : (s.modTxn id f).pwr = s.pwr := (rfl)
@[simp] theorem State.modTxn_otp (id : Nat) (f : Txn → Txn) : (s.modTxn id f).otp = s.otp := (rfl)
@[simp] theorem State.modTxn_otpMem (id : Nat) (f : Txn → Txn) : (s.modTxn id f).otpMem = s.otpMem := (rfl)
@[simp] theorem State.modTxn_link (id : Nat) (f : Txn → Txn) : (s.modTxn id f).link = s.link := (rfl)
@[simp] theorem State.modTxn_acc (id : Nat) (f : Txn → Txn) : (s.modTxn id f).acc = s.acc := (rfl)
@[simp] theorem State.modTxn_uhf (id : Nat) (f : Txn → Txn) : (s.modTxn id f).uhf = s.uhf := (rfl)
@[simp] theorem State.modTxn_keys (id : Nat) (f : Txn → Txn) : (s.modTxn id f).keys = s.keys := (rfl)
@[simp] theorem State.modTxn_cph (id : Nat) (f : Txn → Txn) : (s.modTxn id f).cph = s.cph := (rfl)
@[simp] theorem State.modTxn_rng (id : Nat) (f : Txn → Txn) : (s.modTxn id f).rng = s.rng := (rfl)
@[simp] theorem State.modTxn_ring (id : Nat) (f : Txn → Txn) : (s.modTxn id f).ring = s.ring := (rfl)
@[simp] theorem State.modTxn_beam (id : Nat) (f : Txn → Txn) : (s.modTxn id f).beam = s.beam := (rfl)
@[simp] theorem State.modTxn_tmr (id : Nat) (f : Txn → Txn) : (s.modTxn id f).tmr = s.tmr := (rfl)
@[simp] theorem State.modTxn_crc (id : Nat) (f : Txn → Txn) : (s.modTxn id f).crc = s.crc := (rfl)
@[simp] theorem State.modTxn_spi (id : Nat) (f : Txn → Txn) : (s.modTxn id f).spi = s.spi := (rfl)
@[simp] theorem State.modTxn_serial (id : Nat) (f : Txn → Txn) : (s.modTxn id f).serial = s.serial := (rfl)
@[simp] theorem State.modTxn_gpio (id : Nat) (f : Txn → Txn) : (s.modTxn id f).gpio = s.gpio := (rfl)
@[simp] theorem State.modTxn_test (id : Nat) (f : Txn → Txn) : (s.modTxn id f).test = s.test := (rfl)

/-! ### run -/
@[simp] theorem State.run_pending (id : Nat) : (s.run id).pending = s.pending := (rfl)
@[simp] theorem State.run_out (id : Nat) : (s.run id).out = s.out := (rfl)
@[simp] theorem State.run_regs (id : Nat) : (s.run id).regs = s.regs := (rfl)
@[simp] theorem State.run_boardMem (id : Nat) : (s.run id).boardMem = s.boardMem := (rfl)
@[simp] theorem State.run_planMem (id : Nat) : (s.run id).planMem = s.planMem := (rfl)
@[simp] theorem State.run_sys (id : Nat) : (s.run id).sys = s.sys := (rfl)
@[simp] theorem State.run_host (id : Nat) : (s.run id).host = s.host := (rfl)
@[simp] theorem State.run_rods (id : Nat) : (s.run id).rods = s.rods := (rfl)
@[simp] theorem State.run_field (id : Nat) : (s.run id).field = s.field := (rfl)
@[simp] theorem State.run_round (id : Nat) : (s.run id).round = s.round := (rfl)
@[simp] theorem State.run_tally (id : Nat) : (s.run id).tally = s.tally := (rfl)
@[simp] theorem State.run_fifos (id : Nat) : (s.run id).fifos = s.fifos := (rfl)
@[simp] theorem State.run_board (id : Nat) : (s.run id).board = s.board := (rfl)
@[simp] theorem State.run_ingress (id : Nat) : (s.run id).ingress = s.ingress := (rfl)
@[simp] theorem State.run_pwr (id : Nat) : (s.run id).pwr = s.pwr := (rfl)
@[simp] theorem State.run_otp (id : Nat) : (s.run id).otp = s.otp := (rfl)
@[simp] theorem State.run_otpMem (id : Nat) : (s.run id).otpMem = s.otpMem := (rfl)
@[simp] theorem State.run_link (id : Nat) : (s.run id).link = s.link := (rfl)
@[simp] theorem State.run_acc (id : Nat) : (s.run id).acc = s.acc := (rfl)
@[simp] theorem State.run_uhf (id : Nat) : (s.run id).uhf = s.uhf := (rfl)
@[simp] theorem State.run_keys (id : Nat) : (s.run id).keys = s.keys := (rfl)
@[simp] theorem State.run_cph (id : Nat) : (s.run id).cph = s.cph := (rfl)
@[simp] theorem State.run_rng (id : Nat) : (s.run id).rng = s.rng := (rfl)
@[simp] theorem State.run_ring (id : Nat) : (s.run id).ring = s.ring := (rfl)
@[simp] theorem State.run_beam (id : Nat) : (s.run id).beam = s.beam := (rfl)
@[simp] theorem State.run_tmr (id : Nat) : (s.run id).tmr = s.tmr := (rfl)
@[simp] theorem State.run_crc (id : Nat) : (s.run id).crc = s.crc := (rfl)
@[simp] theorem State.run_spi (id : Nat) : (s.run id).spi = s.spi := (rfl)
@[simp] theorem State.run_serial (id : Nat) : (s.run id).serial = s.serial := (rfl)
@[simp] theorem State.run_gpio (id : Nat) : (s.run id).gpio = s.gpio := (rfl)
@[simp] theorem State.run_test (id : Nat) : (s.run id).test = s.test := (rfl)

/-! ### dropTxn -/
@[simp] theorem State.dropTxn_pending (id : Nat) : (s.dropTxn id).pending = s.pending := (rfl)
@[simp] theorem State.dropTxn_out (id : Nat) : (s.dropTxn id).out = s.out := (rfl)
@[simp] theorem State.dropTxn_regs (id : Nat) : (s.dropTxn id).regs = s.regs := (rfl)
@[simp] theorem State.dropTxn_boardMem (id : Nat) : (s.dropTxn id).boardMem = s.boardMem := (rfl)
@[simp] theorem State.dropTxn_planMem (id : Nat) : (s.dropTxn id).planMem = s.planMem := (rfl)
@[simp] theorem State.dropTxn_sys (id : Nat) : (s.dropTxn id).sys = s.sys := (rfl)
@[simp] theorem State.dropTxn_host (id : Nat) : (s.dropTxn id).host = s.host := (rfl)
@[simp] theorem State.dropTxn_rods (id : Nat) : (s.dropTxn id).rods = s.rods := (rfl)
@[simp] theorem State.dropTxn_field (id : Nat) : (s.dropTxn id).field = s.field := (rfl)
@[simp] theorem State.dropTxn_round (id : Nat) : (s.dropTxn id).round = s.round := (rfl)
@[simp] theorem State.dropTxn_tally (id : Nat) : (s.dropTxn id).tally = s.tally := (rfl)
@[simp] theorem State.dropTxn_fifos (id : Nat) : (s.dropTxn id).fifos = s.fifos := (rfl)
@[simp] theorem State.dropTxn_board (id : Nat) : (s.dropTxn id).board = s.board := (rfl)
@[simp] theorem State.dropTxn_ingress (id : Nat) : (s.dropTxn id).ingress = s.ingress := (rfl)
@[simp] theorem State.dropTxn_pwr (id : Nat) : (s.dropTxn id).pwr = s.pwr := (rfl)
@[simp] theorem State.dropTxn_otp (id : Nat) : (s.dropTxn id).otp = s.otp := (rfl)
@[simp] theorem State.dropTxn_otpMem (id : Nat) : (s.dropTxn id).otpMem = s.otpMem := (rfl)
@[simp] theorem State.dropTxn_link (id : Nat) : (s.dropTxn id).link = s.link := (rfl)
@[simp] theorem State.dropTxn_acc (id : Nat) : (s.dropTxn id).acc = s.acc := (rfl)
@[simp] theorem State.dropTxn_uhf (id : Nat) : (s.dropTxn id).uhf = s.uhf := (rfl)
@[simp] theorem State.dropTxn_keys (id : Nat) : (s.dropTxn id).keys = s.keys := (rfl)
@[simp] theorem State.dropTxn_cph (id : Nat) : (s.dropTxn id).cph = s.cph := (rfl)
@[simp] theorem State.dropTxn_rng (id : Nat) : (s.dropTxn id).rng = s.rng := (rfl)
@[simp] theorem State.dropTxn_ring (id : Nat) : (s.dropTxn id).ring = s.ring := (rfl)
@[simp] theorem State.dropTxn_beam (id : Nat) : (s.dropTxn id).beam = s.beam := (rfl)
@[simp] theorem State.dropTxn_tmr (id : Nat) : (s.dropTxn id).tmr = s.tmr := (rfl)
@[simp] theorem State.dropTxn_crc (id : Nat) : (s.dropTxn id).crc = s.crc := (rfl)
@[simp] theorem State.dropTxn_spi (id : Nat) : (s.dropTxn id).spi = s.spi := (rfl)
@[simp] theorem State.dropTxn_serial (id : Nat) : (s.dropTxn id).serial = s.serial := (rfl)
@[simp] theorem State.dropTxn_gpio (id : Nat) : (s.dropTxn id).gpio = s.gpio := (rfl)
@[simp] theorem State.dropTxn_test (id : Nat) : (s.dropTxn id).test = s.test := (rfl)

/-! ### modRod -/
@[simp] theorem State.modRod_pending (n : Fin 24) (f : Rod → Rod) : (s.modRod n f).pending = s.pending := (rfl)
@[simp] theorem State.modRod_out (n : Fin 24) (f : Rod → Rod) : (s.modRod n f).out = s.out := (rfl)
@[simp] theorem State.modRod_regs (n : Fin 24) (f : Rod → Rod) : (s.modRod n f).regs = s.regs := (rfl)
@[simp] theorem State.modRod_boardMem (n : Fin 24) (f : Rod → Rod) : (s.modRod n f).boardMem = s.boardMem := (rfl)
@[simp] theorem State.modRod_planMem (n : Fin 24) (f : Rod → Rod) : (s.modRod n f).planMem = s.planMem := (rfl)
@[simp] theorem State.modRod_sys (n : Fin 24) (f : Rod → Rod) : (s.modRod n f).sys = s.sys := (rfl)
@[simp] theorem State.modRod_host (n : Fin 24) (f : Rod → Rod) : (s.modRod n f).host = s.host := (rfl)
@[simp] theorem State.modRod_txns (n : Fin 24) (f : Rod → Rod) : (s.modRod n f).txns = s.txns := (rfl)
@[simp] theorem State.modRod_rods (n : Fin 24) (f : Rod → Rod) : (s.modRod n f).rods = vmod s.rods n f := (rfl)
@[simp] theorem State.modRod_field (n : Fin 24) (f : Rod → Rod) : (s.modRod n f).field = s.field := (rfl)
@[simp] theorem State.modRod_round (n : Fin 24) (f : Rod → Rod) : (s.modRod n f).round = s.round := (rfl)
@[simp] theorem State.modRod_tally (n : Fin 24) (f : Rod → Rod) : (s.modRod n f).tally = s.tally := (rfl)
@[simp] theorem State.modRod_fifos (n : Fin 24) (f : Rod → Rod) : (s.modRod n f).fifos = s.fifos := (rfl)
@[simp] theorem State.modRod_board (n : Fin 24) (f : Rod → Rod) : (s.modRod n f).board = s.board := (rfl)
@[simp] theorem State.modRod_ingress (n : Fin 24) (f : Rod → Rod) : (s.modRod n f).ingress = s.ingress := (rfl)
@[simp] theorem State.modRod_pwr (n : Fin 24) (f : Rod → Rod) : (s.modRod n f).pwr = s.pwr := (rfl)
@[simp] theorem State.modRod_otp (n : Fin 24) (f : Rod → Rod) : (s.modRod n f).otp = s.otp := (rfl)
@[simp] theorem State.modRod_otpMem (n : Fin 24) (f : Rod → Rod) : (s.modRod n f).otpMem = s.otpMem := (rfl)
@[simp] theorem State.modRod_link (n : Fin 24) (f : Rod → Rod) : (s.modRod n f).link = s.link := (rfl)
@[simp] theorem State.modRod_acc (n : Fin 24) (f : Rod → Rod) : (s.modRod n f).acc = s.acc := (rfl)
@[simp] theorem State.modRod_uhf (n : Fin 24) (f : Rod → Rod) : (s.modRod n f).uhf = s.uhf := (rfl)
@[simp] theorem State.modRod_keys (n : Fin 24) (f : Rod → Rod) : (s.modRod n f).keys = s.keys := (rfl)
@[simp] theorem State.modRod_cph (n : Fin 24) (f : Rod → Rod) : (s.modRod n f).cph = s.cph := (rfl)
@[simp] theorem State.modRod_rng (n : Fin 24) (f : Rod → Rod) : (s.modRod n f).rng = s.rng := (rfl)
@[simp] theorem State.modRod_ring (n : Fin 24) (f : Rod → Rod) : (s.modRod n f).ring = s.ring := (rfl)
@[simp] theorem State.modRod_beam (n : Fin 24) (f : Rod → Rod) : (s.modRod n f).beam = s.beam := (rfl)
@[simp] theorem State.modRod_tmr (n : Fin 24) (f : Rod → Rod) : (s.modRod n f).tmr = s.tmr := (rfl)
@[simp] theorem State.modRod_crc (n : Fin 24) (f : Rod → Rod) : (s.modRod n f).crc = s.crc := (rfl)
@[simp] theorem State.modRod_spi (n : Fin 24) (f : Rod → Rod) : (s.modRod n f).spi = s.spi := (rfl)
@[simp] theorem State.modRod_serial (n : Fin 24) (f : Rod → Rod) : (s.modRod n f).serial = s.serial := (rfl)
@[simp] theorem State.modRod_gpio (n : Fin 24) (f : Rod → Rod) : (s.modRod n f).gpio = s.gpio := (rfl)
@[simp] theorem State.modRod_test (n : Fin 24) (f : Rod → Rod) : (s.modRod n f).test = s.test := (rfl)

/-! ### modFifo -/
@[simp] theorem State.modFifo_pending (q : Fin 25) (f : Fifo → Fifo) : (s.modFifo q f).pending = s.pending := (rfl)
@[simp] theorem State.modFifo_out (q : Fin 25) (f : Fifo → Fifo) : (s.modFifo q f).out = s.out := (rfl)
@[simp] theorem State.modFifo_regs (q : Fin 25) (f : Fifo → Fifo) : (s.modFifo q f).regs = s.regs := (rfl)
@[simp] theorem State.modFifo_boardMem (q : Fin 25) (f : Fifo → Fifo) : (s.modFifo q f).boardMem = s.boardMem := (rfl)
@[simp] theorem State.modFifo_planMem (q : Fin 25) (f : Fifo → Fifo) : (s.modFifo q f).planMem = s.planMem := (rfl)
@[simp] theorem State.modFifo_sys (q : Fin 25) (f : Fifo → Fifo) : (s.modFifo q f).sys = s.sys := (rfl)
@[simp] theorem State.modFifo_host (q : Fin 25) (f : Fifo → Fifo) : (s.modFifo q f).host = s.host := (rfl)
@[simp] theorem State.modFifo_txns (q : Fin 25) (f : Fifo → Fifo) : (s.modFifo q f).txns = s.txns := (rfl)
@[simp] theorem State.modFifo_rods (q : Fin 25) (f : Fifo → Fifo) : (s.modFifo q f).rods = s.rods := (rfl)
@[simp] theorem State.modFifo_field (q : Fin 25) (f : Fifo → Fifo) : (s.modFifo q f).field = s.field := (rfl)
@[simp] theorem State.modFifo_round (q : Fin 25) (f : Fifo → Fifo) : (s.modFifo q f).round = s.round := (rfl)
@[simp] theorem State.modFifo_tally (q : Fin 25) (f : Fifo → Fifo) : (s.modFifo q f).tally = s.tally := (rfl)
@[simp] theorem State.modFifo_fifos (q : Fin 25) (f : Fifo → Fifo) : (s.modFifo q f).fifos = vmod s.fifos q f := (rfl)
@[simp] theorem State.modFifo_board (q : Fin 25) (f : Fifo → Fifo) : (s.modFifo q f).board = s.board := (rfl)
@[simp] theorem State.modFifo_ingress (q : Fin 25) (f : Fifo → Fifo) : (s.modFifo q f).ingress = s.ingress := (rfl)
@[simp] theorem State.modFifo_pwr (q : Fin 25) (f : Fifo → Fifo) : (s.modFifo q f).pwr = s.pwr := (rfl)
@[simp] theorem State.modFifo_otp (q : Fin 25) (f : Fifo → Fifo) : (s.modFifo q f).otp = s.otp := (rfl)
@[simp] theorem State.modFifo_otpMem (q : Fin 25) (f : Fifo → Fifo) : (s.modFifo q f).otpMem = s.otpMem := (rfl)
@[simp] theorem State.modFifo_link (q : Fin 25) (f : Fifo → Fifo) : (s.modFifo q f).link = s.link := (rfl)
@[simp] theorem State.modFifo_acc (q : Fin 25) (f : Fifo → Fifo) : (s.modFifo q f).acc = s.acc := (rfl)
@[simp] theorem State.modFifo_uhf (q : Fin 25) (f : Fifo → Fifo) : (s.modFifo q f).uhf = s.uhf := (rfl)
@[simp] theorem State.modFifo_keys (q : Fin 25) (f : Fifo → Fifo) : (s.modFifo q f).keys = s.keys := (rfl)
@[simp] theorem State.modFifo_cph (q : Fin 25) (f : Fifo → Fifo) : (s.modFifo q f).cph = s.cph := (rfl)
@[simp] theorem State.modFifo_rng (q : Fin 25) (f : Fifo → Fifo) : (s.modFifo q f).rng = s.rng := (rfl)
@[simp] theorem State.modFifo_ring (q : Fin 25) (f : Fifo → Fifo) : (s.modFifo q f).ring = s.ring := (rfl)
@[simp] theorem State.modFifo_beam (q : Fin 25) (f : Fifo → Fifo) : (s.modFifo q f).beam = s.beam := (rfl)
@[simp] theorem State.modFifo_tmr (q : Fin 25) (f : Fifo → Fifo) : (s.modFifo q f).tmr = s.tmr := (rfl)
@[simp] theorem State.modFifo_crc (q : Fin 25) (f : Fifo → Fifo) : (s.modFifo q f).crc = s.crc := (rfl)
@[simp] theorem State.modFifo_spi (q : Fin 25) (f : Fifo → Fifo) : (s.modFifo q f).spi = s.spi := (rfl)
@[simp] theorem State.modFifo_serial (q : Fin 25) (f : Fifo → Fifo) : (s.modFifo q f).serial = s.serial := (rfl)
@[simp] theorem State.modFifo_gpio (q : Fin 25) (f : Fifo → Fifo) : (s.modFifo q f).gpio = s.gpio := (rfl)
@[simp] theorem State.modFifo_test (q : Fin 25) (f : Fifo → Fifo) : (s.modFifo q f).test = s.test := (rfl)

/-! ### modPwr -/
@[simp] theorem State.modPwr_pending (f : PwrPart → PwrPart) : (s.modPwr f).pending = s.pending := (rfl)
@[simp] theorem State.modPwr_out (f : PwrPart → PwrPart) : (s.modPwr f).out = s.out := (rfl)
@[simp] theorem State.modPwr_regs (f : PwrPart → PwrPart) : (s.modPwr f).regs = s.regs := (rfl)
@[simp] theorem State.modPwr_boardMem (f : PwrPart → PwrPart) : (s.modPwr f).boardMem = s.boardMem := (rfl)
@[simp] theorem State.modPwr_planMem (f : PwrPart → PwrPart) : (s.modPwr f).planMem = s.planMem := (rfl)
@[simp] theorem State.modPwr_sys (f : PwrPart → PwrPart) : (s.modPwr f).sys = s.sys := (rfl)
@[simp] theorem State.modPwr_host (f : PwrPart → PwrPart) : (s.modPwr f).host = s.host := (rfl)
@[simp] theorem State.modPwr_txns (f : PwrPart → PwrPart) : (s.modPwr f).txns = s.txns := (rfl)
@[simp] theorem State.modPwr_rods (f : PwrPart → PwrPart) : (s.modPwr f).rods = s.rods := (rfl)
@[simp] theorem State.modPwr_field (f : PwrPart → PwrPart) : (s.modPwr f).field = s.field := (rfl)
@[simp] theorem State.modPwr_round (f : PwrPart → PwrPart) : (s.modPwr f).round = s.round := (rfl)
@[simp] theorem State.modPwr_tally (f : PwrPart → PwrPart) : (s.modPwr f).tally = s.tally := (rfl)
@[simp] theorem State.modPwr_fifos (f : PwrPart → PwrPart) : (s.modPwr f).fifos = s.fifos := (rfl)
@[simp] theorem State.modPwr_board (f : PwrPart → PwrPart) : (s.modPwr f).board = s.board := (rfl)
@[simp] theorem State.modPwr_ingress (f : PwrPart → PwrPart) : (s.modPwr f).ingress = s.ingress := (rfl)
@[simp] theorem State.modPwr_pwr (f : PwrPart → PwrPart) : (s.modPwr f).pwr = f s.pwr := (rfl)
@[simp] theorem State.modPwr_otp (f : PwrPart → PwrPart) : (s.modPwr f).otp = s.otp := (rfl)
@[simp] theorem State.modPwr_otpMem (f : PwrPart → PwrPart) : (s.modPwr f).otpMem = s.otpMem := (rfl)
@[simp] theorem State.modPwr_link (f : PwrPart → PwrPart) : (s.modPwr f).link = s.link := (rfl)
@[simp] theorem State.modPwr_acc (f : PwrPart → PwrPart) : (s.modPwr f).acc = s.acc := (rfl)
@[simp] theorem State.modPwr_uhf (f : PwrPart → PwrPart) : (s.modPwr f).uhf = s.uhf := (rfl)
@[simp] theorem State.modPwr_keys (f : PwrPart → PwrPart) : (s.modPwr f).keys = s.keys := (rfl)
@[simp] theorem State.modPwr_cph (f : PwrPart → PwrPart) : (s.modPwr f).cph = s.cph := (rfl)
@[simp] theorem State.modPwr_rng (f : PwrPart → PwrPart) : (s.modPwr f).rng = s.rng := (rfl)
@[simp] theorem State.modPwr_ring (f : PwrPart → PwrPart) : (s.modPwr f).ring = s.ring := (rfl)
@[simp] theorem State.modPwr_beam (f : PwrPart → PwrPart) : (s.modPwr f).beam = s.beam := (rfl)
@[simp] theorem State.modPwr_tmr (f : PwrPart → PwrPart) : (s.modPwr f).tmr = s.tmr := (rfl)
@[simp] theorem State.modPwr_crc (f : PwrPart → PwrPart) : (s.modPwr f).crc = s.crc := (rfl)
@[simp] theorem State.modPwr_spi (f : PwrPart → PwrPart) : (s.modPwr f).spi = s.spi := (rfl)
@[simp] theorem State.modPwr_serial (f : PwrPart → PwrPart) : (s.modPwr f).serial = s.serial := (rfl)
@[simp] theorem State.modPwr_gpio (f : PwrPart → PwrPart) : (s.modPwr f).gpio = s.gpio := (rfl)
@[simp] theorem State.modPwr_test (f : PwrPart → PwrPart) : (s.modPwr f).test = s.test := (rfl)

/-! ### setPst -/
@[simp] theorem State.setPst_pending (d : Domain) (p : PState) : (s.setPst d p).pending = s.pending := (rfl)
@[simp] theorem State.setPst_out (d : Domain) (p : PState) : (s.setPst d p).out = s.out := (rfl)
@[simp] theorem State.setPst_regs (d : Domain) (p : PState) : (s.setPst d p).regs = s.regs := (rfl)
@[simp] theorem State.setPst_boardMem (d : Domain) (p : PState) : (s.setPst d p).boardMem = s.boardMem := (rfl)
@[simp] theorem State.setPst_planMem (d : Domain) (p : PState) : (s.setPst d p).planMem = s.planMem := (rfl)
@[simp] theorem State.setPst_sys (d : Domain) (p : PState) : (s.setPst d p).sys = s.sys := (rfl)
@[simp] theorem State.setPst_host (d : Domain) (p : PState) : (s.setPst d p).host = s.host := (rfl)
@[simp] theorem State.setPst_txns (d : Domain) (p : PState) : (s.setPst d p).txns = s.txns := (rfl)
@[simp] theorem State.setPst_rods (d : Domain) (p : PState) : (s.setPst d p).rods = s.rods := (rfl)
@[simp] theorem State.setPst_field (d : Domain) (p : PState) : (s.setPst d p).field = s.field := (rfl)
@[simp] theorem State.setPst_round (d : Domain) (p : PState) : (s.setPst d p).round = s.round := (rfl)
@[simp] theorem State.setPst_tally (d : Domain) (p : PState) : (s.setPst d p).tally = s.tally := (rfl)
@[simp] theorem State.setPst_fifos (d : Domain) (p : PState) : (s.setPst d p).fifos = s.fifos := (rfl)
@[simp] theorem State.setPst_board (d : Domain) (p : PState) : (s.setPst d p).board = s.board := (rfl)
@[simp] theorem State.setPst_ingress (d : Domain) (p : PState) : (s.setPst d p).ingress = s.ingress := (rfl)
@[simp] theorem State.setPst_otp (d : Domain) (p : PState) : (s.setPst d p).otp = s.otp := (rfl)
@[simp] theorem State.setPst_otpMem (d : Domain) (p : PState) : (s.setPst d p).otpMem = s.otpMem := (rfl)
@[simp] theorem State.setPst_link (d : Domain) (p : PState) : (s.setPst d p).link = s.link := (rfl)
@[simp] theorem State.setPst_acc (d : Domain) (p : PState) : (s.setPst d p).acc = s.acc := (rfl)
@[simp] theorem State.setPst_uhf (d : Domain) (p : PState) : (s.setPst d p).uhf = s.uhf := (rfl)
@[simp] theorem State.setPst_keys (d : Domain) (p : PState) : (s.setPst d p).keys = s.keys := (rfl)
@[simp] theorem State.setPst_cph (d : Domain) (p : PState) : (s.setPst d p).cph = s.cph := (rfl)
@[simp] theorem State.setPst_rng (d : Domain) (p : PState) : (s.setPst d p).rng = s.rng := (rfl)
@[simp] theorem State.setPst_ring (d : Domain) (p : PState) : (s.setPst d p).ring = s.ring := (rfl)
@[simp] theorem State.setPst_beam (d : Domain) (p : PState) : (s.setPst d p).beam = s.beam := (rfl)
@[simp] theorem State.setPst_tmr (d : Domain) (p : PState) : (s.setPst d p).tmr = s.tmr := (rfl)
@[simp] theorem State.setPst_crc (d : Domain) (p : PState) : (s.setPst d p).crc = s.crc := (rfl)
@[simp] theorem State.setPst_spi (d : Domain) (p : PState) : (s.setPst d p).spi = s.spi := (rfl)
@[simp] theorem State.setPst_serial (d : Domain) (p : PState) : (s.setPst d p).serial = s.serial := (rfl)
@[simp] theorem State.setPst_gpio (d : Domain) (p : PState) : (s.setPst d p).gpio = s.gpio := (rfl)
@[simp] theorem State.setPst_test (d : Domain) (p : PState) : (s.setPst d p).test = s.test := (rfl)

/-! ### setPwrRun -/
@[simp] theorem State.setPwrRun_pending (r : Option PwrRun) : (s.setPwrRun r).pending = s.pending := (rfl)
@[simp] theorem State.setPwrRun_out (r : Option PwrRun) : (s.setPwrRun r).out = s.out := (rfl)
@[simp] theorem State.setPwrRun_regs (r : Option PwrRun) : (s.setPwrRun r).regs = s.regs := (rfl)
@[simp] theorem State.setPwrRun_boardMem (r : Option PwrRun) : (s.setPwrRun r).boardMem = s.boardMem := (rfl)
@[simp] theorem State.setPwrRun_planMem (r : Option PwrRun) : (s.setPwrRun r).planMem = s.planMem := (rfl)
@[simp] theorem State.setPwrRun_sys (r : Option PwrRun) : (s.setPwrRun r).sys = s.sys := (rfl)
@[simp] theorem State.setPwrRun_host (r : Option PwrRun) : (s.setPwrRun r).host = s.host := (rfl)
@[simp] theorem State.setPwrRun_txns (r : Option PwrRun) : (s.setPwrRun r).txns = s.txns := (rfl)
@[simp] theorem State.setPwrRun_rods (r : Option PwrRun) : (s.setPwrRun r).rods = s.rods := (rfl)
@[simp] theorem State.setPwrRun_field (r : Option PwrRun) : (s.setPwrRun r).field = s.field := (rfl)
@[simp] theorem State.setPwrRun_round (r : Option PwrRun) : (s.setPwrRun r).round = s.round := (rfl)
@[simp] theorem State.setPwrRun_tally (r : Option PwrRun) : (s.setPwrRun r).tally = s.tally := (rfl)
@[simp] theorem State.setPwrRun_fifos (r : Option PwrRun) : (s.setPwrRun r).fifos = s.fifos := (rfl)
@[simp] theorem State.setPwrRun_board (r : Option PwrRun) : (s.setPwrRun r).board = s.board := (rfl)
@[simp] theorem State.setPwrRun_ingress (r : Option PwrRun) : (s.setPwrRun r).ingress = s.ingress := (rfl)
@[simp] theorem State.setPwrRun_pwr (r : Option PwrRun) : (s.setPwrRun r).pwr = { s.pwr with run := r } := (rfl)
@[simp] theorem State.setPwrRun_otp (r : Option PwrRun) : (s.setPwrRun r).otp = s.otp := (rfl)
@[simp] theorem State.setPwrRun_otpMem (r : Option PwrRun) : (s.setPwrRun r).otpMem = s.otpMem := (rfl)
@[simp] theorem State.setPwrRun_link (r : Option PwrRun) : (s.setPwrRun r).link = s.link := (rfl)
@[simp] theorem State.setPwrRun_acc (r : Option PwrRun) : (s.setPwrRun r).acc = s.acc := (rfl)
@[simp] theorem State.setPwrRun_uhf (r : Option PwrRun) : (s.setPwrRun r).uhf = s.uhf := (rfl)
@[simp] theorem State.setPwrRun_keys (r : Option PwrRun) : (s.setPwrRun r).keys = s.keys := (rfl)
@[simp] theorem State.setPwrRun_cph (r : Option PwrRun) : (s.setPwrRun r).cph = s.cph := (rfl)
@[simp] theorem State.setPwrRun_rng (r : Option PwrRun) : (s.setPwrRun r).rng = s.rng := (rfl)
@[simp] theorem State.setPwrRun_ring (r : Option PwrRun) : (s.setPwrRun r).ring = s.ring := (rfl)
@[simp] theorem State.setPwrRun_beam (r : Option PwrRun) : (s.setPwrRun r).beam = s.beam := (rfl)
@[simp] theorem State.setPwrRun_tmr (r : Option PwrRun) : (s.setPwrRun r).tmr = s.tmr := (rfl)
@[simp] theorem State.setPwrRun_crc (r : Option PwrRun) : (s.setPwrRun r).crc = s.crc := (rfl)
@[simp] theorem State.setPwrRun_spi (r : Option PwrRun) : (s.setPwrRun r).spi = s.spi := (rfl)
@[simp] theorem State.setPwrRun_serial (r : Option PwrRun) : (s.setPwrRun r).serial = s.serial := (rfl)
@[simp] theorem State.setPwrRun_gpio (r : Option PwrRun) : (s.setPwrRun r).gpio = s.gpio := (rfl)
@[simp] theorem State.setPwrRun_test (r : Option PwrRun) : (s.setPwrRun r).test = s.test := (rfl)

/-! ### modAcc -/
@[simp] theorem State.modAcc_pending (f : AccPart → AccPart) : (s.modAcc f).pending = s.pending := (rfl)
@[simp] theorem State.modAcc_out (f : AccPart → AccPart) : (s.modAcc f).out = s.out := (rfl)
@[simp] theorem State.modAcc_regs (f : AccPart → AccPart) : (s.modAcc f).regs = s.regs := (rfl)
@[simp] theorem State.modAcc_boardMem (f : AccPart → AccPart) : (s.modAcc f).boardMem = s.boardMem := (rfl)
@[simp] theorem State.modAcc_planMem (f : AccPart → AccPart) : (s.modAcc f).planMem = s.planMem := (rfl)
@[simp] theorem State.modAcc_sys (f : AccPart → AccPart) : (s.modAcc f).sys = s.sys := (rfl)
@[simp] theorem State.modAcc_host (f : AccPart → AccPart) : (s.modAcc f).host = s.host := (rfl)
@[simp] theorem State.modAcc_txns (f : AccPart → AccPart) : (s.modAcc f).txns = s.txns := (rfl)
@[simp] theorem State.modAcc_rods (f : AccPart → AccPart) : (s.modAcc f).rods = s.rods := (rfl)
@[simp] theorem State.modAcc_field (f : AccPart → AccPart) : (s.modAcc f).field = s.field := (rfl)
@[simp] theorem State.modAcc_round (f : AccPart → AccPart) : (s.modAcc f).round = s.round := (rfl)
@[simp] theorem State.modAcc_tally (f : AccPart → AccPart) : (s.modAcc f).tally = s.tally := (rfl)
@[simp] theorem State.modAcc_fifos (f : AccPart → AccPart) : (s.modAcc f).fifos = s.fifos := (rfl)
@[simp] theorem State.modAcc_board (f : AccPart → AccPart) : (s.modAcc f).board = s.board := (rfl)
@[simp] theorem State.modAcc_ingress (f : AccPart → AccPart) : (s.modAcc f).ingress = s.ingress := (rfl)
@[simp] theorem State.modAcc_pwr (f : AccPart → AccPart) : (s.modAcc f).pwr = s.pwr := (rfl)
@[simp] theorem State.modAcc_otp (f : AccPart → AccPart) : (s.modAcc f).otp = s.otp := (rfl)
@[simp] theorem State.modAcc_otpMem (f : AccPart → AccPart) : (s.modAcc f).otpMem = s.otpMem := (rfl)
@[simp] theorem State.modAcc_link (f : AccPart → AccPart) : (s.modAcc f).link = s.link := (rfl)
@[simp] theorem State.modAcc_acc (f : AccPart → AccPart) : (s.modAcc f).acc = f s.acc := (rfl)
@[simp] theorem State.modAcc_uhf (f : AccPart → AccPart) : (s.modAcc f).uhf = s.uhf := (rfl)
@[simp] theorem State.modAcc_keys (f : AccPart → AccPart) : (s.modAcc f).keys = s.keys := (rfl)
@[simp] theorem State.modAcc_cph (f : AccPart → AccPart) : (s.modAcc f).cph = s.cph := (rfl)
@[simp] theorem State.modAcc_rng (f : AccPart → AccPart) : (s.modAcc f).rng = s.rng := (rfl)
@[simp] theorem State.modAcc_ring (f : AccPart → AccPart) : (s.modAcc f).ring = s.ring := (rfl)
@[simp] theorem State.modAcc_beam (f : AccPart → AccPart) : (s.modAcc f).beam = s.beam := (rfl)
@[simp] theorem State.modAcc_tmr (f : AccPart → AccPart) : (s.modAcc f).tmr = s.tmr := (rfl)
@[simp] theorem State.modAcc_crc (f : AccPart → AccPart) : (s.modAcc f).crc = s.crc := (rfl)
@[simp] theorem State.modAcc_spi (f : AccPart → AccPart) : (s.modAcc f).spi = s.spi := (rfl)
@[simp] theorem State.modAcc_serial (f : AccPart → AccPart) : (s.modAcc f).serial = s.serial := (rfl)
@[simp] theorem State.modAcc_gpio (f : AccPart → AccPart) : (s.modAcc f).gpio = s.gpio := (rfl)
@[simp] theorem State.modAcc_test (f : AccPart → AccPart) : (s.modAcc f).test = s.test := (rfl)

/-! ### setRun -/
@[simp] theorem State.setRun_pending (r : AccRun) : (s.setRun r).pending = s.pending := (rfl)
@[simp] theorem State.setRun_out (r : AccRun) : (s.setRun r).out = s.out := (rfl)
@[simp] theorem State.setRun_regs (r : AccRun) : (s.setRun r).regs = s.regs := (rfl)
@[simp] theorem State.setRun_boardMem (r : AccRun) : (s.setRun r).boardMem = s.boardMem := (rfl)
@[simp] theorem State.setRun_planMem (r : AccRun) : (s.setRun r).planMem = s.planMem := (rfl)
@[simp] theorem State.setRun_sys (r : AccRun) : (s.setRun r).sys = s.sys := (rfl)
@[simp] theorem State.setRun_host (r : AccRun) : (s.setRun r).host = s.host := (rfl)
@[simp] theorem State.setRun_txns (r : AccRun) : (s.setRun r).txns = s.txns := (rfl)
@[simp] theorem State.setRun_rods (r : AccRun) : (s.setRun r).rods = s.rods := (rfl)
@[simp] theorem State.setRun_field (r : AccRun) : (s.setRun r).field = s.field := (rfl)
@[simp] theorem State.setRun_round (r : AccRun) : (s.setRun r).round = s.round := (rfl)
@[simp] theorem State.setRun_tally (r : AccRun) : (s.setRun r).tally = s.tally := (rfl)
@[simp] theorem State.setRun_fifos (r : AccRun) : (s.setRun r).fifos = s.fifos := (rfl)
@[simp] theorem State.setRun_board (r : AccRun) : (s.setRun r).board = s.board := (rfl)
@[simp] theorem State.setRun_ingress (r : AccRun) : (s.setRun r).ingress = s.ingress := (rfl)
@[simp] theorem State.setRun_pwr (r : AccRun) : (s.setRun r).pwr = s.pwr := (rfl)
@[simp] theorem State.setRun_otp (r : AccRun) : (s.setRun r).otp = s.otp := (rfl)
@[simp] theorem State.setRun_otpMem (r : AccRun) : (s.setRun r).otpMem = s.otpMem := (rfl)
@[simp] theorem State.setRun_link (r : AccRun) : (s.setRun r).link = s.link := (rfl)
@[simp] theorem State.setRun_acc (r : AccRun) : (s.setRun r).acc = { s.acc with run := some r } := (rfl)
@[simp] theorem State.setRun_uhf (r : AccRun) : (s.setRun r).uhf = s.uhf := (rfl)
@[simp] theorem State.setRun_keys (r : AccRun) : (s.setRun r).keys = s.keys := (rfl)
@[simp] theorem State.setRun_cph (r : AccRun) : (s.setRun r).cph = s.cph := (rfl)
@[simp] theorem State.setRun_rng (r : AccRun) : (s.setRun r).rng = s.rng := (rfl)
@[simp] theorem State.setRun_ring (r : AccRun) : (s.setRun r).ring = s.ring := (rfl)
@[simp] theorem State.setRun_beam (r : AccRun) : (s.setRun r).beam = s.beam := (rfl)
@[simp] theorem State.setRun_tmr (r : AccRun) : (s.setRun r).tmr = s.tmr := (rfl)
@[simp] theorem State.setRun_crc (r : AccRun) : (s.setRun r).crc = s.crc := (rfl)
@[simp] theorem State.setRun_spi (r : AccRun) : (s.setRun r).spi = s.spi := (rfl)
@[simp] theorem State.setRun_serial (r : AccRun) : (s.setRun r).serial = s.serial := (rfl)
@[simp] theorem State.setRun_gpio (r : AccRun) : (s.setRun r).gpio = s.gpio := (rfl)
@[simp] theorem State.setRun_test (r : AccRun) : (s.setRun r).test = s.test := (rfl)

/-! ### modBeam -/
@[simp] theorem State.modBeam_pending (f : BeamPart → BeamPart) : (s.modBeam f).pending = s.pending := (rfl)
@[simp] theorem State.modBeam_out (f : BeamPart → BeamPart) : (s.modBeam f).out = s.out := (rfl)
@[simp] theorem State.modBeam_regs (f : BeamPart → BeamPart) : (s.modBeam f).regs = s.regs := (rfl)
@[simp] theorem State.modBeam_boardMem (f : BeamPart → BeamPart) : (s.modBeam f).boardMem = s.boardMem := (rfl)
@[simp] theorem State.modBeam_planMem (f : BeamPart → BeamPart) : (s.modBeam f).planMem = s.planMem := (rfl)
@[simp] theorem State.modBeam_sys (f : BeamPart → BeamPart) : (s.modBeam f).sys = s.sys := (rfl)
@[simp] theorem State.modBeam_host (f : BeamPart → BeamPart) : (s.modBeam f).host = s.host := (rfl)
@[simp] theorem State.modBeam_txns (f : BeamPart → BeamPart) : (s.modBeam f).txns = s.txns := (rfl)
@[simp] theorem State.modBeam_rods (f : BeamPart → BeamPart) : (s.modBeam f).rods = s.rods := (rfl)
@[simp] theorem State.modBeam_field (f : BeamPart → BeamPart) : (s.modBeam f).field = s.field := (rfl)
@[simp] theorem State.modBeam_round (f : BeamPart → BeamPart) : (s.modBeam f).round = s.round := (rfl)
@[simp] theorem State.modBeam_tally (f : BeamPart → BeamPart) : (s.modBeam f).tally = s.tally := (rfl)
@[simp] theorem State.modBeam_fifos (f : BeamPart → BeamPart) : (s.modBeam f).fifos = s.fifos := (rfl)
@[simp] theorem State.modBeam_board (f : BeamPart → BeamPart) : (s.modBeam f).board = s.board := (rfl)
@[simp] theorem State.modBeam_ingress (f : BeamPart → BeamPart) : (s.modBeam f).ingress = s.ingress := (rfl)
@[simp] theorem State.modBeam_pwr (f : BeamPart → BeamPart) : (s.modBeam f).pwr = s.pwr := (rfl)
@[simp] theorem State.modBeam_otp (f : BeamPart → BeamPart) : (s.modBeam f).otp = s.otp := (rfl)
@[simp] theorem State.modBeam_otpMem (f : BeamPart → BeamPart) : (s.modBeam f).otpMem = s.otpMem := (rfl)
@[simp] theorem State.modBeam_link (f : BeamPart → BeamPart) : (s.modBeam f).link = s.link := (rfl)
@[simp] theorem State.modBeam_acc (f : BeamPart → BeamPart) : (s.modBeam f).acc = s.acc := (rfl)
@[simp] theorem State.modBeam_uhf (f : BeamPart → BeamPart) : (s.modBeam f).uhf = s.uhf := (rfl)
@[simp] theorem State.modBeam_keys (f : BeamPart → BeamPart) : (s.modBeam f).keys = s.keys := (rfl)
@[simp] theorem State.modBeam_cph (f : BeamPart → BeamPart) : (s.modBeam f).cph = s.cph := (rfl)
@[simp] theorem State.modBeam_rng (f : BeamPart → BeamPart) : (s.modBeam f).rng = s.rng := (rfl)
@[simp] theorem State.modBeam_ring (f : BeamPart → BeamPart) : (s.modBeam f).ring = s.ring := (rfl)
@[simp] theorem State.modBeam_beam (f : BeamPart → BeamPart) : (s.modBeam f).beam = f s.beam := (rfl)
@[simp] theorem State.modBeam_tmr (f : BeamPart → BeamPart) : (s.modBeam f).tmr = s.tmr := (rfl)
@[simp] theorem State.modBeam_crc (f : BeamPart → BeamPart) : (s.modBeam f).crc = s.crc := (rfl)
@[simp] theorem State.modBeam_spi (f : BeamPart → BeamPart) : (s.modBeam f).spi = s.spi := (rfl)
@[simp] theorem State.modBeam_serial (f : BeamPart → BeamPart) : (s.modBeam f).serial = s.serial := (rfl)
@[simp] theorem State.modBeam_gpio (f : BeamPart → BeamPart) : (s.modBeam f).gpio = s.gpio := (rfl)
@[simp] theorem State.modBeam_test (f : BeamPart → BeamPart) : (s.modBeam f).test = s.test := (rfl)

/-! ### modTile -/
@[simp] theorem State.modTile_pending (t : Fin 64) (f : Tile → Tile) : (s.modTile t f).pending = s.pending := (rfl)
@[simp] theorem State.modTile_out (t : Fin 64) (f : Tile → Tile) : (s.modTile t f).out = s.out := (rfl)
@[simp] theorem State.modTile_regs (t : Fin 64) (f : Tile → Tile) : (s.modTile t f).regs = s.regs := (rfl)
@[simp] theorem State.modTile_boardMem (t : Fin 64) (f : Tile → Tile) : (s.modTile t f).boardMem = s.boardMem := (rfl)
@[simp] theorem State.modTile_planMem (t : Fin 64) (f : Tile → Tile) : (s.modTile t f).planMem = s.planMem := (rfl)
@[simp] theorem State.modTile_sys (t : Fin 64) (f : Tile → Tile) : (s.modTile t f).sys = s.sys := (rfl)
@[simp] theorem State.modTile_host (t : Fin 64) (f : Tile → Tile) : (s.modTile t f).host = s.host := (rfl)
@[simp] theorem State.modTile_txns (t : Fin 64) (f : Tile → Tile) : (s.modTile t f).txns = s.txns := (rfl)
@[simp] theorem State.modTile_rods (t : Fin 64) (f : Tile → Tile) : (s.modTile t f).rods = s.rods := (rfl)
@[simp] theorem State.modTile_field (t : Fin 64) (f : Tile → Tile) : (s.modTile t f).field = s.field := (rfl)
@[simp] theorem State.modTile_round (t : Fin 64) (f : Tile → Tile) : (s.modTile t f).round = s.round := (rfl)
@[simp] theorem State.modTile_tally (t : Fin 64) (f : Tile → Tile) : (s.modTile t f).tally = s.tally := (rfl)
@[simp] theorem State.modTile_fifos (t : Fin 64) (f : Tile → Tile) : (s.modTile t f).fifos = s.fifos := (rfl)
@[simp] theorem State.modTile_ingress (t : Fin 64) (f : Tile → Tile) : (s.modTile t f).ingress = s.ingress := (rfl)
@[simp] theorem State.modTile_pwr (t : Fin 64) (f : Tile → Tile) : (s.modTile t f).pwr = s.pwr := (rfl)
@[simp] theorem State.modTile_otp (t : Fin 64) (f : Tile → Tile) : (s.modTile t f).otp = s.otp := (rfl)
@[simp] theorem State.modTile_otpMem (t : Fin 64) (f : Tile → Tile) : (s.modTile t f).otpMem = s.otpMem := (rfl)
@[simp] theorem State.modTile_link (t : Fin 64) (f : Tile → Tile) : (s.modTile t f).link = s.link := (rfl)
@[simp] theorem State.modTile_acc (t : Fin 64) (f : Tile → Tile) : (s.modTile t f).acc = s.acc := (rfl)
@[simp] theorem State.modTile_uhf (t : Fin 64) (f : Tile → Tile) : (s.modTile t f).uhf = s.uhf := (rfl)
@[simp] theorem State.modTile_keys (t : Fin 64) (f : Tile → Tile) : (s.modTile t f).keys = s.keys := (rfl)
@[simp] theorem State.modTile_cph (t : Fin 64) (f : Tile → Tile) : (s.modTile t f).cph = s.cph := (rfl)
@[simp] theorem State.modTile_rng (t : Fin 64) (f : Tile → Tile) : (s.modTile t f).rng = s.rng := (rfl)
@[simp] theorem State.modTile_ring (t : Fin 64) (f : Tile → Tile) : (s.modTile t f).ring = s.ring := (rfl)
@[simp] theorem State.modTile_beam (t : Fin 64) (f : Tile → Tile) : (s.modTile t f).beam = s.beam := (rfl)
@[simp] theorem State.modTile_tmr (t : Fin 64) (f : Tile → Tile) : (s.modTile t f).tmr = s.tmr := (rfl)
@[simp] theorem State.modTile_crc (t : Fin 64) (f : Tile → Tile) : (s.modTile t f).crc = s.crc := (rfl)
@[simp] theorem State.modTile_spi (t : Fin 64) (f : Tile → Tile) : (s.modTile t f).spi = s.spi := (rfl)
@[simp] theorem State.modTile_serial (t : Fin 64) (f : Tile → Tile) : (s.modTile t f).serial = s.serial := (rfl)
@[simp] theorem State.modTile_gpio (t : Fin 64) (f : Tile → Tile) : (s.modTile t f).gpio = s.gpio := (rfl)
@[simp] theorem State.modTile_test (t : Fin 64) (f : Tile → Tile) : (s.modTile t f).test = s.test := (rfl)

/-! ### modPlanTile -/
@[simp] theorem State.modPlanTile_pending (t : Fin 16) (f : PlanTile → PlanTile) : (s.modPlanTile t f).pending = s.pending := (rfl)
@[simp] theorem State.modPlanTile_out (t : Fin 16) (f : PlanTile → PlanTile) : (s.modPlanTile t f).out = s.out := (rfl)
@[simp] theorem State.modPlanTile_regs (t : Fin 16) (f : PlanTile → PlanTile) : (s.modPlanTile t f).regs = s.regs := (rfl)
@[simp] theorem State.modPlanTile_boardMem (t : Fin 16) (f : PlanTile → PlanTile) : (s.modPlanTile t f).boardMem = s.boardMem := (rfl)
@[simp] theorem State.modPlanTile_planMem (t : Fin 16) (f : PlanTile → PlanTile) : (s.modPlanTile t f).planMem = s.planMem := (rfl)
@[simp] theorem State.modPlanTile_sys (t : Fin 16) (f : PlanTile → PlanTile) : (s.modPlanTile t f).sys = s.sys := (rfl)
@[simp] theorem State.modPlanTile_host (t : Fin 16) (f : PlanTile → PlanTile) : (s.modPlanTile t f).host = s.host := (rfl)
@[simp] theorem State.modPlanTile_txns (t : Fin 16) (f : PlanTile → PlanTile) : (s.modPlanTile t f).txns = s.txns := (rfl)
@[simp] theorem State.modPlanTile_rods (t : Fin 16) (f : PlanTile → PlanTile) : (s.modPlanTile t f).rods = s.rods := (rfl)
@[simp] theorem State.modPlanTile_field (t : Fin 16) (f : PlanTile → PlanTile) : (s.modPlanTile t f).field = s.field := (rfl)
@[simp] theorem State.modPlanTile_round (t : Fin 16) (f : PlanTile → PlanTile) : (s.modPlanTile t f).round = s.round := (rfl)
@[simp] theorem State.modPlanTile_tally (t : Fin 16) (f : PlanTile → PlanTile) : (s.modPlanTile t f).tally = s.tally := (rfl)
@[simp] theorem State.modPlanTile_fifos (t : Fin 16) (f : PlanTile → PlanTile) : (s.modPlanTile t f).fifos = s.fifos := (rfl)
@[simp] theorem State.modPlanTile_ingress (t : Fin 16) (f : PlanTile → PlanTile) : (s.modPlanTile t f).ingress = s.ingress := (rfl)
@[simp] theorem State.modPlanTile_pwr (t : Fin 16) (f : PlanTile → PlanTile) : (s.modPlanTile t f).pwr = s.pwr := (rfl)
@[simp] theorem State.modPlanTile_otp (t : Fin 16) (f : PlanTile → PlanTile) : (s.modPlanTile t f).otp = s.otp := (rfl)
@[simp] theorem State.modPlanTile_otpMem (t : Fin 16) (f : PlanTile → PlanTile) : (s.modPlanTile t f).otpMem = s.otpMem := (rfl)
@[simp] theorem State.modPlanTile_link (t : Fin 16) (f : PlanTile → PlanTile) : (s.modPlanTile t f).link = s.link := (rfl)
@[simp] theorem State.modPlanTile_acc (t : Fin 16) (f : PlanTile → PlanTile) : (s.modPlanTile t f).acc = s.acc := (rfl)
@[simp] theorem State.modPlanTile_uhf (t : Fin 16) (f : PlanTile → PlanTile) : (s.modPlanTile t f).uhf = s.uhf := (rfl)
@[simp] theorem State.modPlanTile_keys (t : Fin 16) (f : PlanTile → PlanTile) : (s.modPlanTile t f).keys = s.keys := (rfl)
@[simp] theorem State.modPlanTile_cph (t : Fin 16) (f : PlanTile → PlanTile) : (s.modPlanTile t f).cph = s.cph := (rfl)
@[simp] theorem State.modPlanTile_rng (t : Fin 16) (f : PlanTile → PlanTile) : (s.modPlanTile t f).rng = s.rng := (rfl)
@[simp] theorem State.modPlanTile_ring (t : Fin 16) (f : PlanTile → PlanTile) : (s.modPlanTile t f).ring = s.ring := (rfl)
@[simp] theorem State.modPlanTile_beam (t : Fin 16) (f : PlanTile → PlanTile) : (s.modPlanTile t f).beam = s.beam := (rfl)
@[simp] theorem State.modPlanTile_tmr (t : Fin 16) (f : PlanTile → PlanTile) : (s.modPlanTile t f).tmr = s.tmr := (rfl)
@[simp] theorem State.modPlanTile_crc (t : Fin 16) (f : PlanTile → PlanTile) : (s.modPlanTile t f).crc = s.crc := (rfl)
@[simp] theorem State.modPlanTile_spi (t : Fin 16) (f : PlanTile → PlanTile) : (s.modPlanTile t f).spi = s.spi := (rfl)
@[simp] theorem State.modPlanTile_serial (t : Fin 16) (f : PlanTile → PlanTile) : (s.modPlanTile t f).serial = s.serial := (rfl)
@[simp] theorem State.modPlanTile_gpio (t : Fin 16) (f : PlanTile → PlanTile) : (s.modPlanTile t f).gpio = s.gpio := (rfl)
@[simp] theorem State.modPlanTile_test (t : Fin 16) (f : PlanTile → PlanTile) : (s.modPlanTile t f).test = s.test := (rfl)

/-! ### modCrc -/
@[simp] theorem State.modCrc_pending (u : Fin 4) (f : CrcUnit → CrcUnit) : (s.modCrc u f).pending = s.pending := (rfl)
@[simp] theorem State.modCrc_out (u : Fin 4) (f : CrcUnit → CrcUnit) : (s.modCrc u f).out = s.out := (rfl)
@[simp] theorem State.modCrc_regs (u : Fin 4) (f : CrcUnit → CrcUnit) : (s.modCrc u f).regs = s.regs := (rfl)
@[simp] theorem State.modCrc_boardMem (u : Fin 4) (f : CrcUnit → CrcUnit) : (s.modCrc u f).boardMem = s.boardMem := (rfl)
@[simp] theorem State.modCrc_planMem (u : Fin 4) (f : CrcUnit → CrcUnit) : (s.modCrc u f).planMem = s.planMem := (rfl)
@[simp] theorem State.modCrc_sys (u : Fin 4) (f : CrcUnit → CrcUnit) : (s.modCrc u f).sys = s.sys := (rfl)
@[simp] theorem State.modCrc_host (u : Fin 4) (f : CrcUnit → CrcUnit) : (s.modCrc u f).host = s.host := (rfl)
@[simp] theorem State.modCrc_txns (u : Fin 4) (f : CrcUnit → CrcUnit) : (s.modCrc u f).txns = s.txns := (rfl)
@[simp] theorem State.modCrc_rods (u : Fin 4) (f : CrcUnit → CrcUnit) : (s.modCrc u f).rods = s.rods := (rfl)
@[simp] theorem State.modCrc_field (u : Fin 4) (f : CrcUnit → CrcUnit) : (s.modCrc u f).field = s.field := (rfl)
@[simp] theorem State.modCrc_round (u : Fin 4) (f : CrcUnit → CrcUnit) : (s.modCrc u f).round = s.round := (rfl)
@[simp] theorem State.modCrc_tally (u : Fin 4) (f : CrcUnit → CrcUnit) : (s.modCrc u f).tally = s.tally := (rfl)
@[simp] theorem State.modCrc_fifos (u : Fin 4) (f : CrcUnit → CrcUnit) : (s.modCrc u f).fifos = s.fifos := (rfl)
@[simp] theorem State.modCrc_board (u : Fin 4) (f : CrcUnit → CrcUnit) : (s.modCrc u f).board = s.board := (rfl)
@[simp] theorem State.modCrc_ingress (u : Fin 4) (f : CrcUnit → CrcUnit) : (s.modCrc u f).ingress = s.ingress := (rfl)
@[simp] theorem State.modCrc_pwr (u : Fin 4) (f : CrcUnit → CrcUnit) : (s.modCrc u f).pwr = s.pwr := (rfl)
@[simp] theorem State.modCrc_otp (u : Fin 4) (f : CrcUnit → CrcUnit) : (s.modCrc u f).otp = s.otp := (rfl)
@[simp] theorem State.modCrc_otpMem (u : Fin 4) (f : CrcUnit → CrcUnit) : (s.modCrc u f).otpMem = s.otpMem := (rfl)
@[simp] theorem State.modCrc_link (u : Fin 4) (f : CrcUnit → CrcUnit) : (s.modCrc u f).link = s.link := (rfl)
@[simp] theorem State.modCrc_acc (u : Fin 4) (f : CrcUnit → CrcUnit) : (s.modCrc u f).acc = s.acc := (rfl)
@[simp] theorem State.modCrc_uhf (u : Fin 4) (f : CrcUnit → CrcUnit) : (s.modCrc u f).uhf = s.uhf := (rfl)
@[simp] theorem State.modCrc_keys (u : Fin 4) (f : CrcUnit → CrcUnit) : (s.modCrc u f).keys = s.keys := (rfl)
@[simp] theorem State.modCrc_cph (u : Fin 4) (f : CrcUnit → CrcUnit) : (s.modCrc u f).cph = s.cph := (rfl)
@[simp] theorem State.modCrc_rng (u : Fin 4) (f : CrcUnit → CrcUnit) : (s.modCrc u f).rng = s.rng := (rfl)
@[simp] theorem State.modCrc_ring (u : Fin 4) (f : CrcUnit → CrcUnit) : (s.modCrc u f).ring = s.ring := (rfl)
@[simp] theorem State.modCrc_beam (u : Fin 4) (f : CrcUnit → CrcUnit) : (s.modCrc u f).beam = s.beam := (rfl)
@[simp] theorem State.modCrc_tmr (u : Fin 4) (f : CrcUnit → CrcUnit) : (s.modCrc u f).tmr = s.tmr := (rfl)
@[simp] theorem State.modCrc_crc (u : Fin 4) (f : CrcUnit → CrcUnit) : (s.modCrc u f).crc = vmod s.crc u f := (rfl)
@[simp] theorem State.modCrc_spi (u : Fin 4) (f : CrcUnit → CrcUnit) : (s.modCrc u f).spi = s.spi := (rfl)
@[simp] theorem State.modCrc_serial (u : Fin 4) (f : CrcUnit → CrcUnit) : (s.modCrc u f).serial = s.serial := (rfl)
@[simp] theorem State.modCrc_gpio (u : Fin 4) (f : CrcUnit → CrcUnit) : (s.modCrc u f).gpio = s.gpio := (rfl)
@[simp] theorem State.modCrc_test (u : Fin 4) (f : CrcUnit → CrcUnit) : (s.modCrc u f).test = s.test := (rfl)

/-! ### modSerial -/
@[simp] theorem State.modSerial_pending (f : SerialPart → SerialPart) : (s.modSerial f).pending = s.pending := (rfl)
@[simp] theorem State.modSerial_out (f : SerialPart → SerialPart) : (s.modSerial f).out = s.out := (rfl)
@[simp] theorem State.modSerial_regs (f : SerialPart → SerialPart) : (s.modSerial f).regs = s.regs := (rfl)
@[simp] theorem State.modSerial_boardMem (f : SerialPart → SerialPart) : (s.modSerial f).boardMem = s.boardMem := (rfl)
@[simp] theorem State.modSerial_planMem (f : SerialPart → SerialPart) : (s.modSerial f).planMem = s.planMem := (rfl)
@[simp] theorem State.modSerial_sys (f : SerialPart → SerialPart) : (s.modSerial f).sys = s.sys := (rfl)
@[simp] theorem State.modSerial_host (f : SerialPart → SerialPart) : (s.modSerial f).host = s.host := (rfl)
@[simp] theorem State.modSerial_txns (f : SerialPart → SerialPart) : (s.modSerial f).txns = s.txns := (rfl)
@[simp] theorem State.modSerial_rods (f : SerialPart → SerialPart) : (s.modSerial f).rods = s.rods := (rfl)
@[simp] theorem State.modSerial_field (f : SerialPart → SerialPart) : (s.modSerial f).field = s.field := (rfl)
@[simp] theorem State.modSerial_round (f : SerialPart → SerialPart) : (s.modSerial f).round = s.round := (rfl)
@[simp] theorem State.modSerial_tally (f : SerialPart → SerialPart) : (s.modSerial f).tally = s.tally := (rfl)
@[simp] theorem State.modSerial_fifos (f : SerialPart → SerialPart) : (s.modSerial f).fifos = s.fifos := (rfl)
@[simp] theorem State.modSerial_board (f : SerialPart → SerialPart) : (s.modSerial f).board = s.board := (rfl)
@[simp] theorem State.modSerial_ingress (f : SerialPart → SerialPart) : (s.modSerial f).ingress = s.ingress := (rfl)
@[simp] theorem State.modSerial_pwr (f : SerialPart → SerialPart) : (s.modSerial f).pwr = s.pwr := (rfl)
@[simp] theorem State.modSerial_otp (f : SerialPart → SerialPart) : (s.modSerial f).otp = s.otp := (rfl)
@[simp] theorem State.modSerial_otpMem (f : SerialPart → SerialPart) : (s.modSerial f).otpMem = s.otpMem := (rfl)
@[simp] theorem State.modSerial_link (f : SerialPart → SerialPart) : (s.modSerial f).link = s.link := (rfl)
@[simp] theorem State.modSerial_acc (f : SerialPart → SerialPart) : (s.modSerial f).acc = s.acc := (rfl)
@[simp] theorem State.modSerial_uhf (f : SerialPart → SerialPart) : (s.modSerial f).uhf = s.uhf := (rfl)
@[simp] theorem State.modSerial_keys (f : SerialPart → SerialPart) : (s.modSerial f).keys = s.keys := (rfl)
@[simp] theorem State.modSerial_cph (f : SerialPart → SerialPart) : (s.modSerial f).cph = s.cph := (rfl)
@[simp] theorem State.modSerial_rng (f : SerialPart → SerialPart) : (s.modSerial f).rng = s.rng := (rfl)
@[simp] theorem State.modSerial_ring (f : SerialPart → SerialPart) : (s.modSerial f).ring = s.ring := (rfl)
@[simp] theorem State.modSerial_beam (f : SerialPart → SerialPart) : (s.modSerial f).beam = s.beam := (rfl)
@[simp] theorem State.modSerial_tmr (f : SerialPart → SerialPart) : (s.modSerial f).tmr = s.tmr := (rfl)
@[simp] theorem State.modSerial_crc (f : SerialPart → SerialPart) : (s.modSerial f).crc = s.crc := (rfl)
@[simp] theorem State.modSerial_spi (f : SerialPart → SerialPart) : (s.modSerial f).spi = s.spi := (rfl)
@[simp] theorem State.modSerial_serial (f : SerialPart → SerialPart) : (s.modSerial f).serial = f s.serial := (rfl)
@[simp] theorem State.modSerial_gpio (f : SerialPart → SerialPart) : (s.modSerial f).gpio = s.gpio := (rfl)
@[simp] theorem State.modSerial_test (f : SerialPart → SerialPart) : (s.modSerial f).test = s.test := (rfl)

/-! ### modLink -/
@[simp] theorem State.modLink_pending (f : LinkPart → LinkPart) : (s.modLink f).pending = s.pending := (rfl)
@[simp] theorem State.modLink_out (f : LinkPart → LinkPart) : (s.modLink f).out = s.out := (rfl)
@[simp] theorem State.modLink_regs (f : LinkPart → LinkPart) : (s.modLink f).regs = s.regs := (rfl)
@[simp] theorem State.modLink_boardMem (f : LinkPart → LinkPart) : (s.modLink f).boardMem = s.boardMem := (rfl)
@[simp] theorem State.modLink_planMem (f : LinkPart → LinkPart) : (s.modLink f).planMem = s.planMem := (rfl)
@[simp] theorem State.modLink_sys (f : LinkPart → LinkPart) : (s.modLink f).sys = s.sys := (rfl)
@[simp] theorem State.modLink_host (f : LinkPart → LinkPart) : (s.modLink f).host = s.host := (rfl)
@[simp] theorem State.modLink_txns (f : LinkPart → LinkPart) : (s.modLink f).txns = s.txns := (rfl)
@[simp] theorem State.modLink_rods (f : LinkPart → LinkPart) : (s.modLink f).rods = s.rods := (rfl)
@[simp] theorem State.modLink_field (f : LinkPart → LinkPart) : (s.modLink f).field = s.field := (rfl)
@[simp] theorem State.modLink_round (f : LinkPart → LinkPart) : (s.modLink f).round = s.round := (rfl)
@[simp] theorem State.modLink_tally (f : LinkPart → LinkPart) : (s.modLink f).tally = s.tally := (rfl)
@[simp] theorem State.modLink_fifos (f : LinkPart → LinkPart) : (s.modLink f).fifos = s.fifos := (rfl)
@[simp] theorem State.modLink_board (f : LinkPart → LinkPart) : (s.modLink f).board = s.board := (rfl)
@[simp] theorem State.modLink_ingress (f : LinkPart → LinkPart) : (s.modLink f).ingress = s.ingress := (rfl)
@[simp] theorem State.modLink_pwr (f : LinkPart → LinkPart) : (s.modLink f).pwr = s.pwr := (rfl)
@[simp] theorem State.modLink_otp (f : LinkPart → LinkPart) : (s.modLink f).otp = s.otp := (rfl)
@[simp] theorem State.modLink_otpMem (f : LinkPart → LinkPart) : (s.modLink f).otpMem = s.otpMem := (rfl)
@[simp] theorem State.modLink_link (f : LinkPart → LinkPart) : (s.modLink f).link = f s.link := (rfl)
@[simp] theorem State.modLink_acc (f : LinkPart → LinkPart) : (s.modLink f).acc = s.acc := (rfl)
@[simp] theorem State.modLink_uhf (f : LinkPart → LinkPart) : (s.modLink f).uhf = s.uhf := (rfl)
@[simp] theorem State.modLink_keys (f : LinkPart → LinkPart) : (s.modLink f).keys = s.keys := (rfl)
@[simp] theorem State.modLink_cph (f : LinkPart → LinkPart) : (s.modLink f).cph = s.cph := (rfl)
@[simp] theorem State.modLink_rng (f : LinkPart → LinkPart) : (s.modLink f).rng = s.rng := (rfl)
@[simp] theorem State.modLink_ring (f : LinkPart → LinkPart) : (s.modLink f).ring = s.ring := (rfl)
@[simp] theorem State.modLink_beam (f : LinkPart → LinkPart) : (s.modLink f).beam = s.beam := (rfl)
@[simp] theorem State.modLink_tmr (f : LinkPart → LinkPart) : (s.modLink f).tmr = s.tmr := (rfl)
@[simp] theorem State.modLink_crc (f : LinkPart → LinkPart) : (s.modLink f).crc = s.crc := (rfl)
@[simp] theorem State.modLink_spi (f : LinkPart → LinkPart) : (s.modLink f).spi = s.spi := (rfl)
@[simp] theorem State.modLink_serial (f : LinkPart → LinkPart) : (s.modLink f).serial = s.serial := (rfl)
@[simp] theorem State.modLink_gpio (f : LinkPart → LinkPart) : (s.modLink f).gpio = s.gpio := (rfl)
@[simp] theorem State.modLink_test (f : LinkPart → LinkPart) : (s.modLink f).test = s.test := (rfl)

/-! ### modUhf -/
@[simp] theorem State.modUhf_pending (f : UhfPart → UhfPart) : (s.modUhf f).pending = s.pending := (rfl)
@[simp] theorem State.modUhf_out (f : UhfPart → UhfPart) : (s.modUhf f).out = s.out := (rfl)
@[simp] theorem State.modUhf_regs (f : UhfPart → UhfPart) : (s.modUhf f).regs = s.regs := (rfl)
@[simp] theorem State.modUhf_boardMem (f : UhfPart → UhfPart) : (s.modUhf f).boardMem = s.boardMem := (rfl)
@[simp] theorem State.modUhf_planMem (f : UhfPart → UhfPart) : (s.modUhf f).planMem = s.planMem := (rfl)
@[simp] theorem State.modUhf_sys (f : UhfPart → UhfPart) : (s.modUhf f).sys = s.sys := (rfl)
@[simp] theorem State.modUhf_host (f : UhfPart → UhfPart) : (s.modUhf f).host = s.host := (rfl)
@[simp] theorem State.modUhf_txns (f : UhfPart → UhfPart) : (s.modUhf f).txns = s.txns := (rfl)
@[simp] theorem State.modUhf_rods (f : UhfPart → UhfPart) : (s.modUhf f).rods = s.rods := (rfl)
@[simp] theorem State.modUhf_field (f : UhfPart → UhfPart) : (s.modUhf f).field = s.field := (rfl)
@[simp] theorem State.modUhf_round (f : UhfPart → UhfPart) : (s.modUhf f).round = s.round := (rfl)
@[simp] theorem State.modUhf_tally (f : UhfPart → UhfPart) : (s.modUhf f).tally = s.tally := (rfl)
@[simp] theorem State.modUhf_fifos (f : UhfPart → UhfPart) : (s.modUhf f).fifos = s.fifos := (rfl)
@[simp] theorem State.modUhf_board (f : UhfPart → UhfPart) : (s.modUhf f).board = s.board := (rfl)
@[simp] theorem State.modUhf_ingress (f : UhfPart → UhfPart) : (s.modUhf f).ingress = s.ingress := (rfl)
@[simp] theorem State.modUhf_pwr (f : UhfPart → UhfPart) : (s.modUhf f).pwr = s.pwr := (rfl)
@[simp] theorem State.modUhf_otp (f : UhfPart → UhfPart) : (s.modUhf f).otp = s.otp := (rfl)
@[simp] theorem State.modUhf_otpMem (f : UhfPart → UhfPart) : (s.modUhf f).otpMem = s.otpMem := (rfl)
@[simp] theorem State.modUhf_link (f : UhfPart → UhfPart) : (s.modUhf f).link = s.link := (rfl)
@[simp] theorem State.modUhf_acc (f : UhfPart → UhfPart) : (s.modUhf f).acc = s.acc := (rfl)
@[simp] theorem State.modUhf_uhf (f : UhfPart → UhfPart) : (s.modUhf f).uhf = f s.uhf := (rfl)
@[simp] theorem State.modUhf_keys (f : UhfPart → UhfPart) : (s.modUhf f).keys = s.keys := (rfl)
@[simp] theorem State.modUhf_cph (f : UhfPart → UhfPart) : (s.modUhf f).cph = s.cph := (rfl)
@[simp] theorem State.modUhf_rng (f : UhfPart → UhfPart) : (s.modUhf f).rng = s.rng := (rfl)
@[simp] theorem State.modUhf_ring (f : UhfPart → UhfPart) : (s.modUhf f).ring = s.ring := (rfl)
@[simp] theorem State.modUhf_beam (f : UhfPart → UhfPart) : (s.modUhf f).beam = s.beam := (rfl)
@[simp] theorem State.modUhf_tmr (f : UhfPart → UhfPart) : (s.modUhf f).tmr = s.tmr := (rfl)
@[simp] theorem State.modUhf_crc (f : UhfPart → UhfPart) : (s.modUhf f).crc = s.crc := (rfl)
@[simp] theorem State.modUhf_spi (f : UhfPart → UhfPart) : (s.modUhf f).spi = s.spi := (rfl)
@[simp] theorem State.modUhf_serial (f : UhfPart → UhfPart) : (s.modUhf f).serial = s.serial := (rfl)
@[simp] theorem State.modUhf_gpio (f : UhfPart → UhfPart) : (s.modUhf f).gpio = s.gpio := (rfl)
@[simp] theorem State.modUhf_test (f : UhfPart → UhfPart) : (s.modUhf f).test = s.test := (rfl)

/-! ### modRing -/
@[simp] theorem State.modRing_pending (f : RingPart → RingPart) : (s.modRing f).pending = s.pending := (rfl)
@[simp] theorem State.modRing_out (f : RingPart → RingPart) : (s.modRing f).out = s.out := (rfl)
@[simp] theorem State.modRing_regs (f : RingPart → RingPart) : (s.modRing f).regs = s.regs := (rfl)
@[simp] theorem State.modRing_boardMem (f : RingPart → RingPart) : (s.modRing f).boardMem = s.boardMem := (rfl)
@[simp] theorem State.modRing_planMem (f : RingPart → RingPart) : (s.modRing f).planMem = s.planMem := (rfl)
@[simp] theorem State.modRing_sys (f : RingPart → RingPart) : (s.modRing f).sys = s.sys := (rfl)
@[simp] theorem State.modRing_host (f : RingPart → RingPart) : (s.modRing f).host = s.host := (rfl)
@[simp] theorem State.modRing_txns (f : RingPart → RingPart) : (s.modRing f).txns = s.txns := (rfl)
@[simp] theorem State.modRing_rods (f : RingPart → RingPart) : (s.modRing f).rods = s.rods := (rfl)
@[simp] theorem State.modRing_field (f : RingPart → RingPart) : (s.modRing f).field = s.field := (rfl)
@[simp] theorem State.modRing_round (f : RingPart → RingPart) : (s.modRing f).round = s.round := (rfl)
@[simp] theorem State.modRing_tally (f : RingPart → RingPart) : (s.modRing f).tally = s.tally := (rfl)
@[simp] theorem State.modRing_fifos (f : RingPart → RingPart) : (s.modRing f).fifos = s.fifos := (rfl)
@[simp] theorem State.modRing_board (f : RingPart → RingPart) : (s.modRing f).board = s.board := (rfl)
@[simp] theorem State.modRing_ingress (f : RingPart → RingPart) : (s.modRing f).ingress = s.ingress := (rfl)
@[simp] theorem State.modRing_pwr (f : RingPart → RingPart) : (s.modRing f).pwr = s.pwr := (rfl)
@[simp] theorem State.modRing_otp (f : RingPart → RingPart) : (s.modRing f).otp = s.otp := (rfl)
@[simp] theorem State.modRing_otpMem (f : RingPart → RingPart) : (s.modRing f).otpMem = s.otpMem := (rfl)
@[simp] theorem State.modRing_link (f : RingPart → RingPart) : (s.modRing f).link = s.link := (rfl)
@[simp] theorem State.modRing_acc (f : RingPart → RingPart) : (s.modRing f).acc = s.acc := (rfl)
@[simp] theorem State.modRing_uhf (f : RingPart → RingPart) : (s.modRing f).uhf = s.uhf := (rfl)
@[simp] theorem State.modRing_keys (f : RingPart → RingPart) : (s.modRing f).keys = s.keys := (rfl)
@[simp] theorem State.modRing_cph (f : RingPart → RingPart) : (s.modRing f).cph = s.cph := (rfl)
@[simp] theorem State.modRing_rng (f : RingPart → RingPart) : (s.modRing f).rng = s.rng := (rfl)
@[simp] theorem State.modRing_ring (f : RingPart → RingPart) : (s.modRing f).ring = f s.ring := (rfl)
@[simp] theorem State.modRing_beam (f : RingPart → RingPart) : (s.modRing f).beam = s.beam := (rfl)
@[simp] theorem State.modRing_tmr (f : RingPart → RingPart) : (s.modRing f).tmr = s.tmr := (rfl)
@[simp] theorem State.modRing_crc (f : RingPart → RingPart) : (s.modRing f).crc = s.crc := (rfl)
@[simp] theorem State.modRing_spi (f : RingPart → RingPart) : (s.modRing f).spi = s.spi := (rfl)
@[simp] theorem State.modRing_serial (f : RingPart → RingPart) : (s.modRing f).serial = s.serial := (rfl)
@[simp] theorem State.modRing_gpio (f : RingPart → RingPart) : (s.modRing f).gpio = s.gpio := (rfl)
@[simp] theorem State.modRing_test (f : RingPart → RingPart) : (s.modRing f).test = s.test := (rfl)

/-! ### modRng -/
@[simp] theorem State.modRng_pending (f : RngPart → RngPart) : (s.modRng f).pending = s.pending := (rfl)
@[simp] theorem State.modRng_out (f : RngPart → RngPart) : (s.modRng f).out = s.out := (rfl)
@[simp] theorem State.modRng_regs (f : RngPart → RngPart) : (s.modRng f).regs = s.regs := (rfl)
@[simp] theorem State.modRng_boardMem (f : RngPart → RngPart) : (s.modRng f).boardMem = s.boardMem := (rfl)
@[simp] theorem State.modRng_planMem (f : RngPart → RngPart) : (s.modRng f).planMem = s.planMem := (rfl)
@[simp] theorem State.modRng_sys (f : RngPart → RngPart) : (s.modRng f).sys = s.sys := (rfl)
@[simp] theorem State.modRng_host (f : RngPart → RngPart) : (s.modRng f).host = s.host := (rfl)
@[simp] theorem State.modRng_txns (f : RngPart → RngPart) : (s.modRng f).txns = s.txns := (rfl)
@[simp] theorem State.modRng_rods (f : RngPart → RngPart) : (s.modRng f).rods = s.rods := (rfl)
@[simp] theorem State.modRng_field (f : RngPart → RngPart) : (s.modRng f).field = s.field := (rfl)
@[simp] theorem State.modRng_round (f : RngPart → RngPart) : (s.modRng f).round = s.round := (rfl)
@[simp] theorem State.modRng_tally (f : RngPart → RngPart) : (s.modRng f).tally = s.tally := (rfl)
@[simp] theorem State.modRng_fifos (f : RngPart → RngPart) : (s.modRng f).fifos = s.fifos := (rfl)
@[simp] theorem State.modRng_board (f : RngPart → RngPart) : (s.modRng f).board = s.board := (rfl)
@[simp] theorem State.modRng_ingress (f : RngPart → RngPart) : (s.modRng f).ingress = s.ingress := (rfl)
@[simp] theorem State.modRng_pwr (f : RngPart → RngPart) : (s.modRng f).pwr = s.pwr := (rfl)
@[simp] theorem State.modRng_otp (f : RngPart → RngPart) : (s.modRng f).otp = s.otp := (rfl)
@[simp] theorem State.modRng_otpMem (f : RngPart → RngPart) : (s.modRng f).otpMem = s.otpMem := (rfl)
@[simp] theorem State.modRng_link (f : RngPart → RngPart) : (s.modRng f).link = s.link := (rfl)
@[simp] theorem State.modRng_acc (f : RngPart → RngPart) : (s.modRng f).acc = s.acc := (rfl)
@[simp] theorem State.modRng_uhf (f : RngPart → RngPart) : (s.modRng f).uhf = s.uhf := (rfl)
@[simp] theorem State.modRng_keys (f : RngPart → RngPart) : (s.modRng f).keys = s.keys := (rfl)
@[simp] theorem State.modRng_cph (f : RngPart → RngPart) : (s.modRng f).cph = s.cph := (rfl)
@[simp] theorem State.modRng_rng (f : RngPart → RngPart) : (s.modRng f).rng = f s.rng := (rfl)
@[simp] theorem State.modRng_ring (f : RngPart → RngPart) : (s.modRng f).ring = s.ring := (rfl)
@[simp] theorem State.modRng_beam (f : RngPart → RngPart) : (s.modRng f).beam = s.beam := (rfl)
@[simp] theorem State.modRng_tmr (f : RngPart → RngPart) : (s.modRng f).tmr = s.tmr := (rfl)
@[simp] theorem State.modRng_crc (f : RngPart → RngPart) : (s.modRng f).crc = s.crc := (rfl)
@[simp] theorem State.modRng_spi (f : RngPart → RngPart) : (s.modRng f).spi = s.spi := (rfl)
@[simp] theorem State.modRng_serial (f : RngPart → RngPart) : (s.modRng f).serial = s.serial := (rfl)
@[simp] theorem State.modRng_gpio (f : RngPart → RngPart) : (s.modRng f).gpio = s.gpio := (rfl)
@[simp] theorem State.modRng_test (f : RngPart → RngPart) : (s.modRng f).test = s.test := (rfl)

/-! ### modRound -/
@[simp] theorem State.modRound_pending (f : RoundPart → RoundPart) : (s.modRound f).pending = s.pending := (rfl)
@[simp] theorem State.modRound_out (f : RoundPart → RoundPart) : (s.modRound f).out = s.out := (rfl)
@[simp] theorem State.modRound_regs (f : RoundPart → RoundPart) : (s.modRound f).regs = s.regs := (rfl)
@[simp] theorem State.modRound_boardMem (f : RoundPart → RoundPart) : (s.modRound f).boardMem = s.boardMem := (rfl)
@[simp] theorem State.modRound_planMem (f : RoundPart → RoundPart) : (s.modRound f).planMem = s.planMem := (rfl)
@[simp] theorem State.modRound_sys (f : RoundPart → RoundPart) : (s.modRound f).sys = s.sys := (rfl)
@[simp] theorem State.modRound_host (f : RoundPart → RoundPart) : (s.modRound f).host = s.host := (rfl)
@[simp] theorem State.modRound_txns (f : RoundPart → RoundPart) : (s.modRound f).txns = s.txns := (rfl)
@[simp] theorem State.modRound_rods (f : RoundPart → RoundPart) : (s.modRound f).rods = s.rods := (rfl)
@[simp] theorem State.modRound_field (f : RoundPart → RoundPart) : (s.modRound f).field = s.field := (rfl)
@[simp] theorem State.modRound_round (f : RoundPart → RoundPart) : (s.modRound f).round = f s.round := (rfl)
@[simp] theorem State.modRound_tally (f : RoundPart → RoundPart) : (s.modRound f).tally = s.tally := (rfl)
@[simp] theorem State.modRound_fifos (f : RoundPart → RoundPart) : (s.modRound f).fifos = s.fifos := (rfl)
@[simp] theorem State.modRound_board (f : RoundPart → RoundPart) : (s.modRound f).board = s.board := (rfl)
@[simp] theorem State.modRound_ingress (f : RoundPart → RoundPart) : (s.modRound f).ingress = s.ingress := (rfl)
@[simp] theorem State.modRound_pwr (f : RoundPart → RoundPart) : (s.modRound f).pwr = s.pwr := (rfl)
@[simp] theorem State.modRound_otp (f : RoundPart → RoundPart) : (s.modRound f).otp = s.otp := (rfl)
@[simp] theorem State.modRound_otpMem (f : RoundPart → RoundPart) : (s.modRound f).otpMem = s.otpMem := (rfl)
@[simp] theorem State.modRound_link (f : RoundPart → RoundPart) : (s.modRound f).link = s.link := (rfl)
@[simp] theorem State.modRound_acc (f : RoundPart → RoundPart) : (s.modRound f).acc = s.acc := (rfl)
@[simp] theorem State.modRound_uhf (f : RoundPart → RoundPart) : (s.modRound f).uhf = s.uhf := (rfl)
@[simp] theorem State.modRound_keys (f : RoundPart → RoundPart) : (s.modRound f).keys = s.keys := (rfl)
@[simp] theorem State.modRound_cph (f : RoundPart → RoundPart) : (s.modRound f).cph = s.cph := (rfl)
@[simp] theorem State.modRound_rng (f : RoundPart → RoundPart) : (s.modRound f).rng = s.rng := (rfl)
@[simp] theorem State.modRound_ring (f : RoundPart → RoundPart) : (s.modRound f).ring = s.ring := (rfl)
@[simp] theorem State.modRound_beam (f : RoundPart → RoundPart) : (s.modRound f).beam = s.beam := (rfl)
@[simp] theorem State.modRound_tmr (f : RoundPart → RoundPart) : (s.modRound f).tmr = s.tmr := (rfl)
@[simp] theorem State.modRound_crc (f : RoundPart → RoundPart) : (s.modRound f).crc = s.crc := (rfl)
@[simp] theorem State.modRound_spi (f : RoundPart → RoundPart) : (s.modRound f).spi = s.spi := (rfl)
@[simp] theorem State.modRound_serial (f : RoundPart → RoundPart) : (s.modRound f).serial = s.serial := (rfl)
@[simp] theorem State.modRound_gpio (f : RoundPart → RoundPart) : (s.modRound f).gpio = s.gpio := (rfl)
@[simp] theorem State.modRound_test (f : RoundPart → RoundPart) : (s.modRound f).test = s.test := (rfl)

/-! ### modTally -/
@[simp] theorem State.modTally_pending (f : TallyPart → TallyPart) : (s.modTally f).pending = s.pending := (rfl)
@[simp] theorem State.modTally_out (f : TallyPart → TallyPart) : (s.modTally f).out = s.out := (rfl)
@[simp] theorem State.modTally_regs (f : TallyPart → TallyPart) : (s.modTally f).regs = s.regs := (rfl)
@[simp] theorem State.modTally_boardMem (f : TallyPart → TallyPart) : (s.modTally f).boardMem = s.boardMem := (rfl)
@[simp] theorem State.modTally_planMem (f : TallyPart → TallyPart) : (s.modTally f).planMem = s.planMem := (rfl)
@[simp] theorem State.modTally_sys (f : TallyPart → TallyPart) : (s.modTally f).sys = s.sys := (rfl)
@[simp] theorem State.modTally_host (f : TallyPart → TallyPart) : (s.modTally f).host = s.host := (rfl)
@[simp] theorem State.modTally_txns (f : TallyPart → TallyPart) : (s.modTally f).txns = s.txns := (rfl)
@[simp] theorem State.modTally_rods (f : TallyPart → TallyPart) : (s.modTally f).rods = s.rods := (rfl)
@[simp] theorem State.modTally_field (f : TallyPart → TallyPart) : (s.modTally f).field = s.field := (rfl)
@[simp] theorem State.modTally_round (f : TallyPart → TallyPart) : (s.modTally f).round = s.round := (rfl)
@[simp] theorem State.modTally_tally (f : TallyPart → TallyPart) : (s.modTally f).tally = f s.tally := (rfl)
@[simp] theorem State.modTally_fifos (f : TallyPart → TallyPart) : (s.modTally f).fifos = s.fifos := (rfl)
@[simp] theorem State.modTally_board (f : TallyPart → TallyPart) : (s.modTally f).board = s.board := (rfl)
@[simp] theorem State.modTally_ingress (f : TallyPart → TallyPart) : (s.modTally f).ingress = s.ingress := (rfl)
@[simp] theorem State.modTally_pwr (f : TallyPart → TallyPart) : (s.modTally f).pwr = s.pwr := (rfl)
@[simp] theorem State.modTally_otp (f : TallyPart → TallyPart) : (s.modTally f).otp = s.otp := (rfl)
@[simp] theorem State.modTally_otpMem (f : TallyPart → TallyPart) : (s.modTally f).otpMem = s.otpMem := (rfl)
@[simp] theorem State.modTally_link (f : TallyPart → TallyPart) : (s.modTally f).link = s.link := (rfl)
@[simp] theorem State.modTally_acc (f : TallyPart → TallyPart) : (s.modTally f).acc = s.acc := (rfl)
@[simp] theorem State.modTally_uhf (f : TallyPart → TallyPart) : (s.modTally f).uhf = s.uhf := (rfl)
@[simp] theorem State.modTally_keys (f : TallyPart → TallyPart) : (s.modTally f).keys = s.keys := (rfl)
@[simp] theorem State.modTally_cph (f : TallyPart → TallyPart) : (s.modTally f).cph = s.cph := (rfl)
@[simp] theorem State.modTally_rng (f : TallyPart → TallyPart) : (s.modTally f).rng = s.rng := (rfl)
@[simp] theorem State.modTally_ring (f : TallyPart → TallyPart) : (s.modTally f).ring = s.ring := (rfl)
@[simp] theorem State.modTally_beam (f : TallyPart → TallyPart) : (s.modTally f).beam = s.beam := (rfl)
@[simp] theorem State.modTally_tmr (f : TallyPart → TallyPart) : (s.modTally f).tmr = s.tmr := (rfl)
@[simp] theorem State.modTally_crc (f : TallyPart → TallyPart) : (s.modTally f).crc = s.crc := (rfl)
@[simp] theorem State.modTally_spi (f : TallyPart → TallyPart) : (s.modTally f).spi = s.spi := (rfl)
@[simp] theorem State.modTally_serial (f : TallyPart → TallyPart) : (s.modTally f).serial = s.serial := (rfl)
@[simp] theorem State.modTally_gpio (f : TallyPart → TallyPart) : (s.modTally f).gpio = s.gpio := (rfl)
@[simp] theorem State.modTally_test (f : TallyPart → TallyPart) : (s.modTally f).test = s.test := (rfl)

/-! ### modTest -/
@[simp] theorem State.modTest_pending (f : TestPart → TestPart) : (s.modTest f).pending = s.pending := (rfl)
@[simp] theorem State.modTest_out (f : TestPart → TestPart) : (s.modTest f).out = s.out := (rfl)
@[simp] theorem State.modTest_regs (f : TestPart → TestPart) : (s.modTest f).regs = s.regs := (rfl)
@[simp] theorem State.modTest_boardMem (f : TestPart → TestPart) : (s.modTest f).boardMem = s.boardMem := (rfl)
@[simp] theorem State.modTest_planMem (f : TestPart → TestPart) : (s.modTest f).planMem = s.planMem := (rfl)
@[simp] theorem State.modTest_sys (f : TestPart → TestPart) : (s.modTest f).sys = s.sys := (rfl)
@[simp] theorem State.modTest_host (f : TestPart → TestPart) : (s.modTest f).host = s.host := (rfl)
@[simp] theorem State.modTest_txns (f : TestPart → TestPart) : (s.modTest f).txns = s.txns := (rfl)
@[simp] theorem State.modTest_rods (f : TestPart → TestPart) : (s.modTest f).rods = s.rods := (rfl)
@[simp] theorem State.modTest_field (f : TestPart → TestPart) : (s.modTest f).field = s.field := (rfl)
@[simp] theorem State.modTest_round (f : TestPart → TestPart) : (s.modTest f).round = s.round := (rfl)
@[simp] theorem State.modTest_tally (f : TestPart → TestPart) : (s.modTest f).tally = s.tally := (rfl)
@[simp] theorem State.modTest_fifos (f : TestPart → TestPart) : (s.modTest f).fifos = s.fifos := (rfl)
@[simp] theorem State.modTest_board (f : TestPart → TestPart) : (s.modTest f).board = s.board := (rfl)
@[simp] theorem State.modTest_ingress (f : TestPart → TestPart) : (s.modTest f).ingress = s.ingress := (rfl)
@[simp] theorem State.modTest_pwr (f : TestPart → TestPart) : (s.modTest f).pwr = s.pwr := (rfl)
@[simp] theorem State.modTest_otp (f : TestPart → TestPart) : (s.modTest f).otp = s.otp := (rfl)
@[simp] theorem State.modTest_otpMem (f : TestPart → TestPart) : (s.modTest f).otpMem = s.otpMem := (rfl)
@[simp] theorem State.modTest_link (f : TestPart → TestPart) : (s.modTest f).link = s.link := (rfl)
@[simp] theorem State.modTest_acc (f : TestPart → TestPart) : (s.modTest f).acc = s.acc := (rfl)
@[simp] theorem State.modTest_uhf (f : TestPart → TestPart) : (s.modTest f).uhf = s.uhf := (rfl)
@[simp] theorem State.modTest_keys (f : TestPart → TestPart) : (s.modTest f).keys = s.keys := (rfl)
@[simp] theorem State.modTest_cph (f : TestPart → TestPart) : (s.modTest f).cph = s.cph := (rfl)
@[simp] theorem State.modTest_rng (f : TestPart → TestPart) : (s.modTest f).rng = s.rng := (rfl)
@[simp] theorem State.modTest_ring (f : TestPart → TestPart) : (s.modTest f).ring = s.ring := (rfl)
@[simp] theorem State.modTest_beam (f : TestPart → TestPart) : (s.modTest f).beam = s.beam := (rfl)
@[simp] theorem State.modTest_tmr (f : TestPart → TestPart) : (s.modTest f).tmr = s.tmr := (rfl)
@[simp] theorem State.modTest_crc (f : TestPart → TestPart) : (s.modTest f).crc = s.crc := (rfl)
@[simp] theorem State.modTest_spi (f : TestPart → TestPart) : (s.modTest f).spi = s.spi := (rfl)
@[simp] theorem State.modTest_serial (f : TestPart → TestPart) : (s.modTest f).serial = s.serial := (rfl)
@[simp] theorem State.modTest_gpio (f : TestPart → TestPart) : (s.modTest f).gpio = s.gpio := (rfl)
@[simp] theorem State.modTest_test (f : TestPart → TestPart) : (s.modTest f).test = f s.test := (rfl)

/-! ### modTimer -/
@[simp] theorem State.modTimer_pending (n : Fin 16) (f : Timer → Timer) : (s.modTimer n f).pending = s.pending := (rfl)
@[simp] theorem State.modTimer_out (n : Fin 16) (f : Timer → Timer) : (s.modTimer n f).out = s.out := (rfl)
@[simp] theorem State.modTimer_regs (n : Fin 16) (f : Timer → Timer) : (s.modTimer n f).regs = s.regs := (rfl)
@[simp] theorem State.modTimer_boardMem (n : Fin 16) (f : Timer → Timer) : (s.modTimer n f).boardMem = s.boardMem := (rfl)
@[simp] theorem State.modTimer_planMem (n : Fin 16) (f : Timer → Timer) : (s.modTimer n f).planMem = s.planMem := (rfl)
@[simp] theorem State.modTimer_sys (n : Fin 16) (f : Timer → Timer) : (s.modTimer n f).sys = s.sys := (rfl)
@[simp] theorem State.modTimer_host (n : Fin 16) (f : Timer → Timer) : (s.modTimer n f).host = s.host := (rfl)
@[simp] theorem State.modTimer_txns (n : Fin 16) (f : Timer → Timer) : (s.modTimer n f).txns = s.txns := (rfl)
@[simp] theorem State.modTimer_rods (n : Fin 16) (f : Timer → Timer) : (s.modTimer n f).rods = s.rods := (rfl)
@[simp] theorem State.modTimer_field (n : Fin 16) (f : Timer → Timer) : (s.modTimer n f).field = s.field := (rfl)
@[simp] theorem State.modTimer_round (n : Fin 16) (f : Timer → Timer) : (s.modTimer n f).round = s.round := (rfl)
@[simp] theorem State.modTimer_tally (n : Fin 16) (f : Timer → Timer) : (s.modTimer n f).tally = s.tally := (rfl)
@[simp] theorem State.modTimer_fifos (n : Fin 16) (f : Timer → Timer) : (s.modTimer n f).fifos = s.fifos := (rfl)
@[simp] theorem State.modTimer_board (n : Fin 16) (f : Timer → Timer) : (s.modTimer n f).board = s.board := (rfl)
@[simp] theorem State.modTimer_ingress (n : Fin 16) (f : Timer → Timer) : (s.modTimer n f).ingress = s.ingress := (rfl)
@[simp] theorem State.modTimer_pwr (n : Fin 16) (f : Timer → Timer) : (s.modTimer n f).pwr = s.pwr := (rfl)
@[simp] theorem State.modTimer_otp (n : Fin 16) (f : Timer → Timer) : (s.modTimer n f).otp = s.otp := (rfl)
@[simp] theorem State.modTimer_otpMem (n : Fin 16) (f : Timer → Timer) : (s.modTimer n f).otpMem = s.otpMem := (rfl)
@[simp] theorem State.modTimer_link (n : Fin 16) (f : Timer → Timer) : (s.modTimer n f).link = s.link := (rfl)
@[simp] theorem State.modTimer_acc (n : Fin 16) (f : Timer → Timer) : (s.modTimer n f).acc = s.acc := (rfl)
@[simp] theorem State.modTimer_uhf (n : Fin 16) (f : Timer → Timer) : (s.modTimer n f).uhf = s.uhf := (rfl)
@[simp] theorem State.modTimer_keys (n : Fin 16) (f : Timer → Timer) : (s.modTimer n f).keys = s.keys := (rfl)
@[simp] theorem State.modTimer_cph (n : Fin 16) (f : Timer → Timer) : (s.modTimer n f).cph = s.cph := (rfl)
@[simp] theorem State.modTimer_rng (n : Fin 16) (f : Timer → Timer) : (s.modTimer n f).rng = s.rng := (rfl)
@[simp] theorem State.modTimer_ring (n : Fin 16) (f : Timer → Timer) : (s.modTimer n f).ring = s.ring := (rfl)
@[simp] theorem State.modTimer_beam (n : Fin 16) (f : Timer → Timer) : (s.modTimer n f).beam = s.beam := (rfl)
@[simp] theorem State.modTimer_tmr (n : Fin 16) (f : Timer → Timer) : (s.modTimer n f).tmr = vmod s.tmr n f := (rfl)
@[simp] theorem State.modTimer_crc (n : Fin 16) (f : Timer → Timer) : (s.modTimer n f).crc = s.crc := (rfl)
@[simp] theorem State.modTimer_spi (n : Fin 16) (f : Timer → Timer) : (s.modTimer n f).spi = s.spi := (rfl)
@[simp] theorem State.modTimer_serial (n : Fin 16) (f : Timer → Timer) : (s.modTimer n f).serial = s.serial := (rfl)
@[simp] theorem State.modTimer_gpio (n : Fin 16) (f : Timer → Timer) : (s.modTimer n f).gpio = s.gpio := (rfl)
@[simp] theorem State.modTimer_test (n : Fin 16) (f : Timer → Timer) : (s.modTimer n f).test = s.test := (rfl)

/-! ### modCore -/
@[simp] theorem State.modCore_pending (c : Fin 4) (f : Core4 → Core4) : (s.modCore c f).pending = s.pending := (rfl)
@[simp] theorem State.modCore_out (c : Fin 4) (f : Core4 → Core4) : (s.modCore c f).out = s.out := (rfl)
@[simp] theorem State.modCore_regs (c : Fin 4) (f : Core4 → Core4) : (s.modCore c f).regs = s.regs := (rfl)
@[simp] theorem State.modCore_boardMem (c : Fin 4) (f : Core4 → Core4) : (s.modCore c f).boardMem = s.boardMem := (rfl)
@[simp] theorem State.modCore_planMem (c : Fin 4) (f : Core4 → Core4) : (s.modCore c f).planMem = s.planMem := (rfl)
@[simp] theorem State.modCore_sys (c : Fin 4) (f : Core4 → Core4) : (s.modCore c f).sys = s.sys := (rfl)
@[simp] theorem State.modCore_host (c : Fin 4) (f : Core4 → Core4) : (s.modCore c f).host = s.host := (rfl)
@[simp] theorem State.modCore_txns (c : Fin 4) (f : Core4 → Core4) : (s.modCore c f).txns = s.txns := (rfl)
@[simp] theorem State.modCore_rods (c : Fin 4) (f : Core4 → Core4) : (s.modCore c f).rods = s.rods := (rfl)
@[simp] theorem State.modCore_field (c : Fin 4) (f : Core4 → Core4) : (s.modCore c f).field = s.field := (rfl)
@[simp] theorem State.modCore_round (c : Fin 4) (f : Core4 → Core4) : (s.modCore c f).round = s.round := (rfl)
@[simp] theorem State.modCore_tally (c : Fin 4) (f : Core4 → Core4) : (s.modCore c f).tally = s.tally := (rfl)
@[simp] theorem State.modCore_fifos (c : Fin 4) (f : Core4 → Core4) : (s.modCore c f).fifos = s.fifos := (rfl)
@[simp] theorem State.modCore_board (c : Fin 4) (f : Core4 → Core4) : (s.modCore c f).board = s.board := (rfl)
@[simp] theorem State.modCore_ingress (c : Fin 4) (f : Core4 → Core4) : (s.modCore c f).ingress = s.ingress := (rfl)
@[simp] theorem State.modCore_pwr (c : Fin 4) (f : Core4 → Core4) : (s.modCore c f).pwr = s.pwr := (rfl)
@[simp] theorem State.modCore_otp (c : Fin 4) (f : Core4 → Core4) : (s.modCore c f).otp = s.otp := (rfl)
@[simp] theorem State.modCore_otpMem (c : Fin 4) (f : Core4 → Core4) : (s.modCore c f).otpMem = s.otpMem := (rfl)
@[simp] theorem State.modCore_link (c : Fin 4) (f : Core4 → Core4) : (s.modCore c f).link = s.link := (rfl)
@[simp] theorem State.modCore_acc (c : Fin 4) (f : Core4 → Core4) : (s.modCore c f).acc = s.acc := (rfl)
@[simp] theorem State.modCore_uhf (c : Fin 4) (f : Core4 → Core4) : (s.modCore c f).uhf = s.uhf := (rfl)
@[simp] theorem State.modCore_keys (c : Fin 4) (f : Core4 → Core4) : (s.modCore c f).keys = s.keys := (rfl)
@[simp] theorem State.modCore_rng (c : Fin 4) (f : Core4 → Core4) : (s.modCore c f).rng = s.rng := (rfl)
@[simp] theorem State.modCore_ring (c : Fin 4) (f : Core4 → Core4) : (s.modCore c f).ring = s.ring := (rfl)
@[simp] theorem State.modCore_beam (c : Fin 4) (f : Core4 → Core4) : (s.modCore c f).beam = s.beam := (rfl)
@[simp] theorem State.modCore_tmr (c : Fin 4) (f : Core4 → Core4) : (s.modCore c f).tmr = s.tmr := (rfl)
@[simp] theorem State.modCore_crc (c : Fin 4) (f : Core4 → Core4) : (s.modCore c f).crc = s.crc := (rfl)
@[simp] theorem State.modCore_spi (c : Fin 4) (f : Core4 → Core4) : (s.modCore c f).spi = s.spi := (rfl)
@[simp] theorem State.modCore_serial (c : Fin 4) (f : Core4 → Core4) : (s.modCore c f).serial = s.serial := (rfl)
@[simp] theorem State.modCore_gpio (c : Fin 4) (f : Core4 → Core4) : (s.modCore c f).gpio = s.gpio := (rfl)
@[simp] theorem State.modCore_test (c : Fin 4) (f : Core4 → Core4) : (s.modCore c f).test = s.test := (rfl)

/-! ### setKeySlot -/
@[simp] theorem State.setKeySlot_pending (i : Nat) (k : KeySlot) : (s.setKeySlot i k).pending = s.pending := (rfl)
@[simp] theorem State.setKeySlot_out (i : Nat) (k : KeySlot) : (s.setKeySlot i k).out = s.out := (rfl)
@[simp] theorem State.setKeySlot_regs (i : Nat) (k : KeySlot) : (s.setKeySlot i k).regs = s.regs := (rfl)
@[simp] theorem State.setKeySlot_boardMem (i : Nat) (k : KeySlot) : (s.setKeySlot i k).boardMem = s.boardMem := (rfl)
@[simp] theorem State.setKeySlot_planMem (i : Nat) (k : KeySlot) : (s.setKeySlot i k).planMem = s.planMem := (rfl)
@[simp] theorem State.setKeySlot_sys (i : Nat) (k : KeySlot) : (s.setKeySlot i k).sys = s.sys := (rfl)
@[simp] theorem State.setKeySlot_host (i : Nat) (k : KeySlot) : (s.setKeySlot i k).host = s.host := (rfl)
@[simp] theorem State.setKeySlot_txns (i : Nat) (k : KeySlot) : (s.setKeySlot i k).txns = s.txns := (rfl)
@[simp] theorem State.setKeySlot_rods (i : Nat) (k : KeySlot) : (s.setKeySlot i k).rods = s.rods := (rfl)
@[simp] theorem State.setKeySlot_field (i : Nat) (k : KeySlot) : (s.setKeySlot i k).field = s.field := (rfl)
@[simp] theorem State.setKeySlot_round (i : Nat) (k : KeySlot) : (s.setKeySlot i k).round = s.round := (rfl)
@[simp] theorem State.setKeySlot_tally (i : Nat) (k : KeySlot) : (s.setKeySlot i k).tally = s.tally := (rfl)
@[simp] theorem State.setKeySlot_fifos (i : Nat) (k : KeySlot) : (s.setKeySlot i k).fifos = s.fifos := (rfl)
@[simp] theorem State.setKeySlot_board (i : Nat) (k : KeySlot) : (s.setKeySlot i k).board = s.board := (rfl)
@[simp] theorem State.setKeySlot_ingress (i : Nat) (k : KeySlot) : (s.setKeySlot i k).ingress = s.ingress := (rfl)
@[simp] theorem State.setKeySlot_pwr (i : Nat) (k : KeySlot) : (s.setKeySlot i k).pwr = s.pwr := (rfl)
@[simp] theorem State.setKeySlot_otp (i : Nat) (k : KeySlot) : (s.setKeySlot i k).otp = s.otp := (rfl)
@[simp] theorem State.setKeySlot_otpMem (i : Nat) (k : KeySlot) : (s.setKeySlot i k).otpMem = s.otpMem := (rfl)
@[simp] theorem State.setKeySlot_link (i : Nat) (k : KeySlot) : (s.setKeySlot i k).link = s.link := (rfl)
@[simp] theorem State.setKeySlot_acc (i : Nat) (k : KeySlot) : (s.setKeySlot i k).acc = s.acc := (rfl)
@[simp] theorem State.setKeySlot_uhf (i : Nat) (k : KeySlot) : (s.setKeySlot i k).uhf = s.uhf := (rfl)
@[simp] theorem State.setKeySlot_cph (i : Nat) (k : KeySlot) : (s.setKeySlot i k).cph = s.cph := (rfl)
@[simp] theorem State.setKeySlot_rng (i : Nat) (k : KeySlot) : (s.setKeySlot i k).rng = s.rng := (rfl)
@[simp] theorem State.setKeySlot_ring (i : Nat) (k : KeySlot) : (s.setKeySlot i k).ring = s.ring := (rfl)
@[simp] theorem State.setKeySlot_beam (i : Nat) (k : KeySlot) : (s.setKeySlot i k).beam = s.beam := (rfl)
@[simp] theorem State.setKeySlot_tmr (i : Nat) (k : KeySlot) : (s.setKeySlot i k).tmr = s.tmr := (rfl)
@[simp] theorem State.setKeySlot_crc (i : Nat) (k : KeySlot) : (s.setKeySlot i k).crc = s.crc := (rfl)
@[simp] theorem State.setKeySlot_spi (i : Nat) (k : KeySlot) : (s.setKeySlot i k).spi = s.spi := (rfl)
@[simp] theorem State.setKeySlot_serial (i : Nat) (k : KeySlot) : (s.setKeySlot i k).serial = s.serial := (rfl)
@[simp] theorem State.setKeySlot_gpio (i : Nat) (k : KeySlot) : (s.setKeySlot i k).gpio = s.gpio := (rfl)
@[simp] theorem State.setKeySlot_test (i : Nat) (k : KeySlot) : (s.setKeySlot i k).test = s.test := (rfl)

/-! ### setEntry -/
@[simp] theorem State.setEntry_pending (i : Nat) (e : TokEntry) : (s.setEntry i e).pending = s.pending := (rfl)
@[simp] theorem State.setEntry_out (i : Nat) (e : TokEntry) : (s.setEntry i e).out = s.out := (rfl)
@[simp] theorem State.setEntry_regs (i : Nat) (e : TokEntry) : (s.setEntry i e).regs = s.regs := (rfl)
@[simp] theorem State.setEntry_boardMem (i : Nat) (e : TokEntry) : (s.setEntry i e).boardMem = s.boardMem := (rfl)
@[simp] theorem State.setEntry_planMem (i : Nat) (e : TokEntry) : (s.setEntry i e).planMem = s.planMem := (rfl)
@[simp] theorem State.setEntry_sys (i : Nat) (e : TokEntry) : (s.setEntry i e).sys = s.sys := (rfl)
@[simp] theorem State.setEntry_host (i : Nat) (e : TokEntry) : (s.setEntry i e).host = s.host := (rfl)
@[simp] theorem State.setEntry_txns (i : Nat) (e : TokEntry) : (s.setEntry i e).txns = s.txns := (rfl)
@[simp] theorem State.setEntry_rods (i : Nat) (e : TokEntry) : (s.setEntry i e).rods = s.rods := (rfl)
@[simp] theorem State.setEntry_field (i : Nat) (e : TokEntry) : (s.setEntry i e).field = s.field := (rfl)
@[simp] theorem State.setEntry_round (i : Nat) (e : TokEntry) : (s.setEntry i e).round = s.round := (rfl)
@[simp] theorem State.setEntry_tally (i : Nat) (e : TokEntry) : (s.setEntry i e).tally = s.tally := (rfl)
@[simp] theorem State.setEntry_fifos (i : Nat) (e : TokEntry) : (s.setEntry i e).fifos = s.fifos := (rfl)
@[simp] theorem State.setEntry_board (i : Nat) (e : TokEntry) : (s.setEntry i e).board = s.board := (rfl)
@[simp] theorem State.setEntry_ingress (i : Nat) (e : TokEntry) : (s.setEntry i e).ingress = s.ingress := (rfl)
@[simp] theorem State.setEntry_pwr (i : Nat) (e : TokEntry) : (s.setEntry i e).pwr = s.pwr := (rfl)
@[simp] theorem State.setEntry_otp (i : Nat) (e : TokEntry) : (s.setEntry i e).otp = s.otp := (rfl)
@[simp] theorem State.setEntry_otpMem (i : Nat) (e : TokEntry) : (s.setEntry i e).otpMem = s.otpMem := (rfl)
@[simp] theorem State.setEntry_link (i : Nat) (e : TokEntry) : (s.setEntry i e).link = s.link := (rfl)
@[simp] theorem State.setEntry_acc (i : Nat) (e : TokEntry) : (s.setEntry i e).acc = s.acc := (rfl)
@[simp] theorem State.setEntry_uhf (i : Nat) (e : TokEntry) : (s.setEntry i e).uhf = s.uhf := (rfl)
@[simp] theorem State.setEntry_cph (i : Nat) (e : TokEntry) : (s.setEntry i e).cph = s.cph := (rfl)
@[simp] theorem State.setEntry_rng (i : Nat) (e : TokEntry) : (s.setEntry i e).rng = s.rng := (rfl)
@[simp] theorem State.setEntry_ring (i : Nat) (e : TokEntry) : (s.setEntry i e).ring = s.ring := (rfl)
@[simp] theorem State.setEntry_beam (i : Nat) (e : TokEntry) : (s.setEntry i e).beam = s.beam := (rfl)
@[simp] theorem State.setEntry_tmr (i : Nat) (e : TokEntry) : (s.setEntry i e).tmr = s.tmr := (rfl)
@[simp] theorem State.setEntry_crc (i : Nat) (e : TokEntry) : (s.setEntry i e).crc = s.crc := (rfl)
@[simp] theorem State.setEntry_spi (i : Nat) (e : TokEntry) : (s.setEntry i e).spi = s.spi := (rfl)
@[simp] theorem State.setEntry_serial (i : Nat) (e : TokEntry) : (s.setEntry i e).serial = s.serial := (rfl)
@[simp] theorem State.setEntry_gpio (i : Nat) (e : TokEntry) : (s.setEntry i e).gpio = s.gpio := (rfl)
@[simp] theorem State.setEntry_test (i : Nat) (e : TokEntry) : (s.setEntry i e).test = s.test := (rfl)

/-! ### takeSeq -/
@[simp] theorem State.takeSeq_pending : (s.takeSeq).pending = s.pending := (rfl)
@[simp] theorem State.takeSeq_out : (s.takeSeq).out = s.out := (rfl)
@[simp] theorem State.takeSeq_regs : (s.takeSeq).regs = s.regs := (rfl)
@[simp] theorem State.takeSeq_boardMem : (s.takeSeq).boardMem = s.boardMem := (rfl)
@[simp] theorem State.takeSeq_planMem : (s.takeSeq).planMem = s.planMem := (rfl)
@[simp] theorem State.takeSeq_host : (s.takeSeq).host = s.host := (rfl)
@[simp] theorem State.takeSeq_txns : (s.takeSeq).txns = s.txns := (rfl)
@[simp] theorem State.takeSeq_rods : (s.takeSeq).rods = s.rods := (rfl)
@[simp] theorem State.takeSeq_field : (s.takeSeq).field = s.field := (rfl)
@[simp] theorem State.takeSeq_round : (s.takeSeq).round = s.round := (rfl)
@[simp] theorem State.takeSeq_tally : (s.takeSeq).tally = s.tally := (rfl)
@[simp] theorem State.takeSeq_fifos : (s.takeSeq).fifos = s.fifos := (rfl)
@[simp] theorem State.takeSeq_board : (s.takeSeq).board = s.board := (rfl)
@[simp] theorem State.takeSeq_ingress : (s.takeSeq).ingress = s.ingress := (rfl)
@[simp] theorem State.takeSeq_pwr : (s.takeSeq).pwr = s.pwr := (rfl)
@[simp] theorem State.takeSeq_otp : (s.takeSeq).otp = s.otp := (rfl)
@[simp] theorem State.takeSeq_otpMem : (s.takeSeq).otpMem = s.otpMem := (rfl)
@[simp] theorem State.takeSeq_link : (s.takeSeq).link = s.link := (rfl)
@[simp] theorem State.takeSeq_acc : (s.takeSeq).acc = s.acc := (rfl)
@[simp] theorem State.takeSeq_uhf : (s.takeSeq).uhf = s.uhf := (rfl)
@[simp] theorem State.takeSeq_keys : (s.takeSeq).keys = s.keys := (rfl)
@[simp] theorem State.takeSeq_cph : (s.takeSeq).cph = s.cph := (rfl)
@[simp] theorem State.takeSeq_rng : (s.takeSeq).rng = s.rng := (rfl)
@[simp] theorem State.takeSeq_ring : (s.takeSeq).ring = s.ring := (rfl)
@[simp] theorem State.takeSeq_beam : (s.takeSeq).beam = s.beam := (rfl)
@[simp] theorem State.takeSeq_tmr : (s.takeSeq).tmr = s.tmr := (rfl)
@[simp] theorem State.takeSeq_crc : (s.takeSeq).crc = s.crc := (rfl)
@[simp] theorem State.takeSeq_spi : (s.takeSeq).spi = s.spi := (rfl)
@[simp] theorem State.takeSeq_serial : (s.takeSeq).serial = s.serial := (rfl)
@[simp] theorem State.takeSeq_gpio : (s.takeSeq).gpio = s.gpio := (rfl)
@[simp] theorem State.takeSeq_test : (s.takeSeq).test = s.test := (rfl)

/-! ### Sparse tables -/

theorem tabGet_tabErase_self {α : Type} (d : α) (t : Tab α) (a : Nat) : tabGet d (tabErase t a) a = d := by
  induction t with
  | nil => rfl
  | cons p t ih =>
    obtain ⟨k, v⟩ := p
    simp only [tabErase, List.filter_cons] at ih ⊢
    split
    · rename_i h
      simp only [ne_eq, decide_not, Bool.not_eq_eq_eq_not, Bool.not_true, decide_eq_false_iff_not] at h
      simpa [tabGet, h] using ih
    · exact ih

theorem tabGet_tabErase_ne {α : Type} (d : α) (t : Tab α) {a b : Nat} (h : a ≠ b) :
    tabGet d (tabErase t a) b = tabGet d t b := by
  induction t with
  | nil => rfl
  | cons p t ih =>
    obtain ⟨k, v⟩ := p
    simp only [tabErase, List.filter_cons] at ih ⊢
    split
    · simp only [tabGet, ih]
    · rename_i hk
      simp only [ne_eq, decide_not, Bool.not_eq_eq_eq_not, Bool.not_true, Bool.not_eq_false, decide_eq_true_eq] at hk
      subst hk
      simpa [tabGet, h] using ih

theorem tabGet_tabIns_self {α : Type} (d v : α) (t : Tab α) (a : Nat) (h : ∀ p ∈ t, p.1 ≠ a) :
    tabGet d (tabIns a v t) a = v := by
  induction t with
  | nil => simp [tabIns, tabGet]
  | cons p t ih =>
    obtain ⟨k, w⟩ := p
    have hk : k ≠ a := h (k, w) (by simp)
    simp only [tabIns]
    split
    · simp [tabGet]
    · simp only [tabGet, hk, if_false]
      exact ih (fun q hq => h q (by simp [hq]))

theorem tabGet_tabIns_ne {α : Type} (d v : α) (t : Tab α) {a b : Nat} (h : a ≠ b) :
    tabGet d (tabIns a v t) b = tabGet d t b := by
  induction t with
  | nil => simp [tabIns, tabGet, h]
  | cons p t ih =>
    obtain ⟨k, w⟩ := p
    simp only [tabIns]
    split
    · simp [tabGet, h]
    · simp [tabGet, ih]

/-- A table reads at a key what was set there. -/
@[simp] theorem tabGet_tabSet_self {α : Type} [DecidableEq α] (d v : α) (t : Tab α) (a : Nat) :
    tabGet d (tabSet d t a v) a = v := by
  unfold tabSet
  split
  · rename_i h; rw [tabGet_tabErase_self, h]
  · exact tabGet_tabIns_self d v _ a (by simp [tabErase])

/-- Setting one key leaves what every other key reads, whatever its default. -/
theorem tabGet_tabSet_ne {α : Type} [DecidableEq α] (d e v : α) (t : Tab α) {a b : Nat} (h : a ≠ b) :
    tabGet e (tabSet d t a v) b = tabGet e t b := by
  unfold tabSet
  split
  · exact tabGet_tabErase_ne e t h
  · rw [tabGet_tabIns_ne e v _ h, tabGet_tabErase_ne e t h]

theorem tabGet_tabDrop {α : Type} (d : α) (p : Nat → Bool) (t : Tab α) (a : Nat) :
    tabGet d (tabDrop p t) a = if p a then d else tabGet d t a := by
  induction t with
  | nil => simp [tabDrop, tabGet]
  | cons q t ih =>
    obtain ⟨k, v⟩ := q
    simp only [tabDrop, List.filter_cons] at ih ⊢
    by_cases hk : k = a
    · subst hk
      cases hp : p k <;> simp [tabGet, hp] at ih ⊢
      exact ih
    · cases hp : p k <;> simp [tabGet, hk, ih]

/-! ### Register fields -/

/-- A field reads what was written to it, cut to its width. -/
@[simp] theorem State.rd_wr_self (f : Fld) (i v : Nat) : (s.wr f i v).rd f i = v % f.size := by
  simp [State.rd, State.wr]

/-- A write of one field leaves every field with another key. -/
theorem State.rd_wr_ne {f g : Fld} {i j : Nat} (h : f.key i ≠ g.key j) (v : Nat) :
    (s.wr f i v).rd g j = s.rd g j := tabGet_tabSet_ne _ _ _ _ h

/-- A field after a write of a field: the written value where the keys agree, unchanged elsewhere. -/
theorem State.rd_wr (f g : Fld) (i j v : Nat) (hd : f.key i = g.key j → f.dflt i = g.dflt j) :
    (s.wr f i v).rd g j = if f.key i = g.key j then v % f.size else s.rd g j := by
  split
  · rename_i h
    simp [State.rd, State.wr, ← h, hd h]
  · rename_i h; exact s.rd_wr_ne h v

/-- A reset of the registers at some addresses: those read their reset values, the others are unchanged. -/
theorem State.rd_resetRegs (p : Nat → Bool) (f : Fld) (i : Nat) :
    (s.resetRegs p).rd f i = if p (f.key i / 32) then f.dflt i else s.rd f i :=
  tabGet_tabDrop (f.dflt i) (fun k => p (k / 32)) s.regs (f.key i)

/-- Reading a field depends on the registers alone. -/
theorem State.rd_congr {s t : State} (h : t.regs = s.regs) (f : Fld) (i : Nat) : t.rd f i = s.rd f i := by
  simp [State.rd, h]

/-! ### Vectors -/

@[simp] theorem vget_vset_self {α : Type} {n : Nat} (v : Vector α n) (i : Fin n) (a : α) : vget (vset v i a) i = a := by
  simp [vget, vset, Vector.get_eq_getElem]

theorem vget_vset_ne {α : Type} {n : Nat} (v : Vector α n) {i j : Fin n} (a : α) (h : i ≠ j) :
    vget (vset v i a) j = vget v j := by
  have : i.val ≠ j.val := fun e => h (Fin.ext e)
  simp [vget, vset, Vector.get_eq_getElem, this]

@[simp] theorem vget_vmod_self {α : Type} {n : Nat} (v : Vector α n) (i : Fin n) (f : α → α) :
    vget (vmod v i f) i = f (vget v i) := by simp [vmod]

theorem vget_vmod_ne {α : Type} {n : Nat} (v : Vector α n) {i j : Fin n} (f : α → α) (h : i ≠ j) :
    vget (vmod v i f) j = vget v j := vget_vset_ne v _ h

@[simp] theorem vget_replicate {α : Type} {n : Nat} (a : α) (i : Fin n) : vget (Vector.replicate n a) i = a := by
  simp [vget, Vector.get_eq_getElem]

/-! ### Rods, FIFOs, timers -/

@[simp] theorem State.rod_modRod_self (n : Fin 24) (f : Rod → Rod) : (s.modRod n f).rod n = f (s.rod n) := by
  simp [State.rod]

theorem State.rod_modRod_ne {n m : Fin 24} (h : n ≠ m) (f : Rod → Rod) : (s.modRod n f).rod m = s.rod m :=
  vget_vmod_ne _ f h

@[simp] theorem State.fifo_modFifo_self (q : Fin 25) (f : Fifo → Fifo) : (s.modFifo q f).fifo q = f (s.fifo q) := by
  simp [State.fifo]

theorem State.fifo_modFifo_ne {q r : Fin 25} (h : q ≠ r) (f : Fifo → Fifo) : (s.modFifo q f).fifo r = s.fifo r :=
  vget_vmod_ne _ f h

/-! ### Running a function for each element -/

@[simp] theorem forAll_nil {σ α : Type} (f : α → σ → σ) (x : σ) : forAll [] f x = x := (rfl)
@[simp] theorem forAll_cons {σ α : Type} (a : α) (l : List α) (f : α → σ → σ) (x : σ) :
    forAll (a :: l) f x = forAll l f (f a x) := rfl
@[simp] theorem onSome_none {σ α : Type} (f : α → σ → σ) (x : σ) : onSome none f x = x := (rfl)
@[simp] theorem onSome_some {σ α : Type} (a : α) (f : α → σ → σ) (x : σ) : onSome (some a) f x = f a x := (rfl)
@[simp] theorem when_true {σ : Type} (f : σ → σ) (x : σ) : when true f x = f x := (rfl)
@[simp] theorem when_false {σ : Type} (f : σ → σ) (x : σ) : when false f x = x := (rfl)

/-- What each run of `f` keeps, running it over a list keeps. -/
theorem forAll_keeps {σ α β : Type} (g : σ → β) {f : α → σ → σ} (h : ∀ a x, g (f a x) = g x) (l : List α) (x : σ) :
    g (forAll l f x) = g x := by
  induction l generalizing x with
  | nil => rfl
  | cons a l ih => simp [ih, h]

/-- What each run of `f` preserves, running it over a list preserves. -/
theorem forAll_inv {σ α : Type} (p : σ → Prop) {f : α → σ → σ} (h : ∀ a x, p x → p (f a x)) (l : List α) (x : σ) (hx : p x) :
    p (forAll l f x) := by
  induction l generalizing x with
  | nil => exact hx
  | cons a l ih => exact ih _ (h a x hx)

theorem onSome_keeps {σ α β : Type} (g : σ → β) {f : α → σ → σ} (h : ∀ a x, g (f a x) = g x) (o : Option α) (x : σ) :
    g (onSome o f x) = g x := by cases o <;> simp [h]

/-! ### Commands that write registers and nothing else -/

theorem RegsOnly.refl (s : State) : RegsOnly s s [] := ⟨rfl, fun _ _ _ => rfl⟩

theorem RegsOnly.wr (s : State) (f : Fld) (i v : Nat) : RegsOnly s (s.wr f i v) [f.key i] :=
  ⟨rfl, fun g j h => s.rd_wr_ne (fun e => h (by simp [e])) v⟩

theorem RegsOnly.trans {s t u : State} {k l : List Nat} (h : RegsOnly s t k) (g : RegsOnly t u l) :
    RegsOnly s u (k ++ l) := by
  obtain ⟨h1, h2⟩ := h
  obtain ⟨g1, g2⟩ := g
  refine ⟨by rw [g1, h1], fun f i hk => ?_⟩
  simp only [List.mem_append, not_or] at hk
  rw [g2 f i hk.2, h2 f i hk.1]

theorem RegsOnly.mono {s t : State} {k l : List Nat} (h : RegsOnly s t k) (g : ∀ a ∈ k, a ∈ l) : RegsOnly s t l :=
  ⟨h.1, fun f i hk => h.2 f i (fun e => hk (g _ e))⟩

/-- A write after a write. -/
theorem RegsOnly.then {s t : State} {k : List Nat} (h : RegsOnly s t k) (f : Fld) (i v : Nat) :
    RegsOnly s (t.wr f i v) (k ++ [f.key i]) := h.trans (RegsOnly.wr t f i v)

/-- An error of the host interface (R104, R105). -/
theorem State.hostErr_noted {b : Nat} (hb : b < 8) (kind ring addr : Nat) :
    HostErrNoted s (s.hostErr b kind ring addr) b kind ring addr := by
  have hk : ∀ {g : Fld}, g ∈ [F.HOST_ERR_SRC_RING, F.HOST_ERR_SRC_KIND, F.HOST_ERR_SRC_BIT, F.HOST_ERR_ADDR_LO_ADDR,
      F.HOST_ERR_ADDR_HI_ADDR] → g.key 0 ≠ (hostErrBit b).key 0 := by
    intro g hg
    simp only [List.mem_cons, List.not_mem_nil, or_false] at hg
    rcases hg with rfl | rfl | rfl | rfl | rfl <;> simp only [Fld.key, fldKey, hostErrBit] <;> omega
  by_cases ha : ((List.range 8).any fun i => s.rd ⟨0x2008, 0, i, i, 0, 0⟩ != 0) = true
  · have e : s.hostErr b kind ring addr = s.wr (hostErrBit b) 0 1 := by simp only [State.hostErr]; rw [if_pos ha]; rfl
    rw [e]
    have r : RegsOnly s (s.wr (hostErrBit b) 0 1) [fldKey 0x2008 b] := RegsOnly.wr s (hostErrBit b) 0 1
    refine ⟨by simp [Fld.size, hostErrBit], fun h0 => ?_, fun _ => r, r.mono (by simp [hostErrKeys])⟩
    simp only [List.any_eq_true, List.mem_range, bne_iff_ne, ne_eq] at ha
    obtain ⟨i, hi, hn⟩ := ha
    exact absurd (h0 i hi) hn
  · have e : s.hostErr b kind ring addr = (((((s.wr (hostErrBit b) 0 1).wr F.HOST_ERR_SRC_RING 0 ring).wr F.HOST_ERR_SRC_KIND 0
        kind).wr F.HOST_ERR_SRC_BIT 0 b).wr F.HOST_ERR_ADDR_LO_ADDR 0 addr).wr F.HOST_ERR_ADDR_HI_ADDR 0 (addr / 2 ^ 32) := by
      simp only [State.hostErr]; rw [if_neg ha]; rfl
    rw [e]
    refine ⟨?_, fun _ => ⟨?_, ?_, ?_, ?_, ?_⟩, fun ⟨i, hi, hn⟩ => ?_, ?_⟩
    · iterate 5 rw [State.rd_wr_ne _ (hk (by simp))]
      simp [Fld.size, hostErrBit]
    · iterate 4 rw [State.rd_wr_ne _ (by decide)]
      simp [Fld.size]
    · iterate 3 rw [State.rd_wr_ne _ (by decide)]
      simp [Fld.size]
    · iterate 2 rw [State.rd_wr_ne _ (by decide)]
      simp [Fld.size]
    · iterate 1 rw [State.rd_wr_ne _ (by decide)]
      simp [Fld.size]
    · simp [Fld.size]
    · exfalso; apply ha
      simp only [List.any_eq_true, List.mem_range, bne_iff_ne, ne_eq]
      exact ⟨i, hi, hn⟩
    · refine ((((((RegsOnly.wr s (hostErrBit b) 0 1).then F.HOST_ERR_SRC_RING 0 ring).then F.HOST_ERR_SRC_KIND 0 kind).then
        F.HOST_ERR_SRC_BIT 0 b).then F.HOST_ERR_ADDR_LO_ADDR 0 addr).then F.HOST_ERR_ADDR_HI_ADDR 0 (addr / 2 ^ 32)).mono ?_
      simp [hostErrKeys, hostErrBit, Fld.key]

end Sys2Proof.Machine
end

