-- ==== Sys2Proof/Laws/Keep1.lean ====
section
/-! SUPPORT. What each shared operation leaves alone: the queue, the OTP values and the bytes of the two memories,
of the FIFOs, the counting board, the host rings and the rods' shared operations. -/

namespace Sys2Proof.Machine
open Sys2Proof

/-! ### Helpers -/

@[simp] theorem ite_pending (c : Prop) [Decidable c] (a b : State) :
    (if c then a else b).pending = if c then a.pending else b.pending := by split <;> rfl
@[simp] theorem forAll_pending {α : Type} {f : α → State → State} (h : ∀ a s, (f a s).pending = s.pending) (l : List α) (s : State) :
    (forAll l f s).pending = s.pending := forAll_keeps State.pending h l s
@[simp] theorem onSome_pending {α : Type} {f : α → State → State} (h : ∀ a s, (f a s).pending = s.pending) (o : Option α) (s : State) :
    (onSome o f s).pending = s.pending := by cases o <;> simp [h]
@[simp] theorem when_pending {f : State → State} (h : ∀ s, (f s).pending = s.pending) (c : Bool) (s : State) :
    (when c f s).pending = s.pending := by cases c <;> simp [h]
@[simp] theorem ite_otp (c : Prop) [Decidable c] (a b : State) :
    (if c then a else b).otp = if c then a.otp else b.otp := by split <;> rfl
@[simp] theorem forAll_otp {α : Type} {f : α → State → State} (h : ∀ a s, (f a s).otp = s.otp) (l : List α) (s : State) :
    (forAll l f s).otp = s.otp := forAll_keeps State.otp h l s
@[simp] theorem onSome_otp {α : Type} {f : α → State → State} (h : ∀ a s, (f a s).otp = s.otp) (o : Option α) (s : State) :
    (onSome o f s).otp = s.otp := by cases o <;> simp [h]
@[simp] theorem when_otp {f : State → State} (h : ∀ s, (f s).otp = s.otp) (c : Bool) (s : State) :
    (when c f s).otp = s.otp := by cases c <;> simp [h]
@[simp] theorem ite_boardMem (c : Prop) [Decidable c] (a b : State) :
    (if c then a else b).boardMem = if c then a.boardMem else b.boardMem := by split <;> rfl
@[simp] theorem forAll_boardMem {α : Type} {f : α → State → State} (h : ∀ a s, (f a s).boardMem = s.boardMem) (l : List α) (s : State) :
    (forAll l f s).boardMem = s.boardMem := forAll_keeps State.boardMem h l s
@[simp] theorem onSome_boardMem {α : Type} {f : α → State → State} (h : ∀ a s, (f a s).boardMem = s.boardMem) (o : Option α) (s : State) :
    (onSome o f s).boardMem = s.boardMem := by cases o <;> simp [h]
@[simp] theorem when_boardMem {f : State → State} (h : ∀ s, (f s).boardMem = s.boardMem) (c : Bool) (s : State) :
    (when c f s).boardMem = s.boardMem := by cases c <;> simp [h]
@[simp] theorem ite_planMem (c : Prop) [Decidable c] (a b : State) :
    (if c then a else b).planMem = if c then a.planMem else b.planMem := by split <;> rfl
@[simp] theorem forAll_planMem {α : Type} {f : α → State → State} (h : ∀ a s, (f a s).planMem = s.planMem) (l : List α) (s : State) :
    (forAll l f s).planMem = s.planMem := forAll_keeps State.planMem h l s
@[simp] theorem onSome_planMem {α : Type} {f : α → State → State} (h : ∀ a s, (f a s).planMem = s.planMem) (o : Option α) (s : State) :
    (onSome o f s).planMem = s.planMem := by cases o <;> simp [h]
@[simp] theorem when_planMem {f : State → State} (h : ∀ s, (f s).planMem = s.planMem) (c : Bool) (s : State) :
    (when c f s).planMem = s.planMem := by cases c <;> simp [h]

/-! ### Ops -/

@[simp] theorem State.drawFree_keeps (s : State) :
    (State.drawFree s).1.pending = s.pending ∧ (State.drawFree s).1.otp = s.otp ∧ (State.drawFree s).1.boardMem = s.boardMem ∧ (State.drawFree s).1.planMem = s.planMem := by
  unfold State.drawFree
  refine ⟨?_, ?_, ?_, ?_⟩ <;> (repeat' split) <;> simp
@[simp] theorem State.accessFault_keeps (s : State) (addr : Nat) (write beam : Bool) :
    (State.accessFault s addr write beam).pending = s.pending ∧ (State.accessFault s addr write beam).otp = s.otp ∧ (State.accessFault s addr write beam).boardMem = s.boardMem ∧ (State.accessFault s addr write beam).planMem = s.planMem := by
  unfold State.accessFault
  refine ⟨?_, ?_, ?_, ?_⟩ <;> (repeat' split) <;> simp
theorem State.hostWrite_keeps {β : Type} (g : State → β) (s : State) (addr : Nat) (f : State → State)
    (h : g (f s) = g s) (ha : g (s.accessFault addr true false) = g s) : g (s.hostWrite addr f) = g s := by
  unfold State.hostWrite; split <;> assumption
@[simp] theorem State.hostWrite_pending (s : State) (addr : Nat) (f : State → State) (h : (f s).pending = s.pending) :
    (s.hostWrite addr f).pending = s.pending := s.hostWrite_keeps State.pending addr f h (by simp)
@[simp] theorem State.hostWrite_otp (s : State) (addr : Nat) (f : State → State) (h : (f s).otp = s.otp) :
    (s.hostWrite addr f).otp = s.otp := s.hostWrite_keeps State.otp addr f h (by simp)
@[simp] theorem State.hostWrite_boardMem (s : State) (addr : Nat) (f : State → State) (h : (f s).boardMem = s.boardMem) :
    (s.hostWrite addr f).boardMem = s.boardMem := s.hostWrite_keeps State.boardMem addr f h (by simp)
@[simp] theorem State.hostWrite_planMem (s : State) (addr : Nat) (f : State → State) (h : (f s).planMem = s.planMem) :
    (s.hostWrite addr f).planMem = s.planMem := s.hostWrite_keeps State.planMem addr f h (by simp)
@[simp] theorem State.stageEvent_keeps (s : State) (e : Event) :
    (State.stageEvent s e).pending = s.pending ∧ (State.stageEvent s e).otp = s.otp ∧ (State.stageEvent s e).boardMem = s.boardMem ∧ (State.stageEvent s e).planMem = s.planMem := by
  unfold State.stageEvent
  refine ⟨?_, ?_, ?_, ?_⟩ <;> (repeat' split) <;> simp
@[simp] theorem State.raiseRaw_keeps (s : State) (e : Event) :
    (State.raiseRaw s e).pending = s.pending ∧ (State.raiseRaw s e).otp = s.otp ∧ (State.raiseRaw s e).boardMem = s.boardMem ∧ (State.raiseRaw s e).planMem = s.planMem := by
  unfold State.raiseRaw
  refine ⟨?_, ?_, ?_, ?_⟩ <;> (repeat' split) <;> simp
@[simp] theorem State.raise_keeps (s : State) (c : EventCode) (unit : Nat) (detail : List Byte) :
    (State.raise s c unit detail).pending = s.pending ∧ (State.raise s c unit detail).otp = s.otp ∧ (State.raise s c unit detail).boardMem = s.boardMem ∧ (State.raise s c unit detail).planMem = s.planMem := by
  unfold State.raise
  refine ⟨?_, ?_, ?_, ?_⟩ <;> (repeat' split) <;> simp
@[simp] theorem State.finish_keeps (s : State) (id : Nat) (st : Status) :
    (State.finish s id st).pending = s.pending ∧ (State.finish s id st).otp = s.otp ∧ (State.finish s id st).boardMem = s.boardMem ∧ (State.finish s id st).planMem = s.planMem := by
  unfold State.finish
  refine ⟨?_, ?_, ?_, ?_⟩ <;> (repeat' split) <;> simp
@[simp] theorem State.notePeak_keeps (s : State) :
    (State.notePeak s).pending = s.pending ∧ (State.notePeak s).otp = s.otp ∧ (State.notePeak s).boardMem = s.boardMem ∧ (State.notePeak s).planMem = s.planMem := by
  unfold State.notePeak
  refine ⟨?_, ?_, ?_, ?_⟩ <;> (repeat' split) <;> simp
@[simp] theorem State.fifoOverrun_keeps (s : State) (f : Fin 25) (lost : Nat) :
    (State.fifoOverrun s f lost).pending = s.pending ∧ (State.fifoOverrun s f lost).otp = s.otp ∧ (State.fifoOverrun s f lost).boardMem = s.boardMem ∧ (State.fifoOverrun s f lost).planMem = s.planMem := by
  unfold State.fifoOverrun
  refine ⟨?_, ?_, ?_, ?_⟩ <;> (repeat' split) <;> simp
@[simp] theorem State.publish_keeps (s : State) (f : Fin 25) (ps placed : List Packet) :
    (State.publish s f ps placed).pending = s.pending ∧ (State.publish s f ps placed).otp = s.otp ∧ (State.publish s f ps placed).boardMem = s.boardMem ∧ (State.publish s f ps placed).planMem = s.planMem := by
  unfold State.publish
  refine ⟨?_, ?_, ?_, ?_⟩ <;> (repeat' split) <;> simp
@[simp] theorem State.discardGroup_keeps (s : State) (f : Fin 25) (ps : List Packet) (txn : Option Nat) :
    (State.discardGroup s f ps txn).pending = s.pending ∧ (State.discardGroup s f ps txn).otp = s.otp ∧ (State.discardGroup s f ps txn).boardMem = s.boardMem ∧ (State.discardGroup s f ps txn).planMem = s.planMem := by
  unfold State.discardGroup
  refine ⟨?_, ?_, ?_, ?_⟩ <;> (repeat' split) <;> simp
@[simp] theorem State.writeGroup_keeps (s : State) (f : Fin 25) (ps : List Packet) (txn : Option Nat) :
    (State.writeGroup s f ps txn).pending = s.pending ∧ (State.writeGroup s f ps txn).otp = s.otp ∧ (State.writeGroup s f ps txn).boardMem = s.boardMem ∧ (State.writeGroup s f ps txn).planMem = s.planMem := by
  unfold State.writeGroup
  refine ⟨?_, ?_, ?_, ?_⟩ <;> (repeat' split) <;> simp
@[simp] theorem State.startGroup_keeps (s : State) (f : Fin 25) (txn : Option Nat) (credits need : Nat) :
    (State.startGroup s f txn credits need).pending = s.pending ∧ (State.startGroup s f txn credits need).otp = s.otp ∧ (State.startGroup s f txn credits need).boardMem = s.boardMem ∧ (State.startGroup s f txn credits need).planMem = s.planMem := by
  unfold State.startGroup
  refine ⟨?_, ?_, ?_, ?_⟩ <;> (repeat' split) <;> simp
@[simp] theorem State.lostSoFar_keeps (s : State) (f : Fin 25) (g : OpenGroup) :
    (State.lostSoFar s f g).1.pending = s.pending ∧ (State.lostSoFar s f g).1.otp = s.otp ∧ (State.lostSoFar s f g).1.boardMem = s.boardMem ∧ (State.lostSoFar s f g).1.planMem = s.planMem := by
  unfold State.lostSoFar
  dsimp only
  refine ⟨?_, ?_, ?_, ?_⟩ <;> (repeat' split) <;> (try simp) <;> (repeat' split) <;> (try simp)
@[simp] theorem State.emit_keeps (s : State) (f : Fin 25) (rs : List RecordData) (txn : Option Nat) :
    (State.emit s f rs txn).pending = s.pending ∧ (State.emit s f rs txn).otp = s.otp ∧ (State.emit s f rs txn).boardMem = s.boardMem ∧ (State.emit s f rs txn).planMem = s.planMem := by
  unfold State.emit
  refine ⟨?_, ?_, ?_, ?_⟩ <;> (repeat' split) <;> simp
@[simp] theorem State.startWaiting_keeps (f : Fin 25) (k0 : Nat) (s : State) :
    (State.startWaiting f k0 s).pending = s.pending ∧ (State.startWaiting f k0 s).otp = s.otp ∧ (State.startWaiting f k0 s).boardMem = s.boardMem ∧ (State.startWaiting f k0 s).planMem = s.planMem := by
  induction k0 generalizing s with
  | zero => simp [State.startWaiting]
  | succ k ih =>
    unfold State.startWaiting
    refine ⟨?_, ?_, ?_, ?_⟩ <;> (repeat' split) <;> simp [ih]
@[simp] theorem State.flushProducer_keeps (s : State) (f : Fin 25) :
    (State.flushProducer s f).pending = s.pending ∧ (State.flushProducer s f).otp = s.otp ∧ (State.flushProducer s f).boardMem = s.boardMem ∧ (State.flushProducer s f).planMem = s.planMem := by
  unfold State.flushProducer
  refine ⟨?_, ?_, ?_, ?_⟩ <;> (repeat' split) <;> simp
@[simp] theorem State.flushGroup_keeps (s : State) (f : Fin 25) (id : Nat) :
    (State.flushGroup s f id).pending = s.pending ∧ (State.flushGroup s f id).otp = s.otp ∧ (State.flushGroup s f id).boardMem = s.boardMem ∧ (State.flushGroup s f id).planMem = s.planMem := by
  unfold State.flushGroup
  refine ⟨?_, ?_, ?_, ?_⟩ <;> (repeat' split) <;> simp
@[simp] theorem State.closeGroup_keeps (s : State) (f : Fin 25) (r : RecordData) (id : Nat) :
    (State.closeGroup s f r id).pending = s.pending ∧ (State.closeGroup s f r id).otp = s.otp ∧ (State.closeGroup s f r id).boardMem = s.boardMem ∧ (State.closeGroup s f r id).planMem = s.planMem := by
  unfold State.closeGroup
  refine ⟨?_, ?_, ?_, ?_⟩ <;> (repeat' split) <;> simp
@[simp] theorem State.emitAcc_keeps (s : State) (type : RecType) (status : Status) (source : Nat) (t : Txn) (stamp : DWord) (content : List Byte) :
    (State.emitAcc s type status source t stamp content).pending = s.pending ∧ (State.emitAcc s type status source t stamp content).otp = s.otp ∧ (State.emitAcc s type status source t stamp content).boardMem = s.boardMem ∧ (State.emitAcc s type status source t stamp content).planMem = s.planMem := by
  unfold State.emitAcc
  refine ⟨?_, ?_, ?_, ?_⟩ <;> (repeat' split) <;> simp

/-! ### CrcOps -/

@[simp] theorem State.freeStart_keeps (s : State) (l : List Byte) :
    (State.freeStart s l).1.pending = s.pending ∧ (State.freeStart s l).1.otp = s.otp ∧ (State.freeStart s l).1.boardMem = s.boardMem ∧ (State.freeStart s l).1.planMem = s.planMem := by
  unfold State.freeStart
  refine ⟨?_, ?_, ?_, ?_⟩ <;> (repeat' split) <;> simp
@[simp] theorem State.freeBytes_keeps (s : State) :
    (State.freeBytes s).1.pending = s.pending ∧ (State.freeBytes s).1.otp = s.otp ∧ (State.freeBytes s).1.boardMem = s.boardMem ∧ (State.freeBytes s).1.planMem = s.planMem := by
  unfold State.freeBytes
  refine ⟨?_, ?_, ?_, ?_⟩ <;> (repeat' split) <;> simp
@[simp] theorem State.crcTake_keeps (s : State) (u : Fin 4) (l : List Byte) :
    (State.crcTake s u l).pending = s.pending ∧ (State.crcTake s u l).otp = s.otp ∧ (State.crcTake s u l).boardMem = s.boardMem ∧ (State.crcTake s u l).planMem = s.planMem := by
  unfold State.crcTake
  refine ⟨?_, ?_, ?_, ?_⟩ <;> (repeat' split) <;> simp
@[simp] theorem State.crcFeed_keeps (s : State) (stream : Nat) (l : List Byte) :
    (State.crcFeed s stream l).pending = s.pending ∧ (State.crcFeed s stream l).otp = s.otp ∧ (State.crcFeed s stream l).boardMem = s.boardMem ∧ (State.crcFeed s stream l).planMem = s.planMem := by
  unfold State.crcFeed
  refine ⟨?_, ?_, ?_, ?_⟩ <;> (repeat' split) <;> simp
@[simp] theorem State.crcQuiet_keeps (s : State) (stream : Nat) :
    (State.crcQuiet s stream).pending = s.pending ∧ (State.crcQuiet s stream).otp = s.otp ∧ (State.crcQuiet s stream).boardMem = s.boardMem ∧ (State.crcQuiet s stream).planMem = s.planMem := by
  unfold State.crcQuiet
  refine ⟨?_, ?_, ?_, ?_⟩ <;> (repeat' split) <;> simp
@[simp] theorem State.crcCut_keeps (s : State) (stream : Nat) (known : Option (List Byte)) :
    (State.crcCut s stream known).pending = s.pending ∧ (State.crcCut s stream known).otp = s.otp ∧ (State.crcCut s stream known).boardMem = s.boardMem ∧ (State.crcCut s stream known).planMem = s.planMem := by
  unfold State.crcCut
  refine ⟨?_, ?_, ?_, ?_⟩ <;> (repeat' split) <;> simp

/-! ### TimerOps -/

@[simp] theorem State.roundStart_keeps (s : State) (k : Nat) :
    (State.roundStart s k).pending = s.pending ∧ (State.roundStart s k).otp = s.otp ∧ (State.roundStart s k).boardMem = s.boardMem ∧ (State.roundStart s k).planMem = s.planMem := by
  unfold State.roundStart
  refine ⟨?_, ?_, ?_, ?_⟩ <;> (repeat' split) <;> simp
@[simp] theorem State.raiseFlags_keeps (s : State) (n : Fin 16) (m o c : Bool) :
    (State.raiseFlags s n m o c).pending = s.pending ∧ (State.raiseFlags s n m o c).otp = s.otp ∧ (State.raiseFlags s n m o c).boardMem = s.boardMem ∧ (State.raiseFlags s n m o c).planMem = s.planMem := by
  unfold State.raiseFlags
  refine ⟨?_, ?_, ?_, ?_⟩ <;> (repeat' split) <;> simp
@[simp] theorem State.timerRound_keeps (s : State) (n : Fin 16) :
    (State.timerRound s n).pending = s.pending ∧ (State.timerRound s n).otp = s.otp ∧ (State.timerRound s n).boardMem = s.boardMem ∧ (State.timerRound s n).planMem = s.planMem := by
  unfold State.timerRound
  refine ⟨?_, ?_, ?_, ?_⟩ <;> (repeat' split) <;> simp
@[simp] theorem State.tick_keeps (s : State) (n : Fin 16) :
    (State.tick s n).pending = s.pending ∧ (State.tick s n).otp = s.otp ∧ (State.tick s n).boardMem = s.boardMem ∧ (State.tick s n).planMem = s.planMem := by
  unfold State.tick
  refine ⟨?_, ?_, ?_, ?_⟩ <;> (repeat' split) <;> simp
@[simp] theorem State.tickAll_keeps (s : State) (clk : Nat) (p : State → Fin 16 → Bool) :
    (State.tickAll s clk p).pending = s.pending ∧ (State.tickAll s clk p).otp = s.otp ∧ (State.tickAll s clk p).boardMem = s.boardMem ∧ (State.tickAll s clk p).planMem = s.planMem := by
  unfold State.tickAll
  refine ⟨?_, ?_, ?_, ?_⟩ <;> (repeat' split) <;> simp
@[simp] theorem State.capture_keeps (s : State) (n : Fin 16) :
    (State.capture s n).pending = s.pending ∧ (State.capture s n).otp = s.otp ∧ (State.capture s n).boardMem = s.boardMem ∧ (State.capture s n).planMem = s.planMem := by
  unfold State.capture
  refine ⟨?_, ?_, ?_, ?_⟩ <;> (repeat' split) <;> simp
@[simp] theorem State.signalEdge_keeps (s : State) (src : Nat) (rising : Bool) :
    (State.signalEdge s src rising).pending = s.pending ∧ (State.signalEdge s src rising).otp = s.otp ∧ (State.signalEdge s src rising).boardMem = s.boardMem ∧ (State.signalEdge s src rising).planMem = s.planMem := by
  unfold State.signalEdge
  refine ⟨?_, ?_, ?_, ?_⟩ <;> (repeat' split) <;> simp
@[simp] theorem State.signalEdges_keeps (s : State) (src k old new : Nat) :
    (State.signalEdges s src k old new).pending = s.pending ∧ (State.signalEdges s src k old new).otp = s.otp ∧ (State.signalEdges s src k old new).boardMem = s.boardMem ∧ (State.signalEdges s src k old new).planMem = s.planMem := by
  unfold State.signalEdges
  refine ⟨?_, ?_, ?_, ?_⟩ <;> (repeat' split) <;> simp
@[simp] theorem State.fieldEdge_keeps (s : State) (n : Fin 24) (was now : Carrier) :
    (State.fieldEdge s n was now).pending = s.pending ∧ (State.fieldEdge s n was now).otp = s.otp ∧ (State.fieldEdge s n was now).boardMem = s.boardMem ∧ (State.fieldEdge s n was now).planMem = s.planMem := by
  unfold State.fieldEdge
  refine ⟨?_, ?_, ?_, ?_⟩ <;> (repeat' split) <;> simp
@[simp] theorem State.gateEdges_keeps (s : State) (tgate : Nat) :
    (State.gateEdges s tgate).pending = s.pending ∧ (State.gateEdges s tgate).otp = s.otp ∧ (State.gateEdges s tgate).boardMem = s.boardMem ∧ (State.gateEdges s tgate).planMem = s.planMem := by
  unfold State.gateEdges
  refine ⟨?_, ?_, ?_, ?_⟩ <;> (repeat' split) <;> simp

/-! ### Slots -/

@[simp] theorem State.bufWrite_keeps (s : State) (addr : Nat) (bytes : List Byte) :
    (State.bufWrite s addr bytes).pending = s.pending ∧ (State.bufWrite s addr bytes).otp = s.otp ∧ (State.bufWrite s addr bytes).boardMem = s.boardMem ∧ (State.bufWrite s addr bytes).planMem = s.planMem := by
  unfold State.bufWrite
  refine ⟨?_, ?_, ?_, ?_⟩ <;> (repeat' split) <;> simp
@[simp] theorem State.flushOwed_keeps (s : State) :
    (State.flushOwed s).pending = s.pending ∧ (State.flushOwed s).otp = s.otp ∧ (State.flushOwed s).boardMem = s.boardMem ∧ (State.flushOwed s).planMem = s.planMem := by
  unfold State.flushOwed
  refine ⟨?_, ?_, ?_, ?_⟩ <;> (repeat' split) <;> simp

/-! ### Board -/

@[simp] theorem State.sealTile_keeps (s : State) (t : Fin 64) :
    (State.sealTile s t).pending = s.pending ∧ (State.sealTile s t).otp = s.otp ∧ (State.sealTile s t).boardMem = s.boardMem ∧ (State.sealTile s t).planMem = s.planMem := by
  unfold State.sealTile
  refine ⟨?_, ?_, ?_, ?_⟩ <;> (repeat' split) <;> simp
@[simp] theorem State.sealOpen_keeps (s : State) :
    (State.sealOpen s).pending = s.pending ∧ (State.sealOpen s).otp = s.otp ∧ (State.sealOpen s).boardMem = s.boardMem ∧ (State.sealOpen s).planMem = s.planMem := by
  unfold State.sealOpen
  refine ⟨?_, ?_, ?_, ?_⟩ <;> (repeat' split) <;> simp
@[simp] theorem State.agedSeal_keeps (s : State) :
    (State.agedSeal s).pending = s.pending ∧ (State.agedSeal s).otp = s.otp ∧ (State.agedSeal s).boardMem = s.boardMem ∧ (State.agedSeal s).planMem = s.planMem := by
  unfold State.agedSeal
  refine ⟨?_, ?_, ?_, ?_⟩ <;> (repeat' split) <;> simp
@[simp] theorem State.roomFor_keeps (s : State) (len : Nat) :
    (s.roomFor len).1.pending = s.pending ∧ (s.roomFor len).1.otp = s.otp ∧ (s.roomFor len).1.boardMem = s.boardMem ∧
      (s.roomFor len).1.planMem = s.planMem := by
  simp only [State.roomFor]
  refine ⟨?_, ?_, ?_, ?_⟩ <;> (repeat' split) <;> simp
@[simp] theorem State.storeItem_keeps (s : State) (t : Fin 64) (bytes : List Byte) (r : BoardRec) :
    (State.storeItem s t bytes r).pending = s.pending ∧ (State.storeItem s t bytes r).otp = s.otp ∧ (State.storeItem s t bytes r).planMem = s.planMem := by
  unfold State.storeItem
  refine ⟨?_, ?_, ?_⟩ <;> (repeat' split) <;> simp
@[simp] theorem State.stall_keeps (s : State) :
    (State.stall s).pending = s.pending ∧ (State.stall s).otp = s.otp ∧ (State.stall s).boardMem = s.boardMem ∧ (State.stall s).planMem = s.planMem := by
  unfold State.stall
  refine ⟨?_, ?_, ?_, ?_⟩ <;> (repeat' split) <;> simp
@[simp] theorem State.commitPair_keeps (s : State) (t : Fin 64) (e : Event) :
    (State.commitPair s t e).pending = s.pending ∧ (State.commitPair s t e).otp = s.otp ∧ (State.commitPair s t e).planMem = s.planMem := by
  unfold State.commitPair
  refine ⟨?_, ?_, ?_⟩ <;> (repeat' split) <;> simp
@[simp] theorem State.commitEvents_keeps (k : Nat) (s : State) :
    (State.commitEvents k s).pending = s.pending ∧ (State.commitEvents k s).otp = s.otp ∧
      (State.commitEvents k s).planMem = s.planMem := by
  induction k generalizing s with
  | zero => simp [State.commitEvents]
  | succ k ih =>
    unfold State.commitEvents
    split
    · simp
    · split
      · simp
      · split <;> rename_i s1 _ h <;> have e := congrArg Prod.fst h <;> simp only at e <;> subst e <;> simp [ih]
@[simp] theorem State.settleEvents_keeps (s : State) :
    (State.settleEvents s).pending = s.pending ∧ (State.settleEvents s).otp = s.otp ∧ (State.settleEvents s).planMem = s.planMem := by
  unfold State.settleEvents
  refine ⟨?_, ?_, ?_⟩ <;> (repeat' split) <;> simp
@[simp] theorem State.resumeDrain_keeps (s : State) :
    (State.resumeDrain s).pending = s.pending ∧ (State.resumeDrain s).otp = s.otp ∧ (State.resumeDrain s).planMem = s.planMem := by
  unfold State.resumeDrain
  refine ⟨?_, ?_, ?_⟩ <;> (repeat' split) <;> simp
@[simp] theorem State.commitRecord_keeps (s : State) (p : Packet) (status : Nat) (content : List Byte) (stamp : DWord)
    (origin : Option (Nat × Word)) :
    (s.commitRecord p status content stamp origin).1.pending = s.pending ∧
      (s.commitRecord p status content stamp origin).1.otp = s.otp ∧
      (s.commitRecord p status content stamp origin).1.planMem = s.planMem := by
  have k := s.roomFor_keeps (recordLen content.length)
  generalize hr : s.roomFor (recordLen content.length) = r at k
  simp only [State.commitRecord, hr]
  obtain ⟨s1, t⟩ := r
  simp only at k
  cases t <;> cases origin <;> simp [k]
@[simp] theorem State.doomPlans_keeps (s : State) (t : Nat) :
    (State.doomPlans s t).pending = s.pending ∧ (State.doomPlans s t).otp = s.otp ∧ (State.doomPlans s t).boardMem = s.boardMem ∧ (State.doomPlans s t).planMem = s.planMem := by
  unfold State.doomPlans
  refine ⟨?_, ?_, ?_, ?_⟩ <;> (repeat' split) <;> simp
@[simp] theorem State.planTileOut_keeps (s : State) (t : Fin 16) :
    (State.planTileOut s t).pending = s.pending ∧ (State.planTileOut s t).otp = s.otp ∧ (State.planTileOut s t).boardMem = s.boardMem ∧ (State.planTileOut s t).planMem = s.planMem := by
  unfold State.planTileOut
  refine ⟨?_, ?_, ?_, ?_⟩ <;> (repeat' split) <;> simp
@[simp] theorem State.endLoad_keeps (s : State) (t : Fin 16) (expected : Word) :
    (State.endLoad s t expected).1.pending = s.pending ∧ (State.endLoad s t expected).1.otp = s.otp ∧ (State.endLoad s t expected).1.boardMem = s.boardMem ∧ (State.endLoad s t expected).1.planMem = s.planMem := by
  unfold State.endLoad
  refine ⟨?_, ?_, ?_, ?_⟩ <;> (repeat' split) <;> simp
@[simp] theorem State.fillPlanTile_keeps (s : State) (t : Fin 16) (bytes : List Byte) :
    (State.fillPlanTile s t bytes).pending = s.pending ∧ (State.fillPlanTile s t bytes).otp = s.otp ∧ (State.fillPlanTile s t bytes).boardMem = s.boardMem := by
  unfold State.fillPlanTile
  refine ⟨?_, ?_, ?_⟩ <;> (repeat' split) <;> simp
@[simp] theorem State.verifyPlanTile_keeps (s : State) (t : Fin 16) (crcs : List (Nat × Word)) :
    (State.verifyPlanTile s t crcs).1.pending = s.pending ∧ (State.verifyPlanTile s t crcs).1.otp = s.otp ∧ (State.verifyPlanTile s t crcs).1.boardMem = s.boardMem ∧ (State.verifyPlanTile s t crcs).1.planMem = s.planMem := by
  unfold State.verifyPlanTile
  refine ⟨?_, ?_, ?_, ?_⟩ <;> (repeat' split) <;> simp
@[simp] theorem State.verifyPlanTiles_keeps (crcs : List (Nat × Word)) (l : List Nat) (s : State) :
    (State.verifyPlanTiles crcs l s).1.pending = s.pending ∧ (State.verifyPlanTiles crcs l s).1.otp = s.otp ∧
      (State.verifyPlanTiles crcs l s).1.boardMem = s.boardMem ∧
      (State.verifyPlanTiles crcs l s).1.planMem = s.planMem := by
  induction l generalizing s with
  | nil => simp [State.verifyPlanTiles]
  | cons a l ih =>
    unfold State.verifyPlanTiles
    simp [ih]

/-! ### RingFlow -/

@[simp] theorem State.setHolds_keeps (s : State) (up b : Bool) :
    (State.setHolds s up b).pending = s.pending ∧ (State.setHolds s up b).otp = s.otp ∧ (State.setHolds s up b).boardMem = s.boardMem ∧ (State.setHolds s up b).planMem = s.planMem := by
  unfold State.setHolds
  refine ⟨?_, ?_, ?_, ?_⟩ <;> (repeat' split) <;> simp
@[simp] theorem State.flowCheck_keeps (s : State) (up : Bool) :
    (State.flowCheck s up).pending = s.pending ∧ (State.flowCheck s up).otp = s.otp ∧ (State.flowCheck s up).boardMem = s.boardMem ∧ (State.flowCheck s up).planMem = s.planMem := by
  unfold State.flowCheck
  refine ⟨?_, ?_, ?_, ?_⟩ <;> (repeat' split) <;> simp

/-! ### BoardCmds -/

@[simp] theorem State.uncorrectable_keeps (f : Fin 25) (addr : Nat) (s : State) :
    (State.uncorrectable f addr s).pending = s.pending ∧ (State.uncorrectable f addr s).otp = s.otp ∧ (State.uncorrectable f addr s).boardMem = s.boardMem ∧ (State.uncorrectable f addr s).planMem = s.planMem := by
  unfold State.uncorrectable
  refine ⟨?_, ?_, ?_, ?_⟩ <;> (repeat' split) <;> simp
@[simp] theorem State.failTxn_keeps (id : Nat) (s : State) :
    (State.failTxn id s).pending = s.pending ∧ (State.failTxn id s).otp = s.otp ∧ (State.failTxn id s).boardMem = s.boardMem ∧ (State.failTxn id s).planMem = s.planMem := by
  unfold State.failTxn
  refine ⟨?_, ?_, ?_, ?_⟩ <;> (repeat' split) <;> simp
@[simp] theorem State.dropDrained_keeps (s : State) (f : Fin 25) (k : Nat) :
    (State.dropDrained s f k).pending = s.pending ∧ (State.dropDrained s f k).otp = s.otp ∧ (State.dropDrained s f k).boardMem = s.boardMem ∧ (State.dropDrained s f k).planMem = s.planMem := by
  unfold State.dropDrained
  refine ⟨?_, ?_, ?_, ?_⟩ <;> (repeat' split) <;> simp
@[simp] theorem State.drainPacket_keeps (s : State) (f : Fin 25) (p : Packet) (ecc : List (Nat × Bool)) :
    (s.drainPacket f p ecc).pending = s.pending ∧ (s.drainPacket f p ecc).otp = s.otp ∧
      (s.drainPacket f p ecc).planMem = s.planMem := by
  unfold State.drainPacket
  simp only
  (repeat' split) <;> rename_i s1 h <;> have k := congrArg Prod.fst h <;> simp only at k <;> subst k <;> simp
@[simp] theorem State.drainIngress_keeps (s : State) (r : RingItem) :
    (s.drainIngress r).pending = s.pending ∧ (s.drainIngress r).otp = s.otp ∧ (s.drainIngress r).planMem = s.planMem := by
  unfold State.drainIngress
  split
  · simp
  · simp only
    split <;> rename_i s1 h <;> have k := congrArg Prod.fst h <;> simp only at k <;> subst k <;> simp
@[simp] theorem State.served_keeps (s : State) (k : Nat) :
    (State.served s k).pending = s.pending ∧ (State.served s k).otp = s.otp ∧ (State.served s k).boardMem = s.boardMem ∧ (State.served s k).planMem = s.planMem := by
  unfold State.served
  refine ⟨?_, ?_, ?_, ?_⟩ <;> (repeat' split) <;> simp
@[simp] theorem State.changeMode_keeps (s : State) (f : Fin 25) :
    (State.changeMode s f).pending = s.pending ∧ (State.changeMode s f).otp = s.otp ∧ (State.changeMode s f).boardMem = s.boardMem ∧ (State.changeMode s f).planMem = s.planMem := by
  unfold State.changeMode
  refine ⟨?_, ?_, ?_, ?_⟩ <;> (repeat' split) <;> simp
@[simp] theorem writeFifoCfg_keeps (f : Fin 25) (w : Word) (s : State) :
    (writeFifoCfg f w s).pending = s.pending ∧ (writeFifoCfg f w s).otp = s.otp ∧ (writeFifoCfg f w s).boardMem = s.boardMem ∧ (writeFifoCfg f w s).planMem = s.planMem := by
  unfold writeFifoCfg
  refine ⟨?_, ?_, ?_, ?_⟩ <;> (repeat' split) <;> simp
@[simp] theorem writeBrdCfg_keeps (w : Word) (s : State) :
    (writeBrdCfg w s).pending = s.pending ∧ (writeBrdCfg w s).otp = s.otp ∧ (writeBrdCfg w s).boardMem = s.boardMem ∧ (writeBrdCfg w s).planMem = s.planMem := by
  unfold writeBrdCfg
  refine ⟨?_, ?_, ?_, ?_⟩ <;> (repeat' split) <;> simp
@[simp] theorem writeBrdCtl_keeps (w : Word) (s : State) :
    (writeBrdCtl w s).pending = s.pending ∧ (writeBrdCtl w s).otp = s.otp ∧ (writeBrdCtl w s).boardMem = s.boardMem ∧ (writeBrdCtl w s).planMem = s.planMem := by
  unfold writeBrdCtl
  refine ⟨?_, ?_, ?_, ?_⟩ <;> (repeat' split) <;> simp
@[simp] theorem State.loseRecords_keeps (s : State) (t : Fin 64) :
    (State.loseRecords s t).pending = s.pending ∧ (State.loseRecords s t).otp = s.otp ∧ (State.loseRecords s t).boardMem = s.boardMem ∧ (State.loseRecords s t).planMem = s.planMem := by
  unfold State.loseRecords
  refine ⟨?_, ?_, ?_, ?_⟩ <;> (repeat' split) <;> simp
@[simp] theorem State.freeTile_keeps (s : State) (t : Fin 64) :
    (State.freeTile s t).pending = s.pending ∧ (State.freeTile s t).otp = s.otp ∧ (State.freeTile s t).planMem = s.planMem := by
  unfold State.freeTile
  refine ⟨?_, ?_, ?_⟩ <;> (repeat' split) <;> simp
@[simp] theorem writeTileCtl_keeps (w : Word) (bad : Bool) (s : State) :
    (writeTileCtl w bad s).pending = s.pending ∧ (writeTileCtl w bad s).otp = s.otp ∧ (writeTileCtl w bad s).planMem = s.planMem := by
  unfold writeTileCtl
  refine ⟨?_, ?_, ?_⟩ <;> (repeat' split) <;> simp

/-! ### HostRings -/

@[simp] theorem State.hostErr_keeps (s : State) (b kind ring addr : Nat) :
    (State.hostErr s b kind ring addr).pending = s.pending ∧ (State.hostErr s b kind ring addr).otp = s.otp ∧ (State.hostErr s b kind ring addr).boardMem = s.boardMem ∧ (State.hostErr s b kind ring addr).planMem = s.planMem := by
  unfold State.hostErr
  refine ⟨?_, ?_, ?_, ?_⟩ <;> (repeat' split) <;> simp
@[simp] theorem State.hostFault_keeps (s : State) (kind ring b : Nat) :
    (State.hostFault s kind ring b).pending = s.pending ∧ (State.hostFault s kind ring b).otp = s.otp ∧ (State.hostFault s kind ring b).boardMem = s.boardMem ∧ (State.hostFault s kind ring b).planMem = s.planMem := by
  unfold State.hostFault
  refine ⟨?_, ?_, ?_, ?_⟩ <;> (repeat' split) <;> simp
@[simp] theorem State.sendVector_keeps (s : State) (v : Nat) :
    (State.sendVector s v).pending = s.pending ∧ (State.sendVector s v).otp = s.otp ∧ (State.sendVector s v).boardMem = s.boardMem ∧ (State.sendVector s v).planMem = s.planMem := by
  unfold State.sendVector
  refine ⟨?_, ?_, ?_, ?_⟩ <;> (repeat' split) <;> simp
@[simp] theorem State.signal_keeps (s : State) (r : Fin 21) :
    (State.signal s r).pending = s.pending ∧ (State.signal s r).otp = s.otp ∧ (State.signal s r).boardMem = s.boardMem ∧ (State.signal s r).planMem = s.planMem := by
  unfold State.signal
  refine ⟨?_, ?_, ?_, ?_⟩ <;> (repeat' split) <;> simp
@[simp] theorem State.checkSignal_keeps (s : State) (r : Fin 21) :
    (State.checkSignal s r).pending = s.pending ∧ (State.checkSignal s r).otp = s.otp ∧ (State.checkSignal s r).boardMem = s.boardMem ∧ (State.checkSignal s r).planMem = s.planMem := by
  unfold State.checkSignal
  refine ⟨?_, ?_, ?_, ?_⟩ <;> (repeat' split) <;> simp
@[simp] theorem State.noteEntry_keeps (s : State) (r : Fin 21) :
    (State.noteEntry s r).pending = s.pending ∧ (State.noteEntry s r).otp = s.otp ∧ (State.noteEntry s r).boardMem = s.boardMem ∧ (State.noteEntry s r).planMem = s.planMem := by
  unfold State.noteEntry
  refine ⟨?_, ?_, ?_, ?_⟩ <;> (repeat' split) <;> simp
@[simp] theorem State.writeEntry_keeps (s : State) (addr : Nat) (b : List Byte) (phase : Bool) :
    (State.writeEntry s addr b phase).pending = s.pending ∧ (State.writeEntry s addr b phase).otp = s.otp ∧ (State.writeEntry s addr b phase).boardMem = s.boardMem ∧ (State.writeEntry s addr b phase).planMem = s.planMem := by
  unfold State.writeEntry
  refine ⟨?_, ?_, ?_, ?_⟩ <;> (repeat' split) <;> simp
@[simp] theorem State.advance_keeps (s : State) (r : Fin 21) (k : Nat) :
    (State.advance s r k).pending = s.pending ∧ (State.advance s r k).otp = s.otp ∧ (State.advance s r k).boardMem = s.boardMem ∧ (State.advance s r k).planMem = s.planMem := by
  unfold State.advance
  refine ⟨?_, ?_, ?_, ?_⟩ <;> (repeat' split) <;> simp
@[simp] theorem State.commitCompletion_keeps (s : State) (t : Txn) (q m : Nat) :
    (State.commitCompletion s t q m).pending = s.pending ∧ (State.commitCompletion s t q m).otp = s.otp ∧ (State.commitCompletion s t q m).boardMem = s.boardMem ∧ (State.commitCompletion s t q m).planMem = s.planMem := by
  unfold State.commitCompletion
  refine ⟨?_, ?_, ?_, ?_⟩ <;> (repeat' split) <;> simp
@[simp] theorem State.beamStatus_keeps (s : State) (n : Nat) :
    (State.beamStatus s n).pending = s.pending ∧ (State.beamStatus s n).otp = s.otp ∧ (State.beamStatus s n).boardMem = s.boardMem ∧ (State.beamStatus s n).planMem = s.planMem := by
  unfold State.beamStatus
  refine ⟨?_, ?_, ?_, ?_⟩ <;> (repeat' split) <;> simp
@[simp] theorem State.markLeft_keeps (s : State) (t : Fin 64) (q : Word) :
    (State.markLeft s t q).pending = s.pending ∧ (State.markLeft s t q).otp = s.otp ∧ (State.markLeft s t q).boardMem = s.boardMem ∧ (State.markLeft s t q).planMem = s.planMem := by
  unfold State.markLeft
  refine ⟨?_, ?_, ?_, ?_⟩ <;> (repeat' split) <;> simp
@[simp] theorem State.writePad_keeps (s : State) (r : Fin 21) (k : Nat) :
    (State.writePad s r k).pending = s.pending ∧ (State.writePad s r k).otp = s.otp ∧ (State.writePad s r k).boardMem = s.boardMem ∧ (State.writePad s r k).planMem = s.planMem := by
  unfold State.writePad
  refine ⟨?_, ?_, ?_, ?_⟩ <;> (repeat' split) <;> simp
@[simp] theorem State.writeRecord_keeps (s : State) (r : Fin 21) (b : List Byte) :
    (State.writeRecord s r b).pending = s.pending ∧ (State.writeRecord s r b).otp = s.otp ∧ (State.writeRecord s r b).boardMem = s.boardMem ∧ (State.writeRecord s r b).planMem = s.planMem := by
  unfold State.writeRecord
  refine ⟨?_, ?_, ?_, ?_⟩ <;> (repeat' split) <;> simp
@[simp] theorem State.askVerify_keeps (s : State) :
    (State.askVerify s).pending = s.pending ∧ (State.askVerify s).otp = s.otp ∧ (State.askVerify s).boardMem = s.boardMem ∧ (State.askVerify s).planMem = s.planMem := by
  unfold State.askVerify
  refine ⟨?_, ?_, ?_, ?_⟩ <;> (repeat' split) <;> simp
@[simp] theorem State.egressRecord_keeps (s : State) (k : Fin 4) (t : Fin 64) (rec : BoardRec) :
    (State.egressRecord s k t rec).pending = s.pending ∧ (State.egressRecord s k t rec).otp = s.otp ∧ (State.egressRecord s k t rec).boardMem = s.boardMem ∧ (State.egressRecord s k t rec).planMem = s.planMem := by
  unfold State.egressRecord
  refine ⟨?_, ?_, ?_, ?_⟩ <;> (repeat' split) <;> simp
@[simp] theorem State.tileVerified_keeps (s : State) (t : Fin 64) (crc : Word) :
    (State.tileVerified s t crc).pending = s.pending ∧ (State.tileVerified s t crc).otp = s.otp ∧ (State.tileVerified s t crc).boardMem = s.boardMem ∧ (State.tileVerified s t crc).planMem = s.planMem := by
  unfold State.tileVerified
  refine ⟨?_, ?_, ?_, ?_⟩ <;> (repeat' split) <;> simp
@[simp] theorem State.reportOverflow_keeps (s : State) :
    (State.reportOverflow s).pending = s.pending ∧ (State.reportOverflow s).otp = s.otp ∧ (State.reportOverflow s).boardMem = s.boardMem ∧ (State.reportOverflow s).planMem = s.planMem := by
  unfold State.reportOverflow
  refine ⟨?_, ?_, ?_, ?_⟩ <;> (repeat' split) <;> simp
@[simp] theorem State.commitEvent_keeps (s : State) (e : Event) :
    (State.commitEvent s e).pending = s.pending ∧ (State.commitEvent s e).otp = s.otp ∧ (State.commitEvent s e).boardMem = s.boardMem ∧ (State.commitEvent s e).planMem = s.planMem := by
  unfold State.commitEvent
  refine ⟨?_, ?_, ?_, ?_⟩ <;> (repeat' split) <;> simp
@[simp] theorem State.rejectDoorbell_keeps (s : State) (b kind ring addr : Nat) :
    (State.rejectDoorbell s b kind ring addr).pending = s.pending ∧ (State.rejectDoorbell s b kind ring addr).otp = s.otp ∧ (State.rejectDoorbell s b kind ring addr).boardMem = s.boardMem ∧ (State.rejectDoorbell s b kind ring addr).planMem = s.planMem := by
  unfold State.rejectDoorbell
  refine ⟨?_, ?_, ?_, ?_⟩ <;> (repeat' split) <;> simp
@[simp] theorem writeSqDoorbell_keeps (q : Fin 32) (w : Word) (s : State) :
    (writeSqDoorbell q w s).pending = s.pending ∧ (writeSqDoorbell q w s).otp = s.otp ∧ (writeSqDoorbell q w s).boardMem = s.boardMem ∧ (writeSqDoorbell q w s).planMem = s.planMem := by
  unfold writeSqDoorbell
  refine ⟨?_, ?_, ?_, ?_⟩ <;> (repeat' split) <;> simp
@[simp] theorem State.consume_keeps (s : State) (r : Fin 21) (head : Nat) :
    (State.consume s r head).pending = s.pending ∧ (State.consume s r head).otp = s.otp ∧ (State.consume s r head).boardMem = s.boardMem ∧ (State.consume s r head).planMem = s.planMem := by
  unfold State.consume
  refine ⟨?_, ?_, ?_, ?_⟩ <;> (repeat' split) <;> simp
@[simp] theorem writeHeadDoorbell_keeps (r : DevRing) (w : Word) (s : State) :
    (writeHeadDoorbell r w s).pending = s.pending ∧ (writeHeadDoorbell r w s).otp = s.otp ∧ (writeHeadDoorbell r w s).boardMem = s.boardMem ∧ (writeHeadDoorbell r w s).planMem = s.planMem := by
  unfold writeHeadDoorbell
  refine ⟨?_, ?_, ?_, ?_⟩ <;> (repeat' split) <;> simp
@[simp] theorem State.setTearing_keeps (s : State) (q : Fin 32) (b : Bool) :
    (State.setTearing s q b).pending = s.pending ∧ (State.setTearing s q b).otp = s.otp ∧ (State.setTearing s q b).boardMem = s.boardMem ∧ (State.setTearing s q b).planMem = s.planMem := by
  unfold State.setTearing
  refine ⟨?_, ?_, ?_, ?_⟩ <;> (repeat' split) <;> simp
@[simp] theorem State.cfgBusy_keeps (s : State) (kind ring addr : Nat) :
    (State.cfgBusy s kind ring addr).pending = s.pending ∧ (State.cfgBusy s kind ring addr).otp = s.otp ∧ (State.cfgBusy s kind ring addr).boardMem = s.boardMem ∧ (State.cfgBusy s kind ring addr).planMem = s.planMem := by
  unfold State.cfgBusy
  refine ⟨?_, ?_, ?_, ?_⟩ <;> (repeat' split) <;> simp
@[simp] theorem writeLocked_keeps (en : Bool) (f : Fld) (i v : Nat) (legal : Bool) (kind ring addr : Nat) (s : State) :
    (writeLocked en f i v legal kind ring addr s).pending = s.pending ∧ (writeLocked en f i v legal kind ring addr s).otp = s.otp ∧ (writeLocked en f i v legal kind ring addr s).boardMem = s.boardMem ∧ (writeLocked en f i v legal kind ring addr s).planMem = s.planMem := by
  unfold writeLocked
  refine ⟨?_, ?_, ?_, ?_⟩ <;> (repeat' split) <;> simp
@[simp] theorem State.startSq_keeps (s : State) (q : Nat) :
    (State.startSq s q).pending = s.pending ∧ (State.startSq s q).otp = s.otp ∧ (State.startSq s q).boardMem = s.boardMem ∧ (State.startSq s q).planMem = s.planMem := by
  unfold State.startSq
  refine ⟨?_, ?_, ?_, ?_⟩ <;> (repeat' split) <;> simp
@[simp] theorem writeSqCfg_keeps (q : Fin 32) (w : Nat) (s : State) :
    (writeSqCfg q w s).pending = s.pending ∧ (writeSqCfg q w s).otp = s.otp ∧ (writeSqCfg q w s).boardMem = s.boardMem ∧ (writeSqCfg q w s).planMem = s.planMem := by
  unfold writeSqCfg
  refine ⟨?_, ?_, ?_, ?_⟩ <;> (repeat' split) <;> simp
@[simp] theorem State.startRing_keeps (s : State) (r : Fin 21) :
    (State.startRing s r).pending = s.pending ∧ (State.startRing s r).otp = s.otp ∧ (State.startRing s r).boardMem = s.boardMem ∧ (State.startRing s r).planMem = s.planMem := by
  unfold State.startRing
  refine ⟨?_, ?_, ?_, ?_⟩ <;> (repeat' split) <;> simp
@[simp] theorem writeDevCfg_keeps (r : DevRing) (w : Nat) (s : State) :
    (writeDevCfg r w s).pending = s.pending ∧ (writeDevCfg r w s).otp = s.otp ∧ (writeDevCfg r w s).boardMem = s.boardMem ∧ (writeDevCfg r w s).planMem = s.planMem := by
  unfold writeDevCfg
  refine ⟨?_, ?_, ?_, ?_⟩ <;> (repeat' split) <;> simp
@[simp] theorem writeDevMod_keeps (r : DevRing) (w : Nat) (s : State) :
    (writeDevMod r w s).pending = s.pending ∧ (writeDevMod r w s).otp = s.otp ∧ (writeDevMod r w s).boardMem = s.boardMem ∧ (writeDevMod r w s).planMem = s.planMem := by
  unfold writeDevMod
  refine ⟨?_, ?_, ?_, ?_⟩ <;> (repeat' split) <;> simp
@[simp] theorem writeRingCfg_keeps (addr : Nat) (w : Word) (s : State) :
    (writeRingCfg addr w s).pending = s.pending ∧ (writeRingCfg addr w s).otp = s.otp ∧ (writeRingCfg addr w s).boardMem = s.boardMem ∧ (writeRingCfg addr w s).planMem = s.planMem := by
  unfold writeRingCfg
  refine ⟨?_, ?_, ?_, ?_⟩ <;> (repeat' split) <;> simp
@[simp] theorem State.flushPba_keeps (s : State) :
    (State.flushPba s).pending = s.pending ∧ (State.flushPba s).otp = s.otp ∧ (State.flushPba s).boardMem = s.boardMem ∧ (State.flushPba s).planMem = s.planMem := by
  unfold State.flushPba
  refine ⟨?_, ?_, ?_, ?_⟩ <;> (repeat' split) <;> simp
@[simp] theorem State.hostReset_keeps (s : State) :
    (State.hostReset s).pending = s.pending ∧ (State.hostReset s).otp = s.otp ∧ (State.hostReset s).boardMem = s.boardMem ∧ (State.hostReset s).planMem = s.planMem := by
  unfold State.hostReset
  refine ⟨?_, ?_, ?_, ?_⟩ <;> (repeat' split) <;> simp
@[simp] theorem State.reportReset_keeps (s : State) :
    (State.reportReset s).pending = s.pending ∧ (State.reportReset s).otp = s.otp ∧ (State.reportReset s).boardMem = s.boardMem ∧ (State.reportReset s).planMem = s.planMem := by
  unfold State.reportReset
  refine ⟨?_, ?_, ?_, ?_⟩ <;> (repeat' split) <;> simp
@[simp] theorem State.noteReset_keeps (s : State) (b : Nat) :
    (State.noteReset s b).pending = s.pending ∧ (State.noteReset s b).otp = s.otp ∧ (State.noteReset s b).boardMem = s.boardMem ∧ (State.noteReset s b).planMem = s.planMem := by
  unfold State.noteReset
  refine ⟨?_, ?_, ?_, ?_⟩ <;> (repeat' split) <;> simp
@[simp] theorem State.freeHostPads_keeps (s : State) :
    (State.freeHostPads s).pending = s.pending ∧ (State.freeHostPads s).otp = s.otp ∧ (State.freeHostPads s).boardMem = s.boardMem ∧ (State.freeHostPads s).planMem = s.planMem := by
  unfold State.freeHostPads
  refine ⟨?_, ?_, ?_, ?_⟩ <;> (repeat' split) <;> simp
@[simp] theorem writeTbLo_keeps (w : Word) (s : State) :
    (writeTbLo w s).pending = s.pending ∧ (writeTbLo w s).otp = s.otp ∧ (writeTbLo w s).boardMem = s.boardMem ∧ (writeTbLo w s).planMem = s.planMem := by
  unfold writeTbLo
  refine ⟨?_, ?_, ?_, ?_⟩ <;> (repeat' split) <;> simp
@[simp] theorem writeTbHi_keeps (w : Word) (s : State) :
    (writeTbHi w s).pending = s.pending ∧ (writeTbHi w s).otp = s.otp ∧ (writeTbHi w s).boardMem = s.boardMem ∧ (writeTbHi w s).planMem = s.planMem := by
  unfold writeTbHi
  refine ⟨?_, ?_, ?_, ?_⟩ <;> (repeat' split) <;> simp
@[simp] theorem writeSlotPeak_keeps (w : Word) (s : State) :
    (writeSlotPeak w s).pending = s.pending ∧ (writeSlotPeak w s).otp = s.otp ∧ (writeSlotPeak w s).boardMem = s.boardMem ∧ (writeSlotPeak w s).planMem = s.planMem := by
  unfold writeSlotPeak
  refine ⟨?_, ?_, ?_, ?_⟩ <;> (repeat' split) <;> simp
@[simp] theorem writeHostDrop_keeps (w : Word) (s : State) :
    (writeHostDrop w s).pending = s.pending ∧ (writeHostDrop w s).otp = s.otp ∧ (writeHostDrop w s).boardMem = s.boardMem ∧ (writeHostDrop w s).planMem = s.planMem := by
  unfold writeHostDrop
  refine ⟨?_, ?_, ?_, ?_⟩ <;> (repeat' split) <;> simp

/-! ### RodOps -/

@[simp] theorem State.setQueue_keeps (s : State) (q : List Start) :
    (State.setQueue s q).pending = s.pending ∧ (State.setQueue s q).otp = s.otp ∧ (State.setQueue s q).boardMem = s.boardMem ∧ (State.setQueue s q).planMem = s.planMem := by
  unfold State.setQueue
  refine ⟨?_, ?_, ?_, ?_⟩ <;> (repeat' split) <;> simp
@[simp] theorem State.dequeue_keeps (s : State) (n : Nat) :
    (State.dequeue s n).pending = s.pending ∧ (State.dequeue s n).otp = s.otp ∧ (State.dequeue s n).boardMem = s.boardMem ∧ (State.dequeue s n).planMem = s.planMem := by
  unfold State.dequeue
  refine ⟨?_, ?_, ?_, ?_⟩ <;> (repeat' split) <;> simp
@[simp] theorem State.dequeueOf_keeps (s : State) (n : Nat) (o : Option Nat) :
    (State.dequeueOf s n o).pending = s.pending ∧ (State.dequeueOf s n o).otp = s.otp ∧ (State.dequeueOf s n o).boardMem = s.boardMem ∧ (State.dequeueOf s n o).planMem = s.planMem := by
  unfold State.dequeueOf
  refine ⟨?_, ?_, ?_, ?_⟩ <;> (repeat' split) <;> simp
@[simp] theorem State.makeStart_keeps (s : State) (n : Fin 24) (b : Nat) :
    (State.makeStart s n b).pending = s.pending ∧ (State.makeStart s n b).otp = s.otp ∧ (State.makeStart s n b).boardMem = s.boardMem ∧ (State.makeStart s n b).planMem = s.planMem := by
  unfold State.makeStart
  refine ⟨?_, ?_, ?_, ?_⟩ <;> (repeat' split) <;> simp
@[simp] theorem State.setSpeaker_keeps (s : State) (z : Fin 8) (v : Option Nat) :
    (State.setSpeaker s z v).pending = s.pending ∧ (State.setSpeaker s z v).otp = s.otp ∧ (State.setSpeaker s z v).boardMem = s.boardMem ∧ (State.setSpeaker s z v).planMem = s.planMem := by
  unfold State.setSpeaker
  refine ⟨?_, ?_, ?_, ?_⟩ <;> (repeat' split) <;> simp
@[simp] theorem State.dropRequest_keeps (s : State) (n : Fin 24) :
    (State.dropRequest s n).pending = s.pending ∧ (State.dropRequest s n).otp = s.otp ∧ (State.dropRequest s n).boardMem = s.boardMem ∧ (State.dropRequest s n).planMem = s.planMem := by
  unfold State.dropRequest
  refine ⟨?_, ?_, ?_, ?_⟩ <;> (repeat' split) <;> simp
@[simp] theorem State.askStart_keeps (s : State) (n : Fin 24) (b : Nat) (o : Option Nat) :
    (State.askStart s n b o).pending = s.pending ∧ (State.askStart s n b o).otp = s.otp ∧ (State.askStart s n b o).boardMem = s.boardMem ∧ (State.askStart s n b o).planMem = s.planMem := by
  unfold State.askStart
  refine ⟨?_, ?_, ?_, ?_⟩ <;> (repeat' split) <;> simp
@[simp] theorem State.setPower_keeps (s : State) (n : Fin 24) (b : Nat) (o : Option Nat) :
    (State.setPower s n b o).pending = s.pending ∧ (State.setPower s n b o).otp = s.otp ∧ (State.setPower s n b o).boardMem = s.boardMem ∧ (State.setPower s n b o).planMem = s.planMem := by
  unfold State.setPower
  refine ⟨?_, ?_, ?_, ?_⟩ <;> (repeat' split) <;> simp
@[simp] theorem State.powerInForce_keeps (s : State) (n : Fin 24) :
    (State.powerInForce s n).pending = s.pending ∧ (State.powerInForce s n).otp = s.otp ∧ (State.powerInForce s n).boardMem = s.boardMem ∧ (State.powerInForce s n).planMem = s.planMem := by
  unfold State.powerInForce
  refine ⟨?_, ?_, ?_, ?_⟩ <;> (repeat' split) <;> simp
@[simp] theorem State.takePhase_keeps (s : State) (n : Fin 24) (k : RodSnap) :
    (State.takePhase s n k).pending = s.pending ∧ (State.takePhase s n k).otp = s.otp ∧ (State.takePhase s n k).boardMem = s.boardMem ∧ (State.takePhase s n k).planMem = s.planMem := by
  unfold State.takePhase
  refine ⟨?_, ?_, ?_, ?_⟩ <;> (repeat' split) <;> simp
@[simp] theorem State.settingsInForce_keeps (s : State) (n : Fin 24) :
    (State.settingsInForce s n).pending = s.pending ∧ (State.settingsInForce s n).otp = s.otp ∧ (State.settingsInForce s n).boardMem = s.boardMem ∧ (State.settingsInForce s n).planMem = s.planMem := by
  unfold State.settingsInForce
  refine ⟨?_, ?_, ?_, ?_⟩ <;> (repeat' split) <;> simp
@[simp] theorem State.passStart_keeps (s : State) (n id : Nat) :
    (State.passStart s n id).pending = s.pending ∧ (State.passStart s n id).otp = s.otp ∧ (State.passStart s n id).boardMem = s.boardMem ∧ (State.passStart s n id).planMem = s.planMem := by
  unfold State.passStart
  refine ⟨?_, ?_, ?_, ?_⟩ <;> (repeat' split) <;> simp
@[simp] theorem State.rampDown_keeps (s : State) (n : Fin 24) :
    (State.rampDown s n).pending = s.pending ∧ (State.rampDown s n).otp = s.otp ∧ (State.rampDown s n).boardMem = s.boardMem ∧ (State.rampDown s n).planMem = s.planMem := by
  unfold State.rampDown
  refine ⟨?_, ?_, ?_, ?_⟩ <;> (repeat' split) <;> simp
@[simp] theorem State.fieldOff_keeps (s : State) (n : Fin 24) :
    (State.fieldOff s n).pending = s.pending ∧ (State.fieldOff s n).otp = s.otp ∧ (State.fieldOff s n).boardMem = s.boardMem ∧ (State.fieldOff s n).planMem = s.planMem := by
  unfold State.fieldOff
  refine ⟨?_, ?_, ?_, ?_⟩ <;> (repeat' split) <;> simp
@[simp] theorem State.raiseReq_keeps (s : State) (n : Fin 24) :
    (State.raiseReq s n).pending = s.pending ∧ (State.raiseReq s n).otp = s.otp ∧ (State.raiseReq s n).boardMem = s.boardMem ∧ (State.raiseReq s n).planMem = s.planMem := by
  unfold State.raiseReq
  refine ⟨?_, ?_, ?_, ?_⟩ <;> (repeat' split) <;> simp
@[simp] theorem State.releaseGrant_keeps (s : State) (n : Fin 24) :
    (State.releaseGrant s n).pending = s.pending ∧ (State.releaseGrant s n).otp = s.otp ∧ (State.releaseGrant s n).boardMem = s.boardMem ∧ (State.releaseGrant s n).planMem = s.planMem := by
  unfold State.releaseGrant
  refine ⟨?_, ?_, ?_, ?_⟩ <;> (repeat' split) <;> simp
@[simp] theorem State.addCounts_keeps (s : State) (n : Nat) (c : ExCount) :
    (State.addCounts s n c).pending = s.pending ∧ (State.addCounts s n c).otp = s.otp ∧ (State.addCounts s n c).boardMem = s.boardMem ∧ (State.addCounts s n c).planMem = s.planMem := by
  unfold State.addCounts
  refine ⟨?_, ?_, ?_, ?_⟩ <;> (repeat' split) <;> simp
@[simp] theorem State.startGap_keeps (s : State) (n : Fin 24) :
    (State.startGap s n).pending = s.pending ∧ (State.startGap s n).otp = s.otp ∧ (State.startGap s n).boardMem = s.boardMem ∧ (State.startGap s n).planMem = s.planMem := by
  unfold State.startGap
  refine ⟨?_, ?_, ?_, ?_⟩ <;> (repeat' split) <;> simp
@[simp] theorem State.surveyDown_keeps (s : State) (n : Fin 24) :
    (State.surveyDown s n).pending = s.pending ∧ (State.surveyDown s n).otp = s.otp ∧ (State.surveyDown s n).boardMem = s.boardMem ∧ (State.surveyDown s n).planMem = s.planMem := by
  unfold State.surveyDown
  refine ⟨?_, ?_, ?_, ?_⟩ <;> (repeat' split) <;> simp
@[simp] theorem State.endAir_keeps (s : State) (n : Fin 24) (closed : Option LateNote) :
    (State.endAir s n closed).pending = s.pending ∧ (State.endAir s n closed).otp = s.otp ∧ (State.endAir s n closed).boardMem = s.boardMem ∧ (State.endAir s n closed).planMem = s.planMem := by
  unfold State.endAir
  refine ⟨?_, ?_, ?_, ?_⟩ <;> (repeat' split) <;> simp
@[simp] theorem State.noteNear_keeps (s : State) (n : Fin 24) (x : Exchange) :
    (State.noteNear s n x).pending = s.pending ∧ (State.noteNear s n x).otp = s.otp ∧ (State.noteNear s n x).boardMem = s.boardMem ∧ (State.noteNear s n x).planMem = s.planMem := by
  unfold State.noteNear
  refine ⟨?_, ?_, ?_, ?_⟩ <;> (repeat' split) <;> simp
@[simp] theorem State.dropGroup_keeps (s : State) (n : Fin 24) (x : Exchange) :
    (State.dropGroup s n x).pending = s.pending ∧ (State.dropGroup s n x).otp = s.otp ∧ (State.dropGroup s n x).boardMem = s.boardMem ∧ (State.dropGroup s n x).planMem = s.planMem := by
  unfold State.dropGroup
  refine ⟨?_, ?_, ?_, ?_⟩ <;> (repeat' split) <;> simp
@[simp] theorem State.cutAir_keeps (s : State) (n : Fin 24) (x : Exchange) (held : Option (List Byte)) :
    (State.cutAir s n x held).pending = s.pending ∧ (State.cutAir s n x held).otp = s.otp ∧ (State.cutAir s n x held).boardMem = s.boardMem ∧ (State.cutAir s n x held).planMem = s.planMem := by
  unfold State.cutAir
  refine ⟨?_, ?_, ?_, ?_⟩ <;> (repeat' split) <;> simp
@[simp] theorem State.leaveRod_keeps (s : State) (n : Fin 24) (t : Txn) :
    (State.leaveRod s n t).pending = s.pending ∧ (State.leaveRod s n t).otp = s.otp ∧ (State.leaveRod s n t).boardMem = s.boardMem ∧ (State.leaveRod s n t).planMem = s.planMem := by
  unfold State.leaveRod
  dsimp only
  refine ⟨?_, ?_, ?_, ?_⟩ <;> (repeat' split) <;> (try simp) <;> (repeat' split) <;> (try simp)
@[simp] theorem State.endRodTxn_keeps (s : State) (n : Fin 24) (id : Nat) (st : Status) :
    (State.endRodTxn s n id st).pending = s.pending ∧ (State.endRodTxn s n id st).otp = s.otp ∧ (State.endRodTxn s n id st).boardMem = s.boardMem ∧ (State.endRodTxn s n id st).planMem = s.planMem := by
  unfold State.endRodTxn
  refine ⟨?_, ?_, ?_, ?_⟩ <;> (repeat' split) <;> simp
@[simp] theorem State.endLate_keeps (s : State) (n : Fin 24) (t : Txn) :
    (State.endLate s n t).pending = s.pending ∧ (State.endLate s n t).otp = s.otp ∧ (State.endLate s n t).boardMem = s.boardMem ∧ (State.endLate s n t).planMem = s.planMem := by
  unfold State.endLate
  refine ⟨?_, ?_, ?_, ?_⟩ <;> (repeat' split) <;> simp
@[simp] theorem State.kick_keeps (s : State) (n : Fin 24) :
    (State.kick s n).pending = s.pending ∧ (State.kick s n).otp = s.otp ∧ (State.kick s n).boardMem = s.boardMem ∧ (State.kick s n).planMem = s.planMem := by
  unfold State.kick
  refine ⟨?_, ?_, ?_, ?_⟩ <;> (repeat' split) <;> simp
@[simp] theorem State.kickAll_keeps (s : State) :
    (State.kickAll s).pending = s.pending ∧ (State.kickAll s).otp = s.otp ∧ (State.kickAll s).boardMem = s.boardMem ∧ (State.kickAll s).planMem = s.planMem := by
  unfold State.kickAll
  refine ⟨?_, ?_, ?_, ?_⟩ <;> (repeat' split) <;> simp
@[simp] theorem State.putFrame_keeps (s : State) (n : Fin 24) (x : Exchange) :
    (State.putFrame s n x).pending = s.pending ∧ (State.putFrame s n x).otp = s.otp ∧ (State.putFrame s n x).boardMem = s.boardMem ∧ (State.putFrame s n x).planMem = s.planMem := by
  unfold State.putFrame
  refine ⟨?_, ?_, ?_, ?_⟩ <;> (repeat' split) <;> simp
@[simp] theorem State.joinListen_keeps (s : State) (n : Fin 24) :
    (s.joinListen n).pending = s.pending ∧ (s.joinListen n).otp = s.otp ∧ (s.joinListen n).boardMem = s.boardMem ∧
      (s.joinListen n).planMem = s.planMem := by
  unfold State.joinListen
  refine ⟨?_, ?_, ?_, ?_⟩ <;> split <;> (try rfl) <;> split <;> (try rfl)
  · exact forAll_pending (fun m x => by (repeat' split) <;> simp) _ _
  · exact forAll_otp (fun m x => by (repeat' split) <;> simp) _ _
  · exact forAll_boardMem (fun m x => by (repeat' split) <;> simp) _ _
  · exact forAll_planMem (fun m x => by (repeat' split) <;> simp) _ _
@[simp] theorem State.stopListen_keeps (s : State) (n : Fin 24) :
    (State.stopListen s n).pending = s.pending ∧ (State.stopListen s n).otp = s.otp ∧ (State.stopListen s n).boardMem = s.boardMem ∧ (State.stopListen s n).planMem = s.planMem := by
  unfold State.stopListen
  refine ⟨?_, ?_, ?_, ?_⟩ <;> (repeat' split) <;> simp
@[simp] theorem State.carrierGone_keeps (s : State) (n : Fin 24) (c : Carrier) :
    (State.carrierGone s n c).pending = s.pending ∧ (State.carrierGone s n c).otp = s.otp ∧ (State.carrierGone s n c).boardMem = s.boardMem ∧ (State.carrierGone s n c).planMem = s.planMem := by
  unfold State.carrierGone
  refine ⟨?_, ?_, ?_, ?_⟩ <;> (repeat' split) <;> simp

end Sys2Proof.Machine
end

