-- ==== Sys2Proof/Laws/Keep2.lean ====
section
/-! SUPPORT. What each shared operation leaves alone: the queue, the OTP values and the bytes of the two memories,
of the radio, the link, the key store, the cipher cores and the access sequencer. -/

namespace Sys2Proof.Machine
open Sys2Proof

/-! ### KeysOps -/

@[simp] theorem State.captureEntry_keeps (s : State) (i : Nat) :
    (State.captureEntry s i).pending = s.pending ∧ (State.captureEntry s i).otp = s.otp ∧ (State.captureEntry s i).boardMem = s.boardMem ∧ (State.captureEntry s i).planMem = s.planMem := by
  unfold State.captureEntry
  refine ⟨?_, ?_, ?_, ?_⟩ <;> (repeat' split) <;> simp
@[simp] theorem State.zeroizeKeys_keeps (s : State) :
    (State.zeroizeKeys s).pending = s.pending ∧ (State.zeroizeKeys s).otp = s.otp ∧ (State.zeroizeKeys s).boardMem = s.boardMem ∧ (State.zeroizeKeys s).planMem = s.planMem := by
  unfold State.zeroizeKeys
  refine ⟨?_, ?_, ?_, ?_⟩ <;> (repeat' split) <;> simp
@[simp] theorem State.deriveKek_keeps (s : State) :
    (State.deriveKek s).pending = s.pending ∧ (State.deriveKek s).otp = s.otp ∧ (State.deriveKek s).boardMem = s.boardMem ∧ (State.deriveKek s).planMem = s.planMem := by
  unfold State.deriveKek
  refine ⟨?_, ?_, ?_, ?_⟩ <;> (repeat' split) <;> simp
@[simp] theorem State.keyCmdDone_keeps (s : State) (st : Status) :
    (State.keyCmdDone s st).pending = s.pending ∧ (State.keyCmdDone s st).otp = s.otp ∧ (State.keyCmdDone s st).boardMem = s.boardMem ∧ (State.keyCmdDone s st).planMem = s.planMem := by
  unfold State.keyCmdDone
  refine ⟨?_, ?_, ?_, ?_⟩ <;> (repeat' split) <;> simp
@[simp] theorem State.settleWaits_keeps (s : State) :
    s.settleWaits.pending = s.pending ∧ s.settleWaits.otp = s.otp ∧ s.settleWaits.boardMem = s.boardMem ∧
      s.settleWaits.planMem = s.planMem := by
  unfold State.settleWaits
  refine ⟨?_, ?_, ?_, ?_⟩
  · exact forAll_pending (fun w s => by split <;> simp) _ _
  · exact forAll_otp (fun w s => by split <;> simp) _ _
  · exact forAll_boardMem (fun w s => by split <;> simp) _ _
  · exact forAll_planMem (fun w s => by split <;> simp) _ _
@[simp] theorem State.waitFor_keeps (s : State) (txn : Option Nat) (others : List Nat) :
    (State.waitFor s txn others).pending = s.pending ∧ (State.waitFor s txn others).otp = s.otp ∧ (State.waitFor s txn others).boardMem = s.boardMem ∧ (State.waitFor s txn others).planMem = s.planMem := by
  unfold State.waitFor
  refine ⟨?_, ?_, ?_, ?_⟩ <;> (repeat' split) <;> simp
@[simp] theorem State.unqueue_keeps (s : State) (id : Nat) :
    (State.unqueue s id).pending = s.pending ∧ (State.unqueue s id).otp = s.otp ∧ (State.unqueue s id).boardMem = s.boardMem ∧ (State.unqueue s id).planMem = s.planMem := by
  unfold State.unqueue
  refine ⟨?_, ?_, ?_, ?_⟩ <;> (repeat' split) <;> simp
@[simp] theorem State.endCipher_keeps (s : State) (id : Nat) (st : Status) :
    (State.endCipher s id st).pending = s.pending ∧ (State.endCipher s id st).otp = s.otp ∧ (State.endCipher s id st).boardMem = s.boardMem ∧ (State.endCipher s id st).planMem = s.planMem := by
  unfold State.endCipher
  refine ⟨?_, ?_, ?_, ?_⟩ <;> (repeat' split) <;> simp
@[simp] theorem State.modCores_keeps (s : State) (f : Core4 → Core4) :
    (State.modCores s f).pending = s.pending ∧ (State.modCores s f).otp = s.otp ∧ (State.modCores s f).boardMem = s.boardMem ∧ (State.modCores s f).planMem = s.planMem := by
  unfold State.modCores
  refine ⟨?_, ?_, ?_, ?_⟩ <;> (repeat' split) <;> simp
@[simp] theorem State.makeJob_keeps (s : State) (slot blocks : Nat) :
    (State.makeJob s slot blocks).1.pending = s.pending ∧ (State.makeJob s slot blocks).1.otp = s.otp ∧ (State.makeJob s slot blocks).1.boardMem = s.boardMem ∧ (State.makeJob s slot blocks).1.planMem = s.planMem := by
  unfold State.makeJob
  refine ⟨?_, ?_, ?_, ?_⟩ <;> (repeat' split) <;> simp
@[simp] theorem State.jobDone_keeps (s : State) (id : Nat) (r : CipherWait) :
    (State.jobDone s id r).pending = s.pending ∧ (State.jobDone s id r).otp = s.otp ∧ (State.jobDone s id r).boardMem = s.boardMem ∧ (State.jobDone s id r).planMem = s.planMem := by
  unfold State.jobDone
  refine ⟨?_, ?_, ?_, ?_⟩ <;> (repeat' split) <;> simp
@[simp] theorem State.stopCores_keeps (s : State) (p : CoreRun → Bool) (st : Status) :
    (State.stopCores s p st).pending = s.pending ∧ (State.stopCores s p st).otp = s.otp ∧ (State.stopCores s p st).boardMem = s.boardMem ∧ (State.stopCores s p st).planMem = s.planMem := by
  unfold State.stopCores
  refine ⟨?_, ?_, ?_, ?_⟩ <;> (repeat' split) <;> simp
@[simp] theorem State.leaveJob_keeps (s : State) (w : CipherWait) :
    (State.leaveJob s w).pending = s.pending ∧ (State.leaveJob s w).otp = s.otp ∧ (State.leaveJob s w).boardMem = s.boardMem ∧ (State.leaveJob s w).planMem = s.planMem := by
  unfold State.leaveJob
  refine ⟨?_, ?_, ?_, ?_⟩ <;> (repeat' split) <;> simp
@[simp] theorem State.queueRandom_keeps (s : State) (id : Nat) :
    (State.queueRandom s id).pending = s.pending ∧ (State.queueRandom s id).otp = s.otp ∧ (State.queueRandom s id).boardMem = s.boardMem ∧ (State.queueRandom s id).planMem = s.planMem := by
  unfold State.queueRandom
  refine ⟨?_, ?_, ?_, ?_⟩ <;> (repeat' split) <;> simp
@[simp] theorem State.revokeQueued_keeps (s : State) (id : Nat) :
    (State.revokeQueued s id).pending = s.pending ∧ (State.revokeQueued s id).otp = s.otp ∧ (State.revokeQueued s id).boardMem = s.boardMem ∧ (State.revokeQueued s id).planMem = s.planMem := by
  unfold State.revokeQueued
  refine ⟨?_, ?_, ?_, ?_⟩ <;> (repeat' split) <;> simp
@[simp] theorem State.addInput_keeps (s : State) (id : Nat) (b : List Byte) :
    (State.addInput s id b).pending = s.pending ∧ (State.addInput s id b).otp = s.otp ∧ (State.addInput s id b).boardMem = s.boardMem ∧ (State.addInput s id b).planMem = s.planMem := by
  unfold State.addInput
  refine ⟨?_, ?_, ?_, ?_⟩ <;> (repeat' split) <;> simp
@[simp] theorem State.endImport_keeps (s : State) (r : ImportReq) (st : Status) :
    (State.endImport s r st).pending = s.pending ∧ (State.endImport s r st).otp = s.otp ∧ (State.endImport s r st).boardMem = s.boardMem ∧ (State.endImport s r st).planMem = s.planMem := by
  unfold State.endImport
  refine ⟨?_, ?_, ?_, ?_⟩ <;> (repeat' split) <;> simp
@[simp] theorem State.dropKept_keeps (s : State) (slot : Nat) :
    (State.dropKept s slot).pending = s.pending ∧ (State.dropKept s slot).otp = s.otp ∧ (State.dropKept s slot).boardMem = s.boardMem ∧ (State.dropKept s slot).planMem = s.planMem := by
  unfold State.dropKept
  refine ⟨?_, ?_, ?_, ?_⟩ <;> (repeat' split) <;> simp
@[simp] theorem State.loadKey_keeps (s : State) (slot : Nat) (k256 : Bool) (usage : Nat) (key : List Byte) :
    (State.loadKey s slot k256 usage key).pending = s.pending ∧ (State.loadKey s slot k256 usage key).otp = s.otp ∧ (State.loadKey s slot k256 usage key).boardMem = s.boardMem ∧ (State.loadKey s slot k256 usage key).planMem = s.planMem := by
  unfold State.loadKey
  refine ⟨?_, ?_, ?_, ?_⟩ <;> (repeat' split) <;> simp
@[simp] theorem State.finishImport_keeps (s : State) :
    (State.finishImport s).pending = s.pending ∧ (State.finishImport s).otp = s.otp ∧ (State.finishImport s).boardMem = s.boardMem ∧ (State.finishImport s).planMem = s.planMem := by
  unfold State.finishImport
  dsimp only
  refine ⟨?_, ?_, ?_, ?_⟩ <;> (repeat' split) <;> (try simp) <;> (repeat' split) <;> (try simp)
@[simp] theorem State.loseVdKey_keeps (s : State) (slot : Nat) :
    (State.loseVdKey s slot).pending = s.pending ∧ (State.loseVdKey s slot).otp = s.otp ∧ (State.loseVdKey s slot).boardMem = s.boardMem ∧ (State.loseVdKey s slot).planMem = s.planMem := by
  unfold State.loseVdKey
  refine ⟨?_, ?_, ?_, ?_⟩ <;> (repeat' split) <;> simp
@[simp] theorem State.eraseSlot_keeps (s : State) (slot : Nat) :
    (s.eraseSlot slot).1.pending = s.pending ∧ (s.eraseSlot slot).1.otp = s.otp ∧ (s.eraseSlot slot).1.boardMem = s.boardMem ∧
      (s.eraseSlot slot).1.planMem = s.planMem := by
  unfold State.eraseSlot
  dsimp only
  split <;> split <;> simp
@[simp] theorem State.eraseCmd_keeps (s : State) (txn : Option Nat) (slot : Nat) :
    (State.eraseCmd s txn slot).pending = s.pending ∧ (State.eraseCmd s txn slot).otp = s.otp ∧ (State.eraseCmd s txn slot).boardMem = s.boardMem ∧ (State.eraseCmd s txn slot).planMem = s.planMem := by
  unfold State.eraseCmd
  refine ⟨?_, ?_, ?_, ?_⟩ <;> (repeat' split) <;> simp

/-! ### UhfCmds -/

@[simp] theorem State.admitTx_keeps (s : State) (band planned : Nat) (train : Bool) :
    (State.admitTx s band planned train).1.pending = s.pending ∧ (State.admitTx s band planned train).1.otp = s.otp ∧ (State.admitTx s band planned train).1.boardMem = s.boardMem ∧ (State.admitTx s band planned train).1.planMem = s.planMem := by
  unfold State.admitTx
  refine ⟨?_, ?_, ?_, ?_⟩ <;> (repeat' split) <;> simp
@[simp] theorem State.correctCharge_keeps (s : State) (actual : Nat) :
    (State.correctCharge s actual).pending = s.pending ∧ (State.correctCharge s actual).otp = s.otp ∧ (State.correctCharge s actual).boardMem = s.boardMem ∧ (State.correctCharge s actual).planMem = s.planMem := by
  unfold State.correctCharge
  refine ⟨?_, ?_, ?_, ?_⟩ <;> (repeat' split) <;> simp
@[simp] theorem State.dropTrain_keeps (s : State) :
    (State.dropTrain s).pending = s.pending ∧ (State.dropTrain s).otp = s.otp ∧ (State.dropTrain s).boardMem = s.boardMem ∧ (State.dropTrain s).planMem = s.planMem := by
  unfold State.dropTrain
  refine ⟨?_, ?_, ?_, ?_⟩ <;> (repeat' split) <;> simp
@[simp] theorem State.hfSettle_keeps (s : State) :
    (State.hfSettle s).pending = s.pending ∧ (State.hfSettle s).otp = s.otp ∧ (State.hfSettle s).boardMem = s.boardMem ∧ (State.hfSettle s).planMem = s.planMem := by
  unfold State.hfSettle
  refine ⟨?_, ?_, ?_, ?_⟩ <;> (repeat' split) <;> simp
@[simp] theorem State.setRadio_keeps (s : State) (st ch : Nat) :
    (State.setRadio s st ch).pending = s.pending ∧ (State.setRadio s st ch).otp = s.otp ∧ (State.setRadio s st ch).boardMem = s.boardMem ∧ (State.setRadio s st ch).planMem = s.planMem := by
  unfold State.setRadio
  refine ⟨?_, ?_, ?_, ?_⟩ <;> (repeat' split) <;> simp
@[simp] theorem State.endUhf_keeps (s : State) (id : Nat) (st : Status) :
    (State.endUhf s id st).pending = s.pending ∧ (State.endUhf s id st).otp = s.otp ∧ (State.endUhf s id st).boardMem = s.boardMem ∧ (State.endUhf s id st).planMem = s.planMem := by
  unfold State.endUhf
  refine ⟨?_, ?_, ?_, ?_⟩ <;> (repeat' split) <;> simp
@[simp] theorem State.radioAdmit_keeps (s : State) :
    (State.radioAdmit s).pending = s.pending ∧ (State.radioAdmit s).otp = s.otp ∧ (State.radioAdmit s).boardMem = s.boardMem ∧ (State.radioAdmit s).planMem = s.planMem := by
  unfold State.radioAdmit
  try dsimp only
  refine ⟨?_, ?_, ?_, ?_⟩ <;> (repeat' split) <;>
    first
    | (simp; done)
    | (rename_i h; have k := congrArg Prod.fst h; simp only at k; subst k; simp)
@[simp] theorem State.noteRx_keeps (s : State) :
    (State.noteRx s).pending = s.pending ∧ (State.noteRx s).otp = s.otp ∧ (State.noteRx s).boardMem = s.boardMem ∧ (State.noteRx s).planMem = s.planMem := by
  unfold State.noteRx
  refine ⟨?_, ?_, ?_, ?_⟩ <;> (repeat' split) <;> simp
@[simp] theorem State.radioReached_keeps (s : State) :
    (State.radioReached s).pending = s.pending ∧ (State.radioReached s).otp = s.otp ∧ (State.radioReached s).boardMem = s.boardMem ∧ (State.radioReached s).planMem = s.planMem := by
  unfold State.radioReached
  dsimp only
  refine ⟨?_, ?_, ?_, ?_⟩ <;> (repeat' split) <;> (try simp) <;> (repeat' split) <;> (try simp)
@[simp] theorem State.radioStep_keeps (s : State) :
    (State.radioStep s).pending = s.pending ∧ (State.radioStep s).otp = s.otp ∧ (State.radioStep s).boardMem = s.boardMem ∧ (State.radioStep s).planMem = s.planMem := by
  unfold State.radioStep
  dsimp only
  refine ⟨?_, ?_, ?_, ?_⟩ <;> (repeat' split) <;> (try simp) <;> (repeat' split) <;> (try simp)
@[simp] theorem State.calKick_keeps (s : State) :
    (State.calKick s).pending = s.pending ∧ (State.calKick s).otp = s.otp ∧ (State.calKick s).boardMem = s.boardMem ∧ (State.calKick s).planMem = s.planMem := by
  unfold State.calKick
  refine ⟨?_, ?_, ?_, ?_⟩ <;> (repeat' split) <;> simp
@[simp] theorem State.calDue_keeps (s : State) :
    (State.calDue s).pending = s.pending ∧ (State.calDue s).otp = s.otp ∧ (State.calDue s).boardMem = s.boardMem ∧ (State.calDue s).planMem = s.planMem := by
  unfold State.calDue
  refine ⟨?_, ?_, ?_, ?_⟩ <;> (repeat' split) <;> simp
@[simp] theorem State.calEnd_keeps (s : State) :
    (State.calEnd s).pending = s.pending ∧ (State.calEnd s).otp = s.otp ∧ (State.calEnd s).boardMem = s.boardMem ∧ (State.calEnd s).planMem = s.planMem := by
  unfold State.calEnd
  dsimp only
  refine ⟨?_, ?_, ?_, ?_⟩ <;> (repeat' split) <;> (try simp) <;> (repeat' split) <;> (try simp)
@[simp] theorem State.calTemp_keeps (s : State) :
    (State.calTemp s).pending = s.pending ∧ (State.calTemp s).otp = s.otp ∧ (State.calTemp s).boardMem = s.boardMem ∧ (State.calTemp s).planMem = s.planMem := by
  unfold State.calTemp
  refine ⟨?_, ?_, ?_, ?_⟩ <;> (repeat' split) <;> simp
@[simp] theorem State.uhfDispatched_keeps (s : State) (t : Txn) :
    (State.uhfDispatched s t).pending = s.pending ∧ (State.uhfDispatched s t).otp = s.otp ∧ (State.uhfDispatched s t).boardMem = s.boardMem ∧ (State.uhfDispatched s t).planMem = s.planMem := by
  unfold State.uhfDispatched
  refine ⟨?_, ?_, ?_, ?_⟩ <;> (repeat' split) <;> simp
@[simp] theorem State.leaveTx_keeps (s : State) (actual : Nat) :
    (State.leaveTx s actual).pending = s.pending ∧ (State.leaveTx s actual).otp = s.otp ∧ (State.leaveTx s actual).boardMem = s.boardMem ∧ (State.leaveTx s actual).planMem = s.planMem := by
  unfold State.leaveTx
  refine ⟨?_, ?_, ?_, ?_⟩ <;> (repeat' split) <;> simp
@[simp] theorem State.endReceive_keeps (s : State) (id : Nat) :
    (State.endReceive s id).pending = s.pending ∧ (State.endReceive s id).otp = s.otp ∧ (State.endReceive s id).boardMem = s.boardMem ∧ (State.endReceive s id).planMem = s.planMem := by
  unfold State.endReceive
  refine ⟨?_, ?_, ?_, ?_⟩ <;> (repeat' split) <;> simp
@[simp] theorem State.noteDiv_keeps (s : State) :
    (State.noteDiv s).pending = s.pending ∧ (State.noteDiv s).otp = s.otp ∧ (State.noteDiv s).boardMem = s.boardMem ∧ (State.noteDiv s).planMem = s.planMem := by
  unfold State.noteDiv
  refine ⟨?_, ?_, ?_, ?_⟩ <;> (repeat' split) <;> simp
@[simp] theorem State.uhfAbort_keeps (s : State) (t : Txn) :
    (State.uhfAbort s t).pending = s.pending ∧ (State.uhfAbort s t).otp = s.otp ∧ (State.uhfAbort s t).boardMem = s.boardMem ∧ (State.uhfAbort s t).planMem = s.planMem := by
  unfold State.uhfAbort
  refine ⟨?_, ?_, ?_, ?_⟩ <;> (repeat' split) <;> simp
@[simp] theorem writeUhfCtl_keeps (w : Word) (s : State) :
    (writeUhfCtl w s).pending = s.pending ∧ (writeUhfCtl w s).otp = s.otp ∧ (writeUhfCtl w s).boardMem = s.boardMem ∧ (writeUhfCtl w s).planMem = s.planMem := by
  unfold writeUhfCtl
  refine ⟨?_, ?_, ?_, ?_⟩ <;> (repeat' split) <;> simp

/-! ### LinkOps -/

@[simp] theorem State.lfStart_keeps (s : State) (n : Nat) :
    (State.lfStart s n).pending = s.pending ∧ (State.lfStart s n).otp = s.otp ∧ (State.lfStart s n).boardMem = s.boardMem ∧ (State.lfStart s n).planMem = s.planMem := by
  unfold State.lfStart
  refine ⟨?_, ?_, ?_, ?_⟩ <;> (repeat' split) <;> simp
@[simp] theorem State.lfStop_keeps (s : State) (n : Nat) :
    (State.lfStop s n).pending = s.pending ∧ (State.lfStop s n).otp = s.otp ∧ (State.lfStop s n).boardMem = s.boardMem ∧ (State.lfStop s n).planMem = s.planMem := by
  unfold State.lfStop
  refine ⟨?_, ?_, ?_, ?_⟩ <;> (repeat' split) <;> simp
@[simp] theorem State.lfMeas_keeps (s : State) (n phase rsns : Nat) (regulated : List Nat) :
    (State.lfMeas s n phase rsns regulated).pending = s.pending ∧ (State.lfMeas s n phase rsns regulated).otp = s.otp ∧ (State.lfMeas s n phase rsns regulated).boardMem = s.boardMem ∧ (State.lfMeas s n phase rsns regulated).planMem = s.planMem := by
  unfold State.lfMeas
  refine ⟨?_, ?_, ?_, ?_⟩ <;> (repeat' split) <;> simp
@[simp] theorem State.lfSpan_keeps (s : State) (n : Nat) (tp frozen : Bool) (sp : LfSpan) :
    (State.lfSpan s n tp frozen sp).pending = s.pending ∧ (State.lfSpan s n tp frozen sp).otp = s.otp ∧ (State.lfSpan s n tp frozen sp).boardMem = s.boardMem ∧ (State.lfSpan s n tp frozen sp).planMem = s.planMem := by
  unfold State.lfSpan
  refine ⟨?_, ?_, ?_, ?_⟩ <;> (repeat' split) <;> simp
@[simp] theorem State.lfCut_keeps (s : State) (n : Nat) :
    (State.lfCut s n).pending = s.pending ∧ (State.lfCut s n).otp = s.otp ∧ (State.lfCut s n).boardMem = s.boardMem ∧ (State.lfCut s n).planMem = s.planMem := by
  unfold State.lfCut
  refine ⟨?_, ?_, ?_, ?_⟩ <;> (repeat' split) <;> simp
@[simp] theorem State.beginFrame_keeps (s : State) (x : DownFrame) :
    (State.beginFrame s x).pending = s.pending ∧ (State.beginFrame s x).otp = s.otp ∧ (State.beginFrame s x).boardMem = s.boardMem ∧ (State.beginFrame s x).planMem = s.planMem := by
  unfold State.beginFrame
  refine ⟨?_, ?_, ?_, ?_⟩ <;> (repeat' split) <;> simp
@[simp] theorem State.modFrame_keeps (s : State) (f : DownFrame → DownFrame) :
    (State.modFrame s f).pending = s.pending ∧ (State.modFrame s f).otp = s.otp ∧ (State.modFrame s f).boardMem = s.boardMem ∧ (State.modFrame s f).planMem = s.planMem := by
  unfold State.modFrame
  refine ⟨?_, ?_, ?_, ?_⟩ <;> (repeat' split) <;> simp
@[simp] theorem State.segStart_keeps (s : State) (x : DownFrame) (sp : LfSpan) :
    (State.segStart s x sp).pending = s.pending ∧ (State.segStart s x sp).otp = s.otp ∧ (State.segStart s x sp).boardMem = s.boardMem ∧ (State.segStart s x sp).planMem = s.planMem := by
  unfold State.segStart
  refine ⟨?_, ?_, ?_, ?_⟩ <;> (repeat' split) <;> simp
@[simp] theorem State.segEnd_keeps (s : State) (x : DownFrame) (sp : LfSpan) :
    (State.segEnd s x sp).pending = s.pending ∧ (State.segEnd s x sp).otp = s.otp ∧ (State.segEnd s x sp).boardMem = s.boardMem ∧ (State.segEnd s x sp).planMem = s.planMem := by
  unfold State.segEnd
  refine ⟨?_, ?_, ?_, ?_⟩ <;> (repeat' split) <;> simp
@[simp] theorem State.segStep_keeps (s : State) (sp : LfSpan) :
    (State.segStep s sp).pending = s.pending ∧ (State.segStep s sp).otp = s.otp ∧ (State.segStep s sp).boardMem = s.boardMem ∧ (State.segStep s sp).planMem = s.planMem := by
  unfold State.segStep
  refine ⟨?_, ?_, ?_, ?_⟩ <;> (repeat' split) <;> simp
@[simp] theorem State.frameOver_keeps (s : State) (x : DownFrame) (sp : LfSpan) :
    (State.frameOver s x sp).pending = s.pending ∧ (State.frameOver s x sp).otp = s.otp ∧ (State.frameOver s x sp).boardMem = s.boardMem ∧ (State.frameOver s x sp).planMem = s.planMem := by
  unfold State.frameOver
  refine ⟨?_, ?_, ?_, ?_⟩ <;> (repeat' split) <;> simp
@[simp] theorem State.linkStop_keeps (s : State) :
    (State.linkStop s).pending = s.pending ∧ (State.linkStop s).otp = s.otp ∧ (State.linkStop s).boardMem = s.boardMem ∧ (State.linkStop s).planMem = s.planMem := by
  unfold State.linkStop
  dsimp only
  refine ⟨?_, ?_, ?_, ?_⟩ <;> (repeat' split) <;> (try simp) <;> (repeat' split) <;> (try simp)
@[simp] theorem State.countOutcome_keeps (s : State) (o : LinkOutcome) :
    (State.countOutcome s o).pending = s.pending ∧ (State.countOutcome s o).otp = s.otp ∧ (State.countOutcome s o).boardMem = s.boardMem ∧ (State.countOutcome s o).planMem = s.planMem := by
  unfold State.countOutcome
  refine ⟨?_, ?_, ?_, ?_⟩ <;> (repeat' split) <;> simp
@[simp] theorem State.noteOutcome_keeps (s : State) (x : DownFrame) (o : LinkOutcome) (path slot ch rssiA rssiB ferr : Nat) (body : List Byte) (stamp : DWord) :
    (State.noteOutcome s x o path slot ch rssiA rssiB ferr body stamp).pending = s.pending ∧ (State.noteOutcome s x o path slot ch rssiA rssiB ferr body stamp).otp = s.otp ∧ (State.noteOutcome s x o path slot ch rssiA rssiB ferr body stamp).boardMem = s.boardMem ∧ (State.noteOutcome s x o path slot ch rssiA rssiB ferr body stamp).planMem = s.planMem := by
  unfold State.noteOutcome
  refine ⟨?_, ?_, ?_, ?_⟩ <;> (repeat' split) <;> simp
@[simp] theorem writeLfCfg_keeps (addr : Nat) (w : Word) (s : State) :
    (writeLfCfg addr w s).pending = s.pending ∧ (writeLfCfg addr w s).otp = s.otp ∧ (writeLfCfg addr w s).boardMem = s.boardMem ∧ (writeLfCfg addr w s).planMem = s.planMem := by
  unfold writeLfCfg
  refine ⟨?_, ?_, ?_, ?_⟩ <;> (repeat' split) <;> simp
@[simp] theorem writeLfErr_keeps (n : Nat) (w : Word) (s : State) :
    (writeLfErr n w s).pending = s.pending ∧ (writeLfErr n w s).otp = s.otp ∧ (writeLfErr n w s).boardMem = s.boardMem ∧ (writeLfErr n w s).planMem = s.planMem := by
  unfold writeLfErr
  refine ⟨?_, ?_, ?_, ?_⟩ <;> (repeat' split) <;> simp
@[simp] theorem State.wrIf_keeps (s : State) (legal : Bool) (f : Fld) (v : Nat) :
    (State.wrIf s legal f v).pending = s.pending ∧ (State.wrIf s legal f v).otp = s.otp ∧ (State.wrIf s legal f v).boardMem = s.boardMem ∧ (State.wrIf s legal f v).planMem = s.planMem := by
  unfold State.wrIf
  refine ⟨?_, ?_, ?_, ?_⟩ <;> (repeat' split) <;> simp
@[simp] theorem State.writeTokCfg_keeps (s : State) (v : Nat) :
    (State.writeTokCfg s v).pending = s.pending ∧ (State.writeTokCfg s v).otp = s.otp ∧ (State.writeTokCfg s v).boardMem = s.boardMem ∧ (State.writeTokCfg s v).planMem = s.planMem := by
  unfold State.writeTokCfg
  refine ⟨?_, ?_, ?_, ?_⟩ <;> (repeat' split) <;> simp
@[simp] theorem State.writeTokUl_keeps (s : State) (v : Nat) :
    (State.writeTokUl s v).pending = s.pending ∧ (State.writeTokUl s v).otp = s.otp ∧ (State.writeTokUl s v).boardMem = s.boardMem ∧ (State.writeTokUl s v).planMem = s.planMem := by
  unfold State.writeTokUl
  refine ⟨?_, ?_, ?_, ?_⟩ <;> (repeat' split) <;> simp
@[simp] theorem State.writeTokDb_keeps (s : State) (v : Nat) :
    (State.writeTokDb s v).pending = s.pending ∧ (State.writeTokDb s v).otp = s.otp ∧ (State.writeTokDb s v).boardMem = s.boardMem ∧ (State.writeTokDb s v).planMem = s.planMem := by
  unfold State.writeTokDb
  refine ⟨?_, ?_, ?_, ?_⟩ <;> (repeat' split) <;> simp
@[simp] theorem writeTok_keeps (addr : Nat) (w : Word) (s : State) :
    (writeTok addr w s).pending = s.pending ∧ (writeTok addr w s).otp = s.otp ∧ (writeTok addr w s).boardMem = s.boardMem ∧ (writeTok addr w s).planMem = s.planMem := by
  unfold writeTok
  refine ⟨?_, ?_, ?_, ?_⟩ <;> (repeat' split) <;> simp

/-! ### SerialOps -/

@[simp] theorem State.frameOut_keeps (s : State) (cs : Nat) (set : SpiSet) (h : SpiHead) (len : Nat) :
    (State.frameOut s cs set h len).pending = s.pending ∧ (State.frameOut s cs set h len).otp = s.otp ∧ (State.frameOut s cs set h len).boardMem = s.boardMem ∧ (State.frameOut s cs set h len).planMem = s.planMem := by
  unfold State.frameOut
  refine ⟨?_, ?_, ?_, ?_⟩ <;> (repeat' split) <;> simp
@[simp] theorem State.dataOut_keeps (s : State) (cs : Nat) (h : SpiHead) (read : Bool) (l : List Byte) :
    (State.dataOut s cs h read l).pending = s.pending ∧ (State.dataOut s cs h read l).otp = s.otp ∧ (State.dataOut s cs h read l).boardMem = s.boardMem ∧ (State.dataOut s cs h read l).planMem = s.planMem := by
  unfold State.dataOut
  refine ⟨?_, ?_, ?_, ?_⟩ <;> (repeat' split) <;> simp
@[simp] theorem State.retryOut_keeps (s : State) :
    (State.retryOut s).pending = s.pending ∧ (State.retryOut s).otp = s.otp ∧ (State.retryOut s).boardMem = s.boardMem ∧ (State.retryOut s).planMem = s.planMem := by
  unfold State.retryOut
  refine ⟨?_, ?_, ?_, ?_⟩ <;> (repeat' split) <;> simp
@[simp] theorem State.serialNext_keeps (s : State) :
    (State.serialNext s).pending = s.pending ∧ (State.serialNext s).otp = s.otp ∧ (State.serialNext s).boardMem = s.boardMem ∧ (State.serialNext s).planMem = s.planMem := by
  unfold State.serialNext
  refine ⟨?_, ?_, ?_, ?_⟩ <;> (repeat' split) <;> simp
@[simp] theorem State.queueFrames_keeps (s : State) (cs : Nat) (l : List SerialFrame) :
    (State.queueFrames s cs l).pending = s.pending ∧ (State.queueFrames s cs l).otp = s.otp ∧ (State.queueFrames s cs l).boardMem = s.boardMem ∧ (State.queueFrames s cs l).planMem = s.planMem := by
  unfold State.queueFrames
  refine ⟨?_, ?_, ?_, ?_⟩ <;> (repeat' split) <;> simp
@[simp] theorem State.dropFrames_keeps (s : State) :
    (State.dropFrames s).pending = s.pending ∧ (State.dropFrames s).otp = s.otp ∧ (State.dropFrames s).boardMem = s.boardMem ∧ (State.dropFrames s).planMem = s.planMem := by
  unfold State.dropFrames
  refine ⟨?_, ?_, ?_, ?_⟩ <;> (repeat' split) <;> simp
@[simp] theorem State.loadOver_keeps (s : State) (b : List Byte) :
    (State.loadOver s b).pending = s.pending ∧ (State.loadOver s b).otp = s.otp ∧ (State.loadOver s b).boardMem = s.boardMem ∧ (State.loadOver s b).planMem = s.planMem := by
  unfold State.loadOver
  refine ⟨?_, ?_, ?_, ?_⟩ <;> (repeat' split) <;> simp
@[simp] theorem State.mirrorFrameEnd_keeps (s : State) (f : SerialFrame) (rest : List SerialFrame) (status : Option Nat) (data : List Byte) :
    (State.mirrorFrameEnd s f rest status data).pending = s.pending ∧ (State.mirrorFrameEnd s f rest status data).otp = s.otp ∧ (State.mirrorFrameEnd s f rest status data).boardMem = s.boardMem ∧ (State.mirrorFrameEnd s f rest status data).planMem = s.planMem := by
  unfold State.mirrorFrameEnd
  refine ⟨?_, ?_, ?_, ?_⟩ <;> (repeat' split) <;> simp

/-! ### CrcCmds -/

@[simp] theorem State.streamBusy_keeps (s : State) (stream : Nat) :
    (State.streamBusy s stream).1.pending = s.pending ∧ (State.streamBusy s stream).1.otp = s.otp ∧ (State.streamBusy s stream).1.boardMem = s.boardMem ∧ (State.streamBusy s stream).1.planMem = s.planMem := by
  unfold State.streamBusy
  refine ⟨?_, ?_, ?_, ?_⟩ <;> (repeat' split) <;> simp
@[simp] theorem State.crcResult_keeps (s : State) (u : Fin 4) (reg : Word) (bytes : Nat) (fin : Bool) :
    (State.crcResult s u reg bytes fin).pending = s.pending ∧ (State.crcResult s u reg bytes fin).otp = s.otp ∧ (State.crcResult s u reg bytes fin).boardMem = s.boardMem ∧ (State.crcResult s u reg bytes fin).planMem = s.planMem := by
  unfold State.crcResult
  refine ⟨?_, ?_, ?_, ?_⟩ <;> (repeat' split) <;> simp
@[simp] theorem State.startCrc_keeps (s : State) (u : Fin 4) :
    (State.startCrc s u).pending = s.pending ∧ (State.startCrc s u).otp = s.otp ∧ (State.startCrc s u).boardMem = s.boardMem ∧ (State.startCrc s u).planMem = s.planMem := by
  unfold State.startCrc
  refine ⟨?_, ?_, ?_, ?_⟩ <;> (repeat' split) <;> simp
@[simp] theorem State.passedBytes_keeps (s : State) (u : Fin 4) :
    (State.passedBytes s u).1.pending = s.pending ∧ (State.passedBytes s u).1.otp = s.otp ∧ (State.passedBytes s u).1.boardMem = s.boardMem ∧ (State.passedBytes s u).1.planMem = s.planMem := by
  unfold State.passedBytes
  dsimp only
  refine ⟨?_, ?_, ?_, ?_⟩ <;> (repeat' split) <;> (try simp) <;> (repeat' split) <;> (try simp)
@[simp] theorem State.stopCrc_keeps (s : State) (u : Fin 4) :
    (State.stopCrc s u).pending = s.pending ∧ (State.stopCrc s u).otp = s.otp ∧ (State.stopCrc s u).boardMem = s.boardMem ∧ (State.stopCrc s u).planMem = s.planMem := by
  unfold State.stopCrc
  refine ⟨?_, ?_, ?_, ?_⟩ <;> (repeat' split) <;> simp
@[simp] theorem writeCrcCtl_keeps (u : Fin 4) (w : Word) (s : State) :
    (writeCrcCtl u w s).pending = s.pending ∧ (writeCrcCtl u w s).otp = s.otp ∧ (writeCrcCtl u w s).boardMem = s.boardMem ∧ (writeCrcCtl u w s).planMem = s.planMem := by
  unfold writeCrcCtl
  refine ⟨?_, ?_, ?_, ?_⟩ <;> (repeat' split) <;> simp
@[simp] theorem writeCrcCfg_keeps (addr : Nat) (w : Word) (s : State) :
    (writeCrcCfg addr w s).pending = s.pending ∧ (writeCrcCfg addr w s).otp = s.otp ∧ (writeCrcCfg addr w s).boardMem = s.boardMem ∧ (writeCrcCfg addr w s).planMem = s.planMem := by
  unfold writeCrcCfg
  refine ⟨?_, ?_, ?_, ?_⟩ <;> (repeat' split) <;> simp

/-! ### CipherCmds -/

@[simp] theorem State.queueImport_keeps (s : State) (id : Nat) :
    (State.queueImport s id).pending = s.pending ∧ (State.queueImport s id).otp = s.otp ∧ (State.queueImport s id).boardMem = s.boardMem ∧ (State.queueImport s id).planMem = s.planMem := by
  unfold State.queueImport
  refine ⟨?_, ?_, ?_, ?_⟩ <;> (repeat' split) <;> simp
@[simp] theorem State.beginImport_keeps (s : State) (op : Nat) :
    (State.beginImport s op).pending = s.pending ∧ (State.beginImport s op).otp = s.otp ∧ (State.beginImport s op).boardMem = s.boardMem ∧ (State.beginImport s op).planMem = s.planMem := by
  unfold State.beginImport
  refine ⟨?_, ?_, ?_, ?_⟩ <;> (repeat' split) <;> simp
@[simp] theorem writeKeyCfg_keeps (w : Word) (s : State) :
    (writeKeyCfg w s).pending = s.pending ∧ (writeKeyCfg w s).otp = s.otp ∧ (writeKeyCfg w s).boardMem = s.boardMem ∧ (writeKeyCfg w s).planMem = s.planMem := by
  unfold writeKeyCfg
  refine ⟨?_, ?_, ?_, ?_⟩ <;> (repeat' split) <;> simp
@[simp] theorem writeTokSel_keeps (w : Word) (s : State) :
    (writeTokSel w s).pending = s.pending ∧ (writeTokSel w s).otp = s.otp ∧ (writeTokSel w s).boardMem = s.boardMem ∧ (writeTokSel w s).planMem = s.planMem := by
  unfold writeTokSel
  refine ⟨?_, ?_, ?_, ?_⟩ <;> (repeat' split) <;> simp
@[simp] theorem State.zeroKeyParams_keeps (s : State) :
    (State.zeroKeyParams s).pending = s.pending ∧ (State.zeroKeyParams s).otp = s.otp ∧ (State.zeroKeyParams s).boardMem = s.boardMem ∧ (State.zeroKeyParams s).planMem = s.planMem := by
  unfold State.zeroKeyParams
  refine ⟨?_, ?_, ?_, ?_⟩ <;> (repeat' split) <;> simp
@[simp] theorem writeKeyCmd_keeps (w : Word) (s : State) :
    (writeKeyCmd w s).pending = s.pending ∧ (writeKeyCmd w s).otp = s.otp ∧ (writeKeyCmd w s).boardMem = s.boardMem ∧ (writeKeyCmd w s).planMem = s.planMem := by
  unfold writeKeyCmd
  refine ⟨?_, ?_, ?_, ?_⟩ <;> (repeat' split) <;> simp
@[simp] theorem State.startCipher_keeps (s : State) (c : Fin 4) (t : Txn) (inp : List Byte) :
    (State.startCipher s c t inp).pending = s.pending ∧ (State.startCipher s c t inp).otp = s.otp ∧ (State.startCipher s c t inp).boardMem = s.boardMem ∧ (State.startCipher s c t inp).planMem = s.planMem := by
  unfold State.startCipher
  refine ⟨?_, ?_, ?_, ?_⟩ <;> (repeat' split) <;> simp
@[simp] theorem State.startJob_keeps (s : State) (c : Fin 4) (j : SeqJob) :
    (State.startJob s c j).pending = s.pending ∧ (State.startJob s c j).otp = s.otp ∧ (State.startJob s c j).boardMem = s.boardMem ∧ (State.startJob s c j).planMem = s.planMem := by
  unfold State.startJob
  refine ⟨?_, ?_, ?_, ?_⟩ <;> (repeat' split) <;> simp
@[simp] theorem State.coreStopped_keeps (s : State) (c : Fin 4) (r : CoreRun) (st : Status) :
    (State.coreStopped s c r st).pending = s.pending ∧ (State.coreStopped s c r st).otp = s.otp ∧ (State.coreStopped s c r st).boardMem = s.boardMem ∧ (State.coreStopped s c r st).planMem = s.planMem := by
  unfold State.coreStopped
  dsimp only
  refine ⟨?_, ?_, ?_, ?_⟩ <;> (repeat' split) <;> (try simp) <;> (repeat' split) <;> (try simp)
@[simp] theorem State.coreBlock_keeps (s : State) (c : Fin 4) (r : CoreRun) (t : Txn) :
    (State.coreBlock s c r t).pending = s.pending ∧ (State.coreBlock s c r t).otp = s.otp ∧ (State.coreBlock s c r t).boardMem = s.boardMem ∧ (State.coreBlock s c r t).planMem = s.planMem := by
  unfold State.coreBlock
  refine ⟨?_, ?_, ?_, ?_⟩ <;> (repeat' split) <;> simp
@[simp] theorem State.jobBlock_keeps (s : State) (c : Fin 4) (r : CoreRun) (j : SeqJob) :
    (State.jobBlock s c r j).pending = s.pending ∧ (State.jobBlock s c r j).otp = s.otp ∧ (State.jobBlock s c r j).boardMem = s.boardMem ∧ (State.jobBlock s c r j).planMem = s.planMem := by
  unfold State.jobBlock
  refine ⟨?_, ?_, ?_, ?_⟩ <;> (repeat' split) <;> simp
@[simp] theorem State.cipherAbort_keeps (s : State) (t : Txn) :
    (State.cipherAbort s t).pending = s.pending ∧ (State.cipherAbort s t).otp = s.otp ∧ (State.cipherAbort s t).boardMem = s.boardMem ∧ (State.cipherAbort s t).planMem = s.planMem := by
  unfold State.cipherAbort
  refine ⟨?_, ?_, ?_, ?_⟩ <;> (repeat' split) <;> simp

/-! ### AccOps -/

@[simp] theorem State.freshTcal_keeps (s : State) :
    (State.freshTcal s).pending = s.pending ∧ (State.freshTcal s).otp = s.otp ∧ (State.freshTcal s).boardMem = s.boardMem ∧ (State.freshTcal s).planMem = s.planMem := by
  unfold State.freshTcal
  refine ⟨?_, ?_, ?_, ?_⟩ <;> (repeat' split) <;> simp
@[simp] theorem State.mirrorStart_keeps (s : State) :
    (State.mirrorStart s).pending = s.pending ∧ (State.mirrorStart s).otp = s.otp ∧ (State.mirrorStart s).boardMem = s.boardMem ∧ (State.mirrorStart s).planMem = s.planMem := by
  unfold State.mirrorStart
  refine ⟨?_, ?_, ?_, ?_⟩ <;> (repeat' split) <;> simp
@[simp] theorem State.mirrorChange_keeps (s : State) :
    (State.mirrorChange s).pending = s.pending ∧ (State.mirrorChange s).otp = s.otp ∧ (State.mirrorChange s).boardMem = s.boardMem ∧ (State.mirrorChange s).planMem = s.planMem := by
  unfold State.mirrorChange
  refine ⟨?_, ?_, ?_, ?_⟩ <;> (repeat' split) <;> simp
@[simp] theorem State.setLockFails_keeps (s : State) (l k : Nat) :
    (State.setLockFails s l k).pending = s.pending ∧ (State.setLockFails s l k).otp = s.otp ∧ (State.setLockFails s l k).boardMem = s.boardMem ∧ (State.setLockFails s l k).planMem = s.planMem := by
  unfold State.setLockFails
  refine ⟨?_, ?_, ?_, ?_⟩ <;> (repeat' split) <;> simp
@[simp] theorem State.setTokFails_keeps (s : State) (i k : Nat) :
    (State.setTokFails s i k).pending = s.pending ∧ (State.setTokFails s i k).otp = s.otp ∧ (State.setTokFails s i k).boardMem = s.boardMem ∧ (State.setTokFails s i k).planMem = s.planMem := by
  unfold State.setTokFails
  refine ⟨?_, ?_, ?_, ?_⟩ <;> (repeat' split) <;> simp
@[simp] theorem State.endWait_keeps (s : State) (token : Bool) (i : Nat) :
    (State.endWait s token i).pending = s.pending ∧ (State.endWait s token i).otp = s.otp ∧ (State.endWait s token i).boardMem = s.boardMem ∧ (State.endWait s token i).planMem = s.planMem := by
  unfold State.endWait
  refine ⟨?_, ?_, ?_, ?_⟩ <;> (repeat' split) <;> simp
@[simp] theorem State.startWait_keeps (s : State) (token : Bool) (i k : Nat) :
    (State.startWait s token i k).pending = s.pending ∧ (State.startWait s token i k).otp = s.otp ∧ (State.startWait s token i k).boardMem = s.boardMem ∧ (State.startWait s token i k).planMem = s.planMem := by
  unfold State.startWait
  refine ⟨?_, ?_, ?_, ?_⟩ <;> (repeat' split) <;> simp
@[simp] theorem State.failure_keeps (s : State) (l i : Nat) :
    (State.failure s l i).pending = s.pending ∧ (State.failure s l i).otp = s.otp ∧ (State.failure s l i).boardMem = s.boardMem ∧ (State.failure s l i).planMem = s.planMem := by
  unfold State.failure
  refine ⟨?_, ?_, ?_, ?_⟩ <;> (repeat' split) <;> simp
@[simp] theorem State.clearLock_keeps (s : State) (l : Nat) :
    (State.clearLock s l).pending = s.pending ∧ (State.clearLock s l).otp = s.otp ∧ (State.clearLock s l).boardMem = s.boardMem ∧ (State.clearLock s l).planMem = s.planMem := by
  unfold State.clearLock
  refine ⟨?_, ?_, ?_, ?_⟩ <;> (repeat' split) <;> simp
@[simp] theorem State.clearToken_keeps (s : State) (i : Nat) :
    (State.clearToken s i).pending = s.pending ∧ (State.clearToken s i).otp = s.otp ∧ (State.clearToken s i).boardMem = s.boardMem ∧ (State.clearToken s i).planMem = s.planMem := by
  unfold State.clearToken
  refine ⟨?_, ?_, ?_, ?_⟩ <;> (repeat' split) <;> simp
@[simp] theorem State.startWaits_keeps (s : State) (r : AccRun) :
    (State.startWaits s r).pending = s.pending ∧ (State.startWaits s r).otp = s.otp ∧ (State.startWaits s r).boardMem = s.boardMem ∧ (State.startWaits s r).planMem = s.planMem := by
  unfold State.startWaits
  refine ⟨?_, ?_, ?_, ?_⟩ <;> (repeat' split) <;> simp
@[simp] theorem State.accessRecord_keeps (s : State) (r : AccRun) (reason : Reason) (p : Option PathRun) (extended : Bool) :
    (State.accessRecord s r reason p extended).pending = s.pending ∧ (State.accessRecord s r reason p extended).otp = s.otp ∧ (State.accessRecord s r reason p extended).boardMem = s.boardMem ∧ (State.accessRecord s r reason p extended).planMem = s.planMem := by
  unfold State.accessRecord
  refine ⟨?_, ?_, ?_, ?_⟩ <;> (repeat' split) <;> simp
@[simp] theorem State.accCmdDone_keeps (s : State) (st : Status) :
    (State.accCmdDone s st).pending = s.pending ∧ (State.accCmdDone s st).otp = s.otp ∧ (State.accCmdDone s st).boardMem = s.boardMem ∧ (State.accCmdDone s st).planMem = s.planMem := by
  unfold State.accCmdDone
  refine ⟨?_, ?_, ?_, ?_⟩ <;> (repeat' split) <;> simp
@[simp] theorem State.endReq_keeps (s : State) (q : AccReq) (st : Status) :
    (State.endReq s q st).pending = s.pending ∧ (State.endReq s q st).otp = s.otp ∧ (State.endReq s q st).boardMem = s.boardMem ∧ (State.endReq s q st).planMem = s.planMem := by
  unfold State.endReq
  refine ⟨?_, ?_, ?_, ?_⟩ <;> (repeat' split) <;> simp
@[simp] theorem State.tokenEdge_keeps (s : State) (was now : Bool) :
    (State.tokenEdge s was now).pending = s.pending ∧ (State.tokenEdge s was now).otp = s.otp ∧ (State.tokenEdge s was now).boardMem = s.boardMem ∧ (State.tokenEdge s was now).planMem = s.planMem := by
  unfold State.tokenEdge
  refine ⟨?_, ?_, ?_, ?_⟩ <;> (repeat' split) <;> simp
@[simp] theorem State.closeRun_keeps (s : State) (r : AccRun) (st : Status) :
    (State.closeRun s r st).pending = s.pending ∧ (State.closeRun s r st).otp = s.otp ∧ (State.closeRun s r st).boardMem = s.boardMem ∧ (State.closeRun s r st).planMem = s.planMem := by
  unfold State.closeRun
  refine ⟨?_, ?_, ?_, ?_⟩ <;> (repeat' split) <;> simp
@[simp] theorem State.calResult_keeps (s : State) (r : AccRun) (st : Status) :
    (State.calResult s r st).pending = s.pending ∧ (State.calResult s r st).otp = s.otp ∧ (State.calResult s r st).boardMem = s.boardMem ∧ (State.calResult s r st).planMem = s.planMem := by
  unfold State.calResult
  refine ⟨?_, ?_, ?_, ?_⟩ <;> (repeat' split) <;> simp
@[simp] theorem State.closeEnd_keeps (s : State) (r : AccRun) :
    (State.closeEnd s r).pending = s.pending ∧ (State.closeEnd s r).otp = s.otp ∧ (State.closeEnd s r).boardMem = s.boardMem ∧ (State.closeEnd s r).planMem = s.planMem := by
  unfold State.closeEnd
  refine ⟨?_, ?_, ?_, ?_⟩ <;> (repeat' split) <;> simp
@[simp] theorem State.cutRun_keeps (s : State) (r : AccRun) (reason : Reason) :
    (State.cutRun s r reason).pending = s.pending ∧ (State.cutRun s r reason).otp = s.otp ∧ (State.cutRun s r reason).boardMem = s.boardMem ∧ (State.cutRun s r reason).planMem = s.planMem := by
  unfold State.cutRun
  refine ⟨?_, ?_, ?_, ?_⟩ <;> (repeat' split) <;> simp
@[simp] theorem State.frameFails_keeps (s : State) (r : AccRun) (q : FrameAsk) :
    (State.frameFails s r q).pending = s.pending ∧ (State.frameFails s r q).otp = s.otp ∧ (State.frameFails s r q).boardMem = s.boardMem ∧ (State.frameFails s r q).planMem = s.planMem := by
  unfold State.frameFails
  refine ⟨?_, ?_, ?_, ?_⟩ <;> (repeat' split) <;> simp
@[simp] theorem State.startAsk_keeps (s : State) (r : AccRun) (q : FrameAsk) :
    (State.startAsk s r q).pending = s.pending ∧ (State.startAsk s r q).otp = s.otp ∧ (State.startAsk s r q).boardMem = s.boardMem ∧ (State.startAsk s r q).planMem = s.planMem := by
  unfold State.startAsk
  refine ⟨?_, ?_, ?_, ?_⟩ <;> (repeat' split) <;> simp
@[simp] theorem State.askFrame_keeps (s : State) (r : AccRun) (q : FrameAsk) :
    (State.askFrame s r q).pending = s.pending ∧ (State.askFrame s r q).otp = s.otp ∧ (State.askFrame s r q).boardMem = s.boardMem ∧ (State.askFrame s r q).planMem = s.planMem := by
  unfold State.askFrame
  refine ⟨?_, ?_, ?_, ?_⟩ <;> (repeat' split) <;> simp
@[simp] theorem State.endPhase_keeps (s : State) (r : AccRun) :
    (State.endPhase s r).pending = s.pending ∧ (State.endPhase s r).otp = s.otp ∧ (State.endPhase s r).boardMem = s.boardMem ∧ (State.endPhase s r).planMem = s.planMem := by
  unfold State.endPhase
  refine ⟨?_, ?_, ?_, ?_⟩ <;> (repeat' split) <;> simp
@[simp] theorem State.finishPhases_keeps (s : State) (r : AccRun) :
    (State.finishPhases s r).pending = s.pending ∧ (State.finishPhases s r).otp = s.otp ∧ (State.finishPhases s r).boardMem = s.boardMem ∧ (State.finishPhases s r).planMem = s.planMem := by
  unfold State.finishPhases
  refine ⟨?_, ?_, ?_, ?_⟩ <;> (repeat' split) <;> simp
@[simp] theorem State.startTp_keeps (s : State) (r : AccRun) :
    (State.startTp s r).pending = s.pending ∧ (State.startTp s r).otp = s.otp ∧ (State.startTp s r).boardMem = s.boardMem ∧ (State.startTp s r).planMem = s.planMem := by
  unfold State.startTp
  refine ⟨?_, ?_, ?_, ?_⟩ <;> (repeat' split) <;> simp
@[simp] theorem State.drawFails_keeps (s : State) (r : AccRun) :
    (State.drawFails s r).pending = s.pending ∧ (State.drawFails s r).otp = s.otp ∧ (State.drawFails s r).boardMem = s.boardMem ∧ (State.drawFails s r).planMem = s.planMem := by
  unfold State.drawFails
  refine ⟨?_, ?_, ?_, ?_⟩ <;> (repeat' split) <;> simp
@[simp] theorem State.askDraw_keeps (s : State) (r : AccRun) (n : Nat) (range : Bool) :
    (State.askDraw s r n range).pending = s.pending ∧ (State.askDraw s r n range).otp = s.otp ∧ (State.askDraw s r n range).boardMem = s.boardMem ∧ (State.askDraw s r n range).planMem = s.planMem := by
  unfold State.askDraw
  refine ⟨?_, ?_, ?_, ?_⟩ <;> (repeat' split) <;> simp
@[simp] theorem State.continuePhases_keeps (s : State) (r : AccRun) :
    (State.continuePhases s r).pending = s.pending ∧ (State.continuePhases s r).otp = s.otp ∧ (State.continuePhases s r).boardMem = s.boardMem ∧ (State.continuePhases s r).planMem = s.planMem := by
  unfold State.continuePhases
  refine ⟨?_, ?_, ?_, ?_⟩ <;> (repeat' split) <;> simp
@[simp] theorem State.afterPath_keeps (s : State) (r : AccRun) :
    (State.afterPath s r).pending = s.pending ∧ (State.afterPath s r).otp = s.otp ∧ (State.afterPath s r).boardMem = s.boardMem ∧ (State.afterPath s r).planMem = s.planMem := by
  unfold State.afterPath
  refine ⟨?_, ?_, ?_, ?_⟩ <;> (repeat' split) <;> simp
@[simp] theorem State.refuse_keeps (s : State) (r : AccRun) (p : PathRun) (reason : Reason) :
    (State.refuse s r p reason).pending = s.pending ∧ (State.refuse s r p reason).otp = s.otp ∧ (State.refuse s r p reason).boardMem = s.boardMem ∧ (State.refuse s r p reason).planMem = s.planMem := by
  unfold State.refuse
  refine ⟨?_, ?_, ?_, ?_⟩ <;> (repeat' split) <;> simp
@[simp] theorem State.macFailed_keeps (s : State) (r : AccRun) (p : PathRun) :
    (State.macFailed s r p).pending = s.pending ∧ (State.macFailed s r p).otp = s.otp ∧ (State.macFailed s r p).boardMem = s.boardMem ∧ (State.macFailed s r p).planMem = s.planMem := by
  unfold State.macFailed
  refine ⟨?_, ?_, ?_, ?_⟩ <;> (repeat' split) <;> simp
@[simp] theorem State.keyRefused_keeps (s : State) (r : AccRun) (p : PathRun) :
    (State.keyRefused s r p).pending = s.pending ∧ (State.keyRefused s r p).otp = s.otp ∧ (State.keyRefused s r p).boardMem = s.boardMem ∧ (State.keyRefused s r p).planMem = s.planMem := by
  unfold State.keyRefused
  refine ⟨?_, ?_, ?_, ?_⟩ <;> (repeat' split) <;> simp
@[simp] theorem State.grantLock_keeps (s : State) (r : AccRun) (p : PathRun) :
    (State.grantLock s r p).pending = s.pending ∧ (State.grantLock s r p).otp = s.otp ∧ (State.grantLock s r p).boardMem = s.boardMem ∧ (State.grantLock s r p).planMem = s.planMem := by
  unfold State.grantLock
  refine ⟨?_, ?_, ?_, ?_⟩ <;> (repeat' split) <;> simp
@[simp] theorem State.releaseTest_keeps (s : State) (r : AccRun) (p : PathRun) :
    (State.releaseTest s r p).pending = s.pending ∧ (State.releaseTest s r p).otp = s.otp ∧ (State.releaseTest s r p).boardMem = s.boardMem ∧ (State.releaseTest s r p).planMem = s.planMem := by
  unfold State.releaseTest
  refine ⟨?_, ?_, ?_, ?_⟩ <;> (repeat' split) <;> simp
@[simp] theorem State.authenticated_keeps (s : State) (r : AccRun) (p : PathRun) (body : List Byte) (x : DownFrame) :
    (State.authenticated s r p body x).pending = s.pending ∧ (State.authenticated s r p body x).otp = s.otp ∧ (State.authenticated s r p body x).boardMem = s.boardMem ∧ (State.authenticated s r p body x).planMem = s.planMem := by
  unfold State.authenticated
  refine ⟨?_, ?_, ?_, ?_⟩ <;> (repeat' split) <;> simp
@[simp] theorem State.toJudge_keeps (s : State) (r : AccRun) (at_ : JudgeAt) :
    (State.toJudge s r at_).pending = s.pending ∧ (State.toJudge s r at_).otp = s.otp ∧ (State.toJudge s r at_).boardMem = s.boardMem ∧ (State.toJudge s r at_).planMem = s.planMem := by
  unfold State.toJudge
  refine ⟨?_, ?_, ?_, ?_⟩ <;> (repeat' split) <;> simp
@[simp] theorem State.judgeVerdict_keeps (s : State) (r : AccRun) (p : PathRun) (ctr : Nat) (v : CtrVerdict) :
    (State.judgeVerdict s r p ctr v).pending = s.pending ∧ (State.judgeVerdict s r p ctr v).otp = s.otp ∧ (State.judgeVerdict s r p ctr v).boardMem = s.boardMem ∧ (State.judgeVerdict s r p ctr v).planMem = s.planMem := by
  unfold State.judgeVerdict
  refine ⟨?_, ?_, ?_, ?_⟩ <;> (repeat' split) <;> simp
@[simp] theorem State.judgeSession_keeps (s : State) (r : AccRun) (p : PathRun) (key : List Byte) :
    (State.judgeSession s r p key).pending = s.pending ∧ (State.judgeSession s r p key).otp = s.otp ∧ (State.judgeSession s r p key).boardMem = s.boardMem ∧ (State.judgeSession s r p key).planMem = s.planMem := by
  unfold State.judgeSession
  refine ⟨?_, ?_, ?_, ?_⟩ <;> (repeat' split) <;> simp
@[simp] theorem State.judgeCounter_keeps (s : State) (r : AccRun) (p : PathRun) (ctr : Nat) :
    (State.judgeCounter s r p ctr).pending = s.pending ∧ (State.judgeCounter s r p ctr).otp = s.otp ∧ (State.judgeCounter s r p ctr).boardMem = s.boardMem ∧ (State.judgeCounter s r p ctr).planMem = s.planMem := by
  unfold State.judgeCounter
  refine ⟨?_, ?_, ?_, ?_⟩ <;> (repeat' split) <;> simp
@[simp] theorem State.judgePlain_keeps (s : State) (r : AccRun) (p : PathRun) (key : List Byte) :
    (State.judgePlain s r p key).pending = s.pending ∧ (State.judgePlain s r p key).otp = s.otp ∧ (State.judgePlain s r p key).boardMem = s.boardMem ∧ (State.judgePlain s r p key).planMem = s.planMem := by
  unfold State.judgePlain
  refine ⟨?_, ?_, ?_, ?_⟩ <;> (repeat' split) <;> simp
@[simp] theorem State.judgeRoll_keeps (s : State) (r : AccRun) (p : PathRun) (key : List Byte) :
    (State.judgeRoll s r p key).pending = s.pending ∧ (State.judgeRoll s r p key).otp = s.otp ∧ (State.judgeRoll s r p key).boardMem = s.boardMem ∧ (State.judgeRoll s r p key).planMem = s.planMem := by
  unfold State.judgeRoll
  refine ⟨?_, ?_, ?_, ?_⟩ <;> (repeat' split) <;> simp
@[simp] theorem State.judgeMode_keeps (s : State) (r : AccRun) (p : PathRun) :
    (State.judgeMode s r p).pending = s.pending ∧ (State.judgeMode s r p).otp = s.otp ∧ (State.judgeMode s r p).boardMem = s.boardMem ∧ (State.judgeMode s r p).planMem = s.planMem := by
  unfold State.judgeMode
  refine ⟨?_, ?_, ?_, ?_⟩ <;> (repeat' split) <;> simp
@[simp] theorem State.judgeStart_keeps (s : State) (r : AccRun) (c : Candidate) (rest : List Candidate) :
    (State.judgeStart s r c rest).pending = s.pending ∧ (State.judgeStart s r c rest).otp = s.otp ∧ (State.judgeStart s r c rest).boardMem = s.boardMem ∧ (State.judgeStart s r c rest).planMem = s.planMem := by
  unfold State.judgeStart
  dsimp only
  refine ⟨?_, ?_, ?_, ?_⟩ <;> (repeat' split) <;> (try simp) <;> (repeat' split) <;> (try simp)
@[simp] theorem State.judgeAnswered_keeps (s : State) (r : AccRun) (p : PathRun) (key : List Byte) :
    (State.judgeAnswered s r p key).pending = s.pending ∧ (State.judgeAnswered s r p key).otp = s.otp ∧ (State.judgeAnswered s r p key).boardMem = s.boardMem ∧ (State.judgeAnswered s r p key).planMem = s.planMem := by
  unfold State.judgeAnswered
  refine ⟨?_, ?_, ?_, ?_⟩ <;> (repeat' split) <;> simp
@[simp] theorem State.askRange_keeps (s : State) (r : AccRun) (p : PathRun) :
    (State.askRange s r p).pending = s.pending ∧ (State.askRange s r p).otp = s.otp ∧ (State.askRange s r p).boardMem = s.boardMem ∧ (State.askRange s r p).planMem = s.planMem := by
  unfold State.askRange
  try dsimp only
  refine ⟨?_, ?_, ?_, ?_⟩ <;> (repeat' split) <;>
    first
    | (simp; done)
    | (rename_i h; have k := congrArg Prod.fst h; simp only at k; subst k; simp)
@[simp] theorem State.releaseFrame_keeps (s : State) (r : AccRun) (q : FrameAsk) :
    (State.releaseFrame s r q).pending = s.pending ∧ (State.releaseFrame s r q).otp = s.otp ∧ (State.releaseFrame s r q).boardMem = s.boardMem ∧ (State.releaseFrame s r q).planMem = s.planMem := by
  unfold State.releaseFrame
  refine ⟨?_, ?_, ?_, ?_⟩ <;> (repeat' split) <;> simp
@[simp] theorem State.judgeDrawn_keeps (s : State) (r : AccRun) (p : PathRun) (key : List Byte) :
    (State.judgeDrawn s r p key).pending = s.pending ∧ (State.judgeDrawn s r p key).otp = s.otp ∧ (State.judgeDrawn s r p key).boardMem = s.boardMem ∧ (State.judgeDrawn s r p key).planMem = s.planMem := by
  unfold State.judgeDrawn
  refine ⟨?_, ?_, ?_, ?_⟩ <;> (repeat' split) <;> simp
@[simp] theorem State.judgeRanged_keeps (s : State) (r : AccRun) (p : PathRun) :
    (State.judgeRanged s r p).pending = s.pending ∧ (State.judgeRanged s r p).otp = s.otp ∧ (State.judgeRanged s r p).boardMem = s.boardMem ∧ (State.judgeRanged s r p).planMem = s.planMem := by
  unfold State.judgeRanged
  refine ⟨?_, ?_, ?_, ?_⟩ <;> (repeat' split) <;> simp
@[simp] theorem State.judge_keeps (s : State) (r : AccRun) (at_ : JudgeAt) (key : List Byte) :
    (State.judge s r at_ key).pending = s.pending ∧ (State.judge s r at_ key).otp = s.otp ∧ (State.judge s r at_ key).boardMem = s.boardMem ∧ (State.judge s r at_ key).planMem = s.planMem := by
  unfold State.judge
  refine ⟨?_, ?_, ?_, ?_⟩ <;> (repeat' split) <;> simp
@[simp] theorem State.resend_keeps (s : State) (r : AccRun) (x : DownFrame) :
    (State.resend s r x).pending = s.pending ∧ (State.resend s r x).otp = s.otp ∧ (State.resend s r x).boardMem = s.boardMem ∧ (State.resend s r x).planMem = s.planMem := by
  unfold State.resend
  refine ⟨?_, ?_, ?_, ?_⟩ <;> (repeat' split) <;> simp
@[simp] theorem State.targetDone_keeps (s : State) (r : AccRun) (x : DownFrame) (o : Option LinkOutcome) (body : List Byte) :
    (State.targetDone s r x o body).pending = s.pending ∧ (State.targetDone s r x o body).otp = s.otp ∧ (State.targetDone s r x o body).boardMem = s.boardMem ∧ (State.targetDone s r x o body).planMem = s.planMem := by
  unfold State.targetDone
  refine ⟨?_, ?_, ?_, ?_⟩ <;> (repeat' split) <;> simp
@[simp] theorem State.answerIn_keeps (s : State) (x : DownFrame) (slot : Nat) (o : Option LinkOutcome) (body : List Byte) (last : Bool) :
    (State.answerIn s x slot o body last).pending = s.pending ∧ (State.answerIn s x slot o body last).otp = s.otp ∧ (State.answerIn s x slot o body last).boardMem = s.boardMem ∧ (State.answerIn s x slot o body last).planMem = s.planMem := by
  unfold State.answerIn
  dsimp only
  refine ⟨?_, ?_, ?_, ?_⟩ <;> (repeat' split) <;> (try simp) <;> (repeat' split) <;> (try simp)
@[simp] theorem State.sentOnly_keeps (s : State) (x : DownFrame) :
    (State.sentOnly s x).pending = s.pending ∧ (State.sentOnly s x).otp = s.otp ∧ (State.sentOnly s x).boardMem = s.boardMem ∧ (State.sentOnly s x).planMem = s.planMem := by
  unfold State.sentOnly
  refine ⟨?_, ?_, ?_, ?_⟩ <;> (repeat' split) <;> simp
@[simp] theorem State.calTrain_keeps (s : State) (r : AccRun) (p : PathRun) (cells : List (Option (Nat × Bool))) :
    (State.calTrain s r p cells).pending = s.pending ∧ (State.calTrain s r p cells).otp = s.otp ∧ (State.calTrain s r p cells).boardMem = s.boardMem ∧ (State.calTrain s r p cells).planMem = s.planMem := by
  unfold State.calTrain
  refine ⟨?_, ?_, ?_, ?_⟩ <;> (repeat' split) <;> simp
@[simp] theorem State.trainMeasured_keeps (s : State) (cells : List (Option (Nat × Bool))) :
    (State.trainMeasured s cells).pending = s.pending ∧ (State.trainMeasured s cells).otp = s.otp ∧ (State.trainMeasured s cells).boardMem = s.boardMem ∧ (State.trainMeasured s cells).planMem = s.planMem := by
  unfold State.trainMeasured
  dsimp only
  refine ⟨?_, ?_, ?_, ?_⟩ <;> (repeat' split) <;> (try simp) <;> (repeat' split) <;> (try simp)
@[simp] theorem State.revokeEntry_keeps (s : State) (i : Nat) :
    (State.revokeEntry s i).pending = s.pending ∧ (State.revokeEntry s i).otp = s.otp ∧ (State.revokeEntry s i).boardMem = s.boardMem ∧ (State.revokeEntry s i).planMem = s.planMem := by
  unfold State.revokeEntry
  refine ⟨?_, ?_, ?_, ?_⟩ <;> (repeat' split) <;> simp

/-! ### Rotation -/


/-! ### WakeOps -/

@[simp] theorem State.fireWake_keeps (s : State) (src : Nat) (banks : List Domain) :
    (State.fireWake s src banks).pending = s.pending ∧ (State.fireWake s src banks).otp = s.otp ∧ (State.fireWake s src banks).boardMem = s.boardMem ∧ (State.fireWake s src banks).planMem = s.planMem := by
  unfold State.fireWake
  refine ⟨?_, ?_, ?_, ?_⟩ <;> (repeat' split) <;> simp

end Sys2Proof.Machine
end

