-- ==== Sys2Proof/Laws/Keep3.lean ====
section
/-! SUPPORT. What each shared operation leaves alone: the queue, the OTP values and the bytes of the two memories,
of plans, rods and field sharing. -/

namespace Sys2Proof.Machine
open Sys2Proof

/-! ### PlanStep -/


/-! ### PlanOps -/

@[simp] theorem State.modPlan_keeps (s : State) (n : Fin 24) (f : Plan → Plan) :
    (State.modPlan s n f).pending = s.pending ∧ (State.modPlan s n f).otp = s.otp ∧ (State.modPlan s n f).boardMem = s.boardMem ∧ (State.modPlan s n f).planMem = s.planMem := by
  unfold State.modPlan
  refine ⟨?_, ?_, ?_, ?_⟩ <;> (repeat' split) <;> simp
@[simp] theorem State.modInv_keeps (s : State) (n : Fin 24) (f : InvRun → InvRun) :
    (State.modInv s n f).pending = s.pending ∧ (State.modInv s n f).otp = s.otp ∧ (State.modInv s n f).boardMem = s.boardMem ∧ (State.modInv s n f).planMem = s.planMem := by
  unfold State.modInv
  refine ⟨?_, ?_, ?_, ?_⟩ <;> (repeat' split) <;> simp
@[simp] theorem State.modTag_keeps (s : State) (n : Fin 24) (f : TagRun → TagRun) :
    (State.modTag s n f).pending = s.pending ∧ (State.modTag s n f).otp = s.otp ∧ (State.modTag s n f).boardMem = s.boardMem ∧ (State.modTag s n f).planMem = s.planMem := by
  unfold State.modTag
  refine ⟨?_, ?_, ?_, ?_⟩ <;> (repeat' split) <;> simp
@[simp] theorem State.modHeld_keeps (s : State) (n : Fin 24) (j : Nat) (f : Held → Held) :
    (State.modHeld s n j f).pending = s.pending ∧ (State.modHeld s n j f).otp = s.otp ∧ (State.modHeld s n j f).boardMem = s.boardMem ∧ (State.modHeld s n j f).planMem = s.planMem := by
  unfold State.modHeld
  refine ⟨?_, ?_, ?_, ?_⟩ <;> (repeat' split) <;> simp
@[simp] theorem State.emitPlan_keeps (s : State) (n : Fin 24) (p : Plan) (type : RecType) (st : Status) (stamp : DWord) (content : List Byte) (id : Option Nat) :
    (State.emitPlan s n p type st stamp content id).pending = s.pending ∧ (State.emitPlan s n p type st stamp content id).otp = s.otp ∧ (State.emitPlan s n p type st stamp content id).boardMem = s.boardMem ∧ (State.emitPlan s n p type st stamp content id).planMem = s.planMem := by
  unfold State.emitPlan
  refine ⟨?_, ?_, ?_, ?_⟩ <;> (repeat' split) <;> simp
@[simp] theorem State.emitWrite_keeps (s : State) (n : Fin 24) (p : Plan) (proto near strength nearRssi : Nat) (trunc combined : Bool) (uid : List Byte) (es : List Entry) (stamp : DWord) :
    (State.emitWrite s n p proto near strength nearRssi trunc combined uid es stamp).pending = s.pending ∧ (State.emitWrite s n p proto near strength nearRssi trunc combined uid es stamp).otp = s.otp ∧ (State.emitWrite s n p proto near strength nearRssi trunc combined uid es stamp).boardMem = s.boardMem ∧ (State.emitWrite s n p proto near strength nearRssi trunc combined uid es stamp).planMem = s.planMem := by
  unfold State.emitWrite
  refine ⟨?_, ?_, ?_, ?_⟩ <;> (repeat' split) <;> simp
@[simp] theorem State.register_keeps (s : State) (uid : List Byte) :
    (State.register s uid).1.pending = s.pending ∧ (State.register s uid).1.otp = s.otp ∧ (State.register s uid).1.boardMem = s.boardMem ∧ (State.register s uid).1.planMem = s.planMem := by
  unfold State.register
  dsimp only
  refine ⟨?_, ?_, ?_, ?_⟩ <;> (repeat' split) <;> (try simp) <;> (repeat' split) <;> (try simp)
@[simp] theorem State.checkOverlap_keeps (s : State) :
    (State.checkOverlap s).pending = s.pending ∧ (State.checkOverlap s).otp = s.otp ∧ (State.checkOverlap s).boardMem = s.boardMem ∧ (State.checkOverlap s).planMem = s.planMem := by
  unfold State.checkOverlap
  refine ⟨?_, ?_, ?_, ?_⟩ <;> (repeat' split) <;> simp
@[simp] theorem State.countDiscard_keeps (s : State) (n : Fin 24) (w : DiscardWhy) :
    (State.countDiscard s n w).pending = s.pending ∧ (State.countDiscard s n w).otp = s.otp ∧ (State.countDiscard s n w).boardMem = s.boardMem ∧ (State.countDiscard s n w).planMem = s.planMem := by
  unfold State.countDiscard
  refine ⟨?_, ?_, ?_, ?_⟩ <;> (repeat' split) <;> simp
@[simp] theorem State.dropPrep_keeps (s : State) (n : Fin 24) :
    (State.dropPrep s n).pending = s.pending ∧ (State.dropPrep s n).otp = s.otp ∧ (State.dropPrep s n).boardMem = s.boardMem ∧ (State.dropPrep s n).planMem = s.planMem := by
  unfold State.dropPrep
  refine ⟨?_, ?_, ?_, ?_⟩ <;> (repeat' split) <;> simp
@[simp] theorem State.dropPlanFrame_keeps (s : State) (n : Fin 24) :
    (State.dropPlanFrame s n).pending = s.pending ∧ (State.dropPlanFrame s n).otp = s.otp ∧ (State.dropPlanFrame s n).boardMem = s.boardMem ∧ (State.dropPlanFrame s n).planMem = s.planMem := by
  unfold State.dropPlanFrame
  refine ⟨?_, ?_, ?_, ?_⟩ <;> (repeat' split) <;> simp
@[simp] theorem State.tagGone_keeps (s : State) (n : Fin 24) (uid : List Byte) :
    (State.tagGone s n uid).pending = s.pending ∧ (State.tagGone s n uid).otp = s.otp ∧ (State.tagGone s n uid).boardMem = s.boardMem ∧ (State.tagGone s n uid).planMem = s.planMem := by
  unfold State.tagGone
  dsimp only
  refine ⟨?_, ?_, ?_, ?_⟩ <;> (repeat' split) <;> (try simp) <;> (repeat' split) <;> (try simp)
@[simp] theorem State.discard_keeps (s : State) (n : Fin 24) (j : Nat) (w : DiscardWhy) :
    (State.discard s n j w).pending = s.pending ∧ (State.discard s n j w).otp = s.otp ∧ (State.discard s n j w).boardMem = s.boardMem ∧ (State.discard s n j w).planMem = s.planMem := by
  unfold State.discard
  refine ⟨?_, ?_, ?_, ?_⟩ <;> (repeat' split) <;> simp
@[simp] theorem State.discardSome_keeps (n : Fin 24) (w : DiscardWhy) (k0 : Nat) (s : State) :
    (State.discardSome n w k0 s).pending = s.pending ∧ (State.discardSome n w k0 s).otp = s.otp ∧ (State.discardSome n w k0 s).boardMem = s.boardMem ∧ (State.discardSome n w k0 s).planMem = s.planMem := by
  induction k0 generalizing s with
  | zero => simp [State.discardSome]
  | succ k ih =>
    unfold State.discardSome
    refine ⟨?_, ?_, ?_, ?_⟩ <;> (repeat' split) <;> simp [ih]
@[simp] theorem State.discardAll_keeps (n : Fin 24) (w : DiscardWhy) (s : State) :
    (State.discardAll n w s).pending = s.pending ∧ (State.discardAll n w s).otp = s.otp ∧ (State.discardAll n w s).boardMem = s.boardMem ∧ (State.discardAll n w s).planMem = s.planMem := by
  unfold State.discardAll
  refine ⟨?_, ?_, ?_, ?_⟩ <;> (repeat' split) <;> simp
@[simp] theorem State.discardDups_keeps (s : State) (uid : List Byte) :
    (State.discardDups s uid).pending = s.pending ∧ (State.discardDups s uid).otp = s.otp ∧ (State.discardDups s uid).boardMem = s.boardMem ∧ (State.discardDups s uid).planMem = s.planMem := by
  unfold State.discardDups
  exact ⟨forAll_pending (fun a s => by (repeat' split) <;> simp) _ _,
    forAll_otp (fun a s => by (repeat' split) <;> simp) _ _,
    forAll_boardMem (fun a s => by (repeat' split) <;> simp) _ _,
    forAll_planMem (fun a s => by (repeat' split) <;> simp) _ _⟩
@[simp] theorem State.settlePlan_keeps (s : State) (n : Fin 24) :
    (State.settlePlan s n).pending = s.pending ∧ (State.settlePlan s n).otp = s.otp ∧ (State.settlePlan s n).boardMem = s.boardMem ∧ (State.settlePlan s n).planMem = s.planMem := by
  unfold State.settlePlan
  refine ⟨?_, ?_, ?_, ?_⟩ <;> (repeat' split) <;> simp
@[simp] theorem State.settleAll_keeps (s : State) :
    (State.settleAll s).pending = s.pending ∧ (State.settleAll s).otp = s.otp ∧ (State.settleAll s).boardMem = s.boardMem ∧ (State.settleAll s).planMem = s.planMem := by
  unfold State.settleAll
  refine ⟨?_, ?_, ?_, ?_⟩ <;> (repeat' split) <;> simp
@[simp] theorem State.endPlan_keeps (s : State) (n : Fin 24) (c : PlanCause) :
    (State.endPlan s n c).pending = s.pending ∧ (State.endPlan s n c).otp = s.otp ∧ (State.endPlan s n c).boardMem = s.boardMem ∧ (State.endPlan s n c).planMem = s.planMem := by
  unfold State.endPlan
  refine ⟨?_, ?_, ?_, ?_⟩ <;> (repeat' split) <;> simp
@[simp] theorem State.planBoundary_keeps (s : State) (n : Fin 24) :
    (State.planBoundary s n).pending = s.pending ∧ (State.planBoundary s n).otp = s.otp ∧ (State.planBoundary s n).boardMem = s.boardMem ∧ (State.planBoundary s n).planMem = s.planMem := by
  unfold State.planBoundary
  refine ⟨?_, ?_, ?_, ?_⟩ <;> (repeat' split) <;> simp
@[simp] theorem State.settleDoom_keeps (s : State) :
    (State.settleDoom s).pending = s.pending ∧ (State.settleDoom s).otp = s.otp ∧ (State.settleDoom s).boardMem = s.boardMem ∧ (State.settleDoom s).planMem = s.planMem := by
  unfold State.settleDoom
  refine ⟨?_, ?_, ?_, ?_⟩ <;> (repeat' split) <;> simp
@[simp] theorem State.unitEnd_keeps (s : State) (n : Fin 24) :
    (State.unitEnd s n).pending = s.pending ∧ (State.unitEnd s n).otp = s.otp ∧ (State.unitEnd s n).boardMem = s.boardMem ∧ (State.unitEnd s n).planMem = s.planMem := by
  unfold State.unitEnd
  refine ⟨?_, ?_, ?_, ?_⟩ <;> (repeat' split) <;> simp
@[simp] theorem State.putPlan_keeps (s : State) (n : Fin 24) (x : Exchange) :
    (State.putPlan s n x).pending = s.pending ∧ (State.putPlan s n x).otp = s.otp ∧ (State.putPlan s n x).boardMem = s.boardMem ∧ (State.putPlan s n x).planMem = s.planMem := by
  unfold State.putPlan
  refine ⟨?_, ?_, ?_, ?_⟩ <;> (repeat' split) <;> simp
@[simp] theorem State.noteFault_keeps (s : State) (n : Fin 24) (step reason : Nat) (err : Bool) :
    (State.noteFault s n step reason err).pending = s.pending ∧ (State.noteFault s n step reason err).otp = s.otp ∧ (State.noteFault s n step reason err).boardMem = s.boardMem ∧ (State.noteFault s n step reason err).planMem = s.planMem := by
  unfold State.noteFault
  refine ⟨?_, ?_, ?_, ?_⟩ <;> (repeat' split) <;> simp
@[simp] theorem State.noteStep_keeps (s : State) (n : Fin 24) (step : Nat) :
    (State.noteStep s n step).pending = s.pending ∧ (State.noteStep s n step).otp = s.otp ∧ (State.noteStep s n step).boardMem = s.boardMem ∧ (State.noteStep s n step).planMem = s.planMem := by
  unfold State.noteStep
  refine ⟨?_, ?_, ?_, ?_⟩ <;> (repeat' split) <;> simp
@[simp] theorem State.tagComplete_keeps (s : State) (n : Fin 24) (t : TagRun) :
    (State.tagComplete s n t).pending = s.pending ∧ (State.tagComplete s n t).otp = s.otp ∧ (State.tagComplete s n t).boardMem = s.boardMem ∧ (State.tagComplete s n t).planMem = s.planMem := by
  unfold State.tagComplete
  refine ⟨?_, ?_, ?_, ?_⟩ <;> (repeat' split) <;> simp
@[simp] theorem State.dropWrites_keeps (s : State) (n : Fin 24) (p : Plan) (i : InvRun) (t : TagRun) :
    (State.dropWrites s n p i t).pending = s.pending ∧ (State.dropWrites s n p i t).otp = s.otp ∧ (State.dropWrites s n p i t).boardMem = s.boardMem ∧ (State.dropWrites s n p i t).planMem = s.planMem := by
  unfold State.dropWrites
  refine ⟨?_, ?_, ?_, ?_⟩ <;> (repeat' split) <;> simp
@[simp] theorem State.afterList_pending (s0 : State) (n : Fin 24) (next : State → State) (hnext : ∀ a0, (next a0).pending = a0.pending) :
    (State.afterList s0 n next).pending = s0.pending := by
  unfold State.afterList
  (repeat' split) <;> (try simp [hnext]) <;> (repeat' split) <;> (try simp [hnext])
@[simp] theorem State.afterList_otp (s0 : State) (n : Fin 24) (next : State → State) (hnext : ∀ a0, (next a0).otp = a0.otp) :
    (State.afterList s0 n next).otp = s0.otp := by
  unfold State.afterList
  (repeat' split) <;> (try simp [hnext]) <;> (repeat' split) <;> (try simp [hnext])
@[simp] theorem State.afterList_boardMem (s0 : State) (n : Fin 24) (next : State → State) (hnext : ∀ a0, (next a0).boardMem = a0.boardMem) :
    (State.afterList s0 n next).boardMem = s0.boardMem := by
  unfold State.afterList
  (repeat' split) <;> (try simp [hnext]) <;> (repeat' split) <;> (try simp [hnext])
@[simp] theorem State.afterList_planMem (s0 : State) (n : Fin 24) (next : State → State) (hnext : ∀ a0, (next a0).planMem = a0.planMem) :
    (State.afterList s0 n next).planMem = s0.planMem := by
  unfold State.afterList
  (repeat' split) <;> (try simp [hnext]) <;> (repeat' split) <;> (try simp [hnext])
@[simp] theorem State.endWrites_keeps (s : State) (n : Fin 24) (p : Plan) (i : InvRun) (t : TagRun) (k : Nat) :
    (State.endWrites s n p i t k).pending = s.pending ∧ (State.endWrites s n p i t k).otp = s.otp ∧ (State.endWrites s n p i t k).boardMem = s.boardMem ∧ (State.endWrites s n p i t k).planMem = s.planMem := by
  unfold State.endWrites
  refine ⟨?_, ?_, ?_, ?_⟩ <;> (repeat' split) <;> simp
@[simp] theorem State.cutWrites_keeps (s : State) (n : Fin 24) :
    (State.cutWrites s n).pending = s.pending ∧ (State.cutWrites s n).otp = s.otp ∧ (State.cutWrites s n).boardMem = s.boardMem ∧ (State.cutWrites s n).planMem = s.planMem := by
  unfold State.cutWrites
  refine ⟨?_, ?_, ?_, ?_⟩ <;> (repeat' split) <;> simp
@[simp] theorem State.tagNext_pending (n : Fin 24) (next : State → State) (h : ∀ s, (next s).pending = s.pending) (k : Nat)
    (s : State) : (State.tagNext n next k s).pending = s.pending := by
  induction k generalizing s with
  | zero => simp [State.tagNext]
  | succ k ih => unfold State.tagNext; (repeat' split) <;> simp [ih, h]
@[simp] theorem State.tagNext_otp (n : Fin 24) (next : State → State) (h : ∀ s, (next s).otp = s.otp) (k : Nat)
    (s : State) : (State.tagNext n next k s).otp = s.otp := by
  induction k generalizing s with
  | zero => simp [State.tagNext]
  | succ k ih => unfold State.tagNext; (repeat' split) <;> simp [ih, h]
@[simp] theorem State.tagNext_boardMem (n : Fin 24) (next : State → State) (h : ∀ s, (next s).boardMem = s.boardMem) (k : Nat)
    (s : State) : (State.tagNext n next k s).boardMem = s.boardMem := by
  induction k generalizing s with
  | zero => simp [State.tagNext]
  | succ k ih => unfold State.tagNext; (repeat' split) <;> simp [ih, h]
@[simp] theorem State.tagNext_planMem (n : Fin 24) (next : State → State) (h : ∀ s, (next s).planMem = s.planMem) (k : Nat)
    (s : State) : (State.tagNext n next k s).planMem = s.planMem := by
  induction k generalizing s with
  | zero => simp [State.tagNext]
  | succ k ih => unfold State.tagNext; (repeat' split) <;> simp [ih, h]
@[simp] theorem State.pushMask_keeps (s : State) (n : Fin 24) (e : MaskEntry) :
    (State.pushMask s n e).pending = s.pending ∧ (State.pushMask s n e).otp = s.otp ∧ (State.pushMask s n e).boardMem = s.boardMem ∧ (State.pushMask s n e).planMem = s.planMem := by
  unfold State.pushMask
  refine ⟨?_, ?_, ?_, ?_⟩ <;> (repeat' split) <;> simp
@[simp] theorem State.endInventory_keeps (s : State) (n : Fin 24) :
    (State.endInventory s n).pending = s.pending ∧ (State.endInventory s n).otp = s.otp ∧ (State.endInventory s n).boardMem = s.boardMem ∧ (State.endInventory s n).planMem = s.planMem := by
  unfold State.endInventory
  refine ⟨?_, ?_, ?_, ?_⟩ <;> (repeat' split) <;> simp
@[simp] theorem State.endCycle_keeps (s : State) (n : Fin 24) :
    (State.endCycle s n).pending = s.pending ∧ (State.endCycle s n).otp = s.otp ∧ (State.endCycle s n).boardMem = s.boardMem ∧ (State.endCycle s n).planMem = s.planMem := by
  unfold State.endCycle
  refine ⟨?_, ?_, ?_, ?_⟩ <;> (repeat' split) <;> simp
@[simp] theorem State.cycleDone_keeps (s : State) (n : Fin 24) :
    (State.cycleDone s n).pending = s.pending ∧ (State.cycleDone s n).otp = s.otp ∧ (State.cycleDone s n).boardMem = s.boardMem ∧ (State.cycleDone s n).planMem = s.planMem := by
  unfold State.cycleDone
  refine ⟨?_, ?_, ?_, ?_⟩ <;> (repeat' split) <;> simp
@[simp] theorem State.afterTag_keeps (s : State) (n : Fin 24) :
    (State.afterTag s n).pending = s.pending ∧ (State.afterTag s n).otp = s.otp ∧ (State.afterTag s n).boardMem = s.boardMem ∧ (State.afterTag s n).planMem = s.planMem := by
  unfold State.afterTag
  refine ⟨?_, ?_, ?_, ?_⟩ <;> (repeat' split) <;> simp
@[simp] theorem State.resumeSlot_keeps (s : State) (n : Fin 24) :
    (State.resumeSlot s n).pending = s.pending ∧ (State.resumeSlot s n).otp = s.otp ∧ (State.resumeSlot s n).boardMem = s.boardMem ∧ (State.resumeSlot s n).planMem = s.planMem := by
  unfold State.resumeSlot
  refine ⟨?_, ?_, ?_, ?_⟩ <;> (repeat' split) <;> simp
@[simp] theorem State.resumeTags_keeps (s : State) :
    (State.resumeTags s).pending = s.pending ∧ (State.resumeTags s).otp = s.otp ∧ (State.resumeTags s).boardMem = s.boardMem ∧ (State.resumeTags s).planMem = s.planMem := by
  unfold State.resumeTags
  exact ⟨forAll_pending (fun a s => by (repeat' split) <;> simp) _ _,
    forAll_otp (fun a s => by (repeat' split) <;> simp) _ _,
    forAll_boardMem (fun a s => by (repeat' split) <;> simp) _ _,
    forAll_planMem (fun a s => by (repeat' split) <;> simp) _ _⟩
@[simp] theorem State.decodeUid_keeps (s : State) (n : Fin 24) (uid : List Byte) (d : Decode) :
    (State.decodeUid s n uid d).pending = s.pending ∧ (State.decodeUid s n uid d).otp = s.otp ∧ (State.decodeUid s n uid d).boardMem = s.boardMem ∧ (State.decodeUid s n uid d).planMem = s.planMem := by
  unfold State.decodeUid
  refine ⟨?_, ?_, ?_, ?_⟩ <;> (repeat' split) <;> simp
@[simp] theorem State.lostPrep_keeps (s : State) (n : Fin 24) (i : InvRun) :
    (State.lostPrep s n i).pending = s.pending ∧ (State.lostPrep s n i).otp = s.otp ∧ (State.lostPrep s n i).boardMem = s.boardMem ∧ (State.lostPrep s n i).planMem = s.planMem := by
  unfold State.lostPrep
  refine ⟨?_, ?_, ?_, ?_⟩ <;> (repeat' split) <;> simp
@[simp] theorem State.after15_keeps (s : State) (n : Fin 24) (i : InvRun) (slot : Nat) (r : AirResult) :
    (State.after15 s n i slot r).pending = s.pending ∧ (State.after15 s n i slot r).otp = s.otp ∧ (State.after15 s n i slot r).boardMem = s.boardMem ∧ (State.after15 s n i slot r).planMem = s.planMem := by
  unfold State.after15
  refine ⟨?_, ?_, ?_, ?_⟩ <;> (repeat' split) <;> simp
@[simp] theorem State.badCycle_keeps (s : State) (n : Fin 24) :
    (State.badCycle s n).pending = s.pending ∧ (State.badCycle s n).otp = s.otp ∧ (State.badCycle s n).boardMem = s.boardMem ∧ (State.badCycle s n).planMem = s.planMem := by
  unfold State.badCycle
  refine ⟨?_, ?_, ?_, ?_⟩ <;> (repeat' split) <;> simp
@[simp] theorem State.afterReqA_keeps (s : State) (n : Fin 24) (i : InvRun) (r : AirResult) :
    (State.afterReqA s n i r).pending = s.pending ∧ (State.afterReqA s n i r).otp = s.otp ∧ (State.afterReqA s n i r).boardMem = s.boardMem ∧ (State.afterReqA s n i r).planMem = s.planMem := by
  unfold State.afterReqA
  refine ⟨?_, ?_, ?_, ?_⟩ <;> (repeat' split) <;> simp
@[simp] theorem State.afterAnti_keeps (s : State) (n : Fin 24) (i : InvRun) (x : Exchange) (level : Nat) (known : List Bool) (r : AirResult) :
    (State.afterAnti s n i x level known r).pending = s.pending ∧ (State.afterAnti s n i x level known r).otp = s.otp ∧ (State.afterAnti s n i x level known r).boardMem = s.boardMem ∧ (State.afterAnti s n i x level known r).planMem = s.planMem := by
  unfold State.afterAnti
  refine ⟨?_, ?_, ?_, ?_⟩ <;> (repeat' split) <;> simp
@[simp] theorem State.afterSelA_keeps (s : State) (n : Fin 24) (i : InvRun) (level : Nat) (four : List Byte) (r : AirResult) :
    (State.afterSelA s n i level four r).pending = s.pending ∧ (State.afterSelA s n i level four r).otp = s.otp ∧ (State.afterSelA s n i level four r).boardMem = s.boardMem ∧ (State.afterSelA s n i level four r).planMem = s.planMem := by
  unfold State.afterSelA
  refine ⟨?_, ?_, ?_, ?_⟩ <;> (repeat' split) <;> simp
@[simp] theorem State.afterReqB_keeps (s : State) (n : Fin 24) (i : InvRun) (slot : Nat) (r : AirResult) :
    (State.afterReqB s n i slot r).pending = s.pending ∧ (State.afterReqB s n i slot r).otp = s.otp ∧ (State.afterReqB s n i slot r).boardMem = s.boardMem ∧ (State.afterReqB s n i slot r).planMem = s.planMem := by
  unfold State.afterReqB
  refine ⟨?_, ?_, ?_, ?_⟩ <;> (repeat' split) <;> simp
@[simp] theorem State.stepDone_keeps (s : State) (n : Fin 24) :
    (State.stepDone s n).pending = s.pending ∧ (State.stepDone s n).otp = s.otp ∧ (State.stepDone s n).boardMem = s.boardMem ∧ (State.stepDone s n).planMem = s.planMem := by
  unfold State.stepDone
  refine ⟨?_, ?_, ?_, ?_⟩ <;> (repeat' split) <;> simp
@[simp] theorem State.afterRead_keeps (s : State) (n : Fin 24) (p : Plan) (i : InvRun) (t : TagRun) (b : List Byte) (att : Nat) (r : AirResult) :
    (State.afterRead s n p i t b att r).pending = s.pending ∧ (State.afterRead s n p i t b att r).otp = s.otp ∧ (State.afterRead s n p i t b att r).boardMem = s.boardMem ∧ (State.afterRead s n p i t b att r).planMem = s.planMem := by
  unfold State.afterRead
  refine ⟨?_, ?_, ?_, ?_⟩ <;> (repeat' split) <;> simp
@[simp] theorem State.afterWrite_keeps (s : State) (n : Fin 24) (p : Plan) (i : InvRun) (t : TagRun) (b : List Byte) (att blk : Nat) (r : AirResult) :
    (State.afterWrite s n p i t b att blk r).pending = s.pending ∧ (State.afterWrite s n p i t b att blk r).otp = s.otp ∧ (State.afterWrite s n p i t b att blk r).boardMem = s.boardMem ∧ (State.afterWrite s n p i t b att blk r).planMem = s.planMem := by
  unfold State.afterWrite
  refine ⟨?_, ?_, ?_, ?_⟩ <;> (repeat' split) <;> simp
@[simp] theorem State.afterQuiet_keeps (s : State) (n : Fin 24) (r : AirResult) :
    (State.afterQuiet s n r).pending = s.pending ∧ (State.afterQuiet s n r).otp = s.otp ∧ (State.afterQuiet s n r).boardMem = s.boardMem ∧ (State.afterQuiet s n r).planMem = s.planMem := by
  unfold State.afterQuiet
  refine ⟨?_, ?_, ?_, ?_⟩ <;> (repeat' split) <;> simp
@[simp] theorem State.planResult_keeps (s : State) (n : Fin 24) (x : Exchange) (r : AirResult) :
    (State.planResult s n x r).pending = s.pending ∧ (State.planResult s n x r).otp = s.otp ∧ (State.planResult s n x r).boardMem = s.boardMem ∧ (State.planResult s n x r).planMem = s.planMem := by
  unfold State.planResult
  refine ⟨?_, ?_, ?_, ?_⟩ <;> (repeat' split) <;> simp

/-! ### PlanTiles -/

@[simp] theorem openWindow_keeps (w : Word) (s : State) :
    (openWindow w s).pending = s.pending ∧ (openWindow w s).otp = s.otp ∧ (openWindow w s).boardMem = s.boardMem ∧ (openWindow w s).planMem = s.planMem := by
  unfold openWindow
  refine ⟨?_, ?_, ?_, ?_⟩ <;> (repeat' split) <;> simp
theorem closeWindow_keep {β : Type} (g : State → β)
    (h : ∀ (t : Nat) (s : State), g (({ s with board := { s.board with window := none } } : State).endLoad (ix 15 t)
      (BitVec.ofNat 32 (s.rd F.BRD_PLAN_CRC_CRC))).1.settleDoom = g s) (s : State) : g (closeWindow s) = g s := by
  unfold closeWindow
  exact onSome_keeps g h _ _
theorem closeWindow_load_pending (t : Nat) (s : State) :
    (({ s with board := { s.board with window := none } } : State).endLoad (ix 15 t)
      (BitVec.ofNat 32 (s.rd F.BRD_PLAN_CRC_CRC))).1.settleDoom.pending = s.pending := by simp
theorem closeWindow_load_otp (t : Nat) (s : State) :
    (({ s with board := { s.board with window := none } } : State).endLoad (ix 15 t)
      (BitVec.ofNat 32 (s.rd F.BRD_PLAN_CRC_CRC))).1.settleDoom.otp = s.otp := by simp
theorem closeWindow_load_boardMem (t : Nat) (s : State) :
    (({ s with board := { s.board with window := none } } : State).endLoad (ix 15 t)
      (BitVec.ofNat 32 (s.rd F.BRD_PLAN_CRC_CRC))).1.settleDoom.boardMem = s.boardMem := by simp
theorem closeWindow_load_planMem (t : Nat) (s : State) :
    (({ s with board := { s.board with window := none } } : State).endLoad (ix 15 t)
      (BitVec.ofNat 32 (s.rd F.BRD_PLAN_CRC_CRC))).1.settleDoom.planMem = s.planMem := by simp
@[simp] theorem closeWindow_keeps (s : State) :
    (closeWindow s).pending = s.pending ∧ (closeWindow s).otp = s.otp ∧ (closeWindow s).boardMem = s.boardMem ∧
      (closeWindow s).planMem = s.planMem :=
  ⟨closeWindow_keep State.pending closeWindow_load_pending s, closeWindow_keep State.otp closeWindow_load_otp s,
    closeWindow_keep State.boardMem closeWindow_load_boardMem s, closeWindow_keep State.planMem closeWindow_load_planMem s⟩
@[simp] theorem writePlanCtl_keeps (w : Word) (s : State) :
    (writePlanCtl w s).pending = s.pending ∧ (writePlanCtl w s).otp = s.otp ∧ (writePlanCtl w s).boardMem = s.boardMem ∧ (writePlanCtl w s).planMem = s.planMem := by
  unfold writePlanCtl
  refine ⟨?_, ?_, ?_, ?_⟩ <;> (repeat' split) <;> simp
@[simp] theorem writePlanData_keeps (w : Word) (s : State) :
    (writePlanData w s).pending = s.pending ∧ (writePlanData w s).otp = s.otp ∧ (writePlanData w s).boardMem = s.boardMem := by
  unfold writePlanData
  refine ⟨?_, ?_, ?_⟩ <;> (repeat' split) <;> simp
@[simp] theorem writeUcode_keeps (w : Word) (s : State) :
    (writeUcode w s).pending = s.pending ∧ (writeUcode w s).otp = s.otp ∧ (writeUcode w s).boardMem = s.boardMem ∧ (writeUcode w s).planMem = s.planMem := by
  unfold writeUcode
  refine ⟨?_, ?_, ?_, ?_⟩ <;> (repeat' split) <;> simp

/-! ### AccCmds -/

@[simp] theorem State.takeReq_keeps (s : State) (q : AccReq) :
    (State.takeReq s q).pending = s.pending ∧ (State.takeReq s q).otp = s.otp ∧ (State.takeReq s q).boardMem = s.boardMem ∧ (State.takeReq s q).planMem = s.planMem := by
  unfold State.takeReq
  refine ⟨?_, ?_, ?_, ?_⟩ <;> (repeat' split) <;> simp
@[simp] theorem State.skipTrigger_keeps (s : State) (l : Nat) :
    (State.skipTrigger s l).pending = s.pending ∧ (State.skipTrigger s l).otp = s.otp ∧ (State.skipTrigger s l).boardMem = s.boardMem ∧ (State.skipTrigger s l).planMem = s.planMem := by
  unfold State.skipTrigger
  refine ⟨?_, ?_, ?_, ?_⟩ <;> (repeat' split) <;> simp
@[simp] theorem State.trigger_keeps (s : State) (kind l : Nat) :
    (State.trigger s kind l).pending = s.pending ∧ (State.trigger s kind l).otp = s.otp ∧ (State.trigger s kind l).boardMem = s.boardMem ∧ (State.trigger s kind l).planMem = s.planMem := by
  unfold State.trigger
  refine ⟨?_, ?_, ?_, ?_⟩ <;> (repeat' split) <;> simp
@[simp] theorem State.gateEnd_keeps (s : State) (r : AccRun) (reason : Reason) :
    (State.gateEnd s r reason).pending = s.pending ∧ (State.gateEnd s r reason).otp = s.otp ∧ (State.gateEnd s r reason).boardMem = s.boardMem ∧ (State.gateEnd s r reason).planMem = s.planMem := by
  unfold State.gateEnd
  refine ⟨?_, ?_, ?_, ?_⟩ <;> (repeat' split) <;> simp
@[simp] theorem State.beginExchange_keeps (s : State) (r : AccRun) :
    (State.beginExchange s r).pending = s.pending ∧ (State.beginExchange s r).otp = s.otp ∧ (State.beginExchange s r).boardMem = s.boardMem ∧ (State.beginExchange s r).planMem = s.planMem := by
  unfold State.beginExchange
  refine ⟨?_, ?_, ?_, ?_⟩ <;> (repeat' split) <;> simp
@[simp] theorem State.ucodeFails_keeps (s : State) (r : AccRun) :
    (State.ucodeFails s r).pending = s.pending ∧ (State.ucodeFails s r).otp = s.otp ∧ (State.ucodeFails s r).boardMem = s.boardMem ∧ (State.ucodeFails s r).planMem = s.planMem := by
  unfold State.ucodeFails
  refine ⟨?_, ?_, ?_, ?_⟩ <;> (repeat' split) <;> simp
@[simp] theorem State.lateReq_keeps (s : State) (r : AccRun) :
    (State.lateReq s r).pending = s.pending ∧ (State.lateReq s r).otp = s.otp ∧ (State.lateReq s r).boardMem = s.boardMem ∧ (State.lateReq s r).planMem = s.planMem := by
  unfold State.lateReq
  refine ⟨?_, ?_, ?_, ?_⟩ <;> (repeat' split) <;> simp
@[simp] theorem State.judgeNext_keeps (s : State) (r : AccRun) (at_ : JudgeAt) :
    (State.judgeNext s r at_).pending = s.pending ∧ (State.judgeNext s r at_).otp = s.otp ∧ (State.judgeNext s r at_).boardMem = s.boardMem ∧ (State.judgeNext s r at_).planMem = s.planMem := by
  unfold State.judgeNext
  refine ⟨?_, ?_, ?_, ?_⟩ <;> (repeat' split) <;> simp
@[simp] theorem State.retestInterlock_keeps (s : State) (l : Nat) :
    (State.retestInterlock s l).pending = s.pending ∧ (State.retestInterlock s l).otp = s.otp ∧ (State.retestInterlock s l).boardMem = s.boardMem ∧ (State.retestInterlock s l).planMem = s.planMem := by
  unfold State.retestInterlock
  refine ⟨?_, ?_, ?_, ?_⟩ <;> (repeat' split) <;> simp
@[simp] theorem State.enrolEntry_keeps (s : State) (ps : List Byte) :
    (State.enrolEntry s ps).pending = s.pending ∧ (State.enrolEntry s ps).otp = s.otp ∧ (State.enrolEntry s ps).boardMem = s.boardMem ∧ (State.enrolEntry s ps).planMem = s.planMem := by
  unfold State.enrolEntry
  refine ⟨?_, ?_, ?_, ?_⟩ <;> (repeat' split) <;> simp
@[simp] theorem State.clearPenalty_keeps (s : State) (ps : List Byte) :
    (State.clearPenalty s ps).pending = s.pending ∧ (State.clearPenalty s ps).otp = s.otp ∧ (State.clearPenalty s ps).boardMem = s.boardMem ∧ (State.clearPenalty s ps).planMem = s.planMem := by
  unfold State.clearPenalty
  refine ⟨?_, ?_, ?_, ?_⟩ <;> (repeat' split) <;> simp
@[simp] theorem State.endVd_keeps (s : State) (st : Status) :
    (State.endVd s st).pending = s.pending ∧ (State.endVd s st).otp = s.otp ∧ (State.endVd s st).boardMem = s.boardMem ∧ (State.endVd s st).planMem = s.planMem := by
  unfold State.endVd
  refine ⟨?_, ?_, ?_, ?_⟩ <;> (repeat' split) <;> simp
@[simp] theorem State.accAbort_keeps (s : State) (ps : List Byte) :
    (State.accAbort s ps).pending = s.pending ∧ (State.accAbort s ps).otp = s.otp ∧ (State.accAbort s ps).boardMem = s.boardMem ∧ (State.accAbort s ps).planMem = s.planMem := by
  unfold State.accAbort
  refine ⟨?_, ?_, ?_, ?_⟩ <;> (repeat' split) <;> simp
@[simp] theorem State.vdFinish_keeps (s : State) (v : VdRun) (key : List Byte) :
    (State.vdFinish s v key).pending = s.pending ∧ (State.vdFinish s v key).otp = s.otp ∧ (State.vdFinish s v key).boardMem = s.boardMem ∧ (State.vdFinish s v key).planMem = s.planMem := by
  unfold State.vdFinish
  refine ⟨?_, ?_, ?_, ?_⟩ <;> (repeat' split) <;> simp
@[simp] theorem State.vdRun_keeps (s : State) (v : VdRun) :
    (State.vdRun s v).pending = s.pending ∧ (State.vdRun s v).otp = s.otp ∧ (State.vdRun s v).boardMem = s.boardMem ∧ (State.vdRun s v).planMem = s.planMem := by
  unfold State.vdRun
  refine ⟨?_, ?_, ?_, ?_⟩ <;> (repeat' split) <;> simp
@[simp] theorem State.vdStart_keeps (s : State) (q : AccReq) (id : Nat) (src : List Byte) (crcs : List (Nat × Word)) :
    (State.vdStart s q id src crcs).pending = s.pending ∧ (State.vdStart s q id src crcs).otp = s.otp ∧
      (State.vdStart s q id src crcs).boardMem = s.boardMem ∧ (State.vdStart s q id src crcs).planMem = s.planMem := by
  unfold State.vdStart
  have k : ((s.takeReq q).verifyPlanTiles crcs s.ucodeTiles).1.pending = s.pending ∧
      ((s.takeReq q).verifyPlanTiles crcs s.ucodeTiles).1.otp = s.otp ∧
      ((s.takeReq q).verifyPlanTiles crcs s.ucodeTiles).1.boardMem = s.boardMem ∧
      ((s.takeReq q).verifyPlanTiles crcs s.ucodeTiles).1.planMem = s.planMem := by simp
  dsimp only
  split
  · simp
  · generalize (s.takeReq q).verifyPlanTiles crcs s.ucodeTiles = r at k
    obtain ⟨s1, b⟩ := r
    simp only at k
    cases b
    · simp [k]
    · simp only
      (repeat' split) <;> simp [k]
@[simp] theorem writeAccCmd_keeps (w : Word) (s : State) :
    (writeAccCmd w s).pending = s.pending ∧ (writeAccCmd w s).otp = s.otp ∧ (writeAccCmd w s).boardMem = s.boardMem ∧ (writeAccCmd w s).planMem = s.planMem := by
  unfold writeAccCmd
  refine ⟨?_, ?_, ?_, ?_⟩ <;> (repeat' split) <;> simp
@[simp] theorem writeAccCfg_keeps (w : Word) (s : State) :
    (writeAccCfg w s).pending = s.pending ∧ (writeAccCfg w s).otp = s.otp ∧ (writeAccCfg w s).boardMem = s.boardMem ∧ (writeAccCfg w s).planMem = s.planMem := by
  unfold writeAccCfg
  refine ⟨?_, ?_, ?_, ?_⟩ <;> (repeat' split) <;> simp
@[simp] theorem writeMirrorCfg_keeps (w : Word) (s : State) :
    (writeMirrorCfg w s).pending = s.pending ∧ (writeMirrorCfg w s).otp = s.otp ∧ (writeMirrorCfg w s).boardMem = s.boardMem ∧ (writeMirrorCfg w s).planMem = s.planMem := by
  unfold writeMirrorCfg
  refine ⟨?_, ?_, ?_, ?_⟩ <;> (repeat' split) <;> simp
@[simp] theorem State.loadImage_keeps (s : State) (sector gen : Nat) (b : List Byte) :
    (State.loadImage s sector gen b).pending = s.pending ∧ (State.loadImage s sector gen b).otp = s.otp ∧ (State.loadImage s sector gen b).boardMem = s.boardMem ∧ (State.loadImage s sector gen b).planMem = s.planMem := by
  unfold State.loadImage
  refine ⟨?_, ?_, ?_, ?_⟩ <;> (repeat' split) <;> simp
@[simp] theorem State.endWaiting_keeps (s : State) (r : AccRun) :
    (State.endWaiting s r).pending = s.pending ∧ (State.endWaiting s r).otp = s.otp ∧ (State.endWaiting s r).boardMem = s.boardMem ∧ (State.endWaiting s r).planMem = s.planMem := by
  unfold State.endWaiting
  refine ⟨?_, ?_, ?_, ?_⟩ <;> (repeat' split) <;> simp
@[simp] theorem State.accShutdown_keeps (s : State) :
    (State.accShutdown s).pending = s.pending ∧ (State.accShutdown s).otp = s.otp ∧ (State.accShutdown s).boardMem = s.boardMem ∧ (State.accShutdown s).planMem = s.planMem := by
  unfold State.accShutdown
  refine ⟨?_, ?_, ?_, ?_⟩ <;> (repeat' split) <;> simp
@[simp] theorem State.accResume_keeps (s : State) :
    (State.accResume s).pending = s.pending ∧ (State.accResume s).otp = s.otp ∧ (State.accResume s).boardMem = s.boardMem ∧ (State.accResume s).planMem = s.planMem := by
  unfold State.accResume
  refine ⟨?_, ?_, ?_, ?_⟩ <;> (repeat' split) <;> simp

/-! ### RodCmds -/

@[simp] theorem State.rodDispatched_keeps (s : State) (n : Fin 24) (id : Nat) :
    (State.rodDispatched s n id).pending = s.pending ∧ (State.rodDispatched s n id).otp = s.otp ∧ (State.rodDispatched s n id).boardMem = s.boardMem ∧ (State.rodDispatched s n id).planMem = s.planMem := by
  unfold State.rodDispatched
  refine ⟨?_, ?_, ?_, ?_⟩ <;> (repeat' split) <;> simp
@[simp] theorem State.beginRodTxn_pending (s : State) (n : Fin 24) (t : Txn) (f : State → State) (hf : ∀ a0, (f a0).pending = a0.pending) :
    (State.beginRodTxn s n t f).pending = s.pending := by
  unfold State.beginRodTxn
  (repeat' split) <;> (try simp [hf]) <;> (repeat' split) <;> (try simp [hf])
@[simp] theorem State.beginRodTxn_otp (s : State) (n : Fin 24) (t : Txn) (f : State → State) (hf : ∀ a0, (f a0).otp = a0.otp) :
    (State.beginRodTxn s n t f).otp = s.otp := by
  unfold State.beginRodTxn
  (repeat' split) <;> (try simp [hf]) <;> (repeat' split) <;> (try simp [hf])
@[simp] theorem State.beginRodTxn_boardMem (s : State) (n : Fin 24) (t : Txn) (f : State → State) (hf : ∀ a0, (f a0).boardMem = a0.boardMem) :
    (State.beginRodTxn s n t f).boardMem = s.boardMem := by
  unfold State.beginRodTxn
  (repeat' split) <;> (try simp [hf]) <;> (repeat' split) <;> (try simp [hf])
@[simp] theorem State.beginRodTxn_planMem (s : State) (n : Fin 24) (t : Txn) (f : State → State) (hf : ∀ a0, (f a0).planMem = a0.planMem) :
    (State.beginRodTxn s n t f).planMem = s.planMem := by
  unfold State.beginRodTxn
  (repeat' split) <;> (try simp [hf]) <;> (repeat' split) <;> (try simp [hf])
@[simp] theorem State.endRodTxns_keeps (s : State) (n : Fin 24) (ts : List Txn) (st : Status) :
    (State.endRodTxns s n ts st).pending = s.pending ∧ (State.endRodTxns s n ts st).otp = s.otp ∧ (State.endRodTxns s n ts st).boardMem = s.boardMem ∧ (State.endRodTxns s n ts st).planMem = s.planMem := by
  unfold State.endRodTxns
  refine ⟨?_, ?_, ?_, ?_⟩ <;> (repeat' split) <;> simp
@[simp] theorem State.killPlan_keeps (s : State) (n : Fin 24) (c : PlanCause) :
    (State.killPlan s n c).pending = s.pending ∧ (State.killPlan s n c).otp = s.otp ∧ (State.killPlan s n c).boardMem = s.boardMem ∧ (State.killPlan s n c).planMem = s.planMem := by
  unfold State.killPlan
  refine ⟨?_, ?_, ?_, ?_⟩ <;> (repeat' split) <;> simp
@[simp] theorem State.rodFlush_keeps (s : State) (n : Fin 24) (t : Txn) :
    (State.rodFlush s n t).pending = s.pending ∧ (State.rodFlush s n t).otp = s.otp ∧ (State.rodFlush s n t).boardMem = s.boardMem ∧ (State.rodFlush s n t).planMem = s.planMem := by
  unfold State.rodFlush
  refine ⟨?_, ?_, ?_, ?_⟩ <;> (repeat' split) <;> simp
@[simp] theorem State.rodAbort_keeps (s : State) (n : Fin 24) (t : Txn) :
    (State.rodAbort s n t).pending = s.pending ∧ (State.rodAbort s n t).otp = s.otp ∧ (State.rodAbort s n t).boardMem = s.boardMem ∧ (State.rodAbort s n t).planMem = s.planMem := by
  unfold State.rodAbort
  refine ⟨?_, ?_, ?_, ?_⟩ <;> (repeat' split) <;> simp
@[simp] theorem State.guardPassed_keeps (s : State) (n : Fin 24) :
    (State.guardPassed s n).pending = s.pending ∧ (State.guardPassed s n).otp = s.otp ∧ (State.guardPassed s n).boardMem = s.boardMem ∧ (State.guardPassed s n).planMem = s.planMem := by
  unfold State.guardPassed
  refine ⟨?_, ?_, ?_, ?_⟩ <;> (repeat' split) <;> simp
@[simp] theorem State.chooseGain_keeps (s : State) (n : Fin 24) (below : List Bool) :
    (State.chooseGain s n below).1.pending = s.pending ∧ (State.chooseGain s n below).1.otp = s.otp ∧ (State.chooseGain s n below).1.boardMem = s.boardMem ∧ (State.chooseGain s n below).1.planMem = s.planMem := by
  unfold State.chooseGain
  refine ⟨?_, ?_, ?_, ?_⟩ <;> (repeat' split) <;> simp
@[simp] theorem State.modAir_keeps (s : State) (n : Fin 24) (f : Exchange → Exchange) :
    (State.modAir s n f).pending = s.pending ∧ (State.modAir s n f).otp = s.otp ∧ (State.modAir s n f).boardMem = s.boardMem ∧ (State.modAir s n f).planMem = s.planMem := by
  unfold State.modAir
  refine ⟨?_, ?_, ?_, ?_⟩ <;> (repeat' split) <;> simp
@[simp] theorem State.frameSent_keeps (s : State) (n : Fin 24) (x : Exchange) :
    (State.frameSent s n x).pending = s.pending ∧ (State.frameSent s n x).otp = s.otp ∧ (State.frameSent s n x).boardMem = s.boardMem ∧ (State.frameSent s n x).planMem = s.planMem := by
  unfold State.frameSent
  refine ⟨?_, ?_, ?_, ?_⟩ <;> (repeat' split) <;> simp
@[simp] theorem State.windowClosed_keeps (s : State) (n : Fin 24) (x : Exchange) :
    (State.windowClosed s n x).pending = s.pending ∧ (State.windowClosed s n x).otp = s.otp ∧ (State.windowClosed s n x).boardMem = s.boardMem ∧ (State.windowClosed s n x).planMem = s.planMem := by
  unfold State.windowClosed
  refine ⟨?_, ?_, ?_, ?_⟩ <;> (repeat' split) <;> simp
@[simp] theorem State.lateSof_keeps (s : State) (n : Fin 24) (l : LateNote) :
    (State.lateSof s n l).pending = s.pending ∧ (State.lateSof s n l).otp = s.otp ∧ (State.lateSof s n l).boardMem = s.boardMem ∧ (State.lateSof s n l).planMem = s.planMem := by
  unfold State.lateSof
  refine ⟨?_, ?_, ?_, ?_⟩ <;> (repeat' split) <;> simp
@[simp] theorem State.straySof_keeps (s : State) (n : Fin 24) (fdt : Nat) :
    (State.straySof s n fdt).pending = s.pending ∧ (State.straySof s n fdt).otp = s.otp ∧ (State.straySof s n fdt).boardMem = s.boardMem ∧ (State.straySof s n fdt).planMem = s.planMem := by
  unfold State.straySof
  refine ⟨?_, ?_, ?_, ?_⟩ <;> (repeat' split) <;> simp
@[simp] theorem State.groupBegins_keeps (s : State) (n : Fin 24) (x : Exchange) :
    (State.groupBegins s n x).pending = s.pending ∧ (State.groupBegins s n x).otp = s.otp ∧ (State.groupBegins s n x).boardMem = s.boardMem ∧ (State.groupBegins s n x).planMem = s.planMem := by
  unfold State.groupBegins
  refine ⟨?_, ?_, ?_, ?_⟩ <;> (repeat' split) <;> simp
@[simp] theorem State.endReception_keeps (s : State) (n : Fin 24) (x : Exchange) (rx : RxReport) :
    (State.endReception s n x rx).pending = s.pending ∧ (State.endReception s n x rx).otp = s.otp ∧ (State.endReception s n x rx).boardMem = s.boardMem ∧ (State.endReception s n x rx).planMem = s.planMem := by
  unfold State.endReception
  refine ⟨?_, ?_, ?_, ?_⟩ <;> (repeat' split) <;> simp
@[simp] theorem State.writeRodCtl_keeps (s : State) (n : Nat) (w : Word) :
    (State.writeRodCtl s n w).pending = s.pending ∧ (State.writeRodCtl s n w).otp = s.otp ∧ (State.writeRodCtl s n w).boardMem = s.boardMem ∧ (State.writeRodCtl s n w).planMem = s.planMem := by
  unfold State.writeRodCtl
  refine ⟨?_, ?_, ?_, ?_⟩ <;> (repeat' split) <;> simp

/-! ### PlanCmds -/

@[simp] theorem State.skipSteps_keeps (n : Fin 24) (k0 : Nat) (s : State) :
    (State.skipSteps n k0 s).pending = s.pending ∧ (State.skipSteps n k0 s).otp = s.otp ∧ (State.skipSteps n k0 s).boardMem = s.boardMem ∧ (State.skipSteps n k0 s).planMem = s.planMem := by
  induction k0 generalizing s with
  | zero => simp [State.skipSteps]
  | succ k ih =>
    unfold State.skipSteps
    refine ⟨?_, ?_, ?_, ?_⟩ <;> (repeat' split) <;> simp [ih]
@[simp] theorem State.debugHalt_keeps (s : State) (src : Nat) :
    (State.debugHalt s src).pending = s.pending ∧ (State.debugHalt s src).otp = s.otp ∧ (State.debugHalt s src).boardMem = s.boardMem ∧ (State.debugHalt s src).planMem = s.planMem := by
  unfold State.debugHalt
  refine ⟨?_, ?_, ?_, ?_⟩ <;> (repeat' split) <;> simp
@[simp] theorem State.unitBegins_keeps (s : State) (n : Fin 24) :
    (State.unitBegins s n).pending = s.pending ∧ (State.unitBegins s n).otp = s.otp ∧ (State.unitBegins s n).boardMem = s.boardMem ∧ (State.unitBegins s n).planMem = s.planMem := by
  unfold State.unitBegins
  refine ⟨?_, ?_, ?_, ?_⟩ <;> (repeat' split) <;> simp
@[simp] theorem State.tryUnit_pending (s : State) (n : Fin 24) (due : Plan → List Byte → Bool) (f : Plan → List Byte → State → State) (hf : ∀ a0 a1 a2, (f a0 a1 a2).pending = a2.pending) :
    (State.tryUnit s n due f).pending = s.pending := by
  unfold State.tryUnit
  (repeat' split) <;> (try simp [hf]) <;> (repeat' split) <;> (try simp [hf])
@[simp] theorem State.tryUnit_otp (s : State) (n : Fin 24) (due : Plan → List Byte → Bool) (f : Plan → List Byte → State → State) (hf : ∀ a0 a1 a2, (f a0 a1 a2).otp = a2.otp) :
    (State.tryUnit s n due f).otp = s.otp := by
  unfold State.tryUnit
  (repeat' split) <;> (try simp [hf]) <;> (repeat' split) <;> (try simp [hf])
@[simp] theorem State.tryUnit_boardMem (s : State) (n : Fin 24) (due : Plan → List Byte → Bool) (f : Plan → List Byte → State → State) (hf : ∀ a0 a1 a2, (f a0 a1 a2).boardMem = a2.boardMem) :
    (State.tryUnit s n due f).boardMem = s.boardMem := by
  unfold State.tryUnit
  (repeat' split) <;> (try simp [hf]) <;> (repeat' split) <;> (try simp [hf])
@[simp] theorem State.tryUnit_planMem (s : State) (n : Fin 24) (due : Plan → List Byte → Bool) (f : Plan → List Byte → State → State) (hf : ∀ a0 a1 a2, (f a0 a1 a2).planMem = a2.planMem) :
    (State.tryUnit s n due f).planMem = s.planMem := by
  unfold State.tryUnit
  (repeat' split) <;> (try simp [hf]) <;> (repeat' split) <;> (try simp [hf])
@[simp] theorem State.startUnit_pending (s : State) (n : Fin 24) (due : Plan → List Byte → Bool) (f : Plan → List Byte → State → State) (hf : ∀ a0 a1 a2, (f a0 a1 a2).pending = a2.pending) :
    (State.startUnit s n due f).pending = s.pending := by
  unfold State.startUnit
  (repeat' split) <;> (try simp [hf]) <;> (repeat' split) <;> (try simp [hf])
@[simp] theorem State.startUnit_otp (s : State) (n : Fin 24) (due : Plan → List Byte → Bool) (f : Plan → List Byte → State → State) (hf : ∀ a0 a1 a2, (f a0 a1 a2).otp = a2.otp) :
    (State.startUnit s n due f).otp = s.otp := by
  unfold State.startUnit
  (repeat' split) <;> (try simp [hf]) <;> (repeat' split) <;> (try simp [hf])
@[simp] theorem State.startUnit_boardMem (s : State) (n : Fin 24) (due : Plan → List Byte → Bool) (f : Plan → List Byte → State → State) (hf : ∀ a0 a1 a2, (f a0 a1 a2).boardMem = a2.boardMem) :
    (State.startUnit s n due f).boardMem = s.boardMem := by
  unfold State.startUnit
  (repeat' split) <;> (try simp [hf]) <;> (repeat' split) <;> (try simp [hf])
@[simp] theorem State.startUnit_planMem (s : State) (n : Fin 24) (due : Plan → List Byte → Bool) (f : Plan → List Byte → State → State) (hf : ∀ a0 a1 a2, (f a0 a1 a2).planMem = a2.planMem) :
    (State.startUnit s n due f).planMem = s.planMem := by
  unfold State.startUnit
  (repeat' split) <;> (try simp [hf]) <;> (repeat' split) <;> (try simp [hf])
@[simp] theorem State.goTo_keeps (s : State) (n : Fin 24) (i : Nat) :
    (State.goTo s n i).pending = s.pending ∧ (State.goTo s n i).otp = s.otp ∧ (State.goTo s n i).boardMem = s.boardMem ∧ (State.goTo s n i).planMem = s.planMem := by
  unfold State.goTo
  refine ⟨?_, ?_, ?_, ?_⟩ <;> (repeat' split) <;> simp
@[simp] theorem State.endPass_keeps (s : State) (n : Fin 24) (p : Plan) (mode : Nat) (crcs : List (Nat × Word)) :
    (State.endPass s n p mode crcs).pending = s.pending ∧ (State.endPass s n p mode crcs).otp = s.otp ∧ (State.endPass s n p mode crcs).boardMem = s.boardMem ∧ (State.endPass s n p mode crcs).planMem = s.planMem := by
  unfold State.endPass
  try dsimp only
  refine ⟨?_, ?_, ?_, ?_⟩ <;> (repeat' split) <;>
    first
    | (simp; done)
    | (rename_i h; have k := congrArg Prod.fst h; simp only at k; subst k; simp)
@[simp] theorem State.emitMark_keeps (s : State) (n : Fin 24) (p : Plan) (b : List Byte) :
    (State.emitMark s n p b).pending = s.pending ∧ (State.emitMark s n p b).otp = s.otp ∧ (State.emitMark s n p b).boardMem = s.boardMem ∧ (State.emitMark s n p b).planMem = s.planMem := by
  unfold State.emitMark
  refine ⟨?_, ?_, ?_, ?_⟩ <;> (repeat' split) <;> simp
@[simp] theorem State.beginCycle_keeps (s : State) (n : Fin 24) (i : InvRun) :
    (State.beginCycle s n i).pending = s.pending ∧ (State.beginCycle s n i).otp = s.otp ∧ (State.beginCycle s n i).boardMem = s.boardMem ∧ (State.beginCycle s n i).planMem = s.planMem := by
  unfold State.beginCycle
  refine ⟨?_, ?_, ?_, ?_⟩ <;> (repeat' split) <;> simp
@[simp] theorem State.startCycle_keeps (s : State) (n : Fin 24) (i : InvRun) :
    (State.startCycle s n i).pending = s.pending ∧ (State.startCycle s n i).otp = s.otp ∧ (State.startCycle s n i).boardMem = s.boardMem ∧ (State.startCycle s n i).planMem = s.planMem := by
  unfold State.startCycle
  refine ⟨?_, ?_, ?_, ?_⟩ <;> (repeat' split) <;> simp
@[simp] theorem State.tagDo_keeps (s : State) (n : Fin 24) (op : Nat) :
    (State.tagDo s n op).pending = s.pending ∧ (State.tagDo s n op).otp = s.otp ∧ (State.tagDo s n op).boardMem = s.boardMem ∧ (State.tagDo s n op).planMem = s.planMem := by
  unfold State.tagDo
  dsimp only
  refine ⟨?_, ?_, ?_, ?_⟩ <;> (repeat' split) <;> (try simp) <;> (repeat' split) <;> (try simp)
@[simp] theorem State.giveUpWrites_keeps (s : State) (n : Fin 24) :
    (State.giveUpWrites s n).pending = s.pending ∧ (State.giveUpWrites s n).otp = s.otp ∧ (State.giveUpWrites s n).boardMem = s.boardMem ∧ (State.giveUpWrites s n).planMem = s.planMem := by
  unfold State.giveUpWrites
  refine ⟨?_, ?_, ?_, ?_⟩ <;> (repeat' split) <;> simp
@[simp] theorem State.verdict_keeps (s : State) (n : Fin 24) (j : Nat) :
    (State.verdict s n j).pending = s.pending ∧ (State.verdict s n j).otp = s.otp ∧ (State.verdict s n j).boardMem = s.boardMem ∧ (State.verdict s n j).planMem = s.planMem := by
  unfold State.verdict
  refine ⟨?_, ?_, ?_, ?_⟩ <;> (repeat' split) <;> simp
@[simp] theorem State.startCarry_keeps (s : State) (n : Fin 24) (j : Nat) :
    (State.startCarry s n j).pending = s.pending ∧ (State.startCarry s n j).otp = s.otp ∧ (State.startCarry s n j).boardMem = s.boardMem ∧ (State.startCarry s n j).planMem = s.planMem := by
  unfold State.startCarry
  refine ⟨?_, ?_, ?_, ?_⟩ <;> (repeat' split) <;> simp
@[simp] theorem State.markCarried_keeps (s : State) (uid : List Byte) :
    (State.markCarried s uid).pending = s.pending ∧ (State.markCarried s uid).otp = s.otp ∧ (State.markCarried s uid).boardMem = s.boardMem ∧ (State.markCarried s uid).planMem = s.planMem := by
  unfold State.markCarried
  refine ⟨?_, ?_, ?_, ?_⟩ <;> (repeat' split) <;> simp
@[simp] theorem State.tagCarried_keeps (s : State) (n : Fin 24) (uid : List Byte) :
    (State.tagCarried s n uid).pending = s.pending ∧ (State.tagCarried s n uid).otp = s.otp ∧ (State.tagCarried s n uid).boardMem = s.boardMem ∧ (State.tagCarried s n uid).planMem = s.planMem := by
  unfold State.tagCarried
  refine ⟨?_, ?_, ?_, ?_⟩ <;> (repeat' split) <;> simp
@[simp] theorem State.carryDone_keeps (s : State) (n : Fin 24) (j : Nat) (h : Held) (p : Plan) :
    (State.carryDone s n j h p).pending = s.pending ∧ (State.carryDone s n j h p).otp = s.otp ∧ (State.carryDone s n j h p).boardMem = s.boardMem ∧ (State.carryDone s n j h p).planMem = s.planMem := by
  unfold State.carryDone
  refine ⟨?_, ?_, ?_, ?_⟩ <;> (repeat' split) <;> simp
@[simp] theorem State.writeSpecCtl_keeps (s : State) (n : Nat) (w : Word) :
    (State.writeSpecCtl s n w).pending = s.pending ∧ (State.writeSpecCtl s n w).otp = s.otp ∧ (State.writeSpecCtl s n w).boardMem = s.boardMem ∧ (State.writeSpecCtl s n w).planMem = s.planMem := by
  unfold State.writeSpecCtl
  refine ⟨?_, ?_, ?_, ?_⟩ <;> (repeat' split) <;> simp
@[simp] theorem State.writeFiltCfg_keeps (s : State) (w : Word) :
    (State.writeFiltCfg s w).pending = s.pending ∧ (State.writeFiltCfg s w).otp = s.otp ∧ (State.writeFiltCfg s w).boardMem = s.boardMem ∧ (State.writeFiltCfg s w).planMem = s.planMem := by
  unfold State.writeFiltCfg
  refine ⟨?_, ?_, ?_, ?_⟩ <;> (repeat' split) <;> simp
@[simp] theorem State.writeDedupCfg_keeps (s : State) (w : Word) :
    (State.writeDedupCfg s w).pending = s.pending ∧ (State.writeDedupCfg s w).otp = s.otp ∧ (State.writeDedupCfg s w).boardMem = s.boardMem ∧ (State.writeDedupCfg s w).planMem = s.planMem := by
  unfold State.writeDedupCfg
  refine ⟨?_, ?_, ?_, ?_⟩ <;> (repeat' split) <;> simp

/-! ### FieldCmds -/

@[simp] theorem State.setSurvey_keeps (s : State) (p : SurveyPhase) :
    (State.setSurvey s p).pending = s.pending ∧ (State.setSurvey s p).otp = s.otp ∧ (State.setSurvey s p).boardMem = s.boardMem ∧ (State.setSurvey s p).planMem = s.planMem := by
  unfold State.setSurvey
  refine ⟨?_, ?_, ?_, ?_⟩ <;> (repeat' split) <;> simp
@[simp] theorem State.abortSurvey_keeps (s : State) (cause : Nat) :
    (State.abortSurvey s cause).pending = s.pending ∧ (State.abortSurvey s cause).otp = s.otp ∧ (State.abortSurvey s cause).boardMem = s.boardMem ∧ (State.abortSurvey s cause).planMem = s.planMem := by
  unfold State.abortSurvey
  refine ⟨?_, ?_, ?_, ?_⟩ <;> (repeat' split) <;> simp
@[simp] theorem State.startSurvey_keeps (s : State) :
    (State.startSurvey s).pending = s.pending ∧ (State.startSurvey s).otp = s.otp ∧ (State.startSurvey s).boardMem = s.boardMem ∧ (State.startSurvey s).planMem = s.planMem := by
  unfold State.startSurvey
  refine ⟨?_, ?_, ?_, ?_⟩ <;> (repeat' split) <;> simp
@[simp] theorem State.writeSurveyCtl_keeps (s : State) (w : Word) :
    (State.writeSurveyCtl s w).pending = s.pending ∧ (State.writeSurveyCtl s w).otp = s.otp ∧ (State.writeSurveyCtl s w).boardMem = s.boardMem ∧ (State.writeSurveyCtl s w).planMem = s.planMem := by
  unfold State.writeSurveyCtl
  refine ⟨?_, ?_, ?_, ?_⟩ <;> (repeat' split) <;> simp
@[simp] theorem State.writeSurveyMask_keeps (s : State) (w : Word) :
    (State.writeSurveyMask s w).pending = s.pending ∧ (State.writeSurveyMask s w).otp = s.otp ∧ (State.writeSurveyMask s w).boardMem = s.boardMem ∧ (State.writeSurveyMask s w).planMem = s.planMem := by
  unfold State.writeSurveyMask
  refine ⟨?_, ?_, ?_, ?_⟩ <;> (repeat' split) <;> simp
@[simp] theorem State.loadTaps_keeps (s : State) (n : Fin 24) :
    (State.loadTaps s n).pending = s.pending ∧ (State.loadTaps s n).otp = s.otp ∧ (State.loadTaps s n).boardMem = s.boardMem ∧ (State.loadTaps s n).planMem = s.planMem := by
  unfold State.loadTaps
  exact ⟨forAll_pending (fun a s => by (repeat' split) <;> simp) _ _,
    forAll_otp (fun a s => by (repeat' split) <;> simp) _ _,
    forAll_boardMem (fun a s => by (repeat' split) <;> simp) _ _,
    forAll_planMem (fun a s => by (repeat' split) <;> simp) _ _⟩
@[simp] theorem State.endSurvey_keeps (s : State) :
    (State.endSurvey s).pending = s.pending ∧ (State.endSurvey s).otp = s.otp ∧ (State.endSurvey s).boardMem = s.boardMem ∧ (State.endSurvey s).planMem = s.planMem := by
  unfold State.endSurvey
  refine ⟨?_, ?_, ?_, ?_⟩ <;> (repeat' split) <;> simp
@[simp] theorem State.nextSlot_keeps (s : State) (i : Nat) :
    (State.nextSlot s i).pending = s.pending ∧ (State.nextSlot s i).otp = s.otp ∧ (State.nextSlot s i).boardMem = s.boardMem ∧ (State.nextSlot s i).planMem = s.planMem := by
  unfold State.nextSlot
  refine ⟨?_, ?_, ?_, ?_⟩ <;> (repeat' split) <;> simp
@[simp] theorem State.coupHalf_keeps (s : State) (v : Int) :
    (State.coupHalf s v).1.pending = s.pending ∧ (State.coupHalf s v).1.otp = s.otp ∧ (State.coupHalf s v).1.boardMem = s.boardMem ∧ (State.coupHalf s v).1.planMem = s.planMem := by
  unfold State.coupHalf
  refine ⟨?_, ?_, ?_, ?_⟩ <;> (repeat' split) <;> simp
@[simp] theorem State.coefficient_keeps (s : State) (clipped : Bool) (v : Int × Int) :
    (State.coefficient s clipped v).1.pending = s.pending ∧ (State.coefficient s clipped v).1.otp = s.otp ∧ (State.coefficient s clipped v).1.boardMem = s.boardMem ∧ (State.coefficient s clipped v).1.planMem = s.planMem := by
  unfold State.coefficient
  refine ⟨?_, ?_, ?_, ?_⟩ <;> (repeat' split) <;> simp
@[simp] theorem State.surveyBankLost_keeps (s : State) :
    (State.surveyBankLost s).pending = s.pending ∧ (State.surveyBankLost s).otp = s.otp ∧ (State.surveyBankLost s).boardMem = s.boardMem ∧ (State.surveyBankLost s).planMem = s.planMem := by
  unfold State.surveyBankLost
  refine ⟨?_, ?_, ?_, ?_⟩ <;> (repeat' split) <;> simp
@[simp] theorem State.writeTap_keeps (s : State) (addr : Nat) (w : Word) :
    (State.writeTap s addr w).pending = s.pending ∧ (State.writeTap s addr w).otp = s.otp ∧ (State.writeTap s addr w).boardMem = s.boardMem ∧ (State.writeTap s addr w).planMem = s.planMem := by
  unfold State.writeTap
  refine ⟨?_, ?_, ?_, ?_⟩ <;> (repeat' split) <;> simp
@[simp] theorem State.applyTap_keeps (s : State) (p : Nat × Option Nat × Nat) :
    (State.applyTap s p).pending = s.pending ∧ (State.applyTap s p).otp = s.otp ∧ (State.applyTap s p).boardMem = s.boardMem ∧ (State.applyTap s p).planMem = s.planMem := by
  unfold State.applyTap
  refine ⟨?_, ?_, ?_, ?_⟩ <;> (repeat' split) <;> simp
@[simp] theorem State.trackTapFrom_keeps (s o : State) (x : PilotReport) (clipped : List Nat) (n k : Nat) :
    (State.trackTapFrom s o x clipped n k).pending = s.pending ∧ (State.trackTapFrom s o x clipped n k).otp = s.otp ∧ (State.trackTapFrom s o x clipped n k).boardMem = s.boardMem ∧ (State.trackTapFrom s o x clipped n k).planMem = s.planMem := by
  unfold State.trackTapFrom
  refine ⟨?_, ?_, ?_, ?_⟩ <;> (repeat' split) <;> simp
@[simp] theorem State.changeZone_keeps (s : State) (n : Fin 24) (z : Option Nat) :
    (State.changeZone s n z).pending = s.pending ∧ (State.changeZone s n z).otp = s.otp ∧ (State.changeZone s n z).boardMem = s.boardMem ∧ (State.changeZone s n z).planMem = s.planMem := by
  unfold State.changeZone
  refine ⟨?_, ?_, ?_, ?_⟩ <;> (repeat' split) <;> simp
@[simp] theorem State.askZone_keeps (s : State) (n : Fin 24) :
    (State.askZone s n).pending = s.pending ∧ (State.askZone s n).otp = s.otp ∧ (State.askZone s n).boardMem = s.boardMem ∧ (State.askZone s n).planMem = s.planMem := by
  unfold State.askZone
  refine ⟨?_, ?_, ?_, ?_⟩ <;> (repeat' split) <;> simp
@[simp] theorem State.writeZoneMap_keeps (s : State) (g : Nat) (w : Word) :
    (State.writeZoneMap s g w).pending = s.pending ∧ (State.writeZoneMap s g w).otp = s.otp ∧ (State.writeZoneMap s g w).boardMem = s.boardMem ∧ (State.writeZoneMap s g w).planMem = s.planMem := by
  unfold State.writeZoneMap
  refine ⟨?_, ?_, ?_, ?_⟩ <;> (repeat' split) <;> simp
@[simp] theorem State.grant_keeps (s : State) (z : Fin 8) (n : Fin 24) :
    (State.grant s z n).pending = s.pending ∧ (State.grant s z n).otp = s.otp ∧ (State.grant s z n).boardMem = s.boardMem ∧ (State.grant s z n).planMem = s.planMem := by
  unfold State.grant
  refine ⟨?_, ?_, ?_, ?_⟩ <;> (repeat' split) <;> simp
@[simp] theorem State.writeBudget_keeps (s : State) (w : Word) :
    (State.writeBudget s w).pending = s.pending ∧ (State.writeBudget s w).otp = s.otp ∧ (State.writeBudget s w).boardMem = s.boardMem ∧ (State.writeBudget s w).planMem = s.planMem := by
  unfold State.writeBudget
  refine ⟨?_, ?_, ?_, ?_⟩ <;> (repeat' split) <;> simp
@[simp] theorem State.writeTherm_keeps (s : State) (w : Word) :
    (State.writeTherm s w).pending = s.pending ∧ (State.writeTherm s w).otp = s.otp ∧ (State.writeTherm s w).boardMem = s.boardMem ∧ (State.writeTherm s w).planMem = s.planMem := by
  unfold State.writeTherm
  refine ⟨?_, ?_, ?_, ?_⟩ <;> (repeat' split) <;> simp
@[simp] theorem State.rodsShutdown_keeps (s : State) :
    (State.rodsShutdown s).pending = s.pending ∧ (State.rodsShutdown s).otp = s.otp ∧ (State.rodsShutdown s).boardMem = s.boardMem ∧ (State.rodsShutdown s).planMem = s.planMem := by
  unfold State.rodsShutdown
  refine ⟨?_, ?_, ?_, ?_⟩ <;> (repeat' split) <;> simp

end Sys2Proof.Machine
end

