-- ==== Sys2Proof/Laws/Keep4.lean ====
section
/-! SUPPORT. What each shared operation leaves alone: the queue, the OTP values and the bytes of the two memories,
of the ring, pins, power, registers, start-up, scheduler and beam. -/

namespace Sys2Proof.Machine
open Sys2Proof

/-! ### RingOps -/

@[simp] theorem State.setLink_keeps (s : State) (up : Bool) (st : Nat) :
    (State.setLink s up st).pending = s.pending ∧ (State.setLink s up st).otp = s.otp ∧ (State.setLink s up st).boardMem = s.boardMem ∧ (State.setLink s up st).planMem = s.planMem := by
  unfold State.setLink
  refine ⟨?_, ?_, ?_, ?_⟩ <;> (repeat' split) <;> simp
@[simp] theorem State.ringTrain_keeps (s : State) :
    (State.ringTrain s).pending = s.pending ∧ (State.ringTrain s).otp = s.otp ∧ (State.ringTrain s).boardMem = s.boardMem ∧ (State.ringTrain s).planMem = s.planMem := by
  unfold State.ringTrain
  refine ⟨?_, ?_, ?_, ?_⟩ <;> (repeat' split) <;> simp
@[simp] theorem State.sendOn_keeps (s : State) (up : Bool) (type tseq : Nat) (payload : List Byte) (crc : Nat) :
    (State.sendOn s up type tseq payload crc).pending = s.pending ∧ (State.sendOn s up type tseq payload crc).otp = s.otp ∧ (State.sendOn s up type tseq payload crc).boardMem = s.boardMem ∧ (State.sendOn s up type tseq payload crc).planMem = s.planMem := by
  unfold State.sendOn
  refine ⟨?_, ?_, ?_, ?_⟩ <;> (repeat' split) <;> simp
@[simp] theorem State.originate_keeps (s : State) (links : List Bool) (type : Nat) (payload : List Byte) :
    (State.originate s links type payload).pending = s.pending ∧ (State.originate s links type payload).otp = s.otp ∧ (State.originate s links type payload).boardMem = s.boardMem ∧ (State.originate s links type payload).planMem = s.planMem := by
  unfold State.originate
  refine ⟨?_, ?_, ?_, ?_⟩ <;> (repeat' split) <;> simp
@[simp] theorem State.passToken_keeps (s : State) (t : TokenRx) (payload : List Byte) :
    (State.passToken s t payload).pending = s.pending ∧ (State.passToken s t payload).otp = s.otp ∧ (State.passToken s t payload).boardMem = s.boardMem ∧ (State.passToken s t payload).planMem = s.planMem := by
  unfold State.passToken
  refine ⟨?_, ?_, ?_, ?_⟩ <;> (repeat' split) <;> simp
@[simp] theorem State.countToken_keeps (s : State) :
    (State.countToken s).pending = s.pending ∧ (State.countToken s).otp = s.otp ∧ (State.countToken s).boardMem = s.boardMem ∧ (State.countToken s).planMem = s.planMem := by
  unfold State.countToken
  refine ⟨?_, ?_, ?_, ?_⟩ <;> (repeat' split) <;> simp
@[simp] theorem State.sendEcho_keeps (s : State) (up : Bool) :
    (State.sendEcho s up).pending = s.pending ∧ (State.sendEcho s up).otp = s.otp ∧ (State.sendEcho s up).boardMem = s.boardMem ∧ (State.sendEcho s up).planMem = s.planMem := by
  unfold State.sendEcho
  refine ⟨?_, ?_, ?_, ?_⟩ <;> (repeat' split) <;> simp
@[simp] theorem State.sendWalk_keeps (s : State) (links : List Bool) (txn : Option Nat) :
    (State.sendWalk s links txn).pending = s.pending ∧ (State.sendWalk s links txn).otp = s.otp ∧ (State.sendWalk s links txn).boardMem = s.boardMem ∧ (State.sendWalk s links txn).planMem = s.planMem := by
  unfold State.sendWalk
  refine ⟨?_, ?_, ?_, ?_⟩ <;> (repeat' split) <;> simp

/-! ### RingCmds -/

@[simp] theorem State.turnRound_keeps (s : State) :
    (State.turnRound s).pending = s.pending ∧ (State.turnRound s).otp = s.otp ∧ (State.turnRound s).boardMem = s.boardMem ∧ (State.turnRound s).planMem = s.planMem := by
  unfold State.turnRound
  refine ⟨?_, ?_, ?_, ?_⟩ <;> (repeat' split) <;> simp
@[simp] theorem State.ringOpened_keeps (s : State) :
    (State.ringOpened s).pending = s.pending ∧ (State.ringOpened s).otp = s.otp ∧ (State.ringOpened s).boardMem = s.boardMem ∧ (State.ringOpened s).planMem = s.planMem := by
  unfold State.ringOpened
  refine ⟨?_, ?_, ?_, ?_⟩ <;> (repeat' split) <;> simp
@[simp] theorem State.linkLeft_keeps (s : State) (up : Bool) :
    (State.linkLeft s up).pending = s.pending ∧ (State.linkLeft s up).otp = s.otp ∧ (State.linkLeft s up).boardMem = s.boardMem ∧ (State.linkLeft s up).planMem = s.planMem := by
  unfold State.linkLeft
  refine ⟨?_, ?_, ?_, ?_⟩ <;> (repeat' split) <;> simp
@[simp] theorem writeRingCfgReg_keeps (w : Word) (s : State) :
    (writeRingCfgReg w s).pending = s.pending ∧ (writeRingCfgReg w s).otp = s.otp ∧ (writeRingCfgReg w s).boardMem = s.boardMem ∧ (writeRingCfgReg w s).planMem = s.planMem := by
  unfold writeRingCfgReg
  refine ⟨?_, ?_, ?_, ?_⟩ <;> (repeat' split) <;> simp
@[simp] theorem State.frameToHead_keeps (s : State) (up : Bool) (b : List Byte) :
    (State.frameToHead s up b).pending = s.pending ∧ (State.frameToHead s up b).otp = s.otp ∧ (State.frameToHead s up b).boardMem = s.boardMem ∧ (State.frameToHead s up b).planMem = s.planMem := by
  unfold State.frameToHead
  refine ⟨?_, ?_, ?_, ?_⟩ <;> (repeat' split) <;> simp
@[simp] theorem State.frameToForward_keeps (s : State) (up : Bool) (b : List Byte) :
    (State.frameToForward s up b).pending = s.pending ∧ (State.frameToForward s up b).otp = s.otp ∧ (State.frameToForward s up b).boardMem = s.boardMem ∧ (State.frameToForward s up b).planMem = s.planMem := by
  unfold State.frameToForward
  refine ⟨?_, ?_, ?_, ?_⟩ <;> (repeat' split) <;> simp
@[simp] theorem State.takeFrame_keeps (s : State) (up : Bool) (bytes : List Byte) :
    (State.takeFrame s up bytes).pending = s.pending ∧ (State.takeFrame s up bytes).otp = s.otp ∧ (State.takeFrame s up bytes).boardMem = s.boardMem ∧ (State.takeFrame s up bytes).planMem = s.planMem := by
  unfold State.takeFrame
  refine ⟨?_, ?_, ?_, ?_⟩ <;> (repeat' split) <;> simp
@[simp] theorem State.sendFrame_keeps (s : State) (up : Bool) (age hops origin : Nat) (event : Bool) (item : List Byte) :
    (State.sendFrame s up age hops origin event item).pending = s.pending ∧ (State.sendFrame s up age hops origin event item).otp = s.otp ∧ (State.sendFrame s up age hops origin event item).boardMem = s.boardMem ∧ (State.sendFrame s up age hops origin event item).planMem = s.planMem := by
  unfold State.sendFrame
  refine ⟨?_, ?_, ?_, ?_⟩ <;> (repeat' split) <;> simp
@[simp] theorem State.sendOwn_keeps (s : State) (up : Bool) (t : Fin 64) (r : BoardRec) :
    (State.sendOwn s up t r).pending = s.pending ∧ (State.sendOwn s up t r).otp = s.otp ∧ (State.sendOwn s up t r).boardMem = s.boardMem ∧ (State.sendOwn s up t r).planMem = s.planMem := by
  unfold State.sendOwn
  refine ⟨?_, ?_, ?_, ?_⟩ <;> (repeat' split) <;> simp
@[simp] theorem State.sendForward_keeps (s : State) (up : Bool) (f : RingFrame) (res : Nat) (waits : Bool) :
    (State.sendForward s up f res waits).pending = s.pending ∧ (State.sendForward s up f res waits).otp = s.otp ∧ (State.sendForward s up f res waits).boardMem = s.boardMem ∧ (State.sendForward s up f res waits).planMem = s.planMem := by
  unfold State.sendForward
  refine ⟨?_, ?_, ?_, ?_⟩ <;> (repeat' split) <;> simp
@[simp] theorem State.onToken_pending (s : State) (t : TokenRx) (type : Nat) (act : State → State) (hact : ∀ a0, (act a0).pending = a0.pending) :
    (State.onToken s t type act).pending = s.pending := by
  unfold State.onToken
  (repeat' split) <;> (try simp [hact]) <;> (repeat' split) <;> (try simp [hact])
@[simp] theorem State.onToken_otp (s : State) (t : TokenRx) (type : Nat) (act : State → State) (hact : ∀ a0, (act a0).otp = a0.otp) :
    (State.onToken s t type act).otp = s.otp := by
  unfold State.onToken
  (repeat' split) <;> (try simp [hact]) <;> (repeat' split) <;> (try simp [hact])
@[simp] theorem State.onToken_boardMem (s : State) (t : TokenRx) (type : Nat) (act : State → State) (hact : ∀ a0, (act a0).boardMem = a0.boardMem) :
    (State.onToken s t type act).boardMem = s.boardMem := by
  unfold State.onToken
  (repeat' split) <;> (try simp [hact]) <;> (repeat' split) <;> (try simp [hact])
@[simp] theorem State.onToken_planMem (s : State) (t : TokenRx) (type : Nat) (act : State → State) (hact : ∀ a0, (act a0).planMem = a0.planMem) :
    (State.onToken s t type act).planMem = s.planMem := by
  unfold State.onToken
  (repeat' split) <;> (try simp [hact]) <;> (repeat' split) <;> (try simp [hact])
@[simp] theorem State.setHalt_keeps (s : State) (t : TokenRx) (v : Nat) :
    (State.setHalt s t v).pending = s.pending ∧ (State.setHalt s t v).otp = s.otp ∧ (State.setHalt s t v).boardMem = s.boardMem ∧ (State.setHalt s t v).planMem = s.planMem := by
  unfold State.setHalt
  refine ⟨?_, ?_, ?_, ?_⟩ <;> (repeat' split) <;> simp
@[simp] theorem State.syncTo_keeps (s : State) (v next : Nat) :
    (State.syncTo s v next).pending = s.pending ∧ (State.syncTo s v next).otp = s.otp ∧ (State.syncTo s v next).boardMem = s.boardMem ∧ (State.syncTo s v next).planMem = s.planMem := by
  unfold State.syncTo
  refine ⟨?_, ?_, ?_, ?_⟩ <;> (repeat' split) <;> simp
@[simp] theorem State.cableOf_keeps (s : State) (span res : Nat) :
    (State.cableOf s span res).1.pending = s.pending ∧ (State.cableOf s span res).1.otp = s.otp ∧ (State.cableOf s span res).1.boardMem = s.boardMem ∧ (State.cableOf s span res).1.planMem = s.planMem := by
  unfold State.cableOf
  refine ⟨?_, ?_, ?_, ?_⟩ <;> (repeat' split) <;> simp
@[simp] theorem State.walkState_keeps (s : State) (t : TokenRx) (es : List (List Byte)) (dup full : Bool) :
    (State.walkState s t es dup full).pending = s.pending ∧ (State.walkState s t es dup full).otp = s.otp ∧ (State.walkState s t es dup full).boardMem = s.boardMem ∧ (State.walkState s t es dup full).planMem = s.planMem := by
  unfold State.walkState
  refine ⟨?_, ?_, ?_, ?_⟩ <;> (repeat' split) <;> simp
@[simp] theorem State.walkSatellite_keeps (s : State) (t : TokenRx) :
    (State.walkSatellite s t).pending = s.pending ∧ (State.walkSatellite s t).otp = s.otp ∧ (State.walkSatellite s t).boardMem = s.boardMem ∧ (State.walkSatellite s t).planMem = s.planMem := by
  unfold State.walkSatellite
  refine ⟨?_, ?_, ?_, ?_⟩ <;> (repeat' split) <;> simp
@[simp] theorem State.walkDevice_keeps (s : State) (d : RingDevice) :
    (State.walkDevice s d).pending = s.pending ∧ (State.walkDevice s d).otp = s.otp ∧ (State.walkDevice s d).boardMem = s.boardMem ∧ (State.walkDevice s d).planMem = s.planMem := by
  unfold State.walkDevice
  refine ⟨?_, ?_, ?_, ?_⟩ <;> (repeat' split) <;> simp
@[simp] theorem State.walkMissing_keeps (s : State) (up : Bool) (serials : List Nat) :
    (State.walkMissing s up serials).pending = s.pending ∧ (State.walkMissing s up serials).otp = s.otp ∧ (State.walkMissing s up serials).boardMem = s.boardMem ∧ (State.walkMissing s up serials).planMem = s.planMem := by
  unfold State.walkMissing
  refine ⟨?_, ?_, ?_, ?_⟩ <;> (repeat' split) <;> simp
@[simp] theorem State.raiseBreak_keeps (s : State) (dn : Bool) (serial : Nat) :
    (State.raiseBreak s dn serial).pending = s.pending ∧ (State.raiseBreak s dn serial).otp = s.otp ∧ (State.raiseBreak s dn serial).boardMem = s.boardMem ∧ (State.raiseBreak s dn serial).planMem = s.planMem := by
  unfold State.raiseBreak
  refine ⟨?_, ?_, ?_, ?_⟩ <;> (repeat' split) <;> simp
@[simp] theorem State.reportBreaks_keeps (s : State) :
    (State.reportBreaks s).pending = s.pending ∧ (State.reportBreaks s).otp = s.otp ∧ (State.reportBreaks s).boardMem = s.boardMem ∧ (State.reportBreaks s).planMem = s.planMem := by
  unfold State.reportBreaks
  refine ⟨?_, ?_, ?_, ?_⟩ <;> (repeat' split) <;> simp
@[simp] theorem State.noteLast_keeps (s : State) (up : Bool) (es : List (List Byte)) :
    (State.noteLast s up es).pending = s.pending ∧ (State.noteLast s up es).otp = s.otp ∧ (State.noteLast s up es).boardMem = s.boardMem ∧ (State.noteLast s up es).planMem = s.planMem := by
  unfold State.noteLast
  refine ⟨?_, ?_, ?_, ?_⟩ <;> (repeat' split) <;> simp
@[simp] theorem State.openShape_keeps (s : State) (up : Bool) (es : List (List Byte)) :
    (State.openShape s up es).pending = s.pending ∧ (State.openShape s up es).otp = s.otp ∧ (State.openShape s up es).boardMem = s.boardMem ∧ (State.openShape s up es).planMem = s.planMem := by
  unfold State.openShape
  refine ⟨?_, ?_, ?_, ?_⟩ <;> (repeat' split) <;> simp
@[simp] theorem State.walkShape_keeps (s : State) (w : WalkRun) (t : TokenRx) (es : List (List Byte)) :
    (State.walkShape s w t es).pending = s.pending ∧ (State.walkShape s w t es).otp = s.otp ∧ (State.walkShape s w t es).boardMem = s.boardMem ∧ (State.walkShape s w t es).planMem = s.planMem := by
  unfold State.walkShape
  refine ⟨?_, ?_, ?_, ?_⟩ <;> (repeat' split) <;> simp
@[simp] theorem State.walkRecord_keeps (s : State) (id : Nat) :
    (State.walkRecord s id).pending = s.pending ∧ (State.walkRecord s id).otp = s.otp ∧ (State.walkRecord s id).boardMem = s.boardMem ∧ (State.walkRecord s id).planMem = s.planMem := by
  unfold State.walkRecord
  refine ⟨?_, ?_, ?_, ?_⟩ <;> (repeat' split) <;> simp
@[simp] theorem State.walkHead_keeps (s : State) (w : WalkRun) (t : TokenRx) :
    (State.walkHead s w t).pending = s.pending ∧ (State.walkHead s w t).otp = s.otp ∧ (State.walkHead s w t).boardMem = s.boardMem ∧ (State.walkHead s w t).planMem = s.planMem := by
  unfold State.walkHead
  refine ⟨?_, ?_, ?_, ?_⟩ <;> (repeat' split) <;> simp
@[simp] theorem State.ringDesc_keeps (s : State) (op type : Nat) (payload : Desc → List Byte) :
    (State.ringDesc s op type payload).pending = s.pending ∧ (State.ringDesc s op type payload).otp = s.otp ∧ (State.ringDesc s op type payload).boardMem = s.boardMem ∧ (State.ringDesc s op type payload).planMem = s.planMem := by
  unfold State.ringDesc
  refine ⟨?_, ?_, ?_, ?_⟩ <;> (repeat' split) <;> simp

/-! ### RoundCmds -/

@[simp] theorem writeRoundCtl_keeps (w : Word) (s : State) :
    (writeRoundCtl w s).pending = s.pending ∧ (writeRoundCtl w s).otp = s.otp ∧ (writeRoundCtl w s).boardMem = s.boardMem ∧ (writeRoundCtl w s).planMem = s.planMem := by
  unfold writeRoundCtl
  refine ⟨?_, ?_, ?_, ?_⟩ <;> (repeat' split) <;> simp
@[simp] theorem State.joinRound_keeps (s : State) :
    (State.joinRound s).pending = s.pending ∧ (State.joinRound s).otp = s.otp ∧ (State.joinRound s).boardMem = s.boardMem ∧ (State.joinRound s).planMem = s.planMem := by
  unfold State.joinRound
  dsimp only
  refine ⟨?_, ?_, ?_, ?_⟩ <;> (repeat' split) <;> (try simp) <;> (repeat' split) <;> (try simp)
@[simp] theorem State.roundStop_keeps (s : State) (n : Fin 24) :
    (State.roundStop s n).pending = s.pending ∧ (State.roundStop s n).otp = s.otp ∧ (State.roundStop s n).boardMem = s.boardMem ∧ (State.roundStop s n).planMem = s.planMem := by
  unfold State.roundStop
  dsimp only
  refine ⟨?_, ?_, ?_, ?_⟩ <;> (repeat' split) <;> (try simp) <;> (repeat' split) <;> (try simp)
@[simp] theorem State.discardWhere_keeps (n : Fin 24) (p : Held → Bool) (k0 : Nat) (s : State) :
    (State.discardWhere n p k0 s).pending = s.pending ∧ (State.discardWhere n p k0 s).otp = s.otp ∧ (State.discardWhere n p k0 s).boardMem = s.boardMem ∧ (State.discardWhere n p k0 s).planMem = s.planMem := by
  induction k0 generalizing s with
  | zero => simp [State.discardWhere]
  | succ k ih =>
    unfold State.discardWhere
    refine ⟨?_, ?_, ?_, ?_⟩ <;> (repeat' split) <;> simp [ih]
@[simp] theorem State.clearDedup_keeps (s : State) :
    (State.clearDedup s).pending = s.pending ∧ (State.clearDedup s).otp = s.otp ∧ (State.clearDedup s).boardMem = s.boardMem := by
  unfold State.clearDedup
  refine ⟨?_, ?_, ?_⟩ <;> (repeat' split) <;> simp
@[simp] theorem State.roundDone_keeps (s : State) :
    (State.roundDone s).pending = s.pending ∧ (State.roundDone s).otp = s.otp ∧ (State.roundDone s).boardMem = s.boardMem ∧ (State.roundDone s).planMem = s.planMem := by
  unfold State.roundDone
  refine ⟨?_, ?_, ?_, ?_⟩ <;> (repeat' split) <;> simp
@[simp] theorem State.restartPass_keeps (s : State) (n : Fin 24) :
    (State.restartPass s n).pending = s.pending ∧ (State.restartPass s n).otp = s.otp ∧ (State.restartPass s n).boardMem = s.boardMem ∧ (State.restartPass s n).planMem = s.planMem := by
  unfold State.restartPass
  refine ⟨?_, ?_, ?_, ?_⟩ <;> (repeat' split) <;> simp
@[simp] theorem State.roundResume_keeps (s : State) :
    (State.roundResume s).pending = s.pending ∧ (State.roundResume s).otp = s.otp ∧ (State.roundResume s).boardMem = s.boardMem ∧ (State.roundResume s).planMem = s.planMem := by
  unfold State.roundResume
  refine ⟨?_, ?_, ?_, ?_⟩ <;> (repeat' split) <;> simp
@[simp] theorem State.roundGo_keeps (s : State) (k : Nat) :
    (State.roundGo s k).pending = s.pending ∧ (State.roundGo s k).otp = s.otp ∧ (State.roundGo s k).boardMem = s.boardMem ∧ (State.roundGo s k).planMem = s.planMem := by
  unfold State.roundGo
  refine ⟨?_, ?_, ?_, ?_⟩ <;> (repeat' split) <;> simp
@[simp] theorem State.roundStep_keeps (s : State) :
    (State.roundStep s).pending = s.pending ∧ (State.roundStep s).otp = s.otp ∧ (State.roundStep s).boardMem = s.boardMem := by
  unfold State.roundStep
  refine ⟨?_, ?_, ?_⟩ <;> (repeat' split) <;> simp

/-! ### PeriCmds -/

@[simp] theorem State.xferRecords_keeps (s : State) (t : Txn) (st : Status) (got : List Byte) (count frames status : Nat) :
    (State.xferRecords s t st got count frames status).pending = s.pending ∧ (State.xferRecords s t st got count frames status).otp = s.otp ∧ (State.xferRecords s t st got count frames status).boardMem = s.boardMem ∧ (State.xferRecords s t st got count frames status).planMem = s.planMem := by
  unfold State.xferRecords
  refine ⟨?_, ?_, ?_, ?_⟩ <;> (repeat' split) <;> simp
@[simp] theorem State.endXfer_keeps (s : State) (t : Txn) (st : Status) (got : List Byte) (count frames status : Nat) :
    (State.endXfer s t st got count frames status).pending = s.pending ∧ (State.endXfer s t st got count frames status).otp = s.otp ∧ (State.endXfer s t st got count frames status).boardMem = s.boardMem ∧ (State.endXfer s t st got count frames status).planMem = s.planMem := by
  unfold State.endXfer
  refine ⟨?_, ?_, ?_, ?_⟩ <;> (repeat' split) <;> simp
@[simp] theorem State.dataPhase_keeps (s : State) (d : Desc) (l : List Byte) :
    (State.dataPhase s d l).pending = s.pending ∧ (State.dataPhase s d l).otp = s.otp ∧ (State.dataPhase s d l).boardMem = s.boardMem ∧ (State.dataPhase s d l).planMem = s.planMem := by
  unfold State.dataPhase
  refine ⟨?_, ?_, ?_, ?_⟩ <;> (repeat' split) <;> simp
@[simp] theorem State.xferFrameEnd_keeps (s : State) (r : SpiRun) (t : Txn) (e : SpiEnd) :
    (State.xferFrameEnd s r t e).pending = s.pending ∧ (State.xferFrameEnd s r t e).otp = s.otp ∧ (State.xferFrameEnd s r t e).boardMem = s.boardMem ∧ (State.xferFrameEnd s r t e).planMem = s.planMem := by
  unfold State.xferFrameEnd
  refine ⟨?_, ?_, ?_, ?_⟩ <;> (repeat' split) <;> simp
@[simp] theorem State.cutXfer_keeps (s : State) (st : Status) :
    (State.cutXfer s st).pending = s.pending ∧ (State.cutXfer s st).otp = s.otp ∧ (State.cutXfer s st).boardMem = s.boardMem ∧ (State.cutXfer s st).planMem = s.planMem := by
  unfold State.cutXfer
  refine ⟨?_, ?_, ?_, ?_⟩ <;> (repeat' split) <;> simp
@[simp] theorem State.spiFlush_keeps (s : State) :
    (State.spiFlush s).pending = s.pending ∧ (State.spiFlush s).otp = s.otp ∧ (State.spiFlush s).boardMem = s.boardMem ∧ (State.spiFlush s).planMem = s.planMem := by
  unfold State.spiFlush
  exact ⟨forAll_pending (fun a s => by (repeat' split) <;> simp) _ _,
    forAll_otp (fun a s => by (repeat' split) <;> simp) _ _,
    forAll_boardMem (fun a s => by (repeat' split) <;> simp) _ _,
    forAll_planMem (fun a s => by (repeat' split) <;> simp) _ _⟩
@[simp] theorem State.pinTriggers_keeps (s : State) (ch v : Nat) :
    (State.pinTriggers s ch v).pending = s.pending ∧ (State.pinTriggers s ch v).otp = s.otp ∧ (State.pinTriggers s ch v).boardMem = s.boardMem ∧ (State.pinTriggers s ch v).planMem = s.planMem := by
  unfold State.pinTriggers
  refine ⟨?_, ?_, ?_, ?_⟩ <;> (repeat' split) <;> simp
@[simp] theorem State.setPins_keeps (s : State) (v : Nat) :
    (State.setPins s v).pending = s.pending ∧ (State.setPins s v).otp = s.otp ∧ (State.setPins s v).boardMem = s.boardMem ∧ (State.setPins s v).planMem = s.planMem := by
  unfold State.setPins
  refine ⟨?_, ?_, ?_, ?_⟩ <;> (repeat' split) <;> simp
@[simp] theorem State.drivePins_keeps (s : State) :
    (State.drivePins s).pending = s.pending ∧ (State.drivePins s).otp = s.otp ∧ (State.drivePins s).boardMem = s.boardMem ∧ (State.drivePins s).planMem = s.planMem := by
  unfold State.drivePins
  refine ⟨?_, ?_, ?_, ?_⟩ <;> (repeat' split) <;> simp
@[simp] theorem writeGpioOut_keeps (addr : Nat) (w : Word) (s : State) :
    (writeGpioOut addr w s).pending = s.pending ∧ (writeGpioOut addr w s).otp = s.otp ∧ (writeGpioOut addr w s).boardMem = s.boardMem ∧ (writeGpioOut addr w s).planMem = s.planMem := by
  unfold writeGpioOut
  refine ⟨?_, ?_, ?_, ?_⟩ <;> (repeat' split) <;> simp
@[simp] theorem State.pinLevel_keeps (s : State) (k : Fin 16) (level : Bool) :
    (State.pinLevel s k level).pending = s.pending ∧ (State.pinLevel s k level).otp = s.otp ∧ (State.pinLevel s k level).boardMem = s.boardMem ∧ (State.pinLevel s k level).planMem = s.planMem := by
  unfold State.pinLevel
  refine ⟨?_, ?_, ?_, ?_⟩ <;> (repeat' split) <;> simp

/-! ### PwrOps -/

@[simp] theorem State.holdPads_keeps (s : State) (d : Domain) :
    (State.holdPads s d).pending = s.pending ∧ (State.holdPads s d).otp = s.otp ∧ (State.holdPads s d).boardMem = s.boardMem ∧ (State.holdPads s d).planMem = s.planMem := by
  unfold State.holdPads
  refine ⟨?_, ?_, ?_, ?_⟩ <;> (repeat' split) <;> simp
@[simp] theorem State.padsFreed_keeps (s : State) (d : Domain) :
    (State.padsFreed s d).pending = s.pending ∧ (State.padsFreed s d).otp = s.otp ∧ (State.padsFreed s d).boardMem = s.boardMem ∧ (State.padsFreed s d).planMem = s.planMem := by
  unfold State.padsFreed
  refine ⟨?_, ?_, ?_, ?_⟩ <;> (repeat' split) <;> simp
@[simp] theorem State.freePads_keeps (s : State) (d : Domain) :
    (State.freePads s d).pending = s.pending ∧ (State.freePads s d).otp = s.otp ∧ (State.freePads s d).boardMem = s.boardMem ∧ (State.freePads s d).planMem = s.planMem := by
  unfold State.freePads
  refine ⟨?_, ?_, ?_, ?_⟩ <;> (repeat' split) <;> simp
@[simp] theorem writePadRelease_keeps (w : Word) (s : State) :
    (writePadRelease w s).pending = s.pending ∧ (writePadRelease w s).otp = s.otp ∧ (writePadRelease w s).boardMem = s.boardMem ∧ (writePadRelease w s).planMem = s.planMem := by
  unfold writePadRelease
  refine ⟨?_, ?_, ?_, ?_⟩ <;> (repeat' split) <;> simp
@[simp] theorem State.pwrEvent_keeps (s : State) (d : Domain) (new old : PState) (cause : Nat) :
    (State.pwrEvent s d new old cause).pending = s.pending ∧ (State.pwrEvent s d new old cause).otp = s.otp ∧ (State.pwrEvent s d new old cause).boardMem = s.boardMem ∧ (State.pwrEvent s d new old cause).planMem = s.planMem := by
  unfold State.pwrEvent
  refine ⟨?_, ?_, ?_, ?_⟩ <;> (repeat' split) <;> simp
@[simp] theorem State.endUnit_keeps (s : State) (unit : Nat) (p : Txn → Bool) (st : Status) :
    (State.endUnit s unit p st).pending = s.pending ∧ (State.endUnit s unit p st).otp = s.otp ∧ (State.endUnit s unit p st).boardMem = s.boardMem ∧ (State.endUnit s unit p st).planMem = s.planMem := by
  unfold State.endUnit
  refine ⟨?_, ?_, ?_, ?_⟩ <;> (repeat' split) <;> simp
@[simp] theorem State.rodDown_keeps (s : State) (n : Fin 24) :
    (State.rodDown s n).pending = s.pending ∧ (State.rodDown s n).otp = s.otp ∧ (State.rodDown s n).boardMem = s.boardMem ∧ (State.rodDown s n).planMem = s.planMem := by
  unfold State.rodDown
  refine ⟨?_, ?_, ?_, ?_⟩ <;> (repeat' split) <;> simp
@[simp] theorem State.cutAcc_keeps (s : State) (p : AccRun → Bool) :
    (State.cutAcc s p).pending = s.pending ∧ (State.cutAcc s p).otp = s.otp ∧ (State.cutAcc s p).boardMem = s.boardMem ∧ (State.cutAcc s p).planMem = s.planMem := by
  unfold State.cutAcc
  refine ⟨?_, ?_, ?_, ?_⟩ <;> (repeat' split) <;> simp
@[simp] theorem State.cutLoads_keeps (s : State) :
    (State.cutLoads s).pending = s.pending ∧ (State.cutLoads s).otp = s.otp ∧ (State.cutLoads s).boardMem = s.boardMem ∧ (State.cutLoads s).planMem = s.planMem := by
  unfold State.cutLoads
  refine ⟨?_, ?_, ?_, ?_⟩ <;> (repeat' split) <;> simp
@[simp] theorem State.unitsDown_keeps (s : State) (d : Domain) :
    (State.unitsDown s d).pending = s.pending ∧ (State.unitsDown s d).otp = s.otp ∧ (State.unitsDown s d).boardMem = s.boardMem ∧ (State.unitsDown s d).planMem = s.planMem := by
  unfold State.unitsDown
  refine ⟨?_, ?_, ?_, ?_⟩ <;> (repeat' split) <;> simp
@[simp] theorem State.coreLost_keeps (s : State) :
    (State.coreLost s).pending = s.pending ∧ (State.coreLost s).otp = s.otp ∧ (State.coreLost s).boardMem = s.boardMem ∧ (State.coreLost s).planMem = s.planMem := by
  unfold State.coreLost
  refine ⟨?_, ?_, ?_, ?_⟩ <;> (repeat' split) <;> simp
@[simp] theorem State.domainLost_keeps (s : State) (d : Domain) :
    (State.domainLost s d).pending = s.pending ∧ (State.domainLost s d).otp = s.otp := by
  unfold State.domainLost
  refine ⟨?_, ?_⟩ <;> (repeat' split) <;> simp
@[simp] theorem State.releaseHeld_keeps (s : State) :
    (State.releaseHeld s).pending = s.pending ∧ (State.releaseHeld s).otp = s.otp ∧ (State.releaseHeld s).planMem = s.planMem := by
  unfold State.releaseHeld
  refine ⟨?_, ?_, ?_⟩ <;> (repeat' split) <;> simp
@[simp] theorem State.comeOn_keeps (s : State) (d : Domain) (old : PState) :
    (State.comeOn s d old).pending = s.pending ∧ (State.comeOn s d old).otp = s.otp ∧ (State.comeOn s d old).planMem = s.planMem := by
  unfold State.comeOn
  refine ⟨?_, ?_, ?_⟩ <;> (repeat' split) <;> simp
@[simp] theorem State.clearLatches_keeps (s : State) :
    (State.clearLatches s).pending = s.pending ∧ (State.clearLatches s).otp = s.otp ∧ (State.clearLatches s).boardMem = s.boardMem ∧ (State.clearLatches s).planMem = s.planMem := by
  unfold State.clearLatches
  refine ⟨?_, ?_, ?_, ?_⟩ <;> (repeat' split) <;> simp
@[simp] theorem State.setPowerDone_keeps (s : State) (sp : SetPower) (ok : Bool) :
    (State.setPowerDone s sp ok).pending = s.pending ∧ (State.setPowerDone s sp ok).otp = s.otp ∧ (State.setPowerDone s sp ok).boardMem = s.boardMem ∧ (State.setPowerDone s sp ok).planMem = s.planMem := by
  unfold State.setPowerDone
  refine ⟨?_, ?_, ?_, ?_⟩ <;> (repeat' split) <;> simp
@[simp] theorem State.requestOver_keeps (s : State) (ok : Bool) :
    (State.requestOver s ok).pending = s.pending ∧ (State.requestOver s ok).otp = s.otp ∧ (State.requestOver s ok).boardMem = s.boardMem ∧ (State.requestOver s ok).planMem = s.planMem := by
  unfold State.requestOver
  dsimp only
  refine ⟨?_, ?_, ?_, ?_⟩ <;> (repeat' split) <;> (try simp) <;> (repeat' split) <;> (try simp)
@[simp] theorem State.wakeEvents_keeps (s : State) (r : PwrRun) :
    (State.wakeEvents s r).pending = s.pending ∧ (State.wakeEvents s r).otp = s.otp ∧ (State.wakeEvents s r).boardMem = s.boardMem ∧ (State.wakeEvents s r).planMem = s.planMem := by
  unfold State.wakeEvents
  refine ⟨?_, ?_, ?_, ?_⟩ <;> (repeat' split) <;> simp
@[simp] theorem State.endPwrRun_keeps (s : State) (r : PwrRun) :
    (State.endPwrRun s r).pending = s.pending ∧ (State.endPwrRun s r).otp = s.otp ∧ (State.endPwrRun s r).boardMem = s.boardMem ∧ (State.endPwrRun s r).planMem = s.planMem := by
  unfold State.endPwrRun
  refine ⟨?_, ?_, ?_, ?_⟩ <;> (repeat' split) <;> simp
@[simp] theorem State.nextPos_keeps (s : State) (r : PwrRun) :
    (State.nextPos s r).pending = s.pending ∧ (State.nextPos s r).otp = s.otp ∧ (State.nextPos s r).boardMem = s.boardMem ∧ (State.nextPos s r).planMem = s.planMem := by
  unfold State.nextPos
  refine ⟨?_, ?_, ?_, ?_⟩ <;> (repeat' split) <;> simp
@[simp] theorem State.posDone_keeps (s : State) (r : PwrRun) :
    (State.posDone s r).pending = s.pending ∧ (State.posDone s r).otp = s.otp ∧ (State.posDone s r).planMem = s.planMem := by
  unfold State.posDone
  refine ⟨?_, ?_, ?_⟩ <;> (repeat' split) <;> simp
@[simp] theorem State.reportRefusal_keeps (s : State) (d : Domain) (reason req : Nat) :
    (State.reportRefusal s d reason req).pending = s.pending ∧ (State.reportRefusal s d reason req).otp = s.otp ∧ (State.reportRefusal s d reason req).boardMem = s.boardMem ∧ (State.reportRefusal s d reason req).planMem = s.planMem := by
  unfold State.reportRefusal
  refine ⟨?_, ?_, ?_, ?_⟩ <;> (repeat' split) <;> simp
@[simp] theorem State.enterMember_keeps (s : State) (r : PwrRun) (d : Domain) (target : PState) :
    (State.enterMember s r d target).pending = s.pending ∧ (State.enterMember s r d target).otp = s.otp ∧ (State.enterMember s r d target).boardMem = s.boardMem ∧ (State.enterMember s r d target).planMem = s.planMem := by
  unfold State.enterMember
  refine ⟨?_, ?_, ?_, ?_⟩ <;> (repeat' split) <;> simp
@[simp] theorem State.nextMember_keeps (s : State) (r : PwrRun) :
    (State.nextMember s r).pending = s.pending ∧ (State.nextMember s r).otp = s.otp ∧ (State.nextMember s r).boardMem = s.boardMem ∧ (State.nextMember s r).planMem = s.planMem := by
  unfold State.nextMember
  refine ⟨?_, ?_, ?_, ?_⟩ <;> (repeat' split) <;> simp
@[simp] theorem State.startRequest_keeps (s : State) (cause : PwrCause) (force : Bool) (l : List Nat) :
    (State.startRequest s cause force l).pending = s.pending ∧ (State.startRequest s cause force l).otp = s.otp ∧ (State.startRequest s cause force l).boardMem = s.boardMem ∧ (State.startRequest s cause force l).planMem = s.planMem := by
  unfold State.startRequest
  refine ⟨?_, ?_, ?_, ?_⟩ <;> (repeat' split) <;> simp
@[simp] theorem State.memberEntered_keeps (s : State) (r : PwrRun) (d : Domain) (target : PState) :
    (State.memberEntered s r d target).pending = s.pending ∧ (State.memberEntered s r d target).otp = s.otp := by
  unfold State.memberEntered
  refine ⟨?_, ?_⟩ <;> (repeat' split) <;> simp
@[simp] theorem writePwrReq_keeps (w : Word) (s : State) :
    (writePwrReq w s).pending = s.pending ∧ (writePwrReq w s).otp = s.otp ∧ (writePwrReq w s).boardMem = s.boardMem ∧ (writePwrReq w s).planMem = s.planMem := by
  unfold writePwrReq
  refine ⟨?_, ?_, ?_, ?_⟩ <;> (repeat' split) <;> simp
@[simp] theorem State.releaseRequest_keeps (s : State) :
    (State.releaseRequest s).pending = s.pending ∧ (State.releaseRequest s).otp = s.otp ∧ (State.releaseRequest s).boardMem = s.boardMem ∧ (State.releaseRequest s).planMem = s.planMem := by
  unfold State.releaseRequest
  refine ⟨?_, ?_, ?_, ?_⟩ <;> (repeat' split) <;> simp
@[simp] theorem State.dropPulses_keeps (s : State) :
    (State.dropPulses s).pending = s.pending ∧ (State.dropPulses s).otp = s.otp ∧ (State.dropPulses s).boardMem = s.boardMem ∧ (State.dropPulses s).planMem = s.planMem := by
  unfold State.dropPulses
  refine ⟨?_, ?_, ?_, ?_⟩ <;> (repeat' split) <;> simp
@[simp] theorem State.fullReset_keeps (s : State) (b pins : Nat) :
    (State.fullReset s b pins).pending = s.pending := by
  unfold State.fullReset
  (repeat' split) <;> simp
@[simp] theorem State.warmReset_keeps (s : State) (b : Nat) :
    (State.warmReset s b).pending = s.pending ∧ (State.warmReset s b).otp = s.otp := by
  unfold State.warmReset
  refine ⟨?_, ?_⟩ <;> (repeat' split) <;> simp

/-! ### TestCmds -/

@[simp] theorem State.bistReport_keeps (s : State) (b : BistRun) (scope : Nat) :
    (State.bistReport s b scope).pending = s.pending ∧ (State.bistReport s b scope).otp = s.otp ∧ (State.bistReport s b scope).boardMem = s.boardMem ∧ (State.bistReport s b scope).planMem = s.planMem := by
  unfold State.bistReport
  refine ⟨?_, ?_, ?_, ?_⟩ <;> (repeat' split) <;> simp
@[simp] theorem State.bistCut_keeps (s : State) (txn : Option Nat) (st : Status) :
    (State.bistCut s txn st).pending = s.pending ∧ (State.bistCut s txn st).otp = s.otp ∧ (State.bistCut s txn st).boardMem = s.boardMem ∧ (State.bistCut s txn st).planMem = s.planMem := by
  unfold State.bistCut
  refine ⟨?_, ?_, ?_, ?_⟩ <;> (repeat' split) <;> simp
@[simp] theorem State.bistStart_keeps (s : State) (txn : Option Nat) (l m : Nat) :
    (State.bistStart s txn l m).pending = s.pending ∧ (State.bistStart s txn l m).otp = s.otp ∧ (State.bistStart s txn l m).boardMem = s.boardMem ∧ (State.bistStart s txn l m).planMem = s.planMem := by
  unfold State.bistStart
  refine ⟨?_, ?_, ?_, ?_⟩ <;> (repeat' split) <;> simp
@[simp] theorem writeBistCtl_keeps (w : Word) (s : State) :
    (writeBistCtl w s).pending = s.pending ∧ (writeBistCtl w s).otp = s.otp ∧ (writeBistCtl w s).boardMem = s.boardMem ∧ (writeBistCtl w s).planMem = s.planMem := by
  unfold writeBistCtl
  refine ⟨?_, ?_, ?_, ?_⟩ <;> (repeat' split) <;> simp
@[simp] theorem State.bistLate_keeps (s : State) :
    (State.bistLate s).pending = s.pending ∧ (State.bistLate s).otp = s.otp ∧ (State.bistLate s).boardMem = s.boardMem ∧ (State.bistLate s).planMem = s.planMem := by
  unfold State.bistLate
  refine ⟨?_, ?_, ?_, ?_⟩ <;> (repeat' split) <;> simp
@[simp] theorem State.bistTargetsOn_keeps (s : State) (b : BistRun) :
    (State.bistTargetsOn s b).pending = s.pending ∧ (State.bistTargetsOn s b).otp = s.otp := by
  unfold State.bistTargetsOn
  refine ⟨?_, ?_⟩ <;> (repeat' split) <;> simp
@[simp] theorem State.bistShutdown_keeps (s : State) :
    (State.bistShutdown s).pending = s.pending ∧ (State.bistShutdown s).otp = s.otp := by
  unfold State.bistShutdown
  refine ⟨?_, ?_⟩ <;> (repeat' split) <;> simp
@[simp] theorem State.setTest_keeps (s : State) (t : TestPart) :
    (State.setTest s t).pending = s.pending ∧ (State.setTest s t).otp = s.otp ∧ (State.setTest s t).boardMem = s.boardMem ∧ (State.setTest s t).planMem = s.planMem := by
  unfold State.setTest
  refine ⟨?_, ?_, ?_, ?_⟩ <;> (repeat' split) <;> simp
@[simp] theorem State.selectTap_keeps (s : State) (ir : Nat) :
    (State.selectTap s ir).pending = s.pending ∧ (State.selectTap s ir).otp = s.otp ∧ (State.selectTap s ir).boardMem = s.boardMem ∧ (State.selectTap s ir).planMem = s.planMem := by
  unfold State.selectTap
  refine ⟨?_, ?_, ?_, ?_⟩ <;> (repeat' split) <;> simp
@[simp] theorem State.scanDr_keeps (s : State) (balls tdi : List Bool) :
    (State.scanDr s balls tdi).pending = s.pending ∧ (State.scanDr s balls tdi).otp = s.otp ∧ (State.scanDr s balls tdi).boardMem = s.boardMem ∧ (State.scanDr s balls tdi).planMem = s.planMem := by
  unfold State.scanDr
  refine ⟨?_, ?_, ?_, ?_⟩ <;> (repeat' split) <;> simp
@[simp] theorem State.debugGo_keeps (s : State) :
    (State.debugGo s).pending = s.pending ∧ (State.debugGo s).otp = s.otp ∧ (State.debugGo s).boardMem = s.boardMem ∧ (State.debugGo s).planMem = s.planMem := by
  unfold State.debugGo
  refine ⟨?_, ?_, ?_, ?_⟩ <;> (repeat' split) <;> simp
@[simp] theorem State.debugUnit_keeps (s : State) :
    (State.debugUnit s).pending = s.pending ∧ (State.debugUnit s).otp = s.otp ∧ (State.debugUnit s).boardMem = s.boardMem ∧ (State.debugUnit s).planMem = s.planMem := by
  unfold State.debugUnit
  refine ⟨?_, ?_, ?_, ?_⟩ <;> (repeat' split) <;> simp
@[simp] theorem writeDbgCtl_keeps (src : Nat) (w : Word) (s : State) :
    (writeDbgCtl src w s).pending = s.pending ∧ (writeDbgCtl src w s).otp = s.otp ∧ (writeDbgCtl src w s).boardMem = s.boardMem ∧ (writeDbgCtl src w s).planMem = s.planMem := by
  unfold writeDbgCtl
  refine ⟨?_, ?_, ?_, ?_⟩ <;> (repeat' split) <;> simp

/-! ### ThermalCmds -/

@[simp] theorem State.throttleEvent_keeps (s : State) (k : Nat) (on : Bool) (l : List Int) :
    (State.throttleEvent s k on l).pending = s.pending ∧ (State.throttleEvent s k on l).otp = s.otp ∧ (State.throttleEvent s k on l).boardMem = s.boardMem ∧ (State.throttleEvent s k on l).planMem = s.planMem := by
  unfold State.throttleEvent
  refine ⟨?_, ?_, ?_, ?_⟩ <;> (repeat' split) <;> simp
@[simp] theorem State.enterThrottle_keeps (s : State) (l : List Int) :
    (State.enterThrottle s l).pending = s.pending ∧ (State.enterThrottle s l).otp = s.otp ∧ (State.enterThrottle s l).boardMem = s.boardMem ∧ (State.enterThrottle s l).planMem = s.planMem := by
  unfold State.enterThrottle
  refine ⟨?_, ?_, ?_, ?_⟩ <;> (repeat' split) <;> simp
@[simp] theorem State.leaveThrottle_keeps (s : State) (l : List Int) :
    (State.leaveThrottle s l).pending = s.pending ∧ (State.leaveThrottle s l).otp = s.otp ∧ (State.leaveThrottle s l).boardMem = s.boardMem ∧ (State.leaveThrottle s l).planMem = s.planMem := by
  unfold State.leaveThrottle
  refine ⟨?_, ?_, ?_, ?_⟩ <;> (repeat' split) <;> simp
@[simp] theorem State.enterShutdown_keeps (s : State) (l : List Int) :
    (State.enterShutdown s l).pending = s.pending ∧ (State.enterShutdown s l).otp = s.otp := by
  unfold State.enterShutdown
  refine ⟨?_, ?_⟩ <;> (repeat' split) <;> simp

/-! ### TimerCmds -/

@[simp] theorem State.tickIf_keeps (s : State) (n : Fin 16) (tgate : Nat) (p : State → Bool) :
    (State.tickIf s n tgate p).pending = s.pending ∧ (State.tickIf s n tgate p).otp = s.otp ∧ (State.tickIf s n tgate p).boardMem = s.boardMem ∧ (State.tickIf s n tgate p).planMem = s.planMem := by
  unfold State.tickIf
  refine ⟨?_, ?_, ?_, ?_⟩ <;> (repeat' split) <;> simp
@[simp] theorem State.inputEdge_keeps (s : State) (src : Nat) (rising : Bool) :
    (State.inputEdge s src rising).pending = s.pending ∧ (State.inputEdge s src rising).otp = s.otp ∧ (State.inputEdge s src rising).boardMem = s.boardMem ∧ (State.inputEdge s src rising).planMem = s.planMem := by
  unfold State.inputEdge
  refine ⟨?_, ?_, ?_, ?_⟩ <;> (repeat' split) <;> simp
@[simp] theorem State.closePair_keeps (s : State) (n : Fin 16) :
    (State.closePair s n).pending = s.pending ∧ (State.closePair s n).otp = s.otp ∧ (State.closePair s n).boardMem = s.boardMem ∧ (State.closePair s n).planMem = s.planMem := by
  unfold State.closePair
  refine ⟨?_, ?_, ?_, ?_⟩ <;> (repeat' split) <;> simp
@[simp] theorem writeTmrCmd_keeps (n : Fin 16) (w : Word) (s : State) :
    (writeTmrCmd n w s).pending = s.pending ∧ (writeTmrCmd n w s).otp = s.otp ∧ (writeTmrCmd n w s).boardMem = s.boardMem ∧ (writeTmrCmd n w s).planMem = s.planMem := by
  unfold writeTmrCmd
  refine ⟨?_, ?_, ?_, ?_⟩ <;> (repeat' split) <;> simp
@[simp] theorem State.timerCmd_keeps (s : State) (n : Fin 16) (w : Word) (b : Nat) :
    (State.timerCmd s n w b).pending = s.pending ∧ (State.timerCmd s n w b).otp = s.otp ∧ (State.timerCmd s n w b).boardMem = s.boardMem ∧ (State.timerCmd s n w b).planMem = s.planMem := by
  unfold State.timerCmd
  refine ⟨?_, ?_, ?_, ?_⟩ <;> (repeat' split) <;> simp
@[simp] theorem writeTmrHalf_keeps (addr : Nat) (w : Word) (s : State) :
    (writeTmrHalf addr w s).pending = s.pending ∧ (writeTmrHalf addr w s).otp = s.otp ∧ (writeTmrHalf addr w s).boardMem = s.boardMem ∧ (writeTmrHalf addr w s).planMem = s.planMem := by
  unfold writeTmrHalf
  refine ⟨?_, ?_, ?_, ?_⟩ <;> (repeat' split) <;> simp
@[simp] theorem State.readCntLo_keeps (s : State) (n : Fin 16) :
    (State.readCntLo s n).1.pending = s.pending ∧ (State.readCntLo s n).1.otp = s.otp ∧ (State.readCntLo s n).1.boardMem = s.boardMem ∧ (State.readCntLo s n).1.planMem = s.planMem := by
  unfold State.readCntLo
  refine ⟨?_, ?_, ?_, ?_⟩ <;> (repeat' split) <;> simp
@[simp] theorem State.readCntHi_keeps (s : State) (n : Fin 16) :
    (State.readCntHi s n).1.pending = s.pending ∧ (State.readCntHi s n).1.otp = s.otp ∧ (State.readCntHi s n).1.boardMem = s.boardMem ∧ (State.readCntHi s n).1.planMem = s.planMem := by
  unfold State.readCntHi
  refine ⟨?_, ?_, ?_, ?_⟩ <;> (repeat' split) <;> simp
@[simp] theorem State.readCaptLo_keeps (s : State) (n : Fin 16) :
    (State.readCaptLo s n).1.pending = s.pending ∧ (State.readCaptLo s n).1.otp = s.otp ∧ (State.readCaptLo s n).1.boardMem = s.boardMem ∧ (State.readCaptLo s n).1.planMem = s.planMem := by
  unfold State.readCaptLo
  refine ⟨?_, ?_, ?_, ?_⟩ <;> (repeat' split) <;> simp
@[simp] theorem State.readCaptHi_keeps (s : State) (n : Fin 16) :
    (State.readCaptHi s n).1.pending = s.pending ∧ (State.readCaptHi s n).1.otp = s.otp ∧ (State.readCaptHi s n).1.boardMem = s.boardMem ∧ (State.readCaptHi s n).1.planMem = s.planMem := by
  unfold State.readCaptHi
  refine ⟨?_, ?_, ?_, ?_⟩ <;> (repeat' split) <;> simp
@[simp] theorem State.coreRead_pending (s : State) (addr : Nat) (r : State × Nat) (h : r.1.pending = s.pending) :
    (s.coreRead addr r).pending = s.pending := by unfold State.coreRead; split <;> simp [h]
@[simp] theorem State.coreRead_otp (s : State) (addr : Nat) (r : State × Nat) (h : r.1.otp = s.otp) :
    (s.coreRead addr r).otp = s.otp := by unfold State.coreRead; split <;> simp [h]
@[simp] theorem State.coreRead_boardMem (s : State) (addr : Nat) (r : State × Nat) (h : r.1.boardMem = s.boardMem) :
    (s.coreRead addr r).boardMem = s.boardMem := by unfold State.coreRead; split <;> simp [h]
@[simp] theorem State.coreRead_planMem (s : State) (addr : Nat) (r : State × Nat) (h : r.1.planMem = s.planMem) :
    (s.coreRead addr r).planMem = s.planMem := by unfold State.coreRead; split <;> simp [h]

/-! ### RngCmds -/

@[simp] theorem State.rngWait_keeps (s : State) (t : Txn) :
    (State.rngWait s t).pending = s.pending ∧ (State.rngWait s t).otp = s.otp ∧ (State.rngWait s t).boardMem = s.boardMem ∧ (State.rngWait s t).planMem = s.planMem := by
  unfold State.rngWait
  refine ⟨?_, ?_, ?_, ?_⟩ <;> (repeat' split) <;> simp
@[simp] theorem State.rngReseed_keeps (s : State) (entropy : List Byte) :
    (State.rngReseed s entropy).pending = s.pending ∧ (State.rngReseed s entropy).otp = s.otp ∧ (State.rngReseed s entropy).boardMem = s.boardMem ∧ (State.rngReseed s entropy).planMem = s.planMem := by
  unfold State.rngReseed
  refine ⟨?_, ?_, ?_, ?_⟩ <;> (repeat' split) <;> simp
@[simp] theorem State.rngBytes_keeps (s : State) (n : Nat) (entropy : List Byte) :
    (State.rngBytes s n entropy).1.pending = s.pending ∧ (State.rngBytes s n entropy).1.otp = s.otp ∧ (State.rngBytes s n entropy).1.boardMem = s.boardMem ∧ (State.rngBytes s n entropy).1.planMem = s.planMem := by
  unfold State.rngBytes
  refine ⟨?_, ?_, ?_, ?_⟩ <;> (repeat' split) <;> simp
@[simp] theorem State.accDrawn_keeps (s : State) (r : AccRun) (range : Bool) (bytes : List Byte) :
    (State.accDrawn s r range bytes).pending = s.pending ∧ (State.accDrawn s r range bytes).otp = s.otp ∧ (State.accDrawn s r range bytes).boardMem = s.boardMem ∧ (State.accDrawn s r range bytes).planMem = s.planMem := by
  unfold State.accDrawn
  refine ⟨?_, ?_, ?_, ?_⟩ <;> (repeat' split) <;> simp
@[simp] theorem State.rngServe_keeps (s : State) (t : Txn) (entropy : List Byte) :
    (State.rngServe s t entropy).pending = s.pending ∧ (State.rngServe s t entropy).otp = s.otp ∧ (State.rngServe s t entropy).boardMem = s.boardMem ∧ (State.rngServe s t entropy).planMem = s.planMem := by
  unfold State.rngServe
  refine ⟨?_, ?_, ?_, ?_⟩ <;> (repeat' split) <;> simp
@[simp] theorem State.rngFail_keeps (s : State) (rct apt : Bool) :
    (State.rngFail s rct apt).pending = s.pending ∧ (State.rngFail s rct apt).otp = s.otp ∧ (State.rngFail s rct apt).boardMem = s.boardMem ∧ (State.rngFail s rct apt).planMem = s.planMem := by
  unfold State.rngFail
  dsimp only
  refine ⟨?_, ?_, ?_, ?_⟩ <;> (repeat' split) <;> (try simp) <;> (repeat' split) <;> (try simp)
@[simp] theorem writeRngCtl_keeps (w : Word) (s : State) :
    (writeRngCtl w s).pending = s.pending ∧ (writeRngCtl w s).otp = s.otp ∧ (writeRngCtl w s).boardMem = s.boardMem ∧ (writeRngCtl w s).planMem = s.planMem := by
  unfold writeRngCtl
  refine ⟨?_, ?_, ?_, ?_⟩ <;> (repeat' split) <;> simp

/-! ### TallyCmds -/

@[simp] theorem State.rearm_keeps (s : State) (n : Nat) :
    (State.rearm s n).pending = s.pending ∧ (State.rearm s n).otp = s.otp ∧ (State.rearm s n).boardMem = s.boardMem ∧ (State.rearm s n).planMem = s.planMem := by
  unfold State.rearm
  refine ⟨?_, ?_, ?_, ?_⟩ <;> (repeat' split) <;> simp
@[simp] theorem State.tallyDisable_keeps (s : State) (n : Nat) :
    (State.tallyDisable s n).pending = s.pending ∧ (State.tallyDisable s n).otp = s.otp ∧ (State.tallyDisable s n).boardMem = s.boardMem ∧ (State.tallyDisable s n).planMem = s.planMem := by
  unfold State.tallyDisable
  refine ⟨?_, ?_, ?_, ?_⟩ <;> (repeat' split) <;> simp
@[simp] theorem State.tallyBase_keeps (s : State) (n v : Nat) :
    (State.tallyBase s n v).pending = s.pending ∧ (State.tallyBase s n v).otp = s.otp ∧ (State.tallyBase s n v).boardMem = s.boardMem ∧ (State.tallyBase s n v).planMem = s.planMem := by
  unfold State.tallyBase
  refine ⟨?_, ?_, ?_, ?_⟩ <;> (repeat' split) <;> simp
@[simp] theorem State.tallyPending_keeps (s : State) :
    (State.tallyPending s).pending = s.pending ∧ (State.tallyPending s).otp = s.otp ∧ (State.tallyPending s).boardMem = s.boardMem ∧ (State.tallyPending s).planMem = s.planMem := by
  unfold State.tallyPending
  exact ⟨forAll_pending (fun a s => by (repeat' split) <;> simp) _ _,
    forAll_otp (fun a s => by (repeat' split) <;> simp) _ _,
    forAll_boardMem (fun a s => by (repeat' split) <;> simp) _ _,
    forAll_planMem (fun a s => by (repeat' split) <;> simp) _ _⟩
@[simp] theorem State.tallyLater_keeps (s : State) (n : Nat) (v : Option Nat) :
    (State.tallyLater s n v).pending = s.pending ∧ (State.tallyLater s n v).otp = s.otp ∧ (State.tallyLater s n v).boardMem = s.boardMem ∧ (State.tallyLater s n v).planMem = s.planMem := by
  unfold State.tallyLater
  refine ⟨?_, ?_, ?_, ?_⟩ <;> (repeat' split) <;> simp
@[simp] theorem State.tallyIdle_keeps (s : State) :
    (State.tallyIdle s).pending = s.pending ∧ (State.tallyIdle s).otp = s.otp ∧ (State.tallyIdle s).boardMem = s.boardMem ∧ (State.tallyIdle s).planMem = s.planMem := by
  unfold State.tallyIdle
  refine ⟨?_, ?_, ?_, ?_⟩ <;> (repeat' split) <;> simp
@[simp] theorem State.writeTallyCtl_keeps (s : State) (w : Word) :
    (State.writeTallyCtl s w).pending = s.pending ∧ (State.writeTallyCtl s w).otp = s.otp ∧ (State.writeTallyCtl s w).boardMem = s.boardMem ∧ (State.writeTallyCtl s w).planMem = s.planMem := by
  unfold State.writeTallyCtl
  refine ⟨?_, ?_, ?_, ?_⟩ <;> (repeat' split) <;> simp
@[simp] theorem State.writeTallyEn_keeps (s : State) (w : Word) :
    (State.writeTallyEn s w).pending = s.pending ∧ (State.writeTallyEn s w).otp = s.otp ∧ (State.writeTallyEn s w).boardMem = s.boardMem ∧ (State.writeTallyEn s w).planMem = s.planMem := by
  unfold State.writeTallyEn
  refine ⟨?_, ?_, ?_, ?_⟩ <;> (repeat' split) <;> simp
@[simp] theorem State.trackBase_keeps (s : State) (n t amp ph : Nat) :
    (State.trackBase s n t amp ph).pending = s.pending ∧ (State.trackBase s n t amp ph).otp = s.otp ∧ (State.trackBase s n t amp ph).boardMem = s.boardMem ∧ (State.trackBase s n t amp ph).planMem = s.planMem := by
  unfold State.trackBase
  refine ⟨?_, ?_, ?_, ?_⟩ <;> (repeat' split) <;> simp
@[simp] theorem State.tallyLast_keeps (s : State) (n amp ph cnt : Nat) (above : Bool) :
    (State.tallyLast s n amp ph cnt above).pending = s.pending ∧ (State.tallyLast s n amp ph cnt above).otp = s.otp ∧ (State.tallyLast s n amp ph cnt above).boardMem = s.boardMem ∧ (State.tallyLast s n amp ph cnt above).planMem = s.planMem := by
  unfold State.tallyLast
  refine ⟨?_, ?_, ?_, ?_⟩ <;> (repeat' split) <;> simp
@[simp] theorem State.setTallyCount_keeps (s : State) (n k : Nat) :
    (State.setTallyCount s n k).pending = s.pending ∧ (State.setTallyCount s n k).otp = s.otp ∧ (State.setTallyCount s n k).boardMem = s.boardMem ∧ (State.setTallyCount s n k).planMem = s.planMem := by
  unfold State.setTallyCount
  refine ⟨?_, ?_, ?_, ?_⟩ <;> (repeat' split) <;> simp
@[simp] theorem State.tallyConfirm_keeps (s : State) (q : TallySeq) (n : Nat) (dA dP : Int) :
    (State.tallyConfirm s q n dA dP).pending = s.pending ∧ (State.tallyConfirm s q n dA dP).otp = s.otp ∧ (State.tallyConfirm s q n dA dP).boardMem = s.boardMem ∧ (State.tallyConfirm s q n dA dP).planMem = s.planMem := by
  unfold State.tallyConfirm
  refine ⟨?_, ?_, ?_, ?_⟩ <;> (repeat' split) <;> simp
@[simp] theorem State.tallyEval_keeps (s : State) (q : TallySeq) (n amp ph : Nat) :
    (State.tallyEval s q n amp ph).pending = s.pending ∧ (State.tallyEval s q n amp ph).otp = s.otp ∧ (State.tallyEval s q n amp ph).boardMem = s.boardMem ∧ (State.tallyEval s q n amp ph).planMem = s.planMem := by
  unfold State.tallyEval
  refine ⟨?_, ?_, ?_, ?_⟩ <;> (repeat' split) <;> simp

/-! ### RegWrite -/

@[simp] theorem State.setField_keeps (s : State) (addr i : Nat) (f : FieldSpec) (v : Nat) :
    (State.setField s addr i f v).pending = s.pending ∧ (State.setField s addr i f v).otp = s.otp ∧ (State.setField s addr i f v).boardMem = s.boardMem ∧ (State.setField s addr i f v).planMem = s.planMem := by
  unfold State.setField
  refine ⟨?_, ?_, ?_, ?_⟩ <;> (repeat' split) <;> simp
@[simp] theorem State.writeField_keeps (s : State) (addr i v : Nat) (f : FieldSpec) :
    (State.writeField s addr i v f).pending = s.pending ∧ (State.writeField s addr i v f).otp = s.otp ∧ (State.writeField s addr i v f).boardMem = s.boardMem ∧ (State.writeField s addr i v f).planMem = s.planMem := by
  unfold State.writeField
  refine ⟨?_, ?_, ?_, ?_⟩ <;> (repeat' split) <;> simp
@[simp] theorem State.writeFields_keeps (s : State) (r : RegSpec) (addr : Nat) (w : Word) :
    (State.writeFields s r addr w).pending = s.pending ∧ (State.writeFields s r addr w).otp = s.otp ∧ (State.writeFields s r addr w).boardMem = s.boardMem ∧ (State.writeFields s r addr w).planMem = s.planMem := by
  unfold State.writeFields
  refine ⟨?_, ?_, ?_, ?_⟩ <;> (repeat' split) <;> simp
@[simp] theorem writePlain_keeps (addr : Nat) (w : Word) (s : State) :
    (writePlain addr w s).pending = s.pending ∧ (writePlain addr w s).otp = s.otp ∧ (writePlain addr w s).boardMem = s.boardMem ∧ (writePlain addr w s).planMem = s.planMem := by
  unfold writePlain
  refine ⟨?_, ?_, ?_, ?_⟩ <;> (repeat' split) <;> simp
@[simp] theorem writeMsixCtrl_keeps (addr : Nat) (w : Word) (s : State) :
    (writeMsixCtrl addr w s).pending = s.pending ∧ (writeMsixCtrl addr w s).otp = s.otp ∧ (writeMsixCtrl addr w s).boardMem = s.boardMem ∧ (writeMsixCtrl addr w s).planMem = s.planMem := by
  unfold writeMsixCtrl
  refine ⟨?_, ?_, ?_, ?_⟩ <;> (repeat' split) <;> simp
@[simp] theorem writeClkCfg_keeps (w : Word) (s : State) :
    (writeClkCfg w s).pending = s.pending ∧ (writeClkCfg w s).otp = s.otp ∧ (writeClkCfg w s).boardMem = s.boardMem ∧ (writeClkCfg w s).planMem = s.planMem := by
  unfold writeClkCfg
  refine ⟨?_, ?_, ?_, ?_⟩ <;> (repeat' split) <;> simp
@[simp] theorem writeRstSw_keeps (w : Word) (s : State) :
    (writeRstSw w s).pending = s.pending ∧ (writeRstSw w s).otp = s.otp := by
  unfold writeRstSw
  refine ⟨?_, ?_⟩ <;> (repeat' split) <;> simp
@[simp] theorem State.wdtRestart_keeps (s : State) :
    (State.wdtRestart s).pending = s.pending ∧ (State.wdtRestart s).otp = s.otp ∧ (State.wdtRestart s).boardMem = s.boardMem ∧ (State.wdtRestart s).planMem = s.planMem := by
  unfold State.wdtRestart
  refine ⟨?_, ?_, ?_, ?_⟩ <;> (repeat' split) <;> simp
@[simp] theorem writeWdtCfg_keeps (w : Word) (s : State) :
    (writeWdtCfg w s).pending = s.pending ∧ (writeWdtCfg w s).otp = s.otp ∧ (writeWdtCfg w s).boardMem = s.boardMem ∧ (writeWdtCfg w s).planMem = s.planMem := by
  unfold writeWdtCfg
  refine ⟨?_, ?_, ?_, ?_⟩ <;> (repeat' split) <;> simp
@[simp] theorem writeKick_keeps (w : Word) (s : State) :
    (writeKick w s).pending = s.pending ∧ (writeKick w s).otp = s.otp ∧ (writeKick w s).boardMem = s.boardMem ∧ (writeKick w s).planMem = s.planMem := by
  unfold writeKick
  refine ⟨?_, ?_, ?_, ?_⟩ <;> (repeat' split) <;> simp
@[simp] theorem writeRodTx_keeps (n : Nat) (w : Word) (s : State) :
    (writeRodTx n w s).pending = s.pending ∧ (writeRodTx n w s).otp = s.otp ∧ (writeRodTx n w s).boardMem = s.boardMem ∧ (writeRodTx n w s).planMem = s.planMem := by
  unfold writeRodTx
  refine ⟨?_, ?_, ?_, ?_⟩ <;> (repeat' split) <;> simp
@[simp] theorem writeTileSel_keeps (w : Word) (s : State) :
    (writeTileSel w s).pending = s.pending ∧ (writeTileSel w s).otp = s.otp ∧ (writeTileSel w s).boardMem = s.boardMem ∧ (writeTileSel w s).planMem = s.planMem := by
  unfold writeTileSel
  refine ⟨?_, ?_, ?_, ?_⟩ <;> (repeat' split) <;> simp
@[simp] theorem writeTileCtlFree_keeps (w : Word) (s : State) :
    (writeTileCtlFree w s).pending = s.pending ∧ (writeTileCtlFree w s).otp = s.otp ∧ (writeTileCtlFree w s).planMem = s.planMem := by
  unfold writeTileCtlFree
  try dsimp only
  refine ⟨?_, ?_, ?_⟩ <;> (repeat' split) <;>
    first
    | (simp; done)
    | (rename_i h; have k := congrArg Prod.fst h; simp only at k; subst k; simp)
@[simp] theorem writeBeamAddr_keeps (w : Word) (s : State) :
    (writeBeamAddr w s).pending = s.pending ∧ (writeBeamAddr w s).otp = s.otp ∧ (writeBeamAddr w s).boardMem = s.boardMem ∧ (writeBeamAddr w s).planMem = s.planMem := by
  unfold writeBeamAddr
  refine ⟨?_, ?_, ?_, ?_⟩ <;> (repeat' split) <;> simp
@[simp] theorem writeTileRel_keeps (w : Word) (s : State) :
    (writeTileRel w s).pending = s.pending ∧ (writeTileRel w s).otp = s.otp ∧ (writeTileRel w s).planMem = s.planMem := by
  unfold writeTileRel
  refine ⟨?_, ?_, ?_⟩ <;> (repeat' split) <;> simp
theorem hookIte {P : (Word → State → State) → Prop} {c : Prop} [Decidable c] {f : Word → State → State}
    {o : Option (Word → State → State)} (hf : P f) (ho : ∀ g, o = some g → P g) :
    ∀ g, (if c then some f else o) = some g → P g := by
  intro g h
  split at h
  · exact Option.some.inj h ▸ hf
  · exact ho g h
theorem hookHost_keeps {addr : Nat} {f : Word → State → State} (h : hookHost addr = some f) (w : Word) (s : State) :
    (f w s).pending = s.pending ∧ (f w s).otp = s.otp := by
  suffices H : ∀ f, hookHost addr = some f → (f w s).pending = s.pending ∧ (f w s).otp = s.otp from H f h
  unfold hookHost
  repeat' refine hookIte (P := fun f => (f w s).pending = s.pending ∧ (f w s).otp = s.otp) ?_ ?_
  any_goals (intro f h; cases h; done)
  all_goals first | (simp; done) | (split <;> simp)
theorem hookPwr_keeps {addr : Nat} {f : Word → State → State} (h : hookPwr addr = some f) (w : Word) (s : State) :
    (f w s).pending = s.pending ∧ (f w s).otp = s.otp := by
  suffices H : ∀ f, hookPwr addr = some f → (f w s).pending = s.pending ∧ (f w s).otp = s.otp from H f h
  unfold hookPwr
  repeat' refine hookIte (P := fun f => (f w s).pending = s.pending ∧ (f w s).otp = s.otp) ?_ ?_
  any_goals (intro f h; cases h; done)
  all_goals first | (simp; done) | (split <;> simp)
theorem hookRods_keeps {addr : Nat} {f : Word → State → State} (h : hookRods addr = some f) (w : Word) (s : State) :
    (f w s).pending = s.pending ∧ (f w s).otp = s.otp := by
  suffices H : ∀ f, hookRods addr = some f → (f w s).pending = s.pending ∧ (f w s).otp = s.otp from H f h
  unfold hookRods
  repeat' refine hookIte (P := fun f => (f w s).pending = s.pending ∧ (f w s).otp = s.otp) ?_ ?_
  any_goals (intro f h; cases h; done)
  all_goals first | (simp; done) | (split <;> simp)
theorem hookAccess_keeps {addr : Nat} {f : Word → State → State} (h : hookAccess addr = some f) (w : Word) (s : State) :
    (f w s).pending = s.pending ∧ (f w s).otp = s.otp := by
  suffices H : ∀ f, hookAccess addr = some f → (f w s).pending = s.pending ∧ (f w s).otp = s.otp from H f h
  unfold hookAccess
  repeat' refine hookIte (P := fun f => (f w s).pending = s.pending ∧ (f w s).otp = s.otp) ?_ ?_
  any_goals (intro f h; cases h; done)
  all_goals first | (simp; done) | (split <;> simp)
theorem hookStore_keeps {addr : Nat} {f : Word → State → State} (h : hookStore addr = some f) (w : Word) (s : State) :
    (f w s).pending = s.pending ∧ (f w s).otp = s.otp := by
  suffices H : ∀ f, hookStore addr = some f → (f w s).pending = s.pending ∧ (f w s).otp = s.otp from H f h
  unfold hookStore
  repeat' refine hookIte (P := fun f => (f w s).pending = s.pending ∧ (f w s).otp = s.otp) ?_ ?_
  any_goals (intro f h; cases h; done)
  all_goals first | (simp; done) | (split <;> simp)
theorem hookRest_keeps {addr : Nat} {f : Word → State → State} (h : hookRest addr = some f) (w : Word) (s : State) :
    (f w s).pending = s.pending ∧ (f w s).otp = s.otp := by
  suffices H : ∀ f, hookRest addr = some f → (f w s).pending = s.pending ∧ (f w s).otp = s.otp from H f h
  unfold hookRest
  repeat' refine hookIte (P := fun f => (f w s).pending = s.pending ∧ (f w s).otp = s.otp) ?_ ?_
  any_goals (intro f h; cases h; done)
  all_goals first | (simp; done) | (split <;> simp)
/-- Effects of register writes leave the queue and the OTP values. -/
theorem hookOf_keeps {addr : Nat} {f : Word → State → State} (h : hookOf addr = some f) (w : Word) (s : State) :
    (f w s).pending = s.pending ∧ (f w s).otp = s.otp := by
  unfold hookOf at h
  split at h
  · exact hookHost_keeps h w s
  · split at h
    · exact hookPwr_keeps h w s
    · split at h
      · exact hookRods_keeps h w s
      · split at h
        · exact hookAccess_keeps h w s
        · split at h
          · exact hookStore_keeps h w s
          · exact hookRest_keeps h w s
@[simp] theorem writeReg_keeps (addr : Nat) (w : Word) (s : State) :
    (writeReg addr w s).pending = s.pending ∧ (writeReg addr w s).otp = s.otp := by
  unfold writeReg
  split
  · simp
  · split
    · rename_i f h; exact hookOf_keeps h w s
    · simp
@[simp] theorem State.regWrite_keeps (s : State) (addr : Nat) (w : Word) (beam : Bool) :
    (State.regWrite s addr w beam).pending = s.pending ∧ (State.regWrite s addr w beam).otp = s.otp := by
  unfold State.regWrite
  refine ⟨?_, ?_⟩ <;> (repeat' split) <;> simp
@[simp] theorem State.bar0Write_keeps (s : State) (addr : Nat) (w : Word) (hi : Option Word) :
    (State.bar0Write s addr w hi).pending = s.pending ∧ (State.bar0Write s addr w hi).otp = s.otp := by
  unfold State.bar0Write
  refine ⟨?_, ?_⟩ <;> (repeat' split) <;> simp

/-! ### RegRead -/

@[simp] theorem State.readTb_keeps (s : State) (hi : Bool) :
    (State.readTb s hi).1.pending = s.pending ∧ (State.readTb s hi).1.otp = s.otp ∧ (State.readTb s hi).1.boardMem = s.boardMem ∧ (State.readTb s hi).1.planMem = s.planMem := by
  unfold State.readTb
  refine ⟨?_, ?_, ?_, ?_⟩ <;> (repeat' split) <;> simp
@[simp] theorem State.readReg_keeps (s : State) (addr : Nat) :
    (State.readReg s addr).1.pending = s.pending ∧ (State.readReg s addr).1.otp = s.otp ∧ (State.readReg s addr).1.boardMem = s.boardMem ∧ (State.readReg s addr).1.planMem = s.planMem := by
  unfold State.readReg
  refine ⟨?_, ?_, ?_, ?_⟩ <;> (repeat' split) <;> simp
@[simp] theorem State.beamRegRead_keeps (s : State) (addr : Nat) :
    (State.beamRegRead s addr).1.pending = s.pending ∧ (State.beamRegRead s addr).1.otp = s.otp ∧ (State.beamRegRead s addr).1.boardMem = s.boardMem ∧ (State.beamRegRead s addr).1.planMem = s.planMem := by
  unfold State.beamRegRead
  refine ⟨?_, ?_, ?_, ?_⟩ <;> (repeat' split) <;> simp
@[simp] theorem State.beamRegWrite_keeps (s : State) (addr : Nat) (w : Word) :
    (State.beamRegWrite s addr w).pending = s.pending ∧ (State.beamRegWrite s addr w).otp = s.otp := by
  unfold State.beamRegWrite
  refine ⟨?_, ?_⟩ <;> (repeat' split) <;> simp
@[simp] theorem State.hostRegRead_keeps (s : State) (addr : Nat) :
    (State.hostRegRead s addr).1.pending = s.pending ∧ (State.hostRegRead s addr).1.otp = s.otp ∧ (State.hostRegRead s addr).1.boardMem = s.boardMem ∧ (State.hostRegRead s addr).1.planMem = s.planMem := by
  unfold State.hostRegRead
  refine ⟨?_, ?_, ?_, ?_⟩ <;> (repeat' split) <;> simp
@[simp] theorem State.bar0Read_keeps (s : State) (addr : Nat) (wide : Bool) :
    (State.bar0Read s addr wide).1.pending = s.pending ∧ (State.bar0Read s addr wide).1.otp = s.otp ∧ (State.bar0Read s addr wide).1.boardMem = s.boardMem ∧ (State.bar0Read s addr wide).1.planMem = s.planMem := by
  unfold State.bar0Read
  refine ⟨?_, ?_, ?_, ?_⟩ <;> (repeat' split) <;> simp

/-! ### PwrCmds -/

@[simp] theorem State.attemptPower_keeps (s : State) (sp : SetPower) (t : Txn) :
    (State.attemptPower s sp t).pending = s.pending ∧ (State.attemptPower s sp t).otp = s.otp ∧ (State.attemptPower s sp t).boardMem = s.boardMem ∧ (State.attemptPower s sp t).planMem = s.planMem := by
  unfold State.attemptPower
  refine ⟨?_, ?_, ?_, ?_⟩ <;> (repeat' split) <;> simp
@[simp] theorem State.wakeTimerDone_keeps (s : State) :
    (State.wakeTimerDone s).pending = s.pending ∧ (State.wakeTimerDone s).otp = s.otp ∧ (State.wakeTimerDone s).boardMem = s.boardMem ∧ (State.wakeTimerDone s).planMem = s.planMem := by
  unfold State.wakeTimerDone
  refine ⟨?_, ?_, ?_, ?_⟩ <;> (repeat' split) <;> simp

/-! ### Startup -/

@[simp] theorem State.goStep_keeps (s : State) (k : Nat) :
    (State.goStep s k).pending = s.pending ∧ (State.goStep s k).otp = s.otp ∧ (State.goStep s k).boardMem = s.boardMem ∧ (State.goStep s k).planMem = s.planMem := by
  unfold State.goStep
  refine ⟨?_, ?_, ?_, ?_⟩ <;> (repeat' split) <;> simp
@[simp] theorem State.beginWake_keeps (s : State) (ds : List Domain) :
    (State.beginWake s ds).pending = s.pending ∧ (State.beginWake s ds).otp = s.otp ∧ (State.beginWake s ds).boardMem = s.boardMem ∧ (State.beginWake s ds).planMem = s.planMem := by
  unfold State.beginWake
  refine ⟨?_, ?_, ?_, ?_⟩ <;> (repeat' split) <;> simp
@[simp] theorem State.wakeOver_keeps (s : State) (ds : List Domain) :
    (State.wakeOver s ds).pending = s.pending ∧ (State.wakeOver s ds).otp = s.otp ∧ (State.wakeOver s ds).planMem = s.planMem := by
  unfold State.wakeOver
  refine ⟨?_, ?_, ?_⟩ <;> (repeat' split) <;> simp
@[simp] theorem State.haltStartup_keeps (s : State) :
    (State.haltStartup s).pending = s.pending ∧ (State.haltStartup s).otp = s.otp := by
  unfold State.haltStartup
  refine ⟨?_, ?_⟩ <;> (repeat' split) <;> simp
@[simp] theorem State.otpLoaded_keeps (s : State) (o : Otp) :
    (State.otpLoaded s o).pending = s.pending ∧ (State.otpLoaded s o).boardMem = s.boardMem ∧ (State.otpLoaded s o).planMem = s.planMem := by
  unfold State.otpLoaded
  refine ⟨?_, ?_, ?_⟩ <;> (repeat' split) <;> simp
@[simp] theorem State.afterOtp_keeps (s : State) :
    (State.afterOtp s).pending = s.pending ∧ (State.afterOtp s).otp = s.otp := by
  unfold State.afterOtp
  refine ⟨?_, ?_⟩ <;> (repeat' split) <;> simp
@[simp] theorem State.bootOff_keeps (s : State) :
    (State.bootOff s).pending = s.pending ∧ (State.bootOff s).otp = s.otp := by
  unfold State.bootOff
  refine ⟨?_, ?_⟩ <;> (repeat' split) <;> simp
@[simp] theorem State.bootTest_keeps (s : State) (inp : StartInput) :
    (State.bootTest s inp).pending = s.pending ∧ (State.bootTest s inp).otp = s.otp := by
  unfold State.bootTest
  refine ⟨?_, ?_⟩ <;> (repeat' split) <;> simp
@[simp] theorem State.otpStep_keeps (s : State) (inp : StartInput) :
    (State.otpStep s inp).pending = s.pending := by
  unfold State.otpStep
  dsimp only
  (repeat' split) <;> (try simp) <;> (repeat' split) <;> (try simp)
@[simp] theorem State.headerRead_keeps (s : State) (b : List Byte) :
    (State.headerRead s b).pending = s.pending ∧ (State.headerRead s b).otp = s.otp ∧ (State.headerRead s b).boardMem = s.boardMem ∧ (State.headerRead s b).planMem = s.planMem := by
  unfold State.headerRead
  refine ⟨?_, ?_, ?_, ?_⟩ <;> (repeat' split) <;> simp
@[simp] theorem State.imageTileRead_keeps (s : State) (e : Nat × Nat × Word) (bytes : List Byte) :
    (State.imageTileRead s e bytes).pending = s.pending ∧ (State.imageTileRead s e bytes).otp = s.otp ∧ (State.imageTileRead s e bytes).boardMem = s.boardMem := by
  unfold State.imageTileRead
  try dsimp only
  refine ⟨?_, ?_, ?_⟩ <;> (repeat' split) <;>
    first
    | (simp; done)
    | (rename_i h; have k := congrArg Prod.fst h; simp only at k; subst k; simp)
@[simp] theorem State.startupDone_keeps (s : State) :
    (State.startupDone s).pending = s.pending ∧ (State.startupDone s).otp = s.otp ∧ (State.startupDone s).boardMem = s.boardMem ∧ (State.startupDone s).planMem = s.planMem := by
  unfold State.startupDone
  refine ⟨?_, ?_, ?_, ?_⟩ <;> (repeat' split) <;> simp
@[simp] theorem State.applyRegs_keeps  (k0 : Nat) (s : State) :
    (State.applyRegs k0 s).pending = s.pending ∧ (State.applyRegs k0 s).otp = s.otp := by
  induction k0 generalizing s with
  | zero => simp [State.applyRegs]
  | succ k ih =>
    unfold State.applyRegs
    refine ⟨?_, ?_⟩ <;> (repeat' split) <;> simp [ih]
@[simp] theorem State.sfdpRead_keeps (s : State) (b : List Byte) :
    (State.sfdpRead s b).pending = s.pending ∧ (State.sfdpRead s b).otp = s.otp ∧ (State.sfdpRead s b).boardMem = s.boardMem ∧ (State.sfdpRead s b).planMem = s.planMem := by
  unfold State.sfdpRead
  refine ⟨?_, ?_, ?_, ?_⟩ <;> (repeat' split) <;> simp
@[simp] theorem State.advanceStep_keeps (s : State) (inp : StartInput) :
    (State.advanceStep s inp).pending = s.pending := by
  unfold State.advanceStep
  (repeat' split) <;> simp

/-! ### DescChecks -/

@[simp] theorem State.noteProfile_keeps (s : State) (u : Nat) (d : Desc) :
    (State.noteProfile s u d).pending = s.pending ∧ (State.noteProfile s u d).otp = s.otp ∧ (State.noteProfile s u d).boardMem = s.boardMem ∧ (State.noteProfile s u d).planMem = s.planMem := by
  unfold State.noteProfile
  refine ⟨?_, ?_, ?_, ?_⟩ <;> (repeat' split) <;> simp

/-! ### Scheduler -/

@[simp] theorem State.addTxn_keeps (s : State) (unit : Nat) (sq : Option Nat) (d : Desc) (ph : TxPhase) (data : List Byte) :
    (State.addTxn s unit sq d ph data).pending = s.pending ∧ (State.addTxn s unit sq d ph data).otp = s.otp ∧ (State.addTxn s unit sq d ph data).boardMem = s.boardMem ∧ (State.addTxn s unit sq d ph data).planMem = s.planMem := by
  unfold State.addTxn
  refine ⟨?_, ?_, ?_, ?_⟩ <;> (repeat' split) <;> simp
@[simp] theorem State.fetchDesc_keeps (s : State) (q : Fin 32) (d : Desc) (ph : TxPhase) :
    (State.fetchDesc s q d ph).pending = s.pending ∧ (State.fetchDesc s q d ph).otp = s.otp ∧ (State.fetchDesc s q d ph).boardMem = s.boardMem ∧ (State.fetchDesc s q d ph).planMem = s.planMem := by
  unfold State.fetchDesc
  refine ⟨?_, ?_, ?_, ?_⟩ <;> (repeat' split) <;> simp
@[simp] theorem State.atDispatch_keeps (s : State) (t : Txn) :
    (State.atDispatch s t).pending = s.pending ∧ (State.atDispatch s t).otp = s.otp ∧ (State.atDispatch s t).boardMem = s.boardMem ∧ (State.atDispatch s t).planMem = s.planMem := by
  unfold State.atDispatch
  refine ⟨?_, ?_, ?_, ?_⟩ <;> (repeat' split) <;> simp
@[simp] theorem State.dispatchTxn_keeps (s : State) (t : Txn) (k : SlotKind) :
    (State.dispatchTxn s t k).pending = s.pending ∧ (State.dispatchTxn s t k).otp = s.otp ∧ (State.dispatchTxn s t k).boardMem = s.boardMem ∧ (State.dispatchTxn s t k).planMem = s.planMem := by
  unfold State.dispatchTxn
  refine ⟨?_, ?_, ?_, ?_⟩ <;> (repeat' split) <;> simp
@[simp] theorem State.dataFailed_keeps (s : State) (t : Txn) :
    (State.dataFailed s t).pending = s.pending ∧ (State.dataFailed s t).otp = s.otp ∧ (State.dataFailed s t).boardMem = s.boardMem ∧ (State.dataFailed s t).planMem = s.planMem := by
  unfold State.dataFailed
  refine ⟨?_, ?_, ?_, ?_⟩ <;> (repeat' split) <;> simp
@[simp] theorem State.carryOut_pending (s : State) (q : Fin 32) (op : Nat) (d : Desc) (act : Txn → State → State) (hact : ∀ a0 a1, (act a0 a1).pending = a1.pending) :
    (State.carryOut s q op d act).pending = s.pending := by
  unfold State.carryOut
  (repeat' split) <;> (try simp [hact]) <;> (repeat' split) <;> (try simp [hact])
@[simp] theorem State.carryOut_otp (s : State) (q : Fin 32) (op : Nat) (d : Desc) (act : Txn → State → State) (hact : ∀ a0 a1, (act a0 a1).otp = a1.otp) :
    (State.carryOut s q op d act).otp = s.otp := by
  unfold State.carryOut
  (repeat' split) <;> (try simp [hact]) <;> (repeat' split) <;> (try simp [hact])
@[simp] theorem State.carryOut_boardMem (s : State) (q : Fin 32) (op : Nat) (d : Desc) (act : Txn → State → State) (hact : ∀ a0 a1, (act a0 a1).boardMem = a1.boardMem) :
    (State.carryOut s q op d act).boardMem = s.boardMem := by
  unfold State.carryOut
  (repeat' split) <;> (try simp [hact]) <;> (repeat' split) <;> (try simp [hact])
@[simp] theorem State.carryOut_planMem (s : State) (q : Fin 32) (op : Nat) (d : Desc) (act : Txn → State → State) (hact : ∀ a0 a1, (act a0 a1).planMem = a1.planMem) :
    (State.carryOut s q op d act).planMem = s.planMem := by
  unfold State.carryOut
  (repeat' split) <;> (try simp [hact]) <;> (repeat' split) <;> (try simp [hact])

/-! ### BeamCmds -/

@[simp] theorem State.beamBadCrc_keeps (s : State) :
    (State.beamBadCrc s).pending = s.pending ∧ (State.beamBadCrc s).otp = s.otp ∧ (State.beamBadCrc s).boardMem = s.boardMem ∧ (State.beamBadCrc s).planMem = s.planMem := by
  unfold State.beamBadCrc
  refine ⟨?_, ?_, ?_, ?_⟩ <;> (repeat' split) <;> simp
@[simp] theorem State.beamBegin_pending (s : State) (op : Nat) (f : Txn → State → State) (hf : ∀ a0 a1, (f a0 a1).pending = a1.pending) :
    (State.beamBegin s op f).pending = s.pending := by
  unfold State.beamBegin
  (repeat' split) <;> (try simp [hf]) <;> (repeat' split) <;> (try simp [hf])
@[simp] theorem State.beamBegin_otp (s : State) (op : Nat) (f : Txn → State → State) (hf : ∀ a0 a1, (f a0 a1).otp = a1.otp) :
    (State.beamBegin s op f).otp = s.otp := by
  unfold State.beamBegin
  (repeat' split) <;> (try simp [hf]) <;> (repeat' split) <;> (try simp [hf])
@[simp] theorem State.beamBegin_boardMem (s : State) (op : Nat) (f : Txn → State → State) (hf : ∀ a0 a1, (f a0 a1).boardMem = a1.boardMem) :
    (State.beamBegin s op f).boardMem = s.boardMem := by
  unfold State.beamBegin
  (repeat' split) <;> (try simp [hf]) <;> (repeat' split) <;> (try simp [hf])
@[simp] theorem State.beamBegin_planMem (s : State) (op : Nat) (f : Txn → State → State) (hf : ∀ a0 a1, (f a0 a1).planMem = a1.planMem) :
    (State.beamBegin s op f).planMem = s.planMem := by
  unfold State.beamBegin
  (repeat' split) <;> (try simp [hf]) <;> (repeat' split) <;> (try simp [hf])
@[simp] theorem State.beamSend_keeps (s : State) (frame : List Byte) :
    (State.beamSend s frame).pending = s.pending ∧ (State.beamSend s frame).otp = s.otp ∧ (State.beamSend s frame).boardMem = s.boardMem ∧ (State.beamSend s frame).planMem = s.planMem := by
  unfold State.beamSend
  refine ⟨?_, ?_, ?_, ?_⟩ <;> (repeat' split) <;> simp
@[simp] theorem State.beamAsk_keeps (s : State) (t : Txn) (frame : List Byte) :
    (State.beamAsk s t frame).pending = s.pending ∧ (State.beamAsk s t frame).otp = s.otp ∧ (State.beamAsk s t frame).boardMem = s.boardMem ∧ (State.beamAsk s t frame).planMem = s.planMem := by
  unfold State.beamAsk
  refine ⟨?_, ?_, ?_, ?_⟩ <;> (repeat' split) <;> simp
@[simp] theorem State.claimCall_keeps (s : State) (a : Nat) (data : List Byte) (txn : Option Nat) :
    (State.claimCall s a data txn).pending = s.pending ∧ (State.claimCall s a data txn).otp = s.otp ∧ (State.claimCall s a data txn).boardMem = s.boardMem ∧ (State.claimCall s a data txn).planMem = s.planMem := by
  unfold State.claimCall
  refine ⟨?_, ?_, ?_, ?_⟩ <;> (repeat' split) <;> simp
@[simp] theorem State.beamOver_keeps (s : State) (id : Nat) (st : Status) :
    (State.beamOver s id st).pending = s.pending ∧ (State.beamOver s id st).otp = s.otp ∧ (State.beamOver s id st).boardMem = s.boardMem ∧ (State.beamOver s id st).planMem = s.planMem := by
  unfold State.beamOver
  refine ⟨?_, ?_, ?_, ?_⟩ <;> (repeat' split) <;> simp
@[simp] theorem State.beamRetry_keeps (s : State) (r : BeamRun) (st : Status) :
    (State.beamRetry s r st).pending = s.pending ∧ (State.beamRetry s r st).otp = s.otp ∧ (State.beamRetry s r st).boardMem = s.boardMem ∧ (State.beamRetry s r st).planMem = s.planMem := by
  unfold State.beamRetry
  refine ⟨?_, ?_, ?_, ?_⟩ <;> (repeat' split) <;> simp
@[simp] theorem State.beamAnswered_keeps (s : State) (r : BeamRun) (resp : List Byte) :
    (State.beamAnswered s r resp).pending = s.pending ∧ (State.beamAnswered s r resp).otp = s.otp ∧ (State.beamAnswered s r resp).boardMem = s.boardMem ∧ (State.beamAnswered s r resp).planMem = s.planMem := by
  unfold State.beamAnswered
  refine ⟨?_, ?_, ?_, ?_⟩ <;> (repeat' split) <;> simp
@[simp] theorem State.mapBeam_keeps (s : State) (a : Nat) :
    (State.mapBeam s a).pending = s.pending ∧ (State.mapBeam s a).otp = s.otp ∧ (State.mapBeam s a).boardMem = s.boardMem ∧ (State.mapBeam s a).planMem = s.planMem := by
  unfold State.mapBeam
  refine ⟨?_, ?_, ?_, ?_⟩ <;> (repeat' split) <;> simp
@[simp] theorem State.overrun_keeps (s : State) (b : List Byte) :
    (State.overrun s b).1.pending = s.pending ∧ (State.overrun s b).1.otp = s.otp ∧ (State.overrun s b).1.boardMem = s.boardMem ∧ (State.overrun s b).1.planMem = s.planMem := by
  unfold State.overrun
  refine ⟨?_, ?_, ?_, ?_⟩ <;> (repeat' split) <;> simp
@[simp] theorem State.beamReadWord_keeps (s : State) (space a : Nat) :
    (State.beamReadWord s space a).1.pending = s.pending ∧ (State.beamReadWord s space a).1.otp = s.otp ∧ (State.beamReadWord s space a).1.boardMem = s.boardMem ∧ (State.beamReadWord s space a).1.planMem = s.planMem := by
  unfold State.beamReadWord
  refine ⟨?_, ?_, ?_, ?_⟩ <;> (repeat' split) <;> simp
@[simp] theorem State.beamReadWords_keeps (b : List Byte) (k i : Nat) (s : State) :
    (State.beamReadWords b k i s).1.pending = s.pending ∧ (State.beamReadWords b k i s).1.otp = s.otp ∧
      (State.beamReadWords b k i s).1.boardMem = s.boardMem ∧ (State.beamReadWords b k i s).1.planMem = s.planMem := by
  induction k generalizing s i with
  | zero => simp [State.beamReadWords]
  | succ k ih =>
    unfold State.beamReadWords
    simp only [ih]
    split <;> simp
@[simp] theorem State.beamReading_keeps (s : State) (b : List Byte) :
    (State.beamReading s b).1.pending = s.pending ∧ (State.beamReading s b).1.otp = s.otp ∧ (State.beamReading s b).1.boardMem = s.boardMem ∧ (State.beamReading s b).1.planMem = s.planMem := by
  unfold State.beamReading
  refine ⟨?_, ?_, ?_, ?_⟩ <;> (repeat' split) <;> simp
@[simp] theorem State.beamWriteWord_keeps (s : State) (space a w : Nat) :
    (State.beamWriteWord s space a w).pending = s.pending ∧ (State.beamWriteWord s space a w).otp = s.otp := by
  unfold State.beamWriteWord
  refine ⟨?_, ?_⟩ <;> (repeat' split) <;> simp
@[simp] theorem State.beamWriting_keeps (s : State) (b : List Byte) :
    (State.beamWriting s b).1.pending = s.pending ∧ (State.beamWriting s b).1.otp = s.otp := by
  unfold State.beamWriting
  refine ⟨?_, ?_⟩ <;> (repeat' split) <;> simp
theorem State.beamServe_keep {β : Type} (g : State → β) (h1 : ∀ s f i k, g (State.count s f i k) = g s)
    (h2 : ∀ s o, g (State.emitOut s o) = g s) (h3 : ∀ s f, g (State.modBeam s f) = g s)
    (h4 : ∀ s f i v, g (State.wr s f i v) = g s) (h5 : ∀ s, g (State.releaseRequest s) = g s)
    (h6 : ∀ s f, g (State.modPwr s f) = g s) (s : State) (b : List Byte) (op : Nat)
    (act : State → State × Nat × List Byte) (h : ∀ s, g (act s).1 = g s) : g (s.beamServe b op act) = g s := by
  unfold State.beamServe
  split
  · rfl
  · dsimp only
    split
    · rw [h2, h1]
    · split
      · rw [h5, h2, h3, h4, h, h6, h1]
      · rw [h5, h, h6, h1]
@[simp] theorem State.beamServe_pending (s : State) (b : List Byte) (op : Nat) (act : State → State × Nat × List Byte)
    (h : ∀ s, (act s).1.pending = s.pending) : (s.beamServe b op act).pending = s.pending :=
  State.beamServe_keep State.pending (by simp) (by simp) (by simp) (by simp) (by simp) (by simp) s b op act h
@[simp] theorem State.beamServe_otp (s : State) (b : List Byte) (op : Nat) (act : State → State × Nat × List Byte)
    (h : ∀ s, (act s).1.otp = s.otp) : (s.beamServe b op act).otp = s.otp :=
  State.beamServe_keep State.otp (by simp) (by simp) (by simp) (by simp) (by simp) (by simp) s b op act h
@[simp] theorem State.beamServe_boardMem (s : State) (b : List Byte) (op : Nat) (act : State → State × Nat × List Byte)
    (h : ∀ s, (act s).1.boardMem = s.boardMem) : (s.beamServe b op act).boardMem = s.boardMem :=
  State.beamServe_keep State.boardMem (by simp) (by simp) (by simp) (by simp) (by simp) (by simp) s b op act h
@[simp] theorem State.beamServe_planMem (s : State) (b : List Byte) (op : Nat) (act : State → State × Nat × List Byte)
    (h : ∀ s, (act s).1.planMem = s.planMem) : (s.beamServe b op act).planMem = s.planMem :=
  State.beamServe_keep State.planMem (by simp) (by simp) (by simp) (by simp) (by simp) (by simp) s b op act h
@[simp] theorem State.beamHeard_pending (s : State) (b : List Byte) (f : State → State) (hf : ∀ a0, (f a0).pending = a0.pending) :
    (State.beamHeard s b f).pending = s.pending := by
  unfold State.beamHeard
  (repeat' split) <;> (try simp [hf]) <;> (repeat' split) <;> (try simp [hf])
@[simp] theorem State.beamHeard_otp (s : State) (b : List Byte) (f : State → State) (hf : ∀ a0, (f a0).otp = a0.otp) :
    (State.beamHeard s b f).otp = s.otp := by
  unfold State.beamHeard
  (repeat' split) <;> (try simp [hf]) <;> (repeat' split) <;> (try simp [hf])
@[simp] theorem State.beamHeard_boardMem (s : State) (b : List Byte) (f : State → State) (hf : ∀ a0, (f a0).boardMem = a0.boardMem) :
    (State.beamHeard s b f).boardMem = s.boardMem := by
  unfold State.beamHeard
  (repeat' split) <;> (try simp [hf]) <;> (repeat' split) <;> (try simp [hf])
@[simp] theorem State.beamHeard_planMem (s : State) (b : List Byte) (f : State → State) (hf : ∀ a0, (f a0).planMem = a0.planMem) :
    (State.beamHeard s b f).planMem = s.planMem := by
  unfold State.beamHeard
  (repeat' split) <;> (try simp [hf]) <;> (repeat' split) <;> (try simp [hf])
@[simp] theorem State.beamPlace_keeps (s : State) (n : Fin 24) (d : Desc) (tseq : Nat) :
    (State.beamPlace s n d tseq).pending = s.pending ∧ (State.beamPlace s n d tseq).otp = s.otp ∧ (State.beamPlace s n d tseq).boardMem = s.boardMem ∧ (State.beamPlace s n d tseq).planMem = s.planMem := by
  unfold State.beamPlace
  dsimp only
  refine ⟨?_, ?_, ?_, ?_⟩ <;> (repeat' split) <;> (try simp) <;> (repeat' split) <;> (try simp)
@[simp] theorem State.beamCommand_keeps (s : State) (b : List Byte) (cnt : Nat) (ok : Bool) (d : Desc) :
    (State.beamCommand s b cnt ok d).1.pending = s.pending ∧ (State.beamCommand s b cnt ok d).1.otp = s.otp ∧ (State.beamCommand s b cnt ok d).1.boardMem = s.boardMem ∧ (State.beamCommand s b cnt ok d).1.planMem = s.planMem := by
  unfold State.beamCommand
  refine ⟨?_, ?_, ?_, ?_⟩ <;> (repeat' split) <;> simp

/-! ### LinkCmds -/

@[simp] theorem State.channelFault_keeps (s : State) (n : Nat) (sp : LfSpan) (oc : Bool) :
    (s.channelFault n sp oc).pending = s.pending ∧ (s.channelFault n sp oc).otp = s.otp ∧
      (s.channelFault n sp oc).boardMem = s.boardMem ∧ (s.channelFault n sp oc).planMem = s.planMem := by
  unfold State.channelFault
  dsimp only
  generalize (match (s.lfSpan n (s.lfTp n) (s.lfFrozen n) sp).link.frame,
      (s.lfSpan n (s.lfTp n) (s.lfFrozen n) sp).link.last with
    | some x, _ => x.chan == n
    | none, some x => x.tp && x.chan == n
    | none, none => false : Bool) = own
  split <;> simp
@[simp] theorem State.withSpan_pending (s : State) (n : Nat) (sp : LfSpan) (go : State → State) (hgo : ∀ a0, (go a0).pending = a0.pending) :
    (State.withSpan s n sp go).pending = s.pending := by
  unfold State.withSpan
  (repeat' split) <;> (try simp [hgo]) <;> (repeat' split) <;> (try simp [hgo])
@[simp] theorem State.withSpan_otp (s : State) (n : Nat) (sp : LfSpan) (go : State → State) (hgo : ∀ a0, (go a0).otp = a0.otp) :
    (State.withSpan s n sp go).otp = s.otp := by
  unfold State.withSpan
  (repeat' split) <;> (try simp [hgo]) <;> (repeat' split) <;> (try simp [hgo])
@[simp] theorem State.withSpan_boardMem (s : State) (n : Nat) (sp : LfSpan) (go : State → State) (hgo : ∀ a0, (go a0).boardMem = a0.boardMem) :
    (State.withSpan s n sp go).boardMem = s.boardMem := by
  unfold State.withSpan
  (repeat' split) <;> (try simp [hgo]) <;> (repeat' split) <;> (try simp [hgo])
@[simp] theorem State.withSpan_planMem (s : State) (n : Nat) (sp : LfSpan) (go : State → State) (hgo : ∀ a0, (go a0).planMem = a0.planMem) :
    (State.withSpan s n sp go).planMem = s.planMem := by
  unfold State.withSpan
  (repeat' split) <;> (try simp [hgo]) <;> (repeat' split) <;> (try simp [hgo])
@[simp] theorem State.setListen_keeps (s : State) (l : ListenState) :
    (State.setListen s l).pending = s.pending ∧ (State.setListen s l).otp = s.otp ∧ (State.setListen s l).boardMem = s.boardMem ∧ (State.setListen s l).planMem = s.planMem := by
  unfold State.setListen
  refine ⟨?_, ?_, ?_, ?_⟩ <;> (repeat' split) <;> simp
@[simp] theorem State.uhfGroup_keeps (s : State) (t : Txn) :
    (State.uhfGroup s t).pending = s.pending ∧ (State.uhfGroup s t).otp = s.otp ∧ (State.uhfGroup s t).boardMem = s.boardMem ∧ (State.uhfGroup s t).planMem = s.planMem := by
  unfold State.uhfGroup
  refine ⟨?_, ?_, ?_, ?_⟩ <;> (repeat' split) <;> simp
@[simp] theorem State.rxSync_keeps (s : State) (w : Word) :
    (State.rxSync s w).pending = s.pending ∧ (State.rxSync s w).otp = s.otp ∧ (State.rxSync s w).boardMem = s.boardMem ∧ (State.rxSync s w).planMem = s.planMem := by
  unfold State.rxSync
  refine ⟨?_, ?_, ?_, ?_⟩ <;> (repeat' split) <;> simp
@[simp] theorem State.slotDecided_keeps (s : State) (x : DownFrame) (k energy : Nat) (c : SlotRun) (last : Bool) :
    (State.slotDecided s x k energy c last).pending = s.pending ∧ (State.slotDecided s x k energy c last).otp = s.otp ∧ (State.slotDecided s x k energy c last).boardMem = s.boardMem ∧ (State.slotDecided s x k energy c last).planMem = s.planMem := by
  unfold State.slotDecided
  refine ⟨?_, ?_, ?_, ?_⟩ <;> (repeat' split) <;> simp
@[simp] theorem State.tpDone_keeps (s : State) (x : DownFrame) (o : LinkOutcome) (body : List Byte) :
    (State.tpDone s x o body).pending = s.pending ∧ (State.tpDone s x o body).otp = s.otp ∧ (State.tpDone s x o body).boardMem = s.boardMem ∧ (State.tpDone s x o body).planMem = s.planMem := by
  unfold State.tpDone
  refine ⟨?_, ?_, ?_, ?_⟩ <;> (repeat' split) <;> simp

/-! ### Tick -/

@[simp] theorem State.tickBase_keeps (s : State) :
    (State.tickBase s).pending = s.pending ∧ (State.tickBase s).otp = s.otp ∧ (State.tickBase s).boardMem = s.boardMem ∧ (State.tickBase s).planMem = s.planMem := by
  unfold State.tickBase
  refine ⟨?_, ?_, ?_, ?_⟩ <;> (repeat' split) <;> simp
@[simp] theorem State.tickAon_keeps (s : State) :
    (State.tickAon s).pending = s.pending ∧ (State.tickAon s).otp = s.otp ∧ (State.tickAon s).boardMem = s.boardMem ∧ (State.tickAon s).planMem = s.planMem := by
  unfold State.tickAon
  refine ⟨?_, ?_, ?_, ?_⟩ <;> (repeat' split) <;> simp
@[simp] theorem State.tickWdt_keeps (s : State) :
    (State.tickWdt s).pending = s.pending ∧ (State.tickWdt s).otp = s.otp := by
  unfold State.tickWdt
  refine ⟨?_, ?_⟩ <;> (repeat' split) <;> simp
@[simp] theorem State.tickBurst_keeps (s : State) :
    (State.tickBurst s).pending = s.pending ∧ (State.tickBurst s).otp = s.otp ∧ (State.tickBurst s).boardMem = s.boardMem ∧ (State.tickBurst s).planMem = s.planMem := by
  unfold State.tickBurst
  refine ⟨?_, ?_, ?_, ?_⟩ <;> (repeat' split) <;> simp
@[simp] theorem State.idleTick_keeps (s : State) :
    (State.idleTick s).pending = s.pending ∧ (State.idleTick s).otp = s.otp := by
  unfold State.idleTick
  refine ⟨?_, ?_⟩ <;> (repeat' split) <;> simp

end Sys2Proof.Machine
end

