-- ==== Sys2Proof/Laws/Memory.lean ====
section
/-! SUPPORT. The counting board and plan memory as bytes: a read after a write, and the canonical form that every memory
operation keeps. -/

namespace Sys2Proof.Machine
open Sys2Proof

/-! ### A read after a write -/

@[simp] theorem Memory.read_write_self (m : List Host.Cell) (a : Nat) (v : BitVec 8) :
    Memory.read (Memory.write m a v) a = v := tabGet_tabSet_self _ _ _ _

theorem Memory.read_write_ne (m : List Host.Cell) {a b : Nat} (h : a ≠ b) (v : BitVec 8) :
    Memory.read (Memory.write m a v) b = Memory.read m b := tabGet_tabSet_ne _ _ _ _ h

/-- Outside the bytes written nothing changes. -/
theorem Memory.read_writeBytes_out (l : List Byte) (m : List Host.Cell) {a b : Nat} (h : b < a ∨ a + l.length ≤ b) :
    Memory.read (Memory.writeBytes m a l) b = Memory.read m b := by
  induction l generalizing m a with
  | nil => rfl
  | cons x l ih =>
    simp only [List.length_cons] at h
    rw [Memory.writeBytes, ih _ (by omega), Memory.read_write_ne _ (by omega)]

/-- Byte `i` of the bytes written reads back. -/
theorem Memory.read_writeBytes (l : List Byte) (m : List Host.Cell) (a i : Nat) (h : i < l.length) :
    Memory.read (Memory.writeBytes m a l) (a + i) = l[i] := by
  induction l generalizing m a i with
  | nil => simp at h
  | cons x l ih =>
    rw [Memory.writeBytes]
    cases i with
    | zero => rw [Memory.read_writeBytes_out _ _ (by omega)]; simp
    | succ i =>
      simp only [List.length_cons] at h
      have := ih (Memory.write m a x) (a + 1) i (by omega)
      rw [show a + (i + 1) = a + 1 + i by omega, this]; simp

theorem Memory.readBytes_length (m : List Host.Cell) (a n : Nat) : (Memory.readBytes m a n).length = n := by
  induction n generalizing a with
  | zero => rfl
  | succ n ih => simp [Memory.readBytes, ih]

/-- The bytes written read back as a list. -/
theorem Memory.readBytes_writeBytes (l : List Byte) (m : List Host.Cell) (a : Nat) :
    Memory.readBytes (Memory.writeBytes m a l) a l.length = l := by
  induction l generalizing m a with
  | nil => rfl
  | cons x l ih =>
    simp only [List.length_cons, Memory.readBytes, Memory.writeBytes, ih]
    rw [Memory.read_writeBytes_out _ _ (by omega)]; simp

/-- A zeroed tile reads 0, every other tile as before. -/
theorem Memory.read_zeroTile (m : List Host.Cell) (t a : Nat) :
    Memory.read (Memory.zeroTile m t) a = if a / tileBytes = t then Memory.empty else Memory.read m a := by
  simp [Memory.read, Memory.zeroTile, tabGet_tabDrop]

/-! ### The canonical form -/

/-- Keys of a table all lie above `k`. -/
theorem tabSorted_cons {α : Type} (k : Nat) (v : α) (t : Tab α) :
    tabSorted ((k, v) :: t) = true ↔ (∀ p ∈ t, k < p.1) ∧ tabSorted t = true := by
  induction t generalizing k v with
  | nil => simp [tabSorted]
  | cons q t ih =>
    obtain ⟨l, w⟩ := q
    simp only [tabSorted, Bool.and_eq_true, decide_eq_true_eq]
    rw [ih l w]
    constructor
    · rintro ⟨h, hl, hs⟩
      refine ⟨?_, hl, hs⟩
      intro p hp
      rcases List.mem_cons.1 hp with rfl | hp
      · exact h
      · exact Nat.lt_trans h (hl p hp)
    · rintro ⟨h, hl, hs⟩
      exact ⟨h (l, w) (by simp), hl, hs⟩

theorem tabSorted_filter {α : Type} (p : Nat × α → Bool) (t : Tab α) (h : tabSorted t = true) :
    tabSorted (t.filter p) = true := by
  induction t with
  | nil => simpa using h
  | cons q t ih =>
    obtain ⟨k, v⟩ := q
    obtain ⟨hk, ht⟩ := (tabSorted_cons k v t).1 h
    simp only [List.filter_cons]
    split
    · exact (tabSorted_cons k v _).2 ⟨fun p hp => hk p (List.mem_filter.1 hp).1, ih ht⟩
    · exact ih ht

theorem mem_tabIns {α : Type} {a : Nat} {v : α} {t : Tab α} {p : Nat × α} (h : p ∈ tabIns a v t) :
    p = (a, v) ∨ p ∈ t := by
  induction t with
  | nil => simpa [tabIns] using h
  | cons q t ih =>
    obtain ⟨k, w⟩ := q
    simp only [tabIns] at h
    split at h
    · simpa using h
    · rcases List.mem_cons.1 h with rfl | h
      · simp
      · rcases ih h with h | h <;> simp [h]

theorem tabSorted_tabIns {α : Type} (a : Nat) (v : α) (t : Tab α) (ha : ∀ p ∈ t, p.1 ≠ a) (h : tabSorted t = true) :
    tabSorted (tabIns a v t) = true := by
  induction t with
  | nil => simp [tabIns, tabSorted]
  | cons q t ih =>
    obtain ⟨k, w⟩ := q
    obtain ⟨hk, ht⟩ := (tabSorted_cons k w t).1 h
    have hka : k ≠ a := ha (k, w) (by simp)
    simp only [tabIns]
    split
    · rename_i hl
      refine (tabSorted_cons a v _).2 ⟨?_, h⟩
      intro p hp
      rcases List.mem_cons.1 hp with rfl | hp
      · exact hl
      · exact Nat.lt_trans hl (hk p hp)
    · rename_i hl
      refine (tabSorted_cons k w _).2 ⟨?_, ih (fun p hp => ha p (by simp [hp])) ht⟩
      intro p hp
      rcases mem_tabIns hp with rfl | hp
      · exact Nat.lt_of_le_of_ne (Nat.not_lt.1 hl) hka
      · exact hk p hp

/-- Setting a key keeps the canonical form of a table. -/
theorem tabWf_tabSet {α : Type} [DecidableEq α] (d : Nat → α) (t : Tab α) (a : Nat) (v : α) (h : tabWf d t = true) :
    tabWf d (tabSet (d a) t a v) = true := by
  simp only [tabWf, Bool.and_eq_true, List.all_eq_true, decide_eq_true_eq] at h ⊢
  have hs : tabSorted (tabErase t a) = true := tabSorted_filter _ t h.1
  unfold tabSet
  split
  · exact ⟨hs, fun p hp => h.2 p (List.mem_filter.1 hp).1⟩
  · rename_i hv
    refine ⟨tabSorted_tabIns a v _ (by simp [tabErase]) hs, fun p hp => ?_⟩
    rcases mem_tabIns hp with rfl | hp
    · exact hv
    · exact h.2 p (List.mem_filter.1 hp).1

theorem tabWf_tabDrop {α : Type} [DecidableEq α] (d : Nat → α) (t : Tab α) (p : Nat → Bool) (h : tabWf d t = true) :
    tabWf d (tabDrop p t) = true := by
  simp only [tabWf, Bool.and_eq_true, List.all_eq_true, decide_eq_true_eq] at h ⊢
  exact ⟨tabSorted_filter _ t h.1, fun q hq => h.2 q (List.mem_filter.1 hq).1⟩

@[simp] theorem Memory.wf_nil : Memory.wf [] = true := by decide

@[simp] theorem Memory.write_wf (m : List Host.Cell) (a : Nat) (v : BitVec 8) (h : Memory.wf m = true) :
    Memory.wf (Memory.write m a v) = true := tabWf_tabSet _ m a v h

@[simp] theorem Memory.writeBytes_wf (l : List Byte) (m : List Host.Cell) (a : Nat) (h : Memory.wf m = true) :
    Memory.wf (Memory.writeBytes m a l) = true := by
  induction l generalizing m a with
  | nil => exact h
  | cons x l ih => exact ih _ _ (Memory.write_wf m a x h)

@[simp] theorem Memory.zeroTile_wf (m : List Host.Cell) (t : Nat) (h : Memory.wf m = true) :
    Memory.wf (Memory.zeroTile m t) = true := tabWf_tabDrop _ m _ h

end Sys2Proof.Machine
end

