-- ==== Sys2Proof/Laws/KeepWf.lean ====
section
/-! SUPPORT. The operations that store bytes keep both memories in their canonical form. -/

namespace Sys2Proof.Machine
open Sys2Proof

@[simp] theorem State.storeItem_wf (s : State) (t : Fin 64) (bytes : List Byte) (r : BoardRec) (hb : Memory.wf s.boardMem = true)
    (hp : Memory.wf s.planMem = true) : Memory.wf (State.storeItem s t bytes r).boardMem = true ∧ Memory.wf (State.storeItem s t bytes r).planMem = true := by
  unfold State.storeItem
  (repeat' split) <;> simp [hb, hp]
@[simp] theorem State.commitPair_wf (s : State) (t : Fin 64) (e : Event) (hb : Memory.wf s.boardMem = true)
    (hp : Memory.wf s.planMem = true) : Memory.wf (State.commitPair s t e).boardMem = true ∧ Memory.wf (State.commitPair s t e).planMem = true := by
  unfold State.commitPair
  (repeat' split) <;> simp [hb, hp]
@[simp] theorem State.commitEvents_wf (fuel : Nat) (s : State) (hb : Memory.wf s.boardMem = true) (hp : Memory.wf s.planMem = true) :
    Memory.wf (State.commitEvents fuel s).boardMem = true ∧ Memory.wf (State.commitEvents fuel s).planMem = true := by
  induction fuel generalizing s with
  | zero => exact ⟨hb, hp⟩
  | succ fuel ih =>
    have k := s.roomFor_keeps 2
    unfold State.commitEvents
    split
    · exact ⟨hb, hp⟩
    · split
      · exact ⟨hb, hp⟩
      · split <;> rename_i h <;> rw [h] at k <;> simp only at k
        · have := State.commitPair_wf
          apply ih <;> simp [k, hb, hp]
        · simp [k, hb, hp]
@[simp] theorem State.settleEvents_wf (s : State) (hb : Memory.wf s.boardMem = true)
    (hp : Memory.wf s.planMem = true) : Memory.wf (State.settleEvents s).boardMem = true ∧ Memory.wf (State.settleEvents s).planMem = true := by
  unfold State.settleEvents
  (repeat' split) <;> simp [hb, hp]
@[simp] theorem State.resumeDrain_wf (s : State) (hb : Memory.wf s.boardMem = true)
    (hp : Memory.wf s.planMem = true) : Memory.wf (State.resumeDrain s).boardMem = true ∧ Memory.wf (State.resumeDrain s).planMem = true := by
  unfold State.resumeDrain
  (repeat' split) <;> simp [hb, hp]
@[simp] theorem State.commitRecord_wf (s : State) (p : Packet) (status : Nat) (content : List Byte) (stamp : DWord)
    (origin : Option (Nat × Word)) (hb : Memory.wf s.boardMem = true) (hp : Memory.wf s.planMem = true) :
    Memory.wf (s.commitRecord p status content stamp origin).1.boardMem = true ∧ Memory.wf (s.commitRecord p status content stamp origin).1.planMem = true := by
  have k := s.roomFor_keeps (recordLen content.length)
  generalize hr : s.roomFor (recordLen content.length) = r at k
  simp only [State.commitRecord, hr]
  obtain ⟨s1, t⟩ := r
  simp only at k
  cases t <;> cases origin <;> simp [k, hb, hp]
@[simp] theorem State.fillPlanTile_wf (s : State) (t : Fin 16) (bytes : List Byte) (hb : Memory.wf s.boardMem = true)
    (hp : Memory.wf s.planMem = true) : Memory.wf (State.fillPlanTile s t bytes).boardMem = true ∧ Memory.wf (State.fillPlanTile s t bytes).planMem = true := by
  unfold State.fillPlanTile
  (repeat' split) <;> simp [hb, hp]
@[simp] theorem State.drainPacket_wf (s : State) (f : Fin 25) (p : Packet) (ecc : List (Nat × Bool)) (hb : Memory.wf s.boardMem = true) (hp : Memory.wf s.planMem = true) :
    Memory.wf (s.drainPacket f p ecc).boardMem = true ∧ Memory.wf (s.drainPacket f p ecc).planMem = true := by
  unfold State.drainPacket
  simp only
  (repeat' split) <;> rename_i s1 h <;> have k := congrArg Prod.fst h <;> simp only at k <;> subst k <;> simp [hb, hp]
@[simp] theorem State.drainIngress_wf (s : State) (r : RingItem) (hb : Memory.wf s.boardMem = true) (hp : Memory.wf s.planMem = true) :
    Memory.wf (s.drainIngress r).boardMem = true ∧ Memory.wf (s.drainIngress r).planMem = true := by
  unfold State.drainIngress
  split
  · simp [hb, hp]
  · simp only
    split <;> rename_i s1 h <;> have k := congrArg Prod.fst h <;> simp only at k <;> subst k <;> simp [hb, hp]
@[simp] theorem State.freeTile_wf (s : State) (t : Fin 64) (hb : Memory.wf s.boardMem = true)
    (hp : Memory.wf s.planMem = true) : Memory.wf (State.freeTile s t).boardMem = true ∧ Memory.wf (State.freeTile s t).planMem = true := by
  unfold State.freeTile
  (repeat' split) <;> simp [hb, hp]
@[simp] theorem writeTileCtl_wf (w : Word) (bad : Bool) (s : State) (hb : Memory.wf s.boardMem = true) (hp : Memory.wf s.planMem = true) :
    Memory.wf (writeTileCtl w bad s).boardMem = true ∧ Memory.wf (writeTileCtl w bad s).planMem = true := by
  unfold writeTileCtl
  dsimp only
  split
  · split <;> simp [hb, hp]
  · exact ⟨hb, hp⟩
@[simp] theorem writePlanData_wf (w : Word) (s : State) (hb : Memory.wf s.boardMem = true)
    (hp : Memory.wf s.planMem = true) : Memory.wf (writePlanData w s).boardMem = true ∧ Memory.wf (writePlanData w s).planMem = true := by
  unfold writePlanData
  (repeat' split) <;> simp [hb, hp]
@[simp] theorem State.clearDedup_wf (s : State) (hb : Memory.wf s.boardMem = true) (hp : Memory.wf s.planMem = true) :
    Memory.wf s.clearDedup.boardMem = true ∧ Memory.wf s.clearDedup.planMem = true := by
  unfold State.clearDedup
  dsimp only
  simp only [State.checkOverlap_keeps, State.modRound_boardMem, State.modRound_planMem]
  exact forAll_inv (fun s : State => Memory.wf s.boardMem = true ∧ Memory.wf s.planMem = true) (fun t x hx => by simp [hx]) _ _ ⟨hb, hp⟩
@[simp] theorem State.roundStep_wf (s : State) (hb : Memory.wf s.boardMem = true)
    (hp : Memory.wf s.planMem = true) : Memory.wf (State.roundStep s).boardMem = true ∧ Memory.wf (State.roundStep s).planMem = true := by
  unfold State.roundStep
  (repeat' split) <;> simp [hb, hp]
@[simp] theorem State.domainLost_wf (s : State) (d : Domain) (hb : Memory.wf s.boardMem = true)
    (hp : Memory.wf s.planMem = true) : Memory.wf (State.domainLost s d).boardMem = true ∧ Memory.wf (State.domainLost s d).planMem = true := by
  unfold State.domainLost
  (repeat' split) <;> simp [hb, hp]
@[simp] theorem State.releaseHeld_wf (s : State) (hb : Memory.wf s.boardMem = true)
    (hp : Memory.wf s.planMem = true) : Memory.wf (State.releaseHeld s).boardMem = true ∧ Memory.wf (State.releaseHeld s).planMem = true := by
  unfold State.releaseHeld
  (repeat' split) <;> simp [hb, hp]
@[simp] theorem State.comeOn_wf (s : State) (d : Domain) (old : PState) (hb : Memory.wf s.boardMem = true)
    (hp : Memory.wf s.planMem = true) : Memory.wf (State.comeOn s d old).boardMem = true ∧ Memory.wf (State.comeOn s d old).planMem = true := by
  unfold State.comeOn
  (repeat' split) <;> simp [hb, hp]
@[simp] theorem State.posDone_wf (s : State) (r : PwrRun) (hb : Memory.wf s.boardMem = true) (hp : Memory.wf s.planMem = true) :
    Memory.wf (s.posDone r).boardMem = true ∧ Memory.wf (s.posDone r).planMem = true := by
  refine ⟨?_, by simp [State.posDone, hp]⟩
  simp only [State.posDone, State.nextPos_keeps]
  exact (forAll_inv (fun s : State => Memory.wf s.boardMem = true ∧ Memory.wf s.planMem = true) (fun d x hx => by split <;> simp [hx]) r.pos s ⟨hb, hp⟩).1
@[simp] theorem State.memberEntered_wf (s : State) (r : PwrRun) (d : Domain) (target : PState) (hb : Memory.wf s.boardMem = true)
    (hp : Memory.wf s.planMem = true) : Memory.wf (State.memberEntered s r d target).boardMem = true ∧ Memory.wf (State.memberEntered s r d target).planMem = true := by
  unfold State.memberEntered
  (repeat' split) <;> simp [hb, hp]
@[simp] theorem State.fullReset_wf (s : State) (b pins : Nat) (hb : Memory.wf s.boardMem = true) (hp : Memory.wf s.planMem = true) :
    Memory.wf (s.fullReset b pins).boardMem = true ∧ Memory.wf (s.fullReset b pins).planMem = true := by
  simp [State.fullReset, State.reset]
@[simp] theorem State.warmReset_wf (s : State) (b : Nat) (hb : Memory.wf s.boardMem = true) (hp : Memory.wf s.planMem = true) :
    Memory.wf (s.warmReset b).boardMem = true ∧ Memory.wf (s.warmReset b).planMem = true := by
  have k := forAll_inv (fun s : State => Memory.wf s.boardMem = true ∧ Memory.wf s.planMem = true) (f := fun (d : Domain) (s : State) => s.domainLost d) (fun d x hx => by simp [hx])
    (Domain.all.filter (· != .aon)) ({ s.dropPulses.noteReset b with
      txns := [], host := { (s.dropPulses.noteReset b).host with staging := [] },
      sys := { (s.dropPulses.noteReset b).sys with heldEvents := [], heldLost := 0 } }) (by simp [hb, hp])
  simp only [State.warmReset]
  simpa using k
@[simp] theorem State.bistTargetsOn_wf (s : State) (b : BistRun) (hb : Memory.wf s.boardMem = true) (hp : Memory.wf s.planMem = true) :
    Memory.wf (s.bistTargetsOn b).boardMem = true ∧ Memory.wf (s.bistTargetsOn b).planMem = true := by
  exact forAll_inv (fun s : State => Memory.wf s.boardMem = true ∧ Memory.wf s.planMem = true) (fun d x hx => by simp [hx]) _ _ (by simp [hb, hp])
@[simp] theorem State.bistShutdown_wf (s : State) (hb : Memory.wf s.boardMem = true)
    (hp : Memory.wf s.planMem = true) : Memory.wf (State.bistShutdown s).boardMem = true ∧ Memory.wf (State.bistShutdown s).planMem = true := by
  unfold State.bistShutdown
  (repeat' split) <;> simp [hb, hp]
@[simp] theorem State.enterShutdown_wf (s : State) (l : List Int) (hb : Memory.wf s.boardMem = true)
    (hp : Memory.wf s.planMem = true) : Memory.wf (State.enterShutdown s l).boardMem = true ∧ Memory.wf (State.enterShutdown s l).planMem = true := by
  unfold State.enterShutdown
  (repeat' split) <;> simp [hb, hp]
@[simp] theorem writeRstSw_wf (w : Word) (s : State) (hb : Memory.wf s.boardMem = true)
    (hp : Memory.wf s.planMem = true) : Memory.wf (writeRstSw w s).boardMem = true ∧ Memory.wf (writeRstSw w s).planMem = true := by
  unfold writeRstSw
  (repeat' split) <;> simp [hb, hp]
@[simp] theorem writeTileCtlFree_wf (w : Word) (s : State) (hb : Memory.wf s.boardMem = true) (hp : Memory.wf s.planMem = true) :
    Memory.wf (writeTileCtlFree w s).boardMem = true ∧ Memory.wf (writeTileCtlFree w s).planMem = true := by
  unfold writeTileCtlFree
  split
  rename_i h
  have k := congrArg Prod.fst h
  simp only at k
  subst k
  simp [hb, hp]
@[simp] theorem writeTileRel_wf (w : Word) (s : State) (hb : Memory.wf s.boardMem = true) (hp : Memory.wf s.planMem = true) :
    Memory.wf (writeTileRel w s).boardMem = true ∧ Memory.wf (writeTileRel w s).planMem = true := by
  unfold writeTileRel
  dsimp only
  split <;> simp [hb, hp]
theorem hookHost_wf {addr : Nat} {f : Word → State → State} (h : hookHost addr = some f) (w : Word) (s : State)
    (hb : Memory.wf s.boardMem = true) (hp : Memory.wf s.planMem = true) :
    Memory.wf (f w s).boardMem = true ∧ Memory.wf (f w s).planMem = true := by
  suffices H : ∀ f, hookHost addr = some f → Memory.wf (f w s).boardMem = true ∧ Memory.wf (f w s).planMem = true from H f h
  unfold hookHost
  repeat' refine hookIte (P := fun f => Memory.wf (f w s).boardMem = true ∧ Memory.wf (f w s).planMem = true) ?_ ?_
  any_goals (intro f h; cases h; done)
  all_goals first | (simp [hb, hp]; done) | (split <;> simp [hb, hp])
theorem hookPwr_wf {addr : Nat} {f : Word → State → State} (h : hookPwr addr = some f) (w : Word) (s : State)
    (hb : Memory.wf s.boardMem = true) (hp : Memory.wf s.planMem = true) :
    Memory.wf (f w s).boardMem = true ∧ Memory.wf (f w s).planMem = true := by
  suffices H : ∀ f, hookPwr addr = some f → Memory.wf (f w s).boardMem = true ∧ Memory.wf (f w s).planMem = true from H f h
  unfold hookPwr
  repeat' refine hookIte (P := fun f => Memory.wf (f w s).boardMem = true ∧ Memory.wf (f w s).planMem = true) ?_ ?_
  any_goals (intro f h; cases h; done)
  all_goals first | (simp [hb, hp]; done) | (split <;> simp [hb, hp])
theorem hookRods_wf {addr : Nat} {f : Word → State → State} (h : hookRods addr = some f) (w : Word) (s : State)
    (hb : Memory.wf s.boardMem = true) (hp : Memory.wf s.planMem = true) :
    Memory.wf (f w s).boardMem = true ∧ Memory.wf (f w s).planMem = true := by
  suffices H : ∀ f, hookRods addr = some f → Memory.wf (f w s).boardMem = true ∧ Memory.wf (f w s).planMem = true from H f h
  unfold hookRods
  repeat' refine hookIte (P := fun f => Memory.wf (f w s).boardMem = true ∧ Memory.wf (f w s).planMem = true) ?_ ?_
  any_goals (intro f h; cases h; done)
  all_goals first | (simp [hb, hp]; done) | (split <;> simp [hb, hp])
theorem hookAccess_wf {addr : Nat} {f : Word → State → State} (h : hookAccess addr = some f) (w : Word) (s : State)
    (hb : Memory.wf s.boardMem = true) (hp : Memory.wf s.planMem = true) :
    Memory.wf (f w s).boardMem = true ∧ Memory.wf (f w s).planMem = true := by
  suffices H : ∀ f, hookAccess addr = some f → Memory.wf (f w s).boardMem = true ∧ Memory.wf (f w s).planMem = true from H f h
  unfold hookAccess
  repeat' refine hookIte (P := fun f => Memory.wf (f w s).boardMem = true ∧ Memory.wf (f w s).planMem = true) ?_ ?_
  any_goals (intro f h; cases h; done)
  all_goals first | (simp [hb, hp]; done) | (split <;> simp [hb, hp])
theorem hookStore_wf {addr : Nat} {f : Word → State → State} (h : hookStore addr = some f) (w : Word) (s : State)
    (hb : Memory.wf s.boardMem = true) (hp : Memory.wf s.planMem = true) :
    Memory.wf (f w s).boardMem = true ∧ Memory.wf (f w s).planMem = true := by
  suffices H : ∀ f, hookStore addr = some f → Memory.wf (f w s).boardMem = true ∧ Memory.wf (f w s).planMem = true from H f h
  unfold hookStore
  repeat' refine hookIte (P := fun f => Memory.wf (f w s).boardMem = true ∧ Memory.wf (f w s).planMem = true) ?_ ?_
  any_goals (intro f h; cases h; done)
  all_goals first | (simp [hb, hp]; done) | (split <;> simp [hb, hp])
theorem hookRest_wf {addr : Nat} {f : Word → State → State} (h : hookRest addr = some f) (w : Word) (s : State)
    (hb : Memory.wf s.boardMem = true) (hp : Memory.wf s.planMem = true) :
    Memory.wf (f w s).boardMem = true ∧ Memory.wf (f w s).planMem = true := by
  suffices H : ∀ f, hookRest addr = some f → Memory.wf (f w s).boardMem = true ∧ Memory.wf (f w s).planMem = true from H f h
  unfold hookRest
  repeat' refine hookIte (P := fun f => Memory.wf (f w s).boardMem = true ∧ Memory.wf (f w s).planMem = true) ?_ ?_
  any_goals (intro f h; cases h; done)
  all_goals first | (simp [hb, hp]; done) | (split <;> simp [hb, hp])
theorem hookOf_wf {addr : Nat} {f : Word → State → State} (h : hookOf addr = some f) (w : Word) (s : State)
    (hb : Memory.wf s.boardMem = true) (hp : Memory.wf s.planMem = true) :
    Memory.wf (f w s).boardMem = true ∧ Memory.wf (f w s).planMem = true := by
  unfold hookOf at h
  split at h
  · exact hookHost_wf h w s hb hp
  · split at h
    · exact hookPwr_wf h w s hb hp
    · split at h
      · exact hookRods_wf h w s hb hp
      · split at h
        · exact hookAccess_wf h w s hb hp
        · split at h
          · exact hookStore_wf h w s hb hp
          · exact hookRest_wf h w s hb hp
@[simp] theorem writeReg_wf (addr : Nat) (w : Word) (s : State) (hb : Memory.wf s.boardMem = true) (hp : Memory.wf s.planMem = true) :
    Memory.wf (writeReg addr w s).boardMem = true ∧ Memory.wf (writeReg addr w s).planMem = true := by
  unfold writeReg
  split
  · exact ⟨hb, hp⟩
  · split
    · rename_i f h; exact hookOf_wf h w s hb hp
    · simp [hb, hp]
@[simp] theorem State.regWrite_wf (s : State) (addr : Nat) (w : Word) (beam : Bool) (hb : Memory.wf s.boardMem = true)
    (hp : Memory.wf s.planMem = true) : Memory.wf (State.regWrite s addr w beam).boardMem = true ∧ Memory.wf (State.regWrite s addr w beam).planMem = true := by
  unfold State.regWrite
  (repeat' split) <;> simp [hb, hp]
@[simp] theorem State.bar0Write_wf (s : State) (addr : Nat) (w : Word) (hi : Option Word) (hb : Memory.wf s.boardMem = true)
    (hp : Memory.wf s.planMem = true) :
    Memory.wf (State.bar0Write s addr w hi).boardMem = true ∧ Memory.wf (State.bar0Write s addr w hi).planMem = true := by
  unfold State.bar0Write onSome
  cases hi <;> simp [hb, hp]
@[simp] theorem State.beamRegWrite_wf (s : State) (addr : Nat) (w : Word) (hb : Memory.wf s.boardMem = true)
    (hp : Memory.wf s.planMem = true) : Memory.wf (State.beamRegWrite s addr w).boardMem = true ∧ Memory.wf (State.beamRegWrite s addr w).planMem = true := by
  unfold State.beamRegWrite
  (repeat' split) <;> simp [hb, hp]
@[simp] theorem State.wakeOver_wf (s : State) (ds : List Domain) (hb : Memory.wf s.boardMem = true) (hp : Memory.wf s.planMem = true) :
    Memory.wf (s.wakeOver ds).boardMem = true ∧ Memory.wf (s.wakeOver ds).planMem = true := by
  exact forAll_inv (fun s : State => Memory.wf s.boardMem = true ∧ Memory.wf s.planMem = true) (fun d x hx => by split <;> simp [hx]) ds s ⟨hb, hp⟩
@[simp] theorem State.haltStartup_wf (s : State) (hb : Memory.wf s.boardMem = true)
    (hp : Memory.wf s.planMem = true) : Memory.wf (State.haltStartup s).boardMem = true ∧ Memory.wf (State.haltStartup s).planMem = true := by
  unfold State.haltStartup
  (repeat' split) <;> simp [hb, hp]
@[simp] theorem State.afterOtp_wf (s : State) (hb : Memory.wf s.boardMem = true)
    (hp : Memory.wf s.planMem = true) : Memory.wf (State.afterOtp s).boardMem = true ∧ Memory.wf (State.afterOtp s).planMem = true := by
  unfold State.afterOtp
  (repeat' split) <;> simp [hb, hp]
@[simp] theorem State.bootOff_wf (s : State) (hb : Memory.wf s.boardMem = true)
    (hp : Memory.wf s.planMem = true) : Memory.wf (State.bootOff s).boardMem = true ∧ Memory.wf (State.bootOff s).planMem = true := by
  have k := forAll_inv (fun s : State => Memory.wf s.boardMem = true ∧ Memory.wf s.planMem = true)
    (f := fun (d : Domain) (s : State) => (s.domainLost d).setPst d .off) (fun d x hx => by simp [hx])
    (Domain.all.filter (· != .aon)) s ⟨hb, hp⟩
  simp only [State.bootOff]
  simpa using k
@[simp] theorem State.bootTest_wf (s : State) (inp : StartInput) (hb : Memory.wf s.boardMem = true)
    (hp : Memory.wf s.planMem = true) : Memory.wf (State.bootTest s inp).boardMem = true ∧ Memory.wf (State.bootTest s inp).planMem = true := by
  unfold State.bootTest
  dsimp only
  repeat' split
  all_goals simp [hb, hp]
@[simp] theorem State.otpStep_wf (s : State) (inp : StartInput) (hb : Memory.wf s.boardMem = true) (hp : Memory.wf s.planMem = true) :
    Memory.wf (s.otpStep inp).boardMem = true ∧ Memory.wf (s.otpStep inp).planMem = true := by
  unfold State.otpStep
  dsimp only
  repeat' split
  all_goals simp [hb, hp]
@[simp] theorem State.imageTileRead_wf (s : State) (e : Nat × Nat × Word) (bytes : List Byte) (hb : Memory.wf s.boardMem = true) (hp : Memory.wf s.planMem = true) :
    Memory.wf (s.imageTileRead e bytes).boardMem = true ∧ Memory.wf (s.imageTileRead e bytes).planMem = true := by
  unfold State.imageTileRead
  dsimp only
  split
  · exact ⟨hb, hp⟩
  · split <;> rename_i h <;> have k := congrArg Prod.fst h <;> simp only at k <;> subst k <;> simp [hb, hp]
@[simp] theorem State.applyRegs_wf (fuel : Nat) (s : State) (hb : Memory.wf s.boardMem = true) (hp : Memory.wf s.planMem = true) :
    Memory.wf (State.applyRegs fuel s).boardMem = true ∧ Memory.wf (State.applyRegs fuel s).planMem = true := by
  induction fuel generalizing s with
  | zero => exact ⟨hb, hp⟩
  | succ fuel ih =>
    unfold State.applyRegs
    split
    · exact ⟨hb, hp⟩
    · split
      · simp [hb, hp]
      · dsimp only
        split <;> (apply ih <;> simp [hb, hp])
@[simp] theorem State.advanceStep_wf (s : State) (inp : StartInput) (hb : Memory.wf s.boardMem = true)
    (hp : Memory.wf s.planMem = true) : Memory.wf (State.advanceStep s inp).boardMem = true ∧ Memory.wf (State.advanceStep s inp).planMem = true := by
  unfold State.advanceStep
  (repeat' split) <;> simp [hb, hp]
@[simp] theorem State.beamWriteWord_wf (s : State) (space a w : Nat) (hb : Memory.wf s.boardMem = true)
    (hp : Memory.wf s.planMem = true) : Memory.wf (State.beamWriteWord s space a w).boardMem = true ∧ Memory.wf (State.beamWriteWord s space a w).planMem = true := by
  unfold State.beamWriteWord
  (repeat' split) <;> simp [hb, hp]
@[simp] theorem State.beamWriting_wf (s : State) (b : List Byte) (hb : Memory.wf s.boardMem = true) (hp : Memory.wf s.planMem = true) :
    Memory.wf (s.beamWriting b).1.boardMem = true ∧ Memory.wf (s.beamWriting b).1.planMem = true := by
  have h : Memory.wf (s.overrun b).1.boardMem = true ∧ Memory.wf (s.overrun b).1.planMem = true := by
    unfold State.overrun; split <;> simp [hb, hp]
  unfold State.beamWriting
  dsimp only
  split
  · exact ⟨hb, hp⟩
  · split
    · simp [hb, hp]
    · exact forAll_inv (fun s : State => Memory.wf s.boardMem = true ∧ Memory.wf s.planMem = true) (fun i x hx => by split <;> simp [hx]) _ _ h
@[simp] theorem State.tickWdt_wf (s : State) (hb : Memory.wf s.boardMem = true) (hp : Memory.wf s.planMem = true) :
    Memory.wf s.tickWdt.boardMem = true ∧ Memory.wf s.tickWdt.planMem = true := by
  unfold State.tickWdt
  dsimp only
  repeat' split
  all_goals simp [hb, hp]
@[simp] theorem State.idleTick_wf (s : State) (hb : Memory.wf s.boardMem = true)
    (hp : Memory.wf s.planMem = true) : Memory.wf (State.idleTick s).boardMem = true ∧ Memory.wf (State.idleTick s).planMem = true := by
  unfold State.idleTick
  (repeat' split) <;> simp [hb, hp]

end Sys2Proof.Machine
end

