-- ==== Sys2Proof/Laws/Shared.lean ====
section
/-! SUPPORT. What each shared operation can do, said once: ending a transaction, raising an event, writing a record. -/

namespace Sys2Proof.Machine
open Sys2Proof

/-- Ending a transaction changes the list of transactions and nothing else. -/
theorem State.finish_frame (s : State) (id : Nat) (st : Status) : s.finish id st = { s with txns := (s.finish id st).txns } := by
  unfold State.finish
  split
  · split <;> rfl
  · rfl

/-- Changing a transaction keeps its place: the transaction of the identity is the changed one. -/
theorem State.txn?_modTxn (s : State) (id : Nat) (f : Txn → Txn) (hf : ∀ t, (f t).id = t.id) :
    (s.modTxn id f).txn? id = (s.txn? id).map f := by
  simp only [State.txn?, State.modTxn]
  induction s.txns with
  | nil => rfl
  | cons a l ih =>
    by_cases h : a.id = id
    · simp [h, hf]
    · simpa [h] using ih

/-- A live transaction that ends stands in the list with its status. -/
theorem State.finish_done {s : State} {id : Nat} {t : Txn} (h : s.txn? id = some t) (hl : t.live = true) (st : Status) :
    (s.finish id st).txn? id = some { t with phase := .done st, barrier := s.sys.nextId } := by
  have e : t.id = id := by simpa using List.find?_some h
  have k : t.endWith st s.sys.nextId = { t with phase := .done st, barrier := s.sys.nextId } := by simp [Txn.endWith, hl]
  unfold State.finish
  rw [h]
  dsimp only
  split
  · rw [State.txn?_modTxn _ _ _ (by intro t; unfold Txn.endWith; split <;> rfl), h]
    simp [k]
  · have n : (s.txns.filter (fun u => u.id != id)).find? (fun t => t.id == id) = none := by simp
    simp only [State.txn?, List.find?_append, n, k]
    simp [e]

/-- Staging an event changes the event queues of the role, and EQ_STAT.LOST when host staging is full. -/
theorem State.stageEvent_frame (s : State) (e : Event) :
    s.stageEvent e = { s with sys := (s.stageEvent e).sys, host := (s.stageEvent e).host, regs := (s.stageEvent e).regs } := by
  unfold State.stageEvent
  repeat' split
  all_goals rfl

/-- Changing the transaction of an identity leaves the others. -/
theorem State.modTxn_others (s : State) (id : Nat) (f : Txn → Txn) (hf : ∀ t, (f t).id = t.id) :
    (s.modTxn id f).txns.filter (fun w => w.id != id) = s.txns.filter (fun w => w.id != id) := by
  simp only [State.modTxn]
  induction s.txns with
  | nil => rfl
  | cons a l ih =>
    rw [List.map_cons]
    by_cases h : a.id = id
    · rw [List.filter_cons_of_neg (by simp [h, hf]), List.filter_cons_of_neg (by simp [h]), ih]
    · rw [if_neg (by simpa using h), List.filter_cons_of_pos (by simpa using h), List.filter_cons_of_pos (by simpa using h), ih]

/-- Ending a transaction leaves the others. -/
theorem State.finish_others (s : State) (id : Nat) (st : Status) :
    (s.finish id st).txns.filter (fun w => w.id != id) = s.txns.filter (fun w => w.id != id) := by
  have hid : ∀ t : Txn, (t.endWith st s.sys.nextId).id = t.id := fun t => by unfold Txn.endWith; split <;> rfl
  unfold State.finish
  split
  · rename_i t ht
    split
    · exact s.modTxn_others id _ hid
    · have := List.find?_some ht
      simp only [beq_iff_eq] at this
      simp [List.filter_append, List.filter_filter, hid, this]
  · rfl

/-- What an output does: it stands first in the log, unless it would leave through balls that the TAP has taken. -/
theorem State.emitOut_logged (s : State) (o : Output) : s.emitOut o = { s with out := s.logged [o] } := by
  unfold State.emitOut State.logged
  cases s.test.takesBalls <;> cases h : o.atBalls <;> simp [h]

/-- Raising an event changes the event queues, and EQ_STAT.LOST when host staging is full. -/
theorem State.raise_frame (s : State) (c : EventCode) (u : Nat) (d : List Byte) :
    s.raise c u d = { s with sys := (s.raise c u d).sys, host := (s.raise c u d).host, regs := (s.raise c u d).regs } := by
  unfold State.raise State.raiseRaw
  repeat' split
  · exact State.stageEvent_frame _ _
  · rfl
  · rfl

/-- Raising an event writes no register field but EQ_STAT.LOST. -/
theorem State.raise_rd (s : State) (c : EventCode) (u : Nat) (d : List Byte) (f : Fld) (k : Nat)
    (h : f.key k ≠ F.HOST_EQ_STAT_LOST.key 0) : (s.raise c u d).rd f k = s.rd f k := by
  unfold State.raise State.raiseRaw State.stageEvent
  repeat' split
  all_goals first | rfl | (unfold State.countSat; rw [State.rd_wr_ne _ (Ne.symm h)]; rfl)

/-- What `g` reads, running `f` over a list keeps, when each run of `f` keeps it. -/
theorem State.emit_parts {β : Type} (g : State → β) (hf : ∀ (s : State) (q : Fin 25) (f : Fifo → Fifo), g (s.modFifo q f) = g s)
    (ht : ∀ (s : State) (i : Nat) (f : Txn → Txn), g (s.modTxn i f) = g s)
    (hi : ∀ (s : State) (k : Nat), g ({ s with sys := { s.sys with nextId := k } }) = g s)
    (ho : ∀ (s : State) (q : Fin 25), g (s.setF F.FIFO_STAT_OVERRUN q.val) = g s)
    (hc : ∀ (s : State) (q : Fin 25) (n : Nat), g (s.count F.FIFO_CNT_DROP_COUNT q.val n) = g s)
    (hr : ∀ (s : State) (c : EventCode) (u : Nat) (d : List Byte), g (s.raise c u d) = g s)
    (s : State) (q : Fin 25) (rs : List RecordData) (txn : Option Nat) : g (s.emit q rs txn) = g s := by
  have ov : ∀ (s : State) (k : Nat), g (s.fifoOverrun q k) = g s := by
    intro s k
    unfold State.fifoOverrun
    rw [hr, hf, ho]
  have wg : ∀ (s : State) (ps : List Packet), g (s.writeGroup q ps txn) = g s := by
    intro s ps
    unfold State.writeGroup
    split
    · unfold State.publish
      have fa : ∀ (l : List Packet) (x : State),
          g (forAll l (fun p s => onSome p.txn (fun id s => s.modTxn id (fun t => { t with hasRec := true })) s) x) = g x :=
        fun l x => forAll_keeps g (fun p x => onSome_keeps g (fun i x => ht x i _) _ _) l x
      dsimp only
      split
      · simp only [fa, hf, hi]
      · simp only [ov, hc, fa, hf, hi]
    · unfold State.discardGroup
      dsimp only
      rw [onSome_keeps g (fun i x => ht x i _), hc, hf]
      split
      · rfl
      · exact ov _ _
  unfold State.emit
  dsimp only
  split
  · rw [wg, hf]
  · rw [hf, hf]

end Sys2Proof.Machine
end

