-- ==== Sys2Proof/Machine/PciFunction.lean ====
section
/-! DEFINITION. The PCI Express function as the host sees it in configuration space (spec/02_host_rings.md, R49, R50). No
command reads it, and nothing that it shows changes but the bits that PCIE_BME_D3_CHANGE sets. -/

namespace Sys2Proof.Machine
open Sys2Proof

/-- Capability structures of the function (R49). -/
inductive PciCap | powerManagement (noSoftReset : Bool) | msix (vectors : Nat) | pciExpressEndpoint | advancedErrorReporting
  | deviceSerialNumber (serial : DWord)
  deriving DecidableEq, Repr

/-- A base address register (R50). -/
structure PciBar where
  is64 : Bool
  prefetchable : Bool
  /-- bytes it claims; 0 for one that is not implemented and reads 0 -/
  size : Nat
  deriving DecidableEq, Repr

/-- Identity and capabilities of the function (R49, R50). -/
structure PciFunction where
  vendorId : Nat
  deviceId : Nat
  revisionId : Nat
  subsystemVendorId : Nat
  subsystemId : Nat
  classCode : Nat
  headerType : Nat
  interruptPin : Nat
  caps : List PciCap
  /-- link speeds in units of 0.1 GT/s, and link widths -/
  linkSpeeds : List Nat
  linkWidths : List Nat
  maxPayload : Nat
  tagBits : Nat
  aspmL1 : Bool
  aspmL0s : Bool
  functionLevelReset : Bool
  /-- BAR0/BAR1, BAR2/BAR3, BAR4/BAR5, Expansion ROM -/
  bars : List PciBar
  busMasterEnable : Bool
  d3hot : Bool
  msixEnable : Bool
  msixMask : Bool
  deriving DecidableEq, Repr

/-- The configuration space of the device (R49, R50, R102, R95). -/
def State.pciFunction (s : State) : PciFunction where
  vendorId := s.otp.vendor
  deviceId := 0x2408
  revisionId := s.otp.revision
  subsystemVendorId := s.otp.subVendor
  subsystemId := s.otp.subSystem
  classCode := 0x118000
  headerType := 0
  interruptPin := 0
  caps := [.powerManagement true, .msix 32, .pciExpressEndpoint, .advancedErrorReporting, .deviceSerialNumber s.otp.serial]
  linkSpeeds := [25, 50, 80]
  linkWidths := [2, 1]
  maxPayload := 256
  tagBits := 8
  aspmL1 := true
  aspmL0s := false
  functionLevelReset := false
  bars := [⟨true, false, 0x10000⟩, ⟨true, true, 0x100000⟩, ⟨false, false, 0⟩, ⟨false, false, 0⟩]
  busMasterEnable := s.host.bme
  d3hot := s.host.d3
  msixEnable := s.host.msixEnable
  msixMask := s.host.msixMask

/-- A configuration request is answered with Configuration Request Retry Status until HOST_STAT.READY = 1 (R609). -/
def State.pciConfigRetry (s : State) : Bool := !s.isOn .host || s.viewHost 0x2004 0 != some 1

end Sys2Proof.Machine
end

