-- ==== Sys2Proof/WellFormed.lean ====
section
/-! DEFINITION. Which commands are well formed: operands that their sender can give. -/

namespace Sys2Proof
open Machine

/-- An address of the register map: a multiple of 4 from `lo` to below `hi` (R8, R51). -/
def regAddrOk (a lo hi : Nat) : Bool := decide (a % 4 = 0) && decide (lo ≤ a) && decide (a < hi)

/-- A control token has the TYPE of its command, TSEQ has 8 bits and the CRC 16 (R515, R518). -/
def tokenOk (t : TokenRx) (type : Nat) : Bool := decide (t.type = type) && decide (t.tseq < 256) && decide (t.crc < 65536)

/-- A report of a received response counts no more data bits than its bytes hold (R129). -/
def rxOk (rx : RxReport) : Bool := decide (rx.nbits ≤ 8 * rx.data.length)

/-- A beam frame of at most 64 words (R535). -/
def beamFrameOk (b : List Byte) : Bool := decide (b.length ≤ 265)

/-- Well-formed commands. -/
def WellFormed : Instr → Bool
  | .powerOnReset pins => decide (pins < 4)
  | .resetN pins => decide (pins < 4)
  | .perstReset => true
  | .watchdogExpiry => true
  | .softwareReset _ => true
  | .watchdogKick _ => true
  | .startupAdvance _ => true
  | .registerWrite addr _ hi => regAddrOk addr 0 0x10000 && (hi.isNone || decide (addr % 8 = 0))
  | .bar0BadAccess _ addr _ => decide (addr < 0x10000)
  | .bar2Write off => decide (off < 0x100000)
  | .sysTbLoRead => true
  | .sysTbHiRead => true
  | .sysTbLoWrite _ => true
  | .sysTbHiWrite _ => true
  | .slotPeakClr _ => true
  | .sysHostDropClr _ => true
  | .sqTailDoorbell _ _ => true
  | .headDoorbell _ _ => true
  | .hostRingCfgWrite addr _ => regAddrOk addr 0x2100 0x27A0
  | .sqTeardownDone _ => true
  | .pcieBmeD3Change _ _ _ _ => true
  | .descriptorFetch _ _ => true
  | .fetchFail _ => true
  | .dataFetchFail _ _ => true
  | .descriptorDispatch _ => true
  | .nop _ => true
  | .completionCommit _ => true
  | .recordEgress _ => true
  | .eventEgress => true
  | .ringModTimeExpiry _ => true
  | .hfPllLock _ => true
  | .fieldOn _ => true
  | .fieldOnPllTimeout _ => true
  | .fieldOff _ => true
  | .transceive _ _ => true
  | .measure _ => true
  | .measureDone _ _ _ _ _ => true
  | .runPlan _ _ => true
  | .stopPlan _ => true
  | .rodFlush _ _ => true
  | .rodAbort _ _ => true
  | .carrierRampUpDone _ _ => true
  | .carrierRampDownDone _ => true
  | .holdExpiry _ => true
  | .guardExpiry _ => true
  | .idleOffExpiry _ => true
  | .powerStep _ => true
  | .frameStart _ => true
  | .frameTxEnd _ => true
  | .windowOpen _ => true
  | .windowClose _ => true
  | .sofDetect _ _ _ => true
  | .responseEnd _ rx => rxOk rx
  | .nextMinExpiry _ => true
  | .rodNltExpiry _ => true
  | .rodCntClr _ _ => true
  | .surveyStart _ => true
  | .surveyBegin => true
  | .surveyAverageEnd _ _ => true
  | .surveySlotEnd => true
  | .pilotPeriodEnd _ _ => true
  | .tapWrite addr _ => regAddrOk addr 0x5200 0x5540
  | .zoneMapWrite _ _ => true
  | .zoneChangeEffect _ => true
  | .zoneGrant _ => true
  | .budgetStartAllowed => true
  | .budgetLimitWrite _ => true
  | .tempSample _ _ _ _ => true
  | .shutdownClear _ => true
  | .endStep _ _ => true
  | .inventory _ => true
  | .inventoryCycle _ => true
  | .selectStep _ => true
  | .readBlocks _ => true
  | .readBlocksExt _ => true
  | .getInfo _ => true
  | .waitStep _ => true
  | .waitExpiry _ => true
  | .branchIf _ => true
  | .emitStep _ => true
  | .emitSyncWrite _ => true
  | .writeBlocks _ => true
  | .lockBlock _ => true
  | .filterVerdict _ j => decide (j < 4)
  | .heldRecordCarry _ j => decide (j < 4)
  | .carryLengthWord _ => true
  | .writeWaitExpiry _ => true
  | .roundEnd => true
  | .roundCtlEnd _ => true
  | .roundBoundary => true
  | .roundStepEnd => true
  | .specCntClr _ _ => true
  | .filterCfgWrite _ => true
  | .dedupCfgWrite _ => true
  | .tallyRunWrite _ => true
  | .tallyEnWrite _ => true
  | .tallyBaseWrite _ _ => true
  | .scanInstant => true
  | .tallyBurst => true
  | .tallyEvaluate _ _ => true
  | .tallyWakeEvent => true
  | .downlinkEnd _ => true
  | .burstSegment _ => true
  | .lfOvercurrent _ _ => true
  | .lfOpenFault _ _ => true
  | .lfErrWrite _ _ => true
  | .lfChannelCfgWrite addr _ => regAddrOk addr 0x8840 0x8940
  | .slotOpen => true
  | .syncDetect _ _ => true
  | .uplinkFrameEnd _ => true
  | .slotEnd _ _ => true
  | .trainStart => true
  | .trainEnd _ => true
  | .tpChargeEnd => true
  | .tpAnswerEnd _ _ => true
  | .tpWindowEnd => true
  | .tokRegWrite addr _ => regAddrOk addr 0x8400 0x841C
  | .tokCntClr _ => true
  | .openLock => true
  | .accLockStart _ _ => true
  | .accGpioTrigger _ _ => true
  | .accPeriodicTrigger _ => true
  | .exchangeStart _ => true
  | .accNltExpiry => true
  | .candidateJudge => true
  | .interlockWaitExpiry => true
  | .relFbDebounce _ _ => true
  | .releaseNoMove _ => true
  | .releasePulseEnd _ => true
  | .penaltyWaitEnd _ _ => true
  | .accCalibrate _ => true
  | .enrol => true
  | .revoke _ => true
  | .clearPenalty => true
  | .verifyDecrypt _ _ => true
  | .accAbort _ => true
  | .skipRestore _ => true
  | .accPlock _ => true
  | .mirrorRestoreStart _ => true
  | .mirrorRestoreDone _ _ => true
  | .mirrorWriteDone _ _ => true
  | .setRest => true
  | .transmit _ => true
  | .receive => true
  | .uhfCalibrate => true
  | .cwCommand => true
  | .uhfAbort _ => true
  | .uhfTransitionDone => true
  | .synthLockTimeout => true
  | .calStepDone => true
  | .calIntervalExpiry => true
  | .dutyBucketRotate => true
  | .uhfNltExpiry _ => true
  | .uhfTxEnd _ => true
  | .cwEnd _ => true
  | .uhfFrameReceived _ => true
  | .receiveWindowEnd => true
  | .import128 => true
  | .import256 => true
  | .erase _ _ => true
  | .kgenWrite _ => true
  | .keyPlock _ => true
  | .tokenEntryCapture _ => true
  | .cipher _ => true
  | .cipherAbort _ _ => true
  | .cipherRequestStart => true
  | .keyPreload _ => true
  | .cipherBlockDone _ => true
  | .random => true
  | .reseed => true
  | .rngGenerate _ => true
  | .rngReady _ _ => true
  | .rngHealthFail _ _ => true
  | .rngRestart _ => true
  | .bankSwap _ => true
  | .drainTake _ => true
  | .fifoModeWrite _ _ => true
  | .fifoModeChange _ => true
  | .tileSealDone _ => true
  | .sealAgeExpiry => true
  | .brdSealWrite _ => true
  | .tileVerifyDone _ _ => true
  | .tileFree _ => true
  | .tileRestore _ _ => true
  | .loadTile => true
  | .loadTileDone _ => true
  | .planWindowOpen _ => true
  | .planWindowClose _ => true
  | .planDataWrite _ => true
  | .ucodePlock _ => true
  | .ringCfgWrite _ => true
  | .linkUp _ => true
  | .linkLoss _ => true
  | .dataFrameReceived _ _ => true
  | .dataFrameSend _ _ => true
  | .latencyDropReport _ => true
  | .flowSymbolReceived _ _ => true
  | .xoffRepeat _ => true
  | .roundToken t => tokenOk t 1
  | .haltToken t => tokenOk t 2
  | .resumeToken t => tokenOk t 3
  | .timeSyncToken t _ _ => tokenOk t 4
  | .timeSyncSend _ => true
  | .timeSyncTimeout => true
  | .echoToken t _ => tokenOk t 8
  | .cableMeasure _ => true
  | .walkToken t => tokenOk t 5
  | .walkSend => true
  | .walkTimeout _ => true
  | .walkAbsenceTimeout => true
  | .resetToken t => tokenOk t 6
  | .breakToken t => tokenOk t 7
  | .ringHalt => true
  | .ringResume => true
  | .ringReset => true
  | .ringWalk => true
  | .beamRead => true
  | .beamWrite _ => true
  | .beamStart _ => true
  | .beamStop _ => true
  | .beamClaimCall _ => true
  | .beamResponse bytes => beamFrameOk bytes
  | .beamResponseTimeout => true
  | .beamNltExpiry => true
  | .beamReqRead bytes => beamFrameOk bytes
  | .beamReqWrite bytes => beamFrameOk bytes
  | .beamReqStart bytes => beamFrameOk bytes
  | .beamReqStop bytes => beamFrameOk bytes
  | .beamReqClaimCall bytes => beamFrameOk bytes
  | .claimFrame _ => true
  | .claimWindowEnd _ => true
  | .autoClaimCall => true
  | .beamAddrWrite _ => true
  | .beamTileRel _ => true
  | .tmrStart _ _ => true
  | .tmrResume _ _ => true
  | .tmrStop _ _ => true
  | .tmrSwcapt _ _ => true
  | .timerMatch _ tgate => decide (tgate < 256)
  | .timerOverflow _ tgate => decide (tgate < 256)
  | .timerCaptureEdge _ _ => true
  | .tmrLoWrite addr _ => regAddrOk addr 0xD000 0xD400
  | .tmrHiWrite addr _ => regAddrOk addr 0xD000 0xD400
  | .tmrCntLoRead _ => true
  | .tmrCntHiRead _ => true
  | .tmrCaptLoRead _ => true
  | .tmrCaptHiRead _ => true
  | .crcStart _ _ => true
  | .crcStop _ _ => true
  | .crcCfgWrite addr _ => regAddrOk addr 0xD800 0xD900
  | .crcFrameEnd _ => true
  | .xfer _ => true
  | .spiFlush _ => true
  | .spiAbort _ => true
  | .spiFrameEnd _ => true
  | .spiRetryExpiry => true
  | .spiNltExpiry => true
  | .gpioEdge _ _ => true
  | .gpioWindowEnd => true
  | .pwrReqWrite _ => true
  | .setPower => true
  | .setPowerRetry => true
  | .memberEntryDone => true
  | .wakeSource src _ _ => decide (1 ≤ src) && decide (src ≤ 7)
  | .wakeTimerExpiry => true
  | .wakeStart => true
  | .xtalStartDone => true
  | .wakePositionDone => true
  | .padRelease _ => true
  | .aonSrcWrite _ => true
  | .xtal32kStable => true
  | .bistRun => true
  | .bistCancel _ => true
  | .bistTargetsReady => true
  | .bistItemDone _ _ => true
  | .jtagInstruction x => decide (x.ir < 32)
  | .tapReset => true
  | .debugHalt _ _ => true
  | .debugStopped => true
  | .debugResume _ => true
  | .debugStep _ => true
  | .pcieLinkChange _ _ => true
  | .diversityChoice _ _ => true
  | .importWriteCycle => true
  | .timerTick _ tgate => decide (tgate < 256)
  | .reservedTypeToken t => decide (t.type = 0 ∨ 8 < t.type) && decide (t.type < 256) && decide (t.tseq < 256) && decide (t.crc < 65536)
  | .beamFrameAbort => true

end Sys2Proof
end

