-- ==== Sys2Proof/Tests/Slice0.lean ====
section
/-! SUPPORT. Own tests: ill-formed commands are refused, states that meet the hypotheses of every statement, and single steps
whose results the spec gives. -/

open Sys2Proof Sys2Proof.Machine
set_option maxRecDepth 4000

/-! ### WellFormed refuses an ill-formed term of each check -/

theorem test_wf_pins : WellFormed (.resetN 4) = false ∧ WellFormed (.powerOnReset 4) = false ∧ WellFormed (.resetN 3) = true := by decide
theorem test_wf_registers :
    WellFormed (.registerWrite 0x10000 0 none) = false ∧ WellFormed (.registerWrite 2 0 none) = false ∧ WellFormed (.registerWrite 0xFFFC 0 none) = true ∧ WellFormed (.registerWrite 0xFFFC 0 (some 0)) = false ∧
    WellFormed (.bar0BadAccess true 0x10000 4) = false ∧ WellFormed (.bar2Write 0x100000) = false ∧
    WellFormed (.hostRingCfgWrite 0x27A0 0) = false ∧ WellFormed (.tapWrite 0x51FC 0) = false ∧ WellFormed (.lfChannelCfgWrite 0x8940 0) = false ∧
    WellFormed (.tokRegWrite 0x841C 0) = false ∧ WellFormed (.tmrLoWrite 0xD400 0) = false ∧ WellFormed (.tmrHiWrite 0xCFFC 0) = false ∧
    WellFormed (.crcCfgWrite 0xD802 0) = false := by decide
theorem test_wf_reports :
    WellFormed (.responseEnd 0 ⟨[1], 9, none, [], false⟩) = false ∧ WellFormed (.filterVerdict 0 4) = false ∧
    WellFormed (.heldRecordCarry 0 4) = false := by decide
theorem test_wf_tokens :
    WellFormed (.roundToken ⟨true, 2, 0, [], 0⟩) = false ∧ WellFormed (.haltToken ⟨true, 2, 256, [], 0⟩) = false ∧
    WellFormed (.resumeToken ⟨true, 2, 0, [], 0⟩) = false ∧ WellFormed (.timeSyncToken ⟨true, 5, 0, [], 0⟩ 0 0) = false ∧
    WellFormed (.echoToken ⟨true, 5, 0, [], 0⟩ 0) = false ∧ WellFormed (.walkToken ⟨true, 4, 0, [], 0⟩) = false ∧
    WellFormed (.resetToken ⟨true, 7, 0, [], 0⟩) = false ∧ WellFormed (.breakToken ⟨true, 6, 0, [], 0⟩) = false ∧
    WellFormed (.reservedTypeToken ⟨true, 8, 0, [], 0⟩) = false ∧ WellFormed (.reservedTypeToken ⟨true, 9, 0, [], 65536⟩) = false ∧ WellFormed (.reservedTypeToken ⟨true, 9, 0, [], 0⟩) = true := by decide
theorem test_wf_beam :
    let b : List Byte := List.replicate 266 0
    WellFormed (.beamResponse b) = false ∧ WellFormed (.beamReqRead b) = false ∧ WellFormed (.beamReqWrite b) = false ∧
    WellFormed (.beamReqStart b) = false ∧ WellFormed (.beamReqStop b) = false ∧ WellFormed (.beamReqClaimCall b) = false := by decide
theorem test_wf_rest :
    WellFormed (.timerTick 0 256) = false ∧ WellFormed (.timerMatch 0 256) = false ∧ WellFormed (.timerOverflow 0 256) = false ∧
    WellFormed (.wakeSource 0 0 true) = false ∧ WellFormed (.wakeSource 8 0 true) = false ∧ WellFormed (.jtagInstruction ⟨32, [], []⟩) = false := by decide

/-! ### States from which the witnesses start -/

/-- Every domain ON, start-up over, the host may be written to: the state that most witnesses start from. -/
def upState : State :=
  { State.reset with
    pwr := { PwrPart.reset with st := Vector.replicate 12 .on, step := 0, xtal27 := true, hfLock := true }
    host := { HostPart.reset with bme := true } }

/-- A state with one descriptor staged on SQ31. -/
def stagedState (d : Desc) : State := { upState with txns := [newTxn 7 31 (some 31) d .staged []] }

/-- A state with one descriptor of unit `u` in its queue. -/
def queuedState (u : Nat) (d : Desc) : State := { upState with txns := [newTxn 7 u (some u) d .queued []] }

/-- A state with one record in the sealed tile 63, verified for the burst, routed to RQ0. -/
def recordState : State :=
  let s := (upState.wr F.HOST_CQ_CFG_EN 16 1).wr F.HOST_CQ_CFG_EN 20 1
  { s with board := { s.board with
      tiles := vset s.board.tiles 63 ⟨.sealed, [⟨5, 0, 2, false, none, 25, false, false, 0⟩], 0⟩, burst := some 63 } }

/-- A FIFO 23 with a published packet in its fill bank. -/
def fillState : State :=
  upState.modFifo 23 (fun q => { q with fill := [⟨1, 0, 23, 0, 0, 0, false, 0, [], false, 0, 5, none, 0⟩], fillWords := 5 })

/-- A packet of rod 23 in the drain bank, tile 0 OPEN. -/
def drainState : State :=
  let s := upState.modFifo 23 (fun q => { q with drain := [⟨1, 0, 23, 0, 0, 0, false, 0, [7], false, 0, 6, none, 0⟩] })
  { s with board := { s.board with tiles := vset s.board.tiles 0 ⟨.opened, [], 0⟩ } }

/-- Rod 23 with the given state, PLL locked. -/
def rodState (f : Rod → Rod) : State := upState.modRod 23 f

/-- Rod 23 with the given state, and one transaction of its queue. -/
def rodTxnState (f : Rod → Rod) (d : Desc) (ph : TxPhase) : State :=
  { rodState f with txns := [newTxn 7 23 (some 23) d ph []] }

/-- An exchange of transaction 7 in a phase. -/
def testAir (ph : AirPhase) (noRx : Bool) : Exchange :=
  ⟨ph, .transceive, some 7, ⟨0, false, 0, 0, false, 10, 128, 4096, 8704, 4192⟩, [1], 0, 0, true, true, noRx, 4, false, 0, [], ExCount.zero, [], 0⟩

/-- An invocation of plan 5 in tile 0 with ISO/IEC 15693 profiles, standing at step 0. -/
def testPlan : Plan :=
  ⟨5, 0, 0, 0, 0, 0, 0, 0, 0, 0, none, .boundary, none, none, ⟨List.replicate 4 (testAir .ready false).prof, 0, 0, 0, false, 0, true, 0⟩,
    .rod, none, none, false, false, []⟩

/-- Rod 23 with its carrier ON runs the invocation `p`; the bytes `b` stand at the start of plan tile 0, which is READY. -/
def planState (b : List Byte) (p : Plan) : State :=
  let s := rodState (fun r => { r with carrier := .on, guard := true, plan := some p })
  { s with planMem := Memory.writeBytes [] 0 b, board := { s.board with planTiles := vset s.board.planTiles 0 ⟨.ready, 0⟩ } }

/-- An open held record of a UID. -/
def testHeld : Held := ⟨[1, 2, 3, 4, 5, 6, 7, 0xE0#8], 0, 23, 0, 0, false, [], false, false, some true, true, false, 0, ExCount.zero, none⟩

/-- A tag whose per-tag list stands at its first step. -/
def testTag : TagRun := ⟨[1, 2, 3, 4, 5, 6, 7, 0xE0#8], 0, false, false, false, false, [], 0, 23, 0, false, none, false, false⟩

/-- An invocation within a cycle of INVENTORY step 0, whose one per-tag step is step 1. -/
def invPlan (t : Option TagRun) : Plan :=
  { testPlan with stage := .inventory, invAny := some false, inv := some { newInv testPlan [1, 0, 1, 0, 1, 0, 0, 0, 0, 0, 0, 0, 0, 0, 0, 0] with
      inCycle := t.isSome, tag := t } }

/-- A downlink frame of a kind on LF channel 7 to a target; with `tp` a transponder exchange. -/
def testFrame (k : DownKind) (target : Nat) (tp burst : Bool) : DownFrame :=
  ⟨k, 7, k.code, target, 0, tp, burst, [0, 0, 1], [6, 15, 15], 0, [], none, false, ⟨0, 0, 200, 1, 200, 1250, 0, 5, 16, 0, 26, 50, 0, false⟩⟩

/-- The link carries a frame, or listens after one. -/
def linkState (fr last : Option DownFrame) (l : ListenState) : State :=
  { upState with link := { upState.link with frame := fr, last := last, listen := l } }

/-- Lock 3 enabled, failure counts restored, region set; requests and the running transaction of the sequencer as given, and
the transaction 7 of SQ24 with descriptor `d`. -/
def accState (f : AccPart → AccPart) (d : Desc) (ph : TxPhase) : State :=
  let s : State := { upState with acc := f { AccPart.reset with needRestore := false }, otp := { upState.otp with region := 1 },
                                  txns := [newTxn 7 24 (some 24) d ph []] }
  ((s.wr F.ACC_LOCK_CFG_EN 3 1).wr F.LF_CFG_EN 0 1).wr F.ACC_LOCK_TRIG_EDGE 3 3

/-- Settings of a lock at reset. -/
def testLock : LockSet := upState.lockSet 3

/-- A candidate answer that names token 1023. -/
def testCand : Candidate := ⟨[0xFF, 3, 1], 0, testFrame .poll 0xFFFF false false, false⟩

/-- A running exchange of lock 3 at a stage. -/
def testRun (q : AccReq) (st : AccStage) (cands : List Candidate) (p : Option PathRun) : AccRun :=
  ⟨q, 1, 3, false, testLock, st, 3, cands, p, [], false, [], [], 0, 0, false, true, false, none, false, [], none, none, 0, 0, 0, [], 0, false, none, .idle⟩

/-- Radio in state `st` on channel 0, calibrated, region set with one sub-band of 1 % duty; transaction 7 of SQ25 with
descriptor `d`. -/
def uhfState (st : Nat) (d : Desc) (ph : TxPhase) (f : UhfPart → UhfPart) : State :=
  let s : State := { upState with uhf := f UhfPart.reset, txns := [newTxn 7 25 (some 25) d ph []],
                                  otp := { upState.otp with region := 1, nChan := 1, chmap := [0], subBands := [(14, 100)] } }
  ((s.wr F.UHF_STAT_STATE 0 st).wr F.UHF_CAL_STAT_VALID 0 1)

/-- The key store with slot 511 LOADED and transaction 7 of SQ26 with descriptor `d`. -/
def keyState (d : Desc) (ph : TxPhase) (f : State → State) : State :=
  f (({ upState with txns := [newTxn 7 26 (some 26) d ph []] } : State).setKeySlot 511 ⟨true, false, 3, 4, List.replicate 16 0⟩)

/-! ### Witnesses: the hypotheses of each statement hold together somewhere -/

/-- Offset 4 of BAR0 holds no register; SYS_HOST_DROP lies in CORE; CLK_CFG has an effect of its own, PWR_REQ's neighbour none. -/
theorem test_registerWrite_hyps :
    regMapRow? 0x2FFC = none ∧
    (∃ r, regMapRow? 0x8000 = some r ∧ State.reset.isOn (domainOf 0x8000) = false) ∧
    (∃ r, regMapRow? 0x4000 = some r ∧ upState.isOn (domainOf 0x4000) = true ∧ (hookOf 0x4000).isSome = true) ∧
    (∃ r, regMapRow? 0x2000 = some r ∧ upState.isOn (domainOf 0x2000) = true ∧ hookOf 0x2000 = none) :=
  ⟨by decide, ⟨_, rfl, by decide⟩, ⟨_, rfl, by decide, rfl⟩, ⟨_, rfl, by decide, rfl⟩⟩

theorem test_timebase_hyps :
    upState.isOn .core = true ∧ upState.sys.tbLatch = none ∧
    ({ upState with sys := { upState.sys with tbLatch := some 0xFFFFFFFF } }).sys.tbLatch = some (0xFFFFFFFF : Word) ∧
    (0x80000000 : Word).toNat.testBit 31 = true ∧ (0x7FFFFFFF : Word).toNat.testBit 31 = false := by decide

theorem test_perst_hyps : upState.pst .host = .on ∧ State.reset.pst .host = .off := by decide

theorem test_warmReset_hyps :
    ((upState.setF F.RST_WDT_CFG_EN 0).flag F.RST_WDT_CFG_EN = true ∧ (upState.setF F.RST_WDT_CFG_EN 0).isOn .core = true) ∧
    bits (0x12345A3C : Word).toNat 15 0 = 0x5A3C ∧ State.reset.isOn .aon = true ∧ bits (0x5A3D : Word).toNat 15 0 ≠ 0x5A3C ∧
    State.reset.flag F.RST_WDT_CFG_EN = false := by decide
theorem test_kick_hyps : State.reset.isOn .aon = true := by decide

theorem test_startup_hyps :
    State.reset.pwr.halted = false ∧ State.reset.pwr.step = 1 ∧ upState.pwr.step = 0 ∧
    (({ upState with pwr := { upState.pwr with step := 2 } } : State).setPst .core .transit).pst .core = .transit ∧
    (({ upState with pwr := { upState.pwr with step := 4 } } : State).setPst .keys .transit).pst .keys = .transit ∧
    ((({ upState with pwr := { upState.pwr with step := 5 } } : State).setPst .plan .transit).setPst .board .transit).pst
      .plan = .transit ∧
    (({ upState with pwr := { upState.pwr with step := 6 } } : State).setPst .crypto .transit).pst .crypto = .transit ∧
    upState.pwr.warm = false ∧ upState.test.bootDone = false ∧ Otp.blank.bistStartup = false ∧ upState.sys.role ≠ .reserved ∧
    (Otp.blank.burnt { Otp.blank with bistStartup := true }).bistStartup = true ∧ upState.otpMem = Otp.blank ∧
    upState.bootRunOf [] = none ∧ (upState.bootRunOf ((bistItems 0x3FE 0xFF).map (fun k => (k, 0, true)))).isSome = true ∧
    upState.test.bootOn = false ∧ bootPositions .standalone ≠ [] ∧
    (upState.modTest (fun t => { t with bootOn := true, bootWake := [[.keys]] })).test.bootWake = [.keys] :: [] := by decide
theorem test_image_hyps :
    let at9 : Nat → State := fun k => { upState with pwr := { upState.pwr with step := k } }
    (at9 9).pwr.halted = false ∧ (Flash.ofSfdp []).isNone = true ∧ leNat (([] : List Byte).take 4) ≠ 0x4B544C32 ∧
    leNat ([0x32, 0x4C, 0x54, 0x4B] : List Byte) = 0x4B544C32 ∧ (at9 11).referenced (ix 15 3) = false ∧
    (at9 11).referenced (ix 15 15) = true ∧ ((at9 9).modSerial (fun x => { x with load := true })).serial.load = true ∧
    (at9 12).test.bootRun = none ∧ (at9 12).bistOnWay = false ∧ (at9 12).pwr.run = none ∧ (at9 12).pwr.imageRegs = [] := by decide

theorem test_doorbell_hyps :
    let s1 := upState.wr F.HOST_SQ_CFG_EN 31 1
    let s2 := (upState.wr F.HOST_CQ_CFG_EN 20 1).wr F.HOST_CQ_STAT_WRITTEN 20 2
    upState.isOn .host = true ∧ s1.isOn .host = true ∧ s1.flag F.HOST_SQ_CFG_EN 31 = true ∧
    (16 + 65536 - s1.rd F.HOST_SQ_STAT_FETCHED 31) % 65536 ≤ 2 ^ s1.rd F.HOST_SQ_CFG_SIZE 31 ∧
    2 ^ s1.rd F.HOST_SQ_CFG_SIZE 31 < (17 + 65536 - s1.rd F.HOST_SQ_STAT_FETCHED 31) % 65536 ∧
    upState.flag F.HOST_SQ_CFG_EN 31 = false ∧ s2.isOn .host = true ∧ s2.flag F.HOST_CQ_CFG_EN DevRing.eq.idx.val = true ∧
    (2 + 65536 - s2.rd F.DOORBELL_CQ_COUNT 20) % 65536 ≤ (s2.rd F.HOST_CQ_STAT_WRITTEN 20 + 65536 - s2.rd F.DOORBELL_CQ_COUNT 20) % 65536 ∧
    ¬((3 + 65536 - s2.rd F.DOORBELL_CQ_COUNT 20) % 65536 ≤ (s2.rd F.HOST_CQ_STAT_WRITTEN 20 + 65536 - s2.rd F.DOORBELL_CQ_COUNT 20) % 65536) ∧
    upState.flag F.HOST_CQ_CFG_EN DevRing.eq.idx.val = false := by decide

theorem test_ringCfg_hyps :
    let s1 := upState.wr F.HOST_SQ_CFG_EN 31 1
    let s2 := upState.wr F.HOST_CQ_CFG_EN 15 1
    upState.isOn .host = true ∧ s1.isOn .host = true ∧ s2.isOn .host = true ∧ upState.flag F.HOST_SQ_CFG_EN 31 = false ∧
    s1.flag F.HOST_SQ_CFG_EN 31 = true ∧ 0x100 / 64 ≠ upState.rd F.HOST_SQ_BASE_LO_BASE 31 ∧
    s2.flag F.HOST_SQ_CFG_EN 31 = false ∧ s2.flag F.HOST_CQ_CFG_EN (0x10F0C / 256 % 16) = true ∧
    (0x10F0C).testBit 16 = true ∧ 0x10F0C % 16 = 12 ∧ upState.flag F.HOST_CQ_CFG_EN (0x10F0C / 256 % 16) = false ∧
    (0xF0C).testBit 16 = false ∧ upState.flag F.HOST_CQ_CFG_EN (DevRing.eq).idx.val = false ∧
    s2.flag F.HOST_CQ_CFG_EN (DevRing.cq 15).idx.val = true ∧
    (let s3 := (s2.wr F.HOST_SQ_CFG_EN 31 1).wr F.HOST_SQ_CFG_CQ 31 15
     s3.flag F.HOST_SQ_CFG_EN (31 : Fin 32).val = true ∧ s3.rd F.HOST_SQ_CFG_CQ (31 : Fin 32).val = (15 : Fin 16).val ∧
     s3.flag F.HOST_CQ_CFG_EN (DevRing.cq 15).idx.val = true) ∧
    0xFF % 256 ≠ s2.rd F.HOST_CQ_MOD_MOD_CNT (DevRing.cq 15).idx.val := by decide

theorem test_hostBus_hyps :
    let s1 := (upState.wr F.HOST_CQ_CFG_IRQ_EN 20 1)
    let s2 : State := { s1 with host := { s1.host with unsig := vset s1.host.unsig 20 [(2, 0)] } }
    s2.isOn .host = true ∧ s2.flag F.HOST_CQ_CFG_IRQ_EN DevRing.eq.idx.val = true ∧ vget s2.host.unsig DevRing.eq.idx ≠ [] ∧
    upState.flag F.HOST_CQ_CFG_IRQ_EN DevRing.eq.idx.val = false ∧ State.reset.isOn .host = false := by decide

theorem test_fetch_hyps :
    let s1 := (upState.wr F.HOST_SQ_CFG_EN 31 1).wr F.DOORBELL_SQ_COUNT 31 1
    s1.mayFetch 31 = true ∧ s1.slotFor 31 = true ∧ s1.generalTurn 31 = true ∧ atFetch (sqUnit 31) (descByte 1 0) = false ∧
    upState.mayFetch 31 = false := by decide

theorem test_dispatch_hyps :
    let u := newTxn 7 31 (some 31) 0 .staged []
    let v := newTxn 7 31 (some 31) 0x80 .staged []
    (stagedState 0).nextStaged 31 = some u ∧ (stagedState 0).txn? 7 = some u ∧ (stagedState 0).freeSlot 31 = some .general ∧
    (stagedState 0).isOn .core = true ∧ (stagedState 0).isOn .board = true ∧ (stagedState 0).fenced u = false ∧
    (stagedState 0).descBad 31 u.desc = false ∧ u.op = 0 ∧ (descDomains 31 0).all (stagedState 0).isOn = true ∧
    (stagedState 0).nltPassed u.desc = false ∧ (stagedState 0x80).nextStaged 31 = some v ∧
    (stagedState 0x80).descBad 31 v.desc = true ∧ upState.nextStaged 31 = none ∧
    (queuedState 31 0).txns.find? (fun t => t.sq == some 31 && t.isQueued && t.op == 0) = some (newTxn 7 31 (some 31) 0 .queued []) ∧
    (queuedState 31 0).txn? 7 = some (newTxn 7 31 (some 31) 0 .queued []) := by decide

theorem test_commit_hyps :
    let u : Txn := newTxn 7 31 (some 31) 0 (.done .ok) []
    let v : Txn := { newTxn 7 31 (some 31) 0 (.done .ok) [] with orphan := true }
    let w : Txn := newTxn 7 23 none 0 (.done .ok) [5]
    let s1 : State := { (upState.wr F.HOST_CQ_CFG_EN 0 1) with txns := [u] }
    s1.nextCompletion 31 = some u ∧ u.orphan = false ∧ s1.mayDma = true ∧ s1.isOn .board = true ∧
    s1.flag F.HOST_CQ_CFG_EN (s1.rd F.HOST_SQ_CFG_CQ 31) = true ∧ 1 ≤ s1.ringRoom (ix 20 0) ∧ s1.recordsOut u = false ∧
    (let s2 : State := { upState with txns := [v] }; s2.nextCompletion 31 = some v ∧ v.orphan = true) ∧
    (let s3 : State := { upState with txns := [w] }; s3.nextCompletion 23 = none ∧
      s3.txns.find? (fun t => t.unit == 23 && t.sq.isNone) = some w ∧ w.live = false ∧
      s3.fifos.toList.any (fun f => f.holds 7) = false) ∧ upState.nextCompletion 24 = none := by decide

theorem test_dataFail_hyps :
    let u := newTxn 7 29 (some 29) 2 .queued []
    (queuedState 29 2).mayDma = true ∧
    (queuedState 29 2).txns.find? (fun t => t.sq == some 29 && (queuedState 29 2).readsBuffer t) = some u ∧
    u.unit = unitBeam ∧ (queuedState 29 2).txn? 7 = some u ∧ State.reset.mayDma = false := by decide
theorem test_hostAccess_hyps : upState.isOn .host = true ∧ State.reset.isOn .host = false ∧ ¬((2 = 4 ∧ 0 % 4 = 0) ∨ (2 = 8 ∧ 0 % 8 = 0)) := by decide

theorem test_atFetch_hyps :
    let s1 := (upState.wr F.HOST_SQ_CFG_EN 24 1).wr F.DOORBELL_SQ_COUNT 24 1
    let s2 : State := { (upState.wr F.HOST_SQ_CFG_EN 26 1).wr F.DOORBELL_SQ_COUNT 26 1 with
      pwr := { upState.pwr with st := vset upState.pwr.st 9 .off } }
    s1.mayFetch 24 = true ∧ s1.descBad 24 (4 + 2 ^ 400) = true ∧ descByte (4 + 2 ^ 400) 0 = 4 ∧ s1.txn? s1.sys.nextId = none ∧
    s2.mayFetch 26 = true ∧ s2.descBad 26 0x12 = false ∧ (descDomains 26 0x12).all s2.isOn = false ∧
    s2.txns.any (fun t => t.sq == some 26) = false ∧ upState.mayFetch 24 = false := by decide

theorem test_egress_hyps :
    let e : Event := ⟨0x10, 0x80, [], none, none⟩
    let s2 : State := { recordState with host := { recordState.host with staging := [e] } }
    let s3 : State := { drainState with sys := { drainState.sys with role := .satellite, waitEvents := [e] } }
    recordState.mayDma = true ∧ recordState.isOn .board = true ∧ recordState.sys.role ≠ .satellite ∧
    recordState.flag F.HOST_CQ_CFG_EN (16 + (0 : Fin 4).val) = true ∧
    recordState.oldestRec (fun r => !r.event && recordState.routeOf r == (0 : Fin 4).val) =
      some (63, ⟨5, 0, 2, false, none, 25, false, false, 0⟩) ∧
    (recordState.tile 63).st = .sealed ∧ recordState.board.burst = some (63 : Fin 64).val ∧
    2 ≤ recordState.ringRoom (DevRing.rq 0).idx ∧
    s2.host.staging = [e] ∧ s2.flag F.HOST_CQ_CFG_EN 20 = true ∧ 2 ≤ s2.ringRoom 20 ∧
    s3.sys.role = .satellite ∧ s3.sys.waitEvents = [e] ∧ s3.isOn .board = true ∧ s3.board.full = false ∧
    s3.roomFor 2 = (s3, some 0) := by decide
theorem test_drain_hyps :
    let w : State := { upState with ingress := [⟨false, List.replicate 32 0, true⟩],
                                    board := { upState.board with tiles := vset upState.board.tiles 0 ⟨.opened, [], 0⟩ } }
    drainState.isOn .board = true ∧ drainState.isOn .core = true ∧ drainState.board.full = false ∧
    drainState.nextSource = some 23 ∧ (drainState.fifo 23).drain = [⟨1, 0, 23, 0, 0, 0, false, 0, [7], false, 0, 6, none, 0⟩] ∧
    drainState.roomFor (recordLen 1) = (drainState, some 0) ∧ drainState.roomFor (recordLen 0) = (drainState, some 0) ∧
    w.nextSource = some 25 ∧ w.roomFor (recordLen (packetOfBytes (List.replicate 32 0)).content.length) = (w, some 0) ∧
    upState.nextSource = none := by decide

theorem test_fifo_hyps :
    let s2 := upState.wr F.FIFO_CFG_CREDIT 23 1
    (fillState.fifo 23).drain = [] ∧ (fillState.fifo 23).fill ≠ [] ∧ (fillState.fifo 23).isOpen = false ∧
    upState.isOn .board = true ∧ (upState.fifo 24).fill = [] ∧ s2.flag F.FIFO_CFG_CREDIT 23 ≠ (s2.fifo 23).credit ∧
    (s2.fifo 23).fill = [] ∧ (s2.fifo 23).drain = [] ∧ (s2.fifo 23).isOpen = false ∧ (s2.fifo 23).waiting = [] := by decide

theorem test_tiles_hyps :
    let tl : TileState → List BoardRec → State := fun st l =>
      { upState with board := { upState.board with tiles := vset upState.board.tiles 63 ⟨st, l, 0⟩ } }
    let r : BoardRec := ⟨5, 0, 2, false, none, 25, false, false, 0⟩
    ({ recordState with board := { recordState.board with burst := none } } : State).askVerify.board.verify.head? = some (63 : Fin 64).val ∧
    ((tl .sealing []).tile 63).st = .sealing ∧ (upState.tile 63).st ≠ .sealing ∧ (tl .opened [r]).openTile? = some 63 ∧
    ((tl .opened [r]).tile 63).recs ≠ [] ∧ (tl .opened [r]).rd F.BRD_CFG_SEAL_AGE ≠ 0 ∧ upState.isOn .board = true ∧
    ((tl .sealed [r]).tile 63).st = .sealed ∧ (∃ x ∈ ((tl .sealed [r]).tile 63).recs, x.left = false) ∧
    (∀ x ∈ ((tl .sealed [{ r with left := true }]).tile 63).recs, x.left = true) ∧ upState.sys.waitEvents = [] ∧
    ((tl .out []).tile 63).st = .out ∧ (0x13F : Word).toNat % 64 = (63 : Fin 64).val ∧ (0x13F : Word).toNat.testBit 8 = true ∧
    upState.isOn .core = true ∧ upState.flag F.RING_CFG_EN = false := by decide

theorem test_planTile_hyps :
    let u := newTxn 7 28 (some 28) (0x31 + 15 * 2 ^ 128) .queued []
    let v := { u with phase := .running }
    let s1 : State := { upState with txns := [u] }
    let s2 : State := { upState with txns := [v] }
    let w := { u with phase := .staged }
    let s3 : State := { upState with txns := [w] }
    s3.nextStaged 28 = some w ∧ s3.txn? 7 = some w ∧ s3.freeSlot 28 = some .general ∧ s3.mayDispatch w = true ∧
    w.sq = some 28 ∧ w.op = 0x31 ∧ s3.referenced (ix 15 (descByte w.desc 16)) = true ∧
    s3.dispatchEnd unitSys (0x31 + 14 * 2 ^ 128) = none ∧
    s1.takeHead? unitSys 0x31 = some u ∧ s1.txn? 7 = some u ∧ s1.referenced (ix 15 (descByte u.desc 16)) = true ∧
    s1.referenced (ix 15 14) = false ∧ s2.running? unitSys = some v ∧ v.op = 0x31 ∧ s2.txn? 7 = some v ∧
    upState.isOn .board = true ∧ upState.isOn .plan = true ∧ upState.board.window = none ∧
    ({ upState with board := { upState.board with window := some 15 } } : State).board.window = some (15 : Fin 16).val ∧
    (0x100 : Word).toNat.testBit 8 = true ∧ (0x200 : Word).toNat.testBit 9 = true ∧ (0x10000 : Word).toNat.testBit 16 = true := by
  decide

theorem test_pwrReq_hyps :
    let up := (2 ^ 24 - 4 : Nat)
    let u := newTxn 7 28 (some 28) (0x20 + up * 2 ^ 128) .queued []
    let s1 : State := { upState with txns := [u] }
    let sp : SetPower := ⟨7, 1, 100, 0, 0, false⟩
    let s2 : State := { upState with txns := [{ u with phase := .running }], pwr := { upState.pwr with setPower := some sp, aonMicros := 101 } }
    upState.isOn .aon = true ∧ upState.pwrBusy = false ∧ upState.pwr.setPower = none ∧ upState.latchedSources = [] ∧
    (targetsOf up).all (· == 3) = true ∧ (targetsOf 0xFFFFEC).all (· == 3) = false ∧
    (upState.checkRequest (targetsOf 0xFFFFE8)).2 = none ∧
    upState.lowered (upState.checkRequest (targetsOf 0xFFFFE8)).1 = [] ∧ upState.raised (upState.checkRequest (targetsOf 0xFFFFE8)).1 = [] ∧
    (upState.checkRequest (targetsOf 0xFFFFE0)).2.isSome = true ∧
    s1.takeHead? unitSys 0x20 = some u ∧ s1.txn? 7 = some u ∧ s2.pwr.setPower = some sp ∧ s2.pwrBusy = false ∧
    s2.txn? 7 = some { u with phase := .running } ∧ ({ u with phase := .running } : Txn).live = true := by decide

theorem test_members_hyps :
    let r : PwrRun := ⟨.register, 1, false, [], some (.uhf, .ret), [], [], [], [(.uhf, .on)], false, false, []⟩
    let rb := { r with cur := some (Domain.hfb, PState.off) }
    let rx := { r with cur := none, xtalWait := true, up := [.core] }
    let s1 : State := { upState with pwr := { upState.pwr with run := some r } }
    let s3 : State := { fillState with pwr := { upState.pwr with run := some rb } }
    let s4 := ((upState.wr F.PWR_WAKE_EN_EN 0 127).wr F.PWR_WAKE_LATCH_LATCHED 0 2).wr F.PWR_WAKE_MAP2_MAP 0 64
    let s5 : State := { s4 with pwr := { s4.pwr with st := vset s4.pwr.st 7 .ret } }
    s1.pwr.run = some r ∧ s1.latchedSources = [] ∧ s1.pwr.setPower = none ∧ s3.pwr.run = some rb ∧ s3.memberEmpty .hfb = false ∧
    s4.sourceDetected 7 0 true = true ∧ ((upState.wr F.PWR_WAKE_GPIO_EDGE 0 4).rd F.PWR_WAKE_GPIO_EDGE / 4 ^ 1) % 4 = 1 ∧
    (upState.wr F.PWR_WAKE_GPIO_EDGE 0 4).sourceDetected 3 1 true = true ∧ (upState.wr F.PWR_WAKE_GPIO_EDGE 0 4).sourceDetected 3 1 false = false ∧ (s4.rd F.PWR_WAKE_EN_EN).testBit 6 = true ∧ (upState.rd F.PWR_WAKE_EN_EN).testBit 6 = false ∧
    (upState.wr F.PWR_WAKE_TIMER_COUNT 0 1).rd F.PWR_WAKE_TIMER_COUNT ≠ 0 ∧ upState.rd F.PWR_WAKE_TIMER_COUNT = 0 ∧
    s5.pwrBusy = false ∧ s5.pwr.step = 0 ∧ s5.latchedSources ≠ [] ∧ s5.isOn .core = true ∧
    s5.wakeDomains.filter (fun d => !s5.isOn d) ≠ [] ∧ State.reset.pwr.xtal27 = false ∧ State.reset.pwr.step = 1 ∧
    ({ upState with pwr := { upState.pwr with xtal27 := false, run := some rx } } : State).pwr.run = some rx ∧ rx.up.contains .core = true := by decide
theorem test_pads_hyps : upState.isOn .aon = true ∧ upState.rd F.PWR_PAD_RELEASE_HELD = 0 ∧ (4 : Word).toNat = 4 ∧
    (upState.wr F.PWR_PAD_RELEASE_HELD 0 4).padsHeld .host = true := by decide

theorem test_carrier_hyps :
    let on := fun r : Rod => { r with carrier := Carrier.on }
    let q := fun d => newTxn 7 23 (some 23) d .queued []
    let id := fun r : Rod => r
    let lst : State := { rodTxnState on 2 .queued with rods := vset (rodTxnState on 2 .queued).rods 5 { Rod.reset with air := some { testAir .tx false with listeners := [23] } } }
    (rodTxnState on 1 .queued).rodTake? 23 1 = some (q 1) ∧ (rodTxnState on 1 .queued).txn? 7 = some (q 1) ∧
    (rodTxnState on 1 .queued).nltPassed (q 1).desc = false ∧
    ((rodTxnState on 1 .queued).rod 23).carrier = .on ∧ (rodTxnState id 1 .queued).rodTake? 23 1 = some (q 1) ∧
    ((rodTxnState id 1 .queued).rod 23).carrier = .off ∧ (rodTxnState id 1 .queued).pwr.hfLock = true ∧
    (rodTxnState id 1 .queued).field.queue = [] ∧ (rodTxnState id 1 .queued).startFits 23 (codeKept (rodTxnState id 1 .queued) 23 (q 1)) = true ∧
    (rodTxnState id 1 .running).wantsOn? 23 = some (newTxn 7 23 (some 23) 1 .running []) ∧
    (rodTxnState on 2 .queued).rodTake? 23 2 = some (q 2) ∧ (rodTxnState on 2 .queued).listening 23 = false ∧
    lst.rodTake? 23 2 = some (q 2) ∧ lst.listening 23 = true ∧
    ((rodState (fun r => { r with carrier := .rampUp })).rod 23).carrier = .rampUp ∧
    ((rodState (fun r => { r with carrier := .rampDown })).rod 23).carrier = .rampDown ∧
    (rodState (fun r => { r with carrier := .hold })).wantsCarrier 23 = false ∧ ((rodState on).rod 23).guard = false ∧
    (rodState on).hasRodTxn 23 = false ∧ (rodState on).plan? 23 = none ∧
    ((rodState on).wr F.ROD_IDLE_IDLE_OFF 23 1).rd F.ROD_IDLE_IDLE_OFF 23 ≠ 0 ∧
    ((rodState (fun r => { on r with goal := 3 })).rod 23).code ≠ ((rodState (fun r => { on r with goal := 3 })).rod 23).goal ∧
    upState.hfReq = true ∧ State.reset.hfReq = false := by decide
theorem test_late_hyps :
    let s : State := { rodTxnState (fun r => r) 0x401 .queued with sys := { upState.sys with timebase := 9 } }
    s.rodTake? 23 1 = some (newTxn 7 23 (some 23) 0x401 .queued []) ∧ s.nltPassed 0x401 = true := by decide
theorem test_gain_hyps :
    let s := rodState (fun r => { r with carrier := .rampUp, snap := some ⟨[], 3, 0, 2, true, 0, true, 0⟩ })
    (s.rodInForce 23).2 = some ⟨[], 3, 0, 2, true, 0, true, 0⟩ ∧ s.guardTime 23 = 0 ∧ [true, true].getD 1 false = true := by decide

theorem test_exchange_hyps :
    let ready := fun r : Rod => { r with carrier := .on, guard := true, air := some (testAir .ready false) }
    let st := fun ph b => rodTxnState (fun r => { r with carrier := .on, guard := true, air := some (testAir ph b) }) 3 .running
    let u := newTxn 7 23 (some 23) 3 .running []
    (rodTxnState (fun r => r) 3 .queued).rodTake? 23 3 = some (newTxn 7 23 (some 23) 3 .queued []) ∧
    ((rodState ready).rod 23).air = some (testAir .ready false) ∧ (rodState ready).frameClear 23 = true ∧
    (st .tx true).frameClear 23 = false ∧ (testAir .tx true).txn = some u.id ∧ (st .tx true).txn? 7 = some u ∧
    (st .tx true).rodBusy? 23 = some u ∧ u.live = true ∧ ((st .window false).rod 23).air = some (testAir .window false) ∧
    ((st .window false).rod 23).lateRx = false ∧ (st .receiving false).rodBusy? 23 = some u ∧
    ((rodState (fun r => { r with gap := true })).rod 23).gap = true ∧ ((rodState ready).rod 23).gap = false := by decide

theorem test_rodDesc_hyps :
    let on := fun r : Rod => { r with carrier := Carrier.on, guard := true }
    let q := fun d => newTxn 7 23 (some 23) d .queued []
    let s6 := (upState.wr F.HOST_SQ_CFG_EN 23 1).wr F.DOORBELL_SQ_COUNT 23 1
    let s7 : State := { rodTxnState (fun r => r) 0x401 .queued with sys := { upState.sys with timebase := 9 } }
    let s8 : State := { rodTxnState (fun r => r) 5 .queued with
      board := { upState.board with planTiles := vset upState.board.planTiles 0 ⟨.ready, 0⟩ } }
    (rodTxnState on 4 .queued).rodTake? 23 4 = some (q 4) ∧
    (rodTxnState on 4 .running).rodRuns? 23 4 = some (newTxn 7 23 (some 23) 4 .running []) ∧
    (rodTxnState on 4 .running).canMeasure 23 (newTxn 7 23 (some 23) 4 .running []) = true ∧
    (rodTxnState (fun r => r) 4 .running).canMeasure 23 (newTxn 7 23 (some 23) 4 .running []) = false ∧
    s8.rodTake? 23 5 = some (q 5) ∧ s8.plan? 23 = none ∧ s8.board.verify = [] ∧ (State.verifyPlanTiles [] (planTiles 0 s8.filterNow) s8).2 = true ∧
    (State.verifyPlanTiles [] (planTiles 0 none) (rodTxnState (fun r => r) 5 .queued)).2 = false ∧
    (rodTxnState on 6 .queued).txns.find? (fun t => t.unit == 23 && t.isQueued && t.op == 6) = some (q 6) ∧
    s7.txns.find? (fun t => t.unit == 23 && s7.nltPassed t.desc && s7.stillWaits 23 t) = some (q 0x401) ∧
    upState.isOn (bankOf 23) = true ∧ s6.mayFetch (ix 31 23) = true ∧ s6.txns = [] ∧ s6.plan? 23 = none ∧ (s6.rod 23).held = [] ∧
    s6.fetchEnd 23 0x0E = none ∧ s6.fetchEnd 23 0x0F = none ∧ (∀ m, s6.plan? m = none) := by decide
theorem test_rodCut_hyps :
    let u := newTxn 7 23 (some 23) 3 .running []
    let w := newTxn 8 23 (some 23) 3 .staged []
    let s : State := { (((rodState (fun r => { r with
        carrier := .on, guard := true, air := some (testAir .tx false), held := [testHeld], plan := some testPlan })).wr F.HOST_SQ_CFG_EN 23 1).wr F.DOORBELL_SQ_COUNT 23 1) with
        txns := [u, w], sys := { upState.sys with nextId := 9 } }
    s.mayFetch (ix 31 23) = true ∧ s.fetchEnd 23 0x0E = none ∧ s.fetchEnd 23 0x0F = none ∧ s.fetchEnd 23 (0x0E + 2 ^ 128) = none ∧
    s.txn? s.sys.nextId = none ∧
    s.txn? 7 = some u ∧ u.live = true ∧ u.dispatched = true ∧ s.txn? 8 = some w ∧ w.live = true ∧ w.dispatched = false ∧
    s.rodBusy? 23 = some u ∧ (testAir .tx false).txn = some u.id ∧ (s.rod 23).rampAfter = false ∧
    s.field.survey ≠ .settling ∧ (s.rod 23).carrier = .on ∧ s.listening 23 = false ∧ (s.plan? 23).isSome = true := by decide

theorem test_planSteps_hyps :
    let st := fun op => planState (BitVec.ofNat 8 op :: List.replicate 15 0) testPlan
    let sync := planState ([8, 0, 0, 0, 0, 0, 0, 0, 0, 0, 1]) testPlan
    let held := fun s : State => s.modRod 23 (fun r => { r with held := [testHeld] })
    CarrierServes (st 1) 23 testPlan ∧ (st 0).board.verify = [] ∧
    (st 6).plan? 23 = some testPlan ∧ (st 6).unitMay 23 = true ∧ testPlan.stage = .boundary ∧
    mainFault testPlan ((st 6).stepBytes testPlan 0) = 0 ∧ mainFault testPlan ((st 7).stepBytes testPlan 0) = 0 ∧
    mainFault testPlan ((st 8).stepBytes testPlan 0) = 0 ∧ mainFault testPlan ((st 1).stepBytes testPlan 0) = 0 ∧
    mainFault testPlan ((st 0).stepBytes testPlan 0) = 0 ∧ stepOp ((st 0).stepBytes testPlan 0) = 0 ∧
    mainFault testPlan ((planState [0, 0, 1] testPlan).stepBytes testPlan 0) = 0 ∧
    mainFault testPlan (sync.stepBytes testPlan 0) = 0 ∧ (held sync).unitMay 23 = true ∧
    (held sync).planCredit 23 = true ∧ ((held sync).rod 23).held ≠ [] ∧ ((st 0).rod 23).held = [] ∧
    (st 0).flag F.DBG_STAT_HALTED = false ∧ (st 0).flag F.DBG_BP_EN = false ∧
    ((st 0).planTile (ix 15 0)).st = .ready ∧ planTiles testPlan.tile testPlan.filter = [0] ∧
    (planState [] { testPlan with stage := .waiting false }).round.step = 0 := by decide

theorem test_cycles_hyps :
    let inv : List Byte := [1, 0, 1, 0, 1, 0, 0, 0, 0, 0, 0, 0, 0, 0, 0, 0]
    let st := fun (b : List Byte) => (planState (inv ++ b) (invPlan (some testTag))).modRod 23 (fun r => { r with held := [testHeld] })
    let c := planState inv (invPlan none)
    let wt : TagRun := { testTag with inWrites := true, waiting := true }
    let w := ((planState (inv ++ [10, 0, 1]) { invPlan (some wt) with inv := (invPlan (some wt)).inv.map (fun i => { i with bytes := [1, 0, 1, 0, 1, 4] }) }).modRod 23 (fun r => { r with held := [testHeld] }))
    CarrierServes c 23 (invPlan none) ∧ (st [9, 0, 0, 0, 4, 0, 2]).planCredit 23 = true ∧ c.unitMay 23 = true ∧ (c.rod 23).held.length < 4 ∧ c.planCredit 23 = true ∧
    (c.inv? 23).map (·.stack) = some [⟨0, 0, 0, false⟩] ∧
    (c.modRod 23 (fun r => { r with held := [testHeld, testHeld, testHeld, testHeld] })).unitMay 23 = true ∧
    ((st [2]).tagReady? 23).map (fun x => stepOp x.2.2.2) = some 2 ∧
    ((st [3, 0, 0, 0, 0, 0, 4]).tagReady? 23).map (fun x => stepOp x.2.2.2) = some 3 ∧
    ((st [4, 0, 0, 0, 0, 0, 4]).tagReady? 23).map (fun x => stepOp x.2.2.2) = some 4 ∧
    ((st [5]).tagReady? 23).map (fun x => stepOp x.2.2.2) = some 5 ∧
    ((st [9, 0, 0, 0, 4, 0, 2]).tagReady? 23).map (fun x => stepOp x.2.2.2) = some 9 ∧
    ((st [10]).tagReady? 23).map (fun x => stepOp x.2.2.2) = some 10 ∧
    ((st [10]).tagReady? 23).map (fun x => (x.1.snap.prof (stepProfile x.2.2.2 (x.2.1.profNo x.1))).proto) = some 0 ∧
    w.tag? 23 = some wt ∧ (w.inv? 23).map (·.quiet) = some true ∧ w.heldOf 23 wt.uid = some (0, testHeld) ∧
    ({ testPlan with snap := { testPlan.snap with writeWait := 1 } } : Plan).snap.writeWait ≠ 0 := by decide

theorem test_held_hyps :
    let h : Held := { testHeld with complete := true }
    let st := fun h : Held => (planState [] testPlan).modRod 23 (fun r => { r with held := [h] })
    let f := planState [] { testPlan with filter := some (0, 4) }
    ((st h).rod 23).held[0]? = some h ∧ (st h).plan? 23 = some testPlan ∧ (∀ m, (st h).tag? m = none) ∧
    h.verdict ≠ none ∧ f.filterOverlap (0, 4) = false ∧
    (∀ i < 8, Memory.readBytes f.planMem (64 * ((crc32c (filterKey 0 h.uid)).toNat % 16) + 8 * i) 8 ≠ filterKey 0 h.uid) ∧
    (st h).mayCarry 23 h = true ∧ (st h).takesPacket 23 (packetWords (tagClen h.entries)) = true ∧
    testHeld.complete = false ∧ ((st { h with carrying := true }).rod 23).held = [{ h with carrying := true }] ∧
    (∀ m, m ≠ 23 → ((st h).rod m).held = []) ∧ (∀ m, m ≠ 23 → (st h).plan? m = none) ∧ ((st h).fifo 23).waiting = [] ∧
    (planState [] { testPlan with filter := some (0, 4) }).filterOverlap (0, 4) = false := by decide

theorem test_round_hyps :
    let q := queuedState 28 0x30
    let s0 : State := { upState with round := { upState.round with starts := [(3, some 9)] } }
    let st := fun k : Nat => ({ upState with round := { upState.round with step := k } } : State)
    let air : State := (st 2).modRod 23 (fun r => { r with air := some (testAir .tx true) })
    let held := (st 3).modRod 23 (fun r => { r with held := [{ testHeld with complete := true }] })
    let sl := (st 5).modTile 0 (fun t => { t with st := .sealing })
    q.nextRoundEnd = some (newTxn 7 28 (some 28) 0x30 .queued []) ∧ upState.nextRoundEnd = none ∧ upState.isOn .core = true ∧
    s0.round.starts ≠ [] ∧ s0.round.step = 0 ∧ (st 7).round.starts = [] ∧ (air.rod 23).air = some (testAir .tx true) ∧
    (testAir .tx true).phase ≠ .ready ∧ (∀ n, ((st 2).rod n).air = none) ∧ held.heldSettled = false ∧ (st 3).heldSettled = true ∧
    (fillState.rodFifosEmpty = false) ∧ (st 4).rodFifosEmpty = true ∧ (st 5).tilesIn .sealing = 0 ∧ sl.tilesIn .sealing ≠ 0 ∧
    (st 7).doneWaits = false ∧ (∀ n, ((st 7).rod n).held = []) := by decide
theorem test_speculation_hyps :
    upState.isOn .core = true ∧ (1#32).getLsbD 0 = true ∧ (0#32).getLsbD 0 = false ∧
    16 < 0xBF0 / 16 % 16 + (2 ^ 11 + 255) / 256 ∧ ¬(16 < 0x4F0 / 16 % 16 + (2 ^ 4 + 255) / 256) ∧
    16 < 0x4F % 16 + 4 ∧ 0x4C % 16 + 4 ≤ 16 := by decide

theorem test_survey_hyps :
    let st := fun p => ({ upState with field := { upState.field with survey := p, mask := 0x800001 } } : State)
    let unlocked : State := { upState with pwr := { upState.pwr with hfLock := false } }
    let m := upState.wr F.FLD_SURVEY_MASK_MASK 0 0x800000
    let lost : State := { m with pwr := { m.pwr with st := vset m.pwr.st (bankOf 23).num .off } }
    let shut : State := { upState with field := { upState.field with shutdown := true } }
    upState.isOn .core = true ∧ upState.field.survey = .idle ∧ upState.pwr.hfLock = true ∧ unlocked.pwr.hfLock = false ∧
    (lost.rd F.FLD_SURVEY_MASK_MASK).testBit 23 = true ∧ lost.isOn (bankOf 23) = false ∧ lost.isOn .core = true ∧
    shut.field.shutdown = true ∧ upState.rodQuiet 23 = true ∧ (st .settling).field.survey = .settling ∧
    (∀ n, ((st .settling).rod n).carrier = .off) ∧ (st .settling).field.mask.testBit 0 = true ∧ upState.field.mask.testBit 0 = false ∧
    ((rodState (fun r => { r with carrier := .on })).rod 23).carrier ≠ .off ∧
    (st (.averaging 23)).field.survey = .averaging 23 ∧ (st (.tail 0 false)).field.survey = .tail 0 false ∧
    (st (.tail 0 false)).field.mask.testBit 23 = true ∧ (∀ m < 23, 0 < m → (0x800001).testBit m = false) := by decide

theorem test_taps_hyps :
    let st := fun p => ({ upState with field := { upState.field with tapPend := [p] } } : State)
    let tk : State := (({ upState with field := { upState.field with notOn := [], inAir := [], surveyed := false } } : State).wr
      F.FLD_CTL_TRACK_EN 0 1).wr (tapSrc 5) 23 3
    upState.isOn .core = true ∧ (st (23, some 5, (0xFFFF8000#32).toNat)).field.tapPend = [((23 : Fin 24).val, some (5 : Fin 6).val, (0xFFFF8000#32).toNat)] ∧
    (st (23, none, (0x2E000000#32).toNat)).field.tapPend = [((23 : Fin 24).val, none, (0x2E000000#32).toNat)] ∧
    (upState.wr F.FLD_CTL_TRACK_EN 0 0).flag F.FLD_CTL_TRACK_EN = false ∧ tk.rd (tapSrc 5) 23 ≠ 0x1F ∧ tk.tapSkipped [] 23 5 (tk.rd (tapSrc 5) 23) = false ∧ upState.field.tapPend = [] := by decide

theorem test_zones_hyps :
    let p := rodState (fun r => { r with zonePend := some (some 7) })
    let e := rodState (fun r => { r with zonePend := some (some 7), air := some (testAir .tx true) })
    let q := rodState (fun r => { r with zone := some 7, req := some ⟨true, 0⟩ })
    upState.isOn .core = true ∧ (upState.rod 0).zonePend = none ∧ (p.rod 23).zonePend = some (some 7) ∧ p.rodEngaged 23 = false ∧
    (p.rod 23).zone = none ∧ e.rodEngaged 23 = true ∧ q.speaker 7 = none ∧ (q.rod 23).zone = some 7 ∧ (q.rod 23).req ≠ none ∧
    (q.wr F.FLD_CTL_HOST_RUN 0 0).rd F.FLD_CTL_HOST_RUN = 0 := by decide

theorem test_budget_hyps :
    let q : State := { upState with field := { upState.field with queue := [⟨23, 0, none⟩] } }
    let f : State := { (q.wr F.FLD_BUDGET_LIMIT 0 0) with field := q.field }
    let hot := upState.wr F.FLD_TEMP_TEMP 3 461
    q.field.queue = [⟨(23 : Fin 24).val, 0, none⟩] ∧ q.overdue? 23 = none ∧ q.pwr.hfLock = true ∧ q.isOn (bankOf 23) = true ∧ q.padsHeld (bankOf 23) = false ∧ (q.rod 23).carrier = .off ∧ q.startFits 23 0 = true ∧ q.field.survey = .idle ∧
    f.startFits 23 0 = false ∧ upState.field.queue = [] ∧ upState.isOn .core = true ∧ upState.field.shutdown = false ∧
    (∀ i < 4, upState.temp i ≤ 460) ∧ 460 < hot.temp 3 := by decide

theorem test_tally_hyps :
    let run := upState.wr F.TLY_CTL_RUN 0 1
    let sleep : State := { run with pwr := { run.pwr with st := vset run.pwr.st (bankOf 23).num .ret } }
    let q : TallySeq := ⟨[23], false, true, 0, 0, false, 1, 0, 3⟩
    let seq : State := { sleep with tally := { sleep.tally with seq := some q } }
    let shut : State := { run with field := { run.field with shutdown := true } }
    let hit : State := { upState with tally := { upState.tally with hits := [⟨23, -1, 2, 1⟩] } }
    let set := hit.wr F.TLY_WAKE_WAKE 0 0x800000
    upState.isOn .aon = true ∧ seq.isOn .aon = true ∧ seq.tally.seq ≠ none ∧ upState.flag F.TLY_CTL_RUN = false ∧
    run.flag F.TLY_CTL_RUN = true ∧ run.tally.seq = none ∧ run.tally.pend = [] ∧ shut.field.shutdown = true ∧
    run.field.shutdown = false ∧ run.surveyBusy = false ∧ (∀ n, (run.rod n).carrier = .off) ∧
    (List.range 24).filter (fun n => ((sleep.wr F.TLY_EN_EN 0 0x800000).rd F.TLY_EN_EN).testBit n && sleep.bankAsleep n) ≠ [] ∧
    q.rods = [23] ∧ upState.isOn .core = true ∧ hit.tally.hits = [⟨23, -1, 2, 1⟩] ∧ seq.bankAsleep 23 = true ∧ run.bankAsleep 23 = false ∧
    set.tally.hits = [⟨23, -1, 2, 1⟩] ∧ (set.rd F.TLY_WAKE_WAKE).testBit 23 = true ∧ (hit.rd F.TLY_WAKE_WAKE).testBit 23 = false ∧ State.reset.isOn .core = false := by decide

theorem test_samples_hyps :
    let st := fun (v : Nat) (q : TallySeq) => ({ (upState.wr F.TLY_BASE_VALID 23 v) with
      pwr := { upState.pwr with st := vset upState.pwr.st (bankOf 23).num .ret }, tally := { upState.tally with seq := some q } } : State)
    let q : TallySeq := ⟨[23], false, true, 0, 0, true, 1, 0, 0⟩
    let two : TallySeq := ⟨[0, 23], false, false, 1, 0, true, 1, 0, 0⟩
    (st 1 q).tally.seq = some q ∧ q.rods = (23 : Fin 24).val :: [] ∧ q.burst = true ∧
    (st 0 q).flag F.TLY_BASE_VALID 23 = false ∧ (st 1 q).flag F.TLY_BASE_VALID 23 = true ∧
    1 < ((4095 : Int) - (st 1 q).rd F.TLY_BASE_AMP 23).natAbs ∧ ((st 1 q).rd F.TLY_DISARM_DISARM).testBit 23 = false ∧
    q.confirm + 1 ≤ vget (st 1 q).tally.counts 23 + 1 ∧ vget (st 1 two).tally.counts 0 + 1 < two.confirm + 1 ∧
    two.burst = false ∧ (((st 1 q).wr F.TLY_DISARM_DISARM 0 0x800000).rd F.TLY_DISARM_DISARM).testBit 23 = true := by decide

theorem test_downlink_hyps :
    let st := fun k tp => linkState (some (testFrame k 0xFFFF tp false)) none .none
    let b := { testFrame .poll 0xFFFF false true with segPos := 2, segs := [15, 6, 15] }
    let on := (linkState (some b) none .none).wr F.LF_CFG_EN 6 1
    let quiet : LfSpan := ⟨100, 0, [0, 0], 0⟩
    let ovc : LfSpan := ⟨100, 0, [0, 10000000], 0⟩
    let run := (st .range false).wr F.LF_STAT_STATE 7 1
    upState.link.frame = none ∧ upState.acc.run = none ∧ (st .poll false).link.frame = some (testFrame .poll 0xFFFF false false) ∧
    (st .range false).lfFault 7 = false ∧ (testFrame .poll 0xFFFF true false).tp = true ∧
    ((st .range false).lfWalk 7 false false quiet).fault = none ∧ (run.lfWalk 7 false false ovc).fault = some true ∧
    run.lfBusy 7 = true ∧ (testFrame .poll 0xFFFF false false).spanChan = some 7 ∧ b.spanChan = none ∧
    ({ testFrame .poll 0xFFFF true false with charging := true }).charging = true ∧
    b.segs[b.segPos / 2]? = some 6 ∧ on.segUsable b 6 = true ∧ on.link.frame = some b ∧
    ({ b with segPos := 4 }).segs[4 / 2]? = some 15 ∧ ({ b with segPos := 1, segChan := some 6 }).spanChan = some 6 := by decide

theorem test_lfChannel_hyps :
    let d := (linkState (some (testFrame .poll 0xFFFF false false)) none .none).wr F.LF_STAT_STATE 7 1
    let op : State := { d.wr F.LF_STAT_W 7 104 with link := { d.link with opens := vset d.link.opens 7 63 } }
    let f := (upState.wr F.LF_ERR_OVERCURRENT 7 1).wr F.LF_STAT_STATE 7 3
    (d.lfWalk 7 (d.lfTp 7) (d.lfFrozen 7) ⟨100, 0, [0, 10000000], 0⟩).fault = some true ∧
    (op.lfWalk 7 (op.lfTp 7) (op.lfFrozen 7) ⟨0, 0, [0, 0, 0, 0], 0⟩).fault = some false ∧ op.rd F.LF_STAT_STATE 7 = 1 ∧
    d.rd F.LF_STAT_STATE 7 = 1 ∧ d.acc.run = none ∧ upState.rd F.LF_STAT_STATE 7 = 0 ∧ f.isOn .lf = true ∧ f.lfFault 7 = true ∧
    (0x80000002#32).getLsbD 1 = true ∧ upState.isOn .core = true ∧ (0x80000002#32).getLsbD 31 = true ∧ (0#32).getLsbD 31 = false := by
  decide

theorem test_slots_hyps :
    let x := testFrame .poll 0xFFFF false false
    let st := fun c => linkState none (some x) (.slots 8 7 (some c))
    let f : UplinkFrame := ⟨[7, 0, 1, 0], true, 0, 0, 0, 0, 0⟩
    let tr := fun k => (linkState none (some x) (.train false false)).wr F.UHF_STAT_STATE 0 k
    (linkState none (some x) (.slots 8 7 none)).link.listen = .slots 8 7 none ∧
    (st ⟨0, [], true, true, none, 0⟩).link.last = some x ∧ (st ⟨0, [], true, true, none, 0⟩).running? unitUhf = none ∧
    (st ⟨0, [], true, true, none, 0⟩).acc.run = none ∧ bodyFits x [] = false ∧ bodyFits x f.body = true ∧
    tidxFits x 7 f.body = true ∧ (tr 4).isOn .uhf = true ∧ (tr 4).rd F.UHF_STAT_STATE = 4 ∧
    (tr 3).rd F.UHF_STAT_STATE ≠ 4 ∧ (linkState none (some x) (.train true false)).link.listen = .train true false ∧
    (linkState none (some x) (.transponder 7)).link.listen = .transponder 7 ∧ bodyGood [] = false := by decide

theorem test_requests_hyps :
    let q : AccReq := .desc 7 testLock
    let late : Desc := 1 + 2 ^ 10 + 3 * 2 ^ 128
    let o := accState (fun a => { a with reqs := [q] }) 1 .queued
    let r := testRun q .ready [] none
    let e := accState (fun a => { a with run := some r }) 1 .running
    let l := accState (fun a => { a with reqs := [q] }) late .queued
    let l2 : State := { l with sys := { l.sys with timebase := 1 } }
    State.reset.acc.needRestore = true ∧ o.acc.needRestore = false ∧ o.accTake? 1 = some q ∧
    (1#32).getLsbD 0 = true ∧ o.rd F.ACC_LOCK_TRIG_EDGE 3 = 3 ∧ (o.wr F.ACC_LOCK_TRIG_POLL_INT 3 1).rd F.ACC_LOCK_TRIG_POLL_INT 3 ≠ 0 ∧
    (let g := o.wr F.ACC_LOCK_TRIG_GPIO 3 15
     g.rd F.ACC_LOCK_TRIG_GPIO 3 = 15 ∧ (g.rd F.GPIO_DIR_PINS).testBit 15 = false ∧ (g.rd F.GPIO_IN_PINS).testBit 15 = false ∧
     ∀ l < 3, g.rd F.ACC_LOCK_TRIG_GPIO l ≠ 15) ∧ o.acc.vd = none ∧
    (let g := o.modAcc (fun a => { a with reqs := [.trig 2 3] })
     g.acc.run = none ∧ (g.newRun (.trig 2 3)).lock = 3 ∧ (g.wr F.ACC_LOCK_CFG_EN 3 0).flag F.ACC_LOCK_CFG_EN 3 = false) ∧
    o.isOn .core = true ∧ o.flag F.ACC_LOCK_CFG_EN 3 = true ∧ (∀ j < 5, AccReq.trig j 3 ∉ o.acc.reqs) ∧ o.exchanging 3 = false ∧
    o.flag F.ACC_LOCK_CFG_EN 2 = false ∧ o.isOn .plan = true ∧ o.isOn .crypto = true ∧ e.acc.run = some r ∧ e.accAble = true ∧ e.uhfBusy = false ∧ e.board.verify = [] ∧ e.ucodeTiles = [] ∧
    e.reqLate r.req = false ∧ e.field.shutdown = false ∧ e.waiting false 3 = false ∧ e.regionSet = true ∧ r.cfg.lfCh = 0 ∧
    e.lfUsable 0 false = true ∧ (e.modAcc (fun a => { a with waits := [⟨false, 3, 1⟩] })).waiting false 3 = true ∧
    l2.acc.reqs = [q] ∧ l2.txn? 7 = some (newTxn 7 24 (some 24) late .queued []) ∧ l2.nltPassed late = true := by decide

theorem test_judge_hyps :
    let q : AccReq := .desc 7 testLock
    let p := PathRun.start testCand
    let st := fun g c p => accState (fun a => { a with run := some (testRun q g c p), lockFails := vset a.lockFails 3 2 }) 1 .running
    let ok := (st (.judge .ranged) [] (some p)).setEntry 1023 ⟨1, 8, 0, 0, false, 0, 0, 0, 0⟩
    let fb := ok.modAcc (fun a => { a with fb := vset a.fb 3 (ok.flag F.ACC_REL_CFG_FB_POL 3), fbKnown := vset a.fbKnown 3 true })
    let pulse := upState.modAcc (fun a => { a with pulse := vset a.pulse 3 true, moveWait := vset a.moveWait 3 true })
    (st (.judge .start) [testCand, testCand] none).isOn .keys = true ∧ ((st (.judge .start) [testCand, testCand] none).entry testCand.tidx).st = 0 ∧
    (st (.judge .start) [testCand, testCand] none).isOn .crypto = true ∧ testCand.tidx = 1023 ∧ (fb.entry 1023).st = 1 ∧ p.verdict = none ∧
    fb.waiting false 3 = false ∧ fb.waiting true 1023 = false ∧ fb.interlockAgrees (testRun q (.judge .ranged) [] (some p)) = true ∧
    ({ testLock with endEn := false }).endEn = false ∧ upState.acc.run = none ∧ fb.test.takesBalls = false ∧ vget fb.acc.fbKnown 3 = true ∧ vget upState.acc.fbKnown 3 = false ∧
    State.reset.isOn .core = false ∧ vget upState.acc.fb 3 ≠ true ∧ upState.isOn .core = true ∧
    vget pulse.acc.pulse 3 = true ∧ vget pulse.acc.moveWait 3 = true ∧ vget upState.acc.pulse 3 = false := by decide

theorem test_tokens_hyps :
    let q : AccReq := .desc 7 testLock
    let st := fun d => (accState (fun a => { a with reqs := [q] }) d .queued)
    let key := fun s : State => s.setKeySlot 0 ⟨true, false, 4, 0, List.replicate 16 0⟩
    let vd : Desc := 6 + 4 * 2 ^ 168 + 16 * 2 ^ 176
    let ring := fun (s : State) => ((s.wr F.HOST_SQ_CFG_EN 24 1).wr F.DOORBELL_SQ_COUNT 24 1)
    (st 3).accTake? 3 = some q ∧ (st 3).txn? 7 = some (newTxn 7 24 (some 24) 3 .queued []) ∧ (st 3).isOn .keys = true ∧
    ((key (st 3)).entry 0).st ≠ 1 ∧ ((key (st 3)).keySlot 0).loaded = true ∧ (key (st 3)).keys.entries = [] ∧ (∀ l < 4, 0 / 4 ^ l % 4 < 2) ∧
    ((st 3).keySlot 0).loaded = false ∧ (st 5).accTake? 5 = some q ∧ (st 2).accTake? 2 = some q ∧ (st 2).accAble = true ∧
    (st 2).uhfBusy = false ∧ (st 2).ucodeTiles = [] ∧ (st 2).board.verify = [] ∧ (st 2).reqLate q = false ∧ (st 2).regionSet = true ∧ testLock.lfCh = 0 ∧ (st 2).lfUsable 0 false = true ∧
    (let w := (st vd).modAcc (fun a => { a with reqs := [], vd := some ⟨7, List.replicate 16 0, false, false, .idle⟩ })
     w.acc.vd = some ⟨7, List.replicate 16 0, false, false, .idle⟩ ∧ w.generalTurn 32 = true ∧ (w.modAcc (fun a => { a with vd := none })).generalTurn 32 = false ∧ w.mayDma = true ∧ (w.txn? 7).isSome = true ∧ w.isOn .crypto = true) ∧
    (st vd).mayDma = true ∧ { (st vd) with host := HostPart.reset }.mayDma = false ∧ (st vd).accTake? 6 = some q ∧ leNat ((((st vd).paramsOf 7).drop 6).take 2) = 16 ∧ ((key (st vd)).keySlot 0).usage.testBit 2 = true ∧
    (ring upState).mayFetch 24 = true ∧ (ring upState).fetchEnd 24 4 = none ∧ upState.txns = [] ∧ sqUnit 24 = 24 ∧
    (ring upState).fetchEnd 24 0x0F = none := by decide

theorem test_mirror_hyps :
    let b := leBytes 4 0x4D434C41 ++ leBytes 4 9 ++ leBytes 4 5
    let r := upState.modAcc (fun a => { a with restoring := true })
    let w := upState.modAcc (fun a => { a with mirror := ⟨some ⟨0, 0, []⟩, false, 0, 0⟩ })
    (0x30000#32).getLsbD 17 = true ∧ (0x30000#32).getLsbD 16 = true ∧ (0#32).getLsbD 17 = false ∧ (0#32).getLsbD 16 = false ∧
    upState.isOn .core = true ∧ upState.flag F.ACC_CFG_PLOCK = false ∧ (upState.setF F.ACC_CFG_PLOCK).flag F.ACC_CFG_PLOCK = true ∧
    (let d : State := { r with serial := { r.serial with got := [[], b.take 1044] } }
     d.acc.restoring = true ∧ d.serial.frames = [] ∧ d.serial.got = [List.take 1044 [], b.take 1044]) ∧
    r.acc.mirror.dirty = false ∧ newestImage [] b = none ∧ upState.wireFree = true ∧ upState.loadFrame = none ∧
    upState.xferWaits = false ∧ upState.serial.frames = [] ∧ upState.serial.retry = .none ∧ w.serial.onWire = false ∧
    w.acc.mirror.image = some ⟨0, 0, []⟩ ∧ upState.acc.mirror.image = none := by decide
/-- Some image with generation 9, epoch 5 and no failures is valid. -/
theorem test_mirror_image : ∃ a, imageGen a = some 9 := by
  let b : List Byte := leBytes 4 0x4D434C41 ++ (leBytes 4 9 ++ (leBytes 4 5 ++ List.replicate 1028 0))
  have h : b.length = 1040 := by simp [b, leBytes]
  have e : ∀ n < 2 ^ 32, leNat (leBytes 4 n) = n := by intro n h; simp [leBytes, leNat]; omega
  have c : ∀ n, (leBytes 4 n).length = 4 := by simp [leBytes]
  refine ⟨b ++ leBytes 4 (crc32c b).toNat, ?_⟩
  have t1 : (b ++ leBytes 4 (crc32c b).toNat).take 1040 = b := List.take_left' h
  have t2 : (b ++ leBytes 4 (crc32c b).toNat).drop 1040 = leBytes 4 (crc32c b).toNat := List.drop_left' h
  have t3 : (b ++ leBytes 4 (crc32c b).toNat).take 4 = leBytes 4 0x4D434C41 := by
    simp only [b, List.append_assoc]; exact List.take_left' (c _)
  have t4 : ((b ++ leBytes 4 (crc32c b).toNat).drop 4).take 4 = leBytes 4 9 := by
    simp only [b, List.append_assoc]; rw [List.drop_left' (c _)]; exact List.take_left' (c _)
  have t5 : (leBytes 4 (crc32c b).toNat).take 4 = leBytes 4 (crc32c b).toNat := List.take_of_length_le (by simp [c])
  unfold imageGen
  rw [t1, t2, t3, t4, t5, e _ (by omega), e _ (BitVec.isLt _), e 9 (by omega)]
  simp [h, c]

theorem test_radio_hyps :
    let st := fun r d => uhfState r d .queued id
    let full := uhfState 2 2 .queued (fun u => { u with ledger := vset u.ledger 0 [36000000] })
    let late := uhfState 0 (2 + 2 ^ 10) .queued id
    let l2 : State := { late with sys := { late.sys with timebase := 1 } }
    let run := ((uhfState 4 2 .running id).wr F.HOST_SQ_CFG_EN 25 1).wr F.DOORBELL_SQ_COUNT 25 1
    let r2 : State := { run with sys := { run.sys with nextId := 8 } }
    let idle := (upState.wr F.HOST_SQ_CFG_EN 25 1).wr F.DOORBELL_SQ_COUNT 25 1
    (st 0 1).uhfTake? 1 = some (newTxn 7 25 (some 25) 1 .queued []) ∧ (st 0 1).txn? 7 = some (newTxn 7 25 (some 25) 1 .queued []) ∧
    (st 0 1).uhf.need = .none ∧ (st 1 1).rd F.UHF_STAT_STATE ≠ descByte 1 16 % 4 ∧
    (uhfState 3 3 .queued id).uhfTake? 3 = some (newTxn 7 25 (some 25) 3 .queued []) ∧ (st 3 3).rd F.UHF_STAT_CHAN = descByte 3 16 ∧
    (st 3 3).uhf.need = .none ∧ (st 3 3).flag F.UHF_CAL_STAT_VALID = true ∧ (st 3 3).nltPassed 3 = false ∧ (st 3 3).rd F.UHF_STAT_STATE = 3 ∧
    (st 0 3).uhfTake? 3 = some (newTxn 7 25 (some 25) 3 .queued []) ∧ (st 0 4).uhfTake? 4 = some (newTxn 7 25 (some 25) 4 .queued []) ∧
    (st 2 2).uhfTake? 2 = some (newTxn 7 25 (some 25) 2 .queued []) ∧ (st 2 5).uhfTake? 5 = some (newTxn 7 25 (some 25) 5 .queued []) ∧
    (st 2 2).mayDma = true ∧ { (st 2 2) with host := HostPart.reset }.mayDma = false ∧ (st 2 2).uhf.calStep = false ∧
    (st 2 2).lateBy 2 25 = false ∧ l2.lateBy (2 + 2 ^ 10) 25 = true ∧ (st 2 4).rd F.UHF_STAT_CHAN = (st 2 4).rd F.UHF_CTL_REST_CH ∧
    (st 2 2).rd F.UHF_STAT_CHAN = descByte 2 16 ∧ (st 2 2).flag F.UHF_CAL_STAT_VALID = true ∧ (st 2 2).radioOff = false ∧
    (st 2 2).sbUsed 0 + plannedTx (newTxn 7 25 (some 25) 2 .queued []) false ≤ (st 2 2).sbLimit 0 ∧
    full.uhfTake? 2 = some (newTxn 7 25 (some 25) 2 .queued []) ∧ full.sbLimit 0 < full.sbUsed 0 + 1 ∧
    l2.uhfWaits (newTxn 7 25 (some 25) (2 + 2 ^ 10) .queued []) = true ∧ l2.nltPassed (2 + 2 ^ 10) = true ∧
    r2.mayFetch 25 = true ∧ r2.fetchEnd (sqUnit 25) 0x0F = none ∧ r2.running? unitUhf = some (newTxn 7 25 (some 25) 2 .running []) ∧
    (∀ v ∈ r2.txns, v.id < r2.sys.nextId) ∧ idle.mayFetch 25 = true ∧ idle.running? unitUhf = none := by decide

theorem test_radioSteps_hyps :
    let st := fun r d => uhfState r d .running id
    let ch : Desc := 3 + 2 ^ 128
    let cal := (uhfState 2 4 .running id).wr F.UHF_CAL_STAT_DUE 0 1
    State.reset.isOn .uhf = false ∧ upState.isOn .uhf = true ∧ (st 4 3).radioGoal = (3, 0) ∧ (st 0 3).radioGoal.1 = 3 ∧
    (st 0 3).pwr.hfLock = true ∧ (st 2 ch).radioGoal = (3, 1) ∧ (st 2 3).mayEnter 3 = true ∧ (st 2 2).mayEnter 4 = false ∧
    (st 2 2).radioGoal = (4, 0) ∧ (st 1 3).radioLocking = true ∧ (st 1 3).running? unitUhf = some (newTxn 7 25 (some 25) 3 .running []) ∧
    (st 4 ch).radioGoal = (3, 1) ∧ (st 4 ch).rd F.UHF_STAT_CHAN = 0 ∧ ((st 1 3).modUhf (fun u => { u with need := .slots 0 })).radioLocking = true ∧
    ((st 1 3).modUhf (fun u => { u with need := .train 0 })).radioLocking = true ∧ (cal.modUhf (fun u => { u with calStep := true })).uhf.calStep = true ∧
    ((st 3 3).wr F.UHF_CTL_DIV_EN 0 1).isOn .uhf = true ∧ (st 3 3).divOn = false ∧
    ((linkState none none (.slots 3 0 (some ⟨0, [], true, true, none, 0⟩))).wr F.UHF_CTL_DIV_EN 0 0).divOn = false ∧ (linkState none none (.slots 3 0 (some ⟨0, [], true, true, none, 0⟩))).divOn = true ∧
    (st 2 3).radioLocking = false ∧ cal.rd F.UHF_CAL_STAT_STEP < 31 ∧ cal.radioGoal.1 = 2 ∧ cal.stepInTime = true ∧
    ({ (cal.modUhf (fun u => { u with need := .slots 0, calStep := true })) with
      link := { cal.link with last := some (testFrame .poll 0xFFFF false false) } }).stepInTime = false ∧
    (let c := { (cal.modUhf (fun u => { u with calStep := true })) with txns := [] }; c.radioGoal.1 < 2 ∧ c.radioOff = false ∧ c.uhf.calStep = true) ∧
    (cal.wr F.UHF_CAL_STAT_STEP 0 31).rd F.UHF_CAL_STAT_STEP = 31 ∧ (st 3 3).link.listen = .none ∧
    ((st 3 3).wr F.UHF_CTL_DIV_EN 0 1).flag F.UHF_CTL_DIV_EN = true := by decide

theorem test_radioEnds_hyps :
    let tx := uhfState 4 2 .running (fun u => { u with admitted := true, charge := some ⟨7, 9, 0, false⟩, ledger := vset u.ledger 7 [9] })
    let cw := uhfState 4 5 .running (fun u => { u with charge := some ⟨7, 9, 0, false⟩, ledger := vset u.ledger 7 [9] })
    let rx := uhfState 3 3 .running (fun u => { u with window := true, inFrame := true })
    let rest := uhfState 4 1 .running (fun u => { u with charge := some ⟨7, 9, 0, false⟩ })
    let ab := tx.modTxn 7 (fun u => { u with phase := .done .aborted })
    rest.running? unitUhf = some (newTxn 7 25 (some 25) 1 .running []) ∧ rest.uhf.admitted = false ∧ rest.radioOff = false ∧
    rest.rd F.UHF_CTL_REST ≤ 1 ∧ ab.running? unitUhf = none ∧ (∀ v ∈ tx.txns, v = newTxn 7 25 (some 25) 2 .running []) ∧ ab.uhf.charge = some ⟨7, 9, 0, false⟩ ∧
    (ab.modUhf (fun u => { u with need := .train 0 })).rd F.UHF_STAT_STATE = 4 ∧
    upState.uhf.charge = none ∧ tx.running? unitUhf = some (newTxn 7 25 (some 25) 2 .running []) ∧
    tx.txn? 7 = some (newTxn 7 25 (some 25) 2 .running []) ∧ (newTxn 7 25 (some 25) 2 .running []).op = 2 ∧ tx.rd F.UHF_STAT_STATE = 4 ∧
    cw.running? unitUhf = some (newTxn 7 25 (some 25) 5 .running []) ∧ cw.uhf.ledger = vset cw.uhf.ledger (ix 7 7) (9 :: []) ∧
    upState.running? unitUhf = none ∧ upState.uhf.inFrame = false ∧ rx.running? unitUhf = some (newTxn 7 25 (some 25) 3 .running []) ∧
    rx.uhf.inFrame = true ∧ upState.uhf.window = false := by decide

theorem test_keys_hyps :
    let imp := fun (on : Bool) => keyState 0x10 .queued (fun s => { s with keys := { s.keys with imports := [.desc 7], importing := on } })
    let root : State := { imp false with otp := { (imp false).otp with rootOk := true } }
    let ring := (keyState 1 .queued (fun s => { (s.wr F.HOST_SQ_CFG_EN 26 1).wr F.DOORBELL_SQ_COUNT 26 1 with
      cph := { s.cph with queue := [(7, [])] }, sys := { s.sys with nextId := 8 } }))
    let d : Desc := 0x12 + 511 * 2 ^ 128
    (imp false).keys.imports = [.desc 7] ∧ (imp false).isOn .keys = true ∧ ((imp false).importReq (.desc 7)).1 = 0x10 ∧
    (imp false).otp.rootOk = false ∧ root.otp.rootOk = true ∧ (imp true).keys.importing = true ∧
    unwrapped 0x10 [] ((imp true).importReq (.desc 7)).2 = none ∧ (imp true).keys.kek = [] ∧ upState.flag F.KEY_CFG_PLOCK = false ∧
    7 ≠ upState.rd F.KEY_CFG_KGEN ∧ (0x10#32).getLsbD 4 = true ∧ (7#32).getLsbD 4 = false ∧
    cipherSq false = 26 ∧ ring.mayFetch 26 = true ∧ descByte d 0 = 0x12 ∧ ring.fetchEnd (sqUnit 26) d = none ∧ (descByte d 1).testBit 0 = false ∧
    (∀ u ∈ ring.txns, u.id < ring.sys.nextId) ∧ ring.acc.run = none ∧ ring.cph.waits = [] ∧ ring.keys.imports = [] ∧
    ring.startedTxns (fun _ => true) = [] ∧ ring.job? 7 = none ∧ (ring.keySlot (descField d 16 2)).loaded = true ∧
    ring.txn? 7 = some (newTxn 7 26 (some 26) 1 .queued []) ∧ (ring.keySlot 0).loaded = false := by decide

theorem test_cipher_hyps :
    let d : Desc := 1 + 511 * 2 ^ 128 + 32 * 2 ^ 160 + 4096 * 2 ^ 192
    let u := newTxn 7 26 (some 26) d .queued []
    let q := fun x => keyState d .queued (fun s => { s with cph := { s.cph with queue := [(7, x)] } })
    let z := keyState 1 .queued (fun s => { s with cph := { s.cph with queue := [(7, [])] } })
    let r : CoreRun := ⟨7, 511, List.replicate 16 0, 0, List.replicate 32 0, [], none⟩
    let run := fun r => keyState d .running (fun s => s.modCore 3 (fun c => { c with run := some r }))
    let ab := keyState d .queued (fun s => { (s.wr F.HOST_SQ_CFG_EN 26 1).wr F.DOORBELL_SQ_COUNT 26 1 with sys := { s.sys with nextId := 8 } })
    (q []).txns.find? (fun v => (q []).needsInput v && ((descByte v.desc 18).testBit 1 || (q []).mayDma)) = some u ∧
    let job := keyState 0 .queued (fun s => { s with cph := { s.cph with queue := [(7, [])], jobs := [⟨7, 511, 2⟩] } })
    let jrun := (job.modCore 3 (fun c => { c with run := some { r with inp := [] } }))
    job.job? 7 = some ⟨7, 511, 2⟩ ∧ job.idleCore? = some 0 ∧ (job.keySlot 511).loaded = true ∧ (jrun.core 3).run = some { r with inp := [] } ∧
    (job.setKeySlot 511 ⟨false, false, 0, 0, []⟩).keySlot 511 = ⟨false, false, 0, 0, []⟩ ∧ (q []).job? 7 = none ∧
    jrun.job? 7 = some ⟨7, 511, 2⟩ ∧ ({ run r with host := HostPart.reset }).mayDma = false ∧
    (q []).cipherInput? 7 = some [] ∧ upState.txns = [] ∧ ({ r with done := 2 }).inp.length < 16 * (2 + 1) ∧ (run r).mayDma = true ∧
    (q []).txn? 7 = some u ∧ (q []).idleCore? = some 0 ∧
    (q []).isOn .crypto = true ∧ (q []).isOn .keys = true ∧ ((q []).keySlot u.cipherSlot).loaded = true ∧
    ((q []).keySlot u.cipherSlot).usage.testBit 0 = true ∧ (z.keySlot (newTxn 7 26 (some 26) 1 .queued []).cipherSlot).loaded = false ∧
    (z.setKeySlot 0 ⟨true, false, 2, 0, []⟩).keySlot 0 = ⟨true, false, 2, 0, []⟩ ∧ (∀ j, ((q []).core j).preload = false) ∧
    ((run r).core 3).run = some r ∧ (run r).txn? 7 = some (newTxn 7 26 (some 26) d .running []) ∧ 16 * (r.done + 1) < u.cipherLen ∧
    u.cipherLen ≤ 16 * (({ r with done := 1 }).done + 1) ∧ (run r).cph.waits = [] ∧ ({ r with stop := some .aborted }).stop = some .aborted ∧
    u.cipherDst ≠ 0 ∧ upState.startedTxns (fun _ => true) = [] ∧ ab.mayFetch (cipherSq false) = true ∧ ab.fetchEnd (sqUnit 26) 0x0F = none ∧
    ab.txns = [u] ∧ (∀ v ∈ ab.txns, v.id < ab.sys.nextId) ∧ ab.startedTxns (fun _ => true) = [] := by decide

theorem test_rng_hyps :
    let d : Desc := 2 + 16 * 2 ^ 128 + 4096 * 2 ^ 192
    let u := newTxn 7 26 (some 26) d .queued []
    let st := keyState d .queued id
    let w := fun (op : Desc) => (keyState op .running (fun s => { s with rng := { s.rng with queue := [7] } })).wr F.CPH_RNG_STAT_READY 0 1
    (let a := (accState (fun a => { a with run := some (testRun (.desc 7 testLock) (.draw 4 true) [] (some (PathRun.start testCand))) }) 1
        .running).wr F.CPH_RNG_STAT_READY 0 1
     a.isOn .crypto = true ∧ a.flag F.CPH_RNG_STAT_READY = true ∧ (w d).mayDma = true) ∧
    rctFails none 0 (List.replicate 41 true) = true ∧ rctFails none 0 [] = false ∧ (List.replicate 41 true).take 1024 = true :: List.replicate 40 true ∧
    { (w d) with host := HostPart.reset }.mayDma = false ∧ ((w d).txn? 7).any (·.isRunning) = true ∧
    st.rngTake? 2 = some u ∧ st.txn? 7 = some u ∧ descField d 16 2 = 16 ∧ st.flag F.CPH_RNG_STAT_FAIL = false ∧
    (st.setF F.CPH_RNG_STAT_FAIL).flag F.CPH_RNG_STAT_FAIL = true ∧ (keyState 2 .queued id).rngTake? 2 = some (newTxn 7 26 (some 26) 2 .queued []) ∧
    descField 2 16 2 = 0 ∧ (keyState 3 .queued id).rngTake? 3 = some (newTxn 7 26 (some 26) 3 .queued []) ∧ (w d).isOn .crypto = true ∧
    (w d).flag F.CPH_RNG_STAT_READY = true ∧ (w d).acc.run = none ∧ (w d).rng.queue = [7] ∧ (w d).txn? 7 = some (newTxn 7 26 (some 26) d .running []) ∧
    (w 3).txn? 7 = some (newTxn 7 26 (some 26) 3 .running []) ∧ descField d 24 8 ≠ 0 ∧ upState.flag F.CPH_RNG_STAT_READY = false ∧
    (1#32).getLsbD 0 = true ∧ (2#32).getLsbD 0 = false := by decide

theorem test_ringLinks_hyps :
    let on : State := { upState with sys := { upState.sys with role := .satellite } }
    let st := fun (x : Nat) => (on.wr F.RING_STAT_UP_LINK 0 x).wr F.RING_STAT_DN_LINK 0 x
    let cl := (upState.wr F.RING_STAT_UP_LINK 0 2).wr F.RING_STAT_CLOSED 0 1
    let wk : State := { st 2 with ring := { (st 2).ring with walkClosed := true, echoUp := true } }
    upState.isOn .ring = true ∧ (1#32).toNat % 2 = 1 ∧ upState.sys.role = .head ∧ upState.padsHeld .ring = false ∧
    (st 1).linkSt true = 1 ∧ (st 1).linkSt false = 1 ∧ upState.linkSt true ≠ 1 ∧ upState.linkIsUp true = false ∧ (st 2).linkIsUp true = true ∧
    cl.linkIsUp true = true ∧ cl.sys.role = .head ∧ cl.flag F.RING_STAT_CLOSED = true ∧
    wk.sys.role = .satellite ∧ wk.linkIsUp true = true ∧ wk.linkIsUp false = true ∧ wk.ring.walkClosed = true ∧ wk.ring.echoUp = true ∧ wk.holdsLink true = false ∧ (wk.setHolds true true).holdsLink true = true ∧
    leNat (([20, 0] : List Byte).take 2) + 16 ≤ 40 := by decide

def testToken (type : Nat) (p : List Byte) (good : Bool) : TokenRx :=
  ⟨true, type, 1, p, if good then tokenCrc type 1 p else Nat.xor (tokenCrc type 1 p) 0xFFFF⟩
def satState (f : State → State) : State :=
  f ((({ upState with sys := { upState.sys with role := .satellite }, otp := { upState.otp with serial := 0x1234 } } : State).wr
    F.RING_STAT_UP_LINK 0 2).wr F.RING_STAT_DN_LINK 0 2)

theorem test_ringFrames_hyps :
    let b := ringFrameBytes 160000 3 9 true false [1, 2, 3]
    let c := ringFrameBytes 160001 3 9 true false [1, 2, 3]
    let hd := upState.wr F.RING_STAT_UP_LINK 0 2
    ringFrameGood b = true ∧ ringFrameGood c = true ∧ ringFrameGood [1] = false ∧ hd.linkIsUp true = true ∧ hd.sys.role = .head ∧
    leNat (b.take 3) ≤ 8 * hd.rd F.RING_LAT_BUDGET_BUDGET ∧ 8 * hd.rd F.RING_LAT_BUDGET_BUDGET < leNat (c.take 3) ∧
    (satState id).linkIsUp true = true ∧ (satState id).linkIsUp false = true ∧ (satState id).sys.role = .satellite := by decide
theorem test_ringSend_hyps :
    let own := satState (fun s => { (s.wr F.RING_STAT_JOINED 0 1) with board := { s.board with
      tiles := vset s.board.tiles 63 ⟨.sealed, [⟨5, 0, 2, false, none, 25, false, false, 0⟩], 0⟩, burst := some 63 } })
    let fw := { own with ring := { own.ring with fwd := [⟨0, 0, 1, false, [], false⟩], drops := [(3, 2)] } }
    let fx := { fw with ring := { fw.ring with ownWait := 8 } }
    own.dataUp = true ∧ own.heldOn true = false ∧ own.test.takesBalls = false ∧ upState.linkIsUp true = false ∧ own.holdsLink true = false ∧ own.ownItem = some (63, ⟨5, 0, 2, false, none, 25, false, false, 0⟩) ∧
    own.ring.fwd = [] ∧ fw.ring.ownWait < fw.rd F.RING_CFG_FWD_RUN ∧ fx.rd F.RING_CFG_FWD_RUN ≤ fx.ring.ownWait ∧
    (satState id).ownItem = none ∧ fw.ring.drops.find? (fun p => p.1 == 3) = some (3, 2) := by decide
theorem test_ringTokens_hyps :
    let s := satState (fun s => { (s.wr F.RING_CFG_RST_EN 0 1).wr F.ROD_ROUND_CFG_RING_IN 0 1 with ring := { s.ring with walkClosed := true } })
    s.aimed [0, 0, 1, 3] = true ∧ s.aimed [0x34, 0x12, 0, 3] = true ∧ s.aimed [0x35, 0x12, 0, 3] = false ∧
    s.flag F.RING_CFG_RST_EN = true ∧ s.flag F.ROD_ROUND_CFG_RING_IN = true ∧ s.ring.walkClosed = true ∧
    (satState id).flag F.RING_CFG_RST_EN = false ∧ (satState id).flag F.ROD_ROUND_CFG_RING_IN = false ∧
    tokenGood (testToken 2 [0, 0, 1, 3] true) = true ∧ tokenGood (testToken 2 [0, 0, 1, 3] false) = false ∧
    (satState (fun s => s.wr F.SYS_TB_STAT_SYNCED 0 1)).flag F.SYS_TB_STAT_SYNCED = true ∧
    (satState id).ring.synAt + 2000 * (satState id).ring.synNext ≤ (satState id).pwr.aonMicros ∧
    (let t := satState (fun s => { s with ring := { s.ring with synNext := 10 } });
      t.pwr.aonMicros < t.ring.synAt + 2000 * t.ring.synNext) := by decide
theorem test_timeSync_hyps :
    let hd := (upState.wr F.RING_STAT_DN_LINK 0 2).wr F.SYS_TB_STAT_COARSE 0 0
    let s := satState (fun s => { s with sys := { s.sys with timebase := 100 } })
    hd.linkIsUp false = true ∧ hd.isOn .core = true ∧ hd.sys.role = .head ∧ hd.flag F.RING_CFG_TS_EN = true ∧ hd.flag F.SYS_TB_STAT_COARSE = false ∧
    hd.headLinks = [false] ∧ hd.isOn .ring = true ∧ s.sys.timebase.toNat ≤ (240 * leNat ((leBytes 8 100 ++ [0, 0, 0, 0, 0, 10]).take 8)) / 240 ∧
    (240 * leNat ((leBytes 8 99 ++ [239]).take 8) + 239) / 240 < s.sys.timebase.toNat := by decide

theorem test_walkSatellite_hyps :
    let own := leBytes 2 7 ++ [0, 0] ++ [2] ++ [7, 0, 0, 8] ++ [0x34, 0x12, 1, 2]
    let oth := leBytes 2 7 ++ [0, 0] ++ [2] ++ [7, 0, 0, 8]
    let end1 := (satState id).wr F.RING_STAT_DN_LINK 0 1
    (testToken 5 own true).type = 5 ∧ (satState id).linkIsUp (testToken 5 own true).up = true ∧
    (byteAt own 4).testBit 0 = false ∧ (byteAt ([7, 0, 0, 0, 1] : List Byte) 4).testBit 0 = true ∧
    ((walkEntries own).any (fun e => leNat (e.take 2) == (satState id).originSerial)) = true ∧
    ((walkEntries oth).any (fun e => leNat (e.take 2) == (satState id).originSerial)) = false ∧
    end1.linkIsUp true = true ∧ end1.linkIsUp false = false ∧ (satState id).linkIsUp false = true ∧ (walkEntries own).length < 255 := by decide
def headState (ws : List WalkRun) (f : State → State) : State :=
  f (((({ upState with otp := { upState.otp with serial := 7 }, ring := { upState.ring with walks := ws } } : State).wr
    F.RING_STAT_UP_LINK 0 2).wr F.RING_STAT_DN_LINK 0 2))

theorem test_walkHead_hyps :
    let back := leBytes 2 7 ++ [0, 0] ++ [0] ++ [7, 0, 0, 8] ++ [0x34, 0x12, 1, 1]
    let refl := leBytes 2 7 ++ [0, 0] ++ [1] ++ [7, 0, 0, 8] ++ [0x34, 0x12, 1, 2]
    let run := headState [⟨0, false, some 7⟩] (fun s => { s with txns := [newTxn 7 31 (some 31) 4 .running []] })
    let q := fun (op : Nat) => headState [] (fun s => { s with txns := [newTxn 7 31 (some 31) op .queued []] })
    let dn := fun (op : Nat) => queuedState 31 op
    (headState [⟨0, false, none⟩] id).walkOf (testToken 5 back true) = some ⟨0, false, none⟩ ∧ (headState [] id).walkOf (testToken 5 back true) = none ∧
    (headState [⟨0, false, none⟩] id).walkOf { testToken 5 refl true with up := false } = some ⟨0, false, none⟩ ∧
    (byteAt ([0x34, 0x12, 1, 1] : List Byte) 3).testBit 0 = true ∧ run.walkOf (testToken 5 back true) = some ⟨0, false, some 7⟩ ∧
    run.txn? 7 = some (newTxn 7 31 (some 31) 4 .running []) ∧ (newTxn 7 31 (some 31) 4 .running []).isRunning = true ∧
    (headState [] id).headLinks = [false] ∧ (headState [] id).sys.role = .head ∧
    (∀ op ∈ [1, 2, 3, 4], (q op).takeHead? unitRing op = some (newTxn 7 31 (some 31) (BitVec.ofNat 512 op) .queued []) ∧ (q op).headLinks ≠ [] ∧
      (dn op).headLinks = []) ∧
    (headState [⟨0, false, none⟩] id).ring.walks.find? (fun w => w.up == false) = some ⟨0, false, none⟩ := by decide

theorem test_beamMaster_hyps :
    let d := fun (op : Nat) (more : Nat) => BitVec.ofNat 512 (op + (2 ^ 176 + more * 2 ^ 177) + 5 * 2 ^ 256)
    let q := fun (op more : Nat) => queuedState 29 (d op more)
    let tx := fun (op more : Nat) => newTxn 7 29 (some 29) (d op more) .queued []
    let late := queuedState 29 (1 + 2 ^ 10)
    let l2 : State := { late with sys := { late.sys with timebase := 1 } }
    (∀ op ∈ [1, 2, 3, 4, 5], (q op 0).beamTake? op = some (tx op 0)) ∧ (q 2 1).beamTake? 2 = some (tx 2 1) ∧
    (descByte (d 2 1) 22).testBit 1 = true ∧ (descByte (d 2 0) 22).testBit 1 = false ∧ byteAt (beamOut (d 5 0) []) 0 = 5 ∧
    (queuedState 29 5).beamTake? 5 = some (newTxn 7 29 (some 29) 5 .queued []) ∧ byteAt (beamOut (5 : Desc) []) 0 = 0 ∧
    l2.txns.find? (fun t => t.unit == unitBeam && t.isQueued && l2.nltPassed t.desc) = some (newTxn 7 29 (some 29) (1 + 2 ^ 10) .queued []) ∧
    (upState.wr F.BEAM_CFG_AUTO_CLAIM 0 1).beamFree = true ∧
    (List.range 64).find? (fun a => !(upState.wr F.BEAM_MAP_LO_MAP 0 1).beamMapped a) = some 2 := by decide
theorem test_beamResponse_hyps :
    let f := reqFrame 3 0 0 0 1 8 0 []
    let s : State := { upState with beam := { upState.beam with run := some ⟨7, f, 2⟩ }, txns := [newTxn 7 29 (some 29) 1 .running []] }
    let w : State := { upState with beam := { upState.beam with window := some (63, some 7) }, txns := [newTxn 7 29 (some 29) 5 .running []] }
    let l2 := queuedState 29 1
    let l3 : State := { queuedState 29 2 with host := HostPart.reset }
    s.txn? 7 = some (newTxn 7 29 (some 29) 1 .running []) ∧ (newTxn 7 29 (some 29) 1 .running []).live = true ∧ s.isOn .core = true ∧
    (newTxn 7 29 (some 29) 1 .running []).retry ≤ 2 ∧ 2 < { newTxn 7 29 (some 29) 1 .running [] with retry := 3 }.retry ∧
    l2.nltPassed 1 = false ∧ l2.mayDma = true ∧ l3.mayDma = false ∧ State.reset.isOn .core = false ∧ beamCrcGood [0] = false ∧
    beamCrcGood (respFrame 3 f 0 [1, 2, 3, 4]) = true ∧ answers f (respFrame 3 f 0 [1, 2, 3, 4]) = true ∧
    answers f (respFrame 4 f 0 [1, 2, 3, 4]) = false ∧ upState.beam.run = none ∧ w.beam.window = some (63, some 7) ∧ w.txn? 7 ≠ none := by decide

def slaveState (f : State → State) : State :=
  f (((({ upState with sys := { upState.sys with role := .satellite } } : State).wr F.BEAM_ADDR_ADDR 0 3).wr F.BEAM_ADDR_VALID 0 1))

theorem test_beamSlave_hyps :
    let rq := fun (op sp a cnt : Nat) (data : List Byte) => reqFrame 3 0 op sp 5 a cnt data
    (slaveState id).beamSlave = true ∧ upState.beamSlave = false ∧ beamCrcGood [1, 2] = false ∧
    (∀ b ∈ [rq 0 2 0 0 [], rq 0 2 2 0 [], rq 1 1 0 1 [1, 2, 3, 4, 5, 6, 7, 8], rq 1 2 0 0 [1, 2, 3, 4]], beamCrcGood b = true ∧ beamTo b = 3 ∧ beamKind b = 0) ∧
    beamReject (rq 0 2 0 0 []) = false ∧ beamReject (rq 0 2 2 0 []) = true ∧ beamSpace (rq 0 2 0 0 []) = 2 ∧
    beamA (rq 0 2 0 0 []) + 4 * beamWords (rq 0 2 0 0 []) ≤ blockEnd 2 (beamA (rq 0 2 0 0 [])) ∧
    (slaveState id).beam.served = none ∧ (slaveState id).board.window = none ∧
    beamA (rq 1 1 0 1 [1, 2, 3, 4, 5, 6, 7, 8]) / tileBytes = 0 := by decide
theorem test_beamSlave2_hyps :
    let b := reqFrame 0 3 1 0 0 0xC820 0 [1, 2, 3, 4]
    let st := reqFrame 3 0 2 0 5 23 1 (List.replicate 8 0)
    let cl := reqFrame 0 3 4 0 0 0 0 [9, 0, 0, 0]
    let s2 := (slaveState id).wr F.BEAM_ADDR_VALID 0 0
    let rel := slaveState (fun s => { s with board := { s.board with tiles := vset s.board.tiles 5 ⟨.sealed, [], 0⟩ } })
    beamKind b = 3 ∧ beamCrcGood b = true ∧ beamReject b = false ∧ beamWords b = 1 ∧ beamOp b = 1 ∧
    beamA st < 24 ∧ byteAt st 5 = 1 ∧ beamOp st = 2 ∧ beamKind cl = 3 ∧ beamOp cl = 4 ∧ byteAt (beamData cl) 0 = 9 ∧ beamCrcGood cl = true ∧
    s2.flag F.BEAM_ADDR_VALID = false ∧ s2.beamSlave = true ∧ (0x105#32).toNat.testBit 8 = true ∧ (rel.tile 5).st = .sealed ∧
    ix 63 ((0x105#32).toNat % 64) = (5 : Fin 64) ∧ rel.flag F.RING_CFG_EN = false ∧ rel.isOn .board = true := by decide
theorem test_beamStart_hyps :
    let st := reqFrame 3 0 2 0 5 23 1 [0, 1, 0, 0, 0, 0, 0, 0]
    let sp := reqFrame 3 0 3 0 5 23 0 [6, 0, 0, 0]
    (slaveState id).descBad 23 (beamDesc 6 (leBytes 1 (byteAt (beamData sp) 1))) = false ∧ beamCrcGood sp = true ∧ beamOp sp = 3 ∧
    beamOp st = 2 ∧ byteAt (beamData sp) 0 = 6 ∧ ((slaveState id).wr F.BEAM_ADDR_ADDR 0 4).rd F.BEAM_ADDR_ADDR ≠ beamTo sp := by decide

theorem test_timer_hyps :
    let run := (upState.setF F.TMR_STAT_RUN 15).wr F.TMR_CTL_CLK 15 1
    let ext := ((upState.setF F.TMR_STAT_RUN 15).wr F.TMR_CTL_CLK 15 2).wr F.TMR_CTL_EXT_PIN 15 7
    let per := run.setF F.TMR_CTL_MODE 15
    let tm := fun (s : State) (f : Timer → Timer) => s.modTimer 15 f
    let hit := tm run (fun t => { t with count := 9, period := 10 })
    let ovf := tm run (fun t => { t with count := 0xFFFFFFFFFFFFFFFF })
    let rnd := (hit.wr F.ROD_ROUND_CFG_TMR_EN 0 1).wr F.ROD_ROUND_CFG_TMR_SEL 0 15
    let cap := (upState.wr F.TMR_CTL_CAPT_SRC 15 1).wr F.TMR_CTL_CAPT_EDGE 15 3
    let opened := tm cap (fun t => { t with pairOpen := true, cntLatch := some 1, captLatch := some 2 })
    run.takes 15 1 = true ∧ upState.takes 15 1 = false ∧ run.gpio.tgate = 0 % 256 ∧ ext.rd F.TMR_CTL_EXT_PIN 15 = 7 ∧
    (ext.wr F.GPIO_IN_PINS 0 (mixBits (2 ^ 7) 65535 (ext.rd F.GPIO_IN_PINS))).takes 15 2 = true ∧ (ext.rd F.GPIO_DIR_PINS).testBit 7 = false ∧
    cap.gpio.tgate.testBit (1 - 1) ≠ true ∧ (upState.wr F.TMR_CTL_CAPT_SRC 15 0x17).rd F.TMR_CTL_CAPT_SRC 15 = 0x10 + (7 : Fin 16).val ∧ hit.flag F.TMR_CTL_CMP_EN 15 = true ∧
    (hit.timer 15).period.toNat ≤ ((hit.timer 15).count + 1).toNat ∧ per.flag F.TMR_CTL_MODE 15 = true ∧ (ovf.timer 15).count + 1 = 0 ∧
    rnd.flag F.ROD_ROUND_CFG_TMR_EN = true ∧ rnd.rd F.ROD_ROUND_CFG_TMR_SEL = 15 ∧ cap.rd F.TMR_CTL_CAPT_SRC 15 ≠ 0 ∧
    (cap.rd F.TMR_CTL_CAPT_EDGE 15).testBit 1 = true ∧ (opened.timer 15).pairOpen = true ∧ opened.flag F.TMR_STAT_CAPT_PEND 15 = false ∧
    (opened.setF F.TMR_STAT_CAPT_PEND 15).flag F.TMR_STAT_CAPT_PEND 15 = true ∧ (opened.timer 15).cntLatch = some 1 ∧
    (opened.timer 15).captLatch = some 2 ∧ (upState.timer 15).cntLatch = none ∧ (upState.timer 15).captLatch = none ∧
    (8#32).toNat % 16 = 8 ∧ (3#32).toNat % 8 ∈ [3, 5, 7] ∧ upState.isOn .core = true ∧ upState.rd F.TMR_CTL_CAPT_SRC 15 = 0 := by decide

theorem test_crc_hyps :
    let a := upState.setF F.CRC_STAT_ACTIVE 3
    let m := a.setF F.CRC_CFG_MODE 3
    let f := m.modCrc 3 (fun x => { x with frames := [[1, 2]] })
    a.flag F.CRC_STAT_ACTIVE 3 = true ∧ upState.flag F.CRC_STAT_ACTIVE 3 = false ∧ upState.isOn .core = true ∧ a.flag F.CRC_CFG_MODE 3 = false ∧
    m.flag F.CRC_CFG_MODE 3 = true ∧ f.flag F.CRC_CFG_REC_EN 3 = false ∧ (f.setF F.CRC_CFG_REC_EN 3).flag F.CRC_CFG_REC_EN 3 = true ∧ (f.crcUnit 3).frames = [[1, 2]] ∧ (upState.crcUnit 3).frames = [] ∧
    (1#32).toNat % 4 = 1 ∧ (2#32).toNat % 4 = 2 ∧ legalStream 0x53 = true ∧ legalStream 0x54 = false := by decide
theorem test_spi_hyps :
    let rd : Desc := BitVec.ofNat 512 (1 + 5 * 2 ^ 136 + 2 ^ 176 + 255 * 2 ^ 256 + 2 ^ 264 + 2 * 2 ^ 272)
    let tx := fun (ph : TxPhase) => newTxn 7 30 (some 30) rd ph []
    let q := queuedState 30 rd
    let run := fun (r : SpiRun) => ({ upState with spi := some r, txns := [tx .running] } : State)
    let r0 : SpiRun := ⟨7, 1, 0, true, 0, [], none, false, 0⟩
    let w0 : SpiRun := ⟨7, 1, 1, false, 1, [], none, false, 0⟩
    let mf : State := { upState with serial := { upState.serial with frames := [flashPoll], onWire := true } }
    let mw : State := { upState with serial := { upState.serial with frames := [flashPoll], retry := .waiting } }
    let cf := fun (s : State) => { (s.wr F.HOST_SQ_CFG_EN 30 1).wr F.DOORBELL_SQ_COUNT 30 1 with sys := { s.sys with nextId := 8 } }
    let l2 : State := { queuedState 30 (1 + 2 ^ 10) with sys := { upState.sys with timebase := 1 } }
    q.takeHead? unitSpi 1 = some (tx .queued) ∧ q.spi = none ∧ q.wireFree = true ∧ mf.wireFree = false ∧ mf.serial.onWire = true ∧ flashPoll.head.status = true ∧ flashPoll.read = 0 ∧
    (run w0).wireFree = true ∧ (run w0).loadFrame = none ∧ (run w0).serial.frames = [] ∧ mw.wireFree = true ∧ mw.loadFrame = none ∧ mw.spi = none ∧ mw.xferWaits = false ∧
    Nat.testBit 3 0 = true ∧ (run r0).txn? 7 = some (tx .running) ∧
    xferStat rd = true ∧ 1 &&& descByte rd 32 = descByte rd 33 ∧ 0 + 1 < descByte rd 34 ∧ descByte rd 34 ≤ 1 + 1 ∧ 0 &&& descByte rd 32 ≠ descByte rd 33 ∧
    xferLen rd = 1 ∧ xferRead rd = true ∧ q.nltPassed rd = false ∧ l2.nltPassed (1 + 2 ^ 10) = true ∧ q.test.takesBalls = false ∧
    { r0 with cut := some .aborted }.cut = some .aborted ∧ (cf (run r0)).mayFetch 30 = true ∧ (cf (run r0)).fetchEnd (sqUnit 30) 0x0E = none ∧
    (cf (run r0)).fetchEnd (sqUnit 30) 0x0F = none ∧ (∀ v ∈ (cf q).txns, v.id < (cf q).sys.nextId) ∧ (cf q).mayFetch 30 = true ∧
    (cf q).txn? 7 = some (tx .queued) ∧ l2.txns.find? (fun t => t.unit == unitSpi && t.op == 1 && t.isQueued && l2.nltPassed t.desc) ≠ none := by decide
theorem test_gpio_hyps :
    let e := upState.wr F.GPIO_EVT_EN_PINS 0 0x8000
    let o := upState.wr F.GPIO_DIR_PINS 0 0x8000
    let w : State := { upState with gpio := { upState.gpio with window := true, changed := 0x8000 } }
    (e.rd F.GPIO_DIR_PINS).testBit 15 = false ∧ (e.rd F.GPIO_EVT_EN_PINS).testBit 15 = true ∧ (e.rd F.GPIO_IN_PINS).testBit 15 = false ∧
    (o.rd F.GPIO_DIR_PINS).testBit 15 = true ∧ w.gpio.window = true ∧ upState.gpio.window = false ∧
    (upState.rd F.GPIO_EVT_EN_PINS).testBit 15 = false := by decide

theorem test_bist_hyps :
    let q := fun (m : Nat) => queuedState 28 (BitVec.ofNat 512 (0x40 + m * 2 ^ 128))
    let tx := fun (m : Nat) => newTxn 7 28 (some 28) (BitVec.ofNat 512 (0x40 + m * 2 ^ 128)) .queued []
    let run := fun (b : BistRun) => upState.modTest (fun t => { t with bist := some b })
    let lf := ({ q (2 ^ 6) with pwr := { (q (2 ^ 6)).pwr with st := vset upState.pwr.st 6 .off } } : State)
    (q 0).takeHead? unitSys 0x40 = some (tx 0) ∧ (q 0).pwrBusy = false ∧ bistAllowed 0 0 = false ∧
    (q (2 ^ 6)).bistCheck (descField (tx (2 ^ 6)).desc 16 2) (descByte (tx (2 ^ 6)).desc 18) = none ∧ bistAllowed (2 ^ 6) 0 = true ∧
    bistTargets (2 ^ 6) 0 = [.lf] ∧ lf.isOn .lf = false ∧ (run ⟨none, 2 ^ 6, 0, true, [6], [], [], []⟩).pwrBusy = true ∧
    (run ⟨none, 2 ^ 6, 0, true, [6], [], [], []⟩).busyTest .lf = false ∧ (run ⟨none, 2 ^ 6, 0, true, [6], [], [], []⟩).recordsTest .lf .off = false ∧
    bistTargets 0 4 = [.keys] ∧ upState.test.bist = none ∧ upState.expected 6 = none ∧
    ({ upState with otp := { upState.otp with misr := List.replicate 16 (some 5) } } : State).expected 6 = some 5 ∧
    ((run ⟨none, 2 ^ 6, 0, true, [6], [], [], []⟩).wr F.LF_STAT_STATE 0 1).busyTest .lf = true := by decide
theorem test_debug_hyps :
    let h := upState.setF F.DBG_STAT_HALTED
    let p := (planState [] testPlan).setF F.DBG_STAT_HALTED
    let j := upState.modTest (fun t => { t with tap := 0x10 })
    let x : TapScan := ⟨8, [true], [false, true]⟩
    h.flag F.DBG_STAT_HALTED = true ∧ h.flag F.DBG_STAT_STOPPED = false ∧ h.acc.run = none ∧ h.accAtRest = true ∧ p.plan? 23 = some testPlan ∧
    testPlan.atRest = true ∧ x.tdi ≠ [] ∧ x.ir % 32 = 8 ∧ j.test.tap = 0x10 ∧ j.otp.debugLocked = false ∧ upState.test.tap ≠ 0x10 ∧ upState.isOn .aon = true ∧
    (1#32).toNat % 8 = 1 ∧ (2#32).toNat % 8 = 2 ∧ (4#32).toNat % 8 = 4 ∧ (2#32).toNat % 4 = 2 ∧ upState.flag F.DBG_STAT_HALTED = false := by decide

theorem test_step_hyps :
    ({ upState with pending := [.gpioWindowEnd, .walkSend] } : State).pending = [.gpioWindowEnd, .walkSend] ∧ upState.pending = [] := by decide

theorem test_memWf_hyps : ({ upState with boardMem := Memory.writeBytes [] 0xFFFFC [1, 0, 2, 3] } : State).memWf = true := by decide

theorem test_otpFrame_hyps : ∃ t, exec .walkSend upState = .next t := ⟨_, rfl⟩
theorem test_memFrame_hyps : ∃ t, exec (.planWindowOpen 0) upState = .next t := ⟨_, rfl⟩

theorem test_idle_hyps :
    let w := (upState.wr F.RST_WDT_CFG_EN 0 1).wr F.RST_WDT_CFG_TIMEOUT 0 1
    let r := w.modPwr (fun p => { p with wdt := 999 })
    let tm := upState.setF F.TMR_STAT_RUN 15
    let h : State := { upState with ring := { upState.ring with hold := 2 } }
    let b : State := { upState with board := { upState.board with lastLeft := some 1 } }
    let cy := (upState.modPwr (fun p => { p with aonMicros := 30, aonCycles := 0 })).wr F.PWR_WAKE_TIMER_COUNT 0 1
    upState.pending = [] ∧ upState.test.bist = none ∧ upState.wdtRuns = false ∧ w.wdtRuns = true ∧ r.wdtRuns = true ∧
    r.rd F.RST_WDT_CFG_TIMEOUT * 1000 ≤ r.pwr.wdt + 1 ∧ tm.takes 15 0 = true ∧ tm.isOn .core = true ∧ tm.ring.hold = 0 ∧ h.ring.hold ≠ 0 ∧
    b.board.lastLeft = some (0 + 1) ∧ (cy.pwr.aonMicros + 1) * 32768 / 1000000 ≠ cy.pwr.aonCycles ∧ cy.rd F.PWR_WAKE_TIMER_COUNT = 1 ∧
    (2 * (cy.wr F.PWR_WAKE_EN_EN 0 2).rd F.PWR_WAKE_EN_EN).testBit 2 = true := by decide

theorem test_accessFault_hyps :
    State.reset.pst (domainOf 0xC004) ≠ .on ∧ (regMapRow? 0xC004).isSome = true ∧ State.reset.pst .core ≠ .on ∧
    State.reset.flag F.PWR_ACCESS_FAULT_VALID = false ∧ (State.reset.accessFault 0 true false).flag F.PWR_ACCESS_FAULT_VALID = true := by decide

theorem test_capture_hyps :
    let s := upState.modTimer 15 (fun t => { t with pairOpen := true, captLatch := some 3 })
    let e := (s.wr F.TMR_CTL_CAPT_SRC 15 1).wr F.TMR_CTL_CAPT_EDGE 15 2
    e.gpio.tgate.testBit 0 ≠ true ∧ (s.wr F.TMR_CTL_CAPT_SRC 15 0x13).rd F.TMR_CTL_CAPT_SRC 15 = 0x10 + (3 : Fin 16).val ∧
    (s.rd F.GPIO_DIR_PINS).testBit 3 = false ∧ (s.rd F.GPIO_IN_PINS).testBit 3 ≠ true ∧ s.rd F.TMR_CTL_CLK 15 ≠ 2 ∧
    s.isOn .core = true ∧ (s.timer 15).pairOpen = true ∧ (s.timer 15).captLatch = some 3 ∧ s.flag F.TMR_STAT_CAPT_PEND 15 = false ∧
    (s.setF F.TMR_STAT_CAPT_PEND 15).flag F.TMR_STAT_CAPT_PEND 15 = true ∧ e.rd F.TMR_CTL_CAPT_SRC 15 ≠ 0 ∧
    (e.rd F.TMR_CTL_CAPT_EDGE 15).testBit (if false then 0 else 1) = true ∧ (8#32).toNat % 16 = 8 ∧ (upState.timer 15).pairOpen = false := by decide

/-! ### Steps whose results the spec gives -/

/-- The bytes of "123456789". -/
def checkBytes : List Byte := [0x31, 0x32, 0x33, 0x34, 0x35, 0x36, 0x37, 0x38, 0x39]

/-- The check values of R562. -/
theorem test_crc_check_values :
    crcRun 0 (presetInit 0) checkBytes ^^^ presetXor 0 = 0x906E ∧ crcRun 1 (presetInit 1) checkBytes ^^^ presetXor 1 = 0xBF05 ∧
    crcRun 2 (presetInit 2) checkBytes ^^^ presetXor 2 = 0xCBF43926 ∧
    crcRun 3 (presetInit 3) checkBytes ^^^ presetXor 3 = 0xE3069283 ∧ crc32c checkBytes = 0xE3069283 := by decide
/-- R2: the sampled role pins. -/
theorem test_role_pins : roleOf 0 = .head ∧ roleOf 1 = .satellite ∧ roleOf 2 = .standalone ∧ roleOf 3 = .reserved := by decide
/-- FIELD_ON of rod 23 waits in the budget queue, and its NLT has passed. -/
def overdueState : State :=
  let s := (rodTxnState (fun r => r) (BitVec.ofNat 512 (0x401 + 5000 * 2 ^ 64)) .running).setQueue [⟨23, 6, some 7⟩]
  { s with sys := { s.sys with timebase := 6000 } }

/-- The worked example of chapter 4: a start that only the budget holds ends FIELD_BUDGET when its NLT passes (R204). -/
theorem test_budget_example :
    ∃ t, exec (.rodNltExpiry 23) overdueState = .next t ∧ t.txns.map (fun u => (u.id, u.phase)) = [(7, .done .fieldBudget)] ∧
      t.rd F.FLD_CNT_BUDGET_COUNT = 1 ∧ t.field.queue = [] := ⟨_, rfl, by decide⟩
end

section
/-! PROOFS. O1: register writes. -/

namespace Sys2Proof.Machine
open Sys2Proof
variable (s : State)

/-! ### Register fields as flags, and frames of register writes -/

/-- A one-bit field that was set reads as set. -/
theorem State.flag_setF_self {f : Fld} (h : f.size = 2) (i : Nat) : (s.setF f i).flag f i = true := by
  simp [State.flag, State.setF, h]

/-- A write of one field leaves the flags with another key. -/
theorem State.flag_wr_ne {f g : Fld} {i j : Nat} (h : f.key i ≠ g.key j) (v : Nat) :
    (s.wr f i v).flag g j = s.flag g j := by simp [State.flag, s.rd_wr_ne h v]

/-! ### Accesses to a domain that is not ON (R602) -/

theorem Domain.num_lt_16 (d : Domain) : d.num.val < 16 := by omega

/-- A fault while one is captured is counted and nothing else. -/
theorem State.accessFault_captured {addr : Nat} {write beam : Bool} (h : s.flag F.PWR_ACCESS_FAULT_VALID = true) :
    s.accessFault addr write beam = s.count F.PWR_CNT_ACCESS_FAULT_COUNT := by
  simp [State.accessFault, h]

/-- The first fault is counted and captured. -/
theorem State.accessFault_first {addr : Nat} {write beam : Bool} (h : s.flag F.PWR_ACCESS_FAULT_VALID = false) :
    s.accessFault addr write beam = (((((s.count F.PWR_CNT_ACCESS_FAULT_COUNT).wr F.PWR_ACCESS_FAULT_ADDR 0 addr).wr
      F.PWR_ACCESS_FAULT_DOMAIN 0 (domainOf addr).num.val).wr F.PWR_ACCESS_FAULT_WRITE 0 (b2n write)).wr
      F.PWR_ACCESS_FAULT_BEAM 0 (b2n beam)).setF F.PWR_ACCESS_FAULT_VALID := by
  simp [State.accessFault, h]

/-- Every fault is counted, the first is captured, and nothing else changes. -/
theorem State.accessFault_noted (addr : Nat) (write beam : Bool) :
    AccessFaultNoted s (s.accessFault addr write beam) addr write beam := by
  unfold AccessFaultNoted
  cases h : s.flag F.PWR_ACCESS_FAULT_VALID with
  | true =>
    rw [s.accessFault_captured h, State.count]
    refine ⟨s.rd_wr_self _ 0 _, ?_, fun n => (Bool.noConfusion n), fun _ => RegsOnly.wr s _ 0 _,
      (RegsOnly.wr s _ 0 _).mono (by simp)⟩
    rw [State.flag_wr_ne _ (by decide), h]
  | false =>
    rw [s.accessFault_first h, State.count, State.setF]
    refine ⟨?_, ?_, fun _ => ⟨?_, ?_, ?_, ?_⟩, fun n => (Bool.noConfusion n), ?_⟩
    · iterate 5 rw [State.rd_wr_ne _ (by decide)]
      rw [State.rd_wr_self]
    · exact State.flag_setF_self _ (by decide) 0
    · iterate 4 rw [State.rd_wr_ne _ (by decide)]
      rw [State.rd_wr_self]
    · iterate 3 rw [State.rd_wr_ne _ (by decide)]
      rw [State.rd_wr_self]
      exact Nat.mod_eq_of_lt (domainOf addr).num_lt_16
    · iterate 2 rw [State.rd_wr_ne _ (by decide)]
      rw [State.rd_wr_self]
      cases write <;> rfl
    · rw [State.rd_wr_ne _ (by decide), State.rd_wr_self]
      cases beam <;> rfl
    · refine ((((((RegsOnly.wr s F.PWR_CNT_ACCESS_FAULT_COUNT 0 _).then F.PWR_ACCESS_FAULT_ADDR 0 _).then
        F.PWR_ACCESS_FAULT_DOMAIN 0 _).then F.PWR_ACCESS_FAULT_WRITE 0 _).then F.PWR_ACCESS_FAULT_BEAM 0 _).then
        F.PWR_ACCESS_FAULT_VALID 0 _).mono ?_
      simp

/-! ### Fields by their access type (R9, R11) -/

/-- A field reads what was set. -/
@[simp] theorem State.getField_setField (addr i : Nat) (f : FieldSpec) (v : Nat) :
    (s.setField addr i f v).getField addr i f = v := by
  simp [State.getField, State.setField]

theorem State.setField_regsOnly (addr i : Nat) (f : FieldSpec) (v : Nat) :
    RegsOnly s (s.setField addr i f v) [fldKey addr f.lo] :=
  ⟨rfl, fun _ _ h => tabGet_tabSet_ne _ _ _ _ (fun e => h (by simp [e]))⟩

theorem State.writeField_regsOnly (addr i v : Nat) (f : FieldSpec) :
    RegsOnly s (s.writeField addr i v f) [fldKey addr f.lo] := by
  have same : RegsOnly s s [fldKey addr f.lo] := (RegsOnly.refl s).mono (by simp)
  have set : ∀ x, RegsOnly s (s.setField addr i f x) [fldKey addr f.lo] := s.setField_regsOnly addr i f
  unfold State.writeField
  cases f.acc <;> dsimp only
  case rw | rwl => split; exacts [set _, same]
  case w1c | w1s => exact set _
  case ro | wo => exact same

/-- What a field reads after its register was written. -/
theorem State.getField_writeField (addr i v : Nat) (f : FieldSpec) :
    (s.writeField addr i v f).getField addr i f =
      (match f.acc with
       | .rw => if f.ok (bits v f.hi f.lo) then bits v f.hi f.lo else s.getField addr i f
       | .rwl => if f.ok (bits v f.hi f.lo) && !s.flag F.ACC_CFG_PLOCK then bits v f.hi f.lo else s.getField addr i f
       | .w1c => s.getField addr i f ^^^ (s.getField addr i f &&& bits v f.hi f.lo)
       | .w1s => s.getField addr i f ||| bits v f.hi f.lo
       | .ro => s.getField addr i f
       | .wo => s.getField addr i f) := by
  unfold State.writeField
  cases f.acc <;> dsimp only
  case rw | rwl => split <;> simp
  case w1c | w1s => simp

/-! ### A write of 32 or 64 bits -/

theorem State.regWrite_none {addr : Nat} {w : Word} {beam : Bool} (h : regMapRow? addr = none) :
    s.regWrite addr w beam = s := if_pos (by rw [h]; rfl)

theorem State.regWrite_off {addr : Nat} {w : Word} {beam : Bool} {r : RegSpec} (h : regMapRow? addr = some r)
    (off : s.isOn (domainOf addr) = false) : s.regWrite addr w beam = s.accessFault addr true beam := by
  simp [State.regWrite, h, off]

theorem State.regWrite_on {addr : Nat} {w : Word} {beam : Bool} {r : RegSpec} (h : regMapRow? addr = some r)
    (on : s.isOn (domainOf addr) = true) : s.regWrite addr w beam = writeReg addr w s := by
  simp [State.regWrite, h, on]

/-- A write to a register with an effect of its own has that effect. -/
theorem writeReg_hook {addr : Nat} {w : Word} {r : RegSpec} {f : Word → State → State} (h : regMapRow? addr = some r)
    (k : hookOf addr = some f) : writeReg addr w s = f w s := by simp [writeReg, h, k]

/-- A write to any other register writes its fields. -/
theorem writeReg_fields {addr : Nat} {w : Word} {r : RegSpec} (h : regMapRow? addr = some r) (k : hookOf addr = none) :
    writeReg addr w s = s.writeFields r addr w := by simp [writeReg, h, k]

/-- REGISTER_WRITE of 32 bits. -/
theorem exec_registerWrite (addr : Nat) (w : Word) :
    exec (.registerWrite addr w none) s = .next (s.regWrite addr w false) := rfl

/-- REGISTER_WRITE of 64 bits (R51): two writes of 32 bits, the lower address first. -/
theorem exec_registerWrite_wide (addr : Nat) (w h : Word) :
    exec (.registerWrite addr w (some h)) s = .next ((s.regWrite addr w false).regWrite (addr + 4) h false) := rfl

end Sys2Proof.Machine

open Sys2Proof Sys2Proof.Machine

/-- Settles O1, by what `State.regWrite` does at an offset without a register, in a domain that is not ON and at a register,
and by the access type of a field. -/
theorem registerWritesFollowTheirAccessTypes : Obligations.RegisterWritesFollowTheirAccessTypes := by
  unfold Obligations.RegisterWritesFollowTheirAccessTypes
  refine ⟨fun s addr w h => ?_, fun s addr w r h off => ?_, fun s addr w r h on => ⟨fun f k => ?_, fun k => ?_⟩,
    fun s addr i v f => ⟨?_, s.writeField_regsOnly addr i v f⟩, fun s addr w h => ?_⟩
  · rw [exec_registerWrite, s.regWrite_none h]
  · obtain ⟨counted, valid, capture, again, frame⟩ := s.accessFault_noted addr true false
    rw [exec_registerWrite, s.regWrite_off h off]
    refine ⟨_, rfl, counted, valid, fun first => ?_, again, frame⟩
    obtain ⟨at_addr, _, at_write, at_beam⟩ := capture first
    exact ⟨at_addr, at_write, at_beam⟩
  · rw [exec_registerWrite, s.regWrite_on h on, writeReg_hook s h k]
  · rw [exec_registerWrite, s.regWrite_on h on, writeReg_fields s h k, State.writeFields]
  · exact s.getField_writeField addr i v f
  · exact ⟨_, _, exec_registerWrite s addr w, exec_registerWrite _ (addr + 4) h, exec_registerWrite_wide s addr w h⟩
end

section
/-! PROOFS. O8: what leaves for the host while Bus Master Enable, D3hot and the MSI-X bits let it. -/

namespace Sys2Proof.Machine
open Sys2Proof
variable (s : State)

/-! ### The log of what leaves -/

@[simp] theorem State.logged_nil : s.logged [] = s.out := rfl

/-- What is logged after something was logged stands before it. -/
theorem State.logged_logged (a b : List Output) : ({ s with out := s.logged a } : State).logged b = s.logged (b ++ a) := by
  simp [State.logged]

/-- One output for each element of a list. -/
theorem State.forAll_emitOut {α : Type} (f : α → Output) (l : List α) :
    forAll l (fun (x : α) (s : State) => s.emitOut (f x)) s = { s with out := s.logged (l.map f).reverse } := by
  induction l generalizing s with
  | nil => rfl
  | cons x l ih =>
    rw [forAll_cons, ih, s.emitOut_logged]
    simp only [State.logged_logged, List.map_cons, List.reverse_cons]

/-! ### Buffer writes that waited (R102) -/

theorem State.flushOwed_waits (h : s.mayDma = false) : s.flushOwed = s := by simp [State.flushOwed, h]

theorem State.flushOwed_posts (h : s.mayDma = true) :
    s.flushOwed = { s with host := { s.host with owed := [] },
                           out := s.logged (s.host.owed.map (fun w => Output.hostWrite w.1 w.2)).reverse } := by
  simp only [State.flushOwed, h, if_true, State.forAll_emitOut]
  rfl

/-! ### Pending bits of vectors (R95) -/

/-- The message of vector `v` may go. -/
def State.mayMsi (s : State) (v : Nat) : Bool :=
  s.host.msixEnable && !s.host.msixMask && !s.flag F.MSIX_CTRL_MASK v && s.host.bme && !s.host.d3

/-- A pending message of vector `v` goes when it may. -/
def State.sendPending (v : Nat) (s : State) : State :=
  if s.host.pba.getLsbD v && s.mayMsi v then
    ({ s with host := { s.host with pba := s.host.pba &&& ~~~(1#32 <<< v) } }).emitOut (.msi v)
  else s

theorem State.flushPba_eq : s.flushPba = forAll (List.range 32) State.sendPending s := by
  unfold State.flushPba
  congr 1
  funext v s
  simp only [State.sendPending, State.mayMsi, Bool.and_assoc]

/-- Pending bits and the log are all that sending changes. -/
def PbaOnly (s t : State) : Prop := t = { s with out := t.out, host := { s.host with pba := t.host.pba } }

theorem PbaOnly.refl : PbaOnly s s := rfl

theorem PbaOnly.trans {s t u : State} (h : PbaOnly s t) (g : PbaOnly t u) : PbaOnly s u := by
  unfold PbaOnly at *
  rw [g, h]

theorem PbaOnly.mayMsi {s t : State} (h : PbaOnly s t) (v : Nat) : t.mayMsi v = s.mayMsi v := by rw [h]; rfl

theorem State.sendPending_pbaOnly (v : Nat) : PbaOnly s (s.sendPending v) := by
  unfold State.sendPending
  split <;> rfl

theorem State.sendPending_blocked {v : Nat} (h : s.mayMsi v = false) : s.sendPending v = s := by
  simp [State.sendPending, h]

/-- A vector that may go has no pending bit afterwards. -/
theorem State.sendPending_cleared {v : Nat} (hv : v < 32) (h : s.mayMsi v = true) :
    (s.sendPending v).host.pba.getLsbD v = false := by
  unfold State.sendPending
  split
  · simp [hv]
  · rename_i n
    simpa [h] using n

/-- A pending message that may go is in the log afterwards. -/
theorem State.sendPending_sent {v : Nat} (h : s.mayMsi v = true) (p : s.host.pba.getLsbD v = true)
    (free : s.test.takesBalls = false) : .msi v ∈ (s.sendPending v).out := by
  simp [State.sendPending, h, p, free]

/-- No pending bit is set. -/
theorem State.sendPending_clear (v : Nat) {k : Nat} (h : s.host.pba.getLsbD k = false) :
    (s.sendPending v).host.pba.getLsbD k = false := by
  unfold State.sendPending
  split <;> simp [h]

/-- The pending bit of another vector stays. -/
theorem State.sendPending_other {v k : Nat} (h : k ≠ v) :
    (s.sendPending v).host.pba.getLsbD k = s.host.pba.getLsbD k := by
  unfold State.sendPending
  split
  · rw [State.emitOut_host, BitVec.getLsbD_and, BitVec.getLsbD_not, BitVec.getLsbD_shiftLeft, BitVec.getLsbD_one]
    by_cases hk : k < 32
    · simp [hk]; omega
    · simp [hk, BitVec.getLsbD_of_ge _ k (Nat.not_lt.mp hk)]
  · rfl

/-- Nothing is taken from the log. -/
theorem State.sendPending_out (v : Nat) {o : Output} (h : o ∈ s.out) : o ∈ (s.sendPending v).out := by
  unfold State.sendPending
  split
  · simp only [State.emitOut_out]
    split <;> simp [h]
  · exact h

theorem State.forAll_sendPending_pbaOnly (l : List Nat) : PbaOnly s (forAll l State.sendPending s) :=
  forAll_inv (PbaOnly s) (fun v x h => h.trans (x.sendPending_pbaOnly v)) l s (PbaOnly.refl s)

/-- Each vector of the list that may go: its pending bit is clear, and its message has gone if it was pending. -/
theorem State.forAll_sendPending_vector {v : Nat} (hv : v < 32) (h : s.mayMsi v = true) (l : List Nat) (hl : v ∈ l) :
    (forAll l State.sendPending s).host.pba.getLsbD v = false ∧
    (s.host.pba.getLsbD v = true → s.test.takesBalls = false → .msi v ∈ (forAll l State.sendPending s).out) := by
  induction l generalizing s with
  | nil => cases hl
  | cons k l ih =>
    rw [forAll_cons]
    have fr := s.sendPending_pbaOnly k
    by_cases e : k = v
    · subst e
      refine ⟨?_, fun p free => ?_⟩
      · exact forAll_inv (fun t : State => t.host.pba.getLsbD k = false) (fun j x hx => x.sendPending_clear j hx) l _
          (s.sendPending_cleared hv h)
      · exact forAll_inv (fun t : State => Output.msi k ∈ t.out) (fun j x hx => x.sendPending_out j hx) l _
          (s.sendPending_sent h p free)
    · obtain ⟨clear, sent⟩ := ih (s.sendPending k) (by rw [fr.mayMsi, h]) ((List.mem_cons.mp hl).resolve_left (Ne.symm e))
      refine ⟨clear, fun p free => sent ?_ ?_⟩
      · rw [s.sendPending_other (Ne.symm e), p]
      · rw [fr]; exact free

theorem State.flushPba_pbaOnly : PbaOnly s s.flushPba := by
  rw [s.flushPba_eq]
  exact s.forAll_sendPending_pbaOnly _

/-- While no message may go, none does. -/
theorem State.flushPba_blocked (h : ∀ v, s.mayMsi v = false) : s.flushPba = s := by
  rw [s.flushPba_eq]
  refine forAll_inv (fun t => t = s) (fun v x e => ?_) _ _ rfl
  rw [e, s.sendPending_blocked (h v)]

/-! ### A ring signals its vector (R92, R95) -/

/-- A vector's message goes, or its pending bit is set. -/
theorem State.sendVector_cases (v : Nat) :
    s.sendVector v = { s with out := s.logged [.msi v] } ∨
    s.sendVector v = { s with host := { s.host with pba := s.host.pba ||| 1#32 <<< v } } := by
  unfold State.sendVector
  split
  · exact .inl (s.emitOut_logged _)
  · exact .inr rfl

/-- A signal: HOST_INT_STAT, no entry left unsignalled, and the message or the pending bit. -/
theorem State.signal_effect (r : Fin 21) :
    vget (s.signal r).host.unsig r = [] ∧
    (s.signal r).rd F.HOST_INT_STAT_VEC =
      (s.rd F.HOST_INT_STAT_VEC ||| 2 ^ s.rd F.HOST_CQ_CFG_VECTOR r.val) % F.HOST_INT_STAT_VEC.size ∧
    RegsOnly s { s.signal r with out := s.out, host := s.host } [F.HOST_INT_STAT_VEC.key 0] ∧
    (((s.signal r).out = s.logged [.msi (s.rd F.HOST_CQ_CFG_VECTOR r.val)] ∧ (s.signal r).host.pba = s.host.pba) ∨
      ((s.signal r).out = s.out ∧ (s.signal r).host.pba = s.host.pba ||| 1#32 <<< s.rd F.HOST_CQ_CFG_VECTOR r.val)) := by
  have hv : 1 <<< s.rd F.HOST_CQ_CFG_VECTOR r.val = 2 ^ s.rd F.HOST_CQ_CFG_VECTOR r.val := by simp [Nat.shiftLeft_eq]
  have regs := RegsOnly.wr s F.HOST_INT_STAT_VEC 0 (s.rd F.HOST_INT_STAT_VEC ||| 2 ^ s.rd F.HOST_CQ_CFG_VECTOR r.val)
  unfold State.signal
  dsimp only
  rw [hv]
  rcases State.sendVector_cases _ (s.rd F.HOST_CQ_CFG_VECTOR r.val) with e | e <;> rw [e]
  · exact ⟨vget_vset_self _ _ _, s.rd_wr_self _ 0 _, regs, .inl ⟨rfl, rfl⟩⟩
  · exact ⟨vget_vset_self _ _ _, s.rd_wr_self _ 0 _, regs, .inr ⟨rfl, rfl⟩⟩

/-! ### PCIE_BME_D3_CHANGE (R95, R102) -/

/-- The state with the configuration-space bits taken. -/
def State.withBus (s : State) (bme d3 on mask : Bool) : State :=
  { s with host := { s.host with bme := bme, d3 := d3, msixEnable := on, msixMask := mask } }

theorem exec_pcieBmeD3Change (bme d3 on mask : Bool) :
    exec (.pcieBmeD3Change bme d3 on mask) s =
      .next (if s.isOn .host then (s.withBus bme d3 on mask).flushOwed.flushPba else s) := rfl

theorem exec_ringModTimeExpiry (r : DevRing) : exec (.ringModTimeExpiry r) s = execRingModTimeExpiry r s := rfl

theorem exec_pcieLinkChange (speed width : Nat) : exec (.pcieLinkChange speed width) s = execPcieLinkChange speed width s := rfl

theorem State.withBus_mayDma {s : State} (h : s.isOn .host = true) (bme d3 on mask : Bool) :
    (s.withBus bme d3 on mask).mayDma = (bme && !d3) := by
  have e : (s.withBus bme d3 on mask).mayDma = (s.isOn .host && bme && !d3) := rfl
  rw [e, h, Bool.true_and]

/-- Posting what waited leaves which messages may go. -/
theorem State.flushOwed_mayMsi (v : Nat) : s.flushOwed.mayMsi v = s.mayMsi v := by
  cases h : s.mayDma with
  | false => rw [s.flushOwed_waits h]
  | true => rw [s.flushOwed_posts h]; rfl

/-- Posting what waited leaves the pending bits. -/
theorem State.flushOwed_pba : s.flushOwed.host.pba = s.host.pba := by
  cases h : s.mayDma with
  | false => rw [s.flushOwed_waits h]
  | true => rw [s.flushOwed_posts h]

/-- Posting what waited changes the log and the waiting writes. -/
theorem State.flushOwed_frame :
    s.flushOwed = { s with out := s.flushOwed.out, host := { s.host with owed := s.flushOwed.host.owed } } := by
  cases h : s.mayDma with
  | false => rw [s.flushOwed_waits h]
  | true => rw [s.flushOwed_posts h]

/-- The bits are taken; besides them only pending bits, waiting writes and the log change. -/
theorem State.busChange_frame (s : State) (bme d3 on mask : Bool) :
    let t := (s.withBus bme d3 on mask).flushOwed.flushPba
    t = { s with out := t.out, host := { s.host with bme := bme, d3 := d3, msixEnable := on, msixMask := mask,
                                                     pba := t.host.pba, owed := t.host.owed } } := by
  have fo := (s.withBus bme d3 on mask).flushOwed_frame
  have fp := (s.withBus bme d3 on mask).flushOwed.flushPba_pbaOnly
  unfold PbaOnly at fp
  dsimp only
  generalize (s.withBus bme d3 on mask).flushOwed.flushPba = t at *
  rw [fp, fo]
  rfl

/-- While messages may not go, the pending bits stay and what waited is all that leaves. -/
theorem State.busChange_noMsi (s : State) {bme d3 on mask : Bool} (h : (bme && !d3 && on && !mask) = false) :
    (s.withBus bme d3 on mask).flushOwed.flushPba = (s.withBus bme d3 on mask).flushOwed := by
  refine State.flushPba_blocked _ (fun v => ?_)
  rw [State.flushOwed_mayMsi]
  revert h
  simp only [State.mayMsi, State.withBus]
  cases bme <;> cases d3 <;> cases on <;> cases mask <;> simp

end Sys2Proof.Machine

open Sys2Proof Sys2Proof.Machine

/-- Settles O8, by what posting the waiting writes and sending the pending vectors do, and by what a signal does. -/
theorem busMasteringAndTheLinkGateTheHost : Obligations.BusMasteringAndTheLinkGateTheHost := by
  unfold Obligations.BusMasteringAndTheLinkGateTheHost
  refine ⟨fun s bme d3 on mask => ⟨fun off => ?_, fun isOn => ?_⟩, fun s r isOn => ⟨fun irq unsig => ?_, fun idle => ?_⟩,
    fun s speed width hs hw => ?_⟩
  · simp [exec_pcieBmeD3Change, off]
  · have dma := State.withBus_mayDma isOn bme d3 on mask
    refine ⟨(s.withBus bme d3 on mask).flushOwed.flushPba, by simp [exec_pcieBmeD3Change, isOn],
      s.busChange_frame bme d3 on mask, fun stopped => ?_, fun quiet => ?_, fun bm nd3 => ⟨?_, fun quiet => ?_⟩,
      fun v hv bm nd3 hon hmask unmasked => ?_⟩
    · have stop : (bme && !d3) = false := by rcases stopped with h | h <;> simp [h]
      rw [s.busChange_noMsi (by simp [stop]), State.flushOwed_waits _ (by rw [dma, stop])]
      exact ⟨rfl, rfl, rfl⟩
    · rw [s.busChange_noMsi (by rcases quiet with h | h <;> simp [h]), State.flushOwed_pba]
      rfl
    · rw [State.flushPba_pbaOnly, State.flushOwed_posts _ (by rw [dma, bm, nd3]; rfl)]
    · rw [s.busChange_noMsi (by rcases quiet with h | h <;> simp [h]), State.flushOwed_posts _ (by rw [dma, bm, nd3]; rfl)]
      rfl
    · have may : (s.withBus bme d3 on mask).mayMsi v = true := by
        have e : (s.withBus bme d3 on mask).mayMsi v = (on && !mask && !s.flag F.MSIX_CTRL_MASK v && bme && !d3) := rfl
        rw [e, bm, nd3, hon, hmask, unmasked]; rfl
      obtain ⟨clear, sent⟩ := State.forAll_sendPending_vector _ hv
        (by rw [State.flushOwed_mayMsi, may]) (List.range 32) (List.mem_range.mpr hv)
      rw [State.flushPba_eq]
      refine ⟨clear, fun p free => sent ?_ ?_⟩
      · rw [State.flushOwed_pba]; exact p
      · rw [State.flushOwed_frame]; exact free
  · refine ⟨s.signal r.idx, ?_, s.signal_effect r.idx⟩
    simp [exec_ringModTimeExpiry, execRingModTimeExpiry, irq, unsig, isOn]
  · have : (s.flag F.HOST_CQ_CFG_IRQ_EN r.idx.val && !(vget s.host.unsig r.idx).isEmpty) = false := by
      rcases idle with h | h <;> simp [h]
    simp [exec_ringModTimeExpiry, execRingModTimeExpiry, this]
  · simp [exec_pcieLinkChange, execPcieLinkChange, Nat.not_lt.mpr hs, Nat.not_lt.mpr hw, and_assoc]
end

section
/-! PROOFS. O39: locks of the access sequencer's registers, and the mirror of the failure counts. -/

namespace Sys2Proof.Machine
open Sys2Proof
variable (s : State)

/-! ### Bits of a written word -/

theorem bits_low (v n : Nat) : bits v n 0 = v % 2 ^ (n + 1) := by simp [bits]

theorem bits_eq (v hi lo : Nat) : bits v hi lo = v / 2 ^ lo % 2 ^ (hi - lo + 1) := by
  simp [bits, Nat.shiftRight_eq_div_pow]

/-- A field of as many bits as are read keeps them all. -/
theorem bits_mod_size (v hi lo : Nat) {f : Fld} (h : f.size = 2 ^ (hi - lo + 1)) : bits v hi lo % f.size = bits v hi lo := by
  rw [h, bits, Nat.mod_mod]

theorem bit_toNat (w : Word) (i : Nat) : bit w.toNat i = w.getLsbD i := rfl

/-! ### ACC_CFG (R341, R398) -/

theorem State.hostWrite_on {s : State} {addr : Nat} {f : State → State} (h : s.isOn (domainOf addr) = true) :
    s.hostWrite addr f = f s := by simp [State.hostWrite, h]

theorem exec_skipRestore (w : Word) :
    exec (.skipRestore w) s = .next (if bit w.toNat 17 then s.hostWrite 0x8000 (writeAccCfg w) else s) := rfl

theorem exec_accPlock (w : Word) :
    exec (.accPlock w) s = .next (if bit w.toNat 16 then s.hostWrite 0x8000 (writeAccCfg w) else s) := rfl

/-- The fields of ACC_CFG that PLOCK locks. -/
def State.takeAccCfg (s : State) (v : Nat) : State :=
  if s.flag F.ACC_CFG_PLOCK then s
  else
    let a := (s.wr F.ACC_CFG_RETRY 0 (bits v 1 0)).wr F.ACC_CFG_END_EN 0 (bits v 2 2)
    if 1 ≤ bits v 8 4 && bits v 8 4 ≤ 16 then a.wr F.ACC_CFG_REPOLL_MAX 0 (bits v 8 4) else a

/-- PLOCK after a write of ACC_CFG. -/
def State.takePlock (s : State) (v : Nat) : State := if bit v 16 then s.setF F.ACC_CFG_PLOCK else s

theorem writeAccCfg_eq (w : Word) : writeAccCfg w s =
    if bit w.toNat 17 then
      (((s.takeAccCfg w.toNat).takePlock w.toNat).setF F.ACC_CFG_SKIP_RESTORE).modAcc (fun a => { a with needRestore := false })
    else (s.takeAccCfg w.toNat).takePlock w.toNat := rfl

theorem State.takeAccCfg_frame (v : Nat) : s.takeAccCfg v = { s with regs := (s.takeAccCfg v).regs } := by
  simp only [State.takeAccCfg]
  split
  · rfl
  · split <;> rfl

theorem State.takePlock_frame (v : Nat) : s.takePlock v = { s with regs := (s.takePlock v).regs } := by
  simp only [State.takePlock]
  split <;> rfl

/-- SKIP_RESTORE clears NEED_RESTORE; besides, only registers change (R341). -/
theorem writeAccCfg_skip {w : Word} (h : w.getLsbD 17 = true) :
    (writeAccCfg w s).acc = { s.acc with needRestore := false } ∧
    writeAccCfg w s = { s with regs := (writeAccCfg w s).regs, acc := (writeAccCfg w s).acc } := by
  have e := writeAccCfg_eq s w
  rw [bit_toNat, h, if_pos rfl, State.takePlock_frame, State.takeAccCfg_frame] at e
  rw [e]
  exact ⟨rfl, rfl⟩

/-- A write with the PLOCK bit leaves PLOCK set (R398). -/
theorem writeAccCfg_plock {w : Word} (h : w.getLsbD 16 = true) : (writeAccCfg w s).rd F.ACC_CFG_PLOCK = 1 := by
  have set : ((s.takeAccCfg w.toNat).takePlock w.toNat).rd F.ACC_CFG_PLOCK = 1 := by
    rw [State.takePlock, bit_toNat, h, if_pos rfl, State.setF, State.rd_wr_self]
    decide
  rw [writeAccCfg_eq]
  split
  · have e : ∀ x : State, ((x.setF F.ACC_CFG_SKIP_RESTORE).modAcc (fun a => { a with needRestore := false })).rd F.ACC_CFG_PLOCK =
        x.rd F.ACC_CFG_PLOCK :=
      fun x => x.rd_wr_ne (f := F.ACC_CFG_SKIP_RESTORE) (g := F.ACC_CFG_PLOCK) (i := 0) (j := 0) (by decide) 1
    rw [e, set]
  · exact set

/-- With PLOCK set, a write with the PLOCK bit alone writes nothing else. -/
theorem writeAccCfg_locked {w : Word} (h : w.getLsbD 16 = true) (k : w.getLsbD 17 = false)
    (locked : s.flag F.ACC_CFG_PLOCK = true) : writeAccCfg w s = s.setF F.ACC_CFG_PLOCK := by
  rw [writeAccCfg_eq, bit_toNat, k, if_neg (by decide), State.takePlock, bit_toNat, h, if_pos rfl, State.takeAccCfg, locked,
    if_pos rfl]

/-! ### The serial master takes its next frame (R570, R571) -/

/-- The log, the serial master and an XFER's progress are all that changes, SPI_CNT.RETRY_COUNT among the registers; the
mirror's frames and their chip select stay. -/
structure SerialOnly (s t : State) : Prop where
  regs : RegsOnly { s with out := t.out, serial := t.serial, spi := t.spi } t [F.SPI_CNT_RETRY_COUNT.key 0]
  frames : t.serial.frames = s.serial.frames
  cs : t.serial.cs = s.serial.cs

theorem SerialOnly.refl : SerialOnly s s := ⟨(RegsOnly.refl s).mono (by simp), rfl, rfl⟩

theorem SerialOnly.rd {s t : State} (h : SerialOnly s t) {f : Fld} {i : Nat} (k : f.key i ≠ F.SPI_CNT_RETRY_COUNT.key 0) :
    t.rd f i = s.rd f i := h.regs.2 f i (by simpa using k)

theorem SerialOnly.frame {s t : State} (h : SerialOnly s t) :
    t = { s with regs := t.regs, out := t.out, serial := t.serial, spi := t.spi } := h.regs.1

theorem SerialOnly.acc {s t : State} (h : SerialOnly s t) : t.acc = s.acc := by rw [h.frame]

/-- A change of what goes on outside the mirror's frames, with the retry counted or not. -/
theorem SerialOnly.of_parts {s t : State} {n : Nat} (h : t = { (s.wr F.SPI_CNT_RETRY_COUNT 0 n) with
    out := t.out, serial := t.serial, spi := t.spi }) (hf : t.serial.frames = s.serial.frames)
    (hc : t.serial.cs = s.serial.cs) : SerialOnly s t := by
  refine ⟨⟨?_, fun f i hk => ?_⟩, hf, hc⟩
  · rw [h]; rfl
  · rw [h]; exact s.rd_wr_ne (by simpa [eq_comm] using hk) n

theorem State.retryOut_serialOnly : SerialOnly s s.retryOut := by
  unfold State.retryOut
  split
  · rename_i r _
    split
    · exact SerialOnly.refl s
    · cases s.txn? r.txn with
      | none => exact SerialOnly.of_parts (n := s.rd F.SPI_CNT_RETRY_COUNT + 1) rfl rfl rfl
      | some t => exact SerialOnly.of_parts (n := s.rd F.SPI_CNT_RETRY_COUNT + 1) rfl rfl rfl
  · exact SerialOnly.refl s

theorem State.serialNext_serialOnly : SerialOnly s s.serialNext := by
  unfold State.serialNext
  split
  · exact SerialOnly.refl s
  split
  · exact s.retryOut_serialOnly
  split
  · exact ⟨⟨rfl, fun _ _ _ => rfl⟩, rfl, rfl⟩
  · split
    · split
      · exact SerialOnly.of_parts (n := s.rd F.SPI_CNT_RETRY_COUNT + 1) rfl rfl rfl
      · exact ⟨⟨rfl, fun _ _ _ => rfl⟩, rfl, rfl⟩
    · exact s.retryOut_serialOnly
  · exact s.retryOut_serialOnly

/-- A frame of the mirror begins when the wire is free and nothing goes before it. -/
theorem State.serialNext_begins {s : State} {f : SerialFrame} {l : List SerialFrame} (free : s.wireFree = true)
    (xfer : s.xferWaits = false) (load : s.loadFrame = none) (hf : s.serial.frames = f :: l) (retry : s.serial.retry = .none) :
    s.serialNext.serial.onWire = true ∧
    s.serialNext.out = s.logged [.spiFrame s.serial.cs (s.spiSet s.serial.cs) f.head (f.head.io (f.out.length + f.read))] := by
  have idle : s.serial.onWire = false := by
    cases h : s.serial.onWire with
    | false => rfl
    | true => simp [State.wireFree, h] at free
  have waits : s.serial.waits = true := by simp [SerialPart.waits, hf, idle, retry]
  have due : ¬ s.serial.retry = .due := by rw [retry]; decide
  have e : s.serialNext = (s.modSerial (fun x => { x with onWire := true, retry := .none, last := true })).frameOut
      s.serial.cs (s.spiSet s.serial.cs) f.head (f.out.length + f.read) := by
    unfold State.serialNext
    rw [free, xfer, load, hf, List.head?_cons]
    simp only [waits, Bool.not_true, Bool.false_eq_true, if_false, Bool.false_and, if_true, if_neg due]
  rw [e, State.frameOut, State.emitOut_logged]
  exact ⟨rfl, rfl⟩

/-- Whether a start-up load comes next depends on the power controller alone. -/
theorem State.loadFrame_none_congr {s t : State} (h : t.pwr = s.pwr) (n : s.loadFrame = none) : t.loadFrame = none := by
  unfold State.loadFrame at n ⊢
  rw [h]
  by_cases h9 : s.pwr.step = 9
  · simp [h9] at n
  by_cases h10 : s.pwr.step = 10
  · simp [h10] at n
  by_cases h11 : s.pwr.step = 11
  · simp only [h11] at n ⊢
    simpa using n
  · simp [h9, h10, h11]

/-! ### ACC_MIRROR_CFG and the start of a restore (R380) -/

/-- The fields of ACC_MIRROR_CFG taken. -/
def State.takeMirrorCfg (s : State) (v : Nat) : State :=
  ((s.wr F.ACC_MIRROR_CFG_EN 0 (bits v 0 0)).wr F.ACC_MIRROR_CFG_CS 0 (bits v 2 1)).wr F.ACC_MIRROR_CFG_BASE 0 (bits v 15 4)

/-- The keys of ACC_MIRROR_CFG. -/
def mirrorCfgKeys : List Nat := [F.ACC_MIRROR_CFG_EN.key 0, F.ACC_MIRROR_CFG_CS.key 0, F.ACC_MIRROR_CFG_BASE.key 0]

theorem State.takeMirrorCfg_regsOnly (v : Nat) : RegsOnly s (s.takeMirrorCfg v) mirrorCfgKeys :=
  (((RegsOnly.wr s F.ACC_MIRROR_CFG_EN 0 _).then F.ACC_MIRROR_CFG_CS 0 _).then F.ACC_MIRROR_CFG_BASE 0 _).mono
    (by simp [mirrorCfgKeys])

theorem State.takeMirrorCfg_rd (v : Nat) :
    (s.takeMirrorCfg v).rd F.ACC_MIRROR_CFG_EN = v % 2 ∧ (s.takeMirrorCfg v).rd F.ACC_MIRROR_CFG_CS = v / 2 % 4 ∧
    (s.takeMirrorCfg v).rd F.ACC_MIRROR_CFG_BASE = v / 16 % 4096 := by
  unfold State.takeMirrorCfg
  refine ⟨?_, ?_, ?_⟩
  · iterate 2 rw [State.rd_wr_ne _ (by decide)]
    rw [State.rd_wr_self, bits_mod_size _ _ _ (by decide), bits_eq]
    norm_num
  · rw [State.rd_wr_ne _ (by decide), State.rd_wr_self, bits_mod_size _ _ _ (by decide), bits_eq]
    norm_num
  · rw [State.rd_wr_self, bits_mod_size _ _ _ (by decide), bits_eq]
    norm_num

/-- The settings of a chip select lie outside ACC_MIRROR_CFG. -/
theorem spiSet_keys_not_mirrorCfg {c : Nat} {f : Fld} (h : f ∈ [F.SPI_CS_CFG_DIV, F.SPI_CS_CFG_CPOL, F.SPI_CS_CFG_CPHA,
    F.SPI_CS_TIM_SETUP, F.SPI_CS_TIM_HOLD, F.SPI_CS_TIM_IDLE]) : f.key c ∉ mirrorCfgKeys := by
  simp only [List.mem_cons, List.not_mem_nil, or_false] at h
  rcases h with rfl | rfl | rfl | rfl | rfl | rfl <;> simp only [mirrorCfgKeys, Fld.key, fldKey, List.mem_cons,
    List.not_mem_nil, or_false] <;> omega

/-- What the serial master is handed for a restore: the two reads. -/
def State.restoreStarts (s : State) (w : Word) : State :=
  let s1 := s.takeMirrorCfg w.toNat
  (s1.modAcc (fun a => { a with restoring := true })).modSerial (fun x => { x with
    frames := x.frames ++ [0, 1].map (fun k => s1.pwr.flash.readFrame (s1.mirrorAddr k) 1044),
    cs := s1.rd F.ACC_MIRROR_CFG_CS })

/-- A write of ACC_MIRROR_CFG starts a restore. -/
def State.restoreDue (s : State) (w : Word) : Bool :=
  w.getLsbD 0 && !s.flag F.ACC_MIRROR_CFG_EN && s.acc.needRestore && !s.acc.restoring

theorem State.restoring_of_not_due {w : Word} (h : s.restoreDue w = false) :
    (s.acc.restoring || (w.getLsbD 0 && !s.flag F.ACC_MIRROR_CFG_EN && s.acc.needRestore)) = s.acc.restoring := by
  revert h
  unfold State.restoreDue
  cases s.acc.restoring <;> simp

theorem State.restoring_of_due {w : Word} (h : s.restoreDue w = true) :
    (s.acc.restoring || (w.getLsbD 0 && !s.flag F.ACC_MIRROR_CFG_EN && s.acc.needRestore)) = true := by
  revert h
  unfold State.restoreDue
  cases s.acc.restoring <;> simp

theorem writeMirrorCfg_locked {s : State} (w : Word) (h : s.flag F.ACC_CFG_PLOCK = true) : writeMirrorCfg w s = s := by
  simp [writeMirrorCfg, h]

theorem writeMirrorCfg_plain {s : State} {w : Word} (h : s.flag F.ACC_CFG_PLOCK = false) (k : s.restoreDue w = false) :
    writeMirrorCfg w s = s.takeMirrorCfg w.toNat := by
  unfold State.restoreDue at k
  unfold writeMirrorCfg
  dsimp only
  rw [bit_toNat, k, h]
  rfl

theorem writeMirrorCfg_starts {s : State} {w : Word} (h : s.flag F.ACC_CFG_PLOCK = false) (k : s.restoreDue w = true) :
    writeMirrorCfg w s = (s.restoreStarts w).serialNext := by
  unfold State.restoreDue at k
  unfold writeMirrorCfg
  dsimp only
  rw [bit_toNat, k, h]
  rfl

theorem exec_mirrorRestoreStart {s : State} (w : Word) (h : s.isOn .core = true) :
    exec (.mirrorRestoreStart w) s = .next (writeMirrorCfg w s) := by
  have e : exec (.mirrorRestoreStart w) s = .next (s.hostWrite 0x8014 (writeMirrorCfg w)) := rfl
  rw [e, State.hostWrite_on h]

/-- The frames that a restore queues, and their chip select. -/
theorem State.restoreStarts_serial (w : Word) :
    (s.restoreStarts w).serial = { s.serial with
      frames := s.serial.frames ++ [s.pwr.flash.readFrame (4096 * (w.toNat / 16 % 4096 + 0)) 1044,
        s.pwr.flash.readFrame (4096 * (w.toNat / 16 % 4096 + 1)) 1044],
      cs := w.toNat / 2 % 4 } := by
  obtain ⟨-, cs, base⟩ := s.takeMirrorCfg_rd w.toNat
  simp only [State.restoreStarts, State.mirrorAddr, cs, base]
  rfl

/-- Besides ACC_MIRROR_CFG, the start of a restore changes the sequencer and the serial master. -/
theorem State.restoreStarts_regsOnly (w : Word) :
    RegsOnly { s with acc := { s.acc with restoring := true }, serial := (s.restoreStarts w).serial } (s.restoreStarts w)
      mirrorCfgKeys :=
  let ⟨e, r⟩ := s.takeMirrorCfg_regsOnly w.toNat
  ⟨by unfold State.restoreStarts; rw [e]; rfl, r⟩

theorem State.restoreStarts_rd (w : Word) {f : Fld} {i : Nat} (h : f.key i ∉ mirrorCfgKeys) :
    (s.restoreStarts w).rd f i = s.rd f i := (s.restoreStarts_regsOnly w).2 f i h

theorem State.restoreStarts_spiSet (w : Word) (c : Nat) : (s.restoreStarts w).spiSet c = s.spiSet c := by
  simp only [State.spiSet, State.flag]
  iterate 6 rw [s.restoreStarts_rd w (spiSet_keys_not_mirrorCfg (by simp))]

theorem State.restoreStarts_wireFree (w : Word) : (s.restoreStarts w).wireFree = s.wireFree := by
  have pads : (s.restoreStarts w).padsHeld .core = s.padsHeld .core := by
    unfold State.padsHeld
    rw [s.restoreStarts_rd w (by decide)]
  unfold State.wireFree
  rw [pads]
  rfl

/-- The first read begins at once when the serial master is free. -/
theorem State.restoreStarts_begins {s : State} (w : Word) (free : s.wireFree = true) (frames : s.serial.frames = [])
    (retry : s.serial.retry = .none) (load : s.loadFrame = none) (xfer : s.xferWaits = false) :
    let fr := s.pwr.flash.readFrame (4096 * (w.toNat / 16 % 4096 + 0)) 1044
    (s.restoreStarts w).serialNext.serial.onWire = true ∧
    (s.restoreStarts w).serialNext.out =
      s.logged [.spiFrame (w.toNat / 2 % 4) (s.spiSet (w.toNat / 2 % 4)) fr.head (fr.head.io 1044)] := by
  have ser := s.restoreStarts_serial w
  rw [frames, List.nil_append] at ser
  have begins := State.serialNext_begins (s := s.restoreStarts w) (by rw [s.restoreStarts_wireFree, free]) xfer
    (State.loadFrame_none_congr (s := s) rfl load) (by rw [ser]) (by rw [ser]; exact retry)
  rw [State.restoreStarts_spiSet, ser] at begins
  have len : ∀ (f : Flash) (a n : Nat), (f.readFrame a n).out.length + (f.readFrame a n).read = n := by
    intro f a n
    unfold Flash.readFrame
    split <;> simp [flashFrame]
  rw [len] at begins
  exact begins

/-! ### The end of a restore (R380) -/

/-- Failure waits are all that changes. -/
def WaitsOnly (s t : State) : Prop := t = { s with acc := { s.acc with waits := t.acc.waits } }

theorem State.startWait_waitsOnly (token : Bool) (i k : Nat) : WaitsOnly s (s.startWait token i k) := by
  unfold State.startWait
  dsimp only
  split <;> rfl

theorem WaitsOnly.step {s t : State} (h : WaitsOnly s t) (token : Bool) (i k : Nat) :
    WaitsOnly s (t.startWait token i k) := by
  have g := t.startWait_waitsOnly token i k
  unfold WaitsOnly at *
  rw [g, h]

/-- The sequencer with the values of an image, before its waits start. -/
def AccPart.withImage (a : AccPart) (sector gen : Nat) (b : List Byte) : AccPart :=
  { a with mirror := { a.mirror with sector := sector, gen := gen }, epoch := BitVec.ofNat 32 (leNat ((b.drop 8).take 4)),
           lockFails := Vector.ofFn (fun l => byteAt b (12 + l.val)),
           tokFails := ((List.range 1024).map (fun i => (i, byteAt b (16 + i)))).filter (fun p => p.2 != 0) }

theorem State.loadImage_waitsOnly (sector gen : Nat) (b : List Byte) :
    WaitsOnly { s with acc := s.acc.withImage sector gen b } (s.loadImage sector gen b) := by
  unfold State.loadImage
  refine forAll_inv _ (fun p x h => h.step true p.1 p.2) _ _ ?_
  refine forAll_inv _ (fun l x h => h.step false l (x.lockFails l)) _ _ ?_
  simp only [WaitsOnly, State.modAcc, AccPart.withImage]

/-- A sparse table made from a function reads it at every listed key. -/
theorem tabGet_ofFun (g : Nat → Nat) (l : List Nat) (k : Nat) :
    tabGet 0 ((l.map (fun i => (i, g i))).filter (fun p => p.2 != 0)) k = if k ∈ l then g k else 0 := by
  induction l with
  | nil => rfl
  | cons a l ih =>
    rw [List.map_cons, List.filter_cons]
    by_cases z : g a = 0
    · simp only [z, bne_self_eq_false, Bool.false_eq_true, if_false, ih, List.mem_cons]
      by_cases e : k = a
      · subst e; simp [z]
      · simp [e]
    · simp only [bne_iff_ne, ne_eq, z, not_false_eq_true, if_true, tabGet, ih, List.mem_cons]
      by_cases e : a = k
      · simp [e]
      · simp [e, Ne.symm e]

theorem AccPart.withImage_tokFails (a : AccPart) (sector gen : Nat) (b : List Byte) {i : Nat} (h : i < 1024) :
    tabGet 0 (a.withImage sector gen b).tokFails i = byteAt b (16 + i) := by
  have e := tabGet_ofFun (fun i => byteAt b (16 + i)) (List.range 1024) i
  rw [if_pos (List.mem_range.mpr h)] at e
  simp only [AccPart.withImage, e]

theorem AccPart.withImage_lockFails (a : AccPart) (sector gen : Nat) (b : List Byte) {l : Nat} (h : l < 4) :
    vget (a.withImage sector gen b).lockFails (ix 3 l) = byteAt b (12 + l) := by
  simp [AccPart.withImage, vget, Vector.get_eq_getElem, ix, Nat.mod_eq_of_lt h]

/-- Each token's count is its byte of the image. -/
theorem State.loadImage_tokFails (k g : Nat) (b : List Byte) {i : Nat} (h : i < 1024) :
    (s.loadImage k g b).tokFails i = byteAt b (16 + i) := by
  have frame := s.loadImage_waitsOnly k g b
  unfold WaitsOnly at frame
  rw [State.tokFails, frame]
  dsimp only
  rw [s.acc.withImage_tokFails k g b h]

/-- Each lock's count is its byte of the image. -/
theorem State.loadImage_lockFails (k g : Nat) (b : List Byte) {l : Nat} (h : l < 4) :
    (s.loadImage k g b).lockFails l = byteAt b (12 + l) := by
  have frame := s.loadImage_waitsOnly k g b
  unfold WaitsOnly at frame
  rw [State.lockFails, frame]
  exact AccPart.withImage_lockFails s.acc k g b h

/-- What both reads have brought is taken. -/
def State.restoreTaken (s : State) (a b : List Byte) : State :=
  match newestImage a b with
  | some (k, g, img) => s.loadImage k g img
  | none => s.setF F.ACC_ERR_RESTORE

/-- The restore is over. -/
def State.restoreOver (s : State) : State :=
  (s.modAcc (fun x => { x with restoring := false, needRestore := false })).dropFrames

/-- The end of a restore leaves the counts. -/
theorem State.restoreOver_counts (i : Nat) :
    s.restoreOver.tokFails i = s.tokFails i ∧ s.restoreOver.lockFails i = s.lockFails i := ⟨rfl, rfl⟩

theorem exec_mirrorRestoreDone (a b : List Byte) : exec (.mirrorRestoreDone a b) s = .next (
    if s.acc.restoring && s.serial.frames.isEmpty && s.serial.got == [a.take 1044, b.take 1044] then
      if (s.restoreTaken a b).acc.mirror.dirty then (s.restoreTaken a b).restoreOver.mirrorStart
      else (s.restoreTaken a b).restoreOver
    else s) := rfl

/-- Loading what was read asks for no further write of the mirror. -/
theorem State.restoreTaken_dirty (a b : List Byte) : (s.restoreTaken a b).acc.mirror.dirty = s.acc.mirror.dirty := by
  unfold State.restoreTaken
  split
  · rw [s.loadImage_waitsOnly]; rfl
  · rfl

theorem exec_mirrorRestoreDone_early {s : State} {a b : List Byte}
    (h : s.acc.restoring = false ∨ s.serial.frames ≠ [] ∨ s.serial.got ≠ [a.take 1044, b.take 1044]) :
    exec (.mirrorRestoreDone a b) s = .next s := by
  rw [exec_mirrorRestoreDone]
  have n : (s.acc.restoring && s.serial.frames.isEmpty && s.serial.got == [a.take 1044, b.take 1044]) = false := by
    rcases h with h | h | h <;> simp [h]
  rw [n]
  rfl

theorem exec_mirrorRestoreDone_due {s : State} {a b : List Byte} (restoring : s.acc.restoring = true)
    (frames : s.serial.frames = []) (got : s.serial.got = [a.take 1044, b.take 1044]) (clean : s.acc.mirror.dirty = false) :
    exec (.mirrorRestoreDone a b) s = .next (s.restoreTaken a b).restoreOver := by
  rw [exec_mirrorRestoreDone, s.restoreTaken_dirty, clean, restoring, frames, got]
  simp

theorem State.restoreTaken_none {s : State} {a b : List Byte} (h : newestImage a b = none) :
    s.restoreTaken a b = s.setF F.ACC_ERR_RESTORE := by
  unfold State.restoreTaken
  rw [h]

theorem State.restoreTaken_some {s : State} {a b img : List Byte} {k g : Nat} (h : newestImage a b = some (k, g, img)) :
    s.restoreTaken a b = s.loadImage k g img := by
  unfold State.restoreTaken
  rw [h]

/-! ### The end of a mirror write (R379) -/

/-- The write of the mirror is over, with this sector and generation. -/
def State.mirrorOver (s : State) (sector gen : Nat) : State :=
  { s.dropFrames with acc := { s.acc with mirror := ⟨none, false, sector, gen⟩ } }

theorem exec_mirrorWriteDone (ok : Bool) (n : Nat) : exec (.mirrorWriteDone ok n) s = execMirrorWriteDone ok n s := rfl

/-- MIRROR_WRITE_DONE that the write in progress does not answer. -/
theorem execMirrorWriteDone_early {s : State} {g : MirrorImage} {ok : Bool} {n : Nat} (h : s.acc.mirror.image = some g)
    (early : n ≠ s.serial.programmed ((g.bytes.length + 255) / 256) ∨ s.serial.onWire = true ∨
      (ok = true ∧ s.serial.frames ≠ [])) : execMirrorWriteDone ok n s = .next s := by
  unfold execMirrorWriteDone
  rw [h, onSome_some, if_pos]
  rcases early with h | h | ⟨h, k⟩ <;> simp [h]
  simp [k]

/-- MIRROR_WRITE_DONE that the write in progress answers. -/
theorem execMirrorWriteDone_due {s : State} {g : MirrorImage} {ok : Bool} (h : s.acc.mirror.image = some g)
    (wire : s.serial.onWire = false) (clean : s.acc.mirror.dirty = false) (ends : ok = true → s.serial.frames = []) :
    execMirrorWriteDone ok (s.serial.programmed ((g.bytes.length + 255) / 256)) s =
      .next (if ok then (s.mirrorOver (1 - s.acc.mirror.sector) ((s.acc.mirror.gen + 1) % 2 ^ 32)).serialNext
        else ((s.mirrorOver s.acc.mirror.sector s.acc.mirror.gen).wr F.ACC_ERR_MIRROR 0 1).serialNext) := by
  unfold execMirrorWriteDone
  rw [h, onSome_some, wire, clean, if_neg (by cases ok <;> simp [ends])]
  have e : s.acc.mirror = ⟨s.acc.mirror.image, false, s.acc.mirror.sector, s.acc.mirror.gen⟩ := by rw [← clean]
  cases ok
  · simp only [Bool.false_eq_true, if_false, State.modAcc, State.mirrorOver, State.setF_acc]
    rw [show s.dropFrames.acc = s.acc from rfl, e]
    rfl
  · simp only [if_true, Bool.false_eq_true, if_false, State.modAcc, State.mirrorOver]
    rw [show s.dropFrames.acc = s.acc from rfl, e]

end Sys2Proof.Machine

open Sys2Proof Sys2Proof.Machine

/-- Settles O39, by what writes of ACC_CFG and ACC_MIRROR_CFG, the end of a restore and the end of a mirror write do. -/
theorem sequencerLocksAndTheMirrorRestores : Obligations.SequencerLocksAndTheMirrorRestores := by
  unfold Obligations.SequencerLocksAndTheMirrorRestores
  intro s w
  refine ⟨fun h => ?_, fun h => ?_, fun core => ⟨fun h => ?_, fun h => ?_, fun locked => ?_, fun unlocked => ?_⟩,
    fun a b => ⟨exec_mirrorRestoreDone_early, fun restoring frames got clean => ?_⟩, fun none ok n => ?_, fun g hg => ?_⟩
  · rw [exec_skipRestore, bit_toNat, h]; rfl
  · rw [exec_accPlock, bit_toNat, h]; rfl
  · refine ⟨writeAccCfg w s, ?_, writeAccCfg_skip s h⟩
    rw [exec_skipRestore, bit_toNat, h, if_pos rfl, State.hostWrite_on core]
  · refine ⟨writeAccCfg w s, ?_, writeAccCfg_plock s h, fun locked k => ?_⟩
    · rw [exec_accPlock, bit_toNat, h, if_pos rfl, State.hostWrite_on core]
    · rw [writeAccCfg_locked s h k locked]
      exact RegsOnly.wr s _ 0 1
  · rw [exec_mirrorRestoreStart w core, writeMirrorCfg_locked w locked]
  · rw [exec_mirrorRestoreStart w core]
    obtain ⟨en, cs, base⟩ := s.takeMirrorCfg_rd w.toNat
    obtain ⟨frame, others⟩ := s.takeMirrorCfg_regsOnly w.toNat
    cases due : s.restoreDue w with
    | false =>
      refine ⟨_, by rw [writeMirrorCfg_plain unlocked due], en, cs, base, ?_, ⟨fun _ => ?_, fun starts => ?_, fun starts => ?_⟩,
        ⟨?_, fun f i hk => others f i ?_⟩⟩
      · rw [s.restoring_of_not_due due, frame]
      · rw [frame]; exact ⟨rfl, rfl, rfl⟩
      · exact absurd (due.symm.trans starts) (by decide)
      · exact absurd (due.symm.trans starts) (by decide)
      · rw [frame]
      · simp only [mirrorCfgKeys, List.mem_cons, List.not_mem_nil, or_false, not_or] at hk ⊢
        exact ⟨hk.1, hk.2.1, hk.2.2.1⟩
    | true =>
      have next := (s.restoreStarts w).serialNext_serialOnly
      have ser := s.restoreStarts_serial w
      have started := (s.restoreStarts_regsOnly w).1
      refine ⟨_, by rw [writeMirrorCfg_starts unlocked due], ?_, ?_, ?_, ?_, ⟨fun idle => ?_, fun _ => ⟨?_, ?_⟩, fun _ => ?_⟩, ?_⟩
      · rw [next.rd (by decide)]; exact en
      · rw [next.rd (by decide)]; exact cs
      · rw [next.rd (by decide)]; exact base
      · rw [s.restoring_of_due due, next.acc, started]
      · exact absurd (due.symm.trans idle) (by decide)
      · rw [next.frames, ser]
      · rw [next.cs, ser]
      · exact fun free frames retry load xfer => State.restoreStarts_begins w free frames retry load xfer
      · refine ⟨by rw [next.frame, started], fun f i hk => ?_⟩
        simp only [List.mem_cons, List.not_mem_nil, or_false, not_or] at hk
        rw [next.rd hk.2.2.2, s.restoreStarts_rd w (by simp [mirrorCfgKeys, hk])]
        rfl
  · rw [exec_mirrorRestoreDone_due restoring frames got clean]
    refine ⟨_, rfl, rfl, rfl, rfl, rfl, fun none => ?_, fun k g img some => ?_⟩
    · rw [State.restoreTaken_none none]
      exact ⟨rfl, rfl⟩
    · rw [State.restoreTaken_some some]
      have frame := s.loadImage_waitsOnly k g img
      unfold WaitsOnly at frame
      refine ⟨?_, fun l hl => ?_, fun i hi => ?_, ?_⟩
      · rw [frame]; rfl
      · rw [(State.restoreOver_counts _ l).2, s.loadImage_lockFails k g img hl]
      · rw [(State.restoreOver_counts _ i).1, s.loadImage_tokFails k g img hi]
      · rw [frame]; rfl
  · rw [exec_mirrorWriteDone, execMirrorWriteDone, none]; rfl
  · dsimp only
    refine ⟨fun ok n h => ?_, fun h => ?_, fun wire clean => ⟨fun frames => ?_, ?_⟩⟩
    · exact execMirrorWriteDone_early hg (h.imp_right .inl)
    · exact execMirrorWriteDone_early hg (.inr (.inr ⟨rfl, h⟩))
    · exact execMirrorWriteDone_due hg wire clean (fun _ => frames)
    · exact execMirrorWriteDone_due hg wire clean (by simp)
end

section
/-! PROOFS. O34: faults and settings of the LF channels, and the registers of the token link. -/

namespace Sys2Proof.Machine
open Sys2Proof
variable (s : State)

/-! ### Keys of register fields -/

/-- Fields that begin at different bits have different keys. -/
theorem Fld.key_ne_of_lo {f g : Fld} {i j : Nat} (h : f.lo ≠ g.lo ∧ f.lo < 32 ∧ g.lo < 32) : f.key i ≠ g.key j := by
  simp only [Fld.key, fldKey]
  omega

/-! ### A field that takes a legal value only (R11) -/

theorem State.wrIf_regsOnly (c : Bool) (f : Fld) (v : Nat) : RegsOnly s (s.wrIf c f v) [f.key 0] := by
  cases c
  · exact (RegsOnly.refl s).mono (by simp)
  · exact RegsOnly.wr s f 0 v

theorem State.rd_wrIf_self (c : Bool) (f : Fld) (v : Nat) : (s.wrIf c f v).rd f = if c then v % f.size else s.rd f := by
  cases c
  · rfl
  · exact s.rd_wr_self f 0 v

theorem State.rd_wrIf_ne (c : Bool) {f g : Fld} {j : Nat} (h : f.key 0 ≠ g.key j) (v : Nat) :
    (s.wrIf c f v).rd g j = s.rd g j := by
  cases c
  · rfl
  · exact s.rd_wr_ne h v

/-! ### A channel faults (R300 to R302) -/

/-- Registers, the link, the radio's need, the free values and the log are all that changes. -/
def LinkOnly (s t : State) : Prop := t = { s with regs := t.regs, link := t.link, uhf := t.uhf, sys := t.sys, out := t.out }

theorem LinkOnly.trans {s t u : State} (h : LinkOnly s t) (g : LinkOnly t u) : LinkOnly s u := by
  unfold LinkOnly at *
  rw [g, h]

/-- Nothing but what `LinkOnly` names changes; the fault bits of channel `n`
stay, and its FAULT state does. -/
structure FaultKept (n : Nat) (s t : State) : Prop where
  frame : LinkOnly s t
  fault : s.rd F.LF_STAT_STATE n = 3 → t.rd F.LF_STAT_STATE n = 3
  overcurrent : t.rd F.LF_ERR_OVERCURRENT n = s.rd F.LF_ERR_OVERCURRENT n
  opens : t.rd F.LF_ERR_OPEN n = s.rd F.LF_ERR_OPEN n

theorem FaultKept.refl (n : Nat) : FaultKept n s s := ⟨rfl, id, rfl, rfl⟩

theorem FaultKept.trans {n : Nat} {s t u : State} (h : FaultKept n s t) (g : FaultKept n t u) : FaultKept n s u :=
  ⟨h.frame.trans g.frame, fun x => g.fault (h.fault x), g.overcurrent.trans h.overcurrent, g.opens.trans h.opens⟩

/-- A write of a field that is no fault bit, and not the state of channel `n` in FAULT. -/
theorem FaultKept.wr {n : Nat} {s t : State} (h : FaultKept n s t) (f : Fld) (c v : Nat)
    (hs : f.key c ≠ F.LF_STAT_STATE.key n) (ho : f.key c ≠ F.LF_ERR_OVERCURRENT.key n) (hp : f.key c ≠ F.LF_ERR_OPEN.key n) :
    FaultKept n s (t.wr f c v) :=
  h.trans ⟨rfl, fun x => by rw [t.rd_wr_ne hs, x], t.rd_wr_ne ho v, t.rd_wr_ne hp v⟩

theorem FaultKept.drawFree {n : Nat} {s t : State} (h : FaultKept n s t) : FaultKept n s t.drawFree.1 :=
  h.trans ⟨rfl, id, rfl, rfl⟩

theorem FaultKept.modLink {n : Nat} {s t : State} (h : FaultKept n s t) (f : LinkPart → LinkPart) :
    FaultKept n s (t.modLink f) := h.trans ⟨rfl, id, rfl, rfl⟩

theorem FaultKept.emitOut {n : Nat} {s t : State} (h : FaultKept n s t) (o : Output) : FaultKept n s (t.emitOut o) :=
  h.trans ⟨rfl, id, rfl, rfl⟩

theorem LinkOnly.wr {s t : State} (h : LinkOnly s t) (f : Fld) (i v : Nat) : LinkOnly s (t.wr f i v) := h.trans rfl

/-- LF_MEAS is written whole. -/
theorem FaultKept.lfMeas {n : Nat} {s t : State} (h : FaultKept n s t) (c phase rsns : Nat) (l : List Nat) :
    FaultKept n s (t.lfMeas c phase rsns l) := by
  unfold State.lfMeas
  refine (h.drawFree.wr F.LF_MEAS_PHASE c phase ?_ ?_ ?_).wr F.LF_MEAS_IPK_MEAS c _ ?_ ?_ ?_
  all_goals simp only [Fld.key, fldKey]; omega

/-- The state of another channel changes, or channel `n` is not in FAULT. -/
theorem FaultKept.wrState {n : Nat} {s t : State} (h : FaultKept n s t) {c v : Nat} (hc : c = n → t.rd F.LF_STAT_STATE n ≠ 3) :
    FaultKept n s (t.wr F.LF_STAT_STATE c v) := by
  refine h.trans ⟨rfl, fun x => ?_, t.rd_wr_ne ?_ v, t.rd_wr_ne ?_ v⟩
  · rw [t.rd_wr_ne _ v, x]
    intro e
    refine hc ?_ x
    simp only [Fld.key, fldKey] at e
    omega
  all_goals exact Fld.key_ne_of_lo (by decide)

/-- A channel that is cut leaves another one, or one in FAULT, in its state. -/
theorem State.lfCut_faultKept (n c : Nat) : FaultKept n s (s.lfCut c) := by
  unfold State.lfCut
  split
  · rename_i driving
    dsimp only
    refine FaultKept.lfMeas (FaultKept.wrState (FaultKept.wr ?_ F.LF_STAT_W c _ ?_ ?_ ?_) ?_) c _ _ _
    · exact (FaultKept.refl s n).drawFree.drawFree.modLink _
    · exact Fld.key_ne_of_lo (by decide)
    · exact Fld.key_ne_of_lo (by decide)
    · exact Fld.key_ne_of_lo (by decide)
    · rintro rfl
      rw [State.rd_wr_ne _ (Fld.key_ne_of_lo (by decide))]
      exact fun e => absurd (driving.symm.trans e) (by decide)
  · split
    · rename_i listening
      refine (FaultKept.refl s n).wrState ?_
      rintro rfl e
      exact absurd (listening.symm.trans e) (by decide)
    · exact FaultKept.refl s n

/-- The link stops: no frame, no listening, and a channel in FAULT stays there. -/
theorem State.linkStop_faultKept (n : Nat) : FaultKept n s s.linkStop := by
  unfold State.linkStop
  have idle : ∀ t : State, FaultKept n s t → FaultKept n s
      ((t.modLink (fun l => { l with frame := none, last := none, listen := .none })).modUhf (fun u => { u with need := .none })) :=
    fun t h => h.trans ⟨rfl, id, rfl, rfl⟩
  refine idle _ ?_
  have stop : ∀ t : State, FaultKept n s t → FaultKept n s (match t.link.last with
      | some x => if x.tp then t.lfCut x.chan else t
      | none => t) := by
    intro t h
    split
    · split
      · exact h.trans (t.lfCut_faultKept n _)
      · exact h
    · exact h
  refine stop _ ?_
  split
  · rename_i x _
    have cut := s.lfCut_faultKept n x.chan
    dsimp only
    split
    · exact cut.trans (State.lfCut_faultKept _ n _)
    · exact cut
  · exact FaultKept.refl s n

theorem State.linkStop_idle : s.linkStop.link.frame = none ∧ s.linkStop.link.listen = .none := ⟨rfl, rfl⟩

/-- A driven span that ends. -/
theorem State.lfSpan_faultKept (n c : Nat) (tp frozen : Bool) (sp : LfSpan) : FaultKept n s (s.lfSpan c tp frozen sp) := by
  unfold State.lfSpan
  dsimp only
  refine FaultKept.lfMeas (FaultKept.wr ?_ F.LF_STAT_W c _ ?_ ?_ ?_) c _ _ _
  · exact ((FaultKept.refl s n).emitOut _).modLink _
  all_goals exact Fld.key_ne_of_lo (by decide)

/-- The bit of a fault. -/
def lfFaultBit (oc : Bool) : Fld := if oc then F.LF_ERR_OVERCURRENT else F.LF_ERR_OPEN

/-- Channel `n` is in FAULT with the bit of its fault set. -/
theorem State.faultSet (n : Nat) (oc : Bool) :
    ((s.setF (lfFaultBit oc) n).wr F.LF_STAT_STATE n 3).rd (lfFaultBit oc) n = 1 ∧
    ((s.setF (lfFaultBit oc) n).wr F.LF_STAT_STATE n 3).rd F.LF_STAT_STATE n = 3 := by
  refine ⟨?_, s.setF (lfFaultBit oc) n |>.rd_wr_self _ n 3⟩
  rw [State.rd_wr_ne _ (by cases oc <;> exact Fld.key_ne_of_lo (by decide)), State.setF, State.rd_wr_self]
  cases oc <;> decide

theorem FaultKept.bit {n : Nat} {s t : State} (h : FaultKept n s t) (oc : Bool) :
    t.rd (lfFaultBit oc) n = s.rd (lfFaultBit oc) n := by
  cases oc
  · exact h.opens
  · exact h.overcurrent

/-- The span of channel `n` has ended in its fault. -/
def State.faulted (s : State) (n : Nat) (sp : LfSpan) (oc : Bool) : State :=
  ((s.lfSpan n (s.lfTp n) (s.lfFrozen n) sp).setF (lfFaultBit oc) n).wr F.LF_STAT_STATE n 3

theorem State.faulted_frame (n : Nat) (sp : LfSpan) (oc : Bool) :
    LinkOnly s (s.faulted n sp oc) :=
  (s.lfSpan_faultKept n n (s.lfTp n) (s.lfFrozen n) sp).frame.wr _ n 1 |>.wr _ n 3

/-- The frame in progress, or the transponder answer awaited, is that of channel `n`. -/
def State.carries (s : State) (n : Nat) : Bool :=
  match s.link.frame, s.link.last with
  | some x, _ => x.chan == n
  | none, some x => x.tp && x.chan == n
  | none, none => false

theorem State.carries_of_frame {s : State} {n : Nat} {x : DownFrame} (h : s.link.frame = some x) (k : x.chan = n) :
    s.carries n = true := by simp [State.carries, h, k]

/-- While no exchange runs, the link stops when the channel carries its frame, and otherwise at most a segment ends. -/
theorem State.channelFault_idle {s : State} (n : Nat) (sp : LfSpan) (oc : Bool) (idle : s.acc.run = none) :
    s.channelFault n sp oc =
      if s.carries n then (s.faulted n sp oc).linkStop
      else (s.faulted n sp oc).modFrame (fun x =>
        if x.segChan = some n then { x with segChan := none, sent := x.sent.dropLast ++ [false] } else x) := by
  have run : (s.faulted n sp oc).acc.run = none := by rw [s.faulted_frame]; exact idle
  have e : s.channelFault n sp oc = match s.carries n, (s.faulted n sp oc).acc.run with
    | true, some r => (s.faulted n sp oc).cutRun r .lfFault
    | true, none => (s.faulted n sp oc).linkStop
    | false, _ => (s.faulted n sp oc).modFrame (fun x =>
      if x.segChan = some n then { x with segChan := none, sent := x.sent.dropLast ++ [false] } else x) := rfl
  rw [e, run]
  cases s.carries n <;> rfl

/-- A channel faults while no exchange runs: its bit, its state, and the end of the frame that it carries. -/
theorem State.channelFault_effect {s : State} (n : Nat) (sp : LfSpan) (oc : Bool) (idle : s.acc.run = none) :
    (s.channelFault n sp oc).rd (lfFaultBit oc) n = 1 ∧ (s.channelFault n sp oc).rd F.LF_STAT_STATE n = 3 ∧
    (∀ x, s.link.frame = some x → x.chan = n →
      (s.channelFault n sp oc).link.frame = none ∧ (s.channelFault n sp oc).link.listen = .none) ∧
    LinkOnly s (s.channelFault n sp oc) := by
  obtain ⟨bit, state⟩ := (s.lfSpan n (s.lfTp n) (s.lfFrozen n) sp).faultSet n oc
  have frame := s.faulted_frame n sp oc
  have keeps : FaultKept n (s.faulted n sp oc) (s.channelFault n sp oc) := by
    rw [State.channelFault_idle n sp oc idle]
    split
    · exact State.linkStop_faultKept _ n
    · exact (FaultKept.refl _ n).modLink _
  refine ⟨(keeps.bit oc).trans bit, keeps.fault state, fun x hx hc => ?_, ?_⟩
  · rw [State.channelFault_idle n sp oc idle, State.carries_of_frame hx hc, if_pos rfl]
    exact State.linkStop_idle _
  · exact frame.trans keeps.frame

theorem exec_lfOvercurrent (n : Fin 8) (sp : LfSpan) : exec (.lfOvercurrent n sp) s = .next (
    if s.lfBusy n.val && (s.lfWalk n.val (s.lfTp n.val) (s.lfFrozen n.val) sp).fault == some true then
      s.channelFault n.val sp true else s) := rfl

theorem exec_lfOpenFault (n : Fin 8) (sp : LfSpan) : exec (.lfOpenFault n sp) s = .next (
    if s.lfBusy n.val && (s.lfWalk n.val (s.lfTp n.val) (s.lfFrozen n.val) sp).fault == some false then
      s.channelFault n.val sp false else s) := rfl

theorem State.lfBusy_iff (n : Nat) : s.lfBusy n = true ↔ s.rd F.LF_STAT_STATE n = 1 ∨ s.rd F.LF_STAT_STATE n = 2 := by
  simp [State.lfBusy]

/-- A fault that a report does not show, or of a channel at rest. -/
theorem State.lfBusy_fault_false {s : State} {n : Nat} {f : Option Bool} {oc : Bool}
    (h : ¬(s.rd F.LF_STAT_STATE n = 1 ∨ s.rd F.LF_STAT_STATE n = 2) ∨ f ≠ some oc) : (s.lfBusy n && f == some oc) = false := by
  rw [← s.lfBusy_iff] at h
  rcases h with h | h <;> simp [h]

/-! ### LF_ERR (R302) -/

/-- A bit written 1 clears its field. -/
def State.clearIf (s : State) (c : Bool) (f : Fld) (n : Nat) : State := if c then s.wr f n 0 else s

theorem State.clearIf_regsOnly (c : Bool) (f : Fld) (n : Nat) : RegsOnly s (s.clearIf c f n) [f.key n] := by
  cases c
  · exact (RegsOnly.refl s).mono (by simp)
  · exact RegsOnly.wr s f n 0

theorem State.rd_clearIf_self (c : Bool) (f : Fld) (n : Nat) : (s.clearIf c f n).rd f n = if c then 0 else s.rd f n := by
  cases c
  · rfl
  · exact (s.rd_wr_self f n 0).trans (Nat.zero_mod _)

theorem State.rd_clearIf_ne (c : Bool) {f g : Fld} {n : Nat} (h : f.lo ≠ g.lo ∧ f.lo < 32 ∧ g.lo < 32) :
    (s.clearIf c f n).rd g n = s.rd g n := by
  cases c
  · rfl
  · exact s.rd_wr_ne (Fld.key_ne_of_lo h) 0

/-- The bits of LF_ERR written 1 are clear. -/
def State.lfErrCleared (s : State) (n v : Nat) : State :=
  ((s.clearIf (bit v 0) F.LF_ERR_REG_LIM n).clearIf (bit v 1) F.LF_ERR_OVERCURRENT n).clearIf (bit v 2) F.LF_ERR_OPEN n

theorem writeLfErr_eq (n : Nat) (w : Word) : writeLfErr n w s =
    (s.lfErrCleared n w.toNat).clearIf (s.lfFault n && !(s.lfErrCleared n w.toNat).lfFault n) F.LF_STAT_STATE n := rfl

theorem State.lfErrCleared_rd (n v : Nat) :
    (s.lfErrCleared n v).rd F.LF_ERR_REG_LIM n = (if bit v 0 then 0 else s.rd F.LF_ERR_REG_LIM n) ∧
    (s.lfErrCleared n v).rd F.LF_ERR_OVERCURRENT n = (if bit v 1 then 0 else s.rd F.LF_ERR_OVERCURRENT n) ∧
    (s.lfErrCleared n v).rd F.LF_ERR_OPEN n = (if bit v 2 then 0 else s.rd F.LF_ERR_OPEN n) := by
  unfold State.lfErrCleared
  refine ⟨?_, ?_, ?_⟩
  · iterate 2 rw [State.rd_clearIf_ne _ _ (by decide)]
    rw [State.rd_clearIf_self]
  · rw [State.rd_clearIf_ne _ _ (by decide), State.rd_clearIf_self,
      State.rd_clearIf_ne _ _ (by decide)]
  · rw [State.rd_clearIf_self]
    iterate 2 rw [State.rd_clearIf_ne _ _ (by decide)]

theorem State.lfErrCleared_regsOnly (n v : Nat) : RegsOnly s (s.lfErrCleared n v)
    [F.LF_ERR_REG_LIM.key n, F.LF_ERR_OVERCURRENT.key n, F.LF_ERR_OPEN.key n] :=
  (((s.clearIf_regsOnly _ _ n).trans (State.clearIf_regsOnly _ _ _ n)).trans (State.clearIf_regsOnly _ _ _ n)).mono (by simp)

/-- What LF_ERR and LF_STAT read after a write of LF_ERR. -/
theorem writeLfErr_effect (n : Nat) (w : Word) :
    let t := writeLfErr n w s
    t.rd F.LF_ERR_REG_LIM n = (if bit w.toNat 0 then 0 else s.rd F.LF_ERR_REG_LIM n) ∧
    t.rd F.LF_ERR_OVERCURRENT n = (if bit w.toNat 1 then 0 else s.rd F.LF_ERR_OVERCURRENT n) ∧
    t.rd F.LF_ERR_OPEN n = (if bit w.toNat 2 then 0 else s.rd F.LF_ERR_OPEN n) ∧
    t.rd F.LF_STAT_STATE n = (if s.lfFault n = true ∧ t.lfFault n = false then 0 else s.rd F.LF_STAT_STATE n) ∧
    RegsOnly s t [F.LF_ERR_REG_LIM.key n, F.LF_ERR_OVERCURRENT.key n, F.LF_ERR_OPEN.key n, F.LF_STAT_STATE.key n] := by
  obtain ⟨lim, oc, op⟩ := s.lfErrCleared_rd n w.toNat
  have only := s.lfErrCleared_regsOnly n w.toNat
  have state_ne : ∀ g ∈ [F.LF_ERR_REG_LIM, F.LF_ERR_OVERCURRENT, F.LF_ERR_OPEN], F.LF_STAT_STATE.key n ≠ g.key n := by
    intro g hg
    simp only [List.mem_cons, List.not_mem_nil, or_false] at hg
    rcases hg with rfl | rfl | rfl <;> simp only [Fld.key, fldKey] <;> omega
  have state : (s.lfErrCleared n w.toNat).rd F.LF_STAT_STATE n = s.rd F.LF_STAT_STATE n := by
    refine only.2 _ n ?_
    simpa using ⟨state_ne _ (by simp), state_ne _ (by simp), state_ne _ (by simp)⟩
  rw [writeLfErr_eq]
  generalize s.lfErrCleared n w.toNat = u at *
  have keeps : ∀ (c : Bool) (g : Fld), g ∈ [F.LF_ERR_REG_LIM, F.LF_ERR_OVERCURRENT, F.LF_ERR_OPEN] →
      (u.clearIf c F.LF_STAT_STATE n).rd g n = u.rd g n := by
    intro c g hg
    cases c
    · rfl
    · exact u.rd_wr_ne (state_ne g hg) 0
  have fault : ∀ c, (u.clearIf c F.LF_STAT_STATE n).lfFault n = u.lfFault n := by
    intro c
    simp only [State.lfFault, State.flag, keeps c _ (List.mem_cons_of_mem _ List.mem_cons_self),
      keeps c _ (List.mem_cons_of_mem _ (List.mem_cons_of_mem _ List.mem_cons_self))]
  dsimp only
  refine ⟨(keeps _ _ (by simp)).trans lim, (keeps _ _ (by simp)).trans oc, (keeps _ _ (by simp)).trans op, ?_, ?_⟩
  · rw [State.rd_clearIf_self, fault, state]
    simp
  · exact (only.trans (u.clearIf_regsOnly _ _ n)).mono (by simp)

/-! ### LF_CFG, LF_DRV and LF_SNS (R303, R304) -/

/-- The registers of a channel lie in the LF domain. -/
theorem domainOf_lf {a : Nat} (h : 0x8800 ≤ a) (k : a < 0x9000) : domainOf a = .lf := by
  unfold domainOf
  iterate 9 rw [if_neg (by omega)]
  rw [if_pos (by omega)]

theorem exec_lfErrWrite {s : State} (n : Fin 8) (w : Word) (h : s.isOn .lf = true) :
    exec (.lfErrWrite n w) s = .next (writeLfErr n.val w s) := by
  have e : exec (.lfErrWrite n w) s = .next (s.hostWrite (0x8850 + 0x20 * n.val) (writeLfErr n.val w)) := rfl
  rw [e, State.hostWrite_on (by rw [domainOf_lf (by omega) (by omega), h])]

theorem exec_lfChannelCfgWrite {s : State} {a : Nat} (w : Word) (h : s.isOn .lf = true) (ha : 0x8840 ≤ a) (hb : a < 0x8940) :
    exec (.lfChannelCfgWrite a w) s = .next (writeLfCfg a w s) := by
  have e : exec (.lfChannelCfgWrite a w) s =
    .next (if 0x8840 ≤ a && a < 0x8940 then s.hostWrite a (writeLfCfg a w) else s) := rfl
  rw [e, if_pos (by simp [ha, hb]), State.hostWrite_on (by rw [domainOf_lf (by omega) (by omega), h])]

/-- A drive current is taken: one above the OTP limit sets REG_LIM, one outside 10 to 200 is left out. -/
def State.putIpk (s : State) (limit n : Nat) (f : Fld) (k : Nat) : State :=
  if limit < k then s.setF F.LF_ERR_REG_LIM n else if !(decide (10 ≤ k) && decide (k ≤ 200)) then s else s.wr f n k

/-- The settings of LF_DRV other than the currents. -/
def State.putDrv (s : State) (n dead damp : Nat) : State :=
  (if dead = 0 then s else s.wr F.LF_DRV_DEAD n dead).wr F.LF_DRV_DAMP n damp

/-- A value that is taken when it lies in a range. -/
def State.putIn (s : State) (lo hi : Nat) (f : Fld) (n k : Nat) : State := if lo ≤ k && k ≤ hi then s.wr f n k else s

theorem writeLfCfg_cfg (n : Fin 8) (w : Word) : writeLfCfg (0x8840 + 0x20 * n.val) w s =
    (s.wr F.LF_CFG_EN n.val (bits w.toNat 0 0)).wr F.LF_CFG_TP_EN n.val (bits w.toNat 1 1) := by
  have hn : (0x8840 + 0x20 * n.val - 0x8840) / 0x20 = n.val := by omega
  have ho : (0x8840 + 0x20 * n.val - 0x8840) % 0x20 = 0 := by omega
  have hb : (decide (0x8840 + 0x20 * n.val < 0x8840) || decide (0x8940 ≤ 0x8840 + 0x20 * n.val)) = false := by simp; omega
  unfold writeLfCfg
  rw [hb, hn, ho]
  rfl

theorem writeLfCfg_drv (n : Fin 8) (w : Word) : writeLfCfg (0x8840 + 0x20 * n.val + 4) w s =
    ((s.putIpk (s.otp.maxIpk.getD 200) n.val F.LF_DRV_IPK (bits w.toNat 7 0)).putIpk (s.otp.maxIpk.getD 200) n.val
      F.LF_DRV_TP_IPK (bits w.toNat 15 8)).putDrv n.val (bits w.toNat 19 16) (bits w.toNat 21 20) := by
  have hn : (0x8840 + 0x20 * n.val + 4 - 0x8840) / 0x20 = n.val := by omega
  have ho : (0x8840 + 0x20 * n.val + 4 - 0x8840) % 0x20 = 4 := by omega
  have hb : (decide (0x8840 + 0x20 * n.val + 4 < 0x8840) || decide (0x8940 ≤ 0x8840 + 0x20 * n.val + 4)) = false := by
    simp; omega
  unfold writeLfCfg
  rw [hb, hn, ho]
  rfl

theorem writeLfCfg_sns (n : Fin 8) (w : Word) : writeLfCfg (0x8840 + 0x20 * n.val + 8) w s =
    ((s.putIn 10 250 F.LF_SNS_RSNS n.val (bits w.toNat 7 0)).wr F.LF_SNS_IOC n.val (bits w.toNat 15 8)).putIn 5 100
      F.LF_SNS_LM_TH n.val (bits w.toNat 23 16) := by
  have hn : (0x8840 + 0x20 * n.val + 8 - 0x8840) / 0x20 = n.val := by omega
  have ho : (0x8840 + 0x20 * n.val + 8 - 0x8840) % 0x20 = 8 := by omega
  have hb : (decide (0x8840 + 0x20 * n.val + 8 < 0x8840) || decide (0x8940 ≤ 0x8840 + 0x20 * n.val + 8)) = false := by
    simp; omega
  unfold writeLfCfg
  rw [hb, hn, ho]
  rfl

theorem State.putIpk_regsOnly (limit n : Nat) (f : Fld) (k : Nat) :
    RegsOnly s (s.putIpk limit n f k) [f.key n, F.LF_ERR_REG_LIM.key n] := by
  unfold State.putIpk
  split
  · exact (RegsOnly.wr s F.LF_ERR_REG_LIM n 1).mono (by simp)
  split
  · exact (RegsOnly.refl s).mono (by simp)
  · exact (RegsOnly.wr s f n k).mono (by simp)

/-- A current is taken when it is legal and within the limit. -/
theorem State.putIpk_rd_self (limit n : Nat) {f : Fld} (h : F.LF_ERR_REG_LIM.key n ≠ f.key n) (k : Nat) :
    (s.putIpk limit n f k).rd f n = if 10 ≤ k ∧ k ≤ 200 ∧ k ≤ limit then k % f.size else s.rd f n := by
  unfold State.putIpk
  split
  · rw [if_neg (by omega)]
    exact s.rd_wr_ne h 1
  split
  · rename_i illegal
    rw [if_neg]
    rintro ⟨a, b, -⟩
    simp [a, b] at illegal
  · rename_i within legal
    simp only [Bool.not_eq_true', Bool.and_eq_false_iff, decide_eq_false_iff_not, not_or, not_not] at legal
    rw [if_pos ⟨legal.1, legal.2, by omega⟩, State.rd_wr_self]

theorem State.putIpk_rd_ne (limit n : Nat) {f g : Fld} (h : F.LF_ERR_REG_LIM.key n ≠ g.key n) (hf : f.key n ≠ g.key n) (k : Nat) :
    (s.putIpk limit n f k).rd g n = s.rd g n :=
  (s.putIpk_regsOnly limit n f k).2 g n (by simp [h.symm, hf.symm])

/-- A current above the limit sets REG_LIM; any other leaves it. -/
theorem State.putIpk_regLim (limit n : Nat) {f : Fld} (h : f.key n ≠ F.LF_ERR_REG_LIM.key n) (k : Nat) :
    (s.putIpk limit n f k).rd F.LF_ERR_REG_LIM n = if limit < k then 1 else s.rd F.LF_ERR_REG_LIM n := by
  unfold State.putIpk
  split
  · exact s.rd_wr_self _ n 1
  split
  · rfl
  · exact s.rd_wr_ne h k

theorem State.putDrv_regsOnly (n dead damp : Nat) :
    RegsOnly s (s.putDrv n dead damp) [F.LF_DRV_DEAD.key n, F.LF_DRV_DAMP.key n] := by
  unfold State.putDrv
  split
  · exact (RegsOnly.wr s F.LF_DRV_DAMP n damp).mono (by simp)
  · exact ((RegsOnly.wr s F.LF_DRV_DEAD n dead).then F.LF_DRV_DAMP n damp).mono (by simp)

theorem State.putDrv_dead (n dead damp : Nat) :
    (s.putDrv n dead damp).rd F.LF_DRV_DEAD n = if dead = 0 then s.rd F.LF_DRV_DEAD n else dead % 16 := by
  unfold State.putDrv
  rw [State.rd_wr_ne _ (Fld.key_ne_of_lo (by decide))]
  split
  · rfl
  · exact s.rd_wr_self _ n dead

theorem State.putIn_regsOnly (lo hi : Nat) (f : Fld) (n k : Nat) : RegsOnly s (s.putIn lo hi f n k) [f.key n] := by
  unfold State.putIn
  split
  · exact RegsOnly.wr s f n k
  · exact (RegsOnly.refl s).mono (by simp)

theorem State.putIn_rd_self (lo hi : Nat) (f : Fld) (n k : Nat) :
    (s.putIn lo hi f n k).rd f n = if lo ≤ k ∧ k ≤ hi then k % f.size else s.rd f n := by
  unfold State.putIn
  simp only [Bool.and_eq_true, decide_eq_true_eq]
  split
  · exact s.rd_wr_self f n k
  · rfl

theorem State.putIn_rd_ne (lo hi : Nat) {f g : Fld} {n : Nat} (h : f.lo ≠ g.lo ∧ f.lo < 32 ∧ g.lo < 32) (k : Nat) :
    (s.putIn lo hi f n k).rd g n = s.rd g n := by
  unfold State.putIn
  split
  · exact s.rd_wr_ne (Fld.key_ne_of_lo h) k
  · rfl

/-- What LF_CFG reads after a write. -/
theorem writeLfCfg_cfg_effect (n : Fin 8) (w : Word) :
    let t := writeLfCfg (0x8840 + 0x20 * n.val) w s
    t.rd F.LF_CFG_EN n.val = w.toNat % 2 ∧ t.rd F.LF_CFG_TP_EN n.val = w.toNat / 2 % 2 ∧
    RegsOnly s t [F.LF_CFG_EN.key n.val, F.LF_CFG_TP_EN.key n.val] := by
  dsimp only
  rw [writeLfCfg_cfg]
  refine ⟨?_, ?_, (RegsOnly.wr s _ n.val _).then _ n.val _⟩
  · rw [State.rd_wr_ne _ (Fld.key_ne_of_lo (by decide)), State.rd_wr_self,
      bits_mod_size _ _ _ (by decide), bits_eq]
    norm_num
  · rw [State.rd_wr_self, bits_mod_size _ _ _ (by decide), bits_eq]
    norm_num

/-- What LF_DRV reads after a write. -/
theorem writeLfCfg_drv_effect (n : Fin 8) (w : Word) :
    let t := writeLfCfg (0x8840 + 0x20 * n.val + 4) w s
    let top := s.otp.maxIpk.getD 200
    let i := w.toNat % 256
    let p := w.toNat / 256 % 256
    t.rd F.LF_DRV_IPK n.val = (if 10 ≤ i ∧ i ≤ 200 ∧ i ≤ top then i else s.rd F.LF_DRV_IPK n.val) ∧
    t.rd F.LF_DRV_TP_IPK n.val = (if 10 ≤ p ∧ p ≤ 200 ∧ p ≤ top then p else s.rd F.LF_DRV_TP_IPK n.val) ∧
    (top < i ∨ top < p → t.rd F.LF_ERR_REG_LIM n.val = 1) ∧
    t.rd F.LF_DRV_DEAD n.val =
      (if w.toNat / 65536 % 16 = 0 then s.rd F.LF_DRV_DEAD n.val else w.toNat / 65536 % 16) ∧
    t.rd F.LF_DRV_DAMP n.val = w.toNat / 2 ^ 20 % 4 ∧
    RegsOnly s t [F.LF_DRV_IPK.key n.val, F.LF_DRV_TP_IPK.key n.val, F.LF_DRV_DEAD.key n.val, F.LF_DRV_DAMP.key n.val,
      F.LF_ERR_REG_LIM.key n.val] := by
  dsimp only
  have ib : bits w.toNat 7 0 = w.toNat % 256 := bits_low _ _
  have pb : bits w.toNat 15 8 = w.toNat / 256 % 256 := bits_eq _ _ _
  have db : bits w.toNat 19 16 = w.toNat / 65536 % 16 := bits_eq _ _ _
  have ab : bits w.toNat 21 20 = w.toNat / 2 ^ 20 % 4 := bits_eq _ _ _
  have lim_ne : ∀ {f : Fld}, f ∈ [F.LF_DRV_IPK, F.LF_DRV_TP_IPK, F.LF_DRV_DEAD, F.LF_DRV_DAMP] →
      F.LF_ERR_REG_LIM.key n.val ≠ f.key n.val := by
    intro f hf
    simp only [List.mem_cons, List.not_mem_nil, or_false] at hf
    rcases hf with rfl | rfl | rfl | rfl <;> simp only [Fld.key, fldKey] <;> omega
  have lo : ∀ {f g : Fld}, f.lo ≠ g.lo ∧ f.lo < 32 ∧ g.lo < 32 → f.key n.val ≠ g.key n.val := Fld.key_ne_of_lo
  rw [writeLfCfg_drv, ib, pb, db, ab]
  have taken := (s.putIpk_regsOnly (s.otp.maxIpk.getD 200) n.val F.LF_DRV_IPK (w.toNat % 256)).trans
    (State.putIpk_regsOnly _ (s.otp.maxIpk.getD 200) n.val F.LF_DRV_TP_IPK (w.toNat / 256 % 256))
  have rest := State.putDrv_regsOnly ((s.putIpk (s.otp.maxIpk.getD 200) n.val F.LF_DRV_IPK (w.toNat % 256)).putIpk
    (s.otp.maxIpk.getD 200) n.val F.LF_DRV_TP_IPK (w.toNat / 256 % 256)) n.val (w.toNat / 65536 % 16) (w.toNat / 2 ^ 20 % 4)
  have rest_keeps : ∀ {f : Fld}, F.LF_DRV_DEAD.key n.val ≠ f.key n.val → F.LF_DRV_DAMP.key n.val ≠ f.key n.val → _ :=
    fun {f} h k => rest.2 f n.val (by simp [h.symm, k.symm])
  refine ⟨?_, ?_, fun above => ?_, ?_, ?_, (taken.trans rest).mono (by simp)⟩
  · rw [rest_keeps (lo (by decide)) (lo (by decide)),
      State.putIpk_rd_ne _ _ _ (lim_ne (by simp)) (lo (by decide)),
      State.putIpk_rd_self _ _ _ (lim_ne (by simp))]
    congr 1
    exact Nat.mod_mod _ _
  · rw [rest_keeps (lo (by decide)) (lo (by decide)),
      State.putIpk_rd_self _ _ _ (lim_ne (by simp)),
      State.putIpk_rd_ne _ _ _ (lim_ne (by simp)) (lo (by decide))]
    congr 1
    exact Nat.mod_mod _ _
  · rw [rest_keeps (lim_ne (by simp)).symm (lim_ne (by simp)).symm, State.putIpk_regLim _ _ _ (lim_ne (by simp)).symm,
      State.putIpk_regLim _ _ _ (lim_ne (by simp)).symm]
    split
    · rfl
    · rw [if_pos (by omega)]
  · rw [State.putDrv_dead, State.putIpk_rd_ne _ _ _ (lim_ne (by simp)) (lo (by decide)),
      State.putIpk_rd_ne _ _ _ (lim_ne (by simp)) (lo (by decide)), Nat.mod_mod]
  · exact (State.rd_wr_self _ _ n.val _).trans (Nat.mod_mod _ _)

/-- What LF_SNS reads after a write. -/
theorem writeLfCfg_sns_effect (n : Fin 8) (w : Word) :
    let t := writeLfCfg (0x8840 + 0x20 * n.val + 8) w s
    t.rd F.LF_SNS_IOC n.val = w.toNat / 256 % 256 ∧
    t.rd F.LF_SNS_RSNS n.val = (if 10 ≤ w.toNat % 256 ∧ w.toNat % 256 ≤ 250 then w.toNat % 256 else s.rd F.LF_SNS_RSNS n.val) ∧
    t.rd F.LF_SNS_LM_TH n.val = (if 5 ≤ w.toNat / 65536 % 256 ∧ w.toNat / 65536 % 256 ≤ 100 then w.toNat / 65536 % 256
      else s.rd F.LF_SNS_LM_TH n.val) ∧
    RegsOnly s t [F.LF_SNS_RSNS.key n.val, F.LF_SNS_IOC.key n.val, F.LF_SNS_LM_TH.key n.val] := by
  dsimp only
  have rb : bits w.toNat 7 0 = w.toNat % 256 := bits_low _ _
  have ib : bits w.toNat 15 8 = w.toNat / 256 % 256 := bits_eq _ _ _
  have lb : bits w.toNat 23 16 = w.toNat / 65536 % 256 := bits_eq _ _ _
  have lo : ∀ {f g : Fld}, f.lo ≠ g.lo ∧ f.lo < 32 ∧ g.lo < 32 → f.key n.val ≠ g.key n.val := Fld.key_ne_of_lo
  rw [writeLfCfg_sns, rb, ib, lb]
  refine ⟨?_, ?_, ?_, (((s.putIn_regsOnly 10 250 _ n.val _).then _ n.val _).trans (State.putIn_regsOnly _ 5 100 _ n.val _)).mono
    (by simp)⟩
  · rw [State.putIn_rd_ne _ _ _ (by decide), State.rd_wr_self]
    exact Nat.mod_mod _ _
  · rw [State.putIn_rd_ne _ _ _ (by decide),
      State.rd_wr_ne _ (lo (by decide)), State.putIn_rd_self]
    congr 1
    exact Nat.mod_mod _ _
  · rw [State.putIn_rd_self, State.rd_wr_ne _ (lo (by decide)),
      State.putIn_rd_ne _ _ _ (by decide)]
    congr 1
    exact Nat.mod_mod _ _

/-! ### The TOK registers (R334, R335) -/

theorem exec_tokRegWrite {s : State} {a : Nat} (w : Word) (h : s.isOn .core = true) (ha : 0x8400 ≤ a) (hb : a < 0x841C) :
    exec (.tokRegWrite a w) s = .next (writeTok a w s) := by
  have e : exec (.tokRegWrite a w) s = .next (if 0x8400 ≤ a && a < 0x841C then s.hostWrite a (writeTok a w) else s) := rfl
  have core : domainOf a = .core := by
    unfold domainOf
    iterate 8 rw [if_neg (by omega)]
    rw [if_pos (by omega)]
  rw [e, if_pos (by simp [ha, hb]), State.hostWrite_on (by rw [core, h])]

theorem exec_tokCntClr (w : Word) :
    exec (.tokCntClr w) s = .next (if bit w.toNat 31 then s.hostWrite 0x8400 (writeTok 0x8400 w) else s) := rfl

/-- Fields that are cleared together. -/
def State.zeroFields (s : State) (l : List Fld) (n : Nat) : State := forAll l (fun (f : Fld) (s : State) => s.wr f n 0) s

theorem State.zeroFields_regsOnly (l : List Fld) (n : Nat) : RegsOnly s (s.zeroFields l n) (l.map (fun f => f.key n)) := by
  induction l generalizing s with
  | nil => exact RegsOnly.refl s
  | cons f l ih => exact (RegsOnly.wr s f n 0).trans (ih (s.wr f n 0))

/-- Each of the fields, all 0 at reset, reads 0. -/
theorem State.rd_zeroFields {l : List Fld} {n : Nat} (h : ∀ f ∈ l, f.dflt n = 0) {f : Fld} (hf : f ∈ l) :
    (s.zeroFields l n).rd f n = 0 := by
  have stays : ∀ k : List Fld, (∀ g ∈ k, g ∈ l) → ∀ t : State, t.rd f n = 0 ∨ f ∈ k → (t.zeroFields k n).rd f n = 0 := by
    intro k
    induction k with
    | nil => exact fun _ t ht => ht.resolve_right (List.not_mem_nil)
    | cons g k ih =>
      intro hk t ht
      refine ih (fun x hx => hk x (List.mem_cons_of_mem g hx)) (t.wr g n 0) ?_
      by_cases e : g.key n = f.key n
      · refine .inl ?_
        rw [t.rd_wr g f n n 0 (fun _ => (h g (hk g List.mem_cons_self)).trans (h f hf).symm), if_pos e, Nat.zero_mod]
      · rcases ht with ht | ht
        · exact .inl (by rw [t.rd_wr_ne e, ht])
        · exact .inr ((List.mem_cons.mp ht).resolve_left (fun x => e (by rw [x])))
  exact stays l (fun _ => id) s (.inr hf)

/-- The counters that TOK_CFG.CNT_CLR clears. -/
def tokCounters : List Fld :=
  [F.TOK_CNT_FRAME_COUNT, F.TOK_CNT_COLL_COUNT, F.TOK_CNT_STRAY_COUNT, F.TOK_CNT_MISSED_COUNT, F.TOK_CNT_DB_MISS_COUNT]

/-- TRACE taken when it is legal. -/
def State.takeTrace (s : State) (v : Nat) : State := s.wrIf (bits v 1 0 != 3) F.TOK_CFG_TRACE (bits v 1 0)

theorem writeTok_cfg (w : Word) : writeTok 0x8400 w s =
    if bit w.toNat 31 then (s.takeTrace w.toNat).zeroFields tokCounters 0 else s.takeTrace w.toNat := rfl

/-- TRACE keeps a reserved value out, whether the counters are cleared or not. -/
theorem writeTok_trace (w : Word) :
    (writeTok 0x8400 w s).rd F.TOK_CFG_TRACE = if w.toNat % 4 = 3 then s.rd F.TOK_CFG_TRACE else w.toNat % 4 := by
  have tb : bits w.toNat 1 0 = w.toNat % 4 := bits_low _ _
  have taken : (s.takeTrace w.toNat).rd F.TOK_CFG_TRACE = if w.toNat % 4 = 3 then s.rd F.TOK_CFG_TRACE else w.toNat % 4 := by
    rw [State.takeTrace, tb, State.rd_wrIf_self]
    by_cases h : w.toNat % 4 = 3
    · simp [h]
    · simp [h, Fld.size]
  rw [writeTok_cfg]
  split
  · rw [((s.takeTrace w.toNat).zeroFields_regsOnly tokCounters 0).2 _ 0 (by decide), taken]
  · exact taken

/-- CNT_CLR clears the counters, and besides TRACE nothing else changes. -/
theorem writeTok_counters {w : Word} (h : w.getLsbD 31 = true) :
    (∀ f ∈ tokCounters, (writeTok 0x8400 w s).rd f = 0) ∧
    RegsOnly s (writeTok 0x8400 w s) (tokCounters.map (fun f => f.key 0) ++ [F.TOK_CFG_TRACE.key 0]) := by
  rw [writeTok_cfg, bit_toNat, h, if_pos rfl]
  refine ⟨fun f hf => State.rd_zeroFields _ (by decide) hf, ?_⟩
  exact ((s.wrIf_regsOnly _ F.TOK_CFG_TRACE _).trans (State.zeroFields_regsOnly _ tokCounters 0)).mono
    (fun a ha => List.mem_append.mpr (List.mem_append.mp ha).symm)

/-- What TOK_DL_CFG reads after a write. -/
theorem writeTok_dl (w : Word) :
    let t := writeTok 0x8408 w s
    t.rd F.TOK_DL_CFG_CW = (if 4 ≤ w.toNat % 32 then w.toNat % 32 else s.rd F.TOK_DL_CFG_CW) ∧
    t.rd F.TOK_DL_CFG_CHARGE = (if 10 ≤ w.toNat / 256 % 256 then w.toNat / 256 % 256 else s.rd F.TOK_DL_CFG_CHARGE) ∧
    RegsOnly s t [F.TOK_DL_CFG_CW.key 0, F.TOK_DL_CFG_CHARGE.key 0] := by
  have cb : bits w.toNat 4 0 = w.toNat % 32 := bits_low _ _
  have hb : bits w.toNat 15 8 = w.toNat / 256 % 256 := bits_eq _ _ _
  have e : writeTok 0x8408 w s = (s.wrIf (decide (4 ≤ bits w.toNat 4 0)) F.TOK_DL_CFG_CW (bits w.toNat 4 0)).wrIf
    (decide (10 ≤ bits w.toNat 15 8)) F.TOK_DL_CFG_CHARGE (bits w.toNat 15 8) := rfl
  rw [cb, hb] at e
  dsimp only
  rw [e]
  refine ⟨?_, ?_, (s.wrIf_regsOnly _ _ _).trans (State.wrIf_regsOnly _ _ _ _)⟩
  · rw [State.rd_wrIf_ne _ _ (by decide), State.rd_wrIf_self]
    simp [Fld.size]
  · rw [State.rd_wrIf_self, State.rd_wrIf_ne _ _ (by decide)]
    simp [Fld.size]

/-- What TOK_SLOT_CFG reads after a write. -/
theorem writeTok_slot (w : Word) :
    let t := writeTok 0x8414 w s
    t.rd F.TOK_SLOT_CFG_FIRST = (if 100 ≤ w.toNat % 4096 then w.toNat % 4096 else s.rd F.TOK_SLOT_CFG_FIRST) ∧
    t.rd F.TOK_SLOT_CFG_SLOT =
      (if 1050 ≤ w.toNat / 65536 % 4096 then w.toNat / 65536 % 4096 else s.rd F.TOK_SLOT_CFG_SLOT) ∧
    RegsOnly s t [F.TOK_SLOT_CFG_FIRST.key 0, F.TOK_SLOT_CFG_SLOT.key 0] := by
  have fb : bits w.toNat 11 0 = w.toNat % 4096 := bits_low _ _
  have sb : bits w.toNat 27 16 = w.toNat / 65536 % 4096 := bits_eq _ _ _
  have e : writeTok 0x8414 w s = (s.wrIf (decide (100 ≤ bits w.toNat 11 0)) F.TOK_SLOT_CFG_FIRST (bits w.toNat 11 0)).wrIf
    (decide (1050 ≤ bits w.toNat 27 16)) F.TOK_SLOT_CFG_SLOT (bits w.toNat 27 16) := rfl
  rw [fb, sb] at e
  dsimp only
  rw [e]
  refine ⟨?_, ?_, (s.wrIf_regsOnly _ _ _).trans (State.wrIf_regsOnly _ _ _ _)⟩
  · rw [State.rd_wrIf_ne _ _ (by decide), State.rd_wrIf_self]
    simp [Fld.size]
  · rw [State.rd_wrIf_self, State.rd_wrIf_ne _ _ (by decide)]
    simp [Fld.size]

/-- What TOK_UL_CFG reads after a write. -/
theorem writeTok_ul (w : Word) :
    let t := writeTok 0x840C w s
    t.rd F.TOK_UL_CFG_CHAN = (if w.toNat % 256 < s.otp.nChan then w.toNat % 256 else s.rd F.TOK_UL_CFG_CHAN) ∧
    t.rd F.TOK_UL_CFG_ENERGY_TH = (if 120 ≤ w.toNat / 256 % 256 ∧ w.toNat / 256 % 256 ≤ 240 then w.toNat / 256 % 256
      else s.rd F.TOK_UL_CFG_ENERGY_TH) ∧
    t.rd F.TOK_UL_CFG_SYNC_ERR = w.toNat / 65536 % 4 ∧
    RegsOnly s t [F.TOK_UL_CFG_CHAN.key 0, F.TOK_UL_CFG_ENERGY_TH.key 0, F.TOK_UL_CFG_SYNC_ERR.key 0] := by
  have cb : bits w.toNat 7 0 = w.toNat % 256 := bits_low _ _
  have eb : bits w.toNat 15 8 = w.toNat / 256 % 256 := bits_eq _ _ _
  have sb : bits w.toNat 17 16 = w.toNat / 65536 % 4 := bits_eq _ _ _
  have e : writeTok 0x840C w s = s.writeTokUl w.toNat := rfl
  rw [State.writeTokUl, cb, eb, sb] at e
  dsimp only
  rw [e]
  refine ⟨?_, ?_, ?_, ((s.wrIf_regsOnly _ _ _).trans (State.wrIf_regsOnly _ _ _ _)).then _ 0 _⟩
  · rw [State.rd_wr_ne _ (by decide), State.rd_wrIf_ne _ _ (by decide), State.rd_wrIf_self]
    simp [Fld.size]
  · rw [State.rd_wr_ne _ (by decide), State.rd_wrIf_self, State.rd_wrIf_ne _ _ (by decide)]
    simp [Fld.size]
  · rw [State.rd_wr_self]
    exact Nat.mod_mod _ _

/-- What TOK_DB_CFG reads after a write. -/
theorem writeTok_db (w : Word) :
    let t := writeTok 0x8418 w s
    t.rd F.TOK_DB_CFG_CHAN = (if w.toNat % 256 < s.otp.nChan ∧ s.subBand (w.toNat % 256) ≠ 15 then w.toNat % 256
      else s.rd F.TOK_DB_CFG_CHAN) ∧
    t.rd F.TOK_DB_CFG_DELAY = (if 2 ≤ w.toNat / 256 % 256 then w.toNat / 256 % 256 else s.rd F.TOK_DB_CFG_DELAY) ∧
    t.rd F.TOK_DB_CFG_SPACING = (if 12 ≤ w.toNat / 65536 % 256 ∧ w.toNat / 65536 % 256 ≤ 64 then w.toNat / 65536 % 256
      else s.rd F.TOK_DB_CFG_SPACING) ∧
    RegsOnly s t [F.TOK_DB_CFG_CHAN.key 0, F.TOK_DB_CFG_DELAY.key 0, F.TOK_DB_CFG_SPACING.key 0] := by
  have cb : bits w.toNat 7 0 = w.toNat % 256 := bits_low _ _
  have db : bits w.toNat 15 8 = w.toNat / 256 % 256 := bits_eq _ _ _
  have sb : bits w.toNat 23 16 = w.toNat / 65536 % 256 := bits_eq _ _ _
  have e : writeTok 0x8418 w s = s.writeTokDb w.toNat := rfl
  rw [State.writeTokDb, cb, db, sb] at e
  dsimp only
  rw [e]
  refine ⟨?_, ?_, ?_, ((s.wrIf_regsOnly _ _ _).trans (State.wrIf_regsOnly _ _ _ _)).trans (State.wrIf_regsOnly _ _ _ _)⟩
  · rw [State.rd_wrIf_ne _ _ (by decide), State.rd_wrIf_ne _ _ (by decide), State.rd_wrIf_self]
    simp [Fld.size]
  · rw [State.rd_wrIf_ne _ _ (by decide), State.rd_wrIf_self, State.rd_wrIf_ne _ _ (by decide)]
    simp [Fld.size]
  · rw [State.rd_wrIf_self, State.rd_wrIf_ne _ _ (by decide), State.rd_wrIf_ne _ _ (by decide)]
    simp [Fld.size]

theorem writeTok_wakeId (w : Word) : writeTok 0x8404 w s = s.wr F.TOK_WAKE_ID_WAKE_ID 0 (w.toNat % 65536) :=
  congrArg (s.wr F.TOK_WAKE_ID_WAKE_ID 0) (bits_low w.toNat 15)

/-- TOK_SYNC keeps an illegal sync word out. -/
theorem writeTok_sync (w : Word) : writeTok 0x8410 w s =
    if w.toNat = 0 ∨ w.toNat = 0xFFFFFFFF ∨ w.toNat = 0xAAAAAAAA ∨ w.toNat = 0x55555555 then s
    else s.wr F.TOK_SYNC_SYNC 0 w.toNat := by
  have e : writeTok 0x8410 w s = s.wrIf (syncOk w.toNat) F.TOK_SYNC_SYNC w.toNat := rfl
  rw [e, State.wrIf, syncOk]
  by_cases h : w.toNat = 0 ∨ w.toNat = 0xFFFFFFFF ∨ w.toNat = 0xAAAAAAAA ∨ w.toNat = 0x55555555
  · rw [if_pos h, if_neg]
    rcases h with h | h | h | h <;> simp [h]
  · rw [if_neg h, if_pos]
    simpa [and_assoc] using h

end Sys2Proof.Machine

open Sys2Proof Sys2Proof.Machine

/-- Settles O34, by what a fault does to its channel and by what each register of a channel and of the link reads after a
write. -/
theorem lfChannelsFaultAndAreConfigured : Obligations.LfChannelsFaultAndAreConfigured := by
  unfold Obligations.LfChannelsFaultAndAreConfigured
  intro s n w
  refine ⟨fun sp h => ?_, fun sp h => ?_, fun sp busy idle => ⟨fun shown => ?_, fun shown => ?_⟩, fun lf => ?_,
    fun lf => ⟨?_, ?_, ?_⟩, fun core => ⟨?_, ?_, ?_, ?_, ?_, ?_, ?_, fun clr => ?_⟩, fun h => ?_⟩
  · rw [exec_lfOvercurrent, State.lfBusy_fault_false h]; rfl
  · rw [exec_lfOpenFault, State.lfBusy_fault_false h]; rfl
  · change (s.lfWalk n.val (s.lfTp n.val) (s.lfFrozen n.val) sp).fault = some true at shown
    rw [exec_lfOvercurrent, (s.lfBusy_iff n.val).mpr busy, shown]
    exact ⟨_, rfl, State.channelFault_effect n.val sp true idle⟩
  · change (s.lfWalk n.val (s.lfTp n.val) (s.lfFrozen n.val) sp).fault = some false at shown
    rw [exec_lfOpenFault, (s.lfBusy_iff n.val).mpr busy, shown]
    exact ⟨_, rfl, State.channelFault_effect n.val sp false idle⟩
  · exact ⟨_, exec_lfErrWrite n w lf, writeLfErr_effect s n.val w⟩
  · exact ⟨_, exec_lfChannelCfgWrite w lf (by omega) (by omega), writeLfCfg_cfg_effect s n w⟩
  · exact ⟨_, exec_lfChannelCfgWrite w lf (by omega) (by omega), writeLfCfg_drv_effect s n w⟩
  · exact ⟨_, exec_lfChannelCfgWrite w lf (by omega) (by omega), writeLfCfg_sns_effect s n w⟩
  · rw [exec_tokRegWrite w core (by decide) (by decide), writeTok_wakeId]
  · rw [exec_tokRegWrite w core (by decide) (by decide), writeTok_sync]
  · exact ⟨_, exec_tokRegWrite w core (by decide) (by decide), writeTok_slot s w⟩
  · exact ⟨_, exec_tokRegWrite w core (by decide) (by decide), writeTok_trace s w⟩
  · exact ⟨_, exec_tokRegWrite w core (by decide) (by decide), writeTok_dl s w⟩
  · exact ⟨_, exec_tokRegWrite w core (by decide) (by decide), writeTok_ul s w⟩
  · exact ⟨_, exec_tokRegWrite w core (by decide) (by decide), writeTok_db s w⟩
  · obtain ⟨zero, only⟩ := writeTok_counters s clr
    refine ⟨writeTok 0x8400 w s, ?_, zero _ (by decide), zero _ (by decide), zero _ (by decide), zero _ (by decide),
      zero _ (by decide), only⟩
    rw [exec_tokCntClr, bit_toNat, clr, if_pos rfl, State.hostWrite_on core]
  · rw [exec_tokCntClr, bit_toNat, h]; rfl
end

section
/-! PROOFS. O3: the resets of the whole block, and PERST_N. -/

namespace Sys2Proof.Machine
open Sys2Proof
variable (s : State)

/-! ### POWER_ON_RESET and RESET_N (R605, R608) -/

/-- The end of the release pulses is seen at the pins and nowhere else. -/
theorem State.dropPulses_frame : s.dropPulses = { s with out := s.dropPulses.out } := by
  unfold State.dropPulses
  refine forAll_inv (fun t : State => t = { s with out := t.out }) (fun l t h => ?_) _ s rfl
  split
  · rw [h]; rfl
  · exact h

/-- The state of the block at reset, with what outlives it and the sampled role. -/
def State.coldStart (s : State) (b pins : Nat) : State :=
  { State.reset with
    pending := s.pending, out := s.dropPulses.out, otpMem := s.otpMem,
    sys := { SysPart.reset with role := roleOf pins, rolePins := pins % 4, nextId := s.sys.nextId, fresh := s.sys.fresh },
    pwr := { PwrPart.reset with unreported := 2 ^ b } }

theorem State.fullReset_eq (b pins : Nat) :
    s.fullReset b pins = (s.coldStart b pins).wr F.RST_CAUSE_CAUSE 0 (2 ^ b) := by
  simp only [State.fullReset, State.coldStart]
  rw [s.dropPulses_frame]

theorem exec_powerOnReset (pins : Nat) : exec (.powerOnReset pins) s = .next (s.fullReset 0 pins) := rfl

theorem exec_resetN (pins : Nat) : exec (.resetN pins) s = .next (s.fullReset 1 pins) := rfl

/-- Right after a reset AON is ON and every other domain OFF. -/
theorem State.coldStart_pst (b pins : Nat) (d : Domain) : (s.coldStart b pins).pst d = if d = .aon then .on else .off := by
  cases d <;> rfl

/-- Every field but the reset cause reads its reset value. -/
theorem State.fullReset_rd (b pins : Nat) {f : Fld} {k : Nat} (h : f.key k ≠ F.RST_CAUSE_CAUSE.key 0) :
    (s.fullReset b pins).rd f k = f.dflt k := by
  rw [s.fullReset_eq, State.rd_wr_ne _ (Ne.symm h)]
  have e : (s.coldStart b pins).rd f k = tabGet (f.dflt k) [(F.RST_CAUSE_CAUSE.key 0, 1)] (f.key k) := rfl
  rw [e, tabGet, if_neg (Ne.symm h), tabGet]

/-- The reset cause is the source's bit alone. -/
theorem State.fullReset_cause (pins : Nat) {b : Nat} (h : b < 6) : (s.fullReset b pins).rd F.RST_CAUSE_CAUSE = 2 ^ b := by
  rw [s.fullReset_eq, State.rd_wr_self]
  exact Nat.mod_eq_of_lt (Nat.pow_lt_pow_right (by decide) h)

/-- The pins at rest after a reset: no chip is selected, no clock and no release output is high. -/
theorem State.fullReset_pins (b pins : Nat) (c : Fin 4) :
    (s.fullReset b pins).csN c = true ∧ (s.fullReset b pins).sckIdle c = false ∧ (s.fullReset b pins).relLevel c = false := by
  have pol : (s.fullReset b pins).flag F.ACC_REL_CFG_POL c.val = false := by
    rw [State.flag, s.fullReset_rd b pins (Fld.key_ne_of_lo (by decide))]
    simp [Fld.dflt]
  have pulse : vget (s.fullReset b pins).acc.pulse c = false := vget_replicate false c
  have core : (s.fullReset b pins).isOn .core = false := rfl
  refine ⟨rfl, ?_, ?_⟩
  · rw [State.sckIdle, core, Bool.false_and]
  · rw [State.relLevel, pulse, pol]; rfl

/-- The state after a reset of every domain: the source's bit alone, the sampled role, everything else at reset. -/
def ColdReset (s t : State) (b pins : Nat) : Prop :=
  t.sys.role = roleOf pins ∧ (∀ d, t.pst d = if d = .aon then .on else .off) ∧
  t.pwr.step = 1 ∧ t.pwr.halted = false ∧ t.pwr.run = none ∧ t.rd F.RST_CAUSE_CAUSE = 2 ^ b ∧
  (∀ (f : Fld) (k : Nat), f.key k ≠ F.RST_CAUSE_CAUSE.key 0 → t.rd f k = f.dflt k) ∧
  t.boardMem = [] ∧ t.planMem = [] ∧ t.txns = [] ∧ t.sys.seq = 0 ∧ t.sys.timebase = 0 ∧
  t.rods = Vector.replicate 24 Rod.reset ∧ t.host = HostPart.reset ∧ t.keys = KeysPart.reset ∧
  t.board = BoardPart.reset ∧ t.acc = AccPart.reset ∧ t.otpMem = s.otpMem ∧ t.pending = s.pending ∧
  (∀ c : Fin 4, t.csN c = true ∧ t.sckIdle c = false ∧ t.relLevel c = false) ∧ t.beamDe = false ∧ t.tdoLevel = none

theorem State.fullReset_cold (pins : Nat) {b : Nat} (h : b < 6) : ColdReset s (s.fullReset b pins) b pins := by
  have frame : s.fullReset b pins = { s.coldStart b pins with regs := (s.fullReset b pins).regs } := by
    rw [s.fullReset_eq]
    rfl
  refine ⟨?_, s.coldStart_pst b pins, ?_, ?_, ?_, s.fullReset_cause pins h, fun f k hk => s.fullReset_rd b pins hk, ?_, ?_, ?_,
    ?_, ?_, ?_, ?_, ?_, ?_, ?_, ?_, ?_, s.fullReset_pins b pins, rfl, rfl⟩
  all_goals rw [frame]; rfl

/-! ### PERST_N (R103, R600, R605) -/

/-- The state after PERST_N has reset HOST, before its power state is settled. -/
def State.perstHost (s : State) : State := (s.noteReset 2).freeHostPads.hostReset

theorem exec_perstReset : exec .perstReset s = .next (
    if s.isOn .host then s.perstHost.reportReset
    else { s.perstHost with pwr := { s.perstHost.pwr with
      st := vset s.perstHost.pwr.st Domain.host.num .off, run := s.perstHost.pwr.run.map PwrRun.hostReset } }) := rfl

/-- A transaction that PERST_N leaves. -/
def Txn.outlivesHost (t : Txn) : Bool := t.sq.isNone || (t.live && t.dispatched)

/-- Its completion will be discarded when it came from an SQ (R103). -/
def Txn.orphaned (t : Txn) : Txn := if t.sq.isSome then { t with orphan := true } else t

/-- The transactions that PERST_N leaves. -/
def State.orphans (s : State) : List Txn := (s.txns.filter Txn.outlivesHost).map Txn.orphaned

/-- A reset of HOST changes registers, the transactions and the host part. -/
theorem State.hostReset_frame :
    s.hostReset = { s with regs := s.hostReset.regs, txns := s.orphans, host := { HostPart.reset with owed := s.host.owed } } := rfl

/-- Nothing but registers, the transactions, the host part and the reset sources to be reported changes. -/
theorem State.perstHost_frame : s.perstHost = { s with
    regs := s.perstHost.regs, txns := s.orphans, host := { HostPart.reset with owed := s.host.owed },
    pwr := { s.pwr with unreported := s.pwr.unreported ||| (1 <<< 2) } } := by
  have frame := (s.noteReset 2).freeHostPads.hostReset_frame
  rw [State.perstHost, frame]
  rfl

theorem Txn.orphaned_sq (t : Txn) : t.orphaned.sq = t.sq := by unfold Txn.orphaned; split <;> rfl

/-- What is left of an SQ's transactions is dispatched, has not ended, and its completion will be discarded. -/
theorem State.orphans_of_sq {u : Txn} (h : u ∈ s.orphans) (sq : u.sq.isSome = true) :
    u.orphan = true ∧ u.live = true ∧ u.dispatched = true := by
  obtain ⟨t, ht, rfl⟩ := List.mem_map.mp h
  rw [t.orphaned_sq] at sq
  have left := (List.mem_filter.mp ht).2
  rw [Txn.outlivesHost, Option.isNone_eq_false_iff.mpr sq, Bool.false_or, Bool.and_eq_true] at left
  rw [Txn.orphaned, if_pos sq]
  exact ⟨rfl, left.1, left.2⟩

/-- Transactions of the beam stay as they are. -/
theorem State.orphans_of_beam : s.orphans.filter (fun u => u.sq.isNone) = s.txns.filter (fun u => u.sq.isNone) := by
  unfold State.orphans
  induction s.txns with
  | nil => rfl
  | cons t l ih =>
    cases sq : t.sq with
    | none =>
      have left : t.outlivesHost = true := by simp [Txn.outlivesHost, sq]
      have same : t.orphaned = t := by simp [Txn.orphaned, sq]
      rw [List.filter_cons_of_pos left, List.map_cons, same, List.filter_cons_of_pos (by simp [sq]),
        List.filter_cons_of_pos (by simp [sq]), ih]
    | some q =>
      rw [List.filter_cons_of_neg (a := t) (p := fun u : Txn => u.sq.isNone) (by simp [sq])]
      by_cases left : t.outlivesHost = true
      · rw [List.filter_cons_of_pos left, List.map_cons, List.filter_cons_of_neg (by simp [t.orphaned_sq, sq]), ih]
      · rw [List.filter_cons_of_neg left, ih]

/-- The registers that PERST_N leaves in the address ranges of HOST. -/
def hostAddr (a : Nat) : Bool := decide (0x1000 ≤ a) && decide (a < 0x3000)

/-- The registers before the counts of SYS_HOST_DROP and the mark are written. -/
def State.perstRegs (s : State) : State := (s.noteReset 2).freeHostPads.resetRegs hostAddr

/-- What a reset of HOST writes outside HOST: what it drops, and the mark. -/
theorem State.hostReset_regs : s.hostReset.regs =
    ((((s.resetRegs hostAddr).countSat F.SYS_HOST_DROP_COMPL 0 (s.txns.countP (fun u => u.sq.isSome && !u.live))).countSat
      F.SYS_HOST_DROP_EVT 0 s.host.staging.length).wr F.SYS_HOST_MARK_SEQ 0 s.sys.seq.toNat).regs := rfl

theorem State.perstHost_rd (f : Fld) (k : Nat) : s.perstHost.rd f k =
    ((((s.perstRegs.countSat F.SYS_HOST_DROP_COMPL 0 (s.txns.countP (fun u => u.sq.isSome && !u.live))).countSat
      F.SYS_HOST_DROP_EVT 0 s.host.staging.length).wr F.SYS_HOST_MARK_SEQ 0 s.sys.seq.toNat).rd f k) :=
  State.rd_congr (s.noteReset 2).freeHostPads.hostReset_regs f k

/-- A field that lies outside the drop counts and the mark. -/
theorem State.perstHost_rd_other {f : Fld} {k : Nat} (hc : F.SYS_HOST_DROP_COMPL.key 0 ≠ f.key k)
    (he : F.SYS_HOST_DROP_EVT.key 0 ≠ f.key k) (hm : F.SYS_HOST_MARK_SEQ.key 0 ≠ f.key k) :
    s.perstHost.rd f k = s.perstRegs.rd f k := by
  rw [s.perstHost_rd, State.rd_wr_ne _ hm, State.countSat, State.rd_wr_ne _ he, State.countSat, State.rd_wr_ne _ hc]

/-- A field that the reset of HOST's registers, the cause and the pads leave. -/
theorem State.perstRegs_rd_other {f : Fld} {k : Nat} (hh : hostAddr (f.key k / 32) = false)
    (hc : F.RST_CAUSE_CAUSE.key 0 ≠ f.key k) (hp : F.PWR_PAD_RELEASE_HELD.key 0 ≠ f.key k) : s.perstRegs.rd f k = s.rd f k := by
  rw [State.perstRegs, State.rd_resetRegs, hh, if_neg (by decide), State.freeHostPads, State.rd_wr_ne _ hp, State.noteReset,
    State.rd_wr_ne _ hc]
  rfl

/-- Every field of HOST reads its reset value. -/
theorem State.perstHost_rd_host {f : Fld} {k : Nat} (h : 0x1000 ≤ f.key k / 32) (g : f.key k / 32 < 0x3000) :
    s.perstHost.rd f k = f.dflt k := by
  have out : ∀ a, a / 32 < 0x1000 → a ≠ f.key k := fun a ha e => by omega
  rw [s.perstHost_rd_other (out _ (by decide)) (out _ (by decide)) (out _ (by decide)), State.perstRegs, State.rd_resetRegs,
    if_pos (by simp [hostAddr, h, g])]

theorem State.perstHost_cause : s.perstHost.rd F.RST_CAUSE_CAUSE = (s.rd F.RST_CAUSE_CAUSE ||| 4) % 64 := by
  rw [s.perstHost_rd_other (by decide) (by decide) (by decide), State.perstRegs, State.rd_resetRegs, if_neg (by decide),
    State.freeHostPads, State.rd_wr_ne _ (by decide), State.noteReset, State.rd_wr_self]
  rfl

/-- The pads of HOST are freed, and no others. -/
theorem State.perstHost_held : s.perstHost.rd F.PWR_PAD_RELEASE_HELD =
    (s.rd F.PWR_PAD_RELEASE_HELD - (s.rd F.PWR_PAD_RELEASE_HELD &&& 4)) % 4096 := by
  have held : (s.noteReset 2).rd F.PWR_PAD_RELEASE_HELD = s.rd F.PWR_PAD_RELEASE_HELD := by
    rw [State.noteReset, State.rd_wr_ne _ (by decide)]
    rfl
  rw [s.perstHost_rd_other (by decide) (by decide) (by decide), State.perstRegs, State.rd_resetRegs, if_neg (by decide),
    State.freeHostPads, State.rd_wr_self, held]
  rfl

/-- A number is the bits that it shares with another and the bits that it does not share. -/
theorem and_add_xor_and (x y : Nat) : (x &&& y) + (x ^^^ (x &&& y)) = x := by
  induction x using Nat.strongRecOn generalizing y with
  | _ x ih =>
    by_cases z : x = 0
    · simp [z]
    · have half := ih (x / 2) (by omega) (y / 2)
      rw [← Nat.and_div_two, ← Nat.xor_div_two] at half
      have a := Nat.and_mod_two_eq_one (a := x) (b := y)
      have b := Nat.xor_mod_two_eq_one (a := x) (b := x &&& y)
      omega

/-- Taking away the bits that two numbers share clears them. -/
theorem testBit_sub_and (x y i : Nat) : (x - (x &&& y)).testBit i = (x.testBit i && !y.testBit i) := by
  have e : x - (x &&& y) = x ^^^ (x &&& y) := by
    have := and_add_xor_and x y
    omega
  rw [e, Nat.testBit_xor, Nat.testBit_and]
  cases x.testBit i <;> cases y.testBit i <;> rfl

theorem State.perstHost_padsHeld (d : Domain) : s.perstHost.padsHeld d = (s.padsHeld d && d != .host) := by
  have e : (4096 : Nat) = 2 ^ 12 := by decide
  have host : Nat.testBit 4 d.num.val = (d == .host) := by cases d <;> decide
  rw [State.padsHeld, s.perstHost_held, bit, e, Nat.testBit_mod_two_pow, testBit_sub_and, host, decide_eq_true d.num.isLt,
    Bool.true_and]
  rfl

theorem State.perstHost_mark : s.perstHost.rd F.SYS_HOST_MARK_SEQ = s.sys.seq.toNat % F.SYS_HOST_MARK_SEQ.size := by
  rw [s.perstHost_rd, State.rd_wr_self]

theorem State.perstHost_dropCompl : s.perstHost.rd F.SYS_HOST_DROP_COMPL = min (F.SYS_HOST_DROP_COMPL.size - 1)
    (s.rd F.SYS_HOST_DROP_COMPL + s.txns.countP (fun u => u.sq.isSome && !u.live)) % F.SYS_HOST_DROP_COMPL.size := by
  rw [s.perstHost_rd, State.rd_wr_ne _ (by decide), State.countSat, State.rd_wr_ne _ (by decide), State.countSat,
    State.rd_wr_self, s.perstRegs_rd_other (by decide) (by decide) (by decide)]

theorem State.perstHost_dropEvt : s.perstHost.rd F.SYS_HOST_DROP_EVT = min (F.SYS_HOST_DROP_EVT.size - 1)
    (s.rd F.SYS_HOST_DROP_EVT + s.host.staging.length) % F.SYS_HOST_DROP_EVT.size := by
  rw [s.perstHost_rd, State.rd_wr_ne _ (by decide), State.countSat, State.rd_wr_self, State.countSat,
    State.rd_wr_ne _ (by decide), s.perstRegs_rd_other (by decide) (by decide) (by decide)]

/-! ### The report of a reset (R606) -/

/-- Raising an event changes of the host part the events staged and the overflow count. -/
theorem State.raise_host (c : EventCode) (u : Nat) (d : List Byte) :
    (s.raise c u d).host = { s.host with staging := (s.raise c u d).host.staging, overflow := (s.raise c u d).host.overflow } := by
  unfold State.raise State.raiseRaw State.stageEvent
  repeat' split
  all_goals rfl

/-- The report changes event queues, the sources to be reported, and EQ_STAT.LOST. -/
theorem State.reportReset_frame : s.reportReset = { s with
    sys := s.reportReset.sys, host := s.reportReset.host, regs := s.reportReset.regs, pwr := { s.pwr with unreported := 0 } } := by
  unfold State.reportReset
  rw [State.raise_frame]

theorem State.reportReset_rd {f : Fld} {k : Nat} (h : f.key k ≠ F.HOST_EQ_STAT_LOST.key 0) :
    s.reportReset.rd f k = s.rd f k := by
  unfold State.reportReset
  rw [State.raise_rd _ _ _ _ _ _ h]
  rfl

theorem State.reportReset_host : s.reportReset.host =
    { s.host with staging := s.reportReset.host.staging, overflow := s.reportReset.host.overflow } := by
  unfold State.reportReset
  rw [State.raise_host]

/-! ### HOST after PERST_N -/

theorem Domain.num_inj {d e : Domain} : d.num = e.num → d = e := by cases d <;> cases e <;> decide

theorem State.pst_eq_on_iff (d : Domain) : s.pst d = .on ↔ s.isOn d = true := by simp [State.pst, State.isOn]

/-- What PERST_N leaves in either case: HOST ON and reported, or HOST OFF. -/
structure PerstDone (s t : State) : Prop where
  frame : t = { s.perstHost with regs := t.regs, sys := t.sys, host := t.host, pwr := t.pwr }
  host : t.host = { s.perstHost.host with staging := t.host.staging, overflow := t.host.overflow }
  rd : ∀ (f : Fld) (k : Nat), f.key k ≠ F.HOST_EQ_STAT_LOST.key 0 → t.rd f k = s.perstHost.rd f k
  hostState : t.pst .host = if s.pst .host = .on then .on else .off
  others : ∀ d, d ≠ .host → t.pst d = s.pst d

theorem State.perst_on (on : s.isOn .host = true) : PerstDone s s.perstHost.reportReset where
  frame := by rw [s.perstHost.reportReset_frame]
  host := s.perstHost.reportReset_host
  rd := fun _ _ h => s.perstHost.reportReset_rd h
  hostState := by
    rw [if_pos ((s.pst_eq_on_iff .host).mpr on), State.pst, s.perstHost.reportReset_frame]
    exact (s.pst_eq_on_iff .host).mpr on
  others := fun d _ => by rw [State.pst, s.perstHost.reportReset_frame]; rfl

theorem State.perst_off (off : s.isOn .host = false) : PerstDone s { s.perstHost with pwr := { s.perstHost.pwr with
    st := vset s.perstHost.pwr.st Domain.host.num .off, run := s.perstHost.pwr.run.map PwrRun.hostReset } } where
  frame := rfl
  host := rfl
  rd := fun _ _ _ => rfl
  hostState := by
    rw [if_neg (by rw [s.pst_eq_on_iff .host, off]; decide)]
    exact vget_vset_self _ _ _
  others := fun d h => vget_vset_ne _ _ (fun e => h (Domain.num_inj e.symm))

theorem State.perst_done : ∃ t, exec .perstReset s = .next t ∧ PerstDone s t := by
  cases h : s.isOn .host with
  | true => exact ⟨_, by rw [exec_perstReset, h, if_pos rfl], s.perst_on h⟩
  | false => exact ⟨_, by rw [exec_perstReset, h, if_neg (by decide)], s.perst_off h⟩

end Sys2Proof.Machine

open Sys2Proof Sys2Proof.Machine

/-- Settles O3, by the state that a full reset builds and by what PERST_N leaves of the host part, the registers and the
transactions. -/
theorem fullResetsAndPerstResetTheirDomains : Obligations.FullResetsAndPerstResetTheirDomains := by
  unfold Obligations.FullResetsAndPerstResetTheirDomains
  refine ⟨fun s pins => ?_, fun s => ?_⟩
  · exact ⟨⟨_, exec_powerOnReset s pins, s.fullReset_cold pins (by decide)⟩,
      ⟨_, exec_resetN s pins, s.fullReset_cold pins (by decide)⟩⟩
  · obtain ⟨t, run, done⟩ := s.perst_done
    refine ⟨t, run, done.hostState, done.others, ?_, fun d => ?_, fun f k lo hi lost => ?_, ?_, ?_, ?_, ?_, fun u hu sq => ?_, ?_,
      ?_, ?_, ?_, ?_, ?_⟩
    · rw [done.rd _ 0 (by decide), s.perstHost_cause]
    · rw [State.padsHeld, done.rd _ 0 (by decide)]
      exact s.perstHost_padsHeld d
    · rw [done.rd f k lost, s.perstHost_rd_host lo hi]
    · exact done.host
    · rw [done.rd _ 0 (by decide), s.perstHost_mark]
    · rw [done.rd _ 0 (by decide), s.perstHost_dropCompl]
    · rw [done.rd _ 0 (by decide), s.perstHost_dropEvt]
    · rw [done.frame] at hu
      exact s.orphans_of_sq hu sq
    · rw [done.frame]
      exact s.orphans_of_beam
    all_goals rw [done.frame]; rfl
end


section
/-! PROOFS. Why the statement of rounds and their settings fails: ROD_SPEC_CTL lies in the domain of its rod's bank
(the register map of spec/01_architecture.md; R602 of spec/14_power_clocks_reset.md), so CORE being ON does not make a write to it take effect. -/

namespace Sys2Proof.Machine
open Sys2Proof

variable (s : State)

theorem exec_specCntClr (n : Fin 24) (w : Word) : exec (.specCntClr n w) s =
    .next (s.hostWrite (0x60CC + 0x100 * n.val) (fun s => s.writeSpecCtl n.val w)) := rfl

/-- An access fault is not the identity while nothing is captured: it sets VALID. -/
theorem State.accessFault_ne (addr : Nat) (write beam : Bool) (h : s.flag F.PWR_ACCESS_FAULT_VALID = false) :
    s.accessFault addr write beam ≠ s := by
  obtain ⟨-, hset, -⟩ := s.accessFault_noted addr write beam
  intro he
  rw [he, h] at hset
  exact Bool.noConfusion hset

/-- With the bank of its rod not ON, SPEC_CNT_CLR of a rod of the first bank is an access fault, whatever it writes. -/
theorem specCntClr_bankOff (w : Word) (h : s.isOn .hfa = false) :
    exec (.specCntClr 0 w) s = .next (s.accessFault 0x60CC true false) := by
  rw [exec_specCntClr, State.hostWrite]
  simp [domainOf, h]

/-- The state after reset with CORE brought ON and both banks still OFF. -/
def coreOnly : State := State.reset.setPst .core .on

end Sys2Proof.Machine

open Sys2Proof Sys2Proof.Machine

/-- Refutes O26: in `coreOnly`, where CORE is ON and the bank of rod 0 is OFF, SPEC_CNT_CLR of rod 0 with bit 0 clear
does change the state. The write goes to a register of a domain that is not ON, is counted as an access fault and
captured (R602). The statement assumes only CORE, where it should assume the bank of the rod. -/
theorem not_roundsRunInOrderAndTheirSettingsApply : ¬ Obligations.RoundsRunInOrderAndTheirSettingsApply := by
  unfold Obligations.RoundsRunInOrderAndTheirSettingsApply
  rintro ⟨-, hset⟩
  have hcore : coreOnly.isOn .core = true := by decide
  have hbank : coreOnly.isOn .hfa = false := by decide
  have hfree : coreOnly.flag F.PWR_ACCESS_FAULT_VALID = false := by decide
  obtain ⟨-, hkeep, -⟩ := hset coreOnly 0 0#32 hcore
  have he := hkeep (by decide)
  rw [specCntClr_bankOff coreOnly 0#32 hbank] at he
  exact coreOnly.accessFault_ne 0x60CC true false hfree (by injection he)
end


section
/-! PROOFS. O5: what a domain coming ON leaves of the power controller, and the steps of start-up that wake domains. -/

namespace Sys2Proof.Machine
open Sys2Proof

variable (s : State)

/-! ### What leaves the power controller as it is -/

@[simp] theorem ite_pwr (c : Prop) [Decidable c] (a b : State) : (if c then a else b).pwr = if c then a.pwr else b.pwr := by
  split <;> rfl

@[simp] theorem forAll_pwr {α : Type} {f : α → State → State} (h : ∀ a s, (f a s).pwr = s.pwr) (l : List α) (s : State) :
    (forAll l f s).pwr = s.pwr := forAll_keeps State.pwr h l s

@[simp] theorem when_pwr {f : State → State} (h : ∀ s, (f s).pwr = s.pwr) (c : Bool) (s : State) : (when c f s).pwr = s.pwr := by
  cases c <;> simp [h]

@[simp] theorem State.raise_pwr (c : EventCode) (u : Nat) (d : List Byte) : (s.raise c u d).pwr = s.pwr := by rw [s.raise_frame]

@[simp] theorem State.serialNext_pwr : s.serialNext.pwr = s.pwr := by rw [s.serialNext_serialOnly.frame]

@[simp] theorem State.flushOwed_pwr : s.flushOwed.pwr = s.pwr := by rw [s.flushOwed_frame]

@[simp] theorem State.ringTrain_pwr : s.ringTrain.pwr = s.pwr := by
  unfold State.ringTrain
  exact forAll_pwr (fun up x => by simp [State.setLink]) _ _

/-! The pins of CORE as they are released (R600). -/

@[simp] theorem State.raiseFlags_pwr (n : Fin 16) (m o c : Bool) : (s.raiseFlags n m o c).pwr = s.pwr := by
  unfold State.raiseFlags
  simp

@[simp] theorem State.timerRound_pwr (n : Fin 16) : (s.timerRound n).pwr = s.pwr := by
  unfold State.timerRound State.roundStart
  simp

@[simp] theorem State.tick_pwr (n : Fin 16) : (s.tick n).pwr = s.pwr := by
  unfold State.tick
  simp

@[simp] theorem State.capture_pwr (n : Fin 16) : (s.capture n).pwr = s.pwr := by
  unfold State.capture
  simp

@[simp] theorem State.signalEdges_pwr (src k old new : Nat) : (s.signalEdges src k old new).pwr = s.pwr := by
  unfold State.signalEdges State.signalEdge
  simp

@[simp] theorem State.tickAll_pwr (clk : Nat) (p : State → Fin 16 → Bool) : (s.tickAll clk p).pwr = s.pwr := by
  unfold State.tickAll
  simp

@[simp] theorem State.pinTriggers_pwr (ch v : Nat) : (s.pinTriggers ch v).pwr = s.pwr := by
  unfold State.pinTriggers State.trigger State.skipTrigger
  simp

@[simp] theorem State.drivePins_pwr : s.drivePins.pwr = s.pwr := by
  unfold State.drivePins State.setPins
  simp

/-- Only the pads of a rod bank start commands as they are released. -/
theorem State.freePads_pwr {d : Domain} (ha : d ≠ .hfa) (hb : d ≠ .hfb) : (s.freePads d).pwr = s.pwr := by
  have freed : ∀ x : State, (x.padsFreed d).pwr = x.pwr := fun x => by cases d <;> simp [State.padsFreed] at ha hb ⊢
  simp [State.freePads, freed]

/-! Events that waited for BOARD (R670). -/

@[simp] theorem State.stageEvent_pwr (e : Event) : (s.stageEvent e).pwr = s.pwr := by rw [s.stageEvent_frame]

@[simp] theorem State.sealTile_pwr (t : Fin 64) : (s.sealTile t).pwr = s.pwr := rfl

@[simp] theorem State.commitPair_pwr (t : Fin 64) (e : Event) : (s.commitPair t e).pwr = s.pwr := rfl

@[simp] theorem State.stall_pwr : s.stall.pwr = s.pwr := by
  unfold State.stall
  simp

@[simp] theorem State.roomFor_pwr (k : Nat) : (s.roomFor k).1.pwr = s.pwr := by
  unfold State.roomFor
  dsimp only
  repeat' split
  all_goals simp

@[simp] theorem State.commitEvents_pwr (k : Nat) : (State.commitEvents k s).pwr = s.pwr := by
  induction k generalizing s with
  | zero => rfl
  | succ k ih =>
    unfold State.commitEvents
    split
    · rfl
    · split
      · rfl
      · split
        all_goals
          rename_i room
          have kept := s.roomFor_pwr 2
          rw [room] at kept
          simpa [ih] using kept

@[simp] theorem State.releaseHeld_pwr : s.releaseHeld.pwr = s.pwr := by
  unfold State.releaseHeld State.settleEvents
  simp

@[simp] theorem State.sealOpen_pwr : s.sealOpen.pwr = s.pwr := onSome_keeps State.pwr (fun t x => x.sealTile_pwr t) _ _

@[simp] theorem State.agedSeal_pwr : s.agedSeal.pwr = s.pwr := by
  unfold State.agedSeal
  simp

/-! ### Domains coming ON (R43, R580, R600, R670) -/

@[simp] theorem State.deriveKek_pwr : s.deriveKek.pwr = s.pwr := rfl

/-- The state of each domain after one of them is set. -/
theorem State.setPst_pst (d e : Domain) (p : PState) : (s.setPst d p).pst e = if e = d then p else s.pst e := by
  unfold State.setPst State.pst
  by_cases h : e = d
  · rw [if_pos h, h]
    exact vget_vset_self _ _ _
  · rw [if_neg h]
    exact vget_vset_ne _ _ (fun k => h (Domain.num_inj k).symm)

theorem State.pst_congr {s t : State} (h : t.pwr = s.pwr) (d : Domain) : t.pst d = s.pst d := by unfold State.pst; rw [h]

/-- The domains that start-up wakes. -/
def startupDomains : List Domain := [.core, .keys, .plan, .board, .crypto, .host, .ring]

/-- A domain that comes ON from OFF while start-up is in progress: of the power controller only its state changes, and
the time that CORE was away. -/
theorem State.comeOn_pwr {d : Domain} (hd : d ∈ startupDomains) (hs : s.pwr.step ≠ 0) : (s.comeOn d .off).pwr =
    { s.pwr with st := vset s.pwr.st d.num .on, coreAway := if d = .core then 0 else s.pwr.coreAway } := by
  have free : ∀ x : State, (x.freePads d).pwr = x.pwr := fun x => x.freePads_pwr (by rintro rfl; simp [startupDomains] at hd)
    (by rintro rfl; simp [startupDomains] at hd)
  have unreported : (s.pwr.unreported != 0 && s.pwr.step == 0) = false := by simp [hs]
  simp only [startupDomains, List.mem_cons, List.not_mem_nil, or_false] at hd
  unfold State.comeOn
  dsimp only
  rw [ite_pwr, free, ite_self]
  rcases hd with rfl | rfl | rfl | rfl | rfl | rfl | rfl <;> simp [unreported, State.setPst, State.modPwr]
theorem State.comeOn_pst {d : Domain} (hd : d ∈ startupDomains) (hs : s.pwr.step ≠ 0) (e : Domain) :
    (s.comeOn d .off).pst e = if e = d then .on else s.pst e := by
  rw [← s.setPst_pst d e .on]
  unfold State.pst
  rw [s.comeOn_pwr hd hs]
  rfl

theorem State.comeOn_step {d : Domain} (hd : d ∈ startupDomains) (hs : s.pwr.step ≠ 0) :
    (s.comeOn d .off).pwr.step = s.pwr.step := by rw [s.comeOn_pwr hd hs]

theorem State.wakeOver_transit {d : Domain} {ds : List Domain} (h : s.pst d = .transit) :
    s.wakeOver (d :: ds) = (s.comeOn d .off).wakeOver ds := by
  unfold State.wakeOver
  rw [forAll_cons, if_pos h]

theorem State.wakeOver_nil : s.wakeOver [] = s := rfl

theorem State.wakeOver_pst {d : Domain} (hd : d ∈ startupDomains) (hs : s.pwr.step ≠ 0) (e : Domain) :
    (s.wakeOver [d]).pst e = if e = d ∧ s.pst d = .transit then .on else s.pst e := by
  by_cases h : s.pst d = .transit
  · rw [s.wakeOver_transit h, State.wakeOver_nil, s.comeOn_pst hd hs]
    simp [h]
  · have : s.wakeOver [d] = s := by simp [State.wakeOver, h]
    rw [this]
    simp [h]

theorem State.goStep_pst (k : Nat) (d : Domain) : (s.goStep k).pst d = s.pst d := rfl

theorem State.goStep_step (k : Nat) : (s.goStep k).pwr.step = k := rfl

theorem State.beginWake_pst (ds : List Domain) (e : Domain) :
    (s.beginWake ds).pst e = if e ∈ ds then .transit else s.pst e := by
  unfold State.beginWake
  induction ds generalizing s with
  | nil => simp
  | cons d ds ih =>
    rw [forAll_cons, ih, State.setPst_pst]
    by_cases h : e = d <;> simp [h]

/-! ### Steps 1, 2 and 4 to 8 (R608) -/

theorem exec_startupAdvance (inp : StartInput) : exec (.startupAdvance inp) s =
    .next (if s.pwr.halted then s else s.advanceStep inp) := rfl

theorem startupAdvance_going (inp : StartInput) (h : s.pwr.halted = false) :
    exec (.startupAdvance inp) s = .next (s.advanceStep inp) := by
  rw [exec_startupAdvance, h]
  rfl

theorem advanceStep_over (inp : StartInput) (h : s.pwr.step = 0 ∨ 12 < s.pwr.step) : s.advanceStep inp = s := by
  unfold State.advanceStep
  split
  case h_13 => rfl
  all_goals omega

section
variable {s} (inp : StartInput)

theorem advanceStep_one (h : s.pwr.step = 1) : s.advanceStep inp =
    ((s.modPwr (fun p => { p with xtal27 := true })).beginWake [.core]).goStep 2 := by
  simp only [State.advanceStep, h]

theorem advanceStep_two (h : s.pwr.step = 2) : s.advanceStep inp = (s.wakeOver [.core]).goStep 3 := by
  simp only [State.advanceStep, h]

theorem advanceStep_three (h : s.pwr.step = 3) : s.advanceStep inp = s.otpStep inp := by
  simp only [State.advanceStep, h]

theorem advanceStep_four (h : s.pwr.step = 4) : s.advanceStep inp =
    ((s.wakeOver [.keys]).beginWake [.plan, .board]).goStep 5 := by
  simp only [State.advanceStep, h]

theorem advanceStep_five (h : s.pwr.step = 5) : s.advanceStep inp =
    ((s.wakeOver [.plan, .board]).beginWake [.crypto]).goStep 6 := by
  simp only [State.advanceStep, h]

theorem advanceStep_six (h : s.pwr.step = 6) : s.advanceStep inp =
    ((s.wakeOver [.crypto]).beginWake s.wakesHost).goStep 7 := by
  simp only [State.advanceStep, h]

theorem advanceStep_seven (h : s.pwr.step = 7) : s.advanceStep inp =
    ((s.wakeOver [.host]).beginWake s.wakesRing).goStep 8 := by
  simp only [State.advanceStep, h]

theorem advanceStep_eight (h : s.pwr.step = 8) : s.advanceStep inp = ((s.wakeOver [.ring]).goStep 9).serialNext := by
  simp only [State.advanceStep, h]

theorem advanceStep_nine (h : s.pwr.step = 9) : s.advanceStep inp =
    if s.serial.load then ((s.sfdpRead inp.sfdp).goStep 10).serialNext else s := by
  simp only [State.advanceStep, h]

theorem advanceStep_ten (h : s.pwr.step = 10) : s.advanceStep inp =
    if s.serial.load then ((s.loadOver inp.image).headerRead inp.image).serialNext else s := by
  simp only [State.advanceStep, h]

theorem advanceStep_eleven_empty (h : s.pwr.step = 11) (ht : s.pwr.imageTiles = []) : s.advanceStep inp = s.goStep 12 := by
  simp only [State.advanceStep, h, ht]

theorem advanceStep_eleven {e : Nat × Nat × Word} {rest : List (Nat × Nat × Word)} (h : s.pwr.step = 11)
    (ht : s.pwr.imageTiles = e :: rest) : s.advanceStep inp =
    if s.serial.load then
      ((((s.loadOver inp.tile).imageTileRead e inp.tile).modPwr (fun p => { p with imageTiles := rest })).goStep
        (if rest.isEmpty then 12 else 11)).serialNext
    else s := by
  simp only [State.advanceStep, h, ht]

theorem advanceStep_twelve (h : s.pwr.step = 12) :
    s.advanceStep inp = State.applyRegs (s.pwr.imageRegs.length + 1) s := by
  simp only [State.advanceStep, h]

end

/-! What steps 2 and 4 to 8 do to the states of the domains. -/

section
variable {s} (inp : StartInput)

theorem advanceStep_two_on (h : s.pwr.step = 2) (hc : s.pst .core = .transit) :
    s.advanceStep inp = (s.comeOn .core .off).goStep 3 ∧
      ∀ d, (s.advanceStep inp).pst d = if d = .core then .on else s.pst d := by
  have he : s.advanceStep inp = (s.comeOn .core .off).goStep 3 := by
    rw [advanceStep_two inp h, s.wakeOver_transit hc, State.wakeOver_nil]
  refine ⟨he, fun d => ?_⟩
  rw [he, State.goStep_pst, s.comeOn_pst (by decide) (by omega)]

theorem advanceStep_four_on (h : s.pwr.step = 4) (hk : s.pst .keys = .transit) :
    s.advanceStep inp = (((s.comeOn .keys .off).setPst .plan .transit).setPst .board .transit).goStep 5 ∧
      ∀ d, (s.advanceStep inp).pst d = if d = .keys then .on else if d = .plan ∨ d = .board then .transit else s.pst d := by
  have he : s.advanceStep inp = ((s.comeOn .keys .off).beginWake [.plan, .board]).goStep 5 := by
    rw [advanceStep_four inp h, s.wakeOver_transit hk, State.wakeOver_nil]
  refine ⟨he, fun d => ?_⟩
  rw [he, State.goStep_pst, State.beginWake_pst, s.comeOn_pst (by decide) (by omega)]
  cases d <;> rfl

theorem advanceStep_five_on (h : s.pwr.step = 5) (hp : s.pst .plan = .transit) (hb : s.pst .board = .transit) :
    s.advanceStep inp = (((s.comeOn .plan .off).comeOn .board .off).setPst .crypto .transit).goStep 6 ∧
      ∀ d, (s.advanceStep inp).pst d =
        if d = .plan ∨ d = .board then .on else if d = .crypto then .transit else s.pst d := by
  have step : (s.comeOn .plan .off).pwr.step ≠ 0 := by rw [s.comeOn_step (by decide) (by omega)]; omega
  have board : (s.comeOn .plan .off).pst .board = .transit := by rw [s.comeOn_pst (by decide) (by omega)]; exact hb
  have he : s.advanceStep inp = (((s.comeOn .plan .off).comeOn .board .off).beginWake [.crypto]).goStep 6 := by
    rw [advanceStep_five inp h, s.wakeOver_transit hp, State.wakeOver_transit _ board, State.wakeOver_nil]
  refine ⟨he, fun d => ?_⟩
  rw [he, State.goStep_pst, State.beginWake_pst, State.comeOn_pst _ (by decide) step, s.comeOn_pst (by decide) (by omega)]
  cases d <;> rfl

theorem advanceStep_six_on (h : s.pwr.step = 6) (hc : s.pst .crypto = .transit) (d : Domain) :
    (s.advanceStep inp).pst d = if d = .crypto then .on
      else if d = .host ∧ (s.sys.role = .head ∨ s.sys.role = .standalone) then .transit else s.pst d := by
  rw [advanceStep_six inp h, State.goStep_pst, State.beginWake_pst, s.wakeOver_pst (by decide) (by omega)]
  unfold State.wakesHost State.beamMaster
  cases d <;> cases s.sys.role <;> simp [hc]

theorem advanceStep_seven_on (h : s.pwr.step = 7) (d : Domain) :
    (s.advanceStep inp).pst d = if d = .host ∧ s.pst .host = .transit then .on
      else if d = .ring ∧ (s.sys.role = .head ∨ s.sys.role = .satellite) then .transit else s.pst d := by
  rw [advanceStep_seven inp h, State.goStep_pst, State.beginWake_pst, s.wakeOver_pst (by decide) (by omega)]
  unfold State.wakesRing State.ringRole
  cases d <;> cases s.sys.role <;> simp

theorem advanceStep_eight_on (h : s.pwr.step = 8) :
    (s.advanceStep inp).pwr.step = 9 ∧
      ∀ d, (s.advanceStep inp).pst d = if d = .ring ∧ s.pst .ring = .transit then .on else s.pst d := by
  rw [advanceStep_eight inp h]
  refine ⟨by rw [State.serialNext_pwr, State.goStep_step], fun d => ?_⟩
  rw [State.pst_congr (State.serialNext_pwr _), State.goStep_pst, s.wakeOver_pst (by decide) (by omega)]

end
end Sys2Proof.Machine
end

section
/-! PROOFS. O5: the OTP load and the start-up self-test, step 3. -/

namespace Sys2Proof.Machine
open Sys2Proof

variable (s : State)

/-! ### The start-up self-test and the OTP load: step 3 (R3, R608, R612, R624, R625) -/

theorem State.forAll_pst (p : PState) (l : List Domain) (e : Domain) :
    (forAll l (fun (d : Domain) (s : State) => s.setPst d p) s).pst e = if e ∈ l then p else s.pst e := by
  induction l generalizing s with
  | nil => simp
  | cons d l ih =>
    rw [forAll_cons, ih, State.setPst_pst]
    by_cases h : e = d <;> simp [h]

@[simp] theorem State.coreLost_pwr : s.coreLost.pwr = s.pwr := rfl

/-- What a domain loses is not in the power controller. -/
theorem State.domainLost_pwr (d : Domain) : (s.domainLost d).pwr = s.pwr := by
  unfold State.domainLost
  cases d <;> dsimp only
  case host => rw [s.hostReset_frame]
  case hfa | hfb => simp
  all_goals rfl

theorem State.domainLost_otpMem (d : Domain) : (s.domainLost d).otpMem = s.otpMem := by
  unfold State.domainLost
  cases d <;> dsimp only
  case host => rw [s.hostReset_frame]
  case hfa | hfb => rw [forAll_keeps State.otpMem (fun n x => by simp), State.resetRegs_otpMem]
  all_goals rfl

theorem State.coreLost_rd {f : Fld} {k : Nat} (h : domainOf (f.key k / 32) ≠ .core) : s.coreLost.rd f k = s.rd f k := by
  rw [State.rd_congr (t := s.coreLost) (s := s.resetRegs (fun a => domainOf a == .core)) rfl,
    State.rd_resetRegs]
  simp [h]

/-- Start-up halts: INT_N is held low, CORE is OFF, and what AON holds is kept. -/
structure Halted (s t : State) : Prop where
  halted : t.pwr.halted = true
  int : t.pwr.haltInt = true
  step : t.pwr.step = s.pwr.step
  pst : ∀ d, t.pst d = if d = .core then .off else s.pst d
  otp : t.otp = s.otp
  otpMem : t.otpMem = s.otpMem
  boot : t.test = { s.test with bist := none }
  rd : ∀ (f : Fld) (k : Nat), domainOf (f.key k / 32) ≠ .core → t.rd f k = s.rd f k

theorem State.haltStartup_halted : Halted s s.haltStartup where
  halted := rfl
  int := rfl
  step := rfl
  pst d := s.coreLost.setPst_pst .core d .off
  otp := rfl
  otpMem := rfl
  boot := rfl
  rd _ _ h := s.coreLost_rd h

/-- Writing CLK_CFG sets AON_SRC from bit 0, and of the power controller may start the 32 kHz crystal (R603). -/
theorem writeClkCfg_pwr (w : Word) : (writeClkCfg w s).pwr = { s.pwr with xtal32 := (writeClkCfg w s).pwr.xtal32 } := by
  unfold writeClkCfg
  dsimp only
  split <;> rfl

theorem writeClkCfg_parts (w : Word) : (writeClkCfg w s).otpMem = s.otpMem ∧ (writeClkCfg w s).test = s.test ∧
    (writeClkCfg w s).sys = s.sys := by
  unfold writeClkCfg
  dsimp only
  split <;> exact ⟨rfl, rfl, rfl⟩

theorem writeClkCfg_aonSrc (w : Word) : (writeClkCfg w s).rd F.CLK_CFG_AON_SRC = w.toNat % 2 := by
  unfold writeClkCfg
  dsimp only
  split
  all_goals
    rw [State.rd_wr_ne _ (by decide)]
    refine (State.rd_wr_ne _ (by decide) _).trans ((s.rd_wr_self _ 0 _).trans ?_)
    simp [bits, Fld.size]

/-- What the OTP load leaves: the array as programmed, its copy in AON, and AON_SRC (R603, R612). -/
structure OtpRead (s t : State) (o : Otp) : Prop where
  otp : t.otp = s.otpMem.burnt o
  otpMem : t.otpMem = s.otpMem.burnt o
  pwr : t.pwr = { s.pwr with xtal32 := t.pwr.xtal32 }
  test : t.test = s.test
  sys : t.sys = s.sys
  aonSrc : t.rd F.CLK_CFG_AON_SRC = b2n (s.otpMem.burnt o).aonSrc

theorem State.otpLoaded_read (o : Otp) : OtpRead s (s.otpLoaded o) o := by
  obtain ⟨mem, test, sys⟩ := writeClkCfg_parts { s with otp := s.otpMem.burnt o, otpMem := s.otpMem.burnt o }
    (BitVec.ofNat 32 (b2n (s.otpMem.burnt o).aonSrc + 2 * s.rd F.CLK_CFG_XTAL_KEEP))
  refine ⟨?_, mem, writeClkCfg_pwr _ _, test, sys, (writeClkCfg_aonSrc _ _).trans ?_⟩
  · unfold State.otpLoaded
    dsimp only
    rw [(writeClkCfg_keeps _ _).2.1]
  · cases (s.otpMem.burnt o).aonSrc <;> simp [b2n]

/-! The branches of step 3. -/

section
variable {s} (inp : StartInput)

theorem State.otpStep_run (h : s.test.bootOn = true) : s.otpStep inp = s.bootTest inp := by simp [State.otpStep, h]

theorem State.otpStep_again (h : s.test.bootOn = false) (k : s.pwr.warm = true ∨ s.test.bootDone = true) :
    s.otpStep inp = s.afterOtp := by simp [State.otpStep, h, k]

theorem State.otpStep_cold (h : s.test.bootOn = false) (hw : s.pwr.warm = false) (hd : s.test.bootDone = false) :
    s.otpStep inp =
      if (s.otpLoaded inp.otp).otp.bistStartup && (s.otpLoaded inp.otp).sys.role != .reserved then
        ((s.otpLoaded inp.otp).beginWake ((bootPositions (s.otpLoaded inp.otp).sys.role).headD [])).modTest (fun t =>
          { t with bootOn := true, bootWake := bootPositions (s.otpLoaded inp.otp).sys.role })
      else (s.otpLoaded inp.otp).afterOtp := by simp [State.otpStep, h, hw, hd]

theorem State.afterOtp_wakes (h : s.pwr.warm = true ∨ s.sys.role ≠ .reserved) :
    s.afterOtp = (s.beginWake [.keys]).goStep 4 := by
  unfold State.afterOtp
  rw [if_neg]
  rcases h with h | h <;> simp [h]

theorem State.afterOtp_halts (hw : s.pwr.warm = false) (hr : s.sys.role = .reserved) : s.afterOtp = s.haltStartup := by
  simp [State.afterOtp, hw, hr]

/-- A cold start in a role that is not reserved, without a start-up run: KEYS wakes. -/
theorem State.otpStep_wakes (h : s.test.bootOn = false) (hw : s.pwr.warm = false) (hd : s.test.bootDone = false)
    (hb : (s.otpMem.burnt inp.otp).bistStartup = false) (hr : s.sys.role ≠ .reserved) :
    s.otpStep inp = ((s.otpLoaded inp.otp).beginWake [.keys]).goStep 4 := by
  have hl := s.otpLoaded_read inp.otp
  rw [State.otpStep_cold inp h hw hd, hl.otp, hb, Bool.false_and, if_neg Bool.false_ne_true,
    State.afterOtp_wakes (.inr (by rw [hl.sys]; exact hr))]

/-- A cold start in the reserved role: start-up halts. -/
theorem State.otpStep_halts (h : s.test.bootOn = false) (hw : s.pwr.warm = false) (hd : s.test.bootDone = false)
    (hr : s.sys.role = .reserved) : s.otpStep inp = (s.otpLoaded inp.otp).haltStartup := by
  have hl := s.otpLoaded_read inp.otp
  rw [State.otpStep_cold inp h hw hd, hl.sys, hr, if_neg (by simp),
    State.afterOtp_halts (by rw [hl.pwr]; exact hw) (by rw [hl.sys]; exact hr)]

/-- A cold start with the start-up run enabled: its first domains wake. -/
theorem State.otpStep_boots (h : s.test.bootOn = false) (hw : s.pwr.warm = false) (hd : s.test.bootDone = false)
    (hb : (s.otpMem.burnt inp.otp).bistStartup = true) (hr : s.sys.role ≠ .reserved) :
    s.otpStep inp = ((s.otpLoaded inp.otp).beginWake ((bootPositions s.sys.role).headD [])).modTest (fun t =>
      { t with bootOn := true, bootWake := bootPositions s.sys.role }) := by
  have hl := s.otpLoaded_read inp.otp
  rw [State.otpStep_cold inp h hw hd, hl.otp, hb, hl.sys, if_pos (by simpa using hr)]

end

/-! The start-up run (R624, R625). -/

theorem State.beginWake_frame (ds : List Domain) :
    s.beginWake ds = { s with pwr := { s.pwr with st := (s.beginWake ds).pwr.st } } := by
  unfold State.beginWake
  induction ds generalizing s with
  | nil => rfl
  | cons d ds ih => rw [forAll_cons, ih]; rfl

theorem State.domainsLost_pst (l : List Domain) (e : Domain) :
    (forAll l (fun (d : Domain) (s : State) => (s.domainLost d).setPst d .off) s).pst e = if e ∈ l then .off else s.pst e := by
  induction l generalizing s with
  | nil => simp
  | cons d l ih =>
    rw [forAll_cons, ih, State.setPst_pst, State.pst_congr (s.domainLost_pwr d)]
    by_cases h : e = d <;> simp [h]

theorem State.domainsLost_halted (l : List Domain) :
    (forAll l (fun (d : Domain) (s : State) => (s.domainLost d).setPst d .off) s).pwr.halted = s.pwr.halted := by
  have lost : ∀ (d : Domain) (x : State), ((x.domainLost d).setPst d .off).pwr.halted = x.pwr.halted :=
    fun d x => by simp [State.setPst, x.domainLost_pwr d]
  exact forAll_keeps (fun x => x.pwr.halted) lost l s

theorem State.setXtal_pst (b : Bool) (e : Domain) : (s.modPwr (fun p => { p with xtal27 := b })).pst e = s.pst e := rfl

theorem State.modTest_pst (f : TestPart → TestPart) (e : Domain) : (s.modTest f).pst e = s.pst e := rfl

theorem State.bootOff_pst (e : Domain) :
    s.bootOff.pst e = if e = .aon then s.pst .aon else if e = .core then .transit else .off := by
  unfold State.bootOff
  dsimp only
  rw [State.goStep_pst, State.beginWake_pst, State.setXtal_pst, s.domainsLost_pst]
  cases e <;> rfl

theorem State.bootOff_halted : s.bootOff.pwr.halted = s.pwr.halted := by
  unfold State.bootOff
  dsimp only [State.goStep, State.modPwr]
  rw [State.beginWake_frame]
  dsimp only
  rw [s.domainsLost_halted]

theorem State.bootOff_step : s.bootOff.pwr.step = 2 := by
  unfold State.bootOff
  exact State.goStep_step _ 2

section
variable {s} (inp : StartInput)

theorem State.bootTest_position {p : List Domain} {rest : List (List Domain)} (h : s.test.bootWake = p :: rest) :
    s.bootTest inp = ((forAll p (fun (d : Domain) (s : State) => s.setPst d .on) s).beginWake (rest.headD [])).modTest (fun t =>
      { t with bootWake := rest }) := by
  simp only [State.bootTest, h]

theorem State.bootTest_waits (h : s.test.bootWake = []) (k : s.bootRunOf inp.results = none) : s.bootTest inp = s := by
  simp only [State.bootTest, h, k]

/-- The state as the domains of the start-up run go OFF again, with the results kept (R624). -/
def State.bootTested (s : State) (b : BistRun) : State :=
  s.bootOff.modTest (fun t => { t with bootRun := some b, bootDone := true, bootOn := false })

theorem State.bootTest_over {b : BistRun} (h : s.test.bootWake = []) (k : s.bootRunOf inp.results = some b) :
    s.bootTest inp = if b.anyFail && s.otp.bistHalt then (s.bootTested b).haltStartup else s.bootTested b := by
  have otp : (s.bootTested b).otp = s.otp := by rw [State.bootTested, State.modTest_otp, s.bootOff_keeps.2]
  simp only [State.bootTest, h, k]
  rw [← otp, State.bootTested]

theorem State.forAll_setPst_frame (p : PState) (l : List Domain) (s : State) :
    forAll l (fun (d : Domain) (s : State) => s.setPst d p) s =
      { s with pwr := { s.pwr with st := (forAll l (fun (d : Domain) (s : State) => s.setPst d p) s).pwr.st } } := by
  induction l generalizing s with
  | nil => rfl
  | cons d l ih => rw [forAll_cons, ih]; rfl

/-- A position of the start-up run is over: its domains are ON and the next ones wake. -/
theorem State.bootTest_on {p : List Domain} {rest : List (List Domain)} (h : s.test.bootWake = p :: rest) :
    (s.bootTest inp).test = { s.test with bootWake := rest } ∧ (s.bootTest inp).pwr.step = s.pwr.step ∧
      ∀ d, (s.bootTest inp).pst d = if d ∈ rest.headD [] then .transit else if d ∈ p then .on else s.pst d := by
  rw [State.bootTest_position inp h]
  refine ⟨?_, ?_, fun d => ?_⟩
  · rw [State.beginWake_frame, State.forAll_setPst_frame]; rfl
  · rw [State.beginWake_frame, State.forAll_setPst_frame]; rfl
  · refine (State.beginWake_pst _ _ d).trans ?_
    rw [State.forAll_pst]

end

/-- What the end of the start-up run leaves (R624, R625). -/
structure BootOver (s t : State) (b : BistRun) : Prop where
  run : t.test.bootRun = some b
  done : t.test.bootDone = true
  on : t.test.bootOn = false
  otp : t.otp = s.otp
  step : t.pwr.step = 2
  halted : t.pwr.halted = (b.anyFail && s.otp.bistHalt)
  pst : ∀ d, t.pst d = if d = .aon then s.pst .aon else if d = .core ∧ (b.anyFail && s.otp.bistHalt) = false then .transit
    else .off

theorem State.bootTest_bootOver (inp : StartInput) {b : BistRun} (hh : s.pwr.halted = false) (h : s.test.bootWake = [])
    (k : s.bootRunOf inp.results = some b) : BootOver s (s.bootTest inp) b := by
  have otp : (s.bootTested b).otp = s.otp := by rw [State.bootTested, State.modTest_otp, s.bootOff_keeps.2]
  have pwr : (s.bootTested b).pwr = s.bootOff.pwr := by rw [State.bootTested, State.modTest_pwr]
  have test : (s.bootTested b).test = { s.bootOff.test with bootRun := some b, bootDone := true, bootOn := false } := by
    rw [State.bootTested, State.modTest_test]
  rw [State.bootTest_over inp h k]
  cases fails : b.anyFail && s.otp.bistHalt with
  | true =>
    have ht := (s.bootTested b).haltStartup_halted
    rw [if_pos rfl]
    refine ⟨by rw [ht.boot, test], by rw [ht.boot, test], by rw [ht.boot, test], by rw [ht.otp, otp],
      by rw [ht.step, pwr, s.bootOff_step], by rw [ht.halted, fails], fun d => ?_⟩
    rw [ht.pst, State.pst_congr pwr, s.bootOff_pst, fails]
    cases d <;> rfl
  | false =>
    rw [if_neg Bool.false_ne_true]
    refine ⟨by rw [test], by rw [test], by rw [test], otp, by rw [pwr, s.bootOff_step], by rw [pwr, s.bootOff_halted, hh, fails],
      fun d => ?_⟩
    rw [State.pst_congr pwr, s.bootOff_pst, fails]
    cases d <;> rfl

end Sys2Proof.Machine
end

section
/-! PROOFS. O5: what a load from the flash changes, steps 9 to 11. -/

namespace Sys2Proof.Machine
open Sys2Proof

variable (s : State)

/-! ### Loads from the flash: steps 9 to 11 (R493, R494, R610, R611, R669) -/

/-- `t` differs from `s` at most in what goes out and in the CRC units with the values drawn for them. -/
def CrcOnly (s t : State) : Prop := t = { s with out := t.out, crc := t.crc, sys := t.sys }

theorem CrcOnly.refl : CrcOnly s s := rfl

theorem CrcOnly.trans {s t u : State} (h : CrcOnly s t) (g : CrcOnly t u) : CrcOnly s u := by
  unfold CrcOnly at *
  rw [g, h]

theorem CrcOnly.forAll {α : Type} {f : α → State → State} (h : ∀ a x, CrcOnly x (f a x)) (l : List α) :
    CrcOnly s (forAll l f s) := forAll_inv (CrcOnly s) (fun a x hx => hx.trans (h a x)) l s (CrcOnly.refl s)

theorem State.crcQuiet_crcOnly (stream : Nat) : CrcOnly s (s.crcQuiet stream) :=
  CrcOnly.forAll s (fun u x => by split <;> rfl) _

theorem State.crcFeed_crcOnly (stream : Nat) (l : List Byte) : CrcOnly s (s.crcFeed stream l) := by
  refine CrcOnly.forAll s (fun u x => ?_) _
  repeat' split
  all_goals rfl

theorem State.dataOut_crcOnly (cs : Nat) (h : SpiHead) (read : Bool) (l : List Byte) : CrcOnly s (s.dataOut cs h read l) := by
  unfold State.dataOut
  split
  · exact s.crcQuiet_crcOnly _
  · have out : CrcOnly s (s.emitOut (.spiData cs l (h.dataIo read l))) := rfl
    exact out.trans (State.crcFeed_crcOnly _ _ _)

/-- A load's frame is over: it is counted, and nothing but the serial master, the CRC units and what goes out changes. -/
structure LoadEnded (s t : State) : Prop where
  frame : t = { s with regs := t.regs, serial := t.serial, out := t.out, crc := t.crc, sys := t.sys }
  regs : t.regs = (s.count F.SPI_CNT_FRAME_COUNT).regs

theorem State.loadOver_ended (b : List Byte) (h : s.loadFrame.isSome = true) : LoadEnded s (s.loadOver b) := by
  unfold State.loadOver
  obtain ⟨f, hf⟩ := Option.isSome_iff_exists.mp h
  rw [hf]
  dsimp only
  have hd := State.dataOut_crcOnly ((s.modSerial (fun x => { x with load := false })).count F.SPI_CNT_FRAME_COUNT)
    f.1 f.2.2.head true b
  constructor
  · rw [hd]; rfl
  · rw [hd]; rfl

section
variable {s} {t : State}

theorem LoadEnded.pwr (h : LoadEnded s t) : t.pwr = s.pwr := by rw [h.frame]

theorem LoadEnded.planMem (h : LoadEnded s t) : t.planMem = s.planMem := by rw [h.frame]

theorem LoadEnded.rd (h : LoadEnded s t) {f : Fld} {k : Nat} (hk : F.SPI_CNT_FRAME_COUNT.key 0 ≠ f.key k) :
    t.rd f k = s.rd f k := by
  rw [State.rd_congr h.regs, State.count, State.rd_wr_ne _ hk]

theorem LoadEnded.counted (h : LoadEnded s t) :
    t.rd F.SPI_CNT_FRAME_COUNT = (s.rd F.SPI_CNT_FRAME_COUNT + 1) % F.SPI_CNT_FRAME_COUNT.size := by
  rw [State.rd_congr h.regs, State.count, State.rd_wr_self]

theorem LoadEnded.referenced (h : LoadEnded s t) (k : Fin 16) : t.referenced k = s.referenced k := by
  have rods : t.rods = s.rods := by rw [h.frame]
  have round : t.round = s.round := by rw [h.frame]
  have board : t.board = s.board := by rw [h.frame]
  unfold State.referenced State.flag State.isDedupTile State.planTile
  rw [rods, round, board, h.rd (by decide), h.rd (by decide), h.rd (by decide), h.rd (by decide)]

end

/-- At steps 9 to 11 start-up has a frame to read. -/
theorem State.loadFrame_isSome (h : s.pwr.step = 9 ∨ s.pwr.step = 10 ∨ (s.pwr.step = 11 ∧ s.pwr.imageTiles ≠ [])) :
    s.loadFrame.isSome = true := by
  unfold State.loadFrame
  rcases h with h | h | ⟨h, ht⟩
  · simp [h]
  · simp [h]
  · cases hl : s.pwr.imageTiles with
    | nil => exact absurd hl ht
    | cons e l => simp [h]

theorem State.serialNext_rd {f : Fld} {k : Nat} (h : f.key k ≠ F.SPI_CNT_RETRY_COUNT.key 0) :
    s.serialNext.rd f k = s.rd f k := s.serialNext_serialOnly.rd h

/-! Step 9. -/

theorem State.sfdpRead_found {b : List Byte} {f : Flash} (h : Flash.ofSfdp b = some f) :
    s.sfdpRead b = (s.loadOver b).modPwr (fun p => { p with flash := f }) := by
  simp only [State.sfdpRead, h]

theorem State.sfdpRead_failed {b : List Byte} (h : Flash.ofSfdp b = none) : s.sfdpRead b =
    ((s.loadOver b).modPwr (fun p => { p with flash := Flash.plain })).setF F.SYS_BOOT_STAT_SFDP_FAIL := by
  simp only [State.sfdpRead, h]

theorem State.sfdpRead_pwr (b : List Byte) (h : s.loadFrame.isSome = true) :
    (s.sfdpRead b).pwr = { s.pwr with flash := (Flash.ofSfdp b).getD Flash.plain } := by
  have hl := (s.loadOver_ended b h).pwr
  cases hf : Flash.ofSfdp b with
  | none => rw [s.sfdpRead_failed hf, State.setF_pwr, State.modPwr_pwr, hl]; rfl
  | some f => rw [s.sfdpRead_found hf, State.modPwr_pwr, hl]; rfl

theorem State.sfdpRead_rd (b : List Byte) {f : Fld} {k : Nat} (h : F.SYS_BOOT_STAT_SFDP_FAIL.key 0 ≠ f.key k) :
    (s.sfdpRead b).rd f k = (s.loadOver b).rd f k := by
  cases hf : Flash.ofSfdp b with
  | none => rw [s.sfdpRead_failed hf, State.setF, State.rd_wr_ne _ h]; rfl
  | some g => rw [s.sfdpRead_found hf]; rfl

theorem State.sfdpRead_fail (b : List Byte) (h : s.loadFrame.isSome = true) : (s.sfdpRead b).flag F.SYS_BOOT_STAT_SFDP_FAIL =
    if (Flash.ofSfdp b).isNone then true else s.flag F.SYS_BOOT_STAT_SFDP_FAIL := by
  cases hf : Flash.ofSfdp b with
  | none =>
    rw [s.sfdpRead_failed hf]
    exact State.flag_setF_self _ (by decide) 0
  | some g =>
    rw [s.sfdpRead_found hf]
    have kept := (s.loadOver_ended b h).rd (f := F.SYS_BOOT_STAT_SFDP_FAIL) (k := 0) (by decide)
    exact congrArg (· != 0) kept

/-! Step 10. -/

theorem State.headerRead_noImage {b : List Byte} (h : leNat (b.take 4) ≠ 0x4B544C32) :
    s.headerRead b = (s.setF F.SYS_BOOT_STAT_NO_IMAGE).goStep 12 := by
  unfold State.headerRead
  rw [if_pos (by simpa using h)]

theorem State.headerRead_badImage {b : List Byte} (h : leNat (b.take 4) = 0x4B544C32) (g : imageGood b = false) :
    s.headerRead b = (s.setF F.SYS_BOOT_STAT_BAD_IMAGE).goStep 12 := by
  unfold State.headerRead
  split
  next hn => exact absurd h (bne_iff_ne.mp hn)
  next => rw [g, Bool.not_false, if_pos rfl]

theorem State.headerRead_good {b : List Byte} (h : leNat (b.take 4) = 0x4B544C32) (g : imageGood b = true) :
    s.headerRead b = s.modPwr (fun p => { p with
      imageTiles := (List.range (byteAt b 4)).map (imageTile b),
      imageRegs := (List.range (leNat ((b.drop 6).take 2))).map (imageReg b (leNat ((b.drop 8).take 4))),
      step := if byteAt b 4 = 0 then 12 else 11 }) := by
  unfold State.headerRead
  split
  next hn => exact absurd h (bne_iff_ne.mp hn)
  next => simp [g, State.goStep, State.modPwr]

/-! Step 11. -/

theorem State.endLoad_good {k : Fin 16} {c : Word} (h : crc32c (Memory.tile s.planMem k.val) = c) :
    s.endLoad k c = (s.modPlanTile k (fun x => { x with st := .ready, crc := c }), true) := by
  unfold State.endLoad
  rw [if_pos h]

theorem State.endLoad_bad {k : Fin 16} {c : Word} (h : crc32c (Memory.tile s.planMem k.val) ≠ c) :
    s.endLoad k c = (s.planTileOut k, false) := by
  unfold State.endLoad
  rw [if_neg h]

section
variable {s} {e : Nat × Nat × Word} {bytes : List Byte}

theorem State.imageTileRead_kept (h : s.referenced (ix 15 e.1) = true) : s.imageTileRead e bytes = s := by
  unfold State.imageTileRead
  dsimp only
  rw [if_pos h]

theorem State.imageTileRead_good {u : State} (hu : u = s.fillPlanTile (ix 15 e.1) (padTo tileBytes bytes))
    (h : s.referenced (ix 15 e.1) = false) (c : crc32c (Memory.tile u.planMem (ix 15 e.1).val) = e.2.2) :
    s.imageTileRead e bytes = (u.modPlanTile (ix 15 e.1) (fun x => { x with st := .ready, crc := e.2.2 })).wr
      F.SYS_BOOT_STAT_LOADED 0 (u.rd F.SYS_BOOT_STAT_LOADED ||| 2 ^ (ix 15 e.1).val) := by
  unfold State.imageTileRead
  dsimp only
  rw [if_neg (by simp [h]), ← hu, u.endLoad_good c]
  rfl

theorem State.imageTileRead_bad {u : State} (hu : u = s.fillPlanTile (ix 15 e.1) (padTo tileBytes bytes))
    (h : s.referenced (ix 15 e.1) = false) (c : crc32c (Memory.tile u.planMem (ix 15 e.1).val) ≠ e.2.2) :
    s.imageTileRead e bytes = (u.planTileOut (ix 15 e.1)).settleDoom := by
  unfold State.imageTileRead
  dsimp only
  rw [if_neg (by simp [h]), ← hu, u.endLoad_bad c]

end

theorem State.modPlanTile_planTile (k : Fin 16) (f : PlanTile → PlanTile) :
    (s.modPlanTile k f).planTile k = f (s.planTile k) := vget_vmod_self _ _ _

/-- A plan tile goes out of service. -/
theorem State.planTileOut_st (k : Fin 16) : ((s.planTileOut k).planTile k).st = .out := by
  unfold State.planTileOut State.doomPlans State.planTile
  dsimp only
  rw [State.raise_frame]
  exact congrArg PlanTile.st (s.modPlanTile_planTile k _)

theorem State.planTileOut_loaded (k : Fin 16) :
    (s.planTileOut k).rd F.SYS_BOOT_STAT_LOADED = s.rd F.SYS_BOOT_STAT_LOADED := by
  unfold State.planTileOut
  refine (State.raise_rd _ _ _ _ _ _ (by decide)).trans ?_
  exact State.rd_wr_ne _ (by decide) _

/-- LOADED takes the bit of a tile. -/
theorem testBit_or_pow (v : Nat) {k n : Nat} (h : k < n) : ((v ||| 2 ^ k) % 2 ^ n).testBit k = true := by
  simp [Nat.testBit_mod_two_pow, h]

end Sys2Proof.Machine
end

section
/-! PROOFS. O5: the register list and the end of start-up, step 12. -/

namespace Sys2Proof.Machine
open Sys2Proof

variable (s : State)

/-! ### The register list and the end of start-up: step 12 (R606, R611, R625) -/

section
variable {s}

theorem State.applyRegs_waits (h : s.pwr.run.isSome = true ∨ s.pwr.step ≠ 12) (k : Nat) : State.applyRegs k s = s := by
  cases k with
  | zero => rfl
  | succ k =>
    unfold State.applyRegs
    rw [if_pos]
    rcases h with h | h <;> simp [h]

theorem State.applyRegs_end (hr : s.pwr.run = none) (hs : s.pwr.step = 12) (hl : s.pwr.imageRegs = []) (k : Nat) :
    State.applyRegs (k + 1) s = s.startupDone := by
  simp [State.applyRegs, hr, hs, hl]

/-- The state after entry `(a, v)` of the register list: applied, or dropped in the host range (R611). -/
def State.entryApplied (s : State) (a v : Nat) (rest : List (Nat × Nat)) : State :=
  let s1 : State := { s with pwr := { s.pwr with imageRegs := rest } }
  if 0x1000 ≤ a ∧ a < 0x3000 then s1 else s1.regWrite a (BitVec.ofNat 32 v) false

theorem State.applyRegs_entry (hr : s.pwr.run = none) (hs : s.pwr.step = 12) {a v : Nat} {rest : List (Nat × Nat)}
    (hl : s.pwr.imageRegs = (a, v) :: rest) (k : Nat) :
    State.applyRegs (k + 1) s = State.applyRegs k (s.entryApplied a v rest) := by
  conv => lhs; unfold State.applyRegs
  simp only [hr, hs, hl, State.entryApplied, State.modPwr, Bool.and_eq_true, decide_eq_true_eq, Option.isSome_none, bne_self_eq_false,
    Bool.or_self, Bool.false_eq_true, if_false]

theorem State.startupDone_reports {b : BistRun} (h : s.test.bootRun = some b) :
    s.startupDone = (s.bistReport b 1).modTest (fun t => { t with bootRun := none }) := by
  simp only [State.startupDone, h]

theorem State.startupDone_waits (h : s.test.bootRun = none) (hw : s.bistOnWay = true) : s.startupDone = s := by
  simp [State.startupDone, h, hw]

theorem State.startupDone_over (h : s.test.bootRun = none) (hw : s.bistOnWay = false) :
    s.startupDone = (s.reportReset.setF F.SYS_BOOT_STAT_DONE).modPwr (fun p => { p with step := 0, warm := false }) := by
  simp [State.startupDone, h, hw]

end

theorem State.emit_pwr (q : Fin 25) (rs : List RecordData) (txn : Option Nat) : (s.emit q rs txn).pwr = s.pwr :=
  State.emit_parts State.pwr (fun _ _ _ => rfl) (fun _ _ _ => rfl) (fun _ _ => rfl) (fun _ _ => rfl) (fun _ _ _ => rfl)
    (fun x c u d => x.raise_pwr c u d) s q rs txn

theorem State.bistReport_pwr (b : BistRun) (scope : Nat) : (s.bistReport b scope).pwr = s.pwr := by
  unfold State.bistReport
  simp [State.emit_pwr]

end Sys2Proof.Machine
end

section
/-! PROOFS. O5: the steps of start-up put together. -/

namespace Sys2Proof.Machine
open Sys2Proof

variable (s : State) (inp : StartInput)

/-! ### The steps put together -/

section
variable {s}

/-- Step 3 with OTP left alone: KEYS wakes. -/
theorem otpStep_keysWake (h : s.test.bootOn = false)
    (k : s.pwr.warm = true ∨ (s.test.bootDone = true ∧ s.sys.role ≠ .reserved)) :
    s.otpStep inp = { s with pwr := { s.pwr with step := 4, st := vset s.pwr.st Domain.keys.num .transit } } := by
  rw [State.otpStep_again inp h (k.imp_right And.left), State.afterOtp_wakes (k.imp_right And.right)]
  rfl

/-- Step 3 of a cold start without a start-up run (R3, R603, R608, R612). -/
theorem otpStep_reads (h : s.test.bootOn = false) (hw : s.pwr.warm = false) (hd : s.test.bootDone = false)
    (hh : s.pwr.halted = false) (k : (s.otpMem.burnt inp.otp).bistStartup = false ∨ s.sys.role = .reserved) :
    let t := s.otpStep inp
    t.otp = s.otpMem.burnt inp.otp ∧ t.otpMem = s.otpMem.burnt inp.otp ∧
      t.rd F.CLK_CFG_AON_SRC = b2n (s.otpMem.burnt inp.otp).aonSrc ∧
      (s.sys.role ≠ .reserved → t.pwr.step = 4 ∧ t.pwr.halted = false ∧ ∀ d, t.pst d = if d = .keys then .transit else s.pst d) ∧
      (s.sys.role = .reserved → t.pwr.halted = true ∧ t.pwr.haltInt = true ∧
        ∀ d, t.pst d = if d = .core then .off else s.pst d) := by
  have hl := s.otpLoaded_read inp.otp
  have pst : ∀ d, (s.otpLoaded inp.otp).pst d = s.pst d := fun d => by unfold State.pst; rw [hl.pwr]
  by_cases hr : s.sys.role = .reserved
  · have ht := (s.otpLoaded inp.otp).haltStartup_halted
    rw [State.otpStep_halts inp h hw hd hr]
    refine ⟨ht.otp.trans hl.otp, ht.otpMem.trans hl.otpMem, (ht.rd _ _ (by decide)).trans hl.aonSrc, fun n => absurd hr n,
      fun _ => ⟨ht.halted, ht.int, fun d => ?_⟩⟩
    rw [ht.pst, pst]
  · rw [State.otpStep_wakes inp h hw hd (k.resolve_right hr) hr]
    refine ⟨hl.otp, hl.otpMem, hl.aonSrc, fun _ => ⟨rfl, (congrArg PwrPart.halted hl.pwr).trans hh, fun d => ?_⟩, fun n => absurd n hr⟩
    rw [State.goStep_pst, State.beginWake_pst, pst]
    simp

/-- Step 3 of a cold start with the start-up run enabled (R624). -/
theorem otpStep_startsRun (h : s.test.bootOn = false) (hw : s.pwr.warm = false) (hd : s.test.bootDone = false)
    (hs : s.pwr.step = 3) (hb : (s.otpMem.burnt inp.otp).bistStartup = true) (hr : s.sys.role ≠ .reserved) :
    let t := s.otpStep inp
    t.otp = s.otpMem.burnt inp.otp ∧ t.test.bootOn = true ∧ t.test.bootWake = bootPositions s.sys.role ∧ t.pwr.step = 3 ∧
      ∀ d, t.pst d = if d ∈ (bootPositions s.sys.role).headD [] then .transit else s.pst d := by
  have hl := s.otpLoaded_read inp.otp
  rw [State.otpStep_boots inp h hw hd hb hr]
  refine ⟨?_, rfl, rfl, ?_, fun d => ?_⟩
  · rw [State.modTest_otp, State.beginWake_frame]
    exact hl.otp
  · rw [State.modTest_pwr, State.beginWake_frame]
    exact (congrArg PwrPart.step hl.pwr).trans hs
  · rw [State.modTest_pst, State.beginWake_pst]
    unfold State.pst
    rw [hl.pwr]

/-- Step 9 (R611, R669). -/
theorem advanceStep_nine_read (h : s.pwr.step = 9) (hl : s.serial.load = true) :
    let t := s.advanceStep inp
    t.rd F.SPI_CNT_FRAME_COUNT = (s.rd F.SPI_CNT_FRAME_COUNT + 1) % F.SPI_CNT_FRAME_COUNT.size ∧
      t.pwr = { s.pwr with step := 10, flash := (Flash.ofSfdp inp.sfdp).getD Flash.plain } ∧
      t.flag F.SYS_BOOT_STAT_SFDP_FAIL =
        (if (Flash.ofSfdp inp.sfdp).isNone then true else s.flag F.SYS_BOOT_STAT_SFDP_FAIL) := by
  have hf := s.loadFrame_isSome (.inl h)
  rw [advanceStep_nine inp h, if_pos hl]
  refine ⟨?_, ?_, ?_⟩
  · rw [State.serialNext_rd _ (by decide)]
    exact (s.sfdpRead_rd _ (by decide)).trans (s.loadOver_ended _ hf).counted
  · rw [State.serialNext_pwr, State.goStep, State.modPwr_pwr, s.sfdpRead_pwr _ hf]
  · rw [State.flag, State.serialNext_rd _ (by decide)]
    exact s.sfdpRead_fail _ hf

end

/-- Step 10 (R610). -/
theorem advanceStep_ten_read {s : State} (h : s.pwr.step = 10) (hl : s.serial.load = true) :
    let t := s.advanceStep inp
    (leNat (inp.image.take 4) ≠ 0x4B544C32 → t.flag F.SYS_BOOT_STAT_NO_IMAGE = true ∧ t.pwr = { s.pwr with step := 12 }) ∧
      (leNat (inp.image.take 4) = 0x4B544C32 → imageGood inp.image = false →
        t.flag F.SYS_BOOT_STAT_BAD_IMAGE = true ∧ t.pwr = { s.pwr with step := 12 }) ∧
      (leNat (inp.image.take 4) = 0x4B544C32 → imageGood inp.image = true →
        t.pwr = { s.pwr with
          imageTiles := (List.range (byteAt inp.image 4)).map (imageTile inp.image),
          imageRegs := (List.range (leNat ((inp.image.drop 6).take 2))).map
            (imageReg inp.image (leNat ((inp.image.drop 8).take 4))),
          step := if byteAt inp.image 4 = 0 then 12 else 11 } ∧
        t.rd F.SPI_CNT_FRAME_COUNT = (s.rd F.SPI_CNT_FRAME_COUNT + 1) % F.SPI_CNT_FRAME_COUNT.size) := by
  have hf := s.loadOver_ended inp.image (s.loadFrame_isSome (.inr (.inl h)))
  rw [advanceStep_ten inp h, if_pos hl]
  refine ⟨fun m => ⟨?_, ?_⟩, fun m g => ⟨?_, ?_⟩, fun m g => ⟨?_, ?_⟩⟩
  · rw [State.headerRead_noImage _ m, State.flag, State.serialNext_rd _ (by decide)]
    exact State.flag_setF_self _ (by decide) 0
  · rw [State.headerRead_noImage _ m, State.serialNext_pwr, State.goStep, State.modPwr_pwr, State.setF_pwr, hf.pwr]
  · rw [State.headerRead_badImage _ m g, State.flag, State.serialNext_rd _ (by decide)]
    exact State.flag_setF_self _ (by decide) 0
  · rw [State.headerRead_badImage _ m g, State.serialNext_pwr, State.goStep, State.modPwr_pwr, State.setF_pwr, hf.pwr]
  · rw [State.headerRead_good _ m g, State.serialNext_pwr, State.modPwr_pwr, hf.pwr]
  · rw [State.headerRead_good _ m g, State.serialNext_rd _ (by decide)]
    exact hf.counted

/-- The plan memory with the bytes read for tile `k` of the image. -/
def State.imagedMem (s : State) (k : Fin 16) (bytes : List Byte) : List Host.Cell :=
  Memory.writeBytes s.planMem (tileBytes * k.val) ((padTo tileBytes bytes).take tileBytes)

/-- What the end of an image tile's load does before start-up goes on (R493, R494). -/
structure TileRead (s u : State) (k : Fin 16) (crc : Word) (bytes : List Byte) : Prop where
  kept : s.referenced k = true → u = s.loadOver bytes
  good : s.referenced k = false → crc32c (Memory.tile (s.imagedMem k bytes) k.val) = crc →
    u.planMem = s.imagedMem k bytes ∧ u.planTile k = ⟨.ready, crc⟩ ∧ (u.rd F.SYS_BOOT_STAT_LOADED).testBit k.val = true
  bad : s.referenced k = false → crc32c (Memory.tile (s.imagedMem k bytes) k.val) ≠ crc → ∃ v : State, u = v.settleDoom ∧
    v.planMem = s.imagedMem k bytes ∧ (v.planTile k).st = .out ∧ v.rd F.SYS_BOOT_STAT_LOADED = s.rd F.SYS_BOOT_STAT_LOADED

theorem State.imageTileRead_read (e : Nat × Nat × Word) (bytes : List Byte) (h : s.loadFrame.isSome = true) :
    TileRead s ((s.loadOver bytes).imageTileRead e bytes) (ix 15 e.1) e.2.2 bytes := by
  have hl := s.loadOver_ended bytes h
  have filled : ((s.loadOver bytes).fillPlanTile (ix 15 e.1) (padTo tileBytes bytes)).planMem = s.imagedMem (ix 15 e.1) bytes := by
    unfold State.fillPlanTile State.imagedMem
    dsimp only
    rw [hl.planMem]
  constructor
  · intro r
    exact State.imageTileRead_kept ((hl.referenced _).trans r)
  · intro r c
    rw [State.imageTileRead_good rfl ((hl.referenced _).trans r) (by rw [filled]; exact c)]
    refine ⟨filled, State.modPlanTile_planTile _ _ _, ?_⟩
    rw [State.rd_wr_self]
    exact testBit_or_pow _ (n := 16) (ix 15 e.1).isLt
  · intro r c
    refine ⟨_, State.imageTileRead_bad rfl ((hl.referenced _).trans r) (by rw [filled]; exact c), ?_, State.planTileOut_st _ _, ?_⟩
    · rw [(State.planTileOut_keeps _ _).2.2.2, filled]
    · rw [State.planTileOut_loaded]
      exact hl.rd (by decide)

theorem advanceStep_eleven_read {s : State} {e : Nat × Nat × Word} {rest : List (Nat × Nat × Word)} (h : s.pwr.step = 11)
    (hl : s.serial.load = true) (ht : s.pwr.imageTiles = e :: rest) : s.advanceStep inp =
      (((((s.loadOver inp.tile).imageTileRead e inp.tile).modPwr (fun p => { p with imageTiles := rest })).goStep
        (if rest = [] then 12 else 11)).serialNext) := by
  rw [advanceStep_eleven inp h ht, if_pos hl]
  cases rest <;> rfl

/-- Steps 9 to 11 wait for their load frame. -/
theorem advanceStep_loading {s : State} (hl : s.serial.load = false)
    (h : s.pwr.step = 9 ∨ s.pwr.step = 10 ∨ (s.pwr.step = 11 ∧ s.pwr.imageTiles ≠ [])) : s.advanceStep inp = s := by
  rcases h with h | h | ⟨h, ht⟩
  · rw [advanceStep_nine inp h, hl, if_neg Bool.false_ne_true]
  · rw [advanceStep_ten inp h, hl, if_neg Bool.false_ne_true]
  · obtain ⟨e, rest, he⟩ := List.exists_cons_of_ne_nil ht
    rw [advanceStep_eleven inp h he, hl, if_neg Bool.false_ne_true]

/-! Step 12. -/

section
variable {s}

theorem advanceStep_twelve_end (h : s.pwr.step = 12) (hr : s.pwr.run = none) (hl : s.pwr.imageRegs = []) :
    s.advanceStep inp = s.startupDone := by
  rw [advanceStep_twelve inp h, State.applyRegs_end hr h hl]

theorem State.startupDone_reported {b : BistRun} (h : s.test.bootRun = some b) :
    s.startupDone.test.bootRun = none ∧ s.startupDone.pwr = s.pwr := by
  rw [State.startupDone_reports h, State.modTest_pwr, s.bistReport_pwr]
  exact ⟨rfl, rfl⟩

theorem State.startupDone_done (h : s.test.bootRun = none) (hw : s.bistOnWay = false) :
    s.startupDone.flag F.SYS_BOOT_STAT_DONE = true ∧ s.startupDone.pwr = { s.pwr with step := 0, warm := false, unreported := 0 } := by
  rw [State.startupDone_over h hw]
  refine ⟨State.flag_setF_self _ (by decide) 0, ?_⟩
  rw [State.modPwr_pwr, State.setF_pwr, s.reportReset_frame]

theorem advanceStep_twelve_entry (h : s.pwr.step = 12) (hr : s.pwr.run = none) {a v : Nat} {rest : List (Nat × Nat)}
    (hl : s.pwr.imageRegs = (a, v) :: rest) :
    s.advanceStep inp = State.applyRegs (rest.length + 1) (s.entryApplied a v rest) := by
  rw [advanceStep_twelve inp h, hl, List.length_cons, State.applyRegs_entry hr h hl]

end

end Sys2Proof.Machine

open Sys2Proof Sys2Proof.Machine

/-- Settles O5, step by step: an equation of `advanceStep` for each step, the state of each domain after it, and that
what a woken domain does as it comes ON leaves the rest of the power controller alone. -/
theorem startupGoesThroughItsSteps : Obligations.StartupGoesThroughItsSteps := by
  unfold Obligations.StartupGoesThroughItsSteps
  have going : ∀ (s : State) (inp : StartInput), s.pwr.halted = false →
      exec (.startupAdvance inp) s = .next (s.advanceStep inp) := startupAdvance_going
  refine ⟨⟨?_, ?_, ?_, ?_, ?_⟩, ?_, ?_, ?_, ?_, ?_⟩
  case refine_1 =>
    intro s inp h
    rw [exec_startupAdvance]
    rcases h with h | h
    · rw [if_pos h]
    · rw [advanceStep_over s inp h, ite_self]
  case refine_2 =>
    intro s inp hh h
    rw [going s inp hh, advanceStep_one inp h]
    rfl
  case refine_3 =>
    intro s inp hh h hc
    obtain ⟨he, hd⟩ := advanceStep_two_on inp h hc
    exact ⟨_, going s inp hh, he, by rw [he, State.goStep_step], hd⟩
  case refine_4 =>
    intro s inp hh h
    rw [going s inp hh, advanceStep_three inp h]
    refine ⟨fun on k => by rw [otpStep_keysWake inp on k], fun on hw hd hr => ?_, fun on hw hd => ⟨fun k => ?_, fun hb hr => ?_⟩,
      fun on => ⟨fun p rest hp => ?_, fun he hn => ?_, fun b he hb => ?_⟩⟩
    · have ht := s.haltStartup_halted
      rw [State.otpStep_again inp on (.inr hd), State.afterOtp_halts hw hr]
      exact ⟨_, rfl, ht.halted, ht.int, by rw [ht.pst, if_pos rfl], ht.otp⟩
    · exact ⟨_, rfl, otpStep_reads inp on hw hd hh k⟩
    · exact ⟨_, rfl, otpStep_startsRun inp on hw hd h hb hr⟩
    · obtain ⟨test, step, pst⟩ := State.bootTest_on inp hp
      rw [State.otpStep_run inp on]
      exact ⟨_, rfl, by rw [test], by rw [test]; exact on, step.trans h, pst⟩
    · rw [State.otpStep_run inp on, State.bootTest_waits inp he hn]
    · have ht := s.bootTest_bootOver inp hh he hb
      rw [State.otpStep_run inp on]
      exact ⟨_, rfl, ht.run, ht.done, ht.on, ht.otp, ht.step, ht.halted, ht.pst⟩
  case refine_5 =>
    intro s inp hh
    rw [going s inp hh]
    refine ⟨fun h hk => ?_, fun h hp hb => ?_, fun h hc => ?_, fun h => ?_, fun h => ?_⟩
    · obtain ⟨he, hd⟩ := advanceStep_four_on inp h hk
      exact ⟨_, rfl, by rw [he, State.goStep_step], he, hd⟩
    · obtain ⟨he, hd⟩ := advanceStep_five_on inp h hp hb
      exact ⟨_, rfl, by rw [he, State.goStep_step], he, hd⟩
    · exact ⟨_, rfl, by rw [advanceStep_six inp h, State.goStep_step], advanceStep_six_on inp h hc⟩
    · exact ⟨_, rfl, by rw [advanceStep_seven inp h, State.goStep_step], advanceStep_seven_on inp h⟩
    · exact ⟨_, rfl, advanceStep_eight_on inp h⟩
  case refine_6 =>
    intro s inp hh hl h
    rw [going s inp hh, advanceStep_loading inp hl h]
  case refine_7 =>
    intro s inp hh hl h
    exact ⟨_, going s inp hh, advanceStep_nine_read inp h hl⟩
  case refine_8 =>
    intro s inp hh hl h
    obtain ⟨absent, bad, good⟩ := advanceStep_ten_read inp h hl
    exact ⟨fun m => ⟨_, going s inp hh, absent m⟩, fun m g => ⟨_, going s inp hh, bad m g⟩,
      fun m g => ⟨_, going s inp hh, good m g⟩⟩
  case refine_9 =>
    intro s inp hh h
    rw [going s inp hh]
    refine ⟨fun ht => by rw [advanceStep_eleven_empty inp h ht]; rfl, fun k off crc rest hl ht => ?_⟩
    have hu := s.imageTileRead_read (k, off, crc) inp.tile (s.loadFrame_isSome (.inr (.inr ⟨h, by simp [ht]⟩)))
    exact ⟨_, by rw [advanceStep_eleven_read inp h hl ht], hu.kept, hu.good, hu.bad⟩
  case refine_10 =>
    intro s inp hh h
    rw [going s inp hh]
    refine ⟨fun hr => ?_, fun hr hl => ⟨fun b hb => ?_, fun hb hw => ?_, fun hb hw => ?_⟩, fun a v rest hr hl => ⟨fun hu => ?_,
      fun uh us ul => ?_⟩⟩
    · rw [advanceStep_twelve inp h, State.applyRegs_waits (.inl hr)]
    · rw [advanceStep_twelve_end inp h hr hl]
      exact ⟨_, rfl, State.startupDone_reported hb⟩
    · rw [advanceStep_twelve_end inp h hr hl, State.startupDone_waits hb hw]
    · rw [advanceStep_twelve_end inp h hr hl]
      exact ⟨_, rfl, State.startupDone_done hb hw⟩
    · rw [advanceStep_twelve_entry inp h hr hl]
      exact congrArg _ (State.applyRegs_waits hu _)
    · rw [advanceStep_twelve_entry inp h hr hl, going _ inp uh, advanceStep_twelve inp us, ul]
      rfl
end

section
/-! PROOFS. O2: the timebase and occupancy registers. -/

namespace Sys2Proof.Machine
open Sys2Proof

variable {s : State}

/-! ### The timebase and occupancy registers of an ON CORE (R46 to R48, R103) -/

theorem exec_sysTbLoRead (h : s.isOn .core = true) : exec .sysTbLoRead s =
    .next (({ s with sys := { s.sys with tbLatch := some (s.sys.timebase.extractLsb' 32 32) } }).emitOut
      (.readData 0x48 (s.sys.timebase.toNat % 2 ^ 32))) := congrArg _ (if_pos h)

theorem exec_sysTbHiRead_latched (h : s.isOn .core = true) {v : Word} (k : s.sys.tbLatch = some v) : exec .sysTbHiRead s =
    .next (({ s with sys := { s.sys with tbLatch := none } }).emitOut (.readData 0x4C v.toNat)) := by
  refine congrArg _ ((if_pos h).trans ?_)
  rw [k]

theorem exec_sysTbHiRead_live (h : s.isOn .core = true) (k : s.sys.tbLatch = none) : exec .sysTbHiRead s =
    .next ((s.setF F.SYS_TB_STAT_UNLATCHED).emitOut (.readData 0x4C (s.sys.timebase.toNat / 2 ^ 32))) := by
  refine congrArg _ ((if_pos h).trans ?_)
  rw [k]

theorem exec_sysTbLoWrite (h : s.isOn .core = true) (w : Word) :
    exec (.sysTbLoWrite w) s = .next { s with sys := { s.sys with tbStaged := w } } := congrArg _ (State.hostWrite_on h)

theorem exec_sysTbHiWrite (h : s.isOn .core = true) (w : Word) :
    exec (.sysTbHiWrite w) s = .next (writeTbHi w s) := congrArg _ (State.hostWrite_on h)

theorem exec_slotPeakClr (h : s.isOn .core = true) (w : Word) : exec (.slotPeakClr w) s = .next
    (if w.toNat.testBit 31 then s.wr F.SYS_SLOT_PEAK_PEAK 0 s.slotsUsed else s) := congrArg _ (State.hostWrite_on h)

theorem exec_sysHostDropClr (h : s.isOn .core = true) (w : Word) : exec (.sysHostDropClr w) s = .next
    (if w.toNat.testBit 31 then (s.wr F.SYS_HOST_DROP_COMPL 0 0).wr F.SYS_HOST_DROP_EVT 0 0 else s) :=
  congrArg _ (State.hostWrite_on h)

/-- Two halves of the timebase as one number. -/
theorem append_eq_ofNat (hi lo : Word) : hi ++ lo = BitVec.ofNat 64 (hi.toNat * 2 ^ 32 + lo.toNat) := by
  apply BitVec.eq_of_toNat_eq
  rw [BitVec.toNat_append, ← Nat.shiftLeft_add_eq_or_of_lt lo.isLt, Nat.shiftLeft_eq, BitVec.toNat_ofNat,
    Nat.mod_eq_of_lt (by have := hi.isLt; have := lo.isLt; omega)]

end Sys2Proof.Machine

open Sys2Proof Sys2Proof.Machine

/-- Settles O2, by what each command does to an ON CORE. -/
theorem timebaseIsReadAndLoadedInHalves : Obligations.TimebaseIsReadAndLoadedInHalves := by
  unfold Obligations.TimebaseIsReadAndLoadedInHalves
  intro s on
  refine ⟨⟨_, exec_sysTbLoRead on, ?_, ?_⟩, fun h latched => ?_, fun live => ⟨_, exec_sysTbHiRead_live on live, ?_, ?_, ?_⟩,
    exec_sysTbLoWrite on, fun w => ⟨_, exec_sysTbHiWrite on w, ?_, ?_, rfl, ?_⟩,
    fun w one => ⟨_, by rw [exec_slotPeakClr on, if_pos one], s.rd_wr_self _ 0 _, RegsOnly.wr s _ 0 _⟩,
    fun w one => ⟨_, by rw [exec_sysHostDropClr on, if_pos one], ?_, State.rd_wr_self _ _ 0 0,
      (RegsOnly.wr s F.SYS_HOST_DROP_COMPL 0 0).then F.SYS_HOST_DROP_EVT 0 0⟩,
    fun w zero => ⟨by rw [exec_slotPeakClr on, zero]; rfl, by rw [exec_sysHostDropClr on, zero]; rfl⟩⟩
  · exact congrArg State.out (State.emitOut_logged _ _)
  · rw [State.emitOut_logged]
  · rw [exec_sysTbHiRead_latched on latched, State.emitOut_logged]
    rfl
  · exact State.flag_setF_self s (by decide) 0
  · exact congrArg State.out (State.emitOut_logged _ _)
  · exact RegsOnly.wr s F.SYS_TB_STAT_UNLATCHED 0 1
  · exact congrArg (fun b => { s.sys with timebase := b }) (append_eq_ofNat w s.sys.tbStaged)
  · exact State.rd_wr_self _ F.SYS_TB_STAT_COARSE 0 0
  · exact RegsOnly.wr s F.SYS_TB_STAT_COARSE 0 0
  · rw [State.rd_wr_ne _ (by decide), State.rd_wr_self]
    rfl
end

section
/-! PROOFS. O9: the fetch of descriptors. -/

namespace Sys2Proof.Machine
open Sys2Proof

variable {s : State} {q : Fin 32} {d : Desc}

/-! ### DESCRIPTOR_FETCH and FETCH_FAIL (R30, R31, R61, R69, R104) -/

/-- What lets a ring be fetched from (R61, R99 to R102, R104). -/
theorem State.mayFetch_iff : s.mayFetch q = true ↔ s.mayDma = true ∧ s.isOn .core = true ∧ s.isOn .board = true ∧
    s.sys.role ≠ .satellite ∧ s.pwr.step = 0 ∧ s.flag F.HOST_SQ_CFG_EN q.val = true ∧
    s.flag F.HOST_SQ_CFG_STOP q.val = false ∧ vget s.host.tearing q = false ∧ s.flag F.HOST_SQ_STAT_FAULT q.val = false ∧
    s.rd F.HOST_SQ_STAT_FETCHED q.val ≠ s.rd F.DOORBELL_SQ_COUNT q.val := by
  simp [State.mayFetch, and_assoc]

/-- When memory requests may go (R102). -/
theorem State.mayDma_iff : s.mayDma = true ↔ s.isOn .host = true ∧ s.host.bme = true ∧ s.host.d3 = false := by
  simp [State.mayDma, and_assoc]

/-- The descriptor is one that DESCRIPTOR_FETCH takes from ring `q` now: the ring may be fetched from, the descriptor is
not carried out at fetch, and its slot limits and turn are met. -/
def State.fetchDue (s : State) (q : Fin 32) (d : Desc) : Prop :=
  s.mayFetch q = true ∧ atFetch (sqUnit q.val) (descByte d 0) = false ∧ s.slotFor q.val = true ∧
    (s.needsGeneral q.val = false ∨ s.generalTurn q.val = true)

/-- The state with the rotation's mark at ring `q`, where the fetch uses a general slot (R31). -/
def State.markedFor (s : State) (q : Nat) : State :=
  if s.needsGeneral q then { s with sys := { s.sys with lastGeneral := q } } else s

theorem exec_descriptorFetch_due (h : s.fetchDue q d) :
    exec (.descriptorFetch q d) s = .next ((s.markedFor q.val).fetchDesc q d .staged) := by
  obtain ⟨may, plain, slot, turn⟩ := h
  refine congrArg _ (if_pos ?_)
  rcases turn with turn | turn <;> simp [may, plain, slot, turn]

theorem exec_descriptorFetch_idle (h : ¬ s.fetchDue q d) : exec (.descriptorFetch q d) s = .next s := by
  refine congrArg _ (if_neg fun g => h ?_)
  simpa [State.fetchDue, and_assoc] using g

theorem exec_fetchFail (h : s.mayFetch q = true) : exec (.fetchFail q) s = .next
    (((s.setF F.HOST_SQ_STAT_FAULT q.val).hostErr 0 0 q.val (s.sqAddr q.val)).hostFault 0 q.val 0) := congrArg _ (if_pos h)

theorem exec_fetchFail_idle (h : s.mayFetch q = false) : exec (.fetchFail q) s = .next s :=
  congrArg _ (if_neg (by simp [h]))

/-- Marking the rotation changes nothing else. -/
theorem State.markedFor_frame (s : State) (k : Nat) :
    s.markedFor k = { s with sys := { s.sys with lastGeneral := (s.markedFor k).sys.lastGeneral } } := by
  unfold State.markedFor
  split <;> rfl

theorem State.markedFor_own {k : Nat} (h : s.needsGeneral k = false) : s.markedFor k = s := if_neg (by simp [h])

/-- A fetched descriptor stands behind all others and is counted, and nothing else changes. -/
theorem State.fetchDesc_frame (s : State) (q : Fin 32) (d : Desc) (ph : TxPhase) : s.fetchDesc q d ph =
    { s.count F.HOST_SQ_STAT_FETCHED q.val with
      txns := s.txns ++ [newTxn s.sys.nextId (sqUnit q.val) (some q.val) d ph []],
      sys := { s.sys with nextId := s.sys.nextId + 1 } } := rfl

end Sys2Proof.Machine

open Sys2Proof Sys2Proof.Machine

/-- Settles O9, by the conditions of a fetch and by what it and its failure change. -/
theorem descriptorsAreFetchedInOrder : Obligations.DescriptorsAreFetchedInOrder := by
  unfold Obligations.DescriptorsAreFetchedInOrder
  intro s q d
  refine ⟨fun may => ?_, fun may plain slot turn => ⟨_, exec_descriptorFetch_due ⟨may, plain, slot, turn⟩, ?_⟩,
    fun idle => exec_descriptorFetch_idle ?_,
    fun may => ⟨_, State.hostErr_noted _ (by decide) 0 q.val (s.sqAddr q.val), exec_fetchFail may⟩, exec_fetchFail_idle⟩
  · obtain ⟨dma, core, board, role, step, en, stop, tearing, fault, bell⟩ := State.mayFetch_iff.mp may
    obtain ⟨host, bme, d3⟩ := State.mayDma_iff.mp dma
    exact ⟨host, core, board, bme, d3, role, step, en, stop, tearing, fault, bell⟩
  · rw [State.fetchDesc_frame, s.markedFor_frame]
    refine ⟨rfl, State.rd_wr_self _ F.HOST_SQ_STAT_FETCHED _ _, rfl, fun own => ?_, RegsOnly.wr s _ _ _⟩
    rw [State.markedFor_own own]
  · rintro ⟨may, plain, slot, turn⟩
    rcases idle with off | early | full | ⟨general, waits⟩
    · exact Bool.noConfusion (may.symm.trans off)
    · exact Bool.noConfusion (early.symm.trans plain)
    · exact Bool.noConfusion (slot.symm.trans full)
    · rcases turn with own | mine
      · exact Bool.noConfusion (general.symm.trans own)
      · exact Bool.noConfusion (mine.symm.trans waits)
end

section
/-! PROOFS. What the edge of a FIELD signal, a carrier's start and a tick of the timers change: said once, for the commands
of the rods, the scheduler and the microsecond. -/

namespace Sys2Proof.Machine
open Sys2Proof

variable (s : State)

/-! ### Captures (R555 to R560) -/

/-- `t` differs from `s` at most in what captures of the timers change: their counts and flags, and the events they raise. -/
def CaptureOnly (s t : State) : Prop := t = { s with regs := t.regs, sys := t.sys, host := t.host, tmr := t.tmr }

theorem CaptureOnly.refl : CaptureOnly s s := rfl

theorem CaptureOnly.trans {s t u : State} (h : CaptureOnly s t) (g : CaptureOnly t u) : CaptureOnly s u := by
  unfold CaptureOnly at *
  rw [g, h]

theorem CaptureOnly.ite {s t u : State} {c : Prop} [Decidable c] (h : CaptureOnly s t) (g : CaptureOnly s u) :
    CaptureOnly s (if c then t else u) := by
  split
  exacts [h, g]

theorem CaptureOnly.forAll {α : Type} {f : α → State → State} (h : ∀ a x, CaptureOnly x (f a x)) (l : List α) :
    CaptureOnly s (forAll l f s) :=
  forAll_inv (CaptureOnly s) (fun a x hx => hx.trans (h a x)) l s (CaptureOnly.refl s)

theorem CaptureOnly.setF {s t : State} (h : CaptureOnly s t) (f : Fld) (i : Nat) : CaptureOnly s (t.setF f i) := h.trans rfl

theorem State.raise_captureOnly (c : EventCode) (u : Nat) (d : List Byte) : CaptureOnly s (s.raise c u d) := by
  unfold CaptureOnly
  rw [s.raise_frame]

theorem State.raiseFlags_captureOnly (n : Fin 16) (m o c : Bool) : CaptureOnly s (s.raiseFlags n m o c) := by
  have set : CaptureOnly s (when m (fun (s : State) => s.setF F.TMR_STAT_MATCH n.val)
      (when o (fun (s : State) => s.setF F.TMR_STAT_OVF n.val)
        (when c (fun (s : State) => s.setF F.TMR_STAT_CAPT n.val) s))) := by
    cases m <;> cases o <;> cases c <;> rfl
  unfold State.raiseFlags
  exact CaptureOnly.ite set (set.trans (State.raise_captureOnly _ _ _ _))

theorem State.capture_captureOnly (n : Fin 16) : CaptureOnly s (s.capture n) := by
  unfold State.capture
  dsimp only
  refine CaptureOnly.trans ?_ (State.raiseFlags_captureOnly _ _ _ _ _)
  repeat' split
  all_goals rfl

theorem State.signalEdge_captureOnly (src : Nat) (rising : Bool) : CaptureOnly s (s.signalEdge src rising) := by
  unfold State.signalEdge
  exact (CaptureOnly.forAll s (fun n x => (x.capture_captureOnly n).ite (.refl x)) _).ite (.refl s)

theorem State.fieldEdge_captureOnly (n : Fin 24) (was now : Carrier) : CaptureOnly s (s.fieldEdge n was now) := by
  unfold State.fieldEdge
  exact (CaptureOnly.refl s).ite (s.signalEdge_captureOnly _ _)

/-! ### A carrier's settings and its start (R22, R111, R117, R191, R203) -/

/-- `t` differs from `s` at most in the rods, in field sharing, and in what captures change. -/
def RodsOnly (s t : State) : Prop :=
  t = { s with rods := t.rods, field := t.field, regs := t.regs, sys := t.sys, host := t.host, tmr := t.tmr }

theorem RodsOnly.refl : RodsOnly s s := rfl

theorem RodsOnly.trans {s t u : State} (h : RodsOnly s t) (g : RodsOnly t u) : RodsOnly s u := by
  unfold RodsOnly at *
  rw [g, h]

theorem CaptureOnly.rodsOnly {s t : State} (h : CaptureOnly s t) : RodsOnly s t := by
  unfold RodsOnly
  rw [h]

theorem State.takePhase_rodsOnly (n : Fin 24) (k : RodSnap) : RodsOnly s (s.takePhase n k) := rfl

theorem State.makeStart_rodsOnly (n : Fin 24) (b : Nat) : RodsOnly s (s.makeStart n b) := by
  unfold State.makeStart
  split
  · rfl
  · exact RodsOnly.trans (by exact rfl) (State.fieldEdge_captureOnly _ n _ _).rodsOnly

theorem State.dropRequest_rodsOnly (n : Fin 24) : RodsOnly s (s.dropRequest n) := by
  unfold State.dropRequest
  repeat' split
  all_goals rfl

theorem State.askStart_rodsOnly (n : Fin 24) (b : Nat) (o : Option Nat) : RodsOnly s (s.askStart n b o) := by
  unfold State.askStart
  repeat' split
  · exact .refl s
  · exact s.makeStart_rodsOnly n b
  · exact RodsOnly.trans (by exact rfl) (State.dropRequest_rodsOnly _ n)

theorem State.setPower_rodsOnly (n : Fin 24) (b : Nat) (o : Option Nat) : RodsOnly s (s.setPower n b o) := by
  unfold State.setPower
  repeat' split
  · rfl
  · exact s.askStart_rodsOnly n b o
  · exact .refl s

end Sys2Proof.Machine
end

section
/-! PROOFS. O10: the dispatch of descriptors. -/

namespace Sys2Proof.Machine
open Sys2Proof

variable {s : State}

/-! ### What a dispatch keeps of the transaction (R22, R27) -/

/-- A change of a transaction that leaves what the scheduler gave it. -/
def KeepsDispatch (f : Txn → Txn) : Prop :=
  ∀ t, (f t).id = t.id ∧ (f t).slot = t.slot ∧ (f t).since = t.since ∧ (f t).desc = t.desc ∧ (f t).unit = t.unit ∧
    (f t).sq = t.sq ∧ (f t).phase = t.phase

/-- The transaction of `id` is changed, but not in what the scheduler gave it, and no other transaction. -/
def UnitKeeps (s t : State) (id : Nat) : Prop := ∃ f, KeepsDispatch f ∧ t.txns = (s.modTxn id f).txns

theorem UnitKeeps.of_txns {t : State} {id : Nat} (h : t.txns = s.txns) : UnitKeeps s t id :=
  ⟨fun t => t, fun _ => ⟨rfl, rfl, rfl, rfl, rfl, rfl, rfl⟩, by simp [State.modTxn, h]⟩

theorem UnitKeeps.modTxn {id : Nat} {f : Txn → Txn} (hf : KeepsDispatch f) : UnitKeeps s (s.modTxn id f) id := ⟨f, hf, rfl⟩

/-- What leaves the transactions as they are keeps them so. -/
theorem UnitKeeps.then {t u : State} {id : Nat} (h : UnitKeeps s t id) (e : u.txns = t.txns) : UnitKeeps s u id := by
  obtain ⟨f, hf, ht⟩ := h
  exact ⟨f, hf, e.trans ht⟩

theorem State.calDue_txns (s : State) : s.calDue.txns = s.txns := by
  unfold State.calDue State.calKick
  split <;> rfl

theorem State.rodDispatched_unitKeeps (n : Fin 24) (id : Nat) : UnitKeeps s (s.rodDispatched n id) id := by
  have keeps : KeepsDispatch (fun t => { t with snap := some (s.rodSnap n.val) }) := fun _ => ⟨rfl, rfl, rfl, rfl, rfl, rfl, rfl⟩
  refine (UnitKeeps.modTxn keeps).then ?_
  unfold State.rodDispatched
  dsimp only
  split
  · rfl
  · rw [State.setPower_rodsOnly, State.takePhase_rodsOnly]

theorem State.uhfDispatched_unitKeeps (t : Txn) : UnitKeeps s (s.uhfDispatched t) t.id := by
  unfold State.uhfDispatched
  dsimp only
  split
  · refine UnitKeeps.then (UnitKeeps.modTxn ?_) (State.calDue_txns _)
    exact fun _ => ⟨rfl, rfl, rfl, rfl, rfl, rfl, rfl⟩
  · exact .modTxn (fun _ => ⟨rfl, rfl, rfl, rfl, rfl, rfl, rfl⟩)

/-- What a dispatch adds at the unit leaves what the scheduler gave the transaction. -/
theorem State.atDispatch_unitKeeps (t : Txn) : UnitKeeps s (s.atDispatch t) t.id := by
  unfold State.atDispatch
  dsimp only
  split
  · exact .of_txns rfl
  split
  · exact State.rodDispatched_unitKeeps _ _
  split
  · exact .of_txns rfl
  split
  · exact State.uhfDispatched_unitKeeps t
  split
  · repeat' split
    all_goals exact .of_txns rfl
  split
  · split <;> exact .of_txns rfl
  split
  · exact .modTxn (fun _ => ⟨rfl, rfl, rfl, rfl, rfl, rfl, rfl⟩)
  split
  · exact .modTxn (fun _ => ⟨rfl, rfl, rfl, rfl, rfl, rfl, rfl⟩)
  · exact .of_txns rfl

/-! ### A dispatch (R27, R668) -/

/-- Transaction `u` holds slot `k` from now on and has phase `ph`; the other transactions are as before. -/
structure Dispatched (s t : State) (u : Txn) (k : SlotKind) (ph : TxPhase) : Prop where
  entry : ∃ v, t.txn? u.id = some v ∧ v.slot = k ∧ v.since = s.pwr.aonMicros ∧ v.desc = u.desc ∧ v.unit = u.unit ∧
    v.sq = u.sq ∧ v.phase = ph
  others : t.txns.filter (fun w => w.id != u.id) = s.txns.filter (fun w => w.id != u.id)

/-- The transaction with its slot, in its unit's queue. -/
def Txn.slotted (u : Txn) (k : SlotKind) (now : Nat) : Txn := { u with slot := k, phase := .queued, since := now }

/-- The state with transaction `id` in its slot. -/
def State.slotted (s : State) (id : Nat) (k : SlotKind) : State :=
  (s.modTxn id (fun t => t.slotted k s.pwr.aonMicros)).notePeak

theorem State.slotted_txn? {u : Txn} (h : s.txn? u.id = some u) (k : SlotKind) :
    (s.slotted u.id k).txn? u.id = some (u.slotted k s.pwr.aonMicros) := by
  have e := s.txn?_modTxn u.id (fun t => t.slotted k s.pwr.aonMicros) (fun _ => rfl)
  rw [h] at e
  exact e

theorem State.slotted_others (id : Nat) (k : SlotKind) :
    (s.slotted id k).txns.filter (fun w => w.id != id) = s.txns.filter (fun w => w.id != id) :=
  s.modTxn_others id _ (fun _ => rfl)

theorem State.txn?_congr {t : State} (h : t.txns = s.txns) (id : Nat) : t.txn? id = s.txn? id := by
  unfold State.txn?
  rw [h]

/-- What the unit adds leaves a dispatched transaction dispatched. -/
theorem UnitKeeps.dispatched {t : State} {u : Txn} {k : SlotKind} (h : UnitKeeps (s.slotted u.id k) t u.id)
    (hu : s.txn? u.id = some u) : Dispatched s t u k .queued := by
  obtain ⟨f, hf, ht⟩ := h
  have hid : ∀ t, (f t).id = t.id := fun t => (hf t).1
  constructor
  · obtain ⟨-, slot, since, desc, unit, sq, phase⟩ := hf (u.slotted k s.pwr.aonMicros)
    refine ⟨f (u.slotted k s.pwr.aonMicros), ?_, slot, since, desc, unit, sq, phase⟩
    rw [State.txn?_congr ht, State.txn?_modTxn _ _ _ hid, State.slotted_txn? hu]
    rfl
  · rw [ht, State.modTxn_others _ _ _ hid, State.slotted_others]

theorem State.noteProfile_txns (u : Nat) (d : Desc) : (s.noteProfile u d).txns = s.txns := by
  unfold State.noteProfile
  split <;> rfl

/-- A descriptor with no outcome due waits in its unit's queue. -/
theorem State.dispatchTxn_queues {u : Txn} (h : s.dispatchEnd u.unit u.desc = none) (k : SlotKind) :
    s.dispatchTxn u k = (s.slotted u.id k).atDispatch u := by
  unfold State.dispatchTxn
  rw [h]
  rfl

/-- One with an outcome due ends with it. -/
theorem State.dispatchTxn_ends {u : Txn} {st : Status} (h : s.dispatchEnd u.unit u.desc = some st) (k : SlotKind) :
    (s.dispatchTxn u k).txns = (((s.slotted u.id k).noteProfile u.unit u.desc).finish u.id st).txns := by
  unfold State.dispatchTxn
  rw [h]
  dsimp only
  cases st == .late && u.unit == unitUhf <;> rfl

/-- A dispatched descriptor holds its slot and waits, or has ended with the outcome that was due. -/
theorem State.dispatchTxn_dispatched {u : Txn} (hu : s.txn? u.id = some u) (k : SlotKind) :
    Dispatched s (s.dispatchTxn u k) u k
      (match s.dispatchEnd u.unit u.desc with | some st => .done st | none => .queued) := by
  cases h : s.dispatchEnd u.unit u.desc with
  | none =>
    rw [State.dispatchTxn_queues h]
    exact (State.atDispatch_unitKeeps u).dispatched hu
  | some st =>
    have ht := State.dispatchTxn_ends h k
    have hv : ((s.slotted u.id k).noteProfile u.unit u.desc).txn? u.id = some (u.slotted k s.pwr.aonMicros) :=
      (State.txn?_congr (State.noteProfile_txns _ _) _).trans (State.slotted_txn? hu k)
    constructor
    · exact ⟨_, (State.txn?_congr ht _).trans (State.finish_done hv rfl st), rfl, rfl, rfl, rfl, rfl, rfl⟩
    · rw [ht, State.finish_others, State.noteProfile_txns, State.slotted_others]

/-! ### DESCRIPTOR_DISPATCH and NOP (R31, R66, R67) -/

section
variable {q : Fin 32} {u : Txn} {k : SlotKind}

/-- The rotation's mark at ring `q`. -/
def State.servedGeneral (s : State) (q : Nat) : State := { s with sys := { s.sys with lastGeneral := q } }

/-- The rotation's mark is not among what decides an outcome. -/
theorem State.dispatchEnd_servedGeneral (q unit : Nat) (d : Desc) :
    (s.servedGeneral q).dispatchEnd unit d = s.dispatchEnd unit d := rfl

theorem exec_descriptorDispatch (hn : s.nextStaged q.val = some u) (hk : s.freeSlot u.unit = some k) :
    exec (.descriptorDispatch q) s = .next (if s.mayDispatch u then
      if k = .borrowed && u.sq.isNone then if s.generalTurn q.val then (s.servedGeneral q.val).dispatchTxn u k else s
      else s.dispatchTxn u k
    else s) := by
  change execDescriptorDispatch q s = _
  unfold execDescriptorDispatch
  rw [hn]
  dsimp only
  rw [hk]
  rfl

theorem exec_descriptorDispatch_none (h : s.nextStaged q.val = none) : exec (.descriptorDispatch q) s = .next s := by
  change execDescriptorDispatch q s = _
  unfold execDescriptorDispatch
  rw [h]

theorem exec_descriptorDispatch_full (hn : s.nextStaged q.val = some u) (hk : s.freeSlot u.unit = none) :
    exec (.descriptorDispatch q) s = .next s := by
  change execDescriptorDispatch q s = _
  unfold execDescriptorDispatch
  rw [hn]
  dsimp only
  rw [hk]

theorem State.mayDispatch_iff : s.mayDispatch u = true ↔ s.isOn .core = true ∧ s.isOn .board = true ∧ s.fenced u = false := by
  simp [State.mayDispatch, and_assoc]

/-- A descriptor that may be dispatched is dispatched, in a rod descriptor from the beam that borrows with the rotation's mark
moved (R31). -/
theorem exec_descriptorDispatch_takes (hn : s.nextStaged q.val = some u) (hk : s.freeSlot u.unit = some k)
    (may : s.mayDispatch u = true) (turn : k ≠ .borrowed ∨ u.sq ≠ none ∨ s.generalTurn q.val = true) :
    ∃ v, (v = s ∨ v = s.servedGeneral q.val) ∧ exec (.descriptorDispatch q) s = .next (v.dispatchTxn u k) := by
  rw [exec_descriptorDispatch hn hk, may, if_pos rfl]
  split
  next beam =>
    simp only [Bool.and_eq_true, decide_eq_true_eq, Option.isNone_iff_eq_none] at beam
    exact ⟨_, .inr rfl, by rw [((turn.resolve_left (not_not_intro beam.1)).resolve_left (not_not_intro beam.2)), if_pos rfl]⟩
  next => exact ⟨s, .inl rfl, rfl⟩

/-- The outcomes at dispatch in their order (R668). -/
theorem State.dispatchEnd_eq (u : Txn) : s.dispatchEnd u.unit u.desc =
    (if s.descBad u.unit u.desc = true then some .badDescriptor
      else if (descDomains u.unit u.op).all s.isOn = false then some .domainOff
      else if s.field.shutdown = true ∧ u.op ≠ 0 ∧ (u.unit < 24 ∨ (u.unit = 24 ∧ u.op = 2) ∨ u.unit = 25) then some .aborted
      else if s.nltPassed u.desc = true ∧ ¬(s.field.shutdown = true ∧ u.unit = 24 ∧ u.op = 1) then some .late
      else if u.unit = 25 ∧ s.uhfRegulatory u.desc = true then some .regulatory
      else if u.unit = 26 ∧ u.op = 1 ∧ cipherLengthBad u.desc = true then some .lengthError
      else if u.unit = 26 ∧ u.op = 2 ∧ randomLengthBad u.desc = true then some .lengthError
      else none) := by
  have op : descByte u.desc 0 = u.op := rfl
  simp only [State.dispatchEnd, shutAborts, op, Bool.not_eq_true', Bool.and_eq_true, Bool.or_eq_true, decide_eq_true_eq,
    beq_iff_eq, bne_iff_ne, Bool.and_eq_false_imp, beq_eq_false_iff_ne, and_assoc, or_assoc, not_and, and_imp, ne_eq]
  rfl

/-- A NOP of an identity ends OK and stands otherwise as it was. -/
theorem exec_nop_some (h : s.txns.find? (fun t => t.sq == some q.val && t.isQueued && t.op == 0) = some u) :
    exec (.nop q) s = .next (s.finish u.id .ok) := by
  change execNop q s = _
  unfold execNop
  rw [h]
  rfl

theorem exec_nop_none (h : s.txns.find? (fun t => t.sq == some q.val && t.isQueued && t.op == 0) = none) :
    exec (.nop q) s = .next s := by
  change execNop q s = _
  unfold execNop
  rw [h]
  rfl

end

end Sys2Proof.Machine

open Sys2Proof Sys2Proof.Machine

/-- Settles O10, by what `State.dispatchTxn` does with an outcome due and without one, and by the end of a NOP. -/
theorem dispatchTakesASlotAndAppliesTheOutcomesInOrder :
    Obligations.DispatchTakesASlotAndAppliesTheOutcomesInOrder := by
  unfold Obligations.DispatchTakesASlotAndAppliesTheOutcomesInOrder
  refine ⟨fun s q u k staged hu slot core board free => ?_, fun s q none => exec_descriptorDispatch_none none,
    fun s q u staged held => ?_, fun s q u found hu => ?_, fun s q none => exec_nop_none none⟩
  · have may : s.mayDispatch u = true := State.mayDispatch_iff.mpr ⟨core, board, free⟩
    intro due
    have hdue : due = s.dispatchEnd u.unit u.desc := (State.dispatchEnd_eq u).symm
    rw [hdue]
    refine ⟨fun turn => ?_, fun hk beam wait => ?_, fun sq none op => ?_⟩
    · obtain ⟨w, hw, run⟩ := exec_descriptorDispatch_takes staged slot may turn
      have parts : Dispatched s (w.dispatchTxn u k) u k
          (match s.dispatchEnd u.unit u.desc with | some st => .done st | none => .queued) ∧
          w.pending = s.pending ∧ w.boardMem = s.boardMem ∧ w.planMem = s.planMem := by
        rcases hw with hw | hw <;> rw [hw]
        · exact ⟨State.dispatchTxn_dispatched hu k, rfl, rfl, rfl⟩
        · have done := State.dispatchTxn_dispatched (s := s.servedGeneral q.val) hu k
          rw [State.dispatchEnd_servedGeneral] at done
          exact ⟨⟨done.entry, done.others⟩, rfl, rfl, rfl⟩
      obtain ⟨⟨⟨v, entry, slotted, since, desc, unit, sq, phase⟩, others⟩, queue, board, plan⟩ := parts
      obtain ⟨queue', -, board', plan'⟩ := w.dispatchTxn_keeps u k
      exact ⟨_, v, run, entry, slotted, since, desc, unit, sq, phase, others, queue'.trans queue, board'.trans board,
        plan'.trans plan⟩
    · rw [exec_descriptorDispatch staged slot, may, if_pos rfl, if_pos (by simp [hk, beam]), wait]
      rfl
    · rw [exec_descriptorDispatch staged slot, may, if_pos rfl, if_neg (by simp [sq]), State.dispatchTxn_queues none,
        State.atDispatch, if_pos op]
      rfl
  · cases slot : s.freeSlot u.unit with
    | none => exact exec_descriptorDispatch_full staged slot
    | some k =>
      have rests : s.mayDispatch u = false := by
        rcases held with h | h | h | h
        · exact absurd (slot.symm.trans h) (by simp)
        all_goals simp [State.mayDispatch, h]
      rw [exec_descriptorDispatch staged slot, rests, if_neg Bool.false_ne_true]
  · have queued := List.find?_some found
    simp only [Bool.and_eq_true, Txn.isQueued, beq_iff_eq] at queued
    have live : u.live = true := by rw [Txn.live, queued.1.2]
    exact ⟨_, _, exec_nop_some found, s.finish_frame u.id .ok, State.finish_done hu live .ok, rfl, s.finish_others u.id .ok⟩
end

section
/-! PROOFS. What writing a ring entry and signalling a ring change: said once, for completions, records and events. -/

namespace Sys2Proof.Machine
open Sys2Proof

variable {s t : State}

/-! ### Entries (R58, R86) -/

/-- A write of an entry puts its posted writes into the log, and changes nothing else. -/
theorem State.writeEntry_logged (s : State) (addr : Nat) (b : List Byte) (ph : Bool) :
    s.writeEntry addr b ph = { s with out := s.logged (s.entryWrites addr b ph) } := by
  unfold State.writeEntry State.entryWrites
  dsimp only
  split
  · rw [State.emitOut_logged, State.emitOut_logged]
    exact congrArg (fun o => { s with out := o }) (s.logged_logged _ _)
  · exact s.emitOut_logged _

/-- A posted write is logged, unless the TAP has taken the balls. -/
theorem State.mem_logged_hostWrite {a : Nat} {b : List Byte} {l : List Output} (h : s.test.takesBalls = false)
    (hm : .hostWrite a b ∈ l) : .hostWrite a b ∈ s.logged l := by
  simp [State.logged, h, hm]

/-! ### Signals (R92, R95) -/

/-- A ring has signalled, or has not: HOST_INT_STAT, the pending bits and what is unsignalled may change, and at most one
message goes. -/
structure Signalled (s t : State) : Prop where
  regs : RegsOnly s { t with out := s.out, host := s.host } [F.HOST_INT_STAT_VEC.key 0]
  host : t.host = { s.host with unsig := t.host.unsig, pba := t.host.pba }
  sent : ∃ m, m.length ≤ 1 ∧ (∀ o ∈ m, ∃ v, o = Output.msi v) ∧ t.out = m ++ s.out

theorem Signalled.refl (s : State) : Signalled s s :=
  ⟨(RegsOnly.refl s).mono (by simp), rfl, [], Nat.zero_le 1, by simp, rfl⟩

theorem Signalled.rd (h : Signalled s t) {f : Fld} {i : Nat} (k : f.key i ≠ F.HOST_INT_STAT_VEC.key 0) :
    t.rd f i = s.rd f i := h.regs.2 f i (by simpa using k)

/-- Besides registers, the log and the host part nothing changes. -/
theorem Signalled.frame (h : Signalled s t) : t = { s with regs := t.regs, out := t.out, host := t.host } :=
  congrArg (fun x : State => { x with out := t.out, host := t.host }) h.regs.1

theorem State.sendVector_signalled (s : State) (v : Nat) : Signalled s (s.sendVector v) := by
  rcases s.sendVector_cases v with e | e <;> rw [e]
  · refine ⟨(RegsOnly.refl s).mono (by simp), rfl, _, ?_, ?_, rfl⟩
    · exact List.length_filter_le _ _
    · intro o ho
      exact ⟨v, List.mem_singleton.mp (List.mem_of_mem_filter ho)⟩
  · exact ⟨(RegsOnly.refl s).mono (by simp), rfl, [], Nat.zero_le 1, by simp, rfl⟩

theorem State.signal_signalled (s : State) (r : Fin 21) : Signalled s (s.signal r) := by
  obtain ⟨⟨frame, rd⟩, host, sent⟩ := State.sendVector_signalled
    { s.wr F.HOST_INT_STAT_VEC 0 (s.rd F.HOST_INT_STAT_VEC ||| (1 <<< s.rd F.HOST_CQ_CFG_VECTOR r.val)) with
      host := { s.host with unsig := vset s.host.unsig r [] } } (s.rd F.HOST_CQ_CFG_VECTOR r.val)
  obtain ⟨-, -, regs, -⟩ := s.signal_effect r
  exact ⟨regs, host.trans (by rfl), sent⟩

theorem State.checkSignal_signalled (s : State) (r : Fin 21) : Signalled s (s.checkSignal r) := by
  unfold State.checkSignal
  split
  · exact s.signal_signalled r
  · exact .refl s

end Sys2Proof.Machine
end

section
/-! PROOFS. O11: the commit of completions. -/

namespace Sys2Proof.Machine
open Sys2Proof

variable {s : State} {q : Fin 32} {u : Txn}

/-! ### The completion as it is posted (R71, R85) -/

/-- The state in which the completion of `u` has its SEQ and stands in CQ `m`, before its ring signals. -/
def State.completionPosted (s : State) (u : Txn) (q m : Nat) : State :=
  ((((s.takeSeq.writeEntry (s.ringBase (ix 20 m) + 16 * (s.rd F.HOST_CQ_STAT_WRITTEN m % s.ringSize (ix 20 m)))
    (completionBytes s.nextSeq s.sys.timebase u) (phaseAt (s.ringSize (ix 20 m)) (s.rd F.HOST_CQ_STAT_WRITTEN m))).advance
    (ix 20 m) 1).noteEntry (ix 20 m)).count F.HOST_SQ_DONE_DONE q).dropTxn u.id

theorem State.commitCompletion_signalled (s : State) (u : Txn) (q m : Nat) :
    Signalled (s.completionPosted u q m) (s.commitCompletion u q m) := by
  unfold State.commitCompletion
  dsimp only
  split
  · exact State.signal_signalled _ _
  · exact State.checkSignal_signalled _ _

/-- A completion counts in its CQ and in DONE, and is gone from the transactions. -/
theorem State.completionPosted_eq (s : State) (u : Txn) (q : Nat) {m : Nat} (hm : m < 16) : s.completionPosted u q m =
    { (s.wr F.HOST_CQ_STAT_WRITTEN m (s.rd F.HOST_CQ_STAT_WRITTEN m + 1)).count F.HOST_SQ_DONE_DONE q with
      sys := { s.sys with seq := s.sys.seq + 1 }, txns := s.txns.filter (fun v => v.id != u.id),
      host := (s.completionPosted u q m).host,
      out := s.logged (s.entryWrites (s.ringBase (ix 20 m) + 16 * (s.rd F.HOST_CQ_STAT_WRITTEN m % s.ringSize (ix 20 m)))
        (completionBytes (s.sys.seq + 1) s.sys.timebase u)
        (phaseAt (s.ringSize (ix 20 m)) (s.rd F.HOST_CQ_STAT_WRITTEN m))) } := by
  have hr : (ix 20 m).val = m := Nat.mod_eq_of_lt (by omega)
  unfold State.completionPosted State.advance
  rw [State.writeEntry_logged, hr]
  rfl

theorem done_key_ne {q m : Nat} (h : q < 32) : F.HOST_SQ_DONE_DONE.key q ≠ F.HOST_CQ_STAT_WRITTEN.key m := by
  simp only [Fld.key, fldKey]
  omega

theorem done_key_ne_intStat (q : Nat) : F.HOST_SQ_DONE_DONE.key q ≠ F.HOST_INT_STAT_VEC.key 0 := by
  simp only [Fld.key, fldKey]
  omega

theorem written_key_ne_intStat (m : Nat) : F.HOST_CQ_STAT_WRITTEN.key m ≠ F.HOST_INT_STAT_VEC.key 0 := by
  simp only [Fld.key, fldKey]
  omega

/-- What the commit of a completion changes (R85, R92). -/
theorem State.commitCompletion_effect (s : State) (u : Txn) (q : Fin 32) {m : Nat} (hm : m < 16) :
    let t := s.commitCompletion u q.val m
    t.sys = { s.sys with seq := s.sys.seq + 1 } ∧
    t.rd F.HOST_CQ_STAT_WRITTEN m = (s.rd F.HOST_CQ_STAT_WRITTEN m + 1) % 65536 ∧
    t.rd F.HOST_SQ_DONE_DONE q.val = (s.rd F.HOST_SQ_DONE_DONE q.val + 1) % F.HOST_SQ_DONE_DONE.size ∧
    t.txns = s.txns.filter (fun v => v.id != u.id) ∧
    (∀ o ∈ s.logged (s.entryWrites (s.ringBase (ix 20 m) + 16 * (s.rd F.HOST_CQ_STAT_WRITTEN m % s.ringSize (ix 20 m)))
        (completionBytes (s.sys.seq + 1) s.sys.timebase u)
        (phaseAt (s.ringSize (ix 20 m)) (s.rd F.HOST_CQ_STAT_WRITTEN m))), o ∈ t.out) ∧
    RegsOnly s { t with sys := s.sys, host := s.host, txns := s.txns, out := s.out }
      [F.HOST_CQ_STAT_WRITTEN.key m, F.HOST_SQ_DONE_DONE.key q.val, F.HOST_INT_STAT_VEC.key 0] := by
  have sig := s.commitCompletion_signalled u q.val m
  have posted := s.completionPosted_eq u q.val hm
  have frame := sig.frame
  have counted := (RegsOnly.wr s F.HOST_CQ_STAT_WRITTEN m (s.rd F.HOST_CQ_STAT_WRITTEN m + 1)).then F.HOST_SQ_DONE_DONE q.val
    ((s.wr F.HOST_CQ_STAT_WRITTEN m (s.rd F.HOST_CQ_STAT_WRITTEN m + 1)).rd F.HOST_SQ_DONE_DONE q.val + 1)
  refine ⟨?_, ?_, ?_, ?_, ?_, ?_⟩
  · rw [frame, posted]
  · rw [sig.rd (written_key_ne_intStat m), posted]
    exact (State.rd_wr_ne _ (done_key_ne q.isLt) _).trans (s.rd_wr_self F.HOST_CQ_STAT_WRITTEN m _)
  · rw [sig.rd (done_key_ne_intStat q.val), posted]
    refine (State.rd_wr_self _ F.HOST_SQ_DONE_DONE q.val _).trans ?_
    rw [State.rd_wr_ne _ (done_key_ne q.isLt).symm]
  · rw [frame, posted]
  · obtain ⟨l, -, -, hl⟩ := sig.sent
    intro o ho
    rw [hl, posted]
    exact List.mem_append_right l ho
  · refine ⟨?_, fun f i hk => ?_⟩
    · rw [frame, posted]
      rfl
    · simp only [List.mem_cons, List.not_mem_nil, or_false, not_or] at hk
      obtain ⟨hw, hd, hi⟩ := hk
      refine (sig.rd hi).trans ?_
      rw [posted]
      exact counted.2 f i (by simp [hw, hd])

/-! ### COMPLETION_COMMIT (R20, R85, R103) -/

/-- A completion may be committed now: bus mastering, BOARD ON, its CQ enabled with room, its records out (R85). -/
def State.completionFits (s : State) (u : Txn) (q : Nat) : Bool :=
  s.mayDma && s.isOn .board && s.flag F.HOST_CQ_CFG_EN (s.rd F.HOST_SQ_CFG_CQ q)
    && decide (1 ≤ s.ringRoom (ix 20 (s.rd F.HOST_SQ_CFG_CQ q))) && !s.recordsOut u

theorem exec_completionCommit_some (h : s.nextCompletion q.val = some u) : exec (.completionCommit q) s = .next
    (if u.orphan then (s.countSat F.SYS_HOST_DROP_COMPL).dropTxn u.id
      else if s.completionFits u q.val then s.commitCompletion u q.val (s.rd F.HOST_SQ_CFG_CQ q.val) else s) := by
  change execCompletionCommit q s = _
  unfold execCompletionCommit
  rw [h]
  rfl

theorem exec_completionCommit_none (h : s.nextCompletion q.val = none) :
    exec (.completionCommit q) s = .next (if q.val < 24 then s.beamStatus q.val else s) := by
  change execCompletionCommit q s = _
  unfold execCompletionCommit
  rw [h]

end Sys2Proof.Machine

open Sys2Proof Sys2Proof.Machine

/-- Settles O11, by what the commit of a completion changes and by the branches of the command. -/
theorem completionsAreCommittedInTheirOrder : Obligations.CompletionsAreCommittedInTheirOrder := by
  unfold Obligations.CompletionsAreCommittedInTheirOrder
  intro s q u
  refine ⟨fun next orphan => ?_, fun next owned dma board => ?_, fun next owned late => ?_, fun none idle => ?_,
    fun none rod found ended out => ?_⟩
  · rw [exec_completionCommit_some next, if_pos orphan]
  · intro m en room hm recs
    have fits : s.completionFits u q.val = true := by
      simpa [State.completionFits, dma, board, recs] using And.intro en room
    rw [exec_completionCommit_some next, owned, if_neg Bool.false_ne_true, fits, if_pos rfl]
    obtain ⟨sys, written, done, txns, out, regs⟩ := s.commitCompletion_effect u q hm
    refine ⟨_, rfl, sys, written, done, txns, fun whole free => out _ ?_, regs⟩
    refine s.mem_logged_hostWrite free ?_
    rw [State.entryWrites, whole]
    exact List.mem_singleton.mpr rfl
  · have waits : s.completionFits u q.val = false := by
      rcases late with h | h | h | h | h <;> simp [State.completionFits, h]
    rw [exec_completionCommit_some next, owned, if_neg Bool.false_ne_true, waits, if_neg Bool.false_ne_true]
  · rw [exec_completionCommit_none none]
    rcases idle with h | h
    · rw [if_neg (by omega)]
    · rw [State.beamStatus, h, ite_self]
  · rw [exec_completionCommit_none none, if_pos rod, State.beamStatus, found]
    dsimp only
    rw [ended, out, Bool.or_self, if_neg Bool.false_ne_true]
    rfl
end

section
/-! PROOFS. Why the statement of the microsecond fails: it bounds no register field by its width, and the wake timer, which is
cut to its 32 bits when it counts down (R594), then is not the old value less one. -/

namespace Sys2Proof.Machine
open Sys2Proof

/-- After reset, 30 µs on, with a wake timer whose register holds a value of 33 bits. -/
def wideWakeTimer : State := { State.reset with
  regs := [(F.PWR_WAKE_TIMER_COUNT.key 0, 2 ^ 32 + 5)], pwr := { PwrPart.reset with aonMicros := 30 } }

/-- With nothing waiting a microsecond passes. -/
theorem step_idle {s : State} (h : s.pending = []) : step s = .next s.idleTick := by rw [step, h]

/-- On a new cycle of 32.768 kHz a wake timer that has more than one cycle left counts down, cut to its width (R594). -/
theorem State.tickAon_wakeTimer {s : State} (cycle : (s.pwr.aonMicros + 1) * 32768 / 1000000 ≠ s.pwr.aonCycles)
    (left : 1 < s.rd F.PWR_WAKE_TIMER_COUNT) :
    s.tickAon.rd F.PWR_WAKE_TIMER_COUNT = (s.rd F.PWR_WAKE_TIMER_COUNT - 1) % F.PWR_WAKE_TIMER_COUNT.size := by
  unfold State.tickAon
  dsimp only
  rw [if_neg cycle, if_neg (by omega), if_neg (by omega), State.rd_wr_self]

/-- While CORE is not ON, no burst is under way and no self-test runs, a microsecond is one of AON time only. -/
theorem State.idleTick_coreOff {s : State} (core : s.isOn .core = false) (burst : s.board.lastLeft = none)
    (test : s.tickAon.bistLate = s.tickAon) (wdt : s.tickAon.wdtRuns = false) : s.idleTick = s.tickAon := by
  have base : s.tickBase = s := if_neg (by simp [core])
  rw [State.idleTick, base, State.tickBurst, burst]
  dsimp only
  rw [test, State.tickWdt, if_neg (by simp [wdt])]

theorem wideWakeTimer_idleTick : wideWakeTimer.idleTick.rd F.PWR_WAKE_TIMER_COUNT = 4 := by
  rw [State.idleTick_coreOff (by decide) (by decide) (by rfl) (by decide), State.tickAon_wakeTimer (by decide) (by decide)]
  decide

end Sys2Proof.Machine

open Sys2Proof Sys2Proof.Machine

/-- Refutes O58: in `wideWakeTimer` the register of the wake timer holds 2^32 + 5. As a cycle of 32.768 kHz begins the model
stores one less cut to the 32 bits of the field, 4, where the statement says 2^32 + 4. The statement speaks of every state and
lacks the hypothesis that the wake timer's field holds a value of its width. -/
theorem not_aMicrosecondPasses : ¬ Obligations.AMicrosecondPasses := by
  unfold Obligations.AMicrosecondPasses
  intro h
  obtain ⟨t, run, -, -, idle⟩ := h wideWakeTimer (by decide) (by decide)
  rw [step_idle (by decide)] at run
  have watchdog : wideWakeTimer.wdtRuns = false := by decide
  obtain ⟨-, -, -, -, -, -, -, -, count, -⟩ := idle (by simp [watchdog])
  injection run with ht
  rw [← ht, wideWakeTimer_idleTick, if_pos (by decide)] at count
  exact absurd count (by decide)
end

section
/-! PROOFS. Why the statement of the carriers fails: it speaks of every state, and in one whose rod holds an exchange of the
transaction that still waits, the end of that FIELD_ON takes the exchange along, and with it the ramp-down that waits for the
exchange's end (R149, R165). -/

namespace Sys2Proof.Machine
open Sys2Proof

/-- A response window that rod 0 has open for transaction 7. -/
def strayWindow : Exchange :=
  ⟨.window, .transceive, some 7, ⟨0, false, 0, 0, false, 100, 128, 4096, 8704, 4192⟩, [], 0, 0, false, false, false, 0, false,
    0, [], ExCount.zero, [], 0⟩

/-- FIELD_ON of rod 0, queued as transaction 7. -/
def queuedFieldOn : Txn := newTxn 7 0 (some 0) (BitVec.ofNatLT 1 (Nat.one_lt_two_pow (by decide))) .queued []

/-- The carrier of rod 0 is ON and to ramp down when the exchange in front of it ends, which is one of the FIELD_ON that still
waits. -/
def strayExchange : State := { State.reset with
  txns := [queuedFieldOn],
  rods := vset State.reset.rods 0 { Rod.reset with carrier := .on, rampAfter := true, air := some strayWindow } }

theorem strayExchange_fieldOn : ∃ t, exec (.fieldOn 0) strayExchange = .next t ∧ (t.rod 0).carrier = .rampDown :=
  ⟨_, rfl, by decide⟩

end Sys2Proof.Machine

open Sys2Proof Sys2Proof.Machine

/-- Refutes O20: in `strayExchange` FIELD_ON finds its carrier ON and ends OK, and the carrier ramps down all the same, where the
statement has every carrier keep its state. Ending the transaction ends the exchange that stands in front of the rod in its
name, and the ramp-down that waited for that end follows. The statement lacks the hypothesis that a transaction which still
waits has no exchange. -/
theorem not_carriersRampHoldAndStep : ¬ Obligations.CarriersRampHoldAndStep := by
  unfold Obligations.CarriersRampHoldAndStep
  intro h
  obtain ⟨fieldOn, -⟩ := h strayExchange 0
  obtain ⟨-, atOn, -⟩ := fieldOn queuedFieldOn (by decide) (by decide)
  obtain ⟨t, -, run, -, -, carriers⟩ := atOn (by decide) (by decide)
  obtain ⟨u, run', ramps⟩ := strayExchange_fieldOn
  rw [run'] at run
  injection run with same
  have kept := carriers 0
  rw [← same, ramps] at kept
  exact absurd kept (by decide)
end

section
/-! PROOFS. O14: the egress of records and events. -/

namespace Sys2Proof.Machine
open Sys2Proof

variable {s : State}

/-! ### Requests for verification (R488) -/

/-- `t` differs from `s` at most in the tiles whose verification has been asked for. -/
def VerifyOnly (s t : State) : Prop := t = { s with board := { s.board with verify := t.board.verify } }

theorem State.askVerify_verifyOnly (s : State) : VerifyOnly s s.askVerify := by
  refine forAll_inv (VerifyOnly s) (fun x t ht => ?_) _ s rfl
  unfold VerifyOnly at *
  split
  · rw [ht]
  · exact ht

theorem VerifyOnly.out {t : State} (h : VerifyOnly s t) : t.out = s.out := by rw [h]

theorem VerifyOnly.regs {t : State} (h : VerifyOnly s t) : t.regs = s.regs := by rw [h]

/-! ### A PAD and a record in an RQ (R78, R86) -/

theorem size_key_ne_written (i j : Nat) : F.HOST_CQ_STAT_WRITTEN.key i ≠ F.HOST_CQ_CFG_SIZE.key j := by
  simp only [Fld.key, fldKey]
  omega

theorem base_keys_ne_written (i j : Nat) : F.HOST_CQ_STAT_WRITTEN.key i ≠ F.HOST_CQ_BASE_LO_BASE.key j ∧
    F.HOST_CQ_STAT_WRITTEN.key i ≠ F.HOST_CQ_BASE_HI_BASE.key j := by
  simp only [Fld.key, fldKey]
  omega

theorem split_key_ne_written (i : Nat) : F.HOST_CQ_STAT_WRITTEN.key i ≠ F.HOST_CTL_SPLIT_PHASE.key 0 := by
  simp only [Fld.key, fldKey]
  omega

/-- Ring `r` with a larger producer count and more in the log. -/
def State.grown (s : State) (r : Fin 21) (c : Nat) (l : List Output) : State :=
  { s.wr F.HOST_CQ_STAT_WRITTEN r.val c with out := s.logged l }

theorem State.grown_size (r : Fin 21) (c : Nat) (l : List Output) : (s.grown r c l).ringSize r = s.ringSize r :=
  congrArg (2 ^ ·) (s.rd_wr_ne (size_key_ne_written r.val r.val) c)

theorem State.grown_base (r : Fin 21) (c : Nat) (l : List Output) : (s.grown r c l).ringBase r = s.ringBase r := by
  have lo := s.rd_wr_ne (base_keys_ne_written r.val r.val).1 c
  have hi := s.rd_wr_ne (base_keys_ne_written r.val r.val).2 c
  exact congrArg₂ (fun a b => a * 64 + b * 2 ^ 32) lo hi

theorem State.grown_entryWrites (r : Fin 21) (c : Nat) (l : List Output) : (s.grown r c l).entryWrites = s.entryWrites := by
  have split : (s.grown r c l).flag F.HOST_CTL_SPLIT_PHASE = s.flag F.HOST_CTL_SPLIT_PHASE :=
    s.flag_wr_ne (split_key_ne_written r.val) c
  funext a b ph
  unfold State.entryWrites
  rw [split]

theorem State.grown_count (r : Fin 21) (c : Nat) (l : List Output) :
    (s.grown r c l).rd F.HOST_CQ_STAT_WRITTEN r.val = c % 65536 := s.rd_wr_self _ _ _

/-- The posted writes of a record at producer count `c`: payload units, then the header, newest first. -/
def State.recordWrites (s : State) (r : Fin 21) (c : Nat) (b : List Byte) : List Output :=
  s.entryWrites (s.ringBase r + 16 * (c % s.ringSize r)) (b.take 16) (phaseAt (s.ringSize r) c) ++
    [.hostWrite (s.ringBase r + 16 * (c % s.ringSize r) + 16) (b.drop 16)]

/-- The posted writes of a PAD of `k` units at producer count `c`. -/
def State.padWrites (s : State) (r : Fin 21) (c k : Nat) : List Output :=
  s.entryWrites (s.ringBase r + 16 * (c % s.ringSize r)) (padBytes k) (phaseAt (s.ringSize r) c)

theorem State.writeRecord_grown (s : State) (r : Fin 21) (b : List Byte) : s.writeRecord r b =
    s.grown r (s.rd F.HOST_CQ_STAT_WRITTEN r.val + b.length / 16)
      (s.recordWrites r (s.rd F.HOST_CQ_STAT_WRITTEN r.val) b) := by
  unfold State.writeRecord
  dsimp only
  rw [State.emitOut_logged, State.writeEntry_logged, State.logged_logged]
  rfl

theorem State.writePad_grown (s : State) (r : Fin 21) (k : Nat) : s.writePad r k =
    s.grown r (s.rd F.HOST_CQ_STAT_WRITTEN r.val + k) (s.padWrites r (s.rd F.HOST_CQ_STAT_WRITTEN r.val) k) := by
  unfold State.writePad
  dsimp only
  rw [State.writeEntry_logged]
  rfl

/-- The state with a PAD of `pad` units, if one is needed, and a record's bytes in an RQ. -/
def State.recordPosted (s : State) (r : Fin 21) (pad : Nat) (b : List Byte) : State :=
  (if pad = 0 then s else s.writePad r pad).writeRecord r b

/-- The producer count after a PAD of `pad` units, if one is needed. -/
def State.countPadded (s : State) (r : Fin 21) (pad : Nat) : Nat :=
  if pad = 0 then s.rd F.HOST_CQ_STAT_WRITTEN r.val else (s.rd F.HOST_CQ_STAT_WRITTEN r.val + pad) % 65536

/-- The posted writes of a record and of the PAD before it, newest first. -/
def State.paddedWrites (s : State) (r : Fin 21) (pad : Nat) (b : List Byte) : List Output :=
  s.recordWrites r (s.countPadded r pad) b ++
    if pad = 0 then [] else s.padWrites r (s.rd F.HOST_CQ_STAT_WRITTEN r.val) pad

/-- A ring has grown: only registers and the log change, and of the registers only WRITTEN. -/
structure Grown (s u : State) (r : Fin 21) (c : Nat) (l : List Output) : Prop where
  frame : u = { s with regs := u.regs, out := u.out }
  rd : ∀ f i, f.key i ≠ F.HOST_CQ_STAT_WRITTEN.key r.val → u.rd f i = s.rd f i
  written : u.rd F.HOST_CQ_STAT_WRITTEN r.val = c % 65536
  out : u.out = s.logged l

theorem State.grown_grown (s : State) (r : Fin 21) (c : Nat) (l : List Output) : Grown s (s.grown r c l) r c l where
  frame := rfl
  rd := fun _ _ h => s.rd_wr_ne h.symm c
  written := State.grown_count r c l
  out := rfl

/-- A record and the PAD before it have been posted. -/
theorem State.recordPosted_grown (s : State) (r : Fin 21) (pad : Nat) (b : List Byte) :
    Grown s (s.recordPosted r pad b) r (s.countPadded r pad + b.length / 16) (s.paddedWrites r pad b) := by
  by_cases h : pad = 0
  · have e : s.recordPosted r pad b = s.grown r (s.countPadded r pad + b.length / 16) (s.paddedWrites r pad b) := by
      simp only [State.recordPosted, State.countPadded, State.paddedWrites, if_pos h, List.append_nil,
        State.writeRecord_grown]
    rw [e]
    exact s.grown_grown r _ _
  · have e : s.recordPosted r pad b = (s.grown r (s.rd F.HOST_CQ_STAT_WRITTEN r.val + pad)
        (s.padWrites r (s.rd F.HOST_CQ_STAT_WRITTEN r.val) pad)).grown r (s.countPadded r pad + b.length / 16)
        (s.recordWrites r (s.countPadded r pad) b) := by
      simp only [State.recordPosted, State.countPadded, if_neg h, State.writeRecord_grown, State.writePad_grown,
        State.grown_count, State.recordWrites, State.grown_size, State.grown_base, State.grown_entryWrites]
    rw [e]
    refine ⟨rfl, fun f i k => ?_, State.grown_count _ _ _, ?_⟩
    · exact (State.rd_wr_ne _ k.symm _).trans (s.rd_wr_ne k.symm _)
    · rw [State.paddedWrites, if_neg h]
      exact s.logged_logged _ _

/-! ### RECORD_EGRESS (R78, R79, R89, R488) -/

/-- A record may be sent to RQ `k` (R89, R97, R102). -/
def State.mayEgress (s : State) (k : Fin 4) : Bool :=
  s.mayDma && s.isOn .board && s.sys.role != .satellite && s.flag F.HOST_CQ_CFG_EN (16 + k.val)

theorem execRecordEgress_some {k : Fin 4} {t : Fin 64} {r : BoardRec} (may : s.mayEgress k = true)
    (oldest : s.oldestRec (fun r => !r.event && s.routeOf r == k.val) = some (t, r)) :
    exec (.recordEgress k) s = .next (if s.mayLeave t then s.egressRecord k t r else s) := by
  simp only [State.mayEgress, Bool.and_eq_true, bne_iff_ne, ne_eq] at may
  obtain ⟨⟨⟨dma, board⟩, role⟩, en⟩ := may
  have go : (!s.mayDma || !s.isOn .board || s.sys.role == .satellite || !s.flag F.HOST_CQ_CFG_EN (16 + k.val)) = false := by
    simp [dma, board, role, en]
  change execRecordEgress k s = _
  unfold execRecordEgress
  rw [go, if_neg Bool.false_ne_true, oldest]

theorem execRecordEgress_idle {k : Fin 4} (h : s.mayEgress k = false ∨
    s.oldestRec (fun r => !r.event && s.routeOf r == k.val) = none) : exec (.recordEgress k) s = .next s := by
  change execRecordEgress k s = _
  unfold execRecordEgress
  rcases h with h | h
  · rw [if_pos]
    simp only [State.mayEgress, bne, Bool.and_eq_false_iff, Bool.not_eq_false'] at h
    simp only [Bool.or_eq_true, Bool.not_eq_true']
    exact h
  · rw [h, ite_self]

/-- PAD units before a record of `len` units (R78). -/
def State.padOf (s : State) (r : Fin 21) (len : Nat) : Nat := if s.unitsToEnd r < len then s.unitsToEnd r else 0

/-- A record posted to RQ `k`: it has left, and the burst is of its tile (R488, R489). -/
def State.egressPosted (s : State) (k : Fin 4) (t : Fin 64) (rec : BoardRec) : State :=
  ((s.recordPosted (DevRing.rq k).idx (s.padOf (DevRing.rq k).idx rec.len) (s.recBytes t rec)).markLeft t rec.seq).noteEntry
    (DevRing.rq k).idx

theorem State.egressRecord_full {k : Fin 4} {t : Fin 64} {rec : BoardRec}
    (h : s.ringRoom (DevRing.rq k).idx < rec.len + s.padOf (DevRing.rq k).idx rec.len) : s.egressRecord k t rec = s := if_pos h

theorem State.egressRecord_posts {k : Fin 4} {t : Fin 64} {rec : BoardRec}
    (h : rec.len + s.padOf (DevRing.rq k).idx rec.len ≤ s.ringRoom (DevRing.rq k).idx) :
    s.egressRecord k t rec = ((s.egressPosted k t rec).checkSignal (DevRing.rq k).idx).askVerify := if_neg (Nat.not_lt.mpr h)

theorem State.recBytes_length (t : Fin 64) (rec : BoardRec) : (s.recBytes t rec).length = 16 * rec.len :=
  Memory.readBytes_length _ _ _

/-- A ring has signalled or has not, and verifications may have been asked for. -/
structure EgressOver (s u : State) : Prop where
  frame : u = { s with regs := u.regs, out := u.out, host := u.host, board := u.board }
  rd : ∀ f i, f.key i ≠ F.HOST_INT_STAT_VEC.key 0 → u.rd f i = s.rd f i
  sent : ∃ m, m.length ≤ 1 ∧ (∀ o ∈ m, ∃ v, o = Output.msi v) ∧ u.out = m ++ s.out
  board : u.board = { s.board with verify := u.board.verify }

theorem Signalled.egressOver {t u : State} (h : Signalled s t) (ask : VerifyOnly t u) : EgressOver s u where
  frame := by rw [ask, h.frame]
  rd := fun f i k => (State.rd_congr ask.regs f i).trans (h.rd k)
  sent := by
    rw [ask.out]
    exact h.sent
  board := by rw [ask, h.frame]

/-- The tiles and the burst once a record has left (R488, R489). -/
def BoardPart.withLeft (b : BoardPart) (t : Fin 64) (q : Word) : BoardPart :=
  { b with
    burst := some t.val, verified := b.verified.erase t.val, lastLeft := some 0,
    tiles := vmod b.tiles t (fun x => { x with recs := x.recs.map (fun r => if r.seq = q then { r with left := true } else r) }) }

/-- What a record's egress changes (R78, R86, R89, R92, R488, R489). -/
structure Egressed (s u : State) (r : Fin 21) (pad : Nat) (t : Fin 64) (rec : BoardRec) : Prop where
  frame : u = { s with regs := u.regs, out := u.out, host := u.host, board := u.board }
  rd : ∀ f i, f.key i ∉ [F.HOST_CQ_STAT_WRITTEN.key r.val, F.HOST_INT_STAT_VEC.key 0] → u.rd f i = s.rd f i
  written : u.rd F.HOST_CQ_STAT_WRITTEN r.val = (s.countPadded r pad + rec.len) % 65536
  sent : ∃ m, m.length ≤ 1 ∧ (∀ o ∈ m, ∃ v, o = Output.msi v) ∧
    u.out = m ++ s.logged (s.paddedWrites r pad (s.recBytes t rec))
  board : ∃ l, u.board = { s.board.withLeft t rec.seq with verify := l }

theorem State.egressRecord_egressed {k : Fin 4} {t : Fin 64} {rec : BoardRec}
    (room : rec.len + s.padOf (DevRing.rq k).idx rec.len ≤ s.ringRoom (DevRing.rq k).idx) :
    Egressed s (s.egressRecord k t rec) (DevRing.rq k).idx (s.padOf (DevRing.rq k).idx rec.len) t rec := by
  have posted := s.recordPosted_grown (DevRing.rq k).idx (s.padOf (DevRing.rq k).idx rec.len) (s.recBytes t rec)
  have later := (State.checkSignal_signalled (s.egressPosted k t rec) (DevRing.rq k).idx).egressOver (State.askVerify_verifyOnly _)
  have left : s.egressPosted k t rec = { s with
      regs := (s.egressPosted k t rec).regs, out := (s.egressPosted k t rec).out, host := (s.egressPosted k t rec).host,
      board := s.board.withLeft t rec.seq } := by
    unfold State.egressPosted
    rw [posted.frame]
    rfl
  rw [State.egressRecord_posts room]
  constructor
  case frame => rw [later.frame, left]
  case rd =>
    intro f i h
    simp only [List.mem_cons, List.not_mem_nil, or_false, not_or] at h
    exact (later.rd f i h.2).trans (posted.rd f i h.1)
  case written =>
    refine (later.rd _ _ (written_key_ne_intStat _)).trans (posted.written.trans ?_)
    rw [State.recBytes_length, Nat.mul_div_cancel_left _ (by decide)]
  case sent =>
    obtain ⟨m, short, msi, sent⟩ := later.sent
    exact ⟨m, short, msi, sent.trans (congrArg (m ++ ·) posted.out)⟩
  case board => exact ⟨_, by rw [later.board, left]⟩

end Sys2Proof.Machine
end

section
/-! PROOFS. O14: RECORD_EGRESS as its statement reads, and EVENT_EGRESS outside a satellite. -/

namespace Sys2Proof.Machine
open Sys2Proof

variable {s : State}

theorem State.mayLeave_iff (t : Fin 64) :
    s.mayLeave t = true ↔ (s.tile t).st = .sealed ∧ (s.board.burst = some t.val ∨ t.val ∈ s.board.verified) := by
  simp [State.mayLeave]

theorem BoardPart.withLeft_recs (b : BoardPart) (t : Fin 64) (q : Word) : (vget (b.withLeft t q).tiles t).recs =
    (vget b.tiles t).recs.map (fun x => if x.seq = q then { x with left := true } else x) := by
  simp only [BoardPart.withLeft, vget_vmod_self]

theorem BoardPart.withLeft_others (b : BoardPart) {t v : Fin 64} (h : v ≠ t) (q : Word) :
    vget (b.withLeft t q).tiles v = vget b.tiles v := vget_vmod_ne _ _ h.symm

/-- The oldest record of an RQ does not leave while its tile may not, or the RQ has no room. -/
theorem recordEgress_waits {k : Fin 4} {t : Fin 64} {r : BoardRec} (may : s.mayEgress k = true)
    (oldest : s.oldestRec (fun r => !r.event && s.routeOf r == k.val) = some (t, r))
    (h : (s.tile t).st ≠ .sealed ∨ (s.board.burst ≠ some t.val ∧ t.val ∉ s.board.verified) ∨
      s.ringRoom (DevRing.rq k).idx < r.len + s.padOf (DevRing.rq k).idx r.len) : exec (.recordEgress k) s = .next s := by
  rw [execRecordEgress_some may oldest]
  by_cases leave : s.mayLeave t = true
  · obtain ⟨sealed, verified⟩ := (s.mayLeave_iff t).mp leave
    have full : s.ringRoom (DevRing.rq k).idx < r.len + s.padOf (DevRing.rq k).idx r.len := by tauto
    rw [if_pos leave, State.egressRecord_full full]
  · rw [if_neg leave]

/-- The oldest record of an RQ leaves (R78, R79, R89, R488). -/
theorem recordEgress_sends {k : Fin 4} {t : Fin 64} {r : BoardRec} (may : s.mayEgress k = true)
    (oldest : s.oldestRec (fun r => !r.event && s.routeOf r == k.val) = some (t, r)) (leave : s.mayLeave t = true)
    (room : r.len + s.padOf (DevRing.rq k).idx r.len ≤ s.ringRoom (DevRing.rq k).idx) :
    ∃ u, exec (.recordEgress k) s = .next u ∧
      Egressed s u (DevRing.rq k).idx (s.padOf (DevRing.rq k).idx r.len) t r := by
  refine ⟨_, execRecordEgress_some may oldest, ?_⟩
  rw [if_pos leave]
  exact State.egressRecord_egressed room

theorem Egressed.recs {u : State} {i : Fin 21} {pad : Nat} {t : Fin 64} {r : BoardRec} (h : Egressed s u i pad t r) :
    (u.tile t).recs = (s.tile t).recs.map (fun x => if x.seq = r.seq then { x with left := true } else x) := by
  obtain ⟨l, board⟩ := h.board
  rw [State.tile, board]
  exact s.board.withLeft_recs t r.seq

theorem Egressed.others {u : State} {i : Fin 21} {pad : Nat} {t v : Fin 64} {r : BoardRec} (h : Egressed s u i pad t r)
    (ne : v ≠ t) : u.tile v = s.tile v := by
  obtain ⟨l, board⟩ := h.board
  rw [State.tile, board]
  exact s.board.withLeft_others ne r.seq

theorem Egressed.burst {u : State} {i : Fin 21} {pad : Nat} {t : Fin 64} {r : BoardRec} (h : Egressed s u i pad t r) :
    u.board.burst = some t.val := by
  obtain ⟨l, board⟩ := h.board
  rw [board]
  rfl

theorem Egressed.regsOnly {u : State} {i : Fin 21} {pad : Nat} {t : Fin 64} {r : BoardRec} (h : Egressed s u i pad t r) :
    RegsOnly s { u with out := s.out, host := s.host, board := s.board }
      [F.HOST_CQ_STAT_WRITTEN.key i.val, F.HOST_INT_STAT_VEC.key 0] :=
  ⟨by rw [h.frame], h.rd⟩

/-! ### EVENT_EGRESS outside a satellite (R81, R90) -/

/-- An event may be sent to the EQ (R90, R97, R102). -/
def State.mayEvent (s : State) : Bool :=
  s.mayDma && s.isOn .board && s.flag F.HOST_CQ_CFG_EN 20 && decide (2 ≤ s.ringRoom 20)

theorem execEventEgress_sends {e : Event} {rest : List Event} (role : s.sys.role ≠ .satellite)
    (staged : s.host.staging = e :: rest) (may : s.mayEvent = true) :
    exec .eventEgress s = .next (({ s with host := { s.host with staging := rest } }).commitEvent e).reportOverflow := by
  change execEventEgress s = _
  unfold execEventEgress
  rw [if_neg role, staged]
  exact congrArg Host.Outcome.next (if_pos may)

theorem execEventEgress_idle (role : s.sys.role ≠ .satellite) (h : s.host.staging = [] ∨ s.mayEvent = false) :
    exec .eventEgress s = .next s := by
  change execEventEgress s = _
  unfold execEventEgress
  rw [if_neg role]
  split
  · rfl
  · next e rest staged =>
    have no : s.mayEvent = false := h.resolve_left (by simp [staged])
    exact congrArg Host.Outcome.next (if_neg (ne_true_of_eq_false no))

/-- The posted writes of an event at producer count `c` of the EQ, newest first: the first entry follows the second. -/
def State.eventWrites (s : State) (c : Nat) (b : List Byte) : List Output :=
  s.entryWrites (s.ringBase 20 + 16 * (c % s.ringSize 20)) (b.take 16) (phaseAt (s.ringSize 20) c) ++
    s.entryWrites (s.ringBase 20 + 16 * (c % s.ringSize 20) + 16) (b.drop 16) (phaseAt (s.ringSize 20) c)

/-- An event stands in the EQ with the next SEQ, and the EQ has not signalled it yet. -/
def State.eventPosted (s : State) (e : Event) : State :=
  State.noteEntry { s.wr F.HOST_CQ_STAT_WRITTEN 20 (s.rd F.HOST_CQ_STAT_WRITTEN 20 + 2) with
    sys := { s.sys with seq := s.sys.seq + 1 },
    out := s.logged (s.eventWrites (s.rd F.HOST_CQ_STAT_WRITTEN 20)
      (eventBytes (s.sys.seq + 1) s.sys.timebase s.originSerial (s.eventNow e))) } 20

theorem State.commitEvent_posts (s : State) (e : Event) : s.commitEvent e = (s.eventPosted e).checkSignal 20 := by
  unfold State.commitEvent State.eventPosted
  dsimp only
  rw [State.writeEntry_logged, State.writeEntry_logged, State.logged_logged]
  rfl

/-- An event that arises while staging has room is staged. -/
theorem State.raiseRaw_staged {e : Event} (board : s.isOn .board = true) (role : s.sys.role ≠ .satellite)
    (room : s.host.staging.length < 64) :
    s.raiseRaw e = { s with host := { s.host with staging := s.host.staging ++ [e] } } := by
  rw [State.raiseRaw, if_pos board, State.stageEvent, if_neg role, if_pos room]

/-- The EQ_OVERFLOW event of `n` lost events. -/
def overflowEvent (n : Nat) : Event := ⟨0x17, 0x1C, (padTo 5 (leBytes 2 n)).take 5, none, none⟩

/-- The EQ_OVERFLOW event that is staged when `l` is staged already and `n` events have been lost. -/
def overflowEvents (l : List Event) (n : Nat) : List Event := if n = 0 ∨ 64 ≤ l.length then [] else [overflowEvent n]

/-- The events lost are reported once staging has room (R90). -/
theorem State.reportOverflow_staged (board : s.isOn .board = true) (role : s.sys.role ≠ .satellite) :
    s.reportOverflow = { s with host := { s.host with
      staging := s.host.staging ++ overflowEvents s.host.staging s.host.overflow,
      overflow := if 64 ≤ s.host.staging.length then s.host.overflow else 0 } } := by
  unfold State.reportOverflow overflowEvents
  by_cases none : s.host.overflow = 0
  · have kept : (if 64 ≤ s.host.staging.length then s.host.overflow else 0) = s.host.overflow := by
      split
      exacts [rfl, none.symm]
    rw [kept, if_pos (Or.inl none), List.append_nil, if_pos (by simp [none])]
  · by_cases full : 64 ≤ s.host.staging.length
    · simp [full]
    · simp only [none, full, decide_false, Bool.or_self, Bool.false_eq_true, if_false, or_self]
      exact State.raiseRaw_staged (s := { s with host := { s.host with overflow := 0 } }) board role (Nat.lt_of_not_le full)

/-- What the egress of an event changes (R80, R81, R86, R90, R92). -/
structure EventEgressed (s u : State) (e : Event) (rest : List Event) : Prop where
  frame : u = { s with regs := u.regs, out := u.out, host := u.host, sys := { s.sys with seq := s.sys.seq + 1 } }
  rd : ∀ f i, f.key i ∉ [F.HOST_CQ_STAT_WRITTEN.key 20, F.HOST_INT_STAT_VEC.key 0] → u.rd f i = s.rd f i
  written : u.rd F.HOST_CQ_STAT_WRITTEN 20 = (s.rd F.HOST_CQ_STAT_WRITTEN 20 + 2) % 65536
  sent : ∃ m, m.length ≤ 1 ∧ (∀ o ∈ m, ∃ v, o = Output.msi v) ∧
    u.out = m ++ s.logged (s.eventWrites (s.rd F.HOST_CQ_STAT_WRITTEN 20)
      (eventBytes (s.sys.seq + 1) s.sys.timebase s.originSerial (s.eventNow e)))
  staging : u.host.staging = rest ++ overflowEvents rest s.host.overflow
  overflow : u.host.overflow = if 64 ≤ rest.length then s.host.overflow else 0

theorem EventEgressed.regsOnly {u : State} {e : Event} {rest : List Event} (h : EventEgressed s u e rest) :
    RegsOnly s { u with out := s.out, host := s.host, sys := s.sys } [F.HOST_CQ_STAT_WRITTEN.key 20, F.HOST_INT_STAT_VEC.key 0] :=
  ⟨by rw [h.frame], h.rd⟩

theorem State.commitEvent_egressed (e : Event) (rest : List Event) (board : s.isOn .board = true)
    (role : s.sys.role ≠ .satellite) :
    EventEgressed s (({ s with host := { s.host with staging := rest } }).commitEvent e).reportOverflow e rest := by
  have signal := ({ s with host := { s.host with staging := rest } } : State).eventPosted e |>.checkSignal_signalled 20
  rw [← State.commitEvent_posts] at signal
  generalize ({ s with host := { s.host with staging := rest } } : State).commitEvent e = t at signal
  have staging : t.host.staging = rest := by rw [signal.host]; rfl
  have overflow : t.host.overflow = s.host.overflow := by rw [signal.host]; rfl
  rw [t.reportOverflow_staged (by rw [signal.frame]; exact board) (by rw [signal.frame]; exact role), staging, overflow]
  constructor
  case frame =>
    rw [signal.frame]
    rfl
  case rd =>
    intro f i h
    simp only [List.mem_cons, List.not_mem_nil, or_false, not_or] at h
    exact (signal.rd h.2).trans (s.rd_wr_ne (Ne.symm h.1) _)
  case written => exact (signal.rd (written_key_ne_intStat _)).trans (s.rd_wr_self _ _ _)
  case sent => exact signal.sent
  case staging => rfl
  case overflow => rfl

/-- The first staged event leaves. -/
theorem eventEgress_sends {e : Event} {rest : List Event} (role : s.sys.role ≠ .satellite)
    (staged : s.host.staging = e :: rest) (may : s.mayEvent = true) :
    ∃ u, exec .eventEgress s = .next u ∧ EventEgressed s u e rest := by
  have board : s.isOn .board = true := by
    simp only [State.mayEvent, Bool.and_eq_true] at may
    exact may.1.1.2
  exact ⟨_, execEventEgress_sends role staged may, State.commitEvent_egressed e rest board role⟩

end Sys2Proof.Machine
end

section
/-! PROOFS. O14: tiles that take a record, and EVENT_EGRESS of a satellite. -/

namespace Sys2Proof.Machine
open Sys2Proof

variable {s : State}

/-! ### Tiles that take a record (R486) -/

/-- Looking for a tile changes of the board only its tiles and whether the OPEN tile is to be sealed for its age. -/
theorem State.roomFor_frame (s : State) (len : Nat) : (s.roomFor len).1 = { s with board := { s.board with
    tiles := (s.roomFor len).1.board.tiles, ageOut := (s.roomFor len).1.board.ageOut } } := by
  unfold State.roomFor
  dsimp only
  repeat' split
  all_goals rfl

theorem State.frame_of_roomFor {len : Nat} {v : State} {t : Option (Fin 64)} (h : s.roomFor len = (v, t)) :
    v = { s with board := { s.board with tiles := v.board.tiles, ageOut := v.board.ageOut } } := by
  have frame := s.roomFor_frame len
  rwa [h] at frame

/-- The record `r` and its bytes in tile `t` of `v`, with the next SEQ. -/
def State.stored (v : State) (t : Fin 64) (b : List Byte) (r : BoardRec) : State := v.takeSeq.storeItem t b r

theorem State.stored_recs (v : State) (t : Fin 64) (b : List Byte) (r : BoardRec) :
    ((v.stored t b r).tile t).recs = (v.tile t).recs ++ [{ r with unit := (v.tile t).units }] :=
  congrArg Tile.recs (vget_vmod_self v.board.tiles t _)

theorem State.stored_boardMem (v : State) (t : Fin 64) (b : List Byte) (r : BoardRec) :
    (v.stored t b r).boardMem = Memory.writeBytes v.boardMem (16384 * t.val + 16 * (v.tile t).units) b := rfl

theorem State.stored_frame (v : State) (t : Fin 64) (b : List Byte) (r : BoardRec) : v.stored t b r =
    { v with sys := { v.sys with seq := v.sys.seq + 1 }, board := (v.stored t b r).board,
             boardMem := (v.stored t b r).boardMem } := rfl

/-! ### EVENT_EGRESS of a satellite (R508) -/

theorem execEventEgress_satellite (role : s.sys.role = .satellite) : exec .eventEgress s = .next (State.commitEvents 1 s) := by
  change execEventEgress s = _
  unfold execEventEgress
  rw [if_pos role]

theorem State.commitEvents_idle (n : Nat) (h : s.sys.waitEvents = [] ∨ s.isOn .board = false ∨ s.board.full = true) :
    State.commitEvents n s = s := by
  cases n with
  | zero => rfl
  | succ n =>
    unfold State.commitEvents
    split
    · rfl
    · next e rest waits =>
      have stops : (!s.isOn .board || s.board.full) = true := by
        rcases h with h | h | h
        · simp [waits] at h
        all_goals simp [h]
      rw [if_pos stops]

theorem State.commitEvents_one {v : State} {t : Fin 64} {e : Event} {rest : List Event} (waits : s.sys.waitEvents = e :: rest)
    (board : s.isOn .board = true) (room : s.board.full = false) (found : s.roomFor 2 = (v, some t)) :
    State.commitEvents 1 s = ({ v with sys := { v.sys with waitEvents := rest } } : State).commitPair t e := by
  unfold State.commitEvents
  rw [waits]
  dsimp only
  rw [if_neg (by simp [board, room]), found]
  rfl

theorem State.commitPair_stored (v : State) (t : Fin 64) (e : Event) : v.commitPair t e =
    v.stored t (eventBytes (v.sys.seq + 1) v.sys.timebase v.originSerial (v.eventNow e))
      ⟨v.sys.seq + 1, 0, 2, false, none, e.unit, false, true, v.sys.timebase.toNat⟩ := rfl

/-- A satellite commits its oldest waiting event. -/
theorem eventEgress_commits {v : State} {t : Fin 64} {e : Event} {rest : List Event} (role : s.sys.role = .satellite)
    (waits : s.sys.waitEvents = e :: rest) (board : s.isOn .board = true) (room : s.board.full = false)
    (found : s.roomFor 2 = (v, some t)) :
    let q := s.sys.seq + 1
    ∃ u, exec .eventEgress s = .next u ∧ u.sys = { s.sys with seq := q, waitEvents := rest } ∧
      (u.tile t).recs = (v.tile t).recs ++ [⟨q, (v.tile t).units, 2, false, none, e.unit, false, true, s.sys.timebase.toNat⟩] ∧
      u.boardMem = Memory.writeBytes s.boardMem (16384 * t.val + 16 * (v.tile t).units)
        (eventBytes q s.sys.timebase s.originSerial (s.eventNow e)) ∧
      u = { s with sys := u.sys, board := u.board, boardMem := u.boardMem } := by
  have frame := State.frame_of_roomFor found
  have run := execEventEgress_satellite role
  rw [State.commitEvents_one waits board room found, State.commitPair_stored] at run
  refine ⟨_, run, ?_, ?_, ?_, ?_⟩
  · rw [State.stored_frame, frame]
  · rw [State.stored_recs, frame]
    rfl
  · rw [State.stored_boardMem, frame]
    rfl
  · rw [State.stored_frame, frame]

end Sys2Proof.Machine
end

section
/-! PROOFS. O14: the drain engine. -/

namespace Sys2Proof.Machine
open Sys2Proof

variable {s t u : State} {f : Fin 25}

/-! ### What a drained packet brings with it (R469, R473, R475, R478, R479) -/

/-- The counter of uncorrectable words after `n` more of them. -/
def uncorrCount (v n : Nat) : Nat := if n = 0 then v else (v + n) % F.FIFO_CNT_UNCORR_COUNT.size

theorem uncorrCount_add (v n m : Nat) : uncorrCount (uncorrCount v n) m = uncorrCount v (n + m) := by
  unfold uncorrCount
  by_cases hn : n = 0
  · simp [hn]
  · by_cases hm : m = 0
    · simp [hm]
    · rw [if_neg hm, if_neg hn, if_neg (by omega), Nat.mod_add_mod, Nat.add_assoc]

/-- What follows the commit of a packet of FIFO `f` with `n` uncorrectable words: transactions fail, events arise, the bank
drains and waiting groups start. No other FIFO and no record changes. -/
structure Drained (f : Fin 25) (n : Nat) (s t : State) : Prop where
  frame : t = { s with regs := t.regs, fifos := t.fifos, txns := t.txns, host := t.host, sys := t.sys }
  others : ∀ g, g ≠ f → t.fifo g = s.fifo g
  seq : t.sys.seq = s.sys.seq
  lastSeq : t.sys.lastSeq = s.sys.lastSeq
  corr : t.rd F.FIFO_CNT_CORR_COUNT f.val = s.rd F.FIFO_CNT_CORR_COUNT f.val
  uncorr : t.rd F.FIFO_CNT_UNCORR_COUNT f.val = uncorrCount (s.rd F.FIFO_CNT_UNCORR_COUNT f.val) n

theorem Drained.refl (f : Fin 25) (s : State) : Drained f 0 s s := ⟨rfl, fun _ _ => rfl, rfl, rfl, rfl, rfl⟩

theorem Drained.trans {n m : Nat} (h : Drained f n s t) (k : Drained f m t u) : Drained f (n + m) s u where
  frame := by rw [k.frame, h.frame]
  others := fun g ne => (k.others g ne).trans (h.others g ne)
  seq := k.seq.trans h.seq
  lastSeq := k.lastSeq.trans h.lastSeq
  corr := k.corr.trans h.corr
  uncorr := by rw [k.uncorr, h.uncorr, uncorrCount_add]

/-- A step that counts no uncorrectable word after one that may. -/
theorem Drained.next {n : Nat} (h : Drained f n s t) (k : Drained f 0 t u) : Drained f n s u := h.trans k

theorem Drained.modFifo (h : Drained f 0 s t) (g : Fifo → Fifo) : Drained f 0 s (t.modFifo f g) :=
  h.next ⟨rfl, fun _ ne => t.fifo_modFifo_ne ne.symm g, rfl, rfl, rfl, rfl⟩

theorem Drained.modTxn (h : Drained f 0 s t) (id : Nat) (g : Txn → Txn) : Drained f 0 s (t.modTxn id g) :=
  h.next ⟨rfl, fun _ _ => rfl, rfl, rfl, rfl, rfl⟩

theorem Drained.wr (h : Drained f 0 s t) {g : Fld} {i : Nat} (v : Nat)
    (ne : g.key i ≠ F.FIFO_CNT_CORR_COUNT.key f.val ∧ g.key i ≠ F.FIFO_CNT_UNCORR_COUNT.key f.val) :
    Drained f 0 s (t.wr g i v) :=
  h.next ⟨rfl, fun _ _ => rfl, rfl, rfl, t.rd_wr_ne ne.1 v, t.rd_wr_ne ne.2 v⟩

theorem Drained.eachOf {α : Type} {g : α → State → State} (step : ∀ a x, Drained f 0 x (g a x)) (l : List α) (s : State) :
    Drained f 0 s (forAll l g s) :=
  forAll_inv (Drained f 0 s) (fun a _ h => h.next (step a _)) l s (.refl f s)

theorem Drained.ofSome {α : Type} {g : α → State → State} (step : ∀ a x, Drained f 0 x (g a x)) (o : Option α) (s : State) :
    Drained f 0 s (onSome o g s) := by
  cases o with
  | none => exact .refl f s
  | some a => exact step a s

/-- Raising an event takes no SEQ and notes none. -/
theorem State.raise_seq (s : State) (c : EventCode) (n : Nat) (d : List Byte) :
    (s.raise c n d).sys.seq = s.sys.seq ∧ (s.raise c n d).sys.lastSeq = s.sys.lastSeq := by
  unfold State.raise State.raiseRaw State.stageEvent
  repeat' split
  all_goals exact ⟨rfl, rfl⟩

theorem eqLost_key_ne_fifoCnt (i : Nat) : F.FIFO_CNT_CORR_COUNT.key i ≠ F.HOST_EQ_STAT_LOST.key 0 ∧
    F.FIFO_CNT_UNCORR_COUNT.key i ≠ F.HOST_EQ_STAT_LOST.key 0 := by
  simp only [Fld.key, fldKey]
  omega

theorem Drained.raise {n : Nat} (h : Drained f n s t) (c : EventCode) (k : Nat) (d : List Byte) :
    Drained f n s (t.raise c k d) :=
  h.next ⟨by rw [t.raise_frame], fun _ _ => by rw [t.raise_frame]; rfl, (t.raise_seq c k d).1, (t.raise_seq c k d).2,
    t.raise_rd c k d _ _ (eqLost_key_ne_fifoCnt f.val).1, t.raise_rd c k d _ _ (eqLost_key_ne_fifoCnt f.val).2⟩

theorem overrun_key_ne_fifoCnt (i : Nat) : F.FIFO_STAT_OVERRUN.key i ≠ F.FIFO_CNT_CORR_COUNT.key i ∧
    F.FIFO_STAT_OVERRUN.key i ≠ F.FIFO_CNT_UNCORR_COUNT.key i := by
  simp only [Fld.key, fldKey]
  omega

theorem drop_key_ne_fifoCnt (i : Nat) : F.FIFO_CNT_DROP_COUNT.key i ≠ F.FIFO_CNT_CORR_COUNT.key i ∧
    F.FIFO_CNT_DROP_COUNT.key i ≠ F.FIFO_CNT_UNCORR_COUNT.key i := by
  simp only [Fld.key, fldKey]
  omega

theorem uncorr_key_ne_corr (i : Nat) : F.FIFO_CNT_UNCORR_COUNT.key i ≠ F.FIFO_CNT_CORR_COUNT.key i := by
  simp only [Fld.key, fldKey]
  omega

theorem Drained.fifoOverrun (h : Drained f 0 s t) (k : Nat) : Drained f 0 s (t.fifoOverrun f k) :=
  ((h.wr 1 (overrun_key_ne_fifoCnt f.val)).modFifo _).raise _ _ _

theorem Drained.countDrop (h : Drained f 0 s t) (k : Nat) : Drained f 0 s (t.count F.FIFO_CNT_DROP_COUNT f.val k) :=
  h.wr _ (drop_key_ne_fifoCnt f.val)

/-- Publishing a waiting group drains nothing. -/
theorem Drained.publish (s : State) (ps placed : List Packet) : Drained f 0 s (s.publish f ps placed) := by
  have number : Drained f 0 s { s with sys := { s.sys with nextId := s.sys.nextId + 1 } } :=
    ⟨rfl, fun _ _ => rfl, rfl, rfl, rfl, rfl⟩
  have records := (number.modFifo (fun q => { q with
    fill := q.fill ++ placed.map (fun p => { p with pid := s.sys.nextId }), fillWords := q.fillWords + sumWords placed,
    openGroup := none })).next (Drained.eachOf (g := fun (p : Packet) s =>
      onSome p.txn (fun id s => s.modTxn id (fun t => { t with hasRec := true })) s)
      (fun p x => Drained.ofSome (fun id y => (Drained.refl f y).modTxn id _) p.txn x) ps _)
  unfold State.publish
  dsimp only
  split
  · exact records
  · exact (records.countDrop _).fifoOverrun _

theorem Drained.discardGroup (s : State) (ps : List Packet) (id : Option Nat) : Drained f 0 s (s.discardGroup f ps id) := by
  unfold State.discardGroup
  dsimp only
  refine Drained.next (Drained.countDrop (Drained.modFifo ?_ _) _) (Drained.ofSome (fun id y => (Drained.refl f y).modTxn id _) _ _)
  split
  exacts [.refl f s, (Drained.refl f s).fifoOverrun _]

theorem Drained.writeGroup (s : State) (ps : List Packet) (id : Option Nat) : Drained f 0 s (s.writeGroup f ps id) := by
  unfold State.writeGroup
  split
  exacts [.publish s _ _, .discardGroup s _ _]

/-- Groups that start change only their own FIFO. -/
theorem Drained.startWaiting (n : Nat) (s : State) : Drained f 0 s (State.startWaiting f n s) := by
  induction n generalizing s with
  | zero => exact .refl f s
  | succ n ih =>
    unfold State.startWaiting
    split
    · exact .refl f s
    · dsimp only
      split
      · exact ((((Drained.refl f s).modFifo _).modFifo _).next (.writeGroup _ _ _)).next (ih _)
      · exact (Drained.refl f s).modFifo _

theorem Drained.dropDrained {n : Nat} (h : Drained f n s t) (k : Nat) : Drained f n s (t.dropDrained f k) :=
  h.next (((Drained.refl f t).modFifo _).next (.startWaiting _ _))

/-- With no group waiting only the packets leave. -/
theorem State.dropDrained_fifo (k : Nat) (h : (s.fifo f).waiting = []) :
    (s.dropDrained f k).fifo f = { s.fifo f with drain := (s.fifo f).drain.drop k } := by
  have none : ((s.modFifo f (fun q => { q with drain := q.drain.drop k })).fifo f).waiting = [] := by
    rw [State.fifo_modFifo_self]
    exact h
  unfold State.dropDrained
  dsimp only
  rw [none]
  exact s.fifo_modFifo_self f _

theorem Drained.uncorrectable (a : Nat) (s : State) : Drained f 1 s (State.uncorrectable f a s) :=
  Drained.raise (n := 1) (t := s.count F.FIFO_CNT_UNCORR_COUNT f.val)
    ⟨rfl, fun _ _ => rfl, rfl, rfl, s.rd_wr_ne (uncorr_key_ne_corr f.val) _, s.rd_wr_self _ _ _⟩ _ _ _

theorem Drained.uncorrectables (base : Nat) (l : List Nat) (s : State) :
    Drained f l.length s (forAll l (fun w s => State.uncorrectable f (base + w) s) s) := by
  induction l generalizing s with
  | nil => exact .refl f s
  | cons w l ih =>
    rw [List.length_cons, Nat.add_comm, forAll_cons]
    exact (Drained.uncorrectable _ s).trans (ih _)

theorem State.uncorrectable_fifos (a : Nat) (s : State) : (State.uncorrectable f a s).fifos = s.fifos := by
  unfold State.uncorrectable
  rw [State.raise_frame]
  rfl

theorem Drained.failTxn (id : Nat) (s : State) : Drained f 0 s (State.failTxn id s) := (Drained.refl f s).modTxn id _

end Sys2Proof.Machine
end

section
/-! PROOFS. O14: what the drain engine takes from a FIFO. -/

namespace Sys2Proof.Machine
open Sys2Proof

variable {s v : State} {f : Fin 25}

/-! ### A record as it is committed (R483) -/

/-- The bytes of packet `p` as the next record of this device (R73, R74). -/
def State.ownBytes (v : State) (p : Packet) (st : Nat) (c : List Byte) (stamp : DWord) : List Byte :=
  recordBytes (v.sys.seq + 1) (v.sys.seq + 1) v.originSerial p c.length c st stamp false

/-- The descriptor of packet `p` as the next record of this device (R486). -/
def State.ownRec (v : State) (p : Packet) (c : List Byte) : BoardRec :=
  ⟨v.sys.seq + 1, 0, recordLen c.length, false, p.txn, p.source, false, false, v.sys.timebase.toNat⟩

/-- Packet `p` committed as a record of this device in tile `t` of `v`. -/
def State.committed (v : State) (t : Fin 64) (p : Packet) (st : Nat) (c : List Byte) (stamp : DWord) : State :=
  (v.stored t (v.ownBytes p st c stamp) (v.ownRec p c)).noteSeq p.source (v.sys.seq + 1)

theorem State.commitRecord_some {t : Fin 64} {p : Packet} {st : Nat} {c : List Byte} {stamp : DWord}
    (found : s.roomFor (recordLen c.length) = (v, some t)) :
    s.commitRecord p st c stamp none = (v.committed t p st c stamp, true) := by
  have time : s.sys.timebase = v.sys.timebase := by rw [State.frame_of_roomFor found]
  unfold State.commitRecord State.committed
  dsimp only
  rw [found, time]
  rfl

theorem State.commitRecord_none {p : Packet} {st : Nat} {c : List Byte} {stamp : DWord} {o : Option (Nat × Word)}
    (found : s.roomFor (recordLen c.length) = (v, none)) : s.commitRecord p st c stamp o = (v.stall, false) := by
  unfold State.commitRecord
  dsimp only
  rw [found]

theorem State.stall_full (v : State) : v.stall.board.full = true := by
  unfold State.stall
  split
  · assumption
  · rfl

/-! ### What the drain engine takes from a FIFO (R478) -/

/-- What follows a commit, when there was one. -/
def afterCommit (r : State × Bool) (g : State → State) : State := if r.2 then g r.1 else r.1

/-- Of the packet `p` at the front of FIFO `f`, with the words `bad` uncorrectable, packet `p1` is committed with content `c`
and status `st`, and `k` packets leave the bank. -/
def State.Takes (s : State) (f : Fin 25) (p : Packet) (rest : List Packet) (bad : List Nat) (p1 : Packet) (c : List Byte)
    (st : Nat) (stamp : DWord) (k : Nat) : Prop :=
  (bad = [] ∧ p.ovr = false ∧ p1 = p ∧ c = p.content ∧ st = p.status ∧ stamp = p.stamp ∧ k = 1) ∨
    (0 ∉ bad ∧ (bad ≠ [] ∨ p.ovr = true) ∧ p1 = poisonPacket f bad p ∧ c = [] ∧ st = 0x0D ∧ stamp = s.sys.timebase ∧
      k = 1) ∨
    (0 ∈ bad ∧ p1 = discardNotice f ∧ c = leBytes 2 (sumWords (p :: rest)) ∧ st = 0x0D ∧ stamp = s.sys.timebase ∧
      k = rest.length + 1)

/-- The words of packet `p` that the SECDED check found uncorrectable. -/
def badWords (ecc : List (Nat × Bool)) (p : Packet) : List Nat :=
  ((ecc.filter (fun e => decide (e.1 < p.words))).filter (·.2)).map (·.1)

/-- Number of the words of packet `p` that the SECDED check corrected. -/
def corrCount (ecc : List (Nat × Bool)) (p : Packet) : Nat :=
  ((ecc.filter (fun e => decide (e.1 < p.words))).filter (fun e => !e.2)).length

/-- Number of uncorrectable words counted: one for a bank that is discarded (R478). -/
def badCount (bad : List Nat) : Nat := if 0 ∈ bad then 1 else bad.length

/-- The address of the first word of packet `p` in FIFO memory. -/
def State.packetBase (s : State) (f : Fin 25) (p : Packet) : Nat := bankBase f (!(s.fifo f).bank) + p.addr

theorem State.drainPacket_whole {p : Packet} {ecc : List (Nat × Bool)} (good : badWords ecc p = []) (all : p.ovr = false) :
    s.drainPacket f p ecc = afterCommit (s.commitRecord p p.status p.content p.stamp none)
      (fun x => (x.count F.FIFO_CNT_CORR_COUNT f.val (corrCount ecc p)).dropDrained f 1) := by
  unfold badWords at good
  unfold State.drainPacket
  dsimp only
  rw [good, if_neg (by simp), if_neg (by simp [all])]
  rcases s.commitRecord p p.status p.content p.stamp none with ⟨x, _ | _⟩ <;> rfl

/-- What the commit of a poisoned packet brings with it: its transaction fails, and every uncorrectable word is noted. -/
def State.poisoned (f : Fin 25) (p : Packet) (base : Nat) (bad : List Nat) (x : State) : State :=
  forAll bad (fun w s => State.uncorrectable f (base + w) s) (onSome p.txn State.failTxn x)

theorem State.drainPacket_poisoned {p : Packet} {ecc : List (Nat × Bool)} (length : 0 ∉ badWords ecc p)
    (bad : badWords ecc p ≠ [] ∨ p.ovr = true) :
    s.drainPacket f p ecc = afterCommit
      (s.commitRecord (poisonPacket f (badWords ecc p) p) Status.checksumFail.code [] s.sys.timebase none)
      (fun x => (State.poisoned f p (s.packetBase f p) (badWords ecc p)
        (x.count F.FIFO_CNT_CORR_COUNT f.val (corrCount ecc p))).dropDrained f 1) := by
  have first : (badWords ecc p).contains 0 = false := by simpa using length
  have other : (!(badWords ecc p).isEmpty || p.ovr) = true := by simpa using bad
  unfold badWords at *
  unfold State.drainPacket
  dsimp only
  rw [if_neg (ne_true_of_eq_false first), if_pos other]
  rcases s.commitRecord _ _ _ _ _ with ⟨x, _ | _⟩ <;> rfl

/-- What the commit of a notice brings with it: the transactions of the bank fail, and one word is noted (R478, R479). -/
def State.bankLost (f : Fin 25) (lost : List Packet) (base : Nat) (x : State) : State :=
  State.uncorrectable f base (forAll lost (fun q s => onSome q.txn State.failTxn s) x)

theorem State.drainPacket_discards {p : Packet} {ecc : List (Nat × Bool)} (length : 0 ∈ badWords ecc p) :
    s.drainPacket f p ecc = afterCommit
      (s.commitRecord (discardNotice f) Status.checksumFail.code (leBytes 2 (sumWords (s.fifo f).drain)) s.sys.timebase none)
      (fun x => (State.bankLost f (s.fifo f).drain (s.packetBase f p)
        (x.count F.FIFO_CNT_CORR_COUNT f.val (corrCount ecc p))).dropDrained f (s.fifo f).drain.length) := by
  have first : (badWords ecc p).contains 0 = true := by simpa using length
  unfold badWords at first
  unfold State.drainPacket
  dsimp only
  rw [if_pos first]
  rcases s.commitRecord _ _ _ _ _ with ⟨x, _ | _⟩ <;> rfl

theorem Drained.poisoned (p : Packet) (base : Nat) (bad : List Nat) (x : State) :
    Drained f bad.length x (State.poisoned f p base bad x) := by
  have failed := Drained.ofSome (f := f) (g := State.failTxn) Drained.failTxn p.txn x
  have noted := failed.trans (.uncorrectables base bad _)
  rwa [Nat.zero_add] at noted

theorem State.failed_fifos (o : Option Nat) (x : State) : (onSome o State.failTxn x).fifos = x.fifos :=
  onSome_keeps State.fifos (f := State.failTxn) (fun _ _ => rfl) o x

theorem State.poisoned_fifos (p : Packet) (base : Nat) (bad : List Nat) (x : State) :
    (State.poisoned f p base bad x).fifos = x.fifos :=
  (forAll_keeps State.fifos (fun w x => State.uncorrectable_fifos (base + w) x) bad _).trans (State.failed_fifos p.txn x)

theorem Drained.bankLost (lost : List Packet) (base : Nat) (x : State) :
    Drained f 1 x (State.bankLost f lost base x) := by
  have failed := Drained.eachOf (f := f) (fun (q : Packet) x => Drained.ofSome Drained.failTxn q.txn x) lost x
  have noted := failed.trans (.uncorrectable base _)
  rwa [Nat.zero_add] at noted

theorem State.bankLost_fifos (lost : List Packet) (base : Nat) (x : State) :
    (State.bankLost f lost base x).fifos = x.fifos :=
  (State.uncorrectable_fifos base _).trans (forAll_keeps State.fifos (fun q x => State.failed_fifos q.txn x) lost x)

/-- The drain engine commits the packet that R478 names; what follows the commit drains `k` packets. -/
theorem State.drainPacket_takes {p : Packet} {rest : List Packet} {ecc : List (Nat × Bool)} {p1 : Packet} {c : List Byte}
    {st k : Nat} {stamp : DWord} (front : (s.fifo f).drain = p :: rest)
    (takes : s.Takes f p rest (badWords ecc p) p1 c st stamp k) :
    ∃ g : State → State, (∀ x, Drained f (badCount (badWords ecc p)) x (g x) ∧ (g x).fifos = x.fifos) ∧
      s.drainPacket f p ecc = afterCommit (s.commitRecord p1 st c stamp none)
        (fun x => (g (x.count F.FIFO_CNT_CORR_COUNT f.val (corrCount ecc p))).dropDrained f k) := by
  rcases takes with ⟨good, all, rfl, rfl, rfl, rfl, rfl⟩ | ⟨length, bad, rfl, rfl, rfl, rfl, rfl⟩ |
    ⟨length, rfl, rfl, rfl, rfl, rfl⟩
  · refine ⟨id, fun x => ⟨?_, rfl⟩, State.drainPacket_whole good all⟩
    rw [good]
    exact .refl f x
  · refine ⟨_, fun x => ⟨?_, ?_⟩, State.drainPacket_poisoned length bad⟩
    · rw [badCount, if_neg length]
      exact .poisoned p _ _ x
    · exact State.poisoned_fifos p _ _ x
  · have run := s.drainPacket_discards (f := f) length
    rw [front] at run
    refine ⟨_, fun x => ⟨?_, ?_⟩, run⟩
    · rw [badCount, if_pos length]
      exact .bankLost _ _ x
    · exact State.bankLost_fifos _ _ x

end Sys2Proof.Machine
end

section
/-! PROOFS. O14: DRAIN_TAKE from a FIFO. -/

namespace Sys2Proof.Machine
open Sys2Proof

variable {s v : State} {f : Fin 25}

/-! ### DRAIN_TAKE (R478, R482, R483, R491) -/

/-- The drain engine may take something. -/
def State.mayDrain (s : State) : Bool := s.isOn .board && s.isOn .core && !s.board.full

theorem execDrainTake_idle {ecc : List (Nat × Bool)} (h : s.mayDrain = false ∨ s.nextSource = none) :
    exec (.drainTake ecc) s = .next s := by
  change execDrainTake ecc s = _
  unfold execDrainTake
  by_cases may : s.mayDrain = true
  · rw [h.resolve_left (by simp [may])]
    exact congrArg Host.Outcome.next (ite_self s)
  · have stops : (!s.isOn .board || !s.isOn .core || s.board.full) = true := by
      simp only [State.mayDrain, Bool.and_eq_true, Bool.not_eq_true'] at may
      simp only [Bool.or_eq_true, Bool.not_eq_true']
      by_contra stays
      push Not at stays
      exact may (by simpa using stays)
    exact congrArg Host.Outcome.next (if_pos stops)

theorem State.drains {b : Bool} (may : s.mayDrain = true) {x y : State} (h : (!s.isOn .board || !s.isOn .core || s.board.full) = b) :
    (if b then x else y) = y := by
  have go : b = false := by
    rw [← h]
    simpa [State.mayDrain, and_assoc] using may
  rw [go]
  rfl

theorem execDrainTake_fifo {ecc : List (Nat × Bool)} {p : Packet} {rest : List Packet} (may : s.mayDrain = true)
    (next : s.nextSource = some f.val) (front : (s.fifo f).drain = p :: rest) :
    exec (.drainTake ecc) s = .next ((s.drainPacket f p ecc).served f.val) := by
  have index : ix 24 f.val = f := Fin.ext (Nat.mod_eq_of_lt f.isLt)
  change execDrainTake ecc s = _
  unfold execDrainTake
  rw [State.drains may rfl, next]
  dsimp only
  rw [if_pos f.isLt, index, front]

theorem execDrainTake_ring {ecc : List (Nat × Bool)} {r : RingItem} {rest : List RingItem} (may : s.mayDrain = true)
    (next : s.nextSource = some 25) (front : s.ingress = r :: rest) :
    exec (.drainTake ecc) s = .next ((((s.drainIngress r).served 25).flowCheck true).flowCheck false) := by
  change execDrainTake ecc s = _
  unfold execDrainTake
  rw [State.drains may rfl, next]
  dsimp only
  rw [if_neg (by decide), front]

theorem State.served_of_full {k : Nat} (h : s.board.full = true) : s.served k = s := if_pos h

theorem State.served_of_room {k : Nat} (h : s.board.full = false) :
    s.served k = { s with board := { s.board with lastSource := k } } := if_neg (ne_true_of_eq_false h)

/-- With no tile for the packet draining stops, and the source keeps its turn (R491). -/
theorem drainTake_stalls {ecc : List (Nat × Bool)} {p p1 : Packet} {rest : List Packet} {c : List Byte} {st k : Nat}
    {stamp : DWord} (may : s.mayDrain = true) (next : s.nextSource = some f.val) (front : (s.fifo f).drain = p :: rest)
    (takes : s.Takes f p rest (badWords ecc p) p1 c st stamp k) (found : s.roomFor (recordLen c.length) = (v, none)) :
    exec (.drainTake ecc) s = .next v.stall := by
  obtain ⟨g, -, run⟩ := State.drainPacket_takes front takes
  rw [execDrainTake_fifo may next front, run, State.commitRecord_none found]
  exact congrArg Host.Outcome.next (State.served_of_full v.stall_full)

/-- The state in which record `r` with bytes `b` is committed from FIFO `f`, and `n` corrected words are counted. -/
def State.counted (v : State) (f : Fin 25) (t : Fin 64) (b : List Byte) (r : BoardRec) (n : Nat) : State :=
  ((v.stored t b r).noteSeq r.source (v.sys.seq + 1)).count F.FIFO_CNT_CORR_COUNT f.val n

section
variable (v : State) (f : Fin 25) (t : Fin 64) (b : List Byte) (r : BoardRec) (n : Nat)

theorem State.counted_frame : v.counted f t b r n = { v with
    regs := (v.counted f t b r n).regs, sys := (v.counted f t b r n).sys, board := (v.counted f t b r n).board,
    boardMem := (v.counted f t b r n).boardMem } := by
  unfold State.counted State.count State.wr State.noteSeq
  rw [State.stored_frame]

theorem State.counted_full : (v.counted f t b r n).board.full = v.board.full := rfl

theorem State.counted_seq : (v.counted f t b r n).sys.seq = v.sys.seq + 1 := rfl

theorem State.counted_lastSeq : (v.counted f t b r n).sys.lastSeq =
    (r.source, v.sys.seq + 1) :: v.sys.lastSeq.filter (fun x => x.1 != r.source) := rfl

theorem State.counted_recs :
    ((v.counted f t b r n).tile t).recs = (v.tile t).recs ++ [{ r with unit := (v.tile t).units }] := v.stored_recs t b r

theorem State.counted_boardMem : (v.counted f t b r n).boardMem =
    Memory.writeBytes v.boardMem (16384 * t.val + 16 * (v.tile t).units) b := v.stored_boardMem t b r

theorem State.counted_corr : (v.counted f t b r n).rd F.FIFO_CNT_CORR_COUNT f.val =
    (v.rd F.FIFO_CNT_CORR_COUNT f.val + n) % F.FIFO_CNT_CORR_COUNT.size :=
  State.rd_wr_self ((v.stored t b r).noteSeq r.source (v.sys.seq + 1)) _ _ _

theorem State.counted_uncorr :
    (v.counted f t b r n).rd F.FIFO_CNT_UNCORR_COUNT f.val = v.rd F.FIFO_CNT_UNCORR_COUNT f.val :=
  State.rd_wr_ne ((v.stored t b r).noteSeq r.source (v.sys.seq + 1)) (uncorr_key_ne_corr f.val).symm _

end

/-- A packet of FIFO `f` is taken: what is committed and counted is drained, and the rotation moves on. -/
theorem drainTake_takes {ecc : List (Nat × Bool)} {p p1 : Packet} {rest : List Packet} {c : List Byte} {st k : Nat}
    {stamp : DWord} {t : Fin 64} (may : s.mayDrain = true) (next : s.nextSource = some f.val)
    (front : (s.fifo f).drain = p :: rest) (takes : s.Takes f p rest (badWords ecc p) p1 c st stamp k)
    (found : s.roomFor (recordLen c.length) = (v, some t)) :
    ∃ d, exec (.drainTake ecc) s = .next { d with board := { d.board with lastSource := f.val } } ∧
      Drained f (badCount (badWords ecc p)) (v.counted f t (v.ownBytes p1 st c stamp) (v.ownRec p1 c) (corrCount ecc p)) d ∧
      ((s.fifo f).waiting = [] → d.fifo f = { s.fifo f with drain := (s.fifo f).drain.drop k }) := by
  obtain ⟨g, drained, run⟩ := State.drainPacket_takes front takes
  obtain ⟨gone, fifos⟩ := drained (v.counted f t (v.ownBytes p1 st c stamp) (v.ownRec p1 c) (corrCount ecc p))
  have frame := State.frame_of_roomFor found
  have same : (g (v.counted f t (v.ownBytes p1 st c stamp) (v.ownRec p1 c) (corrCount ecc p))).fifos = s.fifos := by
    rw [fifos, State.counted_frame, frame]
  have drained := gone.dropDrained k
  have room : ((g (v.counted f t (v.ownBytes p1 st c stamp) (v.ownRec p1 c) (corrCount ecc p))).dropDrained f k).board.full = false := by
    rw [drained.frame, State.counted_full, frame]
    simp only [State.mayDrain, Bool.and_eq_true, Bool.not_eq_true'] at may
    exact may.2
  refine ⟨_, ?_, drained, fun none => ?_⟩
  · rw [execDrainTake_fifo may next front, run, State.commitRecord_some found]
    exact congrArg Host.Outcome.next (State.served_of_room room)
  · rw [State.dropDrained_fifo k (by rw [State.fifo, same]; exact none), State.fifo, same]
    rfl

end Sys2Proof.Machine
end

section
/-! PROOFS. O14: what a drained packet leaves behind, and DRAIN_TAKE from the ring. -/

namespace Sys2Proof.Machine
open Sys2Proof

variable {s v d : State} {f : Fin 25}

/-- The turn of the rotation passes to the source after `k`. -/
def State.turned (d : State) (k : Nat) : State := { d with board := { d.board with lastSource := k } }

section
variable {t : Fin 64} {b : List Byte} {r : BoardRec} {n m : Nat}

/-- What draining a packet leaves of the board: the record as it was committed. -/
theorem Drained.board_eq (h : Drained f m (v.counted f t b r n) d) : d.board = (v.counted f t b r n).board := by rw [h.frame]

theorem Drained.recs (h : Drained f m (v.counted f t b r n) d) :
    (d.tile t).recs = (v.tile t).recs ++ [{ r with unit := (v.tile t).units }] := by
  rw [State.tile, h.board_eq]
  exact v.counted_recs f t b r n

theorem Drained.boardMem_eq (h : Drained f m (v.counted f t b r n) d) :
    d.boardMem = Memory.writeBytes v.boardMem (16384 * t.val + 16 * (v.tile t).units) b := by
  rw [h.frame, State.counted_boardMem]

theorem Drained.read_outside (h : Drained f m (v.counted f t b r n) d) {a : Nat}
    (out : a < 16384 * t.val + 16 * (v.tile t).units ∨ 16384 * t.val + 16 * (v.tile t).units + b.length ≤ a) :
    Memory.read d.boardMem a = Memory.read v.boardMem a := by
  rw [h.boardMem_eq, Memory.read_writeBytes_out b v.boardMem out]

theorem Drained.read_inside (h : Drained f m (v.counted f t b r n) d) {i : Nat} (lt : i < b.length) :
    Memory.read d.boardMem (16384 * t.val + 16 * (v.tile t).units + i) = b.getD i 0 := by
  rw [h.boardMem_eq, Memory.read_writeBytes b v.boardMem _ i lt, List.getD_eq_getElem b 0 lt]

theorem Drained.corr_eq (h : Drained f m (v.counted f t b r n) d) : d.rd F.FIFO_CNT_CORR_COUNT f.val =
    (v.rd F.FIFO_CNT_CORR_COUNT f.val + n) % F.FIFO_CNT_CORR_COUNT.size := h.corr.trans (v.counted_corr f t b r n)

theorem Drained.uncorr_eq (h : Drained f m (v.counted f t b r n) d) :
    d.rd F.FIFO_CNT_UNCORR_COUNT f.val = uncorrCount (v.rd F.FIFO_CNT_UNCORR_COUNT f.val) m := by
  rw [h.uncorr, State.counted_uncorr]

end

theorem uncorrCount_badCount (v : Nat) (bad : List Nat) : uncorrCount v (badCount bad) = if bad = [] then v
    else (v + if 0 ∈ bad then 1 else bad.length) % F.FIFO_CNT_UNCORR_COUNT.size := by
  have none : badCount bad = 0 ↔ bad = [] := by
    unfold badCount
    split
    · next h => simp [List.ne_nil_of_mem h]
    · exact List.length_eq_zero_iff
  simp only [uncorrCount, none]
  rfl

/-! ### Ring ingress (R37, R482, R514) -/

/-- The flow control of a ring link changes nothing but the ring part, its counters and the log. -/
theorem State.flowCheck_frame (s : State) (up : Bool) : s.flowCheck up = { s with
    ring := (s.flowCheck up).ring, out := (s.flowCheck up).out, regs := (s.flowCheck up).regs } := by
  unfold State.flowCheck
  dsimp only
  repeat' split
  · rfl
  · rw [State.emitOut_logged]
    rfl
  · rw [State.emitOut_logged]
    rfl
  · rfl

/-- A record that came over the ring as it is stored here: with its origin, and with the next SEQ (R37, R483). -/
def State.ringBytes (v : State) (r : RingItem) : List Byte :=
  let p := packetOfBytes r.bytes
  recordBytes (v.sys.seq + 1) (BitVec.ofNat 32 (leNat ((r.bytes.drop 4).take 4))) (leNat ((r.bytes.drop 8).take 2)) p
    p.content.length p.content p.status p.stamp true

/-- The descriptor of a record that came over the ring. -/
def State.ringRec (v : State) (p : Packet) : BoardRec :=
  ⟨v.sys.seq + 1, 0, recordLen p.content.length, false, none, p.source, true, false, v.sys.timebase.toNat⟩

theorem State.commitRecord_origin {t : Fin 64} {p : Packet} {st : Nat} {c : List Byte} {stamp : DWord} {o : Nat × Word}
    (found : s.roomFor (recordLen c.length) = (v, some t)) : s.commitRecord p st c stamp (some o) =
    (v.stored t (recordBytes (v.sys.seq + 1) o.2 o.1 p c.length c st stamp true)
      ⟨v.sys.seq + 1, 0, recordLen c.length, false, p.txn, p.source, true, false, v.sys.timebase.toNat⟩, true) := by
  have time : s.sys.timebase = v.sys.timebase := by rw [State.frame_of_roomFor found]
  unfold State.commitRecord
  dsimp only
  rw [found, time]
  rfl

theorem State.stored_ingress (t : Fin 64) (b : List Byte) (r : BoardRec) : (v.stored t b r).ingress = v.ingress := rfl

theorem State.drainIngress_record {r : RingItem} {t : Fin 64} (record : r.event = false)
    (found : s.roomFor (recordLen (packetOfBytes r.bytes).content.length) = (v, some t)) :
    s.drainIngress r = { v.stored t (v.ringBytes r) (v.ringRec (packetOfBytes r.bytes)) with ingress := v.ingress.tail } := by
  have source : (packetOfBytes r.bytes).txn = none := rfl
  unfold State.drainIngress State.ringBytes State.ringRec
  rw [if_neg (by simp [record])]
  dsimp only
  rw [State.commitRecord_origin found, source]
  dsimp only
  rw [State.stored_ingress]

theorem State.drainIngress_event {r : RingItem} (event : r.event = true) :
    s.drainIngress r = { s.raiseRaw (eventOfBytes r.bytes) with ingress := s.ingress.tail } := if_pos event

/-- A served item of ring ingress, and the flow control of both links. -/
def State.ringServed (d : State) : State := ((d.turned 25).flowCheck true).flowCheck false

theorem State.ringServed_frame (d : State) : d.ringServed = { d.turned 25 with
    ring := d.ringServed.ring, out := d.ringServed.out, regs := d.ringServed.regs } := by
  unfold State.ringServed
  rw [((d.turned 25).flowCheck true).flowCheck_frame false, (d.turned 25).flowCheck_frame true]

theorem drainTake_ring {ecc : List (Nat × Bool)} {r : RingItem} {rest : List RingItem} (may : s.mayDrain = true)
    (next : s.nextSource = some 25) (front : s.ingress = r :: rest) (room : (s.drainIngress r).board.full = false) :
    exec (.drainTake ecc) s = .next (s.drainIngress r).ringServed := by
  rw [execDrainTake_ring may next front, State.served_of_room room]
  rfl

/-- An item of ring ingress is stored in a tile. -/
theorem drainTake_stored {ecc : List (Nat × Bool)} {r : RingItem} {rest : List RingItem} {t : Fin 64} {n : Nat}
    {b : List Byte} {desc : BoardRec} (may : s.mayDrain = true) (next : s.nextSource = some 25)
    (front : s.ingress = r :: rest) (found : s.roomFor n = (v, some t))
    (item : s.drainIngress r = { v.stored t b desc with ingress := v.ingress.tail }) :
    ∃ u, exec (.drainTake ecc) s = .next u ∧ u.ingress = rest ∧ u.sys = { s.sys with seq := s.sys.seq + 1 } ∧
      u.board.lastSource = 25 ∧
      u.boardMem = Memory.writeBytes s.boardMem (16384 * t.val + 16 * (v.tile t).units) b ∧
      (u.tile t).recs = (v.tile t).recs ++ [{ desc with unit := (v.tile t).units }] := by
  have frame := State.frame_of_roomFor found
  have sys : v.sys = s.sys := by rw [frame]
  have mem : v.boardMem = s.boardMem := by rw [frame]
  have ingress : v.ingress.tail = rest := by
    rw [frame]
    exact congrArg List.tail front
  have room : (s.drainIngress r).board.full = false := by
    simp only [State.mayDrain, Bool.and_eq_true, Bool.not_eq_true'] at may
    rw [item, ← may.2, frame]
    rfl
  refine ⟨_, drainTake_ring may next front room, ?_⟩
  rw [State.ringServed_frame, item, ← sys, ← mem]
  exact ⟨ingress, rfl, rfl, v.stored_boardMem t b desc, v.stored_recs t b desc⟩

/-- A record from the ring is committed with its origin, and changes no LAST_SEQ (R483). -/
theorem drainTake_ringRecord {ecc : List (Nat × Bool)} {r : RingItem} {rest : List RingItem} {t : Fin 64}
    (may : s.mayDrain = true) (next : s.nextSource = some 25) (front : s.ingress = r :: rest) (record : r.event = false)
    (found : s.roomFor (recordLen (packetOfBytes r.bytes).content.length) = (v, some t)) :
    ∃ u, exec (.drainTake ecc) s = .next u ∧ u.ingress = rest ∧ u.sys = { s.sys with seq := s.sys.seq + 1 } ∧
      u.board.lastSource = 25 ∧
      u.boardMem = Memory.writeBytes s.boardMem (16384 * t.val + 16 * (v.tile t).units) (s.ringBytes r) ∧
      (u.tile t).recs = (v.tile t).recs ++ [{ s.ringRec (packetOfBytes r.bytes) with unit := (v.tile t).units }] := by
  have sys : v.sys = s.sys := by rw [State.frame_of_roomFor found]
  have bytes : s.ringBytes r = v.ringBytes r := by rw [State.ringBytes, State.ringBytes, sys]
  have desc : s.ringRec (packetOfBytes r.bytes) = v.ringRec (packetOfBytes r.bytes) := by
    rw [State.ringRec, State.ringRec, sys]
  rw [bytes, desc]
  exact drainTake_stored may next front found (State.drainIngress_record record found)

/-- An event from the ring is staged (R482). -/
theorem drainTake_ringEvent {ecc : List (Nat × Bool)} {r : RingItem} {rest : List RingItem}
    (may : s.mayDrain = true) (next : s.nextSource = some 25) (front : s.ingress = r :: rest) (event : r.event = true)
    (role : s.sys.role ≠ .satellite) (room : s.host.staging.length < 64) :
    ∃ u, exec (.drainTake ecc) s = .next u ∧ u.ingress = rest ∧ u.sys = s.sys ∧
      u.host = { s.host with staging := s.host.staging ++ [eventOfBytes r.bytes] } ∧
      u.boardMem = s.boardMem ∧ u.board.lastSource = 25 := by
  simp only [State.mayDrain, Bool.and_eq_true, Bool.not_eq_true'] at may
  obtain ⟨⟨board, core⟩, notFull⟩ := may
  have item := State.drainIngress_event (s := s) event
  rw [State.raiseRaw_staged board role room] at item
  refine ⟨_, drainTake_ring (by simp [State.mayDrain, board, core, notFull]) next front (by rw [item]; exact notFull), ?_⟩
  rw [State.ringServed_frame, item]
  refine ⟨?_, rfl, rfl, rfl, rfl⟩
  change s.ingress.tail = rest
  rw [front]
  rfl

end Sys2Proof.Machine
end

section
/-! PROOFS. O14: the oldest record or event leaves, and the next packet or ring item is committed. -/

namespace Sys2Proof.Machine
open Sys2Proof

variable {s : State} {f : Fin 25}

/-- What the commit of packet `p1` of FIFO `f` changes, when `v` is `s` with tile `t` found for it and `k` packets leave
the bank (R475, R478, R482, R483). -/
structure PacketTaken (s v u : State) (f : Fin 25) (t : Fin 64) (ecc : List (Nat × Bool)) (p p1 : Packet) (c b : List Byte)
    (k : Nat) : Prop where
  seq : u.sys.seq = s.sys.seq + 1
  lastSeq : u.sys.lastSeq = (p1.source, s.sys.seq + 1) :: s.sys.lastSeq.filter (fun x => x.1 != p1.source)
  turn : u.board.lastSource = f.val
  others : ∀ g, g ≠ f → u.fifo g = s.fifo g
  own : (s.fifo f).waiting = [] → u.fifo f = { s.fifo f with drain := (s.fifo f).drain.drop k }
  recs : (u.tile t).recs = (v.tile t).recs ++ [{ s.ownRec p1 c with unit := (v.tile t).units }]
  outside : ∀ a, a < 16384 * t.val + 16 * (v.tile t).units ∨ 16384 * t.val + 16 * (v.tile t).units + b.length ≤ a →
    Memory.read u.boardMem a = Memory.read s.boardMem a
  inside : ∀ i, i < b.length → Memory.read u.boardMem (16384 * t.val + 16 * (v.tile t).units + i) = b.getD i 0
  corr : u.rd F.FIFO_CNT_CORR_COUNT f.val =
    (s.rd F.FIFO_CNT_CORR_COUNT f.val + corrCount ecc p) % F.FIFO_CNT_CORR_COUNT.size
  uncorr : u.rd F.FIFO_CNT_UNCORR_COUNT f.val = uncorrCount (s.rd F.FIFO_CNT_UNCORR_COUNT f.val) (badCount (badWords ecc p))
  frame : u.planMem = s.planMem ∧ u.rods = s.rods ∧ u.pending = s.pending

theorem drainTake_packet {v : State} {ecc : List (Nat × Bool)} {p p1 : Packet} {rest : List Packet} {c : List Byte}
    {st k : Nat} {stamp : DWord} {t : Fin 64} (may : s.mayDrain = true) (next : s.nextSource = some f.val)
    (front : (s.fifo f).drain = p :: rest) (takes : s.Takes f p rest (badWords ecc p) p1 c st stamp k)
    (found : s.roomFor (recordLen c.length) = (v, some t)) :
    ∃ u, exec (.drainTake ecc) s = .next u ∧ PacketTaken s v u f t ecc p p1 c (s.ownBytes p1 st c stamp) k := by
  obtain ⟨d, run, drained, own⟩ := drainTake_takes may next front takes found
  have frame := State.frame_of_roomFor found
  have sys : v.sys = s.sys := by rw [frame]
  have mem : v.boardMem = s.boardMem := by rw [frame]
  have regs : v.regs = s.regs := by rw [frame]
  have fifos : v.fifos = s.fifos := by rw [frame]
  have desc : v.ownRec p1 c = s.ownRec p1 c := by rw [State.ownRec, sys, State.ownRec]
  have bytes : v.ownBytes p1 st c stamp = s.ownBytes p1 st c stamp := by
    rw [State.ownBytes, State.ownBytes, State.originSerial, State.originSerial, frame]
  rw [bytes, desc] at drained
  refine ⟨_, run, ?_⟩
  constructor
  case seq =>
    rw [← sys]
    exact drained.seq.trans (v.counted_seq f t _ _ _)
  case lastSeq =>
    rw [← sys]
    exact drained.lastSeq.trans (v.counted_lastSeq f t _ _ _)
  case turn => rfl
  case others =>
    intro g ne
    refine (drained.others g ne).trans ?_
    rw [State.fifo, State.counted_frame, State.fifo, ← fifos]
  case own => exact own
  case recs => exact drained.recs
  case outside =>
    rw [← mem]
    exact fun a out => drained.read_outside out
  case inside => exact fun i lt => drained.read_inside lt
  case corr =>
    rw [← State.rd_congr regs]
    exact drained.corr_eq
  case uncorr =>
    rw [← State.rd_congr regs]
    exact drained.uncorr_eq
  case frame =>
    rw [drained.frame, State.counted_frame, frame]
    exact ⟨rfl, rfl, rfl⟩

end Sys2Proof.Machine

open Sys2Proof Sys2Proof.Machine

/-- Settles O14: what the egress of a record, of an event and the drain engine's next source change, each from the lemma
about its command. -/
theorem packetsAreCommittedAndItemsLeaveInOrder : Obligations.PacketsAreCommittedAndItemsLeaveInOrder := by
  unfold Obligations.PacketsAreCommittedAndItemsLeaveInOrder
  refine ⟨⟨?_, ?_, ?_, ?_, ?_, ?_⟩, ?_, ?_, ?_⟩
  · intro s k t r dma board role en oldest
    have may : s.mayEgress k = true := by simp [State.mayEgress, dma, board, role, en]
    refine ⟨fun waits => recordEgress_waits may oldest waits, fun st verified room => ?_⟩
    obtain ⟨u, run, sent⟩ := recordEgress_sends may oldest ((s.mayLeave_iff t).mpr ⟨st, verified⟩) room
    obtain ⟨m, short, msi, out⟩ := sent.sent
    exact ⟨u, m, run, short, msi, out, sent.written, sent.recs, fun v ne => sent.others ne, sent.burst,
      by rw [sent.frame], by rw [sent.frame], by rw [sent.frame], sent.regsOnly⟩
  · intro s k h
    refine execRecordEgress_idle ?_
    rcases h with h | h | h | h | h
    · exact .inl (by simp [State.mayEgress, h])
    · exact .inl (by simp [State.mayEgress, h])
    · exact .inl (by simp [State.mayEgress, h])
    · exact .inl (by simp [State.mayEgress, h])
    · exact .inr h
  · intro s e rest role staged dma board en room
    have may : s.mayEvent = true := by simp [State.mayEvent, dma, board, en, room]
    obtain ⟨u, run, sent⟩ := eventEgress_sends role staged may
    obtain ⟨m, short, msi, out⟩ := sent.sent
    exact ⟨u, m, run, short, msi, out, sent.staging, sent.overflow, by rw [sent.frame],
      sent.written, sent.regsOnly⟩
  · intro s role h
    refine execEventEgress_idle role ?_
    rcases h with h | h | h | h | h
    · exact .inl h
    · exact .inr (by simp [State.mayEvent, h])
    · exact .inr (by simp [State.mayEvent, h])
    · exact .inr (by simp [State.mayEvent, h])
    · exact .inr (by simp [State.mayEvent, h])
  · intro s role h
    rw [execEventEgress_satellite role, State.commitEvents_idle 1 h]
  · intro s v t e rest role waits board room found
    exact eventEgress_commits role waits board room found
  · intro s v f p rest ecc t p1 c st stamp k board core notFull next front here bad takes
    have may : s.mayDrain = true := by simp [State.mayDrain, board, core, notFull]
    refine ⟨fun found => drainTake_stalls may next front takes found, fun found => ?_⟩
    obtain ⟨u, run, taken⟩ := drainTake_packet may next front takes found
    have uncorr := taken.uncorr
    rw [uncorrCount_badCount] at uncorr
    obtain ⟨plan, rods, pending⟩ := taken.frame
    exact ⟨u, run, taken.seq, taken.lastSeq, taken.turn, taken.others, taken.own, taken.recs, taken.outside, taken.inside,
      taken.corr, uncorr, plan, rods, pending⟩
  · intro s v r rest ecc t board core notFull next front
    have may : s.mayDrain = true := by simp [State.mayDrain, board, core, notFull]
    exact ⟨fun record found => drainTake_ringRecord may next front record found,
      fun event role room => drainTake_ringEvent may next front event role room⟩
  · intro s ecc h
    refine execDrainTake_idle ?_
    rcases h with h | h | h | h
    · exact .inl (by simp [State.mayDrain, h])
    · exact .inl (by simp [State.mayDrain, h])
    · exact .inl (by simp [State.mayDrain, h])
    · exact .inr h
end

section
/-! PROOFS. O6: doorbells. -/

namespace Sys2Proof.Machine
open Sys2Proof

variable {s : State}

/-! ### Rejected doorbells (R63, R64) -/

theorem domainOf_host {a : Nat} (h : 0x1000 ≤ a) (k : a < 0x3000) : domainOf a = .host := by
  unfold domainOf
  rw [if_neg (by omega), if_pos k]

/-- A rejected doorbell is noted as an error, which HOST_FAULT reports. -/
theorem State.rejectDoorbell_reported (s : State) {b : Nat} (hb : b < 8) (kind ring addr : Nat) :
    ∃ u, HostErrNoted s u b kind ring addr ∧ s.rejectDoorbell b kind ring addr =
      u.raise .hostFault unitSys [BitVec.ofNat 8 kind, BitVec.ofNat 8 ring, BitVec.ofNat 8 b] :=
  ⟨_, s.hostErr_noted hb kind ring addr, rfl⟩

/-! ### SQ_TAIL_DOORBELL (R61, R63, R64) -/

/-- Descriptors outstanding of ring `q` with its tail at `tail`. -/
def State.outstanding (s : State) (q tail : Nat) : Nat := (tail + 65536 - s.rd F.HOST_SQ_STAT_FETCHED q) % 65536

theorem exec_sqTailDoorbell (on : s.isOn .host = true) (q : Fin 32) (w : Word) :
    exec (.sqTailDoorbell q w) s = .next (writeSqDoorbell q w s) := by
  refine congrArg Host.Outcome.next (State.hostWrite_on ?_)
  rw [domainOf_host (by omega) (by omega), on]

theorem writeSqDoorbell_disabled {q : Fin 32} {w : Word} (en : s.flag F.HOST_SQ_CFG_EN q.val = false) :
    writeSqDoorbell q w s = s.rejectDoorbell 3 0 q.val (0x1000 + 8 * q.val) := by
  unfold writeSqDoorbell
  rw [en]
  rfl

theorem writeSqDoorbell_enabled {q : Fin 32} {w : Word} (en : s.flag F.HOST_SQ_CFG_EN q.val = true) :
    writeSqDoorbell q w s =
      if s.outstanding q.val (w.toNat % 65536) ≤ 2 ^ s.rd F.HOST_SQ_CFG_SIZE q.val then
        s.wr F.DOORBELL_SQ_COUNT q.val (w.toNat % 65536)
      else (s.wr F.HOST_SQ_STAT_DB_ERR q.val 1).rejectDoorbell 2 0 q.val (0x1000 + 8 * q.val) := by
  unfold writeSqDoorbell
  rw [en, bits_low]
  rfl

/-! ### HEAD_DOORBELL (R62, R63, R64, R93) -/

/-- A head that the doorbell of ring `r` takes: between the old head and the producer count, even for the EQ. -/
def State.headFits (s : State) (r : DevRing) (head : Nat) : Bool :=
  decide ((head + 65536 - s.rd F.DOORBELL_CQ_COUNT r.idx.val) % 65536 ≤
      (s.rd F.HOST_CQ_STAT_WRITTEN r.idx.val + 65536 - s.rd F.DOORBELL_CQ_COUNT r.idx.val) % 65536) &&
    !(r == .eq && head % 2 == 1)

theorem State.headFits_iff {r : DevRing} {head : Nat} : s.headFits r head = true ↔
    (head + 65536 - s.rd F.DOORBELL_CQ_COUNT r.idx.val) % 65536 ≤
      (s.rd F.HOST_CQ_STAT_WRITTEN r.idx.val + 65536 - s.rd F.DOORBELL_CQ_COUNT r.idx.val) % 65536 ∧
    ¬(r = .eq ∧ head % 2 = 1) := by
  simp only [State.headFits, Bool.and_eq_true, decide_eq_true_eq, Bool.not_eq_true', ← Bool.not_eq_true, beq_iff_eq]

theorem exec_headDoorbell (on : s.isOn .host = true) (r : DevRing) (w : Word) :
    exec (.headDoorbell r w) s = .next (writeHeadDoorbell r w s) := by
  refine congrArg Host.Outcome.next (State.hostWrite_on ?_)
  rw [domainOf_host (by omega) (by omega), on]

theorem writeHeadDoorbell_disabled {r : DevRing} {w : Word} (en : s.flag F.HOST_CQ_CFG_EN r.idx.val = false) :
    writeHeadDoorbell r w s = s.rejectDoorbell 3 r.kindNo.1 r.kindNo.2 (0x1100 + 8 * r.idx.val) := by
  unfold writeHeadDoorbell
  dsimp only
  rw [en]
  rfl

theorem writeHeadDoorbell_enabled {r : DevRing} {w : Word} (en : s.flag F.HOST_CQ_CFG_EN r.idx.val = true) :
    writeHeadDoorbell r w s =
      if s.headFits r (w.toNat % 65536) then
        (s.wr F.DOORBELL_CQ_COUNT r.idx.val (w.toNat % 65536)).consume r.idx (w.toNat % 65536)
      else (s.wr F.HOST_CQ_STAT_DB_ERR r.idx.val 1).rejectDoorbell 2 r.kindNo.1 r.kindNo.2 (0x1100 + 8 * r.idx.val) := by
  unfold writeHeadDoorbell
  dsimp only
  rw [en, bits_low]
  rfl

theorem doorbell_key_ne_written (i : Nat) (h : i < 21) : F.DOORBELL_CQ_COUNT.key i ≠ F.HOST_CQ_STAT_WRITTEN.key i := by
  simp only [Fld.key, fldKey]
  omega

/-- Consuming entries changes what is unsignalled of the ring, and nothing else. -/
theorem State.consume_frame (s : State) (r : Fin 21) (head : Nat) : s.consume r head =
    { s with host := { s.host with unsig := vmod s.host.unsig r (fun l => l.filter (fun e => decide
      ((s.rd F.HOST_CQ_STAT_WRITTEN r.val + 65536 - e.1) % 65536 < (s.rd F.HOST_CQ_STAT_WRITTEN r.val + 65536 - head) % 65536))) } } :=
  rfl

end Sys2Proof.Machine

open Sys2Proof Sys2Proof.Machine

/-- Settles O6, by what the write of a tail doorbell and of a head doorbell does in range, out of range, and to a disabled
ring. -/
theorem doorbellsAreTakenInRangeOrRejected : Obligations.DoorbellsAreTakenInRangeOrRejected := by
  unfold Obligations.DoorbellsAreTakenInRangeOrRejected
  refine ⟨fun s q w on => ⟨fun en fits => ?_, fun en beyond => ?_, fun en => ?_⟩,
    fun s r w on => ⟨fun en fits => ?_, fun en off => ?_, fun en => ?_⟩⟩
  · rw [exec_sqTailDoorbell on, writeSqDoorbell_enabled en]
    exact congrArg _ (if_pos fits)
  · rw [exec_sqTailDoorbell on, writeSqDoorbell_enabled en, if_neg (Nat.not_le_of_lt (by exact beyond))]
    obtain ⟨u, noted, e⟩ := State.rejectDoorbell_reported (s.wr F.HOST_SQ_STAT_DB_ERR q.val 1) (b := 2) (by decide) 0 q.val
      (0x1000 + 8 * q.val)
    exact ⟨u, noted, congrArg _ e⟩
  · rw [exec_sqTailDoorbell on, writeSqDoorbell_disabled en]
    obtain ⟨u, noted, e⟩ := s.rejectDoorbell_reported (b := 3) (by decide) 0 q.val (0x1000 + 8 * q.val)
    exact ⟨u, noted, congrArg _ e⟩
  · rw [exec_headDoorbell on, writeHeadDoorbell_enabled en, if_pos (State.headFits_iff.mpr fits), State.consume_frame,
      State.rd_wr_ne _ (doorbell_key_ne_written _ r.idx.isLt)]
    refine ⟨_, rfl, ?_, vget_vmod_self _ _ _, fun j ne => vget_vmod_ne _ _ ne.symm, rfl, RegsOnly.wr s _ _ _⟩
    exact (s.rd_wr_self _ _ _).trans (Nat.mod_mod _ 65536)
  · rw [exec_headDoorbell on, writeHeadDoorbell_enabled en, if_neg (mt State.headFits_iff.mp off)]
    obtain ⟨u, noted, e⟩ := State.rejectDoorbell_reported (s.wr F.HOST_CQ_STAT_DB_ERR r.idx.val 1) (b := 2) (by decide)
      r.kindNo.1 r.kindNo.2 (0x1100 + 8 * r.idx.val)
    exact ⟨u, noted, congrArg _ e⟩
  · rw [exec_headDoorbell on, writeHeadDoorbell_disabled en]
    obtain ⟨u, noted, e⟩ := s.rejectDoorbell_reported (b := 3) (by decide) r.kindNo.1 r.kindNo.2 (0x1100 + 8 * r.idx.val)
    exact ⟨u, noted, congrArg _ e⟩
end

section
/-! PROOFS. O7: which register a write of the ring configuration reaches, fields locked while a ring is enabled, and errors
that are noted. -/

namespace Sys2Proof.Machine
open Sys2Proof

variable {s : State}

/-! ### Errors that are noted (R104, R105) -/

theorem HostErrNoted.rd {t : State} {b kind ring addr : Nat} (h : HostErrNoted s t b kind ring addr) {f : Fld} {i : Nat}
    (k : f.key i ∉ hostErrKeys b) : t.rd f i = s.rd f i := h.2.2.2.2 f i k

/-- The same error noted again changes nothing that was noted. -/
theorem HostErrNoted.again {t : State} {b kind ring addr : Nat} (hb : b < 8) (h : HostErrNoted s t b kind ring addr) :
    HostErrNoted s (t.hostErr b kind ring addr) b kind ring addr := by
  obtain ⟨set, first, later, frame⟩ := h
  obtain ⟨set', -, later', -⟩ := t.hostErr_noted hb kind ring addr
  have only := later' ⟨b, hb, by rw [set]; decide⟩
  have kept : ∀ {g : Fld}, g.lo ≠ b ∨ g.addr ≠ 0x2008 → g.lo < 32 → g.key 0 ∉ [fldKey 0x2008 b] := by
    intro g apart lo
    simp only [List.mem_singleton, Fld.key, fldKey]
    omega
  refine ⟨set', fun clear => ?_, fun any => ((later any).trans only).mono (by simp),
    (frame.trans only).mono (by simp [hostErrKeys])⟩
  obtain ⟨ring', kind', bit', lo, hi⟩ := first clear
  exact ⟨(only.2 _ _ (kept (.inr (by decide)) (by decide))).trans ring',
    (only.2 _ _ (kept (.inr (by decide)) (by decide))).trans kind',
    (only.2 _ _ (kept (.inr (by decide)) (by decide))).trans bit',
    (only.2 _ _ (kept (.inr (by decide)) (by decide))).trans lo,
    (only.2 _ _ (kept (.inr (by decide)) (by decide))).trans hi⟩

/-! ### The registers of a ring (R97) -/

theorem exec_hostRingCfgWrite (on : s.isOn .host = true) {a : Nat} (w : Word) (lo : 0x2100 ≤ a) (hi : a < 0x27A0) :
    exec (.hostRingCfgWrite a w) s = .next (writeRingCfg a w s) := by
  refine congrArg Host.Outcome.next ((if_pos (by simp [lo, hi])).trans (State.hostWrite_on ?_))
  rw [domainOf_host (by omega) (by omega), on]

theorem ix_val {n k : Nat} (h : k ≤ n) : (ix n k).val = k := Nat.mod_eq_of_lt (by omega)

theorem ix_fin {n : Nat} (k : Fin (n + 1)) : ix n k.val = k := Fin.ext (ix_val (by omega))

/-- The index of a device-written ring names it. -/
theorem devRingOf_idx (r : DevRing) : devRingOf r.idx.val = r := by
  unfold devRingOf
  cases r with
  | cq m => exact (if_pos m.isLt).trans (congrArg _ (ix_fin m))
  | rq k =>
    have idx : (DevRing.rq k).idx.val = 16 + k.val := rfl
    rw [idx, if_neg (by omega), if_pos (by omega), Nat.add_sub_cancel_left, ix_fin]
  | eq => rfl

/-- The registers of SQ `q`. -/
theorem writeRingCfg_sq (q : Fin 32) (w : Word) {off : Nat} (h : off < 0x20) :
    writeRingCfg (0x2100 + 0x20 * q.val + off) w s =
      if off = 0 then writeLocked (s.flag F.HOST_SQ_CFG_EN q.val) F.HOST_SQ_BASE_LO_BASE q.val (bits w.toNat 31 6) true 0
        q.val (0x2100 + 0x20 * q.val + off) s
      else if off = 4 then writeLocked (s.flag F.HOST_SQ_CFG_EN q.val) F.HOST_SQ_BASE_HI_BASE q.val w.toNat true 0 q.val
        (0x2100 + 0x20 * q.val + off) s
      else if off = 8 then writeSqCfg q w.toNat s
      else s := by
  have sub : 0x2100 + 0x20 * q.val + off - 0x2100 = 0x20 * q.val + off := by omega
  have ring : (0x20 * q.val + off) / 0x20 = q.val := by omega
  have reg : (0x20 * q.val + off) % 0x20 = off := by omega
  unfold writeRingCfg
  dsimp only
  rw [if_pos (by simp; omega), sub, ring, reg, ix_fin]

/-- The registers of device-written ring `r`. -/
theorem writeRingCfg_dev (r : DevRing) (w : Word) {off : Nat} (h : off < 0x20) :
    writeRingCfg (0x2500 + 0x20 * r.idx.val + off) w s =
      if off = 0 then writeLocked (s.flag F.HOST_CQ_CFG_EN r.idx.val) F.HOST_CQ_BASE_LO_BASE r.idx.val (bits w.toNat 31 6)
        true r.kindNo.1 r.kindNo.2 (0x2500 + 0x20 * r.idx.val + off) s
      else if off = 4 then writeLocked (s.flag F.HOST_CQ_CFG_EN r.idx.val) F.HOST_CQ_BASE_HI_BASE r.idx.val w.toNat true
        r.kindNo.1 r.kindNo.2 (0x2500 + 0x20 * r.idx.val + off) s
      else if off = 8 then writeDevCfg r w.toNat s
      else if off = 12 then writeDevMod r w.toNat s
      else s := by
  have idx := r.idx.isLt
  have sub : 0x2500 + 0x20 * r.idx.val + off - 0x2500 = 0x20 * r.idx.val + off := by omega
  have ring : (0x20 * r.idx.val + off) / 0x20 = r.idx.val := by omega
  have reg : (0x20 * r.idx.val + off) % 0x20 = off := by omega
  unfold writeRingCfg
  dsimp only
  rw [if_neg (by simp; omega), if_pos (by simp; omega), sub, ring, reg, devRingOf_idx]

/-! ### Fields locked while the ring is enabled (R97) -/

section
variable {f : Fld} {i v kind ring addr : Nat} {en legal : Bool}

theorem writeLocked_same (h : s.rd f i = v) : writeLocked en f i v legal kind ring addr s = s := by
  simp [writeLocked, h]

theorem writeLocked_illegal : writeLocked en f i v false kind ring addr s = s := by simp [writeLocked]

theorem writeLocked_free (h : s.rd f i ≠ v) : writeLocked false f i v true kind ring addr s = s.wr f i v := by
  simp [writeLocked, h]

theorem writeLocked_busy (h : s.rd f i ≠ v) :
    writeLocked true f i v true kind ring addr s = s.hostErr 4 kind ring addr := by
  simp [writeLocked, h, State.cfgBusy]

/-- A field of a disabled ring takes a legal value. -/
theorem writeLocked_disabled (fits : v < f.size) :
    (writeLocked false f i v legal kind ring addr s).rd f i = (if legal then v else s.rd f i) ∧
    RegsOnly s (writeLocked false f i v legal kind ring addr s) [f.key i] := by
  cases legal with
  | false =>
    rw [writeLocked_illegal]
    exact ⟨rfl, (RegsOnly.refl s).mono (by simp)⟩
  | true =>
    by_cases same : s.rd f i = v
    · rw [writeLocked_same same]
      exact ⟨same, (RegsOnly.refl s).mono (by simp)⟩
    · rw [writeLocked_free same, State.rd_wr_self]
      exact ⟨Nat.mod_eq_of_lt fits, RegsOnly.wr s f i v⟩

/-- A register whose write is that of one locked field: the value is kept, taken, or refused with an error. -/
theorem locked_of_run {w : Word} (run : exec (.hostRingCfgWrite addr w) s = .next (writeLocked en f i v true kind ring addr s)) :
    (v = s.rd f i → exec (.hostRingCfgWrite addr w) s = .next s) ∧
    (v ≠ s.rd f i → en = false → exec (.hostRingCfgWrite addr w) s = .next (s.wr f i v)) ∧
    (v ≠ s.rd f i → en = true →
      ∃ t, exec (.hostRingCfgWrite addr w) s = .next t ∧ HostErrNoted s t 4 kind ring addr) := by
  rw [run]
  refine ⟨fun same => ?_, fun other off => ?_, fun other on => ?_⟩
  · rw [writeLocked_same same.symm]
  · rw [off, writeLocked_free other.symm]
  · rw [on, writeLocked_busy other.symm]
    exact ⟨_, rfl, s.hostErr_noted (by decide) kind ring addr⟩

end

/-! ### MOD (R92, R97) -/

theorem writeDevMod_eq (r : DevRing) (v : Nat) : writeDevMod r v s =
    writeLocked (s.flag F.HOST_CQ_CFG_EN r.idx.val) F.HOST_CQ_MOD_MOD_TIME r.idx.val (v / 2 ^ 16 % 1024)
      (v / 2 ^ 16 % 1024 != 0) r.kindNo.1 r.kindNo.2 (0x250C + 0x20 * r.idx.val)
      (writeLocked (s.flag F.HOST_CQ_CFG_EN r.idx.val) F.HOST_CQ_MOD_MOD_CNT r.idx.val (v % 256) true r.kindNo.1 r.kindNo.2
        (0x250C + 0x20 * r.idx.val) s) := by
  unfold writeDevMod
  dsimp only
  rw [bits_eq v 25 16, bits_low v 7]
  rfl

theorem modCnt_key_ne_modTime (i : Nat) : F.HOST_CQ_MOD_MOD_CNT.key i ≠ F.HOST_CQ_MOD_MOD_TIME.key i :=
  Fld.key_ne_of_lo (by decide)

/-- A write of MOD of a disabled ring takes MOD_CNT, and MOD_TIME unless it is 0. -/
theorem writeDevMod_disabled {r : DevRing} (en : s.flag F.HOST_CQ_CFG_EN r.idx.val = false) (v : Nat) :
    (writeDevMod r v s).rd F.HOST_CQ_MOD_MOD_CNT r.idx.val = v % 256 ∧
    (writeDevMod r v s).rd F.HOST_CQ_MOD_MOD_TIME r.idx.val =
      (if v / 2 ^ 16 % 1024 = 0 then s.rd F.HOST_CQ_MOD_MOD_TIME r.idx.val else v / 2 ^ 16 % 1024) ∧
    RegsOnly s (writeDevMod r v s) [F.HOST_CQ_MOD_MOD_CNT.key r.idx.val, F.HOST_CQ_MOD_MOD_TIME.key r.idx.val] := by
  rw [writeDevMod_eq, en]
  obtain ⟨cnt, cntOnly⟩ := writeLocked_disabled (s := s) (f := F.HOST_CQ_MOD_MOD_CNT) (i := r.idx.val) (v := v % 256)
    (legal := true) (kind := r.kindNo.1) (ring := r.kindNo.2) (addr := 0x250C + 0x20 * r.idx.val)
    (Nat.mod_lt _ (by decide))
  generalize writeLocked false F.HOST_CQ_MOD_MOD_CNT r.idx.val (v % 256) true r.kindNo.1 r.kindNo.2
    (0x250C + 0x20 * r.idx.val) s = u at cnt cntOnly
  obtain ⟨time, timeOnly⟩ := writeLocked_disabled (s := u) (f := F.HOST_CQ_MOD_MOD_TIME) (i := r.idx.val)
    (v := v / 2 ^ 16 % 1024) (legal := v / 2 ^ 16 % 1024 != 0) (kind := r.kindNo.1) (ring := r.kindNo.2)
    (addr := 0x250C + 0x20 * r.idx.val) (Nat.mod_lt _ (by decide))
  have apart := modCnt_key_ne_modTime r.idx.val
  refine ⟨?_, ?_, (cntOnly.trans timeOnly).mono (by simp)⟩
  · rw [timeOnly.2 _ _ (by simpa using apart), cnt, if_pos rfl]
  · rw [time, cntOnly.2 _ _ (by simpa using apart.symm)]
    simp

/-- A write of MOD of an enabled ring that would change a field is refused with an error. -/
theorem writeDevMod_enabled {r : DevRing} (en : s.flag F.HOST_CQ_CFG_EN r.idx.val = true) {v : Nat}
    (changes : v % 256 ≠ s.rd F.HOST_CQ_MOD_MOD_CNT r.idx.val ∨
      (v / 2 ^ 16 % 1024 ≠ 0 ∧ v / 2 ^ 16 % 1024 ≠ s.rd F.HOST_CQ_MOD_MOD_TIME r.idx.val)) :
    HostErrNoted s (writeDevMod r v s) 4 r.kindNo.1 r.kindNo.2 (0x250C + 0x20 * r.idx.val) := by
  rw [writeDevMod_eq, en]
  by_cases same : s.rd F.HOST_CQ_MOD_MOD_CNT r.idx.val = v % 256
  · obtain ⟨legal, other⟩ := changes.resolve_left (fun ne => ne same.symm)
    rw [writeLocked_same same, bne_iff_ne.mpr legal, writeLocked_busy other.symm]
    exact s.hostErr_noted (by decide) _ _ _
  · rw [writeLocked_busy same]
    have noted := s.hostErr_noted (b := 4) (by decide) r.kindNo.1 r.kindNo.2 (0x250C + 0x20 * r.idx.val)
    generalize s.hostErr 4 r.kindNo.1 r.kindNo.2 (0x250C + 0x20 * r.idx.val) = t at noted
    unfold writeLocked
    split
    · exact noted
    · exact noted.again (by decide)

end Sys2Proof.Machine
end

section
/-! PROOFS. O7: the configuration of a device-written ring and of an SQ. -/

namespace Sys2Proof.Machine
open Sys2Proof

variable {s : State}

/-! ### SIZE (R97) -/

/-- SIZE after a write of `v` over `old`: 4 to 12 are legal. -/
def sizeTaken (v old : Nat) : Nat := if 4 ≤ bits v 3 0 && bits v 3 0 ≤ 12 then bits v 3 0 else old

theorem sizeTaken_eq (v old : Nat) : sizeTaken v old = if 4 ≤ v % 16 ∧ v % 16 ≤ 12 then v % 16 else old := by
  have low : bits v 3 0 = v % 16 := bits_low v 3
  simp [sizeTaken, low]

theorem sizeTaken_legal {v : Nat} (lo : 4 ≤ v % 16) (hi : v % 16 ≤ 12) (old : Nat) : sizeTaken v old = v % 16 := by
  rw [sizeTaken_eq, if_pos ⟨lo, hi⟩]

/-! ### CFG of a disabled device-written ring (R90, R97) -/

section
variable {r : DevRing} {v : Nat}

/-- SIZE, VECTOR and IRQ_EN of a disabled ring are taken. -/
def State.devCfgTaken (s : State) (i v : Nat) : State :=
  ((s.wr F.HOST_CQ_CFG_IRQ_EN i (bits v 17 17)).wr F.HOST_CQ_CFG_SIZE i (sizeTaken v (s.rd F.HOST_CQ_CFG_SIZE i))).wr
    F.HOST_CQ_CFG_VECTOR i (bits v 8 4)

theorem writeDevCfg_disabled (en : s.flag F.HOST_CQ_CFG_EN r.idx.val = false) : writeDevCfg r v s =
    if bit v 16 then ((s.devCfgTaken r.idx.val v).wr F.HOST_CQ_CFG_EN r.idx.val 1).startRing r.idx
    else s.devCfgTaken r.idx.val v := by
  unfold writeDevCfg
  dsimp only
  rw [en]
  rfl

theorem State.devCfgTaken_rd (s : State) (i v : Nat) :
    (s.devCfgTaken i v).rd F.HOST_CQ_CFG_SIZE i =
      (if 4 ≤ v % 16 ∧ v % 16 ≤ 12 then v % 16 else s.rd F.HOST_CQ_CFG_SIZE i) % 16 ∧
    (s.devCfgTaken i v).rd F.HOST_CQ_CFG_VECTOR i = v / 16 % 32 ∧
    (s.devCfgTaken i v).rd F.HOST_CQ_CFG_IRQ_EN i = v / 2 ^ 17 % 2 := by
  unfold State.devCfgTaken
  refine ⟨?_, ?_, ?_⟩
  · rw [State.rd_wr_ne _ (Fld.key_ne_of_lo (by decide)), State.rd_wr_self, sizeTaken_eq]
    rfl
  · rw [State.rd_wr_self, bits_mod_size v 8 4 rfl, bits_eq]
    rfl
  · rw [State.rd_wr_ne _ (Fld.key_ne_of_lo (by decide)), State.rd_wr_ne _ (Fld.key_ne_of_lo (by decide)), State.rd_wr_self,
      bits_mod_size v 17 17 rfl, bits_eq]
    rfl

theorem State.devCfgTaken_regsOnly (s : State) (i v : Nat) : RegsOnly s (s.devCfgTaken i v)
    [F.HOST_CQ_CFG_SIZE.key i, F.HOST_CQ_CFG_VECTOR.key i, F.HOST_CQ_CFG_IRQ_EN.key i] :=
  (((RegsOnly.wr s _ _ _).then _ _ _).then _ _ _).mono (by simp)

/-- Enabling a ring brings its counts to 0 and leaves no entry unsignalled. -/
theorem State.startRing_effect (s : State) (i : Fin 21) : let t := (s.wr F.HOST_CQ_CFG_EN i.val 1).startRing i
    t.rd F.HOST_CQ_CFG_EN i.val = 1 ∧ t.rd F.HOST_CQ_STAT_WRITTEN i.val = 0 ∧ t.rd F.DOORBELL_CQ_COUNT i.val = 0 ∧
    t.rd F.HOST_CQ_STAT_LOST i.val = 0 ∧ vget t.host.unsig i = [] ∧
    RegsOnly s { t with host := s.host } [F.HOST_CQ_CFG_EN.key i.val, F.HOST_CQ_STAT_WRITTEN.key i.val,
      F.DOORBELL_CQ_COUNT.key i.val, F.HOST_CQ_STAT_LOST.key i.val] := by
  have idx := i.isLt
  have regs : ∀ (f : Fld), ((s.wr F.HOST_CQ_CFG_EN i.val 1).startRing i).rd f i.val =
      ((((s.wr F.HOST_CQ_CFG_EN i.val 1).wr F.HOST_CQ_STAT_WRITTEN i.val 0).wr F.DOORBELL_CQ_COUNT i.val 0).wr
        F.HOST_CQ_STAT_LOST i.val 0).rd f i.val := fun _ => rfl
  refine ⟨?_, ?_, ?_, ?_, vget_vset_self _ _ _, ((((RegsOnly.wr s _ _ _).then _ _ _).then _ _ _).then _ _ _).mono (by simp)⟩
  all_goals
    rw [regs]
    simp (disch := (simp only [Fld.key, fldKey]; omega)) only [State.rd_wr_ne, State.rd_wr_self]
    rfl

/-- A field of a CFG register of a device-written ring, other than EN. -/
abbrev Fld.inDevCfg (f : Fld) : Prop := f.addr = 0x2508 ∧ f.stride = 0x20 ∧ f.lo < 32 ∧ f.lo ≠ 16

theorem State.startRing_rd_cfg (s : State) (i : Fin 21) {f : Fld} (h : f.inDevCfg) :
    ((s.wr F.HOST_CQ_CFG_EN i.val 1).startRing i).rd f i.val = s.rd f i.val := by
  obtain ⟨addr, stride, lo, en⟩ := h
  have idx := i.isLt
  obtain ⟨-, -, -, -, -, only⟩ := s.startRing_effect i
  refine only.2 f i.val ?_
  simp only [List.mem_cons, List.not_mem_nil, or_false, Fld.key, fldKey, addr, stride]
  omega

/-! ### CFG of an enabled device-written ring (R97, R98, R104) -/

/-- IRQ_EN of an enabled ring is taken; a write that would change SIZE or VECTOR is noted as an error. -/
def State.devCfgKept (s : State) (r : DevRing) (v : Nat) : State :=
  if sizeTaken v (s.rd F.HOST_CQ_CFG_SIZE r.idx.val) == s.rd F.HOST_CQ_CFG_SIZE r.idx.val &&
      bits v 8 4 == s.rd F.HOST_CQ_CFG_VECTOR r.idx.val then s.wr F.HOST_CQ_CFG_IRQ_EN r.idx.val (bits v 17 17)
  else (s.wr F.HOST_CQ_CFG_IRQ_EN r.idx.val (bits v 17 17)).hostErr 4 r.kindNo.1 r.kindNo.2 (0x2508 + 0x20 * r.idx.val)

/-- `r` is a CQ that an enabled SQ names. -/
def State.ringNamed (s : State) (r : DevRing) : Bool :=
  r.kindNo.1 == 1 && (List.range 32).any (fun q => s.flag F.HOST_SQ_CFG_EN q && s.rd F.HOST_SQ_CFG_CQ q == r.kindNo.2)

theorem State.ringNamed_iff : s.ringNamed r = true ↔ ∃ m : Fin 16, r = .cq m ∧ ∃ i : Fin 32,
    s.flag F.HOST_SQ_CFG_EN i.val = true ∧ s.rd F.HOST_SQ_CFG_CQ i.val = m.val := by
  have sqs : ∀ k : Nat, (List.range 32).any (fun q => s.flag F.HOST_SQ_CFG_EN q && s.rd F.HOST_SQ_CFG_CQ q == k) = true ↔
      ∃ i : Fin 32, s.flag F.HOST_SQ_CFG_EN i.val = true ∧ s.rd F.HOST_SQ_CFG_CQ i.val = k := by
    intro k
    simp only [List.any_eq_true, List.mem_range, Bool.and_eq_true, beq_iff_eq]
    exact ⟨fun ⟨q, lt, named⟩ => ⟨⟨q, lt⟩, named⟩, fun ⟨i, named⟩ => ⟨i.val, i.isLt, named⟩⟩
  cases r with
  | cq m => simpa [State.ringNamed, DevRing.kindNo] using sqs m.val
  | rq k => simp [State.ringNamed, DevRing.kindNo]
  | eq => simp [State.ringNamed, DevRing.kindNo]

/-- EN of an enabled ring after the write: cleared by EN = 0, unless an enabled SQ names the ring. -/
def State.devEnTaken (s u : State) (r : DevRing) (v : Nat) : State :=
  if bit v 16 then u
  else if s.ringNamed r then u.hostErr 5 r.kindNo.1 r.kindNo.2 (0x2508 + 0x20 * r.idx.val)
  else u.wr F.HOST_CQ_CFG_EN r.idx.val 0

theorem writeDevCfg_enabled (en : s.flag F.HOST_CQ_CFG_EN r.idx.val = true) :
    writeDevCfg r v s = (s.devEnTaken (s.devCfgKept r v) r v).checkSignal r.idx := by
  unfold writeDevCfg
  dsimp only
  rw [en]
  rfl

/-- A field of the CFG registers is none of those that an error of the host interface changes. -/
theorem cfg_key_not_hostErr {f : Fld} {i b : Nat} (h : 0x2100 ≤ f.addr) (lo : f.lo < 32) (hb : b < 8) :
    f.key i ∉ hostErrKeys b := by
  simp only [hostErrKeys, List.mem_cons, List.not_mem_nil, or_false, Fld.key, fldKey]
  omega

theorem State.hostErr_rd {f : Fld} {i b : Nat} (s : State) (hb : b < 8) (kind ring addr : Nat) (h : 0x2100 ≤ f.addr)
    (lo : f.lo < 32) : (s.hostErr b kind ring addr).rd f i = s.rd f i :=
  (s.hostErr_noted hb kind ring addr).rd (cfg_key_not_hostErr h lo hb)

theorem State.hostErr_set (s : State) {b : Nat} (hb : b < 8) (kind ring addr : Nat) :
    (s.hostErr b kind ring addr).rd (hostErrBit b) = 1 := (s.hostErr_noted hb kind ring addr).1

theorem State.devCfgKept_rd {f : Fld} {i : Nat} (s : State) (r : DevRing) (v : Nat) (h : 0x2100 ≤ f.addr) (lo : f.lo < 32) :
    (s.devCfgKept r v).rd f i = (s.wr F.HOST_CQ_CFG_IRQ_EN r.idx.val (bits v 17 17)).rd f i := by
  unfold State.devCfgKept
  split
  · rfl
  · exact State.hostErr_rd _ (by decide) _ _ _ h lo

theorem State.devCfgKept_busy (h : (4 ≤ v % 16 ∧ v % 16 ≤ 12 ∧ v % 16 ≠ s.rd F.HOST_CQ_CFG_SIZE r.idx.val) ∨
    v / 16 % 32 ≠ s.rd F.HOST_CQ_CFG_VECTOR r.idx.val) : (s.devCfgKept r v).rd (hostErrBit 4) = 1 := by
  have vec : bits v 8 4 = v / 16 % 32 := bits_eq v 8 4
  unfold State.devCfgKept
  rw [vec, if_neg]
  · exact State.hostErr_set _ (by decide) _ _ _
  · rw [Bool.and_eq_true, beq_iff_eq, beq_iff_eq]
    rintro ⟨size, same⟩
    rcases h with ⟨four, twelve, other⟩ | other
    · exact other ((sizeTaken_legal four twelve _).symm.trans size)
    · exact other same

/-- What the write of EN leaves: every field but EN and those that an error changes. -/
theorem State.devEnTaken_rd {f : Fld} {i : Nat} (s u : State) (r : DevRing) (v : Nat)
    (en : F.HOST_CQ_CFG_EN.key r.idx.val ≠ f.key i) (err : f.key i ∉ hostErrKeys 5) :
    (s.devEnTaken u r v).rd f i = u.rd f i := by
  unfold State.devEnTaken
  split
  · rfl
  split
  · exact (u.hostErr_noted (by decide) _ _ _).rd err
  · exact State.rd_wr_ne _ en _

/-- The register fields after a write of the CFG of an enabled ring, HOST_INT_STAT apart, which a signal may change. -/
theorem writeDevCfg_enabled_rd (en : s.flag F.HOST_CQ_CFG_EN r.idx.val = true) {f : Fld} {i : Nat}
    (h : f.key i ≠ F.HOST_INT_STAT_VEC.key 0) :
    (writeDevCfg r v s).rd f i = (s.devEnTaken (s.devCfgKept r v) r v).rd f i := by
  rw [writeDevCfg_enabled en]
  exact (State.checkSignal_signalled _ _).rd h

theorem writeDevCfg_enabled_cfg (en : s.flag F.HOST_CQ_CFG_EN r.idx.val = true) {f : Fld} (h : f.inDevCfg) :
    (writeDevCfg r v s).rd f r.idx.val = (s.wr F.HOST_CQ_CFG_IRQ_EN r.idx.val (bits v 17 17)).rd f r.idx.val := by
  obtain ⟨addr, stride, lo, notEn⟩ := h
  have high : 0x2100 ≤ f.addr := by omega
  rw [writeDevCfg_enabled_rd en, State.devEnTaken_rd _ _ _ _ (Fld.key_ne_of_lo ⟨notEn.symm, by decide, lo⟩)
    (cfg_key_not_hostErr high lo (by decide)), State.devCfgKept_rd _ _ _ high lo]
  simp only [Fld.key, fldKey, addr, stride]
  omega

theorem writeDevCfg_enabled_busy (en : s.flag F.HOST_CQ_CFG_EN r.idx.val = true)
    (h : (4 ≤ v % 16 ∧ v % 16 ≤ 12 ∧ v % 16 ≠ s.rd F.HOST_CQ_CFG_SIZE r.idx.val) ∨
      v / 16 % 32 ≠ s.rd F.HOST_CQ_CFG_VECTOR r.idx.val) : (writeDevCfg r v s).rd (hostErrBit 4) = 1 := by
  rw [writeDevCfg_enabled_rd en (by decide), State.devEnTaken_rd, State.devCfgKept_busy h]
  · simp only [Fld.key, fldKey, hostErrBit]
    omega
  · decide

/-- EN of an enabled ring stays set under EN = 1 and while an enabled SQ names the ring, and is cleared otherwise. -/
theorem writeDevCfg_enabled_en (en : s.flag F.HOST_CQ_CFG_EN r.idx.val = true) :
    (writeDevCfg r v s).rd F.HOST_CQ_CFG_EN r.idx.val =
      if bit v 16 = true ∨ s.ringNamed r = true then s.rd F.HOST_CQ_CFG_EN r.idx.val else 0 := by
  have kept : (s.devCfgKept r v).rd F.HOST_CQ_CFG_EN r.idx.val = s.rd F.HOST_CQ_CFG_EN r.idx.val := by
    rw [State.devCfgKept_rd _ _ _ (by decide) (by decide), State.rd_wr_ne _ (Fld.key_ne_of_lo (by decide))]
  rw [writeDevCfg_enabled_rd en (Fld.key_ne_of_lo (by decide)), State.devEnTaken]
  cases bit v 16 <;> cases s.ringNamed r
  · exact State.rd_wr_self _ _ _ _
  · exact (State.hostErr_rd _ (by decide) _ _ _ (by decide) (by decide)).trans kept
  · exact kept
  · exact kept

theorem writeDevCfg_enabled_named (en : s.flag F.HOST_CQ_CFG_EN r.idx.val = true) (zero : bit v 16 = false)
    (named : s.ringNamed r = true) : (writeDevCfg r v s).rd (hostErrBit 5) = 1 := by
  rw [writeDevCfg_enabled_rd en (by decide), State.devEnTaken, zero, named]
  exact State.hostErr_set _ (by decide) _ _ _

end

/-! ### CFG of an SQ (R97, R98, R101) -/

section
variable {q : Fin 32} {v : Nat}

/-- SIZE, CQ and STOP of a disabled SQ are taken. -/
def State.sqCfgTaken (s : State) (i v : Nat) : State :=
  ((s.wr F.HOST_SQ_CFG_STOP i (bits v 17 17)).wr F.HOST_SQ_CFG_SIZE i (sizeTaken v (s.rd F.HOST_SQ_CFG_SIZE i))).wr
    F.HOST_SQ_CFG_CQ i (bits v 11 8)

/-- The registers of an SQ that is enabled: its fields are taken, its counts are 0. -/
def State.sqCounted (s : State) (i v : Nat) : State := ((s.sqCfgTaken i v).wr F.HOST_SQ_CFG_EN i 1).startSq i

theorem writeSqCfg_enables (en : s.flag F.HOST_SQ_CFG_EN q.val = false) (one : bit v 16 = true) : writeSqCfg q v s =
    if s.flag F.HOST_CQ_CFG_EN (bits v 11 8) then
      (s.sqCounted q.val v).setTearing q false
    else (s.sqCfgTaken q.val v).hostErr 5 0 q.val (0x2108 + 0x20 * q.val) := by
  unfold writeSqCfg
  dsimp only
  rw [en, one]
  rfl

theorem State.sqCounted_eq (s : State) (i : Nat) {v : Nat} (lo : 4 ≤ v % 16) (hi : v % 16 ≤ 12) : s.sqCounted i v =
    (((((((s.wr F.HOST_SQ_CFG_STOP i (v / 2 ^ 17 % 2)).wr F.HOST_SQ_CFG_SIZE i (v % 16)).wr F.HOST_SQ_CFG_CQ i
      (v / 256 % 16)).wr F.HOST_SQ_CFG_EN i 1).wr F.HOST_SQ_STAT_FETCHED i 0).wr F.DOORBELL_SQ_COUNT i 0).wr
      F.HOST_SQ_DONE_DONE i 0).wr F.HOST_SQ_STAT_FAULT i 0 := by
  have stop : bits v 17 17 = v / 2 ^ 17 % 2 := bits_eq v 17 17
  have cq : bits v 11 8 = v / 256 % 16 := bits_eq v 11 8
  rw [State.sqCounted, State.sqCfgTaken, State.startSq, sizeTaken_legal lo hi, stop, cq]

theorem State.sqCounted_rd (s : State) {i v : Nat} (lo : 4 ≤ v % 16) (hi : v % 16 ≤ 12) (idx : i < 32) :
    (s.sqCounted i v).rd F.HOST_SQ_CFG_SIZE i = v % 16 ∧ (s.sqCounted i v).rd F.HOST_SQ_CFG_CQ i = v / 256 % 16 ∧
    (s.sqCounted i v).rd F.HOST_SQ_CFG_STOP i = v / 2 ^ 17 % 2 ∧ (s.sqCounted i v).rd F.HOST_SQ_CFG_EN i = 1 ∧
    (s.sqCounted i v).rd F.HOST_SQ_STAT_FETCHED i = 0 ∧ (s.sqCounted i v).rd F.DOORBELL_SQ_COUNT i = 0 ∧
    (s.sqCounted i v).rd F.HOST_SQ_DONE_DONE i = 0 ∧ (s.sqCounted i v).rd F.HOST_SQ_STAT_FAULT i = 0 := by
  rw [s.sqCounted_eq i lo hi]
  refine ⟨?_, ?_, ?_, ?_, ?_, ?_, ?_, ?_⟩
  all_goals
    simp (disch := (simp only [Fld.key, fldKey]; omega)) only [State.rd_wr_ne, State.rd_wr_self]
    simp [Fld.size]

theorem State.sqCounted_regsOnly (s : State) (i v : Nat) : RegsOnly s (s.sqCounted i v)
    [F.HOST_SQ_CFG_SIZE.key i, F.HOST_SQ_CFG_CQ.key i, F.HOST_SQ_CFG_STOP.key i, F.HOST_SQ_CFG_EN.key i,
      F.HOST_SQ_STAT_FETCHED.key i, F.DOORBELL_SQ_COUNT.key i, F.HOST_SQ_DONE_DONE.key i, F.HOST_SQ_STAT_FAULT.key i] := by
  have taken := ((RegsOnly.wr s F.HOST_SQ_CFG_STOP i (bits v 17 17)).then F.HOST_SQ_CFG_SIZE i
    (sizeTaken v (s.rd F.HOST_SQ_CFG_SIZE i))).then F.HOST_SQ_CFG_CQ i (bits v 11 8)
  have started := ((((taken.then F.HOST_SQ_CFG_EN i 1).then F.HOST_SQ_STAT_FETCHED i 0).then F.DOORBELL_SQ_COUNT i 0).then
    F.HOST_SQ_DONE_DONE i 0).then F.HOST_SQ_STAT_FAULT i 0
  exact started.mono (by simp)

theorem State.rd_setTearing (s : State) (q : Fin 32) (b : Bool) (f : Fld) (i : Nat) : (s.setTearing q b).rd f i = s.rd f i :=
  rfl

/-- Marking an SQ changes the host part alone. -/
theorem RegsOnly.setTearing {u : State} {keys : List Nat} (h : RegsOnly s u keys) (q : Fin 32) (b : Bool) :
    RegsOnly s { u.setTearing q b with host := s.host } keys := by
  obtain ⟨frame, rd⟩ := h
  refine ⟨?_, rd⟩
  rw [frame]
  rfl

/-- An SQ whose CQ is disabled is not enabled. -/
theorem State.sqNotStarted_effect (s : State) (q : Fin 32) (v : Nat) :
    let t := (s.sqCfgTaken q.val v).hostErr 5 0 q.val (0x2108 + 0x20 * q.val)
    t.rd F.HOST_SQ_CFG_EN q.val = s.rd F.HOST_SQ_CFG_EN q.val ∧ t.rd (hostErrBit 5) = 1 := by
  refine ⟨?_, State.hostErr_set _ (by decide) _ _ _⟩
  rw [State.hostErr_rd _ (by decide) _ _ _ (by decide) (by decide)]
  unfold State.sqCfgTaken
  rw [State.rd_wr_ne _ (Fld.key_ne_of_lo (by decide)), State.rd_wr_ne _ (Fld.key_ne_of_lo (by decide)),
    State.rd_wr_ne _ (Fld.key_ne_of_lo (by decide))]

/-- STOP of an enabled SQ is taken; a write that would change SIZE or CQ is noted as an error. -/
def State.sqCfgKept (s : State) (q : Fin 32) (v : Nat) : State :=
  if sizeTaken v (s.rd F.HOST_SQ_CFG_SIZE q.val) == s.rd F.HOST_SQ_CFG_SIZE q.val && bits v 11 8 == s.rd F.HOST_SQ_CFG_CQ q.val
  then s.wr F.HOST_SQ_CFG_STOP q.val (bits v 17 17)
  else (s.wr F.HOST_SQ_CFG_STOP q.val (bits v 17 17)).hostErr 4 0 q.val (0x2108 + 0x20 * q.val)

theorem writeSqCfg_disables (en : s.flag F.HOST_SQ_CFG_EN q.val = true) (zero : bit v 16 = false) : writeSqCfg q v s =
    if s.sqIdle q.val then ((s.sqCfgKept q v).wr F.HOST_SQ_CFG_EN q.val 0).setTearing q false
    else (s.sqCfgKept q v).setTearing q true := by
  unfold writeSqCfg
  dsimp only
  rw [en, zero]
  rfl

theorem State.sqCfgKept_en (s : State) (q : Fin 32) (v : Nat) :
    (s.sqCfgKept q v).rd F.HOST_SQ_CFG_EN q.val = s.rd F.HOST_SQ_CFG_EN q.val := by
  have stop : (s.wr F.HOST_SQ_CFG_STOP q.val (bits v 17 17)).rd F.HOST_SQ_CFG_EN q.val = s.rd F.HOST_SQ_CFG_EN q.val :=
    State.rd_wr_ne _ (Fld.key_ne_of_lo (by decide)) _
  unfold State.sqCfgKept
  split
  · exact stop
  · exact (State.hostErr_rd _ (by decide) _ _ _ (by decide) (by decide)).trans stop

theorem exec_sqTeardownDone : exec (.sqTeardownDone q) s = .next (
    if vget s.host.tearing q = true ∧ s.sqIdle q.val = true then (s.wr F.HOST_SQ_CFG_EN q.val 0).setTearing q false else s) :=
  congrArg Host.Outcome.next (if_congr (Bool.and_eq_true_iff) rfl rfl)

end

end Sys2Proof.Machine

open Sys2Proof Sys2Proof.Machine

/-- Settles O7, register by register: the locked fields, then the CFG and MOD of a device-written ring, disabled and enabled,
then the CFG of an SQ. -/
theorem ringsAreConfiguredOnlyWhileDisabled : Obligations.RingsAreConfiguredOnlyWhileDisabled := by
  unfold Obligations.RingsAreConfiguredOnlyWhileDisabled
  intro s q w on
  have base : bits w.toNat 31 6 = w.toNat / 64 := by
    rw [bits_eq]
    exact Nat.mod_eq_of_lt (by omega)
  have sq : ∀ off < 0x20, exec (.hostRingCfgWrite (0x2100 + 0x20 * q.val + off) w) s =
      .next (writeRingCfg (0x2100 + 0x20 * q.val + off) w s) := fun off lt => exec_hostRingCfgWrite on w (by omega) (by omega)
  have cfg : exec (.hostRingCfgWrite (0x2100 + 0x20 * q.val + 8) w) s = .next (writeSqCfg q w.toNat s) :=
    (sq 8 (by decide)).trans (congrArg _ (writeRingCfg_sq q w (off := 8) (by decide)))
  refine ⟨locked_of_run ?_, locked_of_run ?_, fun r => ?_, ?_, ?_, ?_, ?_⟩
  · rw [← base]
    exact (sq 0 (by decide)).trans (congrArg _ (writeRingCfg_sq q w (off := 0) (by decide)))
  · exact (sq 4 (by decide)).trans (congrArg _ (writeRingCfg_sq q w (off := 4) (by decide)))
  · have dev : ∀ off < 0x20, exec (.hostRingCfgWrite (0x2500 + 0x20 * r.idx.val + off) w) s =
        .next (writeRingCfg (0x2500 + 0x20 * r.idx.val + off) w s) :=
      fun off lt => exec_hostRingCfgWrite on w (by omega) (by omega)
    have cfg : exec (.hostRingCfgWrite (0x2500 + 0x20 * r.idx.val + 8) w) s = .next (writeDevCfg r w.toNat s) :=
      (dev 8 (by decide)).trans (congrArg _ (writeRingCfg_dev r w (off := 8) (by decide)))
    have mod : exec (.hostRingCfgWrite (0x2500 + 0x20 * r.idx.val + 12) w) s = .next (writeDevMod r w.toNat s) :=
      (dev 12 (by decide)).trans (congrArg _ (writeRingCfg_dev r w (off := 12) (by decide)))
    refine ⟨locked_of_run ?_, locked_of_run ?_, fun en => ⟨_, cfg, ?_⟩, fun en => ⟨_, cfg, ?_⟩, fun en => ⟨_, mod, ?_⟩,
      fun en changes => ⟨_, mod, ?_⟩⟩
    · rw [← base]
      exact (dev 0 (by decide)).trans (congrArg _ (writeRingCfg_dev r w (off := 0) (by decide)))
    · exact (dev 4 (by decide)).trans (congrArg _ (writeRingCfg_dev r w (off := 4) (by decide)))
    · obtain ⟨size, vec, irq⟩ := s.devCfgTaken_rd r.idx.val w.toNat
      have only := s.devCfgTaken_regsOnly r.idx.val w.toNat
      rw [writeDevCfg_disabled en]
      cases one : bit w.toNat 16 with
      | false => exact ⟨size, vec, irq, fun h => Bool.noConfusion (h.symm.trans one), fun _ => only⟩
      | true =>
        obtain ⟨enabled, written, bell, lost, unsig, started⟩ := State.startRing_effect (s.devCfgTaken r.idx.val w.toNat) r.idx
        exact ⟨(State.startRing_rd_cfg _ _ (by decide)).trans size, (State.startRing_rd_cfg _ _ (by decide)).trans vec,
          (State.startRing_rd_cfg _ _ (by decide)).trans irq,
          fun _ => ⟨enabled, written, bell, lost, unsig, (only.trans started).mono (by simp)⟩,
          fun h => Bool.noConfusion (h.symm.trans one)⟩
    · refine ⟨?_, ?_, ?_, writeDevCfg_enabled_busy en, fun zero free => ?_, fun zero named => ?_, fun one => ?_⟩
      · rw [writeDevCfg_enabled_cfg en (by decide), State.rd_wr_self, bits_mod_size _ 17 17 rfl]
        exact bits_eq _ 17 17
      · rw [writeDevCfg_enabled_cfg en (by decide), State.rd_wr_ne _ (Fld.key_ne_of_lo (by decide))]
      · rw [writeDevCfg_enabled_cfg en (by decide), State.rd_wr_ne _ (Fld.key_ne_of_lo (by decide))]
      · rw [writeDevCfg_enabled_en en, if_neg]
        rintro (one | named)
        · exact Bool.noConfusion (zero.symm.trans one)
        · exact free (State.ringNamed_iff.mp named)
      · have ring := State.ringNamed_iff.mpr named
        refine ⟨?_, writeDevCfg_enabled_named en zero ring⟩
        rw [State.flag, writeDevCfg_enabled_en en, if_pos (.inr ring)]
        exact en
      · rw [State.flag, writeDevCfg_enabled_en en, if_pos (.inl one)]
        exact en
    · exact writeDevMod_disabled en w.toNat
    · have noted := writeDevMod_enabled en changes
      rwa [show 0x250C + 0x20 * r.idx.val = 0x2500 + 0x20 * r.idx.val + 12 by omega] at noted
  · intro en one lo hi cqOn
    have cq : bits w.toNat 11 8 = w.toNat / 256 % 16 := bits_eq _ 11 8
    refine ⟨_, cfg, ?_⟩
    rw [writeSqCfg_enables en one, cq, cqOn, if_pos rfl]
    simp only [State.rd_setTearing]
    obtain ⟨size, num, stop, enabled, fetched, bell, done, fault⟩ := s.sqCounted_rd lo hi q.isLt
    exact ⟨size, num, stop, enabled, fetched, bell, done, fault, (s.sqCounted_regsOnly q.val w.toNat).setTearing q false⟩
  · intro en one cqOff
    have cq : bits w.toNat 11 8 = w.toNat / 256 % 16 := bits_eq _ 11 8
    refine ⟨_, cfg, ?_⟩
    rw [writeSqCfg_enables en one, cq, cqOff, if_neg Bool.false_ne_true]
    exact s.sqNotStarted_effect q w.toNat
  · intro en zero
    refine ⟨_, cfg, ?_⟩
    rw [writeSqCfg_disables en zero]
    change if s.sqIdle q.val = true then _ else _
    cases s.sqIdle q.val
    · exact ⟨s.sqCfgKept_en q w.toNat, vget_vset_self _ _ _⟩
    · exact ⟨State.rd_wr_self _ _ _ _, vget_vset_self _ _ _⟩
  · exact exec_sqTeardownDone
end

section
/-! PROOFS. O13: descriptors that are carried out at their fetch. -/

namespace Sys2Proof.Machine
open Sys2Proof

variable {s : State} {q : Fin 32} {op : Nat} {d : Desc} {act : Txn → State → State}

/-! ### Commands that are carried out at fetch (R67, R164) -/

/-- `i` is the command that carries out opcode `op` of ring `q` at the fetch of `d`. -/
abbrev CarriesOut (i : Instr) (q : Fin 32) (op : Nat) (d : Desc) : Prop :=
  (∃ n : Fin 24, q = ix 31 n.val ∧ ((i = .rodFlush n d ∧ op = 0x0E) ∨ (i = .rodAbort n d ∧ op = 0x0F))) ∨
  (i = .revoke d ∧ q = 24 ∧ op = 4) ∨ (i = .accAbort d ∧ q = 24 ∧ op = 0x0F) ∨ (i = .uhfAbort d ∧ q = 25 ∧ op = 0x0F) ∨
  (∃ b, q = cipherSq b ∧ ((i = .erase b d ∧ op = 0x12) ∨ (i = .cipherAbort b d ∧ op = 0x0F))) ∨
  (i = .spiFlush d ∧ q = 30 ∧ op = 0x0E) ∨ (i = .spiAbort d ∧ q = 30 ∧ op = 0x0F)

/-- Each of them is `State.carryOut` with its own effect. -/
theorem CarriesOut.exec {i : Instr} (h : CarriesOut i q op d) (s : State) :
    ∃ act, Sys2Proof.Machine.exec i s = .next (s.carryOut q op d act) := by
  rcases h with ⟨n, rfl, ⟨rfl, rfl⟩ | ⟨rfl, rfl⟩⟩ | ⟨rfl, rfl, rfl⟩ | ⟨rfl, rfl, rfl⟩ | ⟨rfl, rfl, rfl⟩ |
    ⟨b, rfl, ⟨rfl, rfl⟩ | ⟨rfl, rfl⟩⟩ | ⟨rfl, rfl, rfl⟩ | ⟨rfl, rfl, rfl⟩
  all_goals exact ⟨_, rfl⟩

theorem State.carryOut_idle (h : s.mayFetch q = false ∨ descByte d 0 ≠ op ∨
    ((descByte d 1).testBit 0 = true ∧ s.txns.any (fun t => t.sq == some q.val) = true)) : s.carryOut q op d act = s := by
  refine if_neg fun due => ?_
  simp only [Bool.and_eq_true, beq_iff_eq, Bool.not_eq_true'] at due
  obtain ⟨⟨may, same⟩, free⟩ := due
  rcases h with off | other | ⟨fence, earlier⟩
  · exact Bool.noConfusion (may.symm.trans off)
  · exact other same
  · rw [bit, fence, earlier] at free
    exact Bool.noConfusion free

/-- With an outcome due the descriptor is fetched and ends with it; its unit takes no part. -/
theorem State.carryOut_ends {st : Status} (may : s.mayFetch q = true) (same : descByte d 0 = op)
    (free : (descByte d 1).testBit 0 = false ∨ s.txns.any (fun t => t.sq == some q.val) = false)
    (due : s.fetchEnd (sqUnit q.val) d = some st) :
    s.carryOut q op d act = (s.fetchDesc q d .running).finish s.sys.nextId st := by
  have begins : (s.mayFetch q && descByte d 0 == op &&
      !(bit (descByte d 1) 0 && s.txns.any (fun t => t.sq == some q.val))) = true := by
    rw [may, same, bit]
    rcases free with free | free <;> simp [free]
  unfold State.carryOut
  rw [if_pos begins]
  dsimp only
  rw [due]

/-- The outcomes at fetch in their order (R668). -/
theorem State.fetchEnd_some {u : Nat} {st : Status}
    (h : (s.descBad u d = true ∧ st = .badDescriptor) ∨
      (s.descBad u d = false ∧ (descDomains u (descByte d 0)).all s.isOn = false ∧ st = .domainOff) ∨
      (s.descBad u d = false ∧ (descDomains u (descByte d 0)).all s.isOn = true ∧ s.nltPassed d = true ∧ st = .late)) :
    s.fetchEnd u d = some st := by
  unfold State.fetchEnd
  rcases h with ⟨bad, rfl⟩ | ⟨good, off, rfl⟩ | ⟨good, on, late, rfl⟩
  · rw [bad]
    rfl
  · rw [good, off]
    rfl
  · rw [good, on, late]
    rfl

/-! ### A fetched descriptor that ends at once (R19, R67) -/

/-- The transaction of a descriptor that is fetched now and ends at once. -/
def State.endedNow (s : State) (q : Fin 32) (d : Desc) (st : Status) : Txn :=
  { newTxn s.sys.nextId (sqUnit q.val) (some q.val) d (.done st) [] with barrier := s.sys.nextId + 1 }

/-- The last transaction of the list ends in its place, when no other has its identity. -/
theorem State.finish_last {t : Txn} {l : List Txn} (list : s.txns = l ++ [t])
    (others : ∀ u ∈ l, u.id ≠ t.id) (st : Status) : (s.finish t.id st).txns = l ++ [t.endWith st s.sys.nextId] := by
  have found : s.txn? t.id = some t := by
    have none : l.find? (fun u => u.id == t.id) = none := List.find?_eq_none.mpr (fun u mem => by simpa using others u mem)
    rw [State.txn?, list, List.find?_append, none]
    simp
  have same : l.map (fun u => if u.id == t.id then u.endWith st s.sys.nextId else u) = l :=
    (List.map_congr_left fun u mem => if_neg (by simpa using others u mem)).trans (List.map_id l)
  have kept : l.filter (fun u => u.id != t.id) = l := List.filter_eq_self.mpr (fun u mem => by simpa using others u mem)
  unfold State.finish
  rw [found]
  dsimp only
  split
  · rw [State.modTxn, list, List.map_append, same, List.map_singleton, if_pos (beq_self_eq_true _)]
  · rw [list, List.filter_append, kept]
    simp

/-- It stands behind all others and has ended; FETCHED counts it, and nothing else changes. -/
theorem State.fetchDesc_finish (fresh : s.txn? s.sys.nextId = none) (st : Status) :
    (s.fetchDesc q d .running).finish s.sys.nextId st =
      { s.fetchDesc q d .running with txns := s.txns ++ [s.endedNow q d st] } := by
  have others : ∀ t ∈ s.txns, t.id ≠ s.sys.nextId := by simpa [State.txn?] using fresh
  have ended := State.finish_last (s := s.fetchDesc q d .running)
    (t := newTxn s.sys.nextId (sqUnit q.val) (some q.val) d .running []) rfl others st
  rw [State.finish_frame]
  exact congrArg (fun l => { s.fetchDesc q d .running with txns := l }) ended

end Sys2Proof.Machine

open Sys2Proof Sys2Proof.Machine

/-- Settles O13, by what `State.carryOut` does with no descriptor due and with an outcome due at the fetch. -/
theorem atFetchDescriptorsEndWithoutASlot : Obligations.AtFetchDescriptorsEndWithoutASlot := by
  unfold Obligations.AtFetchDescriptorsEndWithoutASlot
  intro s i q op d which
  obtain ⟨act, run⟩ := CarriesOut.exec which s
  rw [run]
  refine ⟨fun idle => by rw [State.carryOut_idle idle], fun st may same free due fresh => ?_⟩
  subst same
  rw [State.carryOut_ends may rfl free (State.fetchEnd_some due), State.fetchDesc_finish fresh, State.fetchDesc_frame]
  exact ⟨_, s.endedNow q d st, rfl, rfl, rfl, rfl, rfl, rfl, s.rd_wr_self F.HOST_SQ_STAT_FETCHED _ _, RegsOnly.wr s _ _ _⟩
end

section
/-! PROOFS. O17: loads of plan tiles from the host. -/

namespace Sys2Proof.Machine
open Sys2Proof

variable {s : State}

/-! ### Plan tiles (R492, R493, R498) -/

theorem State.modPlanTile_others {k j : Fin 16} (ne : j ≠ k) (f : PlanTile → PlanTile) :
    (s.modPlanTile k f).planTile j = s.planTile j := vget_vmod_ne _ f ne.symm

/-- A tile that goes out of service: its state, PLAN_FAIL, the event, and the invocations that are to end. -/
theorem State.planTileOut_frame (s : State) (k : Fin 16) : s.planTileOut k = { s with
    board := (s.modPlanTile k (fun x => { x with st := .out })).board, rods := (s.planTileOut k).rods,
    sys := (s.planTileOut k).sys, host := (s.planTileOut k).host, regs := (s.planTileOut k).regs } := by
  unfold State.planTileOut State.doomPlans
  rw [State.raise_frame]
  rfl

theorem State.planTileOut_board (s : State) (k : Fin 16) :
    (s.planTileOut k).board = (s.modPlanTile k (fun x => { x with st := .out })).board := by rw [State.planTileOut_frame]

theorem State.planTileOut_txns (s : State) (k : Fin 16) : (s.planTileOut k).txns = s.txns := by rw [State.planTileOut_frame]

theorem State.planTileOut_others {k j : Fin 16} (ne : j ≠ k) : (s.planTileOut k).planTile j = s.planTile j := by
  rw [State.planTile, State.planTileOut_board]
  exact State.modPlanTile_others ne _

theorem State.planTileOut_fails (s : State) (k : Fin 16) : (s.planTileOut k).flag F.BRD_ERR_PLAN_FAIL = true := by
  have raised : (s.planTileOut k).rd F.BRD_ERR_PLAN_FAIL =
      ((s.modPlanTile k (fun x => { x with st := .out })).setF F.BRD_ERR_PLAN_FAIL).rd F.BRD_ERR_PLAN_FAIL :=
    State.raise_rd _ _ _ _ _ _ (by decide)
  rw [State.flag, raised]
  exact State.flag_setF_self _ (by decide) 0

/-! ### The dispatch of a LOAD_TILE (R493 to R495) -/

section
variable {u : Txn} {k : SlotKind}

/-- The tile that a LOAD_TILE names. -/
def Txn.loadsTile (u : Txn) : Fin 16 := ix 15 (descByte u.desc 16)

/-- The checksum that a LOAD_TILE expects. -/
def Txn.loadCrc (u : Txn) : Word := BitVec.ofNat 32 (descField u.desc 20 4)

theorem State.atDispatch_loadTile (unit : u.unit = unitSys) (op : u.op = 0x31) (s : State) :
    s.atDispatch u = s.modPlanTile u.loadsTile (fun x => { x with st := .loading }) := by
  unfold State.atDispatch
  dsimp only
  rw [unit, op]
  rfl

/-- A LOAD_TILE of a referenced tile is bad. -/
theorem State.dispatchEnd_referenced (op : u.op = 0x31) (h : s.referenced u.loadsTile = true) :
    s.dispatchEnd unitSys u.desc = some .badDescriptor := by
  have opcode : descByte u.desc 0 = 0x31 := op
  have bad : s.sysBad u.desc = true := by
    unfold State.sysBad
    dsimp only
    rw [opcode]
    simp [show s.referenced (ix 15 (descByte u.desc 16)) = true from h]
  have descBad : s.descBad unitSys u.desc = true := by
    unfold State.descBad
    rw [opcode]
    exact Bool.or_eq_true_iff.mpr (.inr bad)
  unfold State.dispatchEnd
  rw [descBad]
  rfl

/-- A descriptor that ends at its dispatch changes nothing of the board. -/
theorem State.dispatchTxn_ends_board {st : Status} (h : s.dispatchEnd u.unit u.desc = some st) (k : SlotKind) :
    (s.dispatchTxn u k).board = s.board := by
  have profile : ∀ x : State, (x.noteProfile u.unit u.desc).board = x.board := by
    intro x
    unfold State.noteProfile
    split <;> rfl
  unfold State.dispatchTxn
  rw [h]
  dsimp only
  cases st == .late && u.unit == unitUhf
  all_goals
    refine (congrArg State.board (State.finish_frame _ _ _)).trans ?_
    exact profile _

/-- A descriptor of a ring that may be dispatched is dispatched. -/
theorem exec_descriptorDispatch_ring {q : Fin 32} (staged : s.nextStaged q.val = some u) (slot : s.freeSlot u.unit = some k)
    (may : s.mayDispatch u = true) (sq : u.sq = some q.val) :
    exec (.descriptorDispatch q) s = .next (s.dispatchTxn u k) := by
  rw [exec_descriptorDispatch staged slot, may, if_pos rfl, if_neg (by simp [sq])]

/-! ### LOAD_TILE and LOAD_TILE_DONE (R102, R493, R495) -/

theorem exec_loadTile_head (h : s.takeHead? unitSys 0x31 = some u) : exec .loadTile s = .next (s.run u.id) := by
  change execLoadTile s = _
  unfold execLoadTile
  rw [h]
  rfl

theorem exec_loadTile_none (h : s.takeHead? unitSys 0x31 = none) : exec .loadTile s = .next s := by
  change execLoadTile s = _
  unfold execLoadTile
  rw [h]
  rfl

theorem exec_loadTileDone_waits {src : List Byte} (running : s.running? unitSys = some u) (waits : s.mayDma = false) :
    exec (.loadTileDone src) s = .next s := by
  change execLoadTileDone src s = _
  unfold execLoadTileDone
  rw [running, waits]
  exact congrArg _ (if_neg (by simp))

/-- The load ends as `State.endLoad` judges the bytes. -/
theorem exec_loadTileDone_judged {src : List Byte} (running : s.running? unitSys = some u) (op : u.op = 0x31)
    (dma : s.mayDma = true) {v : State} {good : Bool}
    (judged : (s.fillPlanTile u.loadsTile src).endLoad u.loadsTile u.loadCrc = (v, good)) :
    exec (.loadTileDone src) s = .next (if good then v.finish u.id .ok else (v.finish u.id .checksumFail).settleDoom) := by
  change execLoadTileDone src s = _
  unfold execLoadTileDone
  rw [Txn.loadsTile, Txn.loadCrc] at judged
  rw [running, dma]
  dsimp only
  rw [if_pos (by simp [op]), judged]
  cases good <;> rfl

theorem exec_loadTileDone_good {src : List Byte} (running : s.running? unitSys = some u) (op : u.op = 0x31)
    (dma : s.mayDma = true)
    (good : crc32c (Memory.tile (s.fillPlanTile u.loadsTile src).planMem u.loadsTile.val) = u.loadCrc) :
    exec (.loadTileDone src) s = .next (((s.fillPlanTile u.loadsTile src).modPlanTile u.loadsTile (fun x =>
      { x with st := .ready, crc := u.loadCrc })).finish u.id .ok) := by
  rw [exec_loadTileDone_judged running op dma (State.endLoad_good _ good), if_pos rfl]

theorem exec_loadTileDone_bad {src : List Byte} (running : s.running? unitSys = some u) (op : u.op = 0x31)
    (dma : s.mayDma = true)
    (bad : crc32c (Memory.tile (s.fillPlanTile u.loadsTile src).planMem u.loadsTile.val) ≠ u.loadCrc) :
    exec (.loadTileDone src) s =
      .next (((s.fillPlanTile u.loadsTile src).planTileOut u.loadsTile).finish u.id .checksumFail).settleDoom := by
  rw [exec_loadTileDone_judged running op dma (State.endLoad_bad _ bad), if_neg Bool.false_ne_true]

theorem State.live_of_running {unit : Nat} (h : s.running? unit = some u) : u.live = true := by
  have running := List.find?_some h
  simp only [Bool.and_eq_true, Txn.isRunning, beq_iff_eq] at running
  rw [Txn.live, running.2]

end

end Sys2Proof.Machine
end

section
/-! PROOFS. O17: loads of plan tiles through the window, and the microcode mask. -/

namespace Sys2Proof.Machine
open Sys2Proof

variable {s : State} {w : Word}

/-! ### BRD_PLAN_CTL (R493, R494, R496) -/

theorem exec_planWindowOpen (on : s.isOn .board = true) (b8 : bit w.toNat 8 = true) :
    exec (.planWindowOpen w) s = .next (writePlanCtl w s) := congrArg _ ((if_pos b8).trans (State.hostWrite_on on))

theorem exec_planWindowOpen_idle (b8 : bit w.toNat 8 = false) : exec (.planWindowOpen w) s = .next s :=
  congrArg _ (if_neg (Bool.eq_false_iff.mp b8))

theorem exec_planWindowClose (on : s.isOn .board = true) (b9 : bit w.toNat 9 = true) :
    exec (.planWindowClose w) s = .next (writePlanCtl w s) := congrArg _ ((if_pos b9).trans (State.hostWrite_on on))

theorem exec_planWindowClose_idle (b9 : bit w.toNat 9 = false) : exec (.planWindowClose w) s = .next s :=
  congrArg _ (if_neg (Bool.eq_false_iff.mp b9))

/-- The tile that a written BRD_PLAN_CTL names. -/
def ctlTile (w : Word) : Fin 16 := ix 15 (w.toNat % 16)

theorem ctlTile_val (w : Word) : (ctlTile w).val = w.toNat % 16 := ix_val (by omega)

theorem bits_ctlTile (w : Word) : bits w.toNat 3 0 = w.toNat % 16 := bits_low _ 3

theorem writePlanCtl_opens (b8 : bit w.toNat 8 = true) (b9 : bit w.toNat 9 = false) : writePlanCtl w s =
    if s.board.window.isSome then s.wr F.BRD_ERR_PLAN_BUSY 0 1 else openWindow w s := by
  unfold writePlanCtl
  rw [b8, b9]
  rfl

theorem openWindow_taken (closed : s.board.window = none) (taken : s.referenced (ctlTile w) = true) : openWindow w s =
    (s.wr F.BRD_PLAN_CTL_TILE 0 (ctlTile w).val).wr F.BRD_ERR_PLAN_BUSY 0 1 := by
  unfold openWindow
  dsimp only
  rw [closed, bits_ctlTile, ← ctlTile, taken]
  rfl

theorem openWindow_planOff (closed : s.board.window = none) (free : s.referenced (ctlTile w) = false)
    (off : s.isOn .plan = false) : openWindow w s = s.wr F.BRD_PLAN_CTL_TILE 0 (ctlTile w).val := by
  unfold openWindow
  dsimp only
  rw [closed, bits_ctlTile, ← ctlTile, free, off]
  rfl

/-- The state with a window load open for tile `k`. -/
def State.windowOpened (s : State) (k : Fin 16) : State :=
  let s1 := (s.wr F.BRD_PLAN_CTL_TILE 0 k.val).modPlanTile k (fun x => { x with st := .loading })
  { s1 with board := { s1.board with window := some k.val } }

theorem openWindow_starts (closed : s.board.window = none) (free : s.referenced (ctlTile w) = false)
    (on : s.isOn .plan = true) : openWindow w s = s.windowOpened (ctlTile w) := by
  unfold openWindow
  dsimp only
  rw [closed, bits_ctlTile, ← ctlTile, free, on]
  rfl

theorem State.windowOpened_effect (s : State) (k : Fin 16) :
    (s.windowOpened k).board.window = some k.val ∧ ((s.windowOpened k).planTile k).st = .loading ∧
    (∀ j, j ≠ k → (s.windowOpened k).planTile j = s.planTile j) ∧ (s.windowOpened k).rd F.BRD_PLAN_CTL_TILE = k.val ∧
    RegsOnly s { s.windowOpened k with board := s.board } [F.BRD_PLAN_CTL_TILE.key 0] :=
  ⟨rfl, congrArg PlanTile.st (State.modPlanTile_planTile _ k _), fun _ ne => State.modPlanTile_others ne _,
    (s.rd_wr_self _ _ _).trans (Nat.mod_eq_of_lt k.isLt), RegsOnly.wr s _ _ _⟩

/-- The state with no window load open. -/
def State.windowShut (s : State) : State := { s with board := { s.board with window := none } }

/-- The state in which the load that was open for tile `k` has been judged. -/
def State.windowJudged (s : State) (k : Fin 16) : State :=
  if crc32c (Memory.tile s.planMem k.val) = BitVec.ofNat 32 (s.rd F.BRD_PLAN_CRC_CRC) then
    s.windowShut.modPlanTile k (fun x => { x with st := .ready, crc := BitVec.ofNat 32 (s.rd F.BRD_PLAN_CRC_CRC) })
  else s.windowShut.planTileOut k

theorem closeWindow_open {k : Fin 16} (opened : s.board.window = some k.val) :
    closeWindow s = (s.windowJudged k).settleDoom := by
  rw [closeWindow, opened, onSome_some, ix_fin, ← State.windowShut, State.windowJudged]
  split
  next good => rw [State.endLoad_good s.windowShut good]
  next bad => rw [State.endLoad_bad s.windowShut bad]

theorem writePlanCtl_closes {k : Fin 16} (b9 : bit w.toNat 9 = true) (opened : s.board.window = some k.val) :
    writePlanCtl w s = if bit w.toNat 8 then (s.windowJudged k).settleDoom.setF F.BRD_ERR_PLAN_BUSY
      else (s.windowJudged k).settleDoom := by
  unfold writePlanCtl
  dsimp only
  rw [b9, if_pos rfl, closeWindow_open opened, opened, Option.isSome_some, if_pos rfl, if_pos rfl]

theorem writePlanCtl_names (b8 : bit w.toNat 8 = false) (closed : s.board.window = none) :
    writePlanCtl w s = s.wr F.BRD_PLAN_CTL_TILE 0 (ctlTile w).val := by
  unfold writePlanCtl closeWindow
  dsimp only
  rw [b8, closed, bits_ctlTile, ctlTile_val]
  cases bit w.toNat 9 <;> rfl

/-- A judged load: no window is open, the tile is READY with the expected checksum or OUT, the others are as they were. -/
theorem State.windowJudged_effect (s : State) (k : Fin 16) :
    (s.windowJudged k).board.window = none ∧ (s.windowJudged k).planMem = s.planMem ∧
    (∀ j, j ≠ k → (s.windowJudged k).planTile j = s.planTile j) ∧
    (if crc32c (Memory.tile s.planMem k.val) = BitVec.ofNat 32 (s.rd F.BRD_PLAN_CRC_CRC)
      then (s.windowJudged k).planTile k = ⟨.ready, BitVec.ofNat 32 (s.rd F.BRD_PLAN_CRC_CRC)⟩
      else ((s.windowJudged k).planTile k).st = .out ∧ (s.windowJudged k).flag F.BRD_ERR_PLAN_FAIL = true) := by
  unfold State.windowJudged
  split
  · exact ⟨rfl, rfl, fun j ne => State.modPlanTile_others ne _, State.modPlanTile_planTile _ k _⟩
  · refine ⟨?_, (State.planTileOut_keeps _ k).2.2.2, fun j ne => State.planTileOut_others ne, State.planTileOut_st _ k,
      State.planTileOut_fails _ k⟩
    rw [State.planTileOut_board]
    rfl

/-! ### BRD_PLAN_DATA (R247, R496) -/

theorem leBytes_length (n v : Nat) : (leBytes n v).length = n := by
  induction n generalizing v with
  | zero => rfl
  | succ n ih => simp [leBytes, ih]

/-- Byte `i` of a number, least significant first. -/
theorem leBytes_getElem (n v i : Nat) (h : i < (leBytes n v).length) : (leBytes n v)[i] = BitVec.ofNat 8 (v / 256 ^ i) := by
  induction n generalizing v i with
  | zero => exact absurd h (Nat.not_lt_zero i)
  | succ n ih =>
    cases i with
    | zero => simp [leBytes]
    | succ i =>
      refine (ih (v / 256) i (by simpa [leBytes] using h)).trans ?_
      rw [Nat.div_div_eq_div_mul, Nat.pow_succ']

theorem exec_planDataWrite (on : s.isOn .plan = true) (w : Word) :
    exec (.planDataWrite w) s = .next (writePlanData w s) := congrArg Host.Outcome.next (State.hostWrite_on on)

theorem writePlanData_none (closed : s.board.window = none) : writePlanData w s = s.wr F.BRD_ERR_PLAN_SEQ 0 1 := by
  unfold writePlanData
  rw [closed]
  rfl

/-- Plan memory after a write of `w` at ADDR of tile `k`. -/
def State.dataStored (s : State) (k : Nat) (w : Word) : List Host.Cell :=
  Memory.writeBytes s.planMem (16384 * k + 4 * s.rd F.BRD_PLAN_ADDR_WORD) (leBytes 4 w.toNat)

theorem writePlanData_open {k : Nat} (opened : s.board.window = some k) : writePlanData w s =
    { s.wr F.BRD_PLAN_ADDR_WORD 0 (s.rd F.BRD_PLAN_ADDR_WORD + 1) with
      planMem := if s.isDedupTile k then s.planMem else s.dataStored k w } := by
  unfold writePlanData
  rw [opened]
  dsimp only
  cases s.isDedupTile k <;> rfl

/-! ### BRD_UCODE (R9, R494) -/

theorem exec_ucodePlock (on : s.isOn .board = true) (b16 : bit w.toNat 16 = true) :
    exec (.ucodePlock w) s = .next (writeUcode w s) := congrArg _ ((if_pos b16).trans (State.hostWrite_on on))

theorem exec_ucodePlock_idle (b16 : bit w.toNat 16 = false) : exec (.ucodePlock w) s = .next s :=
  congrArg _ (if_neg (Bool.eq_false_iff.mp b16))

theorem writeUcode_locks (b16 : bit w.toNat 16 = true) : writeUcode w s =
    (if s.flag F.BRD_UCODE_PLOCK then s else s.wr F.BRD_UCODE_MASK 0 (w.toNat % 65536)).wr F.BRD_UCODE_PLOCK 0 1 := by
  have mask : bits w.toNat 15 0 = w.toNat % 65536 := bits_low _ 15
  unfold writeUcode
  dsimp only
  rw [b16, mask]
  rfl

end Sys2Proof.Machine

open Sys2Proof Sys2Proof.Machine

/-- Settles O17: a load from the host by its dispatch and its end, a load through the window by the writes of its
registers. -/
theorem planTilesAreLoadedAndChecked : Obligations.PlanTilesAreLoadedAndChecked := by
  unfold Obligations.PlanTilesAreLoadedAndChecked
  refine ⟨fun s u head _ => exec_loadTile_head head, fun s q u k staged found slot may sq unit op => ?_,
    fun s none => exec_loadTile_none none, fun s u src running op found => ?_, fun s w on => ?_, fun s w on => ?_,
    fun s w on => ?_⟩
  · have run := exec_descriptorDispatch_ring staged slot may sq
    refine ⟨fun free => ⟨_, run, ?_⟩, fun taken => ?_⟩
    · rw [State.dispatchTxn_queues (by rw [unit, free]), State.atDispatch_loadTile unit op]
      exact ⟨congrArg PlanTile.st (State.modPlanTile_planTile _ _ _), fun j ne => State.modPlanTile_others ne _, rfl⟩
    · have bad : s.dispatchEnd u.unit u.desc = some .badDescriptor := by rw [unit, State.dispatchEnd_referenced op taken]
      obtain ⟨⟨v, entry, -, -, -, -, -, phase⟩, -⟩ := State.dispatchTxn_dispatched found k
      rw [bad] at phase
      exact ⟨_, v, run, entry, phase, State.dispatchTxn_ends_board bad k⟩
  · have live := State.live_of_running running
    refine ⟨exec_loadTileDone_waits running, fun dma good => ?_, fun dma bad => ?_⟩
    · have ended := State.finish_done (s := (s.fillPlanTile u.loadsTile src).modPlanTile u.loadsTile (fun x =>
        { x with st := .ready, crc := u.loadCrc })) found live .ok
      refine ⟨_, _, exec_loadTileDone_good running op dma good, ?_, ?_, ?_, ended, rfl, ?_⟩
      all_goals rw [State.finish_frame]
      · rfl
      · exact State.modPlanTile_planTile _ _ _
      · exact fun j ne => State.modPlanTile_others ne _
      · rfl
    · have ended := State.finish_done (s := (s.fillPlanTile u.loadsTile src).planTileOut u.loadsTile)
        ((State.txn?_congr (State.planTileOut_txns _ _) u.id).trans found) live .checksumFail
      refine ⟨_, _, exec_loadTileDone_bad running op dma bad, ?_, ?_, ?_, ?_, ended, rfl⟩
      all_goals rw [State.finish_frame]
      · exact (State.planTileOut_keeps _ _).2.2.2
      · exact State.planTileOut_st _ _
      · exact fun j ne => State.planTileOut_others ne
      · exact State.planTileOut_fails _ _
  · refine ⟨fun b8 b9 closed => ?_, fun b8 b9 opened => ?_, exec_planWindowOpen_idle, fun k b9 opened => ?_,
      fun b8 b9 closed => ?_, exec_planWindowClose_idle⟩
    · rw [exec_planWindowOpen on b8, writePlanCtl_opens b8 b9, closed, Option.isSome_none, if_neg Bool.false_ne_true]
      refine ⟨fun free plan => ?_, fun free off => ?_, fun taken => ?_⟩
      · rw [openWindow_starts closed free plan]
        exact ⟨_, rfl, s.windowOpened_effect (ctlTile w)⟩
      · rw [openWindow_planOff closed free off, ctlTile]
      · rw [openWindow_taken closed taken, ctlTile]
    · rw [exec_planWindowOpen on b8, writePlanCtl_opens b8 b9, opened, if_pos rfl]
    · rw [exec_planWindowClose on b9, writePlanCtl_closes b9 opened]
      exact ⟨_, rfl, s.windowJudged_effect k⟩
    · rw [exec_planWindowClose on b9, writePlanCtl_names b8 closed, ctlTile]
  · rw [exec_planDataWrite on]
    refine ⟨fun closed => by rw [writePlanData_none closed], fun k opened => ⟨_, rfl, ?_⟩⟩
    rw [writePlanData_open opened]
    have stored : (leBytes 4 w.toNat).length = 4 := leBytes_length 4 _
    refine ⟨s.rd_wr_self _ _ _, fun i lt keep => ?_, fun a out => ?_, RegsOnly.wr s _ _ _⟩
    · rw [keep, if_neg Bool.false_ne_true, State.dataStored, Memory.read_writeBytes _ _ _ _ (by omega), leBytes_getElem]
    · dsimp only
      split
      · rfl
      · next keep =>
        refine Memory.read_writeBytes_out _ _ ?_
        rw [stored]
        exact out.resolve_left keep
  · exact ⟨fun b16 => by rw [exec_ucodePlock on b16, writeUcode_locks b16], exec_ucodePlock_idle⟩
end

section
/-! PROOFS. O12: the identities and phases of the transactions, and what keeps them. -/

namespace Sys2Proof.Machine
open Sys2Proof

variable (s : State)

/-! ### The phases of the transactions

A record written, a group flushed or a frame cut marks transactions and never moves one to another phase. -/

/-- The identity and the phase of each transaction, in the order of the list. -/
def State.phases : List (Nat × TxPhase) := s.txns.map (fun t => (t.id, t.phase))

/-- The first transaction of an identity has the phase that stands first for the identity. -/
theorem State.find?_phases (id : Nat) : s.phases.find? (fun p => p.1 == id) = (s.txn? id).map (fun t => (t.id, t.phase)) := by
  unfold State.phases State.txn?
  rw [List.find?_map]
  rfl

/-- States whose transactions have the same phases agree on the phase of each transaction. -/
theorem State.txn?_of_phases {s t : State} {u : Txn} {id : Nat} (h : t.phases = s.phases) (hu : s.txn? id = some u) :
    ∃ v, t.txn? id = some v ∧ v.phase = u.phase := by
  have e : (t.txn? id).map (fun t => (t.id, t.phase)) = some (u.id, u.phase) := by
    rw [← t.find?_phases, h, s.find?_phases, hu]
    rfl
  obtain ⟨v, hv, hp⟩ := Option.map_eq_some_iff.mp e
  exact ⟨v, hv, (Prod.mk.inj hp).2⟩

theorem State.phases_congr {s t : State} (h : t.txns = s.txns) : t.phases = s.phases := by
  unfold State.phases
  rw [h]

/-- Both branches of a choice keep the phases. -/
theorem State.phases_ite {s t u : State} {c : Prop} [Decidable c] (h : t.phases = s.phases) (g : u.phases = s.phases) :
    (if c then t else u).phases = s.phases := by
  split
  · exact h
  · exact g

theorem State.modTxn_phases (id : Nat) {f : Txn → Txn} (h : ∀ t, (f t).id = t.id ∧ (f t).phase = t.phase) :
    (s.modTxn id f).phases = s.phases := by
  simp only [State.phases, State.modTxn, List.map_map]
  refine List.map_congr_left (fun t _ => ?_)
  simp only [Function.comp_apply]
  split
  · rw [(h t).1, (h t).2]
  · rfl

@[simp] theorem State.wr_phases (f : Fld) (i v : Nat) : (s.wr f i v).phases = s.phases := rfl
@[simp] theorem State.setF_phases (f : Fld) (i : Nat) : (s.setF f i).phases = s.phases := rfl
@[simp] theorem State.count_phases (f : Fld) (i k : Nat) : (s.count f i k).phases = s.phases := rfl
@[simp] theorem State.emitOut_phases (o : Output) : (s.emitOut o).phases = s.phases := rfl
@[simp] theorem State.modRod_phases (n : Fin 24) (f : Rod → Rod) : (s.modRod n f).phases = s.phases := rfl
@[simp] theorem State.modFifo_phases (q : Fin 25) (f : Fifo → Fifo) : (s.modFifo q f).phases = s.phases := rfl
@[simp] theorem State.modUhf_phases (f : UhfPart → UhfPart) : (s.modUhf f).phases = s.phases := rfl
@[simp] theorem State.modAcc_phases (f : AccPart → AccPart) : (s.modAcc f).phases = s.phases := rfl
@[simp] theorem State.setSpeaker_phases (z : Fin 8) (v : Option Nat) : (s.setSpeaker z v).phases = s.phases := rfl
@[simp] theorem State.setQueue_phases (q : List Start) : (s.setQueue q).phases = s.phases := rfl
@[simp] theorem State.dequeueOf_phases (n : Nat) (o : Option Nat) : (s.dequeueOf n o).phases = s.phases := rfl
@[simp] theorem State.modPlan_phases (n : Fin 24) (f : Plan → Plan) : (s.modPlan n f).phases = s.phases := rfl
@[simp] theorem State.modTag_phases (n : Fin 24) (f : TagRun → TagRun) : (s.modTag n f).phases = s.phases := rfl
@[simp] theorem State.countDiscard_phases (n : Fin 24) (w : DiscardWhy) : (s.countDiscard n w).phases = s.phases := rfl

@[simp] theorem State.raise_phases (c : EventCode) (u : Nat) (d : List Byte) : (s.raise c u d).phases = s.phases := by
  rw [s.raise_frame]
  rfl

theorem CrcOnly.phases {s t : State} (h : CrcOnly s t) : t.phases = s.phases := by
  unfold CrcOnly at h
  rw [h]
  rfl

@[simp] theorem State.crcCut_phases (stream : Nat) (known : Option (List Byte)) : (s.crcCut stream known).phases = s.phases := by
  unfold State.crcCut
  split
  · cases known <;> exact (State.crcFeed_crcOnly _ _ _).phases
  · rfl

/-! ### Records and their FIFOs -/

@[simp] theorem State.fifoOverrun_phases (f : Fin 25) (n : Nat) : (s.fifoOverrun f n).phases = s.phases := by
  simp [State.fifoOverrun]

@[simp] theorem State.publish_phases (f : Fin 25) (ps placed : List Packet) : (s.publish f ps placed).phases = s.phases := by
  have marks : ∀ (p : Packet) (x : State),
      (onSome p.txn (fun id s => s.modTxn id (fun t => { t with hasRec := true })) x).phases = x.phases :=
    fun p x => onSome_keeps _ (fun id x => x.modTxn_phases id (fun _ => ⟨rfl, rfl⟩)) _ x
  unfold State.publish
  dsimp only
  split
  · exact forAll_keeps _ marks _ _
  · rw [State.fifoOverrun_phases, State.count_phases]
    exact forAll_keeps _ marks _ _

@[simp] theorem State.discardGroup_phases (f : Fin 25) (ps : List Packet) (o : Option Nat) :
    (s.discardGroup f ps o).phases = s.phases := by
  unfold State.discardGroup
  dsimp only
  have fails : ∀ (id : Nat) (x : State), (x.modTxn id (fun t => { t with failed := true })).phases = x.phases :=
    fun id x => x.modTxn_phases id (fun _ => ⟨rfl, rfl⟩)
  refine (onSome_keeps State.phases fails o _).trans ?_
  rw [State.count_phases, State.modFifo_phases]
  exact State.phases_ite rfl (s.fifoOverrun_phases f _)

@[simp] theorem State.writeGroup_phases (f : Fin 25) (ps : List Packet) (o : Option Nat) :
    (s.writeGroup f ps o).phases = s.phases := by
  unfold State.writeGroup
  split <;> simp

@[simp] theorem State.emit_phases (f : Fin 25) (rs : List RecordData) (o : Option Nat) : (s.emit f rs o).phases = s.phases := by
  unfold State.emit
  dsimp only
  split <;> simp

@[simp] theorem State.startWaiting_phases (f : Fin 25) (fuel : Nat) (s : State) :
    (State.startWaiting f fuel s).phases = s.phases := by
  induction fuel generalizing s with
  | zero => rfl
  | succ fuel ih =>
    unfold State.startWaiting
    split
    · rfl
    · dsimp only
      split
      · rw [ih, State.writeGroup_phases, State.modFifo_phases, State.modFifo_phases]
      · exact State.modFifo_phases _ _ _

@[simp] theorem State.lostSoFar_phases (f : Fin 25) (g : OpenGroup) : (s.lostSoFar f g).1.phases = s.phases := by
  unfold State.lostSoFar
  dsimp only
  split <;> rfl

@[simp] theorem State.flushProducer_phases (f : Fin 25) : (s.flushProducer f).phases = s.phases := by
  unfold State.flushProducer
  dsimp only
  rw [State.startWaiting_phases, State.modFifo_phases]
  split
  · split <;> simp
  · rfl

@[simp] theorem State.flushGroup_phases (f : Fin 25) (id : Nat) : (s.flushGroup f id).phases = s.phases := by
  unfold State.flushGroup
  split <;> simp

@[simp] theorem State.xferRecords_phases (t : Txn) (st : Status) (got : List Byte) (count frames status : Nat) :
    (s.xferRecords t st got count frames status).phases = s.phases := by
  unfold State.xferRecords State.emitAcc
  dsimp only
  rw [State.emit_phases]
  split
  · exact forAll_keeps _ (fun r x => x.emit_phases _ _ _) _ _
  · rfl

@[simp] theorem State.serialNext_phases : s.serialNext.phases = s.phases := by
  rw [(State.serialNext_serialOnly s).frame]
  rfl

/-! ### A rod's exchange and its plan -/

@[simp] theorem State.releaseGrant_phases (n : Fin 24) : (s.releaseGrant n).phases = s.phases := by
  unfold State.releaseGrant
  split
  · dsimp only
    split <;> rfl
  · rfl

@[simp] theorem State.rampDown_phases (n : Fin 24) : (s.rampDown n).phases = s.phases := by
  unfold State.rampDown
  dsimp only
  split
  · have dropped : (s.dropRequest n).phases = s.phases := by
      rw [s.dropRequest_rodsOnly n]
      rfl
    exact dropped
  · rfl

@[simp] theorem State.startGap_phases (n : Fin 24) : (s.startGap n).phases = s.phases := by
  unfold State.startGap
  dsimp only
  split
  · exact forAll_keeps _ (fun m x => x.modRod_phases m _) _ _
  · rfl

@[simp] theorem State.surveyDown_phases (n : Fin 24) : (s.surveyDown n).phases = s.phases := by
  unfold State.surveyDown
  split <;> simp

@[simp] theorem State.endAir_phases (n : Fin 24) (c : Option LateNote) : (s.endAir n c).phases = s.phases := by
  have listener : ∀ (m : Nat) (x : State),
      (if (x.rod (ix 23 m)).rampAfter then x.rampDown (ix 23 m) else x).phases = x.phases :=
    fun m x => State.phases_ite (x.rampDown_phases _) rfl
  have gap : (((s.modRod n (fun r => { r with air := none, closed := c })).modFifo (ix 24 n.val)
      (fun q => { q with reserved := 0 })).startGap n).phases = s.phases := State.startGap_phases _ _
  have ramped := fun ls => (forAll_keeps State.phases listener ls _).trans gap
  unfold State.endAir
  dsimp only
  refine State.phases_ite ?_ (State.phases_ite ((State.rampDown_phases _ _).trans (ramped _)) (ramped _))
  rw [forAll_keeps State.phases (fun m x => State.phases_ite (x.surveyDown_phases m) rfl)]
  exact State.phases_ite ((State.rampDown_phases _ _).trans (ramped _)) (ramped _)

@[simp] theorem State.noteNear_phases (n : Fin 24) (x : Exchange) : (s.noteNear n x).phases = s.phases := by
  unfold State.noteNear
  split <;> rfl

@[simp] theorem State.dropGroup_phases (n : Fin 24) (x : Exchange) : (s.dropGroup n x).phases = s.phases :=
  onSome_keeps _ (fun id x => x.flushGroup_phases _ id) _ _

@[simp] theorem State.cutAir_phases (n : Fin 24) (x : Exchange) (held : Option (List Byte)) :
    (s.cutAir n x held).phases = s.phases := by
  unfold State.cutAir
  split <;> simp

@[simp] theorem State.leaveRod_phases (n : Fin 24) (t : Txn) : (s.leaveRod n t).phases = s.phases := by
  have flagged : (if t.op = 2 || t.op = 4 then s.modRod n (fun r => { r with rampAfter := false }) else s).phases = s.phases := by
    split <;> rfl
  unfold State.leaveRod
  dsimp only
  rw [State.releaseGrant_phases]
  split
  · split
    · split
      · rw [State.modRod_phases, flagged]
      · rw [State.cutAir_phases, flagged]
    · exact flagged
  · exact flagged

@[simp] theorem State.dropPrep_phases (n : Fin 24) : (s.dropPrep n).phases = s.phases := by
  unfold State.dropPrep
  split
  · split <;> rfl
  · rfl

@[simp] theorem State.dropPlanFrame_phases (n : Fin 24) : (s.dropPlanFrame n).phases = s.phases := by
  unfold State.dropPlanFrame when
  split
  · split
    · split <;> rfl
    · rfl
  · rfl

@[simp] theorem State.tagGone_phases (n : Fin 24) (uid : List Byte) : (s.tagGone n uid).phases = s.phases := by
  unfold State.tagGone
  split
  · split
    · dsimp only
      split
      · split
        · split <;> simp
        · simp
      · simp
    · rfl
  · rfl

@[simp] theorem State.discard_phases (n : Fin 24) (j : Nat) (w : DiscardWhy) : (s.discard n j w).phases = s.phases := by
  unfold State.discard when
  split
  · dsimp only
    rw [State.tagGone_phases]
    split <;> simp
  · rfl

@[simp] theorem State.discardSome_phases (n : Fin 24) (w : DiscardWhy) (fuel : Nat) (s : State) :
    (State.discardSome n w fuel s).phases = s.phases := by
  induction fuel generalizing s with
  | zero => rfl
  | succ fuel ih =>
    unfold State.discardSome
    split
    · rfl
    · rw [ih, State.discard_phases]

end Sys2Proof.Machine
end

section
/-! PROOFS. O12: a descriptor whose data fetch failed, and the errors that the host's accesses set. -/

namespace Sys2Proof.Machine
open Sys2Proof

variable {s : State}

/-! ### A transaction that has ended stays ended -/

theorem EndsWith.of_phases {t : State} {id : Nat} {st : Status} (h : EndsWith s id st) (k : t.phases = s.phases) :
    EndsWith t id st := by
  obtain ⟨v, found, phase⟩ := h
  obtain ⟨w, found', phase'⟩ := State.txn?_of_phases k found
  exact ⟨w, found', phase'.trans phase⟩

/-- The transaction of an identity is among those that stay when another identity is taken out. -/
theorem State.txn?_filter_ne {id k : Nat} (ne : id ≠ k) :
    (s.txns.filter (fun w => w.id != k)).find? (fun t => t.id == id) = s.txn? id := by
  unfold State.txn?
  rw [List.find?_filter]
  congr 1
  funext w
  by_cases h : w.id = id
  · simp [h, ne]
  · simp [h]

/-- The end of another transaction, or of the same one once more, leaves an ended transaction as it is. -/
theorem EndsWith.finish {id : Nat} {st : Status} (h : EndsWith s id st) (k : Nat) (st' : Status) :
    EndsWith (s.finish k st') id st := by
  obtain ⟨v, found, phase⟩ := h
  by_cases ne : id = k
  · subst ne
    have live : v.live = false := by rw [Txn.live, phase]
    have same : v.endWith st' s.sys.nextId = v := by
      rw [Txn.endWith, live]
      rfl
    have modded := s.txn?_modTxn id (Txn.endWith st' s.sys.nextId) (fun t => by unfold Txn.endWith; split <;> rfl)
    rw [found, Option.map_some, same] at modded
    refine ⟨v, ?_, phase⟩
    unfold State.finish
    rw [found]
    dsimp only
    rw [live]
    exact modded
  · refine ⟨v, ?_, phase⟩
    rw [← State.txn?_filter_ne ne, State.finish_others, State.txn?_filter_ne ne, found]

/-- A transaction that a record, a flush or a cut frame left live ends with its status. -/
theorem State.finish_endsWith {t : State} {u : Txn} {id : Nat} (found : s.txn? id = some u) (live : u.live = true)
    (kept : t.phases = s.phases) (st : Status) : EndsWith (t.finish id st) id st := by
  obtain ⟨v, found', phase⟩ := State.txn?_of_phases kept found
  have live' : v.live = true := by
    rw [← live]
    unfold Txn.live
    rw [phase]
  exact ⟨_, State.finish_done found' live' st, rfl⟩

/-! ### The invocations that end with a plan tile -/

theorem EndsWith.settlePlan {id : Nat} {st : Status} (h : EndsWith s id st) (n : Fin 24) : EndsWith (s.settlePlan n) id st := by
  unfold State.settlePlan
  split
  · split
    · split
      · exact forAll_inv (fun x => EndsWith x id st) (fun t x hx => hx.finish t.id .ok) _ _
          (h.of_phases (State.emit_phases _ _ _ _))
      · exact h
    · exact h
  · exact h

theorem EndsWith.endPlan {id : Nat} {st : Status} (h : EndsWith s id st) (n : Fin 24) (c : PlanCause) :
    EndsWith (s.endPlan n c) id st := by
  unfold State.endPlan State.discardAll
  refine EndsWith.settlePlan (h.of_phases ?_) n
  exact State.phases_ite (by simp) (by simp)

theorem EndsWith.settleDoom {id : Nat} {st : Status} (h : EndsWith s id st) : EndsWith s.settleDoom id st := by
  refine forAll_inv (fun x => EndsWith x id st) (fun n x hx => ?_) _ _ h
  unfold State.planBoundary
  split
  · split
    · split
      · exact hx.endPlan n _
      · split
        · exact hx.endPlan n _
        · exact hx
    · exact hx
  · exact hx

/-! ### Descriptors that read a host buffer (R104) -/

/-- What reads a host buffer has not ended; a cipher request counts here while it waits in the queue. -/
theorem State.readsBuffer_live {u : Txn} (h : s.readsBuffer u = true) (k : u.unit ≠ unitCph ∨ u.isQueued = true) :
    u.live = true := by
  have queued : u.isQueued = true → u.live = true := fun e => by
    rw [Txn.live, beq_iff_eq.mp e]
  have running : u.isRunning = true → u.live = true := fun e => by
    rw [Txn.live, beq_iff_eq.mp e]
  unfold State.readsBuffer at h
  dsimp only at h
  split at h
  · simp only [Bool.and_eq_true] at h
    obtain ⟨⟨⟨-, waits⟩, -⟩, -⟩ := h
    exact queued waits
  split at h
  · simp only [Bool.and_eq_true] at h
    obtain ⟨⟨-, waits⟩, -⟩ := h
    exact queued waits
  split at h
  · simp only [Bool.and_eq_true] at h
    obtain ⟨⟨-, waits⟩, -⟩ := h
    exact queued waits
  split at h
  · next e => exact queued (k.resolve_left (fun ne => ne e))
  split at h
  · simp only [Bool.and_eq_true] at h
    obtain ⟨-, runs⟩ := h
    exact running runs
  split at h
  · simp only [Bool.and_eq_true] at h
    obtain ⟨⟨-, waits⟩, -⟩ := h
    exact queued waits
  split at h
  · simp only [Bool.and_eq_true] at h
    obtain ⟨⟨⟨⟨-, waits⟩, -⟩, -⟩, -⟩ := h
    exact queued waits
  · exact absurd h Bool.false_ne_true

/-- The request at the head is the descriptor whose ciphertext is read. -/
theorem State.readsBuffer_head {u : Txn} (h : s.readsBuffer u = true) (k : u.unit = unitAcc) :
    ∃ b, s.accTake? 6 = some (.desc u.id b) := by
  have vd : s.vdReads u = true := by
    unfold State.readsBuffer at h
    dsimp only at h
    rw [if_neg (by rw [k]; decide), if_pos k] at h
    simp only [Bool.and_eq_true] at h
    exact h.2
  unfold State.vdReads at vd
  dsimp only at vd
  simp only [Bool.and_eq_true] at vd
  have head := vd.2
  split at head
  · next id b taken => exact ⟨b, beq_iff_eq.mp head ▸ taken⟩
  · exact absurd head Bool.false_ne_true

section
variable {u : Txn} (found : s.txn? u.id = some u) (live : u.live = true) (st : Status)
include found live

theorem State.endRodTxn_endsWith (n : Fin 24) : EndsWith (s.endRodTxn n u.id st) u.id st := by
  unfold State.endRodTxn
  dsimp only
  refine State.finish_endsWith found live ?_ st
  rw [onSome_keeps State.phases (fun t x => x.leaveRod_phases n t), State.dequeueOf_phases]

theorem State.endUhf_endsWith : EndsWith (s.endUhf u.id st) u.id st := by
  have counted : ∀ x : State, EndsWith x u.id st →
      EndsWith (if st = .late then x.count F.UHF_CNT_LATE_COUNT else x) u.id st := fun x h => by
    split
    · exact h.of_phases rfl
    · exact h
  unfold State.endUhf
  dsimp only
  refine counted _ (State.finish_endsWith found live (State.phases_ite ?_ rfl) st)
  rw [State.modUhf_phases]
  exact State.phases_ite rfl (State.phases_ite (by simp) (State.phases_ite (by simp) rfl))

theorem State.endCipher_endsWith : EndsWith (s.endCipher u.id st) u.id st := by
  have ended := State.finish_endsWith (t := s.unqueue u.id) found live rfl st
  unfold State.endCipher
  dsimp only
  split
  · exact ended.of_phases rfl
  · exact ended

theorem State.endXfer_endsWith (got : List Byte) (count frames status : Nat) :
    EndsWith (s.endXfer u st got count frames status) u.id st := by
  have ended := State.finish_endsWith found live (t := ({ s with spi := if s.spi.any (fun (r : SpiRun) => r.txn == u.id) then
    none else s.spi }).xferRecords u st got count frames status) (State.xferRecords_phases _ _ _ _ _ _ _) st
  exact ended.of_phases (State.serialNext_phases _)

end

/-- The request is taken out of the list and is being carried out when it ends. -/
theorem State.takeReq_endsWith {u : Txn} (found : s.txn? u.id = some u) (b : LockSet) (st : Status) :
    EndsWith ((s.takeReq (.desc u.id b)).finish u.id st) u.id st := by
  have running : (s.takeReq (.desc u.id b)).txn? u.id = some { u with phase := .running } := by
    have moved := (s.modAcc (fun a => { a with reqs := a.reqs.erase (.desc u.id b) })).txn?_modTxn u.id
      (fun t => { t with phase := .running }) (fun _ => rfl)
    exact moved.trans (congrArg _ found)
  exact State.finish_endsWith running rfl rfl st

end Sys2Proof.Machine
end

section
/-! PROOFS. O12: the host's errors (R51, R52, R104, R105). -/

namespace Sys2Proof.Machine
open Sys2Proof

variable {s : State}

/-- A transaction whose data fetch failed ends ABORTED (R104); a cipher request that a core works on does so later. -/
theorem State.dataFailed_endsWith {u : Txn} (found : s.txn? u.id = some u) (reads : s.readsBuffer u = true)
    (k : u.unit ≠ unitCph ∨ u.isQueued = true) : EndsWith (s.dataFailed u) u.id .aborted := by
  have live := State.readsBuffer_live reads k
  unfold State.dataFailed
  by_cases rod : u.unit < 24
  · rw [if_pos rod]
    exact State.endRodTxn_endsWith found live _ _
  rw [if_neg rod]
  by_cases acc : u.unit = unitAcc
  · obtain ⟨b, head⟩ := State.readsBuffer_head reads acc
    rw [if_pos acc, head]
    exact State.takeReq_endsWith found b _
  rw [if_neg acc]
  split
  · exact State.endUhf_endsWith found live _
  split
  · next cph =>
    rw [if_pos (k.resolve_left (fun ne => ne cph))]
    exact State.endCipher_endsWith found live _
  split
  · exact (State.finish_endsWith found live (State.phases_congr (State.planTileOut_txns _ _)) _).settleDoom
  split
  · exact State.endXfer_endsWith found live _ _ _ _ _
  · exact State.finish_endsWith found live rfl _

/-- A cipher request that a core works on is to stop at its next block boundary. -/
theorem State.dataFailed_stops {u : Txn} (cph : u.unit = unitCph) (started : u.isQueued = false) :
    s.dataFailed u = s.stopCores (fun r => r.txn == u.id) .aborted := by
  unfold State.dataFailed
  rw [cph, started]
  rfl

theorem exec_dataFetchFail {q : Fin 32} {addr : DWord} {u : Txn} (dma : s.mayDma = true)
    (reads : s.txns.find? (fun t => t.sq == some q.val && s.readsBuffer t) = some u) :
    exec (.dataFetchFail q addr) s = .next ((s.dataFailed u).hostErr 1 0 q.val addr.toNat) := by
  change execDataFetchFail q addr s = _
  rw [execDataFetchFail, if_pos dma, reads]
  rfl

theorem exec_dataFetchFail_idle {q : Fin 32} {addr : DWord} (h : s.mayDma = false ∨
    s.txns.find? (fun t => t.sq == some q.val && s.readsBuffer t) = none) :
    exec (.dataFetchFail q addr) s = .next s := by
  change execDataFetchFail q addr s = _
  rcases h with dma | none <;> unfold execDataFetchFail
  · rw [dma, if_neg Bool.false_ne_true]
  · rw [none, onSome_none, ite_self]

/-- An error that is noted changes registers only. -/
theorem HostErrNoted.frame {t : State} {b kind ring addr : Nat} (h : HostErrNoted s t b kind ring addr) :
    t = { s with regs := t.regs } := by
  obtain ⟨-, -, -, regs, -⟩ := h
  exact regs

theorem HostErrNoted.phases {t : State} {b kind ring addr : Nat} (h : HostErrNoted s t b kind ring addr) :
    t.phases = s.phases := by
  rw [h.frame]
  rfl

theorem HostErrNoted.cph {t : State} {b kind ring addr : Nat} (h : HostErrNoted s t b kind ring addr) : t.cph = s.cph := by
  rw [h.frame]

theorem exec_bar0BadAccess (w : Bool) (addr size : Nat) : exec (.bar0BadAccess w addr size) s = .next (
    if !s.isOn .host || bar0Accepts addr size then s else if w then s.hostErr 6 0 0 addr else s.emitOut (.unsupported addr)) := rfl

theorem exec_bar2Write (off : Nat) : exec (.bar2Write off) s = .next (if s.isOn .host then s.hostErr 7 0 0 off else s) := rfl

/-- BAR0 takes naturally aligned accesses of 32 and 64 bits (R51). -/
theorem bar0Accepts_iff (addr size : Nat) :
    bar0Accepts addr size = true ↔ (size = 4 ∧ addr % 4 = 0) ∨ (size = 8 ∧ addr % 8 = 0) := by
  simp [bar0Accepts]

end Sys2Proof.Machine

open Sys2Proof Sys2Proof.Machine

/-- Settles O12: what reads a host buffer is live, and a record, a flush or a cut frame moves no transaction to another
phase, so the descriptor that fails is live when it ends. -/
theorem hostErrorsAreCapturedAndFetchFailuresAbort : Obligations.HostErrorsAreCapturedAndFetchFailuresAbort := by
  unfold Obligations.HostErrorsAreCapturedAndFetchFailuresAbort
  refine ⟨fun s q addr u => ⟨fun dma reads found => ?_, exec_dataFetchFail_idle⟩, fun s addr size w => ?_⟩
  · have noted := (s.dataFailed u).hostErr_noted (b := 1) (by decide) 0 q.val addr.toNat
    have readsBuffer : s.readsBuffer u = true := by
      have both := List.find?_some reads
      rw [Bool.and_eq_true] at both
      exact both.2
    refine ⟨_, exec_dataFetchFail dma reads, noted, fun k => ?_, fun cph started => ?_⟩
    · exact (State.dataFailed_endsWith found readsBuffer k).of_phases noted.phases
    · rw [noted.cph, State.dataFailed_stops cph started]
      rfl
  · dsimp only
    rw [← bar0Accepts_iff, exec_bar2Write]
    refine ⟨fun h => ?_, fun on bad => ⟨?_, ?_⟩, fun on => ⟨_, ?_, s.hostErr_noted (by decide) 0 0 addr⟩, fun off => ?_⟩
    · rw [exec_bar0BadAccess, if_pos (by simpa using h)]
    · rw [exec_bar0BadAccess, if_neg (by simpa [on] using bad), if_neg Bool.false_ne_true, State.emitOut_logged]
    · exact ⟨_, by rw [exec_bar0BadAccess, if_neg (by simpa [on] using bad), if_pos rfl], s.hostErr_noted (by decide) 0 0 addr⟩
    · rw [if_pos on]
    · rw [off, if_neg Bool.false_ne_true]

end

section
/-! PROOFS. Why the statement of the rods' descriptors fails: it speaks of every state, and in one where two transactions of a
rod share an identity, the end of the dispatched one under an ABORT takes the staged one along (R167). -/

namespace Sys2Proof.Machine
open Sys2Proof

theorem lt_two_pow_512 {k : Nat} (h : k < 2 ^ 8) : k < 2 ^ 512 :=
  lt_of_lt_of_le h (Nat.pow_le_pow_right (by decide) (by decide))

/-- A TRANSCEIVE of rod 0, as transaction 7. -/
def sharedTxn (ph : TxPhase) : Txn := newTxn 7 0 (some 0) (BitVec.ofNatLT 3 (lt_two_pow_512 (by decide))) ph []

/-- ROD_ABORT without FENCE. -/
def abortDesc : Desc := BitVec.ofNatLT 0x0F (lt_two_pow_512 (by decide))

/-- Every domain is ON and ring 0 has one descriptor to fetch; rod 0 has a staged and a dispatched transaction, both with the
identity 7. -/
def sharedIdentity : State :=
  (({ State.reset with
    pwr := { PwrPart.reset with st := Vector.replicate 12 .on, step := 0 },
    host := { HostPart.reset with bme := true },
    sys := { SysPart.reset with nextId := 8 },
    txns := [sharedTxn .staged, sharedTxn .queued] } : State).wr F.HOST_SQ_CFG_EN 0 1).wr F.DOORBELL_SQ_COUNT 0 1

/-- With no invocation on any rod nothing of a tag goes on. -/
theorem State.resumeTags_none {s : State} (h : ∀ n, s.plan? n = none) : s.resumeTags = s := by
  unfold State.resumeTags
  induction allRods with
  | nil => rfl
  | cons n l ih =>
    have none : s.tag? n = none ∧ s.inv? n = none := by simp [State.tag?, State.inv?, h n]
    rw [forAll_cons, none.1]
    dsimp only
    rw [State.resumeSlot, none.2]
    dsimp only
    rw [State.settlePlan, h n]
    exact ih

/-- `sharedIdentity` with everything ended that an ABORT ends. -/
def abortedIdentity : State :=
  let s := sharedIdentity.fetchDesc 0 abortDesc .running
  (State.discardAll 0 .flush ((s.endRodTxns 0 [sharedTxn .queued] .aborted).killPlan 0 .aborted)).flushProducer 0

theorem abortedIdentity_phases : abortedIdentity.phases = [(7, .done .aborted), (7, .done .aborted), (8, .running)] := by decide

/-- With no outcome due at its fetch a command is carried out. -/
theorem State.carryOut_acts {s : State} {q : Fin 32} {op : Nat} {d : Desc} {act : Txn → State → State} (may : s.mayFetch q = true)
    (same : descByte d 0 = op) (free : (descByte d 1).testBit 0 = false) (due : s.fetchEnd (sqUnit q.val) d = none) :
    s.carryOut q op d act = act (newTxn s.sys.nextId (sqUnit q.val) (some q.val) d .running []) (s.fetchDesc q d .running) := by
  unfold State.carryOut
  rw [if_pos (by simp [may, same, bit, free])]
  dsimp only
  rw [due]

/-- An ABORT that finds the transactions `ts` to end. -/
theorem State.rodAbort_ends {s : State} {n : Fin 24} {t : Txn} {ts : List Txn}
    (earlier : s.txns.filter (fun u => u.unit == n.val && u.live && u.dispatched && decide (u.id < t.id)) = ts) :
    s.rodAbort n t = ((State.discardAll n .flush ((s.endRodTxns n ts .aborted).killPlan n .aborted)).flushProducer
      (ix 24 n.val)).resumeTags.finish t.id .ok := by
  unfold State.rodAbort
  rw [earlier]

theorem exec_rodAbort (n : Fin 24) (d : Desc) (s : State) :
    exec (.rodAbort n d) s = .next (s.carryOut (ix 31 n.val) 0x0F d (fun t s => s.rodAbort n t)) := rfl

theorem sharedIdentity_abort : exec (.rodAbort 0 abortDesc) sharedIdentity = .next (abortedIdentity.resumeTags.finish 8 .ok) := by
  rw [exec_rodAbort, State.carryOut_acts (by decide) (by decide) (by decide) (by decide),
    State.rodAbort_ends (ts := [sharedTxn .queued]) (by decide)]
  rfl

/-- The staged transaction has ended with the dispatched one. -/
theorem abortedIdentity_ends : EndsWith (abortedIdentity.resumeTags.finish 8 .ok) 7 .aborted := by
  rw [State.resumeTags_none (by decide)]
  refine EndsWith.finish ?_ 8 .ok
  have found : (abortedIdentity.txn? 7).map (fun t => (t.id, t.phase)) = some (7, .done .aborted) := by
    rw [← State.find?_phases, abortedIdentity_phases]
    rfl
  obtain ⟨v, hv, pair⟩ := Option.map_eq_some_iff.mp found
  exact ⟨v, hv, (Prod.mk.inj pair).2⟩

end Sys2Proof.Machine

open Sys2Proof Sys2Proof.Machine

/-- Refutes O22: in `sharedIdentity` an ABORT ends the dispatched transaction of the identity 7 ABORTED, and with it the staged one,
which stands first for that identity and which the statement has stay staged (`RodCut`). The statement lacks the hypothesis that
no two transactions share an identity, which a fetch takes from a counter. -/
theorem not_rodDescriptorsMeasureStopAndEnd : ¬ Obligations.RodDescriptorsMeasureStopAndEnd := by
  unfold Obligations.RodDescriptorsMeasureStopAndEnd
  intro h
  obtain ⟨-, -, -, -, -, -, -, -, -, cuts⟩ := h
  obtain ⟨-, abort⟩ := cuts sharedIdentity 0 abortDesc (by decide) (by decide) (by decide) (by decide)
  obtain ⟨t, run, ⟨-, -, -, ended, -⟩, -, -⟩ := abort (by decide)
  obtain ⟨-, staged⟩ := ended (sharedTxn .staged) (by decide) (by decide) (by decide) (by decide)
  obtain ⟨v, found, stays⟩ := staged rfl (by decide)
  rw [sharedIdentity_abort] at run
  injection run with same
  obtain ⟨u, found', ends⟩ := abortedIdentity_ends
  rw [same] at found'
  obtain rfl : u = v := Option.some.inj (found'.symm.trans found)
  exact absurd (ends.symm.trans stays) (by decide)
end

section
/-! PROOFS. What the operations of a rod's carrier leave: the other rods, and what the rod itself sends, runs and holds. -/

namespace Sys2Proof.Machine
open Sys2Proof

variable {s t u : State} {n : Fin 24}

/-! ### Steps of a carrier -/

/-- The rods of `t` are those of `s`, but for rod `n`'s carrier, power and request for the grant: its exchange, its plan and its
held records are as they were. -/
structure CarrierStep (n : Fin 24) (s t : State) : Prop where
  others : ∀ m, m ≠ n → t.rod m = s.rod m
  air : (t.rod n).air = (s.rod n).air
  plan : t.plan? n = s.plan? n
  held : (t.rod n).held = (s.rod n).held

theorem State.rod_congr (h : t.rods = s.rods) (m : Fin 24) : t.rod m = s.rod m := congrArg (vget · m) h

theorem CarrierStep.of_rods (h : t.rods = s.rods) : CarrierStep n s t := by
  have same := State.rod_congr h
  exact ⟨fun m _ => same m, by rw [same], by rw [State.plan?, same, State.plan?], by rw [same]⟩

theorem CarrierStep.trans (h : CarrierStep n s t) (g : CarrierStep n t u) : CarrierStep n s u :=
  ⟨fun m ne => (g.others m ne).trans (h.others m ne), g.air.trans h.air, g.plan.trans h.plan, g.held.trans h.held⟩

/-- A change of rod `n` that keeps its exchange, its plan and its held records. -/
theorem CarrierStep.modRod (f : Rod → Rod) (h : ∀ r, (f r).air = r.air ∧ (f r).plan = r.plan ∧ (f r).held = r.held) :
    CarrierStep n s (s.modRod n f) := by
  have self := s.rod_modRod_self n f
  obtain ⟨air, plan, held⟩ := h (s.rod n)
  exact ⟨fun m ne => s.rod_modRod_ne ne.symm f, by rw [self, air], by rw [State.plan?, self, plan, State.plan?], by rw [self, held]⟩

/-- What leaves the rods after such a step keeps it one. -/
theorem CarrierStep.then (h : CarrierStep n s t) (e : u.rods = t.rods) : CarrierStep n s u := h.trans (.of_rods e)

theorem CaptureOnly.rods (h : CaptureOnly s t) : t.rods = s.rods := by
  unfold CaptureOnly at h
  rw [h]

theorem State.dropRequest_step (s : State) (n : Fin 24) : CarrierStep n s (s.dropRequest n) := by
  have dropped : CarrierStep n s (s.modRod n (fun r => { r with req := none })) := CarrierStep.modRod _ fun _ => ⟨rfl, rfl, rfl⟩
  unfold State.dropRequest
  dsimp only
  split
  · split
    exacts [dropped.then rfl, dropped]
  · exact dropped

theorem State.makeStart_step (s : State) (n : Fin 24) (b : Nat) : CarrierStep n s (s.makeStart n b) := by
  unfold State.makeStart
  dsimp only
  split
  · exact .modRod _ fun _ => ⟨rfl, rfl, rfl⟩
  · have started : CarrierStep n s (s.modRod n (fun r => { r with
        carrier := .rampUp, code := b, goal := b, old := b, guard := false, phase := r.phaseGoal })) :=
      .modRod _ fun _ => ⟨rfl, rfl, rfl⟩
    exact (started.then rfl).trans (.of_rods (State.fieldEdge_captureOnly _ n _ _).rods)

theorem State.askStart_step (s : State) (n : Fin 24) (b : Nat) (o : Option Nat) : CarrierStep n s (s.askStart n b o) := by
  unfold State.askStart
  split
  · exact .of_rods rfl
  split
  · exact s.makeStart_step n b
  · have queued : CarrierStep n s (s.setQueue (s.field.queue ++ [⟨n.val, b, o⟩])) := .of_rods rfl
    exact queued.trans (State.dropRequest_step _ n)

theorem State.setPower_step (s : State) (n : Fin 24) (b : Nat) (o : Option Nat) : CarrierStep n s (s.setPower n b o) := by
  unfold State.setPower
  split
  · split
    exacts [.modRod _ fun _ => ⟨rfl, rfl, rfl⟩, s.askStart_step n b o]
  · exact .of_rods rfl

theorem State.settingsInForce_step (s : State) (n : Fin 24) : CarrierStep n s (s.settingsInForce n) := by
  have phase : ∀ o : Option RodSnap, CarrierStep n s (onSome o (fun (k : RodSnap) (s : State) => s.takePhase n k) s) := fun o => by
    cases o with
    | none => exact CarrierStep.of_rods rfl
    | some k => exact CarrierStep.modRod _ fun _ => ⟨rfl, rfl, rfl⟩
  have power : ∀ x : State, CarrierStep n x (x.powerInForce n) := fun x => by
    unfold State.powerInForce
    cases (x.rodInForce n).2 with
    | none => exact CarrierStep.of_rods rfl
    | some k => exact x.setPower_step n k.power _
  exact (phase _).trans (power _)

theorem State.raiseReq_step (s : State) (n : Fin 24) : CarrierStep n s (s.raiseReq n) := by
  unfold State.raiseReq
  dsimp only
  split
  exacts [.modRod _ fun _ => ⟨rfl, rfl, rfl⟩, .of_rods rfl]

theorem State.releaseGrant_step (s : State) (n : Fin 24) : CarrierStep n s (s.releaseGrant n) := by
  unfold State.releaseGrant
  split
  · have released : CarrierStep n s (s.modRod n (fun r => { r with req := none })) := CarrierStep.modRod _ fun _ => ⟨rfl, rfl, rfl⟩
    dsimp only
    split
    exacts [released.then rfl, released]
  · exact CarrierStep.of_rods rfl

theorem State.rampDown_step (s : State) (n : Fin 24) : CarrierStep n s (s.rampDown n) := by
  unfold State.rampDown
  dsimp only
  split
  · have down : CarrierStep n (s.dropRequest n) ((s.dropRequest n).modRod n (fun r => { r with
        carrier := .rampDown, guard := false, goal := r.code, rampAfter := false, agcGain := none })) :=
      .modRod _ fun _ => ⟨rfl, rfl, rfl⟩
    exact ((s.dropRequest_step n).trans down).then rfl
  · exact .of_rods rfl

/-- No wait is overdue on a rod whose transaction has its NLT before it: a carrier that is wanted asks for its start, if need be,
and nothing else happens. -/
theorem State.kick_step (h : s.overdue? n = none) : CarrierStep n s (s.kick n) ∧ RodsOnly s (s.kick n) := by
  unfold State.kick
  rw [h]
  split
  · exact ⟨s.askStart_step n _ _, s.askStart_rodsOnly n _ _⟩
  · exact ⟨CarrierStep.of_rods rfl, .refl s⟩

/-! ### Settings that come into force start no carrier -/

theorem State.setPower_frame (s : State) (n : Fin 24) (b : Nat) (o : Option Nat) :
    s.setPower n b o = { s with rods := (s.setPower n b o).rods, field := (s.setPower n b o).field } := by
  unfold State.setPower
  split
  next on =>
    unfold State.askStart State.makeStart State.dropRequest
    rw [if_pos on]
    repeat' split
    all_goals rfl
  next => rfl

theorem State.settingsInForce_frame (s : State) (n : Fin 24) : s.settingsInForce n =
    { s with rods := (s.settingsInForce n).rods, field := (s.settingsInForce n).field } := by
  have power : ∀ (x : State) (o : Option RodSnap) (i : Option Nat),
      onSome o (fun (k : RodSnap) (s : State) => s.setPower n k.power i) x =
        { x with rods := (onSome o (fun (k : RodSnap) (s : State) => s.setPower n k.power i) x).rods,
                 field := (onSome o (fun (k : RodSnap) (s : State) => s.setPower n k.power i) x).field } := fun x o i => by
    cases o with
    | none => rfl
    | some k => exact x.setPower_frame n k.power i
  unfold State.settingsInForce State.powerInForce
  cases (s.rodInForce n).2 with
  | none => exact power s _ _
  | some k => exact power (s.takePhase n k) _ _

end Sys2Proof.Machine
end

section
/-! PROOFS. O21: the end of an exchange on the air, and the counts it leaves. -/

namespace Sys2Proof.Machine
open Sys2Proof

variable {s t u : State} {n : Fin 24}

/-! ### What ends with an exchange changes (R138, R149, R173) -/

/-- `t` differs from `s` at most in the rods, in field sharing and in the FIFOs. -/
def AirFrame (s t : State) : Prop := t = { s with rods := t.rods, field := t.field, fifos := t.fifos }

theorem AirFrame.refl (s : State) : AirFrame s s := rfl

theorem AirFrame.trans (h : AirFrame s t) (g : AirFrame t u) : AirFrame s u := by
  unfold AirFrame at *
  rw [g, h]

theorem AirFrame.forAll {α : Type} {f : α → State → State} (h : ∀ a x, AirFrame x (f a x)) (l : List α) (s : State) :
    AirFrame s (forAll l f s) :=
  forAll_inv (AirFrame s) (fun a x hx => hx.trans (h a x)) l s (.refl s)

theorem AirFrame.ite {c : Prop} [Decidable c] (h : AirFrame s t) (g : AirFrame s u) : AirFrame s (if c then t else u) := by
  split
  exacts [h, g]

theorem AirFrame.regs (h : AirFrame s t) : t.regs = s.regs := by
  unfold AirFrame at h
  rw [h]

/-- What a rod sends, the note of the window it closed last, and whether a late frame is on the air. -/
def Rod.onAir (r : Rod) : Option Exchange × Option LateNote × Bool := (r.air, r.closed, r.lateRx)

/-- What a change of a rod keeps of every rod, it keeps of rod `n`. -/
theorem State.modRod_keeps {β : Type} (g : Rod → β) {f : Rod → Rod} {m : Fin 24} (h : ∀ r, g (f r) = g r := by intro; rfl) :
    g ((s.modRod m f).rod n) = g (s.rod n) := by
  by_cases e : m = n
  · rw [e, State.rod_modRod_self, h]
  · rw [State.rod_modRod_ne _ e]

theorem State.dropRequest_onAir (s : State) (m n : Fin 24) : ((s.dropRequest m).rod n).onAir = (s.rod n).onAir := by
  have dropped : ((s.modRod m (fun r => { r with req := none })).rod n).onAir = (s.rod n).onAir :=
    State.modRod_keeps Rod.onAir
  unfold State.dropRequest
  dsimp only
  repeat' split
  all_goals exact dropped

theorem State.rampDown_onAir (s : State) (m n : Fin 24) : ((s.rampDown m).rod n).onAir = (s.rod n).onAir := by
  have down : (((s.dropRequest m).modRod m (fun r => { r with
      carrier := .rampDown, guard := false, goal := r.code, rampAfter := false, agcGain := none })).rod n).onAir = (s.rod n).onAir :=
    (State.modRod_keeps Rod.onAir).trans (s.dropRequest_onAir m n)
  unfold State.rampDown
  dsimp only
  split
  exacts [down, rfl]

theorem State.rampDown_airFrame (s : State) (m : Fin 24) : AirFrame s (s.rampDown m) := by
  unfold State.rampDown State.dropRequest
  dsimp only
  repeat' split
  all_goals rfl

theorem State.surveyDown_onAir (s : State) (m n : Fin 24) : ((s.surveyDown m).rod n).onAir = (s.rod n).onAir := by
  unfold State.surveyDown
  split
  · exact (State.modRod_keeps Rod.onAir).trans (s.rampDown_onAir m n)
  · rfl

theorem State.surveyDown_airFrame (s : State) (m : Fin 24) : AirFrame s (s.surveyDown m) := by
  unfold State.surveyDown
  have held : AirFrame (s.rampDown m) ((s.rampDown m).modRod m (fun r => { r with surveyHold := true })) := rfl
  exact ((s.rampDown_airFrame m).trans held).ite (.refl s)

theorem State.startGap_onAir (s : State) (m n : Fin 24) : ((s.startGap m).rod n).onAir = (s.rod n).onAir := by
  have gap : ∀ (k : Fin 24) (x : State), ((x.modRod k (fun r => { r with gap := true })).rod n).onAir = (x.rod n).onAir :=
    fun k x => State.modRod_keeps Rod.onAir
  unfold State.startGap
  dsimp only
  split
  · rw [forAll_keeps (fun x : State => (x.rod n).onAir) gap, gap]
  · exact gap m s

theorem State.startGap_airFrame (s : State) (m : Fin 24) : AirFrame s (s.startGap m) := by
  unfold State.startGap
  dsimp only
  split
  · exact AirFrame.trans (t := s.modRod m (fun r => { r with gap := true })) rfl (AirFrame.forAll (fun k x => by exact rfl) _ _)
  · rfl

/-! ### The end of an exchange (R137, R138) -/

/-- Rods that ramp down with the exchange, and a survey's, keep their exchanges and notes. -/
theorem State.endAir_onAir (s : State) (n : Fin 24) (closed : Option LateNote) :
    ((s.endAir n closed).rod n).onAir = (none, closed, (s.rod n).lateRx) := by
  have listener : ∀ (m : Nat) (x : State),
      ((if (x.rod (ix 23 m)).rampAfter then x.rampDown (ix 23 m) else x).rod n).onAir = (x.rod n).onAir := fun m x => by
    split
    exacts [x.rampDown_onAir _ n, rfl]
  have survey : ∀ (c : Fin 24 → State → Bool) (x : State),
      ((forAll allRods (fun m x => if c m x then x.surveyDown m else x) x).rod n).onAir = (x.rod n).onAir := fun c x =>
    forAll_keeps (fun x : State => (x.rod n).onAir) (fun m x => by
      split
      exacts [x.surveyDown_onAir m n, rfl]) _ _
  have cleared : ((((s.modRod n (fun r => { r with air := none, closed := closed })).modFifo (ix 24 n.val)
      (fun q => { q with reserved := 0 })).startGap n).rod n).onAir = (none, closed, (s.rod n).lateRx) := by
    rw [State.startGap_onAir]
    exact congrArg Rod.onAir (s.rod_modRod_self n (fun r => { r with air := none, closed := closed }))
  have listened := fun ls => (forAll_keeps (fun x : State => (x.rod n).onAir) listener ls _).trans cleared
  have ramped := fun ls => (State.rampDown_onAir _ n n).trans (listened ls)
  have settles : ∀ (c : Fin 24 → State → Bool) (x : State), (x.rod n).onAir = (none, closed, (s.rod n).lateRx) →
      ((if x.field.survey = .settling then forAll allRods (fun m x => if c m x then x.surveyDown m else x) x else x).rod n).onAir =
        (none, closed, (s.rod n).lateRx) := fun c x h => by
    split
    exacts [(survey c x).trans h, h]
  unfold State.endAir
  refine settles _ _ ?_
  split
  exacts [ramped _, listened _]

theorem State.endAir_airFrame (s : State) (n : Fin 24) (c : Option LateNote) : AirFrame s (s.endAir n c) := by
  have cleared : AirFrame s (((s.modRod n (fun r => { r with air := none, closed := c })).modFifo (ix 24 n.val)
      (fun q => { q with reserved := 0 })).startGap n) := AirFrame.trans (by exact rfl) (State.startGap_airFrame _ n)
  have listened := fun ls => cleared.trans (AirFrame.forAll
    (f := fun (m : Nat) (s : State) => if (s.rod (ix 23 m)).rampAfter then s.rampDown (ix 23 m) else s)
    (fun m x => (x.rampDown_airFrame _).ite (.refl x)) ls _)
  have ramped := fun ls => (listened ls).trans (State.rampDown_airFrame _ n)
  unfold State.endAir
  dsimp only
  refine AirFrame.ite ?_ ((ramped _).ite (listened _))
  exact ((ramped _).ite (listened _)).trans (AirFrame.forAll (fun m x => (x.surveyDown_airFrame m).ite (.refl x)) _ _)

/-! ### The end of a transaction whose exchange is over (R203) -/

/-- A transaction that has no exchange in front of its rod leaves nothing but the list of transactions, the rods and field sharing
changed, and nothing on the air. -/
theorem State.endRodTxn_silent (s : State) (h : (s.rod n).air = none) (id : Nat) (st : Status) :
    (s.endRodTxn n id st).regs = s.regs ∧ ((s.endRodTxn n id st).rod n).onAir = (s.rod n).onAir := by
  have grant : ∀ x : State, (x.releaseGrant n).regs = x.regs ∧ ((x.releaseGrant n).rod n).onAir = (x.rod n).onAir := fun x => by
    have req := State.modRod_keeps (s := x) (n := n) (m := n) Rod.onAir (f := fun r => { r with req := none })
    unfold State.releaseGrant
    dsimp only
    repeat' split
    exacts [⟨rfl, req⟩, ⟨rfl, req⟩, ⟨rfl, rfl⟩]
  have leaves : ∀ (t : Txn) (x : State), (x.rod n).air = none →
      (x.leaveRod n t).regs = x.regs ∧ ((x.leaveRod n t).rod n).onAir = (x.rod n).onAir := fun t x none => by
    have flagged : ∀ y : State, y = (if t.op = 2 || t.op = 4 then x.modRod n (fun r => { r with rampAfter := false }) else x) →
        y.regs = x.regs ∧ (y.rod n).onAir = (x.rod n).onAir := fun y e => by
      rw [e]
      split
      exacts [⟨rfl, State.modRod_keeps Rod.onAir⟩, ⟨rfl, rfl⟩]
    obtain ⟨regs, air⟩ := flagged _ rfl
    unfold State.leaveRod
    dsimp only
    rw [(Prod.mk.inj air).1.trans none]
    obtain ⟨regs', air'⟩ := grant (if t.op = 2 || t.op = 4 then x.modRod n (fun r => { r with rampAfter := false }) else x)
    exact ⟨regs'.trans regs, air'.trans air⟩
  unfold State.endRodTxn
  dsimp only
  rw [State.finish_frame]
  cases (s.rodBusy? n).filter (fun t => t.id == id) with
  | none => exact ⟨rfl, rfl⟩
  | some t => exact leaves t (s.dequeueOf n.val (some id)) h

end Sys2Proof.Machine
end

section
/-! PROOFS. O21: the counts of an exchange, and the transactions that end with one. -/

namespace Sys2Proof.Machine
open Sys2Proof

variable {s t : State} {n : Fin 24} {x : Exchange} {u : Txn}

/-! ### Counts (R146, R170) -/

/-- Two fields with the same stride at different places have different keys at every index. -/
theorem Fld.key_ne {f g : Fld} (stride : f.stride = g.stride) (place : f.addr * 32 + f.lo ≠ g.addr * 32 + g.lo) (i : Nat) :
    f.key i ≠ g.key i := by
  intro e
  simp only [Fld.key, fldKey, stride, Nat.add_mul] at e
  omega

theorem when_setF_phases (b : Bool) (f : Fld) (i : Nat) (s : State) :
    (when b (fun (s : State) => s.setF f i) s).phases = s.phases := by
  cases b <;> rfl

theorem when_setF_rd (b : Bool) {f g : Fld} {i j : Nat} (h : f.key i ≠ g.key j) (s : State) :
    (when b (fun (s : State) => s.setF f i) s).rd g j = s.rd g j := by
  cases b
  exacts [rfl, s.rd_wr_ne h 1]

@[simp] theorem State.addCounts_phases (s : State) (m : Nat) (c : ExCount) : (s.addCounts m c).phases = s.phases := by
  unfold State.addCounts
  dsimp only
  rw [when_setF_phases, when_setF_phases, when_setF_phases]
  cases c.gain <;> rfl

theorem State.count_rd_ne {f g : Fld} {i j : Nat} (h : f.key i ≠ g.key j) (s : State) (k : Nat) :
    (s.count f i k).rd g j = s.rd g j := s.rd_wr_ne h _

theorem State.addCounts_late (s : State) (m : Nat) (c : ExCount) : (s.addCounts m c).rd F.ROD_CNT_LATE_COUNT m =
    (s.rd F.ROD_CNT_LATE_COUNT m + c.late) % F.ROD_CNT_LATE_COUNT.size := by
  have ne : ∀ f : Fld, f.stride = 0x100 → f.addr * 32 + f.lo ≠ 0x60a4 * 32 → f.key m ≠ F.ROD_CNT_LATE_COUNT.key m :=
    fun f stride place => Fld.key_ne stride place m
  have gain : ∀ x : State, (onSome c.gain (fun (g : Nat) (s : State) => s.wr F.ROD_STAT_GAIN_USED m g) x).rd
      F.ROD_CNT_LATE_COUNT m = x.rd F.ROD_CNT_LATE_COUNT m := fun x => by
    cases c.gain
    exacts [rfl, x.rd_wr_ne (ne F.ROD_STAT_GAIN_USED rfl (by decide)) _]
  unfold State.addCounts
  dsimp only
  rw [when_setF_rd _ (ne F.ROD_ERR_LATE_SOF rfl (by decide)), when_setF_rd _ (ne F.ROD_ERR_EARLY_SOF rfl (by decide)),
    when_setF_rd _ (ne F.ROD_ERR_CLIP rfl (by decide)), gain, State.count, State.rd_wr_self,
    State.count_rd_ne (ne F.ROD_CNT_COLL_COUNT rfl (by decide)), State.count_rd_ne (ne F.ROD_CNT_NORESP_COUNT rfl (by decide)),
    State.count_rd_ne (ne F.ROD_CNT_CRC_COUNT rfl (by decide)), State.count_rd_ne (ne F.ROD_CNT_OK_COUNT rfl (by decide)),
    State.count_rd_ne (ne F.ROD_CNT_TX_COUNT rfl (by decide))]

theorem State.addCounts_lateSof (s : State) (m : Nat) {c : ExCount} (h : c.lateSof = true) :
    (s.addCounts m c).flag F.ROD_ERR_LATE_SOF m = true := by
  unfold State.addCounts
  rw [h, when_true]
  exact State.flag_setF_self _ rfl m

/-! ### The end of the transaction of an exchange -/

/-- A transaction that is live ends with its status, whatever was done to its records and its exchange before. -/
theorem State.endRodTxn_ends {id : Nat} (found : s.txn? id = some u) (live : u.live = true) (kept : t.phases = s.phases)
    (n : Fin 24) (st : Status) : EndsWith (t.endRodTxn n id st) id st := by
  obtain ⟨v, found', phase⟩ := State.txn?_of_phases kept found
  have same : v.id = id := by simpa using List.find?_some found'
  have live' : v.live = true := by rw [← live, Txn.live, phase, Txn.live]
  subst same
  exact State.endRodTxn_endsWith found' live' st n

section
variable (txn : x.txn = some u.id) (found : s.txn? u.id = some u) (live : u.live = true)
include txn

theorem State.windowClosed_txn : s.windowClosed n x = ((s.endAir n (some ⟨s.heldOfAir n x, 8 * x.prof.respWait⟩)).count
    F.ROD_CNT_NORESP_COUNT n.val).endRodTxn n u.id .noResponse := by
  unfold State.windowClosed
  rw [txn]

/-- The window's close counts once and leaves the other fields. -/
theorem State.windowClosed_regs : (s.windowClosed n x).regs = (s.count F.ROD_CNT_NORESP_COUNT n.val).regs := by
  have silent := (Prod.mk.inj (s.endAir_onAir n (some ⟨s.heldOfAir n x, 8 * x.prof.respWait⟩))).1
  have regs := (s.endAir_airFrame n (some ⟨s.heldOfAir n x, 8 * x.prof.respWait⟩)).regs
  rw [State.windowClosed_txn txn, (State.endRodTxn_silent (State.count _ _ _) silent _ _).1]
  unfold State.count State.wr State.rd
  dsimp only
  rw [regs]

theorem State.windowClosed_onAir : ((s.windowClosed n x).rod n).onAir =
    (none, some ⟨s.heldOfAir n x, 8 * x.prof.respWait⟩, (s.rod n).lateRx) := by
  have ended := s.endAir_onAir n (some ⟨s.heldOfAir n x, 8 * x.prof.respWait⟩)
  rw [State.windowClosed_txn txn, (State.endRodTxn_silent (State.count _ _ _) (Prod.mk.inj ended).1 _ _).2]
  exact ended

include found live

theorem State.windowClosed_ends : EndsWith (s.windowClosed n x) u.id .noResponse := by
  rw [State.windowClosed_txn txn]
  exact State.endRodTxn_ends found live (by rw [State.count_phases, State.endAir_phases]) n _

theorem State.frameSent_ends (noRx : x.noRx = true) : EndsWith (s.frameSent n x) u.id .ok := by
  unfold State.frameSent
  rw [if_pos noRx, txn]
  exact State.endRodTxn_ends found live (State.endAir_phases _ _ _) n _

theorem State.endReception_ends (rx : RxReport) : EndsWith (s.endReception n x rx) u.id (judgeRx x rx).status := by
  have kept : ∀ (c : ExCount) (y : Option LateNote), (((s.noteNear n x).endAir n y).addCounts n.val c).phases = s.phases :=
    fun c y => by rw [State.addCounts_phases, State.endAir_phases, State.noteNear_phases]
  have closed : ∀ (y : State) (r : RecordData), (y.closeGroup (ix 24 n.val) r u.id).phases = y.phases := fun y r => by
    unfold State.closeGroup
    split
    · split
      · rw [State.startWaiting_phases]
        exact State.phases_ite (by simp) (by simp)
      · simp
    · simp
  unfold State.endReception
  dsimp only
  rw [txn]
  dsimp only
  rw [found]
  dsimp only
  generalize judgeRx x rx = j
  split
  next tooLong =>
    rw [tooLong]
    exact State.endRodTxn_ends found live ((State.flushGroup_phases _ _ _).trans (kept _ _)) n _
  next => exact State.endRodTxn_ends found live ((closed _ _).trans (kept _ _)) n _

end

/-! ### Late SOFs (R137) -/

/-- A SOF after the close of the last window, whose counts go to the registers. -/
theorem State.straySof_late {fdt k : Nat} (closed : (s.rod n).closed = some ⟨none, k⟩) (late : k < fdt)
    (rx : (s.rod n).lateRx = false) : s.straySof n fdt =
      (s.modRod n (fun r => { r with lateRx := true })).addCounts n.val { ExCount.zero with late := 1, lateSof := true } := by
  unfold State.straySof
  rw [closed]
  dsimp only
  rw [rx, if_pos (by simpa using late)]
  rfl

theorem State.heldOfAir_transceive (h : x.purpose = .transceive) : s.heldOfAir n x = none := by
  unfold State.heldOfAir
  rw [h]

end Sys2Proof.Machine
end

section
/-! PROOFS. O21: the phases of an exchange. -/

namespace Sys2Proof.Machine
open Sys2Proof

variable {s t : State} {n : Fin 24} {x : Exchange} {u : Txn} {op : Nat}

/-! ### A transaction's turn (R141 to R143, R154) -/

/-- The first element with a property that implies another's is the first with that one too, when it has both. -/
theorem find?_of_imp {α : Type} {p q : α → Bool} {l : List α} {a : α} (found : l.find? p = some a) (qa : q a = true)
    (imp : ∀ b ∈ l, q b = true → p b = true) : l.find? q = some a := by
  rw [List.find?_eq_some_iff_append] at found ⊢
  obtain ⟨-, as, bs, rfl, before⟩ := found
  refine ⟨qa, as, bs, rfl, fun b mem => ?_⟩
  have notP := before b mem
  rw [Bool.not_eq_true'] at notP ⊢
  exact Bool.eq_false_iff.mpr fun h => Bool.eq_false_iff.mp notP (imp b (by simp [mem]) h)

theorem State.rodNext?_spec (next : s.rodNext? n = some u) : u.unit = n.val ∧ u.isQueued = true ∧ s.rodBusy? n = none := by
  unfold State.rodNext? at next
  split at next
  · exact absurd next (by simp)
  next idle =>
    suffices waits : u.unit = n.val ∧ u.isQueued = true from ⟨waits.1, waits.2, idle⟩
    split at next
    · obtain ⟨-, next⟩ := Option.ite_none_right_eq_some.mp next
      split at next
      next found =>
        obtain ⟨-, same⟩ := Option.ite_none_left_eq_some.mp next
        obtain rfl := Option.some.inj same
        have both := List.find?_some found
        simp only [Bool.and_eq_true, beq_iff_eq] at both
        obtain ⟨⟨⟨unit, queued⟩, -⟩, -⟩ := both
        exact ⟨unit, queued⟩
      next => exact absurd next (by simp)
    · obtain ⟨found, -⟩ := Option.filter_eq_some_iff.mp next
      have both := List.find?_some found
      simp only [Bool.and_eq_true, beq_iff_eq] at both
      obtain ⟨⟨unit, queued⟩, -⟩ := both
      exact ⟨unit, queued⟩

theorem State.rodTake?_spec (take : s.rodTake? n op = some u) :
    u.unit = n.val ∧ u.isQueued = true ∧ u.op = op ∧ s.rodBusy? n = none := by
  unfold State.rodTake? at take
  split at take
  next next =>
    split at take
    next same =>
      obtain rfl := Option.some.inj take
      obtain ⟨unit, queued, idle⟩ := State.rodNext?_spec next
      exact ⟨unit, queued, beq_iff_eq.mp same, idle⟩
    next => exact absurd take (by simp)
  next => exact absurd take (by simp)

theorem Txn.live_of_queued (h : u.isQueued = true) : u.live = true := by
  rw [Txn.live, beq_iff_eq.mp h]

/-- Once it runs, it is the one that its rod carries out. -/
theorem State.rodBusy?_run (take : s.rodTake? n op = some u) (found : s.txn? u.id = some u) (ne : op ≠ 6) :
    (s.run u.id).rodBusy? n = some { u with phase := .running } := by
  obtain ⟨unit, -, same, idle⟩ := State.rodTake?_spec take
  have none := List.find?_eq_none.mp idle
  have first : s.txns.find? ((fun t => t.unit == n.val && t.isRunning && t.op != 6) ∘
      fun t => if t.id == u.id then { t with phase := .running } else t) = some u := by
    refine find?_of_imp found ?_ fun b mem runs => ?_
    · simp [unit, Txn.isRunning, Txn.op, show descByte u.desc 0 = op from same, ne]
    · by_contra other
      simp only [Function.comp_apply, other, if_false] at runs
      exact none b mem runs
  unfold State.rodBusy? State.run State.modTxn
  dsimp only
  rw [List.find?_map, first]
  simp

/-- A transaction that waited past its NLT ends LATE instead of its turn. -/
theorem State.beginRodTxn_late (take : s.rodTake? n op = some u) (found : s.txn? u.id = some u) (late : s.nltPassed u.desc = true)
    (waits : op = 1 ∨ op = 3 ∨ op = 4 ∨ op = 5) (f : State → State) : EndsWith (s.beginRodTxn n u f) u.id .late := by
  obtain ⟨-, queued, same, -⟩ := State.rodTake?_spec take
  have still : s.stillWaits n u = true := by
    unfold State.stillWaits
    rw [queued, same]
    rcases waits with rfl | rfl | rfl | rfl <;> rfl
  have notRunning : u.isRunning = false := by rw [Txn.isRunning, beq_iff_eq.mp queued]; rfl
  have budget : s.onlyBudget n u = false := by
    unfold State.onlyBudget
    dsimp only
    rw [notRunning]
    rfl
  unfold State.beginRodTxn State.endLate
  rw [late, still, budget]
  exact State.endRodTxn_endsWith found (Txn.live_of_queued queued) _ n

theorem State.beginRodTxn_runs (due : s.nltPassed u.desc = false) (f : State → State) :
    s.beginRodTxn n u f = f ((s.run u.id).settingsInForce n) := by
  unfold State.beginRodTxn
  rw [due]
  rfl

/-! ### The frame is readied (R110, R150, R667) -/

/-- A frame in front of a rod whose transaction has its NLT before it: it waits there, and no other rod changes. -/
theorem State.putFrame_ready (busy : s.rodBusy? n = some u) (due : s.nltPassed u.desc = false) (x : Exchange) :
    ((s.putFrame n x).rod n).air = some x ∧ (∀ m, m ≠ n → (s.putFrame n x).rod m = s.rod m) ∧ (s.putFrame n x).txns = s.txns := by
  have overdue : (s.modRod n (fun r => { r with air := some x })).overdue? n = none := by
    unfold State.overdue?
    rw [show (s.modRod n (fun r => { r with air := some x })).rodBusy? n = some u from busy, Option.filter,
      show (s.modRod n (fun r => { r with air := some x })).nltPassed u.desc = false from due]
    rfl
  obtain ⟨kicked, frame⟩ := State.kick_step overdue
  have asked := State.raiseReq_step ((s.modRod n (fun r => { r with air := some x })).kick n) n
  have txns : ∀ y : State, (y.raiseReq n).txns = y.txns := fun y => by
    unfold State.raiseReq
    dsimp only
    split <;> rfl
  refine ⟨?_, fun m ne => ?_, ?_⟩
  · exact asked.air.trans (kicked.air.trans (congrArg Rod.air (s.rod_modRod_self n _)))
  · exact (asked.others m ne).trans ((kicked.others m ne).trans (s.rod_modRod_ne ne.symm _))
  · refine (txns _).trans ?_
    rw [frame]
    rfl

/-- With its bytes at hand a TRANSCEIVE readies its frame. -/
theorem State.transceive_readies (take : s.rodTake? n 3 = some u) (found : s.txn? u.id = some u) (due : s.nltPassed u.desc = false)
    (x : Exchange) : ∃ t, s.beginRodTxn n u (fun s => s.putFrame n x) = t ∧ (t.rod n).air = some x ∧
      t.txns = (s.run u.id).txns ∧ ∀ m, m ≠ n → t.rod m = s.rod m := by
  have frame := (s.run u.id).settingsInForce_frame n
  have busy : ((s.run u.id).settingsInForce n).rodBusy? n = some { u with phase := .running } := by
    rw [frame]
    exact State.rodBusy?_run take found (by decide)
  have due' : ((s.run u.id).settingsInForce n).nltPassed u.desc = false := by
    rw [frame]
    exact due
  obtain ⟨air, others, txns⟩ := State.putFrame_ready busy due' x
  refine ⟨_, State.beginRodTxn_runs due _, air, ?_, fun m ne => ?_⟩
  · rw [txns, frame]
  · exact (others m ne).trans (((s.run u.id).settingsInForce_step n).others m ne)

theorem exec_transceive (take : s.rodTake? n 3 = some u) (buf : List Byte) : exec (.transceive n buf) s = .next
    (if s.hasTxBytes u then s.beginRodTxn n u (fun s => s.putFrame n (transceiveFrame u buf)) else s) := by
  change execTransceive n buf s = _
  unfold execTransceive
  rw [take]
  rfl

end Sys2Proof.Machine
end

section
/-! PROOFS. O21: the frame on the air, its window and its response. -/

namespace Sys2Proof.Machine
open Sys2Proof

variable {s t : State} {n : Fin 24} {x : Exchange} {u : Txn}

/-! ### What the instructions do with an exchange in front of the rod -/

/-- The exchange as it goes on the air, with the counts that a plan's exchange collects. -/
def State.sending (s : State) (n : Fin 24) (x : Exchange) : Exchange :=
  { x with
    phase := .tx, listeners := s.listenersOf n
    cnt := if x.txn.isSome then ExCount.zero else { ExCount.zero with tx := 1, gain := some ((s.rod n).gainFor (s.snapOf n x)) } }

/-- The rod as it sends its frame. -/
def State.speaks (s : State) (n : Fin 24) (x : Exchange) (r : Rod) : Rod :=
  { r with air := some (s.sending n x), closed := none, gain := (s.rod n).gainFor (s.snapOf n x) }

theorem CrcOnly.rods (h : CrcOnly s t) : t.rods = s.rods := by
  unfold CrcOnly at h
  rw [h]

theorem CrcOnly.txns (h : CrcOnly s t) : t.txns = s.txns := by
  unfold CrcOnly at h
  rw [h]

theorem State.crcFeed_timebase (s : State) (stream : Nat) (l : List Byte) :
    (s.crcFeed stream l).sys.timebase = s.sys.timebase :=
  forAll_keeps (fun y : State => y.sys.timebase) (fun k y => by
    dsimp only
    repeat' split
    all_goals rfl) _ _

/-- The counts of a frame that starts are registers. -/
theorem State.startCounts_frame (s : State) (i g : Nat) (own built : Bool) :
    when built (fun s => s.count F.ROD_PREP_SENT_COUNT i)
      (when own (fun s => (s.count F.ROD_CNT_TX_COUNT i).wr F.ROD_STAT_GAIN_USED i g) s) =
    { s with regs := (when built (fun s => s.count F.ROD_PREP_SENT_COUNT i)
      (when own (fun s => (s.count F.ROD_CNT_TX_COUNT i).wr F.ROD_STAT_GAIN_USED i g) s)).regs } := by
  cases own <;> cases built <;> rfl

section
variable (air : (s.rod n).air = some x)
include air

theorem exec_frameStart_overdue (late : s.overdue? n = some u) : exec (.frameStart n) s = .next (s.endLate n u) := by
  change execFrameStart n s = _
  unfold execFrameStart
  rw [air, late]

theorem exec_frameStart_held (due : s.overdue? n = none) (held : s.frameClear n = false) : exec (.frameStart n) s = .next s := by
  change execFrameStart n s = _
  unfold execFrameStart
  rw [air, due, held]
  rfl

theorem exec_frameTxEnd : exec (.frameTxEnd n) s =
    .next (if x.phase = .tx then (s.crcFeed (0x20 + n.val) (wholeBytes x)).frameSent n x else s) := by
  change execFrameTxEnd n s = _
  unfold execFrameTxEnd
  rw [air]

theorem exec_windowClose : exec (.windowClose n) s = .next (if x.phase = .window then s.windowClosed n x else s) := by
  change execWindowClose n s = _
  unfold execWindowClose
  rw [air]

theorem exec_sofDetect (waits : x.phase = .waiting ∨ x.phase = .window) (fdt : Nat) (chans : List (Nat × Nat × Nat)) :
    exec (.sofDetect n fdt chans) s = .next (
      if fdt < 8 * x.prof.fdtMin then
        if x.txn.isSome then s.setF F.ROD_ERR_EARLY_SOF n.val
        else s.modAir n (fun x => { x with cnt := { x.cnt with early := true } })
      else if fdt ≤ 8 * x.prof.respWait then
        (s.modAir n (fun x => { x with phase := .receiving, fdtMeas := fdt, chans := chans })).groupBegins n x
      else (s.windowClosed n x).straySof n fdt) := by
  have open' : (decide (x.phase = .waiting) || decide (x.phase = .window)) = true := by
    rcases waits with h | h <;> rw [h] <;> rfl
  change execSofDetect n fdt chans s = _
  unfold execSofDetect
  rw [air]
  dsimp only
  rw [if_pos open']

theorem exec_responseEnd (onTime : (s.rod n).lateRx = false) (rx : RxReport) : exec (.responseEnd n rx) s = .next (
    if x.phase = .receiving then
      (s.crcFeed n.val ((placeBits x.rxAlign (rxBits rx)).take ((x.rxAlign + (rxBits rx).length) / 8))).endReception n x rx
    else s) := by
  change execResponseEnd n rx s = _
  unfold execResponseEnd
  rw [air, onTime]
  rfl

theorem State.modAir_air (f : Exchange → Exchange) : ((s.modAir n f).rod n).air = some (f x) := by
  unfold State.modAir
  rw [State.rod_modRod_self, air]
  rfl

/-! ### A frame goes on the air (R129, R146, R150, R196) -/

theorem exec_frameStart_sends (due : s.overdue? n = none) (clear : s.frameClear n = true) :
    ∃ t y, exec (.frameStart n) s = .next t ∧ (t.rod n).air = some y ∧ y.phase = .tx ∧ y.bytes = x.bytes ∧
      y.listeners = s.listenersOf n ∧ (t.rod n).gain = (s.rod n).gainFor (s.snapOf n x) ∧
      t.out = s.logged [.rodFrame n.val (frameBytes x) x.lastBits (frameParity x)] ∧
      (x.txn.isSome = true → x.prepared = false →
        t.rd F.ROD_CNT_TX_COUNT n.val = (s.rd F.ROD_CNT_TX_COUNT n.val + 1) % F.ROD_CNT_TX_COUNT.size) ∧
      (∀ m, m ≠ n → t.rod m = s.rod m) ∧ t.txns = s.txns := by
  have sent : exec (.frameStart n) s = execFrameStart n s := rfl
  unfold execFrameStart at sent
  rw [air, due] at sent
  dsimp only at sent
  rw [if_pos clear, State.emitOut_logged] at sent
  have self := s.rod_modRod_self n (s.speaks n x)
  have others := fun m (ne : m ≠ n) => s.rod_modRod_ne (m := m) ne.symm (s.speaks n x)
  rw [State.startCounts_frame] at sent
  refine ⟨_, s.sending n x, sent, congrArg Rod.air self, rfl, rfl, rfl, congrArg Rod.gain self, rfl, ?_, others, rfl⟩
  intro own built
  rw [own, built]
  have other : F.ROD_STAT_GAIN_USED.key n.val ≠ F.ROD_CNT_TX_COUNT.key n.val :=
    Fld.key_ne (f := F.ROD_STAT_GAIN_USED) (g := F.ROD_CNT_TX_COUNT) rfl (by decide) n.val
  exact (State.rd_wr_ne _ other _).trans (State.rd_wr_self _ _ _ _)

/-! ### The end of the transmission (R133, R152) -/

theorem exec_frameTxEnd_waits (tx : x.phase = .tx) (rx : x.noRx = false) : ∃ t, exec (.frameTxEnd n) s = .next t ∧
    (t.rod n).air = some { x with phase := .waiting, sent := s.sys.timebase } ∧ (∀ m, m ≠ n → t.rod m = s.rod m) ∧
    t.txns = s.txns := by
  have fed := s.crcFeed_crcOnly (0x20 + n.val) (wholeBytes x)
  generalize stream : 0x20 + n.val = k at fed
  have waits : ((s.crcFeed k (wholeBytes x)).frameSent n x) = (s.crcFeed k (wholeBytes x)).modAir n
      (fun x => { x with phase := .waiting, sent := s.sys.timebase }) := by
    unfold State.frameSent
    rw [if_neg (by rw [rx]; exact Bool.false_ne_true), State.crcFeed_timebase]
  have sent := State.modAir_air ((congrArg Rod.air (State.rod_congr fed.rods n)).trans air)
    (fun x => { x with phase := .waiting, sent := s.sys.timebase })
  have others := fun m (ne : m ≠ n) => ((s.crcFeed k (wholeBytes x)).rod_modRod_ne ne.symm (fun r => { r with
      air := r.air.map (fun x => { x with phase := .waiting, sent := s.sys.timebase }) })).trans (State.rod_congr fed.rods m)
  have txns := fed.txns
  rw [exec_frameTxEnd air, if_pos tx, stream, waits]
  generalize s.crcFeed k (wholeBytes x) = y at *
  exact ⟨_, rfl, sent, others, txns⟩

/-! ### The reception begins (R134, R137, R474) -/

theorem exec_sofDetect_receives (waits : x.phase = .waiting ∨ x.phase = .window) {fdt : Nat} (from' : 8 * x.prof.fdtMin ≤ fdt)
    (upTo : fdt ≤ 8 * x.prof.respWait) (chans : List (Nat × Nat × Nat)) : ∃ t, exec (.sofDetect n fdt chans) s = .next t ∧
      (t.rod n).air = some { x with phase := .receiving, fdtMeas := fdt, chans := chans } ∧
      (x.credits ≠ 0 → (s.fifo (ix 24 n.val)).openGroup = none → ∃ g, (t.fifo (ix 24 n.val)).openGroup = some g ∧
        g.txn = x.txn ∧ g.need = 62 * x.credits) ∧
      (x.credits = 0 → t.fifos = s.fifos) ∧
      (∀ m, m ≠ n → t.rod m = s.rod m) ∧ t = { s with rods := t.rods, fifos := t.fifos } := by
  have received := State.modAir_air air (fun x => { x with phase := .receiving, fdtMeas := fdt, chans := chans })
  have others := fun m (ne : m ≠ n) => s.rod_modRod_ne (m := m) ne.symm (fun r => { r with
    air := r.air.map (fun x => { x with phase := .receiving, fdtMeas := fdt, chans := chans }) })
  rw [exec_sofDetect air waits, if_neg (by omega), if_pos upTo]
  refine ⟨_, rfl, ?_, ?_, ?_, ?_, ?_⟩
  · unfold State.groupBegins
    split
    exacts [received, received]
  · intro some' none'
    have begins : (decide (x.credits = 0) || ((s.modAir n (fun x =>
        { x with phase := .receiving, fdtMeas := fdt, chans := chans })).fifo (ix 24 n.val)).openGroup.isSome) = false := by
      rw [decide_eq_false some', Bool.false_or]
      exact congrArg Option.isSome none'
    unfold State.groupBegins State.startGroup
    rw [if_neg (by rw [begins]; exact Bool.false_ne_true), State.fifo_modFifo_self]
    exact ⟨_, rfl, rfl, rfl⟩
  · intro none'
    unfold State.groupBegins
    rw [none']
    rfl
  · intro m ne
    unfold State.groupBegins
    split
    exacts [others m ne, others m ne]
  · unfold State.groupBegins
    split
    exacts [rfl, rfl]

/-! ### Transactions that end with the exchange -/

section
variable (txn : x.txn = some u.id) (found : s.txn? u.id = some u) (live : u.live = true)
include txn found live

theorem exec_frameTxEnd_ends (tx : x.phase = .tx) (noRx : x.noRx = true) : ∃ t, exec (.frameTxEnd n) s = .next t ∧
    EndsWith t u.id .ok := by
  have fed := s.crcFeed_crcOnly (0x20 + n.val) (wholeBytes x)
  rw [exec_frameTxEnd air, if_pos tx]
  exact ⟨_, rfl, State.frameSent_ends txn ((State.txn?_congr fed.txns _).trans found) live noRx⟩

theorem exec_windowClose_ends (open' : x.phase = .window) : ∃ t, exec (.windowClose n) s = .next t ∧
    EndsWith t u.id .noResponse ∧
    t.rd F.ROD_CNT_NORESP_COUNT n.val = (s.rd F.ROD_CNT_NORESP_COUNT n.val + 1) % F.ROD_CNT_NORESP_COUNT.size := by
  rw [exec_windowClose air, if_pos open']
  refine ⟨_, rfl, State.windowClosed_ends txn found live, ?_⟩
  rw [State.rd, State.windowClosed_regs txn]
  exact State.rd_wr_self _ _ _ _

theorem exec_responseEnd_ends (onTime : (s.rod n).lateRx = false) (receives : x.phase = .receiving) (rx : RxReport) :
    ∃ t, exec (.responseEnd n rx) s = .next t ∧ EndsWith t u.id (judgeRx x rx).status := by
  have fed := s.crcFeed_crcOnly n.val ((placeBits x.rxAlign (rxBits rx)).take ((x.rxAlign + (rxBits rx).length) / 8))
  rw [exec_responseEnd air onTime, if_pos receives]
  exact ⟨_, rfl, State.endReception_ends txn ((State.txn?_congr fed.txns _).trans found) live rx⟩

theorem exec_sofDetect_late (waits : x.phase = .waiting ∨ x.phase = .window) {fdt : Nat} (after : 8 * x.prof.fdtMin ≤ fdt)
    (late : 8 * x.prof.respWait < fdt) (onTime : (s.rod n).lateRx = false) (own : x.purpose = .transceive)
    (chans : List (Nat × Nat × Nat)) : ∃ t, exec (.sofDetect n fdt chans) s = .next t ∧ EndsWith t u.id .noResponse ∧
      t.flag F.ROD_ERR_LATE_SOF n.val = true ∧
      t.rd F.ROD_CNT_LATE_COUNT n.val = (s.rd F.ROD_CNT_LATE_COUNT n.val + 1) % F.ROD_CNT_LATE_COUNT.size := by
  have note := State.windowClosed_onAir (s := s) (n := n) txn
  rw [onTime, State.heldOfAir_transceive own] at note
  have closed : ((s.windowClosed n x).rod n).closed = some ⟨none, 8 * x.prof.respWait⟩ := congrArg (fun o => o.2.1) note
  have rx : ((s.windowClosed n x).rod n).lateRx = false := congrArg (fun o => o.2.2) note
  have other : F.ROD_CNT_NORESP_COUNT.key n.val ≠ F.ROD_CNT_LATE_COUNT.key n.val :=
    Fld.key_ne (f := F.ROD_CNT_NORESP_COUNT) (g := F.ROD_CNT_LATE_COUNT) rfl (by decide) n.val
  rw [exec_sofDetect air waits, if_neg (by omega), if_neg (by omega), State.straySof_late closed late rx]
  refine ⟨_, rfl, (State.windowClosed_ends txn found live).of_phases (State.addCounts_phases _ _ _),
    State.addCounts_lateSof _ _ rfl, ?_⟩
  rw [State.addCounts_late]
  congr 2
  change (s.windowClosed n x).rd F.ROD_CNT_LATE_COUNT n.val = s.rd F.ROD_CNT_LATE_COUNT n.val
  rw [State.rd, State.windowClosed_regs txn]
  exact s.rd_wr_ne other _

end

end

/-! ### Late frames and NEXT_MIN (R137, R138) -/

theorem State.startGap_gap (s : State) (n : Fin 24) : ((s.startGap n).rod n).gap = true := by
  have own : ((s.modRod n (fun r => { r with gap := true })).rod n).gap = true := by rw [State.rod_modRod_self]
  unfold State.startGap
  dsimp only
  split
  · refine forAll_inv (fun y : State => (y.rod n).gap = true) (fun m y gap => ?_) _ _ own
    by_cases e : m = n
    · rw [e, State.rod_modRod_self]
    · rw [State.rod_modRod_ne _ e, gap]
  · exact own

theorem exec_responseEnd_late (late : (s.rod n).lateRx = true) (rx : RxReport) : ∃ t, exec (.responseEnd n rx) s = .next t ∧
    (t.rod n).lateRx = false ∧ (t.rod n).gap = true := by
  have heard : exec (.responseEnd n rx) s = .next ((s.modRod n (fun r => { r with lateRx := false })).startGap n) := by
    change execResponseEnd n rx s = _
    unfold execResponseEnd
    rw [if_pos late]
  have kept := State.startGap_onAir (s.modRod n (fun r => { r with lateRx := false })) n n
  refine ⟨_, heard, (congrArg (fun o => o.2.2) kept).trans ?_, State.startGap_gap _ n⟩
  exact congrArg Rod.lateRx (s.rod_modRod_self n _)

theorem State.raiseReq_rods (s : State) (n : Fin 24) : s.raiseReq n = { s with rods := (s.raiseReq n).rods } := by
  unfold State.raiseReq
  dsimp only
  split <;> rfl

theorem State.raiseReq_gap (s : State) (n : Fin 24) : ((s.raiseReq n).rod n).gap = (s.rod n).gap := by
  unfold State.raiseReq
  dsimp only
  split
  exacts [State.modRod_keeps Rod.gap, rfl]

theorem exec_nextMinExpiry_opens (gap : (s.rod n).gap = true) (onTime : (s.rod n).lateRx = false) :
    ∃ t, exec (.nextMinExpiry n) s = .next t ∧ (t.rod n).gap = false ∧ (∀ m, m ≠ n → t.rod m = s.rod m) ∧
      t = { s with rods := t.rods } := by
  have opens : exec (.nextMinExpiry n) s = .next ((s.modRod n (fun r => { r with gap := false })).raiseReq n) := by
    change execNextMinExpiry n s = _
    unfold execNextMinExpiry
    rw [gap, onTime]
    rfl
  refine ⟨_, opens, ?_, fun m ne => ?_, ?_⟩
  · rw [State.raiseReq_gap, State.rod_modRod_self]
  · exact ((State.raiseReq_step _ n).others m ne).trans (s.rod_modRod_ne ne.symm _)
  · exact State.raiseReq_rods _ n

theorem exec_nextMinExpiry_idle (h : (s.rod n).gap = false ∨ (s.rod n).lateRx = true) : exec (.nextMinExpiry n) s = .next s := by
  change execNextMinExpiry n s = _
  unfold execNextMinExpiry
  rcases h with h | h <;> rw [h] <;> simp

end Sys2Proof.Machine
end

section
/-! PROOFS. O21. -/

open Sys2Proof Sys2Proof.Machine

/-- Settles O21, clause by clause: an exchange that ends leaves the phases of transactions, so its own then ends by the lemma for
the end of a live transaction; its counts are read through the frames of what ends with an exchange. -/
theorem exchangesGoThroughTheirPhases : Obligations.ExchangesGoThroughTheirPhases := by
  intro s n
  refine ⟨?_, ?_, ?_, fun x air => ⟨?_, ?_, ?_, ?_, ?_, ?_, ?_, ?_, ?_, ?_, ?_, ?_⟩, ?_, ?_, ?_⟩
  · intro u buf take absent
    rw [exec_transceive take, absent]
    rfl
  · intro u buf take found present late
    obtain ⟨v, found', phase⟩ := State.beginRodTxn_late take found late (.inr (.inl rfl))
      (fun s => s.putFrame n (transceiveFrame u buf))
    rw [exec_transceive take, if_pos present]
    exact ⟨_, v, rfl, found', phase⟩
  · intro u buf take found present due
    obtain ⟨t, ready, front, txns, others⟩ := State.transceive_readies take found due (transceiveFrame u buf)
    rw [exec_transceive take, if_pos present, ready]
    exact ⟨t, _, rfl, front, txns, rfl, rfl, rfl, rfl, others⟩
  · exact fun u late => exec_frameStart_overdue air late
  · exact exec_frameStart_held air
  · exact exec_frameStart_sends air
  · intro idle
    rw [exec_frameTxEnd air, if_neg idle]
  · exact exec_frameTxEnd_waits air
  · intro u tx noRx txn found live _
    obtain ⟨t, run, v, found', phase⟩ := exec_frameTxEnd_ends air txn found live tx noRx
    exact ⟨t, v, run, found', phase⟩
  · exact ⟨_, rfl, State.modAir_air air _, fun m ne => s.rod_modRod_ne ne.symm _, rfl⟩
  · intro idle
    rw [exec_windowClose air, if_neg idle]
  · intro u opened txn found live _
    obtain ⟨t, run, ⟨v, found', phase⟩, count⟩ := exec_windowClose_ends air txn found live opened
    exact ⟨t, v, run, found', phase, count⟩
  · refine fun fdt chans waits => ⟨fun after before => exec_sofDetect_receives air waits after before chans, ?_, ?_⟩
    · intro early own
      rw [exec_sofDetect air waits, if_pos early, if_pos own]
      rfl
    · intro u after late onTime own txn found live _
      obtain ⟨t, run, ⟨v, found', phase⟩, flag, count⟩ := exec_sofDetect_late air txn found live waits after late onTime own chans
      exact ⟨t, v, run, found', phase, flag, count⟩
  · intro rx onTime idle
    rw [exec_responseEnd air onTime, if_neg idle]
  · intro rx u onTime receives txn found live _
    obtain ⟨t, run, v, found', phase⟩ := exec_responseEnd_ends air txn found live onTime receives rx
    exact ⟨t, v, run, found', phase⟩
  · exact fun rx late => exec_responseEnd_late late rx
  · exact exec_nextMinExpiry_opens
  · exact exec_nextMinExpiry_idle

end

section
/-! PROOFS. O23: a plan's rod, and the unit that begins there. -/

namespace Sys2Proof.Machine
open Sys2Proof

variable {s t u : State} {n : Fin 24} {p q : Plan} {b : List Byte} {op : Nat} {keys : List Nat}

/-! ### A step of an invocation -/

/-- `t` is `s` with `q` for the invocation of rod `n`, and with other values at most of the register fields with the listed keys. -/
structure PlanStep (s t : State) (n : Fin 24) (keys : List Nat) (q : Plan) : Prop where
  plan : t.plan? n = some q
  frame : RodFrame s t n keys
  own : t.rod n = { s.rod n with plan := t.plan? n }

theorem PlanStep.start (h : s.plan? n = some p) : PlanStep s s n [] p :=
  ⟨h, ⟨fun _ _ => rfl, .refl s⟩, rfl⟩

theorem State.modPlan_rod (s : State) (n : Fin 24) (f : Plan → Plan) :
    (s.modPlan n f).rod n = { s.rod n with plan := (s.plan? n).map f } := s.rod_modRod_self n _

theorem State.modPlan_plan (h : s.plan? n = some p) (f : Plan → Plan) : (s.modPlan n f).plan? n = some (f p) := by
  rw [State.plan?, State.modPlan_rod, h]
  rfl

theorem PlanStep.modPlan (h : PlanStep s t n keys q) (f : Plan → Plan) : PlanStep s (t.modPlan n f) n keys (f q) := by
  obtain ⟨plan, ⟨others, same, rd⟩, own⟩ := h
  refine ⟨State.modPlan_plan plan f, ⟨fun m ne => ?_, congrArg (fun x : State => x.modPlan n f) same, rd⟩, ?_⟩
  · exact (t.rod_modRod_ne ne.symm _).trans (others m ne)
  · rw [State.modPlan_plan plan, State.modPlan_rod, own, plan]
    rfl

theorem PlanStep.wr (h : PlanStep s t n keys q) (f : Fld) (i v : Nat) : PlanStep s (t.wr f i v) n (keys ++ [f.key i]) q := by
  obtain ⟨plan, ⟨others, regs⟩, own⟩ := h
  exact ⟨plan, ⟨others, regs.then f i v⟩, own⟩

theorem PlanStep.mono {l : List Nat} (h : PlanStep s t n keys q) (g : ∀ a ∈ keys, a ∈ l) : PlanStep s t n l q := by
  obtain ⟨plan, ⟨others, regs⟩, own⟩ := h
  exact ⟨plan, ⟨others, regs.mono g⟩, own⟩

theorem PlanStep.others (h : PlanStep s t n keys q) (m : Fin 24) (ne : m ≠ n) : t.rod m = s.rod m := h.frame.1 m ne

/-- Outside the rods and the registers such a step changes nothing. -/
theorem PlanStep.same (h : PlanStep s t n keys q) : t = { s with rods := t.rods, regs := t.regs } := by
  obtain ⟨-, ⟨-, same, -⟩, -⟩ := h
  exact same

theorem PlanStep.rd (h : PlanStep s t n keys q) {f : Fld} {i : Nat} (ne : f.key i ∉ keys) : t.rd f i = s.rd f i := by
  obtain ⟨-, ⟨-, -, rd⟩, -⟩ := h
  exact rd f i ne

theorem PlanStep.air (h : PlanStep s t n keys q) : (t.rod n).air = (s.rod n).air := by rw [h.own]

theorem PlanStep.held (h : PlanStep s t n keys q) : (t.rod n).held = (s.rod n).held := by rw [h.own]

theorem PlanStep.carrier (h : PlanStep s t n keys q) : (t.rod n).carrier = (s.rod n).carrier := by rw [h.own]

/-- Nothing ends at a boundary of an invocation that neither stops at once nor is doomed. -/
theorem State.planBoundary_goesOn (h : s.plan? n = some p) (doom : p.doom = none) (stop : p.stop ≠ some 0) :
    s.planBoundary n = s := by
  unfold State.planBoundary
  rw [h]
  dsimp only
  rw [doom, if_neg stop]
  exact ite_self s

theorem PlanStep.goTo (h : PlanStep s t n keys q) (doom : q.doom = none) (stop : q.stop ≠ some 0) (i : Nat) :
    PlanStep s (t.goTo n i) n keys { q with stage := .boundary, pc := i } := by
  have moved := h.modPlan (fun p => { p with stage := .boundary, pc := i })
  unfold State.goTo
  rw [State.planBoundary_goesOn moved.plan doom stop]
  exact moved

/-! ### What holds before a unit (R218, R630, R632) -/

theorem State.skipSteps_valid (h : s.plan? n = some p) (valid : mainFault p (s.stepBytes p p.pc) = 0) (k : Nat) :
    State.skipSteps n (k + 1) s = s := by
  unfold State.skipSteps
  rw [h]
  dsimp only
  rw [if_pos valid]
  exact ite_self s

/-- A unit that may begin at a step that can be carried out and that nothing holds, begins. -/
theorem PlanAtStep.tryUnit (h : PlanAtStep s n p op) {due : Plan → List Byte → Bool} (d : due p (s.stepBytes p p.pc) = true)
    (f : Plan → List Byte → State → State) : s.tryUnit n due f = f p (s.stepBytes p p.pc) s := by
  obtain ⟨plan, may, -, -, valid, -, halted, breaks⟩ := h
  have free : s.atBreakpoint n = false := by
    unfold State.atBreakpoint
    rw [plan, breaks]
    rfl
  unfold State.tryUnit
  rw [if_pos may, State.skipSteps_valid plan valid 1023]
  dsimp only
  rw [plan]
  dsimp only
  rw [if_pos d, halted, free]
  rfl

theorem PlanAtStep.plan (h : PlanAtStep s n p op) : s.plan? n = some p := h.1

theorem PlanAtStep.atStep (h : PlanAtStep s n p op) : atStep op p (s.stepBytes p p.pc) = true := by
  obtain ⟨-, -, stage, -, -, code, -⟩ := h
  unfold Machine.atStep
  rw [stage, code, Bool.and_eq_true]
  exact ⟨rfl, beq_self_eq_true op⟩

/-- What keeps a plan from its unit is absent. -/
structure UnitMay (s : State) (n : Fin 24) (p : Plan) : Prop where
  stop : p.stop ≠ some 0
  doom : p.doom = none
  busy : s.rodBusy? n = none
  air : (s.rod n).air = none
  round : s.round.step = 0

theorem PlanAtStep.may (h : PlanAtStep s n p op) : UnitMay s n p := by
  obtain ⟨plan, may, -⟩ := h
  unfold State.unitMay at may
  rw [plan] at may
  simp only [Bool.and_eq_true, bne_iff_ne, beq_iff_eq, Option.isNone_iff_eq_none] at may
  obtain ⟨⟨⟨⟨⟨⟨⟨⟨-, stop⟩, doom⟩, busy⟩, -⟩, air⟩, round⟩, -⟩, -⟩ := may
  exact ⟨stop, doom, busy, air, round⟩

/-! ### A main-flow step begins (R162) -/

/-- The unit at the present step begins and is noted. -/
def State.stepBegins (s : State) (n : Fin 24) (p : Plan) : State := (s.unitBegins n).noteStep n p.pc

theorem PlanAtStep.begins (h : PlanAtStep s n p op) : PlanStep s (s.stepBegins n p) n [F.ROD_PLAN_STAT_STEP.key n.val] p.begun :=
  (((PlanStep.start h.plan).modPlan (fun p => { p with credit := false })).modPlan
    (fun q => { q with steps := q.steps + 1, lastStep := p.pc })).wr F.ROD_PLAN_STAT_STEP n.val p.pc

theorem PlanAtStep.noted (h : PlanAtStep s n p op) : (s.stepBegins n p).rd F.ROD_PLAN_STAT_STEP n.val = p.pc := by
  obtain ⟨-, -, -, small, -⟩ := h
  exact (State.rd_wr_self _ F.ROD_PLAN_STAT_STEP n.val p.pc).trans (Nat.mod_eq_of_lt small)

theorem PlanAtStep.begun_at (h : PlanAtStep s n p op) (i : Nat) : { p.begun with stage := .boundary, pc := i } = { p.begun with pc := i } := by
  obtain ⟨-, -, stage, -⟩ := h
  rw [← stage]
  rfl

theorem PlanAtStep.goesTo (h : PlanAtStep s n p op) (i : Nat) : PlanStep s ((s.stepBegins n p).goTo n i) n
    [F.ROD_PLAN_STAT_STEP.key n.val] { p.begun with pc := i } := by
  rw [← h.begun_at i]
  exact h.begins.goTo h.may.doom h.may.stop i

theorem PlanAtStep.noted_goTo (h : PlanAtStep s n p op) (i : Nat) :
    ((s.stepBegins n p).goTo n i).rd F.ROD_PLAN_STAT_STEP n.val = p.pc :=
  (((PlanStep.start h.begins.plan).goTo h.may.doom h.may.stop i).rd List.not_mem_nil).trans h.noted

/-- The arguments of a main-flow step that can be carried out are not reserved. -/
theorem PlanAtStep.args (h : PlanAtStep s n p op) : ∃ proto, reservedArg (s.stepBytes p p.pc) op proto = false := by
  obtain ⟨-, -, -, -, valid, code, -⟩ := h
  unfold mainFault at valid
  refine ⟨(p.snap.prof (stepProfile (s.stepBytes p p.pc) p.profile)).proto, Bool.eq_false_iff.mpr fun reserved => ?_⟩
  have bad : badOpcode (s.stepBytes p p.pc) (p.snap.prof (stepProfile (s.stepBytes p p.pc) p.profile)).proto = true := by
    unfold badOpcode
    dsimp only
    rw [code, reserved, Bool.or_true]
  rw [if_pos bad] at valid
  exact absurd valid (by decide)

end Sys2Proof.Machine
end

section
/-! PROOFS. O23: WAIT, BRANCH_IF and EMIT. -/

namespace Sys2Proof.Machine
open Sys2Proof

variable {s t u : State} {n : Fin 24} {p q : Plan} {b : List Byte} {op : Nat} {keys : List Nat}

/-! ### WAIT (R219) -/

theorem vget_mem_toList {α : Type} {k : Nat} (v : Vector α k) (i : Fin k) : vget v i ∈ v.toList := by
  simp [vget, Vector.get_eq_getElem]

theorem exists_vget_of_mem {α : Type} {k : Nat} {v : Vector α k} {a : α} (h : a ∈ v.toList) : ∃ i, vget v i = a := by
  obtain ⟨i, lt, rfl⟩ := List.mem_iff_getElem.mp h
  exact ⟨⟨i, by simpa using lt⟩, by simp [vget, Vector.get_eq_getElem]⟩

/-- Who listens is read from the exchanges of the rods. -/
theorem State.listening_congr (air : ∀ m, (t.rod m).air = (s.rod m).air) (k : Nat) : t.listening k = s.listening k := by
  have half : ∀ x y : State, (∀ m, (y.rod m).air = (x.rod m).air) → y.listening k = true → x.listening k = true := by
    intro x y same hears
    unfold State.listening at hears ⊢
    obtain ⟨r, mem, listens⟩ := List.any_eq_true.mp hears
    obtain ⟨m, rfl⟩ := exists_vget_of_mem mem
    rw [show (vget y.rods m).air = (vget x.rods m).air from same m] at listens
    exact List.any_eq_true.mpr ⟨_, vget_mem_toList _ m, listens⟩
  exact Bool.eq_iff_iff.mpr ⟨half s t air, half t s fun m => (air m).symm⟩

theorem PlanStep.listening (h : PlanStep s t n keys q) (k : Nat) : t.listening k = s.listening k :=
  State.listening_congr (fun m => if e : m = n then e ▸ h.air else congrArg Rod.air (h.others m e)) k

theorem State.rampDown_carrier (on : (s.rod n).carrier = .on) : ((s.rampDown n).rod n).carrier = .rampDown := by
  unfold State.rampDown
  dsimp only
  rw [if_pos (by rw [on]; rfl)]
  exact congrArg Rod.carrier ((s.dropRequest n).rod_modRod_self n _)

theorem exec_waitStep_stays (h : PlanAtStep s n p 6) (off : (byteAt (s.stepBytes p p.pc) 6).testBit 0 = false) :
    exec (.waitStep n) s = .next ((s.stepBegins n p).modPlan n (fun p => { p with stage := .waiting false })) := by
  change execWait n s = _
  unfold execWait State.startUnit
  rw [h.tryUnit h.atStep]
  dsimp only
  rw [bit, off]
  rfl

theorem exec_waitStep_ramps (h : PlanAtStep s n p 6) (off : (byteAt (s.stepBytes p p.pc) 6).testBit 0 = true)
    (on : (s.rod n).carrier = .on) (quiet : s.listening n.val = false) : exec (.waitStep n) s =
      .next ((((s.stepBegins n p).modPlan n (fun p => { p with stage := .waiting true })).dequeueOf n.val none).rampDown n) := by
  have step := h.begins
  have waits := step.modPlan (fun p => { p with stage := .waiting true })
  change execWait n s = _
  unfold execWait State.startUnit
  rw [h.tryUnit h.atStep]
  dsimp only
  change Host.Outcome.next (if bit (byteAt (s.stepBytes p p.pc) 6) 0 && ((s.stepBegins n p).rod n).carrier != .off &&
    ((s.stepBegins n p).rod n).carrier != .hold then
      (((s.stepBegins n p).modPlan n (fun p => { p with stage := .waiting true })).dequeueOf n.val none).fieldOff n
    else _) = _
  rw [step.carrier, on, bit, off]
  unfold State.fieldOff
  rw [show (((s.stepBegins n p).modPlan n (fun p => { p with stage := .waiting true })).dequeueOf n.val none).listening n.val =
    false from (waits.listening n.val).trans quiet]
  rfl

theorem State.waitExpiry_goes (h : s.plan? n = some p) (stage : p.stage = .waiting false) (round : s.round.step = 0) :
    exec (.waitExpiry n) s = .next (s.goTo n (p.pc + 1)) := by
  change execWaitExpiry n s = _
  unfold execWaitExpiry
  rw [h]
  dsimp only
  rw [stage, round]
  rfl

/-! ### BRANCH_IF (R220) -/

theorem exec_branchIf (h : PlanAtStep s n p 7) : exec (.branchIf n) s = .next ((s.stepBegins n p).goTo n
    (if s.branchCond p (s.stepBytes p p.pc) then stepField (s.stepBytes p p.pc) 4 2 % 1024 else p.pc + 1)) := by
  change execBranchIf n s = _
  unfold execBranchIf State.startUnit
  rw [h.tryUnit h.atStep]
  rfl

/-- The conditions are the six that are not reserved. -/
theorem PlanAtStep.branchCond (h : PlanAtStep s n p 7) :
    s.branchCond p (s.stepBytes p p.pc) = true ↔ CondHolds s p (s.stepBytes p p.pc) := by
  obtain ⟨proto, args⟩ := h.args
  generalize s.stepBytes p p.pc = b at args
  have small : byteAt b 2 ≤ 5 := by
    have cond : decide (5 < byteAt b 2) = false := (Bool.or_eq_false_iff.mp (Bool.or_eq_false_iff.mp args).1).1
    simpa using cond
  unfold State.branchCond CondHolds bit
  generalize byteAt b 2 = c at small
  interval_cases c <;> simp

/-! ### EMIT (R221) -/

theorem packetsOf_none {r : RecordData} {pk : Packet} (mem : pk ∈ packetsOf r none) : pk.txn = none := by
  obtain ⟨_, -, rfl⟩ := List.mem_map.mp mem
  rfl

theorem groupPackets_none {rs : List RecordData} {pk : Packet} (mem : pk ∈ groupPackets rs none) : pk.txn = none := by
  obtain ⟨l, lists, mem⟩ := List.mem_flatten.mp mem
  obtain ⟨r, -, rfl⟩ := List.mem_map.mp lists
  exact packetsOf_none mem

theorem State.fifoOverrun_txns (s : State) (f : Fin 25) (lost : Nat) : (s.fifoOverrun f lost).txns = s.txns := by
  unfold State.fifoOverrun
  rw [State.raise_frame]
  rfl

theorem State.publish_txns {ps : List Packet} (none' : ∀ pk ∈ ps, pk.txn = none) (f : Fin 25) (placed : List Packet) :
    (s.publish f ps placed).txns = s.txns := by
  have marked : ∀ (f : Nat → State → State) (l : List Packet) (x : State), (∀ pk ∈ l, pk.txn = none) →
      forAll l (fun p s => onSome p.txn f s) x = x := by
    intro f l
    induction l with
    | nil => exact fun x _ => rfl
    | cons pk l ih =>
      intro x none'
      obtain ⟨head, tail⟩ := List.forall_mem_cons.mp none'
      change forAll l _ (onSome pk.txn f x) = x
      rw [head]
      exact ih x tail
  unfold State.publish
  dsimp only
  rw [marked _ _ _ none']
  split
  · rfl
  · exact State.fifoOverrun_txns _ f _

/-- A record that belongs to no transaction leaves the transactions. -/
theorem State.emit_txns (s : State) (f : Fin 25) (rs : List RecordData) : (s.emit f rs none).txns = s.txns := by
  have discarded : ∀ (x : State) (ps : List Packet), (x.discardGroup f ps none).txns = x.txns := fun x ps => by
    unfold State.discardGroup
    dsimp only
    split
    exacts [rfl, x.fifoOverrun_txns f _]
  unfold State.emit
  dsimp only
  split
  · unfold State.writeGroup
    split
    exacts [State.publish_txns (fun _ mem => groupPackets_none mem) f _, discarded _ _]
  · rfl

/-- A record leaves the rods. -/
theorem State.emit_rods (s : State) (f : Fin 25) (rs : List RecordData) (o : Option Nat) : (s.emit f rs o).rods = s.rods :=
  State.emit_parts State.rods (fun _ _ _ => rfl) (fun _ _ _ => rfl) (fun _ _ => rfl) (fun _ _ => rfl) (fun _ _ _ => rfl)
    (fun x c k d => by rw [x.raise_frame]) s f rs o

theorem State.emit_field (s : State) (f : Fin 25) (rs : List RecordData) (o : Option Nat) : (s.emit f rs o).field = s.field :=
  State.emit_parts State.field (fun _ _ _ => rfl) (fun _ _ _ => rfl) (fun _ _ => rfl) (fun _ _ => rfl) (fun _ _ _ => rfl)
    (fun x c k d => by rw [x.raise_frame]) s f rs o

theorem State.roundNo_stepBegins (h : PlanAtStep s n p op) : (s.stepBegins n p).roundNo = s.roundNo := by
  refine h.begins.rd ?_
  have ne : F.ROD_ROUND_NO_ROUND.key 0 ≠ F.ROD_PLAN_STAT_STEP.key n.val := by
    simp only [Fld.key, fldKey]
    omega
  simpa using ne

section
variable (h : PlanAtStep s n p 8) (credit : s.planCredit n = true)
include h credit

theorem exec_emitStep_waits (sync : (byteAt (s.stepBytes p p.pc) 10).testBit 0 = true) (holds : (s.rod n).held ≠ []) :
    exec (.emitStep n) s = .next ((s.stepBegins n p).modPlan n (fun p => { p with stage := .emitSync })) := by
  have begun : ((s.unitBegins n).rod n).held = (s.rod n).held :=
    (PlanStep.modPlan (.start h.plan) (fun p => { p with credit := false })).held
  have held : (s.rod n).held.isEmpty = false := by simpa using holds
  change execEmit n s = _
  unfold execEmit State.startUnit
  rw [credit, h.tryUnit h.atStep]
  dsimp only
  rw [begun, held, bit, sync]
  rfl

theorem exec_emitStep_writes (due : (byteAt (s.stepBytes p p.pc) 10).testBit 0 = false ∨ (s.rod n).held = []) :
    exec (.emitStep n) s = .next (((s.stepBegins n p).emitMark n p (s.stepBytes p p.pc)).goTo n (p.pc + 1)) := by
  have begun : ((s.unitBegins n).rod n).held = (s.rod n).held :=
    (PlanStep.modPlan (.start h.plan) (fun p => { p with credit := false })).held
  have now : (bit (byteAt (s.stepBytes p p.pc) 10) 0 && !(s.rod n).held.isEmpty) = false := by
    rcases due with sync | held
    · rw [bit, sync]
      rfl
    · rw [held, List.isEmpty_nil, Bool.not_true, Bool.and_false]
  change execEmit n s = _
  unfold execEmit State.startUnit
  rw [credit, h.tryUnit h.atStep]
  dsimp only
  rw [begun, now]
  rfl

end

/-- The record of an EMIT and the way on. -/
structure Marked (s t : State) (n : Fin 24) (p : Plan) : Prop where
  plan : t.plan? n = some { p with stage := .boundary, pc := p.pc + 1 }
  others : ∀ m, m ≠ n → t.rod m = s.rod m
  field : t.field = s.field
  txns : t.txns = s.txns

theorem State.emitMark_marked (h : s.plan? n = some p) (doom : p.doom = none) (stop : p.stop ≠ some 0) (r : Plan)
    (b : List Byte) : Marked s ((s.emitMark n r b).goTo n (p.pc + 1)) n p ∧
      ((s.emitMark n r b).goTo n (p.pc + 1)).fifos = (s.emitMark n r b).fifos := by
  have rods : (s.emitMark n r b).rods = s.rods := State.emit_rods _ _ _ _
  have step := (PlanStep.start (s := s.emitMark n r b) ((congrArg Rod.plan (State.rod_congr rods n)).trans h)).goTo doom stop (p.pc + 1)
  refine ⟨⟨step.plan, fun m ne => (step.others m ne).trans (State.rod_congr rods m), ?_, ?_⟩, ?_⟩
  · exact (congrArg State.field step.same).trans (State.emit_field _ _ _ _)
  · exact (congrArg State.txns step.same).trans (State.emit_txns _ _ _)
  · exact (congrArg State.fifos step.same).trans rfl

theorem PlanAtStep.emitMark (h : PlanAtStep s n p 8) : ((s.stepBegins n p).emitMark n p (s.stepBytes p p.pc)) =
    (s.stepBegins n p).emitPlan n p .result .ok s.sys.timebase
      (((s.stepBytes p p.pc).drop 2).take 8 ++ leBytes 4 s.roundNo) none := by
  unfold State.emitMark
  rw [State.roundNo_stepBegins h]
  rfl

theorem exec_emitSyncWrite_waits (h : s.plan? n = some p) (holds : (s.rod n).held ≠ []) : exec (.emitSyncWrite n) s = .next s := by
  have held : (s.rod n).held.isEmpty = false := by simpa using holds
  change execEmitSyncWrite n s = _
  unfold execEmitSyncWrite
  rw [h]
  dsimp only
  rw [held, Bool.and_false]
  rfl

theorem exec_emitSyncWrite_writes (h : s.plan? n = some p) (stage : p.stage = .emitSync) (round : s.round.step = 0)
    (none' : (s.rod n).held = []) :
    exec (.emitSyncWrite n) s = .next ((s.emitMark n p (s.stepBytes p p.pc)).goTo n (p.pc + 1)) := by
  change execEmitSyncWrite n s = _
  unfold execEmitSyncWrite
  rw [h]
  dsimp only
  rw [stage, none', round]
  rfl

end Sys2Proof.Machine
end

section
/-! PROOFS. O23: INVENTORY. -/

namespace Sys2Proof.Machine
open Sys2Proof

variable {s t u : State} {n : Fin 24} {p q : Plan} {i : InvRun} {op : Nat} {keys : List Nat}

/-! ### The plan's settings come into force on a carrier that is up (R111, R117, R217) -/

theorem State.rodInForce_plan (idle : s.rodBusy? n = none) (plan : s.plan? n = some p) :
    s.rodInForce n = (none, some p.snap) := by
  unfold State.rodInForce
  rw [idle, show (s.rod n).plan = some p from plan]

/-- An ON carrier that is at the power asked for, or whose raise waits, goes on at most to another power. -/
theorem State.setPower_served (on : (s.rod n).carrier = .on) {k : Nat}
    (served : k ≤ (s.rod n).goal ∨ s.startQueued n.val none = true) : s.setPower n k none = { s with rods := (s.setPower n k none).rods } ∧
      ((s.setPower n k none).rod n).carrier = .on := by
  unfold State.setPower State.askStart
  rw [if_pos on]
  split
  · exact ⟨rfl, (congrArg Rod.carrier (s.rod_modRod_self n _)).trans on⟩
  next above =>
    rw [if_pos (served.resolve_left above)]
    exact ⟨rfl, on⟩

theorem State.settingsInForce_served (idle : s.rodBusy? n = none) (plan : s.plan? n = some p) (on : (s.rod n).carrier = .on)
    (served : p.snap.power ≤ (s.rod n).goal ∨ s.startQueued n.val none = true) :
    s.settingsInForce n = { s with rods := (s.settingsInForce n).rods } ∧ ((s.settingsInForce n).rod n).carrier = .on := by
  have phase := s.rod_modRod_self n (fun r =>
    { r with snap := some p.snap, phaseGoal := p.snap.phase, phase := if r.carrier = .on then p.snap.phase else r.phase })
  have plan' : (s.takePhase n p.snap).plan? n = some p := (congrArg Rod.plan phase).trans plan
  obtain ⟨rods, on'⟩ := State.setPower_served (s := s.takePhase n p.snap) ((congrArg Rod.carrier phase).trans on)
    (served.imp_left fun le => le.trans_eq (congrArg Rod.goal phase).symm)
  have sets : s.settingsInForce n = (s.takePhase n p.snap).setPower n p.snap.power none := by
    unfold State.settingsInForce State.powerInForce
    rw [State.rodInForce_plan idle plan]
    change onSome ((s.takePhase n p.snap).rodInForce n).2 _ (s.takePhase n p.snap) = _
    rw [State.rodInForce_plan (s := s.takePhase n p.snap) idle plan']
    change (s.takePhase n p.snap).setPower n p.snap.power ((s.takePhase n p.snap).rodInForce n).1 = _
    rw [State.rodInForce_plan (s := s.takePhase n p.snap) idle plan']
  rw [sets]
  exact ⟨rods, on'⟩

/-! ### A cycle begins (R222, R224, R241) -/

/-- With the carrier up a frame of the plan stands in front of its rod. -/
theorem State.putPlan_up (round : s.round.step = 0) (on : (s.rod n).carrier = .on) (x : Exchange) :
    s.putPlan n x = (s.modRod n (fun r => { r with air := some x })).raiseReq n := by
  have up : ((s.modRod n (fun r => { r with air := some x })).rod n).carrier = .on := by rw [State.rod_modRod_self, on]
  unfold State.putPlan State.putFrame State.kick
  rw [if_pos round, up]
  simp

/-- INVENTORY as it enters its step. -/
def State.entersInv (s : State) (n : Fin 24) (p : Plan) : State :=
  s.modPlan n (fun q => { q with stage := .inventory, inv := some (newInv q (s.stepBytes p p.pc)) })

theorem exec_inventory (h : PlanAtStep s n p 1) :
    exec (.inventory n) s = .next ((s.entersInv n p).startCycle n (newInv p (s.stepBytes p p.pc))) := by
  change execInventory n s = _
  unfold execInventory
  rw [h.tryUnit h.atStep]
  rfl

theorem PlanAtStep.enters (h : PlanAtStep s n p 1) : PlanStep s (s.entersInv n p) n []
    { p with stage := .inventory, inv := some (newInv p (s.stepBytes p p.pc)) } :=
  (PlanStep.start h.plan).modPlan _

theorem State.startCycle_waits (wait : 4 ≤ (s.rod n).held.length ∨ s.planCredit n = false) (i : InvRun) :
    s.startCycle n i = s := by
  unfold State.startCycle
  rw [if_pos (by rcases wait with full | none' <;> simp [*])]

section
variable (room : (s.rod n).held.length < 4) (credit : s.planCredit n = true) (idle : s.rodBusy? n = none)
  (plan : s.plan? n = some p) (on : (s.rod n).carrier = .on)
include room credit idle plan on

/-- While a raise of the plan waits it waits. -/
theorem State.startCycle_raises (raise : s.startQueued n.val none = true) (i : InvRun) :
    s.startCycle n i = (s.settingsInForce n).modPlan n (fun p => { p with wantCarrier := true }) := by
  obtain ⟨rods, -⟩ := State.settingsInForce_served idle plan on (.inr raise)
  have still : (s.settingsInForce n).startQueued n.val none = true := by
    rw [rods]
    exact raise
  unfold State.startCycle
  rw [if_neg (by rw [credit]; simpa using room)]
  dsimp only
  rw [if_pos still]

theorem State.startCycle_begins (served : p.snap.power ≤ (s.rod n).goal) (none' : s.startQueued n.val none = false) (i : InvRun) :
    s.startCycle n i = (s.settingsInForce n).beginCycle n i := by
  obtain ⟨rods, -⟩ := State.settingsInForce_served idle plan on (.inl served)
  have still : (s.settingsInForce n).startQueued n.val none = false := by
    rw [rods]
    exact none'
  unfold State.startCycle
  rw [if_neg (by rw [credit]; simpa using room)]
  dsimp only
  rw [still, on]
  rfl

end

/-! ### The first cycle -/

/-- The first cycle of a step, which counts and notes it. -/
def State.firstCycle (s : State) (n : Fin 24) (i : InvRun) : State :=
  (((s.noteStep n i.step).modPlan n (fun q => { q with invAny := some false })).unitBegins n).modPlan n
    (fun q => { q with wantCarrier := false, inv := some { i.nextCycle with cycles := i.cycles + 1 } })

theorem State.beginCycle_first (first : i.cycles = 0) :
    s.beginCycle n i = (s.firstCycle n i).putPlan n (firstFrame i.nextCycle) := by
  unfold State.beginCycle
  dsimp only
  rw [if_pos first]
  rfl

theorem PlanStep.firstCycle (plan : s.plan? n = some p) (first : i.cycles = 0) :
    PlanStep s (s.firstCycle n i) n [F.ROD_PLAN_STAT_STEP.key n.val] { p with
      credit := false, steps := p.steps + 1, lastStep := i.step, invAny := some false, wantCarrier := false,
      inv := some { i.nextCycle with cycles := 1 } } := by
  have noted := ((PlanStep.start plan).modPlan (fun q => { q with steps := q.steps + 1, lastStep := i.step })).wr
    F.ROD_PLAN_STAT_STEP n.val i.step
  have begun := (noted.modPlan (fun q => { q with invAny := some false })).modPlan (fun q => { q with credit := false })
  have cycled := begun.modPlan (fun q => { q with wantCarrier := false, inv := some { i.nextCycle with cycles := i.cycles + 1 } })
  rw [first] at cycled
  unfold State.firstCycle
  rw [first]
  exact cycled

/-- Its frame stands in front of the rod. -/
structure FirstFrame (s t : State) (n : Fin 24) (p : Plan) (i : InvRun) : Prop where
  air : (t.rod n).air = some (firstFrame i.nextCycle)
  plan : t.plan? n = some { p with
    credit := false, steps := p.steps + 1, lastStep := i.step, invAny := some false, wantCarrier := false,
    inv := some { i.nextCycle with cycles := 1 } }
  step : t.rd F.ROD_PLAN_STAT_STEP n.val = i.step
  others : ∀ m, m ≠ n → t.rod m = s.rod m

theorem State.beginCycle_firstFrame (plan : s.plan? n = some p) (on : (s.rod n).carrier = .on) (round : s.round.step = 0)
    (first : i.cycles = 0) (small : i.step < 1024) : FirstFrame s (s.beginCycle n i) n p i := by
  have step := PlanStep.firstCycle plan first
  have round' : (s.firstCycle n i).round.step = 0 := (congrArg (fun x : State => x.round.step) step.same).trans round
  have noted : (s.firstCycle n i).rd F.ROD_PLAN_STAT_STEP n.val = i.step :=
    (State.rd_wr_self _ F.ROD_PLAN_STAT_STEP n.val i.step).trans (Nat.mod_eq_of_lt small)
  rw [State.beginCycle_first first, State.putPlan_up round' (step.carrier.trans on)]
  have front := (s.firstCycle n i).rod_modRod_self n (fun r => { r with air := some (firstFrame i.nextCycle) })
  have asked := State.raiseReq_step ((s.firstCycle n i).modRod n (fun r => { r with air := some (firstFrame i.nextCycle) })) n
  refine ⟨asked.air.trans (congrArg Rod.air front), asked.plan.trans ((congrArg Rod.plan front).trans step.plan), ?_, fun m ne => ?_⟩
  · rw [State.raiseReq_rods]
    exact noted
  · exact (asked.others m ne).trans ((State.rod_modRod_ne _ ne.symm _).trans (step.others m ne))

/-! ### INVENTORY (R216, R222) -/

theorem exec_inventory_begins (h : PlanAtStep s n p 1) (room : (s.rod n).held.length < 4) (credit : s.planCredit n = true)
    (serves : CarrierServes s n p) : ∃ t, exec (.inventory n) s = .next t ∧
      FirstFrame s t n { p with stage := .inventory } (newInv p (s.stepBytes p p.pc)) := by
  obtain ⟨on, power, none'⟩ := serves
  obtain ⟨-, -, -, small, -⟩ := id h
  have enters := h.enters
  have room' : ((s.entersInv n p).rod n).held.length < 4 := by rw [enters.held]; exact room
  have may := h.may
  have busy : (s.entersInv n p).rodBusy? n = none := may.busy
  have goal : ((s.entersInv n p).rod n).goal = (s.rod n).goal := by rw [enters.own]
  have on' := enters.carrier.trans on
  obtain ⟨rods, up⟩ := State.settingsInForce_served busy enters.plan on' (.inl (power.trans_eq goal.symm))
  have kept := State.settingsInForce_step (s.entersInv n p) n
  have round : ((s.entersInv n p).settingsInForce n).round.step = 0 := by
    rw [rods]
    exact may.round
  obtain ⟨air, plan, step, others⟩ := State.beginCycle_firstFrame (kept.plan.trans enters.plan) up round
    (i := newInv p (s.stepBytes p p.pc)) rfl small
  rw [exec_inventory h, State.startCycle_begins (s := s.entersInv n p) room' credit busy enters.plan on'
    (power.trans_eq goal.symm) none']
  exact ⟨_, rfl, air, plan, step, fun m ne => (others m ne).trans ((kept.others m ne).trans (enters.others m ne))⟩

theorem exec_inventory_raises (h : PlanAtStep s n p 1) (room : (s.rod n).held.length < 4) (credit : s.planCredit n = true)
    (on : (s.rod n).carrier = .on) (raise : s.startQueued n.val none = true) : ∃ t, exec (.inventory n) s = .next t ∧
      (t.rod n).air = none ∧ t.plan? n = some { p with
        stage := .inventory, inv := some (newInv p (s.stepBytes p p.pc)), wantCarrier := true } := by
  have enters := h.enters
  have room' : ((s.entersInv n p).rod n).held.length < 4 := by rw [enters.held]; exact room
  have may := h.may
  have kept := State.settingsInForce_step (s.entersInv n p) n
  have wants := (PlanStep.start (kept.plan.trans enters.plan)).modPlan (fun q => { q with wantCarrier := true })
  rw [exec_inventory h, State.startCycle_raises (s := s.entersInv n p) room' credit may.busy enters.plan
    (enters.carrier.trans on) raise]
  exact ⟨_, rfl, wants.air.trans (kept.air.trans (enters.air.trans may.air)), wants.plan⟩

end Sys2Proof.Machine
end

section
/-! PROOFS. O23: END. -/

namespace Sys2Proof.Machine
open Sys2Proof

variable {s t u : State} {n : Fin 24} {p q : Plan} {op : Nat} {keys : List Nat} {crcs : List (Nat × Word)}

/-! ### The pass is counted (R214) -/

/-- END counts its pass. -/
def State.passCounted (s : State) (n : Fin 24) (p : Plan) : State :=
  ((s.stepBegins n p).modPlan n (fun q => { q with passes := p.passes + 1 })).wr F.ROD_PLAN_STAT_PASSES n.val (min 65535 (p.passes + 1))

theorem PlanAtStep.passCounted (h : PlanAtStep s n p op) : PlanStep s (s.passCounted n p) n
    [F.ROD_PLAN_STAT_STEP.key n.val, F.ROD_PLAN_STAT_PASSES.key n.val] { p.begun with passes := p.passes + 1 } :=
  (h.begins.modPlan (fun q => { q with passes := p.passes + 1 })).wr F.ROD_PLAN_STAT_PASSES n.val _

theorem State.passCounted_passes (s : State) (n : Fin 24) (p : Plan) :
    (s.passCounted n p).rd F.ROD_PLAN_STAT_PASSES n.val = min 65535 (p.passes + 1) :=
  (State.rd_wr_self _ F.ROD_PLAN_STAT_PASSES n.val _).trans
    (Nat.mod_eq_of_lt (Nat.lt_of_le_of_lt (Nat.min_le_left _ _) (by decide)))

theorem exec_endStep (h : PlanAtStep s n p 0) (free : s.board.verify = []) (crcs : List (Nat × Word)) :
    exec (.endStep n crcs) s = .next ((s.stepBegins n p).endPass n p (byteAt (s.stepBytes p p.pc) 2) crcs) := by
  have may : s.verifierFree = true := by rw [State.verifierFree, free]; rfl
  obtain ⟨-, -, -, small, -⟩ := id h
  change execEnd n crcs s = _
  unfold execEnd State.startUnit
  rw [h.tryUnit (by rw [h.atStep, may]; rfl)]
  dsimp only
  rw [if_pos small]
  rfl

/-! ### The next pass (R497) -/

theorem State.verifyPlanTile_good {k : Fin 16} (ready : (s.planTile k).st = .ready)
    (good : ∀ c ∈ crcs, c.1 = k.val → c.2 = (s.planTile k).crc) :
    s.verifyPlanTile k crcs = (s.count F.BRD_CNT_VERIFY_COUNT, true) := by
  unfold State.verifyPlanTile
  rw [if_pos ready]
  dsimp only
  split
  next c found =>
    have same : c.1 = k.val := by simpa using List.find?_some found
    rw [if_pos (good c (List.mem_of_find?_eq_some found) same)]
  next => rfl

theorem State.verifyPlanTiles_good (tiles : List Nat) : ∀ {s : State}, TilesGood s crcs tiles →
    ∃ t, State.verifyPlanTiles crcs tiles s = (t, true) ∧ RegsOnly s t [F.BRD_CNT_VERIFY_COUNT.key 0] := by
  induction tiles with
  | nil => exact fun {s} _ => ⟨s, rfl, (RegsOnly.refl s).mono (by simp)⟩
  | cons k tiles ih =>
    intro s good
    obtain ⟨⟨ready, crc⟩, rest⟩ := List.forall_mem_cons.mp good
    obtain ⟨t, verified, regs⟩ := ih (s := s.count F.BRD_CNT_VERIFY_COUNT) rest
    refine ⟨t, ?_, ((RegsOnly.wr s F.BRD_CNT_VERIFY_COUNT 0 _).trans regs).mono (by simp)⟩
    unfold State.verifyPlanTiles
    dsimp only
    rw [State.verifyPlanTile_good ready crc]
    dsimp only
    rw [verified]
    rfl

theorem PlanStep.regs {l : List Nat} (h : PlanStep s t n keys q) (g : RegsOnly t u l) : PlanStep s u n (keys ++ l) q := by
  obtain ⟨plan, ⟨others, regs⟩, own⟩ := h
  obtain ⟨same, rd⟩ := g
  have rods : u.rods = t.rods := by rw [same]
  have rod := State.rod_congr rods
  refine ⟨(congrArg Rod.plan (rod n)).trans plan, ⟨fun m ne => (rod m).trans (others m ne), ?_⟩, ?_⟩
  · rw [rods]
    exact regs.trans ⟨same, rd⟩
  · rw [State.plan?, rod n]
    exact own

theorem exec_endStep_repeats (h : PlanAtStep s n p 0) (free : s.board.verify = []) (mode : byteAt (s.stepBytes p p.pc) 2 = 0)
    (more : p.repeatN = 0 ∨ p.passes + 1 < p.repeatN) (stop : p.stop = none)
    (good : TilesGood s crcs (planTiles p.tile p.filter)) : ∃ t, exec (.endStep n crcs) s = .next t ∧
      PlanStep s t n [F.ROD_PLAN_STAT_STEP.key n.val, F.ROD_PLAN_STAT_PASSES.key n.val, F.BRD_CNT_VERIFY_COUNT.key 0]
        { p.begun with passes := p.passes + 1, stage := .boundary, pc := p.entry } ∧
      t.rd F.ROD_PLAN_STAT_PASSES n.val = min 65535 (p.passes + 1) := by
  have counted := h.passCounted
  have may := h.may
  have tile : ∀ k, (s.passCounted n p).planTile k = s.planTile k := fun k =>
    (congrArg (fun x : State => x.planTile k) counted.same).trans rfl
  have good' : TilesGood (s.passCounted n p) crcs (planTiles p.tile p.filter) := fun k mem => by
    rw [tile]
    exact good k mem
  obtain ⟨t, verified, regs⟩ := State.verifyPlanTiles_good _ good'
  have step := (counted.regs regs).goTo may.doom may.stop p.entry
  have after := ((PlanStep.start counted.plan).regs regs).goTo may.doom may.stop p.entry
  have again : (s.stepBegins n p).endPass n p (byteAt (s.stepBytes p p.pc) 2) crcs = t.goTo n p.entry := by
    have goes : (decide (byteAt (s.stepBytes p p.pc) 2 = 1) || p.repeatN != 0 && decide (p.repeatN ≤ p.passes + 1)) = false := by
      rw [mode]
      rcases more with zero | less
      · rw [zero]
        rfl
      · simp
        omega
    unfold State.endPass
    dsimp only
    rw [goes, stop]
    unfold State.passCounted at verified
    rw [verified]
    rfl
  rw [exec_endStep h free, again]
  refine ⟨_, rfl, step, (after.rd ?_).trans (s.passCounted_passes n p)⟩
  have other : F.ROD_PLAN_STAT_PASSES.key n.val ≠ F.BRD_CNT_VERIFY_COUNT.key 0 := by
    simp only [Fld.key, fldKey]
    omega
  simpa using other

/-! ### The invocation ends (R162, R498) -/

/-- From `s` to `t` the other rods, rod `n`'s carrier and held records, whether a plan runs there and its passes are as they were. -/
structure EndKeeps (n : Fin 24) (s t : State) : Prop where
  others : ∀ m, m ≠ n → t.rod m = s.rod m
  held : (t.rod n).held = (s.rod n).held
  carrier : (t.rod n).carrier = (s.rod n).carrier
  engaged : (t.plan? n).isSome = (s.plan? n).isSome
  passes : t.rd F.ROD_PLAN_STAT_PASSES n.val = s.rd F.ROD_PLAN_STAT_PASSES n.val

theorem EndKeeps.trans (h : EndKeeps n s t) (g : EndKeeps n t u) : EndKeeps n s u :=
  ⟨fun m ne => (g.others m ne).trans (h.others m ne), g.held.trans h.held, g.carrier.trans h.carrier,
    g.engaged.trans h.engaged, g.passes.trans h.passes⟩

theorem EndKeeps.of_rods (rods : t.rods = s.rods) (passes : t.rd F.ROD_PLAN_STAT_PASSES n.val = s.rd F.ROD_PLAN_STAT_PASSES n.val) :
    EndKeeps n s t := by
  have rod := State.rod_congr rods
  exact ⟨fun m _ => rod m, by rw [rod], by rw [rod], by rw [State.plan?, rod, State.plan?], passes⟩

theorem EndKeeps.modRod (f : Rod → Rod)
    (h : ∀ r, (f r).held = r.held ∧ (f r).carrier = r.carrier ∧ (f r).plan.isSome = r.plan.isSome) : EndKeeps n s (s.modRod n f) := by
  have self := s.rod_modRod_self n f
  obtain ⟨held, carrier, plan⟩ := h (s.rod n)
  exact ⟨fun m ne => s.rod_modRod_ne ne.symm f, by rw [self, held], by rw [self, carrier],
    by rw [State.plan?, self, plan, State.plan?], rfl⟩

theorem EndKeeps.modPlan (f : Plan → Plan) : EndKeeps n s (s.modPlan n f) :=
  .modRod _ fun _ => ⟨rfl, rfl, Option.isSome_map⟩

theorem EndKeeps.count {f : Fld} {i : Nat} (ne : f.key i ≠ F.ROD_PLAN_STAT_PASSES.key n.val) : EndKeeps n s (s.count f i) :=
  .of_rods rfl (s.rd_wr_ne ne _)

theorem State.dropPrep_endKeeps (s : State) (n : Fin 24) : EndKeeps n s (s.dropPrep n) := by
  have other : F.ROD_PREP_DISCARD_COUNT.key n.val ≠ F.ROD_PLAN_STAT_PASSES.key n.val :=
    Fld.key_ne (f := F.ROD_PREP_DISCARD_COUNT) (g := F.ROD_PLAN_STAT_PASSES) rfl (by decide) n.val
  unfold State.dropPrep
  split
  · split
    exacts [(EndKeeps.modPlan _).trans (.count other), .of_rods rfl rfl]
  · exact .of_rods rfl rfl

theorem State.dropPlanFrame_endKeeps (s : State) (n : Fin 24) : EndKeeps n s (s.dropPlanFrame n) := by
  have other : F.ROD_PREP_DISCARD_COUNT.key n.val ≠ F.ROD_PLAN_STAT_PASSES.key n.val :=
    Fld.key_ne (f := F.ROD_PREP_DISCARD_COUNT) (g := F.ROD_PLAN_STAT_PASSES) rfl (by decide) n.val
  have dropped : EndKeeps n s (s.modRod n (fun r => { r with air := none })) := EndKeeps.modRod _ fun _ => ⟨rfl, rfl, rfl⟩
  unfold State.dropPlanFrame
  split
  next x _ =>
    split
    · cases x.prepared
      exacts [dropped, dropped.trans (.count other)]
    · exact .of_rods rfl rfl
  next => exact .of_rods rfl rfl

theorem State.releaseGrant_endKeeps (s : State) (n : Fin 24) : EndKeeps n s (s.releaseGrant n) := by
  have released : EndKeeps n s (s.modRod n (fun r => { r with req := none })) := EndKeeps.modRod _ fun _ => ⟨rfl, rfl, rfl⟩
  unfold State.releaseGrant
  split
  · dsimp only
    split
    exacts [released.trans (.of_rods rfl rfl), released]
  · exact .of_rods rfl rfl

/-- A record leaves the passes. -/
theorem State.emit_passes (s : State) (f : Fin 25) (rs : List RecordData) (o : Option Nat) (n : Fin 24) :
    (s.emit f rs o).rd F.ROD_PLAN_STAT_PASSES n.val = s.rd F.ROD_PLAN_STAT_PASSES n.val := by
  have overrun : ∀ q : Fin 25, F.FIFO_STAT_OVERRUN.key q.val ≠ F.ROD_PLAN_STAT_PASSES.key n.val := fun q => by
    simp only [Fld.key, fldKey]
    omega
  have drop : ∀ q : Fin 25, F.FIFO_CNT_DROP_COUNT.key q.val ≠ F.ROD_PLAN_STAT_PASSES.key n.val := fun q => by
    simp only [Fld.key, fldKey]
    omega
  have lost : F.ROD_PLAN_STAT_PASSES.key n.val ≠ F.HOST_EQ_STAT_LOST.key 0 := by
    simp only [Fld.key, fldKey]
    omega
  exact State.emit_parts (fun x : State => x.rd F.ROD_PLAN_STAT_PASSES n.val) (fun _ _ _ => rfl) (fun _ _ _ => rfl) (fun _ _ => rfl)
    (fun x q => x.rd_wr_ne (overrun q) _) (fun x q k => x.rd_wr_ne (drop q) _) (fun x c k d => x.raise_rd c k d _ _ lost) s f rs o

/-- An invocation that ends on a rod that holds nothing is over. -/
structure PlanOver (n : Fin 24) (s t : State) : Prop where
  plan : t.plan? n = none
  others : ∀ m, m ≠ n → t.rod m = s.rod m
  held : (t.rod n).held = (s.rod n).held
  carrier : (t.rod n).carrier = (s.rod n).carrier
  passes : t.rd F.ROD_PLAN_STAT_PASSES n.val = s.rd F.ROD_PLAN_STAT_PASSES n.val

/-- What leaves the rods and the passes keeps an invocation over. -/
theorem PlanOver.then (h : PlanOver n s t) (rods : u.rods = t.rods)
    (passes : u.rd F.ROD_PLAN_STAT_PASSES n.val = t.rd F.ROD_PLAN_STAT_PASSES n.val) : PlanOver n s u := by
  have rod := State.rod_congr rods
  obtain ⟨plan, others, held, carrier, same⟩ := h
  exact ⟨(congrArg Rod.plan (rod n)).trans plan, fun m ne => (rod m).trans (others m ne), (congrArg Rod.held (rod n)).trans held,
    (congrArg Rod.carrier (rod n)).trans carrier, passes.trans same⟩

theorem PlanOver.of_modRod (f : Rod → Rod) (h : ∀ r, (f r).plan = none ∧ (f r).held = r.held ∧ (f r).carrier = r.carrier)
    (rods : t.rods = s.rods) (regs : t.regs = s.regs) : PlanOver n s (t.modRod n f) := by
  have self := t.rod_modRod_self n f
  obtain ⟨plan, held, carrier⟩ := h (t.rod n)
  have rod := State.rod_congr rods
  exact ⟨(congrArg Rod.plan self).trans plan, fun m ne => (t.rod_modRod_ne ne.symm f).trans (rod m),
    (congrArg Rod.held self).trans (held.trans (congrArg Rod.held (rod n))),
    (congrArg Rod.carrier self).trans (carrier.trans (congrArg Rod.carrier (rod n))), State.rd_congr regs _ _⟩

theorem State.settlePlan_over (plan : s.plan? n = some p) {c : PlanCause} (ending : p.stage = .ending c)
    (none' : (s.rod n).held = []) : PlanOver n s (s.settlePlan n) := by
  have leaves : PlanOver n s (({ s with sys := { s.sys with nextId := s.sys.nextId + 1 } } : State).modRod n (fun r =>
      { r with plan := none, endSlots := (r.endSlots.filter (fun e => (s.fifo (ix 24 n.val)).holds e.1)) ++ [(s.sys.nextId, p.slot)] })) :=
    .of_modRod _ (fun _ => ⟨rfl, rfl, rfl⟩) rfl rfl
  unfold State.settlePlan
  rw [plan]
  dsimp only
  rw [ending]
  dsimp only
  rw [if_pos (by rw [none']; rfl)]
  refine forAll_inv (PlanOver n s) (fun t x ended => ?_) _ _ (leaves.then (State.emit_rods _ _ _ _) (State.emit_passes _ _ _ _ n))
  exact ended.then (by rw [State.finish_frame]) (State.rd_congr (by rw [State.finish_frame]) _ _)

theorem State.endPlan_over (plan : (s.plan? n).isSome = true) (none' : (s.rod n).held = []) : PlanOver n s (s.endPlan n .done) := by
  have kept := (((s.dropPrep_endKeeps n).trans (State.dropPlanFrame_endKeeps _ n)).trans (State.releaseGrant_endKeeps _ n)).trans
    (.of_rods (t := (((s.dropPrep n).dropPlanFrame n).releaseGrant n).dequeueOf n.val none) rfl rfl)
  obtain ⟨q, runs⟩ := Option.isSome_iff_exists.mp (kept.engaged.trans plan)
  have ends := (PlanStep.start runs).modPlan (fun p =>
    { p with stage := .ending .done, inv := none, wantCarrier := false, stop := none, doom := none })
  obtain ⟨gone, others, held, carrier, passes⟩ := State.settlePlan_over ends.plan rfl (ends.held.trans (kept.held.trans none'))
  exact ⟨gone, fun m ne => (others m ne).trans ((ends.others m ne).trans (kept.others m ne)), held.trans (ends.held.trans kept.held),
    carrier.trans (ends.carrier.trans kept.carrier), passes.trans kept.passes⟩

theorem exec_endStep_ends (h : PlanAtStep s n p 0) (free : s.board.verify = [])
    (last : byteAt (s.stepBytes p p.pc) 2 = 1 ∨ (p.repeatN ≠ 0 ∧ p.repeatN ≤ p.passes + 1)) (none' : (s.rod n).held = []) :
    ∃ t, exec (.endStep n crcs) s = .next t ∧ PlanOver n (s.passCounted n p) t := by
  have counted := h.passCounted
  have ends : (s.stepBegins n p).endPass n p (byteAt (s.stepBytes p p.pc) 2) crcs = (s.passCounted n p).endPlan n .done := by
    have limit' : (decide (byteAt (s.stepBytes p p.pc) 2 = 1) || p.repeatN != 0 && decide (p.repeatN ≤ p.passes + 1)) = true := by
      rcases last with mode | ⟨limit, reached⟩
      · rw [mode]
        rfl
      · simp [limit, reached]
    unfold State.endPass
    dsimp only
    rw [limit']
    rfl
  rw [exec_endStep h free, ends]
  exact ⟨_, rfl, State.endPlan_over (by rw [counted.plan]; rfl) (counted.held.trans none')⟩

end Sys2Proof.Machine
end

section
/-! PROOFS. O23. -/

open Sys2Proof Sys2Proof.Machine

/-- Settles O23, step by step: a unit that nothing holds begins with the step noted (`PlanAtStep.begins`), and what each step then does
moves the invocation alone (`PlanStep`), its carrier alone (`CarrierStep`), or ends it (`PlanOver`). -/
theorem planStepsMoveTheInvocation : Obligations.PlanStepsMoveTheInvocation := by
  intro s n p
  refine ⟨?_, ?_, ?_, ?_, ?_, ?_, ?_, ?_, fun h => ⟨rfl, rfl, rfl, rfl, rfl, rfl, rfl, rfl, ?_, ?_, ?_⟩, ?_, ?_⟩
  · intro h off
    have waits := h.begins.modPlan (fun p => { p with stage := .waiting false })
    exact ⟨_, exec_waitStep_stays h off, waits.plan, h.noted, waits.frame, waits.own⟩
  · intro h off on quiet
    have waits := h.begins.modPlan (fun p => { p with stage := .waiting true })
    have ramps := State.rampDown_step
      (((s.stepBegins n p).modPlan n (fun p => { p with stage := .waiting true })).dequeueOf n.val none) n
    have regs := (State.rampDown_airFrame
      (((s.stepBegins n p).modPlan n (fun p => { p with stage := .waiting true })).dequeueOf n.val none) n).regs
    exact ⟨_, exec_waitStep_ramps h off on quiet, ramps.plan.trans waits.plan, State.rampDown_carrier (waits.carrier.trans on),
      (State.rd_congr regs _ _).trans h.noted, fun m ne => (ramps.others m ne).trans (waits.others m ne)⟩
  · exact State.waitExpiry_goes
  · intro plan stage round stop doom
    have goes := (PlanStep.start plan).goTo doom stop (p.pc + 1)
    exact ⟨_, State.waitExpiry_goes plan stage round, goes.plan, goes.frame, goes.own⟩
  · intro h
    refine ⟨_, exec_branchIf h, fun holds => ?_, fun fails => ?_, h.noted_goTo _, (h.goesTo _).frame, (h.goesTo _).own⟩
    · rw [if_pos (h.branchCond.mpr holds)]
      exact (h.goesTo _).plan
    · rw [if_neg (mt h.branchCond.mp fails)]
      exact (h.goesTo _).plan
  · intro h credit due
    have begins := h.begins
    obtain ⟨⟨plan, others, field, txns⟩, fifos⟩ :=
      State.emitMark_marked begins.plan h.may.doom h.may.stop p (s.stepBytes p p.pc)
    refine ⟨s.stepBegins n p, _, exec_emitStep_writes h credit due, begins.frame, begins.plan, ?_, ?_, ?_, ?_, ?_⟩
    · rw [← h.emitMark]
      exact fifos
    · exact plan.trans (congrArg some (h.begun_at _))
    · exact fun m ne => (others m ne).trans (begins.others m ne)
    · exact field.trans ((congrArg State.field begins.same).trans rfl)
    · exact txns.trans ((congrArg State.txns begins.same).trans rfl)
  · intro h credit sync holds
    have waits := h.begins.modPlan (fun p => { p with stage := .emitSync })
    exact ⟨_, exec_emitStep_waits h credit sync holds, waits.plan, waits.frame, waits.own⟩
  · intro plan stage round stop doom
    refine ⟨exec_emitSyncWrite_waits plan, fun none' => ?_⟩
    obtain ⟨⟨plan', others, -, txns⟩, fifos⟩ := State.emitMark_marked plan doom stop p (s.stepBytes p p.pc)
    exact ⟨_, exec_emitSyncWrite_writes plan stage round none', fifos, plan', others, txns⟩
  · intro wait
    have enters := h.enters
    have wait' : 4 ≤ ((s.entersInv n p).rod n).held.length ∨ (s.entersInv n p).planCredit n = false := by
      rw [enters.held]
      exact wait
    refine ⟨s.entersInv n p, ?_, ?_, enters.frame⟩
    · rw [exec_inventory h, State.startCycle_waits wait']
    · rw [enters.own, enters.plan]
  · intro room credit serves
    obtain ⟨t, run, air, plan, step, others⟩ := exec_inventory_begins h room credit serves
    exact ⟨t, run, air, plan, step, others⟩
  · exact exec_inventory_raises h
  · intro crcs h free last none'
    have counted := h.passCounted
    obtain ⟨t, run, gone, others, held, carrier, passes⟩ := exec_endStep_ends (crcs := crcs) h free last none'
    exact ⟨t, run, gone, fun m ne => (others m ne).trans (counted.others m ne), held.trans (counted.held.trans none'),
      carrier.trans counted.carrier, passes.trans (s.passCounted_passes n p)⟩
  · intro crcs h free mode more stop good
    obtain ⟨t, run, step, passes⟩ := exec_endStep_repeats h free mode more stop good
    exact ⟨t, run, step.plan, passes, step.frame⟩

end

section
/-! PROOFS. Why the statement of the survey fails: it speaks of every state, and in one where a rod stands in a zone that does not
exist, what the survey's end lets that rod end writes the row of coefficients. -/

namespace Sys2Proof.Machine
open Sys2Proof

/-- FIELD_ON of rod 0, carried out as transaction 7, whose NLT is the time 0. -/
def lateFieldOn : Txn := newTxn 7 0 (some 0) 0x401#512 .running []

/-- The response that rod 0 receives for transaction 7. -/
def strayResponse : Exchange := { strayWindow with phase := .receiving, chans := [(0, 1, 1)] }

/-- Every domain is ON and the slot of rod 0, the last of its survey, ramps down with no coefficient measured. Rod 0 stands in zone
296, whose FLD_ZNEAR would lie where C[0][0] lies; its FIELD_ON is past its NLT and waits for the end of the survey. -/
def strayZone : State := { State.reset with
  sys := { SysPart.reset with timebase := 1 },
  pwr := { PwrPart.reset with st := Vector.replicate 12 .on, hfLock := true },
  field := { FieldPart.reset with survey := .tail 0 false },
  txns := [lateFieldOn],
  rods := vset State.reset.rods 0 { Rod.reset with zone := some 296, air := some strayResponse } }

/-- With the survey over the rods' waits go on: the FIELD_ON ends LATE, its response is cut, and the nearest rod of its zone, 0, is
noted where the row has just been written (R154, R165, R177, R199). -/
theorem strayZone_slotEnd : ∃ t, exec .surveySlotEnd strayZone = .next t ∧ t.rd F.FLD_COUP_C_I (24 * 0 + 0) = 0 :=
  ⟨_, rfl, by decide +kernel⟩

end Sys2Proof.Machine

open Sys2Proof Sys2Proof.Machine

/-- Refutes O27: in `strayZone` no coefficient of the slot is measured, and C_I[0][0] reads 0 after the slot, where the statement
has 0x8000. The end of the survey ends a transaction of rod 0, which notes the nearest rod of its zone; zone 296 does not exist,
and its register would lie in the coefficients. The statement lacks the hypothesis that a rod's zone is one of the eight. -/
theorem not_surveysMeasureEveryMaskedRodInTurn : ¬ Obligations.SurveysMeasureEveryMaskedRodInTurn := by
  unfold Obligations.SurveysMeasureEveryMaskedRodInTurn
  intro h
  obtain ⟨-, -, -, -, -, -, -, -, slotEnd⟩ := h strayZone (by decide)
  obtain ⟨t, run, row, -⟩ := slotEnd 0 false (by decide) (by decide)
  obtain ⟨unmeasured, -⟩ := row 0 (by decide)
  obtain ⟨u, run', zero⟩ := strayZone_slotEnd
  obtain rfl : u = t := Host.Outcome.next.inj (run'.symm.trans run)
  exact absurd (zero.symm.trans unmeasured) (by decide)
end

section
/-! PROOFS. Why the statement of the tap writes fails: it speaks of every state, and in one where the waiting write names a seventh
tap of rod 0, the write lands on the first tap of rod 1. -/

namespace Sys2Proof.Machine
open Sys2Proof

variable {s : State}

/-- A tap write written last at a period's end leaves its halves in the weight of its tap (R186). -/
theorem State.applyTap_weight (s : State) (n k v : Nat) :
    (s.applyTap (n, some k, v)).rd F.FLD_TAPW_W_I (6 * n + k) = v % 65536 := by
  have halves := Fld.key_ne (f := F.FLD_TAPW_W_Q) (g := F.FLD_TAPW_W_I) rfl (by decide) (6 * n + k)
  exact (State.rd_wr_ne _ halves _).trans (State.rd_wr_self _ _ _ _)

/-- The end of a period in which one tap write waits: whatever the updates did before, the write takes effect last (R185, R186). -/
theorem exec_pilotPeriodEnd_single {p : Nat × Option Nat × Nat} (single : s.field.tapPend = [p]) (e : PilotReport) (cl : List Nat) :
    ∃ u t, exec (.pilotPeriodEnd e cl) s = .next t ∧ t.regs = (State.applyTap u p).regs :=
  ⟨_, _, rfl, by rw [single]; rfl⟩

/-- The only waiting tap write names tap 6 of rod 0. A rod has the taps 0 to 5. -/
def strayTap : State := { State.reset with field := { FieldPart.reset with tapPend := [(0, some 6, 1)] } }

theorem strayTap_periodEnd : ∃ t, exec (.pilotPeriodEnd ⟨[], []⟩ []) strayTap = .next t ∧ t.rd F.FLD_TAPW_W_I (6 * 0 + 6) = 1 := by
  obtain ⟨u, t, run, regs⟩ := exec_pilotPeriodEnd_single (s := strayTap) rfl ⟨[], []⟩ []
  exact ⟨t, run, (State.rd_congr regs _ _).trans (u.applyTap_weight 0 6 1)⟩

end Sys2Proof.Machine

open Sys2Proof Sys2Proof.Machine

/-- Refutes O28: in `strayTap` the weight of tap 0 of rod 1 changes at the period's end, though the tap is unused and no write of
rod 1 waits. The waiting write names tap 6 of rod 0, and the two taps have one register. The statement lacks the hypothesis that
every waiting write names a rod and a tap that exist, as TAP_WRITE makes them. -/
theorem not_tapsAreWrittenAtThePilotPeriodBoundary : ¬ Obligations.TapsAreWrittenAtThePilotPeriodBoundary := by
  unfold Obligations.TapsAreWrittenAtThePilotPeriodBoundary
  intro h
  obtain ⟨-, t, run, -, -, -, -, -, -, -, -, kept⟩ := h strayTap ⟨[], []⟩ []
  obtain ⟨weight, -⟩ := kept 1 0 (by decide) (by decide)
  obtain ⟨u, run', written⟩ := strayTap_periodEnd
  obtain rfl : u = t := Host.Outcome.next.inj (run'.symm.trans run)
  exact absurd (written.symm.trans weight) (by decide)
end

section
/-! PROOFS. O29: what a change of zone leaves, and the exchange that the rod then listens to. -/

namespace Sys2Proof.Machine
open Sys2Proof

variable {s t u : State} {n m : Fin 24}

/-! ### Running a function for each element of a list without repetitions -/

/-- Only the run for `a` turns `p` into `q`; the runs before it keep `p`, those after it `q`. -/
theorem forAll_once {σ α : Type} {f : α → σ → σ} {p q : σ → Prop} {l : List α} {a : α} (nodup : l.Nodup) (mem : a ∈ l)
    (before : ∀ b ∈ l, b ≠ a → ∀ x, p x → p (f b x)) (turn : ∀ x, p x → q (f a x))
    (after : ∀ b ∈ l, b ≠ a → ∀ x, q x → q (f b x)) {x : σ} (start : p x) : q (forAll l f x) := by
  have skips : ∀ (r : σ → Prop) (k : List α), (∀ b ∈ k, ∀ x, r x → r (f b x)) → ∀ x, r x → r (forAll k f x) := by
    intro r k keeps
    induction k with
    | nil => exact fun _ hx => hx
    | cons b k ih => exact fun x hx => ih (fun c hc => keeps c (.tail _ hc)) _ (keeps b (.head _) x hx)
  obtain ⟨k, r, rfl⟩ := List.append_of_mem mem
  have apart : a ∉ k ∧ a ∉ r := by
    rw [List.nodup_append, List.nodup_cons] at nodup
    exact ⟨fun h => nodup.2.2 a h a (.head _) rfl, nodup.2.1.1⟩
  have cut : forAll (k ++ a :: r) f x = forAll r f (f a (forAll k f x)) := List.foldl_append
  rw [cut]
  refine skips q r (fun b hb => after b (by simp [hb]) fun e => apart.2 (e ▸ hb)) _ (turn _ ?_)
  exact skips p k (fun b hb => before b (by simp [hb]) fun e => apart.1 (e ▸ hb)) _ start

/-! ### What zones change of the state (R188 to R196) -/

/-- `t` differs from `s` at most in the rods and in the note of the rods that spoke or listened. -/
def ZoneFrame (s t : State) : Prop := t = { s with rods := t.rods, field := { s.field with inAir := t.field.inAir } }

theorem ZoneFrame.refl (s : State) : ZoneFrame s s := rfl

theorem ZoneFrame.trans (h : ZoneFrame s t) (g : ZoneFrame t u) : ZoneFrame s u := by
  unfold ZoneFrame at *
  rw [g, h]

theorem ZoneFrame.modRod (s : State) (n : Fin 24) (f : Rod → Rod) : ZoneFrame s (s.modRod n f) := rfl

theorem ZoneFrame.regs (h : ZoneFrame s t) : t.regs = s.regs := by
  unfold ZoneFrame at h
  rw [h]

theorem ZoneFrame.field (h : ZoneFrame s t) : t.field = { s.field with inAir := t.field.inAir } := by
  unfold ZoneFrame at h
  exact congrArg State.field h

theorem ZoneFrame.frame (h : ZoneFrame s t) : t = { s with rods := t.rods, field := t.field } := by
  rw [h.field]
  exact h

/-- Zones that change after the write of a register leave one field written. -/
theorem ZoneFrame.regsOnly {f : Fld} {i v : Nat} (h : ZoneFrame (s.wr f i v) t) :
    RegsOnly { s with rods := t.rods, field := t.field } t [f.key i] := by
  refine ⟨?_, fun g j key => ?_⟩
  · calc t = { s.wr f i v with rods := t.rods, field := t.field } := h.frame
      _ = _ := by rw [h.regs]; rfl
  · have apart : f.key i ≠ g.key j := fun e => key (by simp [e])
    exact (State.rd_congr h.regs _ _).trans (s.rd_wr_ne apart v)

theorem ZoneFrame.forAll {α : Type} {f : α → State → State} (h : ∀ a x, ZoneFrame x (f a x)) (l : List α) (s : State) :
    ZoneFrame s (forAll l f s) :=
  forAll_inv (ZoneFrame s) (fun a x hx => hx.trans (h a x)) l s (.refl s)

/-- The zone of a rod, the change of it that waits, and its carrier. -/
def Rod.seat (r : Rod) : Option Nat × Option (Option Nat) × Carrier := (r.zone, r.zonePend, r.carrier)

theorem Rod.seat_inj {r q : Rod} (h : r.seat = q.seat) : r.zone = q.zone ∧ r.zonePend = q.zonePend ∧ r.carrier = q.carrier := by
  simpa [Rod.seat] using h

/-! ### Listening (R196) -/

/-- Rod `n` listens to the exchange that rod `m` has on the air. -/
def State.listensTo (s : State) (n m : Fin 24) : Prop := ∃ y, (s.rod m).air = some y ∧ y.listeners.contains n.val = true

/-- Rod `m` has an exchange on the air. -/
def State.speaksNow (s : State) (m : Fin 24) : Prop := ∃ x, (s.rod m).air = some x ∧ x.phase ≠ .ready

/-- Rod `n` joins the listeners of the exchange that another rod `m` has on the air. -/
def State.joinAt (n m : Fin 24) (s : State) : State :=
  match (s.rod m).air with
  | some x =>
    if m != n && x.phase != .ready && !x.listeners.contains n.val then
      let s1 := s.modRod m (fun r => { r with air := some { x with listeners := x.listeners ++ [n.val] } })
      { s1 with field := { s1.field with inAir := n.val :: s1.field.inAir } }
    else s
  | none => s

/-- A rod whose carrier is ON joins the listeners rod by rod; another one listens to nothing. -/
theorem State.joinListen_cases (s : State) (n : Fin 24) :
    (∃ z, (s.rod n).zone = some z ∧ (s.rod n).carrier = .on ∧ s.joinListen n = forAll (s.zoneRods z) (State.joinAt n) s) ∨
      (((s.rod n).zone = none ∨ (s.rod n).carrier ≠ .on) ∧ s.joinListen n = s) := by
  unfold State.joinListen
  cases zone : (s.rod n).zone with
  | none => exact .inr ⟨.inl rfl, rfl⟩
  | some z =>
    by_cases on : (s.rod n).carrier = .on
    · exact .inl ⟨z, rfl, on, by dsimp only; rw [if_pos on]; rfl⟩
    · exact .inr ⟨.inr on, by dsimp only; rw [if_neg on]⟩

/-- What joining changes: the exchange of rod `m`, with rod `n` among its listeners, or nothing. -/
theorem State.joinAt_cases (s : State) (n m : Fin 24) : State.joinAt n m s = s ∨
    (m ≠ n ∧ ∃ x y, (s.rod m).air = some x ∧ x.phase ≠ .ready ∧ y.phase = x.phase ∧ y.listeners = x.listeners ++ [n.val] ∧
      (State.joinAt n m s).rods = (s.modRod m (fun r => { r with air := some y })).rods ∧ ZoneFrame s (State.joinAt n m s)) := by
  unfold State.joinAt
  split
  next x air =>
    split
    next c =>
      simp only [Bool.and_eq_true, bne_iff_ne, ne_eq] at c
      exact .inr ⟨c.1.1, x, { x with listeners := x.listeners ++ [n.val] }, air, c.1.2, rfl, rfl, rfl, rfl⟩
    next => exact .inl rfl
  next => exact .inl rfl

theorem State.joinAt_frame (s : State) (n m : Fin 24) : ZoneFrame s (State.joinAt n m s) := by
  rcases s.joinAt_cases n m with same | ⟨-, _, _, -, -, -, -, -, frame⟩
  · rw [same]
    exact .refl s
  · exact frame

/-- Joining leaves what does not hang on the exchange of a rod. -/
theorem State.joinAt_keeps {β : Type} (g : Rod → β) (h : ∀ r a, g { r with air := a } = g r) (s : State) (n m k : Fin 24) :
    g ((State.joinAt n m s).rod k) = g (s.rod k) := by
  rcases s.joinAt_cases n m with same | ⟨-, _, y, -, -, -, -, rods, -⟩
  · rw [same]
  · rw [State.rod_congr rods k]
    exact State.modRod_keeps g (fun r => h r (some y))

/-- A rod joins no exchange of its own, and its joining one leaves the others. -/
theorem State.joinAt_others (s : State) {n m k : Fin 24} (h : k ≠ m ∨ k = n) : (State.joinAt n m s).rod k = s.rod k := by
  rcases s.joinAt_cases n m with same | ⟨ne, _, _, -, -, -, -, rods, -⟩
  · rw [same]
  · rw [State.rod_congr rods k]
    refine State.rod_modRod_ne _ ?_ _
    rcases h with other | own
    · exact other.symm
    · rwa [own]

theorem State.joinAt_joins (s : State) (ne : m ≠ n) (speaks : s.speaksNow m) : (State.joinAt n m s).listensTo n m := by
  obtain ⟨x, air, onAir⟩ := speaks
  unfold State.joinAt
  rw [air]
  dsimp only
  split
  next => exact ⟨_, congrArg Rod.air (State.rod_modRod_self _ m _), by simp⟩
  next c =>
    have listens : x.listeners.contains n.val = true := by simpa [ne, onAir] using c
    exact ⟨x, air, listens⟩

theorem State.joinListen_frame (s : State) (n : Fin 24) : ZoneFrame s (s.joinListen n) := by
  rcases s.joinListen_cases n with ⟨z, -, -, joins⟩ | ⟨-, same⟩
  · rw [joins]
    exact ZoneFrame.forAll (fun m x => x.joinAt_frame n m) _ s
  · rw [same]
    exact .refl s

theorem State.joinListen_seat (s : State) (n m : Fin 24) : ((s.joinListen n).rod m).seat = (s.rod m).seat := by
  rcases s.joinListen_cases n with ⟨z, -, -, joins⟩ | ⟨-, same⟩
  · rw [joins]
    exact forAll_keeps (fun x : State => (x.rod m).seat) (fun k x => x.joinAt_keeps Rod.seat (fun _ _ => rfl) n k m) _ s
  · rw [same]

theorem State.joinListen_own (s : State) (n : Fin 24) : (s.joinListen n).rod n = s.rod n := by
  rcases s.joinListen_cases n with ⟨z, -, -, joins⟩ | ⟨-, same⟩
  · rw [joins]
    exact forAll_keeps (fun x : State => x.rod n) (fun m x => x.joinAt_others (.inr rfl)) _ s
  · rw [same]

/-- A rod whose carrier is ON listens to every exchange on the air of its zone. -/
theorem State.joinListen_listens {z : Nat} (zone : (s.rod n).zone = some z) (on : (s.rod n).carrier = .on) (ne : m ≠ n)
    (member : (s.rod m).zone = some z) (speaks : s.speaksNow m) : (s.joinListen n).listensTo n m := by
  rcases s.joinListen_cases n with ⟨z', zone', -, joins⟩ | ⟨none | off, -⟩
  · obtain rfl : z = z' := Option.some.inj (zone.symm.trans zone')
    have nodup : (s.zoneRods z).Nodup := (List.nodup_finRange 24).filter _
    have mem : m ∈ s.zoneRods z := by simp [State.zoneRods, allRods, member]
    rw [joins]
    refine forAll_once (p := fun x : State => x.speaksNow m) (q := fun x => x.listensTo n m) nodup mem ?_
      (fun x => x.joinAt_joins ne) ?_ speaks
    · intro k _ other x speaks
      rwa [State.speaksNow, x.joinAt_others (.inl other.symm)]
    · intro k _ other x listens
      rwa [State.listensTo, x.joinAt_others (.inl other.symm)]
  · exact absurd (none.symm.trans zone) nofun
  · exact absurd on off

/-! ### Requests (R191) -/

theorem State.raiseReq_frame (s : State) (n : Fin 24) : ZoneFrame s (s.raiseReq n) := by
  unfold State.raiseReq
  dsimp only
  split
  exacts [.modRod s n _, .refl s]

theorem State.raiseReq_seat (s : State) (n m : Fin 24) : ((s.raiseReq n).rod m).seat = (s.rod m).seat := by
  unfold State.raiseReq
  dsimp only
  split
  exacts [State.modRod_keeps Rod.seat, rfl]

/-! ### A zone change takes effect (R189, R196) -/

section
variable (s : State) (n : Fin 24) (z : Option Nat)

theorem State.changeZone_frame : ZoneFrame s (s.changeZone n z) :=
  ((ZoneFrame.modRod s n _).trans (State.joinListen_frame _ n)).trans (State.raiseReq_frame _ n)

theorem State.changeZone_seat : ((s.changeZone n z).rod n).seat = (z, none, (s.rod n).carrier) := by
  unfold State.changeZone
  rw [State.raiseReq_seat, State.joinListen_seat, State.rod_modRod_self]
  rfl

theorem State.changeZone_air : ((s.changeZone n z).rod n).air = (s.rod n).air := by
  unfold State.changeZone
  rw [(State.raiseReq_step _ n).air, State.joinListen_own, State.rod_modRod_self]

theorem State.changeZone_others {m : Fin 24} (ne : m ≠ n) : ((s.changeZone n z).rod m).seat = (s.rod m).seat := by
  unfold State.changeZone
  rw [State.raiseReq_seat, State.joinListen_seat, State.rod_modRod_ne _ ne.symm]

theorem State.changeZone_carrier (m : Fin 24) : ((s.changeZone n z).rod m).carrier = (s.rod m).carrier := by
  by_cases e : m = n
  · rw [e]
    exact (Prod.mk.inj (Prod.mk.inj (s.changeZone_seat n z)).2).2
  · exact (Rod.seat_inj (s.changeZone_others n z e)).2.2

theorem State.changeZone_listens {k : Nat} (on : (s.rod n).carrier = .on) {m : Fin 24} (ne : m ≠ n)
    (member : (s.rod m).zone = some k) (speaks : s.speaksNow m) : (s.changeZone n (some k)).listensTo n m := by
  unfold State.changeZone
  rw [State.listensTo, (State.raiseReq_step _ n).others m ne]
  refine State.joinListen_listens (z := k) ?_ ?_ ne ?_ ?_
  · rw [State.rod_modRod_self]
  · rw [State.rod_modRod_self, on]
  · rw [State.rod_modRod_ne _ ne.symm, member]
  · rwa [State.speaksNow, State.rod_modRod_ne _ ne.symm]

end

/-! ### FLD_ZMAP (R188, R189) -/

/-- A rod at the zone that was asked for, or still at its own with the change waiting. -/
def ZoneAsked (s t : State) (n : Fin 24) (z : Option Nat) : Prop :=
  ((t.rod n).zone = z ∧ (t.rod n).zonePend = none) ∨ ((t.rod n).zone = (s.rod n).zone ∧ (t.rod n).zonePend = some z)

/-- A rod that is asked for its own zone gives up the change that waits; another zone it takes at once, or it waits. -/
theorem State.askZone_cases (s : State) (n : Fin 24) :
    ((s.rod n).zone = s.zoneAsked n.val ∧ s.askZone n = s.modRod n (fun r => { r with zonePend := none })) ∨
      s.askZone n = s.changeZone n (s.zoneAsked n.val) ∨
      s.askZone n = s.modRod n (fun r => { r with zonePend := some (s.zoneAsked n.val) }) := by
  unfold State.askZone
  dsimp only
  split
  next same => exact .inl ⟨same, rfl⟩
  next =>
    repeat' split
    exacts [.inr (.inl rfl), .inr (.inr rfl), .inr (.inl rfl), .inr (.inr rfl)]

section
variable (s : State) (n : Fin 24)

theorem State.askZone_frame : ZoneFrame s (s.askZone n) := by
  rcases s.askZone_cases n with ⟨-, e⟩ | e | e <;> rw [e]
  exacts [.modRod s n _, s.changeZone_frame n _, .modRod s n _]

theorem State.askZone_asks : ZoneAsked s (s.askZone n) n (s.zoneAsked n.val) := by
  unfold ZoneAsked
  rcases s.askZone_cases n with ⟨same, e⟩ | e | e <;> rw [e]
  · rw [State.rod_modRod_self]
    exact .inl ⟨same, rfl⟩
  · obtain ⟨zone, rest⟩ := Prod.mk.inj (s.changeZone_seat n (s.zoneAsked n.val))
    exact .inl ⟨zone, (Prod.mk.inj rest).1⟩
  · rw [State.rod_modRod_self]
    exact .inr ⟨rfl, rfl⟩

theorem State.askZone_others {m : Fin 24} (ne : m ≠ n) : ((s.askZone n).rod m).seat = (s.rod m).seat := by
  rcases s.askZone_cases n with ⟨-, e⟩ | e | e <;> rw [e]
  exacts [by rw [State.rod_modRod_ne _ ne.symm], s.changeZone_others n _ ne, by rw [State.rod_modRod_ne _ ne.symm]]

theorem State.askZone_carrier (m : Fin 24) : ((s.askZone n).rod m).carrier = (s.rod m).carrier := by
  rcases s.askZone_cases n with ⟨-, e⟩ | e | e <;> rw [e]
  exacts [State.modRod_keeps Rod.carrier, s.changeZone_carrier n _ m, State.modRod_keeps Rod.carrier]

end

/-- Bit 3 of a rod's nibble in FLD_ZMAP makes it a member of a zone. -/
theorem bit_three_of_nibble {f : Nat} (h : f < 16) : bit f 3 = decide (8 ≤ f) := by
  revert f
  decide

/-- The zone that FLD_ZMAP gives a rod of the group that has been written. -/
theorem State.zoneAsked_written (s : State) {g : Nat} (w : Word) (group : n.val / 8 = g) :
    (s.wr F.FLD_ZMAP_MAP g w.toNat).zoneAsked n.val =
      (let f := w.toNat / 16 ^ (n.val % 8) % 16
       if 8 ≤ f then some (f % 8) else none) := by
  have whole : w.toNat % F.FLD_ZMAP_MAP.size = w.toNat := Nat.mod_eq_of_lt w.isLt
  have nibble : bits w.toNat (4 * (n.val % 8) + 3) (4 * (n.val % 8)) = w.toNat / 16 ^ (n.val % 8) % 16 := by
    rw [bits_eq, Nat.add_sub_cancel_left, pow_mul]
    rfl
  unfold State.zoneAsked
  rw [group, State.rd_wr_self, whole, nibble]
  dsimp only
  rw [bit_three_of_nibble (Nat.mod_lt _ (by decide))]
  simp

theorem ix_group (g : Fin 3) {i : Nat} (h : i < 8) : (ix 23 (8 * g.val + i)).val = 8 * g.val + i := ix_val (by omega)

section
variable (s : State) (g : Fin 3) (w : Word)

theorem State.writeZoneMap_frame : ZoneFrame (s.wr F.FLD_ZMAP_MAP g.val w.toNat) (s.writeZoneMap g.val w) :=
  ZoneFrame.forAll (fun _ x => x.askZone_frame _) _ _

theorem State.writeZoneMap_carrier (m : Fin 24) : ((s.writeZoneMap g.val w).rod m).carrier = (s.rod m).carrier :=
  forAll_keeps (fun x : State => (x.rod m).carrier) (fun _ x => x.askZone_carrier _ m) _ _

theorem State.writeZoneMap_others (other : m.val / 8 ≠ g.val) : ((s.writeZoneMap g.val w).rod m).seat = (s.rod m).seat := by
  have keeps : ∀ l : List Nat, (∀ i ∈ l, i < 8) → ∀ x : State,
      ((Machine.forAll l (fun (i : Nat) (x : State) => x.askZone (ix 23 (8 * g.val + i))) x).rod m).seat = (x.rod m).seat := by
    intro l
    induction l with
    | nil => exact fun _ _ => rfl
    | cons i l ih =>
      intro small x
      have lt := small i (.head _)
      have apart : m ≠ ix 23 (8 * g.val + i) := fun e => other (by rw [e, ix_group g lt]; omega)
      exact (ih (fun j hj => small j (.tail _ hj)) _).trans (x.askZone_others _ apart)
  exact keeps (List.range 8) (fun i hi => List.mem_range.mp hi) _

theorem State.writeZoneMap_asks (group : n.val / 8 = g.val) :
    ZoneAsked s (s.writeZoneMap g.val w) n ((s.wr F.FLD_ZMAP_MAP g.val w.toNat).zoneAsked n.val) := by
  have turn : ix 23 (8 * g.val + n.val % 8) = n := Fin.ext (by rw [ix_group g (by omega)]; omega)
  have apart : ∀ i ∈ List.range 8, i ≠ n.val % 8 → n ≠ ix 23 (8 * g.val + i) := fun i hi ne e => ne (by
    have := ix_group g (List.mem_range.mp hi)
    rw [← e] at this
    omega)
  have asked : ∀ x : State, x.regs = (s.wr F.FLD_ZMAP_MAP g.val w.toNat).regs →
      x.zoneAsked n.val = (s.wr F.FLD_ZMAP_MAP g.val w.toNat).zoneAsked n.val := fun x regs => by
    unfold State.zoneAsked
    rw [State.rd_congr regs]
  refine forAll_once
    (p := fun x => x.regs = (s.wr F.FLD_ZMAP_MAP g.val w.toNat).regs ∧ (x.rod n).seat = (s.rod n).seat)
    (q := fun x => ZoneAsked s x n ((s.wr F.FLD_ZMAP_MAP g.val w.toNat).zoneAsked n.val))
    List.nodup_range (List.mem_range.mpr (Nat.mod_lt n.val (by decide))) ?_ ?_ ?_ ⟨rfl, rfl⟩
  · rintro i hi ne x ⟨regs, seat⟩
    exact ⟨(x.askZone_frame _).regs.trans regs, (x.askZone_others _ (apart i hi ne)).trans seat⟩
  · rintro x ⟨regs, seat⟩
    rw [turn, ← asked x regs]
    have asks := x.askZone_asks n
    unfold ZoneAsked at *
    rwa [(Rod.seat_inj seat).1] at asks
  · intro i hi ne x asks
    obtain ⟨zone, pend, -⟩ := Rod.seat_inj (x.askZone_others _ (apart i hi ne))
    unfold ZoneAsked at *
    rwa [zone, pend]

end

theorem exec_zoneMapWrite (on : s.isOn .core = true) (g : Fin 3) (w : Word) :
    exec (.zoneMapWrite g w) s = .next (s.writeZoneMap g.val w) := by
  refine congrArg Host.Outcome.next (State.hostWrite_on ?_)
  have core : domainOf (0x5120 + 4 * g.val) = .core := by
    revert g
    decide
  rw [core, on]

/-! ### ZONE_CHANGE_EFFECT (R189) -/

/-- The zone of rod `n` stands between two units, or it has none. -/
def State.atZoneBoundary (s : State) (n : Fin 24) : Prop :=
  ∀ o, (s.rod n).zone = some o → s.speaker (ix 7 o) = none ∧ s.zoneBusy o = false

theorem exec_zoneChangeEffect_none (h : (s.rod n).zonePend = none) : exec (.zoneChangeEffect n) s = .next s := by
  have e : exec (.zoneChangeEffect n) s = execZoneChangeEffect n s := rfl
  rw [e, execZoneChangeEffect, h]

theorem exec_zoneChangeEffect_changes {z : Option Nat} (pend : (s.rod n).zonePend = some z) (silent : s.rodEngaged n = false)
    (boundary : s.atZoneBoundary n) : exec (.zoneChangeEffect n) s = .next (s.changeZone n z) := by
  have e : exec (.zoneChangeEffect n) s = execZoneChangeEffect n s := rfl
  rw [e, execZoneChangeEffect, pend]
  dsimp only
  cases zone : (s.rod n).zone with
  | none => simp [silent]
  | some o =>
    obtain ⟨free, quiet⟩ := boundary o zone
    simp [silent, free, quiet]

theorem exec_zoneChangeEffect_waits {z : Option Nat} {o : Nat} (pend : (s.rod n).zonePend = some z)
    (zone : (s.rod n).zone = some o) (busy : s.speaker (ix 7 o) ≠ none ∨ s.zoneBusy o = true) :
    exec (.zoneChangeEffect n) s = .next s := by
  have e : exec (.zoneChangeEffect n) s = execZoneChangeEffect n s := rfl
  rw [e, execZoneChangeEffect, pend, zone]
  dsimp only
  rw [if_neg]
  rcases busy with taken | busy
  · simp [Option.isNone_iff_eq_none, taken]
  · simp [busy]

theorem exec_zoneChangeEffect_engaged {z : Option Nat} (pend : (s.rod n).zonePend = some z) (engaged : s.rodEngaged n = true) :
    exec (.zoneChangeEffect n) s = .next s := by
  have e : exec (.zoneChangeEffect n) s = execZoneChangeEffect n s := rfl
  rw [e, execZoneChangeEffect, pend]
  dsimp only
  rw [if_neg (by simp [engaged])]

end Sys2Proof.Machine
end

section
/-! PROOFS. O29: the request that a free zone grants. -/

namespace Sys2Proof.Machine
open Sys2Proof

variable {s : State} {z : Fin 8}

/-! ### Rotation (R193) -/

/-- Steps upward, with wrap, from the rod after the last granted one to rod `k`. -/
def turnsAfter (last k : Nat) : Nat := (k + 23 - last % 24) % 24

theorem turnsAfter_reaches {k : Nat} (last : Nat) (h : k < 24) : (last + 1 + turnsAfter last k) % 24 = k := by
  unfold turnsAfter
  omega

theorem turnsAfter_turn {i : Nat} (last : Nat) (h : i < 24) : turnsAfter last ((last + 1 + i) % 24) = i := by
  unfold turnsAfter
  omega

/-- The rod that follows is a candidate, and no candidate comes before it. -/
theorem followsIn_first {last k : Nat} {cand : List Nat} (rods : ∀ c ∈ cand, c < 24) (h : followsIn last cand = some k) :
    k ∈ cand ∧ ∀ c ∈ cand, turnsAfter last k ≤ turnsAfter last c := by
  unfold followsIn at h
  rw [List.find?_map] at h
  obtain ⟨i, first, rfl⟩ := Option.map_eq_some_iff.mp h
  obtain ⟨hit, lt, earlier⟩ := List.find?_range_eq_some.mp first
  refine ⟨by simpa using hit, fun c hc => ?_⟩
  rw [turnsAfter_turn last (List.mem_range.mp lt)]
  by_contra before
  have miss := earlier (turnsAfter last c) (Nat.lt_of_not_le before)
  simp [turnsAfter_reaches last (rods c hc), hc] at miss

/-- Where there is a candidate, one follows. -/
theorem followsIn_isSome {c : Nat} {cand : List Nat} (last : Nat) (rods : ∀ c ∈ cand, c < 24) (h : c ∈ cand) :
    ∃ k, followsIn last cand = some k := by
  refine Option.isSome_iff_exists.mp ?_
  unfold followsIn
  rw [List.find?_isSome]
  have mem : (last + 1 + turnsAfter last c) % 24 ∈ (List.range 24).map (fun i => (last + 1 + i) % 24) :=
    List.mem_map_of_mem (List.mem_range.mpr (Nat.mod_lt _ (by decide)))
  rw [turnsAfter_reaches last (rods c h)] at mem
  exact ⟨c, mem, by simpa using h⟩

/-! ### The requests of a zone (R191, R193, R194) -/

/-- The requests of a zone's rods, with the rods that make them. -/
def State.zoneReqs (s : State) (z : Nat) : List (Nat × GrantReq) :=
  (s.zoneRods z).filterMap (fun n => (s.rod n).req.map (fun q => (n.val, q)))

/-- The requests of the class that the next decision of a zone grants (R194). -/
def State.winners (s : State) (z : Nat) : List (Nat × GrantReq) :=
  let host := (s.zoneReqs z).filter (fun p => p.2.host)
  let plan := (s.zoneReqs z).filter (fun p => !p.2.host)
  if host.isEmpty || (s.rd F.FLD_CTL_HOST_RUN != 0 && plan.any (fun p => decide (s.rd F.FLD_CTL_HOST_RUN ≤ p.2.runs))) then plan
  else host

/-- A zone's decision follows its rotation through the rods of one class. -/
theorem State.grantChoice_eq (s : State) (z : Fin 8) :
    s.grantChoice z = followsIn (vget s.field.lastGrant z) ((s.winners z.val).map (·.1)) := by
  unfold State.grantChoice State.winners State.zoneReqs
  dsimp only
  rw [apply_ite (List.map _), List.isEmpty_map]

theorem State.mem_zoneReqs {k z : Nat} {q : GrantReq} :
    (k, q) ∈ s.zoneReqs z ↔ ∃ n : Fin 24, n.val = k ∧ (s.rod n).zone = some z ∧ (s.rod n).req = some q := by
  simp only [State.zoneReqs, State.zoneRods, allRods, List.mem_filterMap, List.mem_filter, List.mem_finRange, true_and,
    Option.map_eq_some_iff, Prod.mk.injEq, beq_iff_eq]
  constructor
  · rintro ⟨n, zone, q', req, rfl, rfl⟩
    exact ⟨n, rfl, zone, req⟩
  · rintro ⟨n, rfl, zone, req⟩
    exact ⟨n, zone, q, req, rfl, rfl⟩

theorem State.winners_subset {z : Nat} {p : Nat × GrantReq} (h : p ∈ s.winners z) : p ∈ s.zoneReqs z := by
  unfold State.winners at h
  dsimp only at h
  split at h
  all_goals exact (List.mem_filter.mp h).1

theorem State.winners_lt {z c : Nat} (h : c ∈ (s.winners z).map (·.1)) : c < 24 := by
  obtain ⟨⟨k, q⟩, mem, rfl⟩ := List.mem_map.mp h
  obtain ⟨n, rfl, -⟩ := State.mem_zoneReqs.mp (State.winners_subset mem)
  exact n.isLt

/-- With HOST_RUN 0 a request of the host class wins where there is one. -/
theorem State.winners_host {z : Nat} {p q : Nat × GrantReq} (never : s.rd F.FLD_CTL_HOST_RUN = 0) (req : p ∈ s.zoneReqs z)
    (host : p.2.host = true) (h : q ∈ s.winners z) : q.2.host = true := by
  have some : ((s.zoneReqs z).filter (fun p => p.2.host)).isEmpty = false :=
    List.isEmpty_eq_false_iff.mpr (List.ne_nil_of_mem (List.mem_filter.mpr ⟨req, host⟩))
  unfold State.winners at h
  simp only [some, never, bne_self_eq_false, Bool.false_and, Bool.or_self, Bool.false_eq_true, if_false] at h
  exact (List.mem_filter.mp h).2

/-- Where the requests are of one class, every request wins. -/
theorem State.winners_all {z : Nat} {b : Bool} (alike : ∀ p ∈ s.zoneReqs z, p.2.host = b) : s.winners z = s.zoneReqs z := by
  unfold State.winners
  cases b with
  | true =>
    have host : (s.zoneReqs z).filter (fun p => p.2.host) = s.zoneReqs z :=
      List.filter_eq_self.mpr fun p hp => alike p hp
    have plan : (s.zoneReqs z).filter (fun p => !p.2.host) = [] :=
      List.filter_eq_nil_iff.mpr fun p hp => by simp [alike p hp]
    rw [host, plan]
    cases s.zoneReqs z <;> simp
  | false =>
    have host : (s.zoneReqs z).filter (fun p => p.2.host) = [] :=
      List.filter_eq_nil_iff.mpr fun p hp => by simp [alike p hp]
    have plan : (s.zoneReqs z).filter (fun p => !p.2.host) = s.zoneReqs z :=
      List.filter_eq_self.mpr fun p hp => by simp [alike p hp]
    rw [host, plan]
    rfl

/-- Where there is a request, one wins. -/
theorem State.winners_ne_nil {z : Nat} {p : Nat × GrantReq} (h : p ∈ s.zoneReqs z) : s.winners z ≠ [] := by
  unfold State.winners
  dsimp only
  split
  next c =>
    simp only [Bool.or_eq_true, Bool.and_eq_true, List.any_eq_true] at c
    rcases c with none | ⟨-, q, mem, -⟩
    · have plan : p.2.host = false := by
        by_contra host
        exact List.ne_nil_of_mem (List.mem_filter.mpr ⟨h, Bool.of_not_eq_false host⟩) (List.isEmpty_iff.mp none)
      exact List.ne_nil_of_mem (List.mem_filter.mpr ⟨h, by simp [plan]⟩)
    · exact List.ne_nil_of_mem mem
  next c =>
    intro none
    simp [none] at c

/-! ### The grant (R193, R194) -/

/-- Changing the rods of a list changes nothing but rods. -/
theorem State.forAll_modRod_frame (f : Rod → Rod) (l : List (Fin 24)) (s : State) :
    forAll l (fun (m : Fin 24) (s : State) => s.modRod m f) s =
      { s with rods := (forAll l (fun (m : Fin 24) (s : State) => s.modRod m f) s).rods } :=
  forAll_inv (fun x => x = { s with rods := x.rods }) (fun m x hx => by
    rw [hx]
    rfl) l s rfl

theorem State.forAll_modRod_others (f : Rod → Rod) {l : List (Fin 24)} {m : Fin 24} (h : m ∉ l) (s : State) :
    (forAll l (fun (m : Fin 24) (s : State) => s.modRod m f) s).rod m = s.rod m := by
  induction l generalizing s with
  | nil => rfl
  | cons k l ih =>
    rw [List.mem_cons, not_or] at h
    exact (ih h.2 _).trans (State.rod_modRod_ne _ (Ne.symm h.1) f)

section
variable (s : State) (z : Fin 8) (n : Fin 24)

/-- The state in which rod `n` has the grant and no request, before the requests of the other class are counted. -/
def State.granted : State :=
  let s1 := (s.modRod n (fun r => { r with req := none })).setSpeaker z (some n.val)
  { s1 with field := { s1.field with lastGrant := vset s1.field.lastGrant z n.val } }

/-- A plan-class request that has seen one more host-class grant. -/
def Rod.outrun (r : Rod) : Rod := { r with req := r.req.map (fun q => if q.host then q else { q with runs := q.runs + 1 }) }

/-- A grant of a host-class request is counted in the other requests of the zone, and nothing else follows. -/
theorem State.grant_cases : s.grant z n = s.granted z n ∨
    s.grant z n = forAll ((s.granted z n).zoneRods z.val) (fun (m : Fin 24) (s : State) => s.modRod m Rod.outrun) (s.granted z n) := by
  unfold State.grant
  cases (s.rod n).req with
  | none => exact .inl rfl
  | some q =>
    dsimp only
    split
    exacts [.inr rfl, .inl rfl]

theorem State.grant_field : (s.grant z n).field = (s.granted z n).field := by
  rcases s.grant_cases z n with e | e
  · rw [e]
  · rw [e, State.forAll_modRod_frame]

theorem State.grant_frame : s.grant z n = { s with rods := (s.grant z n).rods, field := (s.grant z n).field } := by
  rw [s.grant_field z n]
  rcases s.grant_cases z n with e | e
  · rw [e]
    rfl
  · rw [e, State.forAll_modRod_frame]
    rfl

theorem State.grant_others {m : Fin 24} (other : (s.rod m).zone ≠ some z.val) (ne : m ≠ n) : (s.grant z n).rod m = s.rod m := by
  have kept : (s.granted z n).rod m = s.rod m := State.rod_modRod_ne s ne.symm _
  rcases s.grant_cases z n with e | e
  · rw [e, kept]
  · have stranger : m ∉ (s.granted z n).zoneRods z.val := by simp [State.zoneRods, kept, other]
    rw [e, State.forAll_modRod_others _ stranger, kept]

theorem State.grant_req : ((s.grant z n).rod n).req = none := by
  have taken : ((s.granted z n).rod n).req = none := congrArg Rod.req (s.rod_modRod_self n _)
  rcases s.grant_cases z n with e | e
  · rw [e, taken]
  · rw [e]
    refine forAll_inv (fun x : State => (x.rod n).req = none) (fun k x none => ?_) _ _ taken
    by_cases same : k = n
    · rw [same, State.rod_modRod_self, Rod.outrun, none]
      rfl
    · rw [State.rod_modRod_ne _ same, none]

theorem State.grant_speaker (y : Fin 8) : (s.grant z n).speaker y = if y = z then some n.val else s.speaker y := by
  rw [State.speaker, s.grant_field z n]
  split
  next e => rw [e]; exact vget_vset_self _ z _
  next ne => exact vget_vset_ne _ _ (Ne.symm ne)

theorem State.grant_lastGrant : vget (s.grant z n).field.lastGrant z = n.val := by
  rw [s.grant_field z n]
  exact vget_vset_self _ z _

end

theorem exec_zoneGrant_waits (h : s.speaker z ≠ none ∨ s.zoneReqs z.val = []) : exec (.zoneGrant z) s = .next s := by
  have e : exec (.zoneGrant z) s = execZoneGrant z s := rfl
  rw [e, execZoneGrant, State.grantChoice_eq]
  rcases h with taken | idle
  · obtain ⟨k, speaks⟩ := Option.ne_none_iff_exists'.mp taken
    rw [speaks]
  · have none : s.winners z.val = [] := List.eq_nil_iff_forall_not_mem.mpr fun p hp => by
      have := State.winners_subset hp
      simp [idle] at this
    rw [none]
    cases s.speaker z <;> rfl

/-- A free zone with a request grants the winner whose turn it is. -/
theorem exec_zoneGrant_grants (free : s.speaker z = none) {p : Nat × GrantReq} (req : p ∈ s.zoneReqs z.val) :
    ∃ n : Fin 24, exec (.zoneGrant z) s = .next (s.grant z n) ∧ (∃ q, (n.val, q) ∈ s.winners z.val) ∧
      ∀ w ∈ s.winners z.val, turnsAfter (vget s.field.lastGrant z) n.val ≤ turnsAfter (vget s.field.lastGrant z) w.1 := by
  have rods : ∀ c ∈ (s.winners z.val).map (·.1), c < 24 := fun c => State.winners_lt
  obtain ⟨w, hw⟩ := List.exists_mem_of_ne_nil _ (State.winners_ne_nil req)
  obtain ⟨_, follows⟩ := followsIn_isSome (vget s.field.lastGrant z) rods (List.mem_map_of_mem hw)
  obtain ⟨mem, first⟩ := followsIn_first rods follows
  obtain ⟨⟨_, q⟩, win, rfl⟩ := List.mem_map.mp mem
  obtain ⟨n, rfl, -⟩ := State.mem_zoneReqs.mp (State.winners_subset win)
  refine ⟨n, ?_, ⟨q, win⟩, fun w hw => first w.1 (List.mem_map_of_mem hw)⟩
  have e : exec (.zoneGrant z) s = execZoneGrant z s := rfl
  rw [e, execZoneGrant, State.grantChoice_eq, free, follows]
  exact congrArg (fun m => Host.Outcome.next (s.grant z m)) (ix_fin n)

end Sys2Proof.Machine
end

section
/-! PROOFS. O29. -/

namespace Sys2Proof.Machine
open Sys2Proof

variable {s : State}

/-- A write of FLD_ZMAP leaves the register written and each rod of its group asked for its zone (R188, R189). -/
theorem exec_zoneMapWrite_asks (on : s.isOn .core = true) (g : Fin 3) (w : Word) :
    ∃ t, exec (.zoneMapWrite g w) s = .next t ∧ t.rd F.FLD_ZMAP_MAP g.val = w.toNat ∧
      RegsOnly { s with rods := t.rods, field := t.field } t [F.FLD_ZMAP_MAP.key g.val] ∧
      t.field = { s.field with inAir := t.field.inAir } ∧ (∀ n : Fin 24, (t.rod n).carrier = (s.rod n).carrier) ∧
      (∀ n : Fin 24, n.val / 8 ≠ g.val → (t.rod n).zone = (s.rod n).zone ∧ (t.rod n).zonePend = (s.rod n).zonePend) ∧
      (∀ n : Fin 24, n.val / 8 = g.val → ZoneAsked s t n ((s.wr F.FLD_ZMAP_MAP g.val w.toNat).zoneAsked n.val)) := by
  have frame := s.writeZoneMap_frame g w
  have written : (s.wr F.FLD_ZMAP_MAP g.val w.toNat).rd F.FLD_ZMAP_MAP g.val = w.toNat :=
    (s.rd_wr_self _ _ _).trans (Nat.mod_eq_of_lt w.isLt)
  refine ⟨_, exec_zoneMapWrite on g w, (State.rd_congr frame.regs _ _).trans written, frame.regsOnly, frame.field,
    s.writeZoneMap_carrier g w, fun n other => ?_, fun n group => s.writeZoneMap_asks g w group⟩
  obtain ⟨zone, pend, -⟩ := Rod.seat_inj (s.writeZoneMap_others g w other)
  exact ⟨zone, pend⟩

end Sys2Proof.Machine

open Sys2Proof Sys2Proof.Machine

/-- Settles O29: a change of zone leaves the rods' seats but its own (`changeZone_seat`, `changeZone_others`) and brings the rod to
the exchanges of its new zone (`changeZone_listens`); a free zone follows its rotation through the class that wins
(`followsIn_first`, `winners`), and the grant takes the request (`grant_req`). -/
theorem zonesGrantOneSpeakerAtATime : Obligations.ZonesGrantOneSpeakerAtATime := by
  intro s
  refine ⟨fun g w on => ?_, fun n none => exec_zoneChangeEffect_none none, fun n z pend silent boundary => ?_,
    fun n z o pend zone busy => exec_zoneChangeEffect_waits pend zone busy,
    fun n z pend engaged => exec_zoneChangeEffect_engaged pend engaged, fun z => ⟨fun h => ?_, fun free wants => ?_⟩⟩
  · obtain ⟨t, run, map, regs, field, carriers, others, asked⟩ := exec_zoneMapWrite_asks on g w
    refine ⟨t, run, map, regs, field, carriers, others, fun n group => ?_⟩
    have asks := asked n group
    rwa [State.zoneAsked_written s w group] at asks
  · obtain ⟨zone, rest⟩ := Prod.mk.inj (s.changeZone_seat n z)
    obtain ⟨pend', carrier⟩ := Prod.mk.inj rest
    refine ⟨_, exec_zoneChangeEffect_changes pend silent boundary, zone, pend', carrier, s.changeZone_air n z,
      fun m ne => Rod.seat_inj (s.changeZone_others n z ne), ?_, (s.changeZone_frame n z).frame⟩
    rintro k m x rfl on ne member air onAir
    exact s.changeZone_listens n on ne member ⟨x, air, onAir⟩
  · refine exec_zoneGrant_waits (h.imp id fun idle => List.eq_nil_iff_forall_not_mem.mpr ?_)
    rintro ⟨k, q⟩ mem
    obtain ⟨n, -, zone, req⟩ := State.mem_zoneReqs.mp mem
    exact idle n ⟨zone, by simp [req]⟩
  · have asks : ∀ m : Fin 24, (s.rod m).zone = some z.val ∧ (s.rod m).req ≠ none →
        ∃ q, (s.rod m).req = some q ∧ (m.val, q) ∈ s.zoneReqs z.val := fun m ⟨zone, req⟩ => by
      obtain ⟨q, hq⟩ := Option.ne_none_iff_exists'.mp req
      exact ⟨q, hq, State.mem_zoneReqs.mpr ⟨m, rfl, zone, hq⟩⟩
    obtain ⟨m, wants⟩ := wants
    obtain ⟨_, -, mem⟩ := asks m wants
    obtain ⟨n, run, ⟨q, win⟩, first⟩ := exec_zoneGrant_grants free mem
    obtain ⟨n', same, zone, req⟩ := State.mem_zoneReqs.mp (State.winners_subset win)
    obtain rfl : n' = n := Fin.ext same
    refine ⟨_, n', run, ⟨zone, by simp [req]⟩, ?_, s.grant_lastGrant z n', s.grant_req z n', fun y ne => ?_, fun m other => ?_,
      s.grant_frame z n', fun one m wants => ?_, fun never ⟨m, p, member, req', host⟩ => ?_⟩
    · rw [s.grant_speaker z n', if_pos rfl]
    · rw [s.grant_speaker z n', if_neg ne]
    · exact s.grant_others z n' other fun e => other (e ▸ zone)
    · have alike : ∀ p ∈ s.zoneReqs z.val, p.2.host = q.host := by
        rintro ⟨k, p⟩ mem
        obtain ⟨m, rfl, member, req'⟩ := State.mem_zoneReqs.mp mem
        exact one m p q ⟨member, by simp [req']⟩ req' req
      obtain ⟨p, -, mem⟩ := asks m wants
      exact first (m.val, p) (State.winners_all alike ▸ mem)
    · exact ⟨q, req, State.winners_host never (State.mem_zoneReqs.mpr ⟨m, rfl, member, req'⟩) host win⟩
end

section
/-! PROOFS. Why the statement of the temperature fails: it speaks of every state, and in one where a self-test run has taken CORE as
its target, the shutdown that ends the run resets CORE, and field sharing with it. -/

namespace Sys2Proof.Machine
open Sys2Proof

/-- CORE is ON, and a self-test run whose only target is CORE has taken it. A run that is started never names CORE (R618). -/
def coreUnderTest : State := { State.reset with
  pwr := { PwrPart.reset with st := vset PwrPart.reset.st Domain.core.num .on },
  test := { TestPart.reset with bist := some ⟨none, 2 ^ Domain.core.num.val, 0, false, [], [], [], []⟩ } }

/-- A reading of 135.00 °C enters shutdown, which ends the run; CORE comes ON as from OFF, with the shutdown lost (R208, R580, R623). -/
theorem coreUnderTest_hot : ∃ t, exec (.tempSample 540 0 0 0) coreUnderTest = .next t ∧ t.field.shutdown = false :=
  ⟨_, rfl, by decide +kernel⟩

end Sys2Proof.Machine

open Sys2Proof Sys2Proof.Machine

/-- Refutes O30: in `coreUnderTest` no shutdown is in force after a reading of 135.00 °C. The shutdown cuts the self-test run in
progress, and the target of that run, CORE, comes back with its state at reset. The statement lacks the hypothesis that a run in
progress names only the domains that `bistAllowed` admits. -/
theorem not_theFieldBudgetAndTemperatureGateTheCarriers : ¬ Obligations.TheFieldBudgetAndTemperatureGateTheCarriers := by
  unfold Obligations.TheFieldBudgetAndTemperatureGateTheCarriers
  intro h
  obtain ⟨-, -, -, sample, -⟩ := h coreUnderTest
  obtain ⟨t, run, -, shutdown, -⟩ := sample 540 0 0 0 (by decide)
  obtain ⟨u, run', off⟩ := coreUnderTest_hot
  obtain rfl : u = t := Host.Outcome.next.inj (run'.symm.trans run)
  have on : u.field.shutdown = true := shutdown.mpr (.inr ⟨540, by decide, by decide⟩)
  exact absurd (off.symm.trans on) (by decide)
end

section
/-! PROOFS. Why the statement of the timers fails: it logs the answer to a read of a count in every state, and in one whose TAP has
taken the balls for boundary scan the answer does not leave. -/

namespace Sys2Proof.Machine
open Sys2Proof

/-- While the TAP has taken the balls a read of TMR_CNT_LO latches the high half, and its answer does not leave (R557, R629). -/
theorem exec_tmrCntLoRead_taken {s : State} (n : Fin 16) (on : s.isOn .core = true) (taken : s.test.takesBalls = true) :
    exec (.tmrCntLoRead n) s = .next (s.readCntLo n).1 := by
  have taken' : (s.readCntLo n).1.test.takesBalls = true := taken
  change execTmrCntLoRead n s = _
  unfold execTmrCntLoRead State.coreRead State.emitOut
  rw [if_pos on, taken']
  rfl

/-- CORE is ON, and the instruction of the TAP is EXTEST. -/
def coreUnderExtest : State := { coreOnly with test := { TestPart.reset with tap := 0 } }

end Sys2Proof.Machine

open Sys2Proof Sys2Proof.Machine

/-- Refutes O51: in `coreUnderExtest` the answer to a read of TMR_CNT_LO would leave through balls that EXTEST has taken (R629), and
the log stays empty. The statement puts the answer on `s.out` where it should speak of `s.logged`. -/
theorem not_timersTickCaptureAndLoad : ¬ Obligations.TimersTickCaptureAndLoad := by
  unfold Obligations.TimersTickCaptureAndLoad
  intro h
  have on : coreUnderExtest.isOn .core = true := by decide
  obtain ⟨-, -, -, -, reads⟩ := h coreUnderExtest 0 0
  obtain ⟨⟨t, run, answered, -⟩, -⟩ := reads on
  rw [exec_tmrCntLoRead_taken 0 on (by decide)] at run
  obtain rfl := Host.Outcome.next.inj run
  exact absurd answered (List.cons_ne_self _ _).symm
end

section
/-! PROOFS. O24: the register fields that records, events, captures and late transactions write besides what they are for, and what
a frame of the plan in front of a rod leaves. -/

namespace Sys2Proof.Machine
open Sys2Proof

variable {s t u : State} {n : Fin 24}

/-! ### Fields written on the side -/

/-- The fields that captures, events, records and late transactions write besides what they are for. -/
def sideFields : List Fld := [F.HOST_EQ_STAT_LOST, F.FIFO_STAT_OVERRUN, F.FIFO_CNT_DROP_COUNT, F.TMR_STAT_MATCH, F.TMR_STAT_OVF,
  F.TMR_STAT_CAPT, F.TMR_STAT_CAPT_PEND, F.TMR_STAT_CAPT_LOST, F.FLD_CNT_BUDGET_COUNT, F.ROD_PREP_DISCARD_COUNT]

/-- Instance `i` of field `f` is none of them. -/
def Aside (f : Fld) (i : Nat) : Prop := ∀ g ∈ sideFields, ∀ k < 25, g.key k ≠ f.key i

/-- The fields of a rod's plan and of its speculation counters stand before the one of them that late frames write. -/
theorem rodField_aside {f : Fld} (stride : f.stride = 0x100) (addr : 0x60C0 ≤ f.addr ∧ f.addr < 0x60EC) (lo : f.lo < 32) (n : Fin 24) :
    Aside f n.val := by
  intro g mem k small
  simp only [Fld.key, fldKey, stride]
  fin_cases mem <;> dsimp only <;> omega

theorem planStatStep_aside (n : Fin 24) : Aside F.ROD_PLAN_STAT_STEP n.val := rodField_aside rfl (by decide) (by decide) n

/-- From `s` to `t` every other field keeps its value. -/
def Quiet (s t : State) : Prop := ∀ (f : Fld) (i : Nat), Aside f i → t.rd f i = s.rd f i

theorem Quiet.of_regs (h : t.regs = s.regs) : Quiet s t := fun f i _ => State.rd_congr h f i

theorem Quiet.refl (s : State) : Quiet s s := .of_regs rfl

theorem Quiet.trans (h : Quiet s t) (g : Quiet t u) : Quiet s u := fun f i aside => (g f i aside).trans (h f i aside)

/-- What leaves the registers after such a step keeps it one. -/
theorem Quiet.then (h : Quiet s t) (e : u.regs = t.regs) : Quiet s u := h.trans (.of_regs e)

theorem Quiet.wr (h : Quiet s t) {g : Fld} (mem : g ∈ sideFields) {k : Nat} (small : k < 25) (v : Nat) : Quiet s (t.wr g k v) :=
  fun f i aside => (t.rd_wr_ne (aside g mem k small) v).trans (h f i aside)

theorem Quiet.raise (h : Quiet s t) (c : EventCode) (k : Nat) (d : List Byte) : Quiet s (t.raise c k d) := fun f i aside =>
  (t.raise_rd c k d f i (aside F.HOST_EQ_STAT_LOST (by simp [sideFields]) 0 (by decide)).symm).trans (h f i aside)

theorem Quiet.ite {c : Prop} [Decidable c] (h : Quiet s t) (g : Quiet s u) : Quiet s (if c then t else u) := by
  split
  exacts [h, g]

theorem Quiet.eachOf {α : Type} {f : α → State → State} (h : ∀ a x, Quiet x (f a x)) (l : List α) (s : State) :
    Quiet s (forAll l f s) :=
  forAll_inv (Quiet s) (fun a x hx => hx.trans (h a x)) l s (.refl s)

theorem Quiet.ofSome {α : Type} {f : α → State → State} (h : ∀ a x, Quiet x (f a x)) (o : Option α) (s : State) :
    Quiet s (onSome o f s) := by
  cases o with
  | none => exact .refl s
  | some a => exact h a s

/-! ### Records (R469, R473, R474, R480) -/

theorem Quiet.modFifo (h : Quiet s t) (f : Fin 25) (g : Fifo → Fifo) : Quiet s (t.modFifo f g) := h.then rfl

theorem Quiet.countDrop (h : Quiet s t) (f : Fin 25) (k : Nat) : Quiet s (t.count F.FIFO_CNT_DROP_COUNT f.val k) :=
  h.wr (by simp [sideFields]) f.isLt _

theorem Quiet.setOverrun (h : Quiet s t) (f : Fin 25) : Quiet s (t.setF F.FIFO_STAT_OVERRUN f.val) :=
  h.wr (by simp [sideFields]) f.isLt 1

theorem Quiet.fifoOverrun (h : Quiet s t) (f : Fin 25) (k : Nat) : Quiet s (t.fifoOverrun f k) :=
  ((h.setOverrun f).modFifo f _).raise _ _ _

theorem State.writeGroup_quiet (s : State) (f : Fin 25) (ps : List Packet) (o : Option Nat) : Quiet s (s.writeGroup f ps o) := by
  have mark : ∀ (g : Txn → Txn) (o : Option Nat) (x : State), Quiet x (onSome o (fun id s => s.modTxn id g) x) :=
    fun g => Quiet.ofSome fun _ _ => .of_regs rfl
  unfold State.writeGroup
  split
  · have marks : ∀ x : State, x.regs = s.regs → Quiet s (forAll ps (fun p s =>
        onSome p.txn (fun id s => s.modTxn id (fun t => { t with hasRec := true })) s) x) := fun x same =>
      (Quiet.of_regs same).trans (Quiet.eachOf (fun p x => mark _ p.txn x) ps x)
    unfold State.publish
    dsimp only
    refine Quiet.ite (marks _ ?_) (((marks _ ?_).countDrop f _).fifoOverrun f _)
    all_goals rfl
  · unfold State.discardGroup
    dsimp only
    refine Quiet.trans (Quiet.countDrop (Quiet.modFifo ?_ f _) f _) (mark _ o _)
    exact Quiet.ite (.refl s) ((Quiet.refl s).fifoOverrun f _)

theorem State.startWaiting_quiet (f : Fin 25) (fuel : Nat) (s : State) : Quiet s (State.startWaiting f fuel s) := by
  induction fuel generalizing s with
  | zero => exact .refl s
  | succ fuel ih =>
    unfold State.startWaiting
    split
    · exact .refl s
    · have swapped := fun g => (Quiet.refl s).modFifo f g
      exact Quiet.ite ((((swapped _).modFifo f _).trans (State.writeGroup_quiet _ f _ _)).trans (ih _)) (swapped _)

theorem State.flushProducer_quiet (s : State) (f : Fin 25) : Quiet s (s.flushProducer f) := by
  have lost : ∀ g, Quiet s (s.lostSoFar f g).1 := fun g => by
    unfold State.lostSoFar
    dsimp only
    split
    exacts [.refl s, .of_regs rfl]
  unfold State.flushProducer
  refine Quiet.trans (Quiet.modFifo ?_ f _) (State.startWaiting_quiet f _ _)
  split
  · exact Quiet.ite (lost _) ((((lost _).countDrop f _).setOverrun f).modFifo f _)
  · exact .refl s

theorem State.emit_quiet (s : State) (f : Fin 25) (rs : List RecordData) (o : Option Nat) : Quiet s (s.emit f rs o) := by
  have swapped := fun g => (Quiet.refl s).modFifo f g
  unfold State.emit
  exact Quiet.ite ((swapped _).trans (State.writeGroup_quiet _ f _ o)) ((swapped _).modFifo f _)

/-! ### Captures and starts (R111, R203, R556, R560) -/

theorem State.raiseFlags_quiet (s : State) (k : Fin 16) (m o c : Bool) : Quiet s (s.raiseFlags k m o c) := by
  have small : k.val < 25 := by omega
  have flag : ∀ (b : Bool) (x : State) {g : Fld}, g ∈ sideFields → Quiet x (when b (fun (s : State) => s.setF g k.val) x) :=
    fun b x g mem => by
      cases b
      exacts [.refl x, (Quiet.refl x).wr mem small 1]
  have flags := ((flag c s (g := F.TMR_STAT_CAPT) (by simp [sideFields])).trans
    (flag o _ (g := F.TMR_STAT_OVF) (by simp [sideFields]))).trans (flag m _ (g := F.TMR_STAT_MATCH) (by simp [sideFields]))
  unfold State.raiseFlags
  exact Quiet.ite flags (flags.raise _ _ _)

theorem State.capture_quiet (s : State) (k : Fin 16) : Quiet s (s.capture k) := by
  have small : k.val < 25 := by omega
  have timer : ∀ f : Timer → Timer, Quiet s (s.modTimer k f) := fun f => .of_regs rfl
  have lost : Quiet s (s.setF F.TMR_STAT_CAPT_LOST k.val) := (Quiet.refl s).wr (by simp [sideFields]) small 1
  have pend : ∀ f : Timer → Timer, Quiet s ((s.modTimer k f).setF F.TMR_STAT_CAPT_PEND k.val) := fun f =>
    (timer f).wr (by simp [sideFields]) small 1
  unfold State.capture
  exact Quiet.trans (Quiet.ite (Quiet.ite lost (pend _)) (timer _)) (State.raiseFlags_quiet _ k _ _ _)

theorem State.fieldEdge_quiet (s : State) (n : Fin 24) (was now : Carrier) : Quiet s (s.fieldEdge n was now) := by
  unfold State.fieldEdge State.signalEdge
  exact Quiet.ite (.refl s) (Quiet.ite (Quiet.eachOf (fun k x => Quiet.ite (x.capture_quiet k) (.refl x)) _ s) (.refl s))

theorem State.dropRequest_regs (s : State) (n : Fin 24) : (s.dropRequest n).regs = s.regs := by
  unfold State.dropRequest
  dsimp only
  repeat' split
  all_goals rfl

theorem State.makeStart_quiet (s : State) (n : Fin 24) (b : Nat) : Quiet s (s.makeStart n b) := by
  have ramped : ∀ w : State, w.regs = s.regs → Quiet s (w.fieldEdge n (s.rod n).carrier .rampUp) := fun w same =>
    (Quiet.of_regs same).trans (w.fieldEdge_quiet n _ _)
  unfold State.makeStart
  split
  · exact .of_regs rfl
  · refine ramped _ ?_
    rfl

theorem State.askStart_quiet (s : State) (n : Fin 24) (b : Nat) (o : Option Nat) : Quiet s (s.askStart n b o) := by
  unfold State.askStart
  exact Quiet.ite (.refl s) (Quiet.ite (s.makeStart_quiet n b) (.of_regs (State.dropRequest_regs _ n)))

theorem State.raiseReq_regs (s : State) (n : Fin 24) : (s.raiseReq n).regs = s.regs := by
  unfold State.raiseReq
  dsimp only
  split <;> rfl

theorem State.releaseGrant_regs (s : State) (n : Fin 24) : (s.releaseGrant n).regs = s.regs := by
  unfold State.releaseGrant
  dsimp only
  repeat' split
  all_goals rfl

/-! ### A transaction that ends late behind a frame of the plan (R165, R204) -/

/-- What stands in front of rod `n`, if anything does, is the plan's. -/
def State.PlanFront (s : State) (n : Fin 24) : Prop := ∀ x, (s.rod n).air = some x → x.txn = none

theorem CarrierStep.planFront (h : CarrierStep n s t) (front : s.PlanFront n) : t.PlanFront n := fun x air =>
  front x (h.air.symm.trans air)

theorem State.releaseGrant_plan (step : CarrierStep n s t) (regs : t.regs = s.regs) :
    CarrierStep n s (t.releaseGrant n) ∧ (t.releaseGrant n).regs = s.regs :=
  ⟨step.trans (t.releaseGrant_step n), (t.releaseGrant_regs n).trans regs⟩

theorem State.leaveRod_plan (front : s.PlanFront n) (v : Txn) :
    CarrierStep n s (s.leaveRod n v) ∧ (s.leaveRod n v).regs = s.regs := by
  have flagged : ∀ w : State, w = (if v.op = 2 || v.op = 4 then s.modRod n (fun r => { r with rampAfter := false }) else s) →
      CarrierStep n s w ∧ w.regs = s.regs := fun w e => by
    rw [e]
    split
    exacts [⟨.modRod _ fun _ => ⟨rfl, rfl, rfl⟩, rfl⟩, ⟨.of_rods rfl, rfl⟩]
  obtain ⟨step, regs⟩ := flagged _ rfl
  unfold State.leaveRod
  dsimp only
  split
  next x air =>
    have other : x.txn ≠ some v.id := by
      rw [step.planFront front x air]
      exact Option.some_ne_none _ |>.symm
    rw [if_neg other]
    exact State.releaseGrant_plan step regs
  next => exact State.releaseGrant_plan step regs

theorem State.endRodTxn_plan (front : s.PlanFront n) (id : Nat) (st : Status) :
    CarrierStep n s (s.endRodTxn n id st) ∧ (s.endRodTxn n id st).regs = s.regs := by
  have leaves : ∀ o : Option Txn, CarrierStep n s (onSome o (fun (t : Txn) (s : State) => s.leaveRod n t) (s.dequeueOf n.val (some id))) ∧
      (onSome o (fun (t : Txn) (s : State) => s.leaveRod n t) (s.dequeueOf n.val (some id))).regs = s.regs := fun o => by
    have out : CarrierStep n s (s.dequeueOf n.val (some id)) := .of_rods rfl
    cases o with
    | none => exact ⟨out, rfl⟩
    | some w =>
      obtain ⟨step, regs⟩ := State.leaveRod_plan (s := s.dequeueOf n.val (some id)) (n := n) front w
      exact ⟨out.trans step, regs⟩
  obtain ⟨step, regs⟩ := leaves ((s.rodBusy? n).filter (fun t => t.id == id))
  unfold State.endRodTxn
  dsimp only
  rw [State.finish_frame]
  exact ⟨step.then rfl, regs⟩

theorem State.endLate_plan (front : s.PlanFront n) (v : Txn) : CarrierStep n s (s.endLate n v) ∧ Quiet s (s.endLate n v) := by
  unfold State.endLate
  split
  · obtain ⟨step, regs⟩ := State.endRodTxn_plan front v.id .fieldBudget
    exact ⟨step.then rfl, (Quiet.of_regs regs).wr (by simp [sideFields]) (k := 0) (by decide) _⟩
  · obtain ⟨step, regs⟩ := State.endRodTxn_plan front v.id .late
    exact ⟨step, .of_regs regs⟩

theorem State.kick_plan (front : s.PlanFront n) : CarrierStep n s (s.kick n) ∧ Quiet s (s.kick n) := by
  unfold State.kick
  split
  · split
    · exact State.endLate_plan front _
    · exact ⟨s.askStart_step n _ _, s.askStart_quiet n _ _⟩
  · exact ⟨.of_rods rfl, .refl s⟩

/-! ### A frame of the plan in front of its rod (R264, R667) -/

/-- From `s` to `t` the other rods, rod `n`'s plan and its held records are as they were, and so are the fields that nothing writes on
the side. -/
structure FrontStep (n : Fin 24) (s t : State) : Prop where
  others : ∀ m, m ≠ n → t.rod m = s.rod m
  plan : t.plan? n = s.plan? n
  held : (t.rod n).held = (s.rod n).held
  quiet : Quiet s t

theorem FrontStep.trans (h : FrontStep n s t) (g : FrontStep n t u) : FrontStep n s u :=
  ⟨fun m ne => (g.others m ne).trans (h.others m ne), g.plan.trans h.plan, g.held.trans h.held, h.quiet.trans g.quiet⟩

theorem CarrierStep.front (h : CarrierStep n s t) (quiet : Quiet s t) : FrontStep n s t := ⟨h.others, h.plan, h.held, quiet⟩

theorem FrontStep.of_rods (rods : t.rods = s.rods) (quiet : Quiet s t) : FrontStep n s t := (CarrierStep.of_rods rods).front quiet

theorem FrontStep.modAir (s : State) (n : Fin 24) (a : Option Exchange) : FrontStep n s (s.modRod n (fun r => { r with air := a })) := by
  have self := s.rod_modRod_self n (fun r => { r with air := a })
  exact ⟨fun m ne => s.rod_modRod_ne ne.symm _, (congrArg Rod.plan self).trans rfl, (congrArg Rod.held self).trans rfl, .of_regs rfl⟩

theorem State.putFrame_front {x : Exchange} (txn : x.txn = none) (s : State) (n : Fin 24) :
    FrontStep n s (s.putFrame n x) ∧ ((s.putFrame n x).rod n).air = some x := by
  have air : ((s.modRod n (fun r => { r with air := some x })).rod n).air = some x := congrArg Rod.air (s.rod_modRod_self n _)
  have front : (s.modRod n (fun r => { r with air := some x })).PlanFront n := fun y same => by
    obtain rfl : x = y := Option.some.inj (air.symm.trans same)
    exact txn
  obtain ⟨kicks, quiet⟩ := State.kick_plan front
  have asks := State.raiseReq_step ((s.modRod n (fun r => { r with air := some x })).kick n) n
  exact ⟨((FrontStep.modAir s n _).trans (kicks.front quiet)).trans (asks.front (.of_regs (State.raiseReq_regs _ n))),
    asks.air.trans (kicks.air.trans air)⟩

theorem State.putPlan_front {x : Exchange} (txn : x.txn = none) (s : State) (n : Fin 24) : FrontStep n s (s.putPlan n x) := by
  unfold State.putPlan
  split
  · obtain ⟨step, -⟩ := State.putFrame_front txn s n
    exact step
  · cases x.prepared
    · exact .of_rods rfl (.refl s)
    · exact .of_rods rfl ((Quiet.refl s).wr (by simp [sideFields]) (by omega) _)

/-- Outside a round boundary it stands there. -/
theorem State.putPlan_air {x : Exchange} (txn : x.txn = none) (round : s.round.step = 0) (n : Fin 24) :
    ((s.putPlan n x).rod n).air = some x := by
  obtain ⟨-, air⟩ := State.putFrame_front txn s n
  unfold State.putPlan
  rw [if_pos round]
  exact air

end Sys2Proof.Machine
end

section
/-! PROOFS. O24: the cycles of an INVENTORY step. -/

namespace Sys2Proof.Machine
open Sys2Proof

variable {s t u : State} {n : Fin 24} {p q : Plan} {i : InvRun}

theorem State.inv?_of_plan (plan : s.plan? n = some p) : s.inv? n = p.inv := by rw [State.inv?, plan]; rfl

theorem State.unitMay_may (plan : s.plan? n = some p) (may : s.unitMay n = true) : UnitMay s n p := by
  unfold State.unitMay at may
  rw [plan] at may
  simp only [Bool.and_eq_true, bne_iff_ne, beq_iff_eq, Option.isNone_iff_eq_none] at may
  obtain ⟨⟨⟨⟨⟨⟨⟨⟨-, stop⟩, doom⟩, busy⟩, -⟩, air⟩, round⟩, -⟩, -⟩ := may
  exact ⟨stop, doom, busy, air, round⟩

/-- Within an INVENTORY step no step is skipped. -/
theorem State.skipSteps_inventory (plan : s.plan? n = some p) (stage : p.stage = .inventory) (fuel : Nat) :
    State.skipSteps n fuel s = s := by
  cases fuel with
  | zero => rfl
  | succ fuel =>
    unfold State.skipSteps
    rw [plan]
    dsimp only
    rw [stage]
    rfl

theorem exec_inventoryCycle (plan : s.plan? n = some p) (stage : p.stage = .inventory) (inv : p.inv = some i)
    (may : s.unitMay n = true) (halted : s.flag F.DBG_STAT_HALTED = false) (breaks : s.flag F.DBG_BP_EN = false) :
    exec (.inventoryCycle n) s = .next (s.startCycle n i) := by
  have free : s.atBreakpoint n = false := by
    unfold State.atBreakpoint
    rw [plan, breaks]
    rfl
  change execInventoryCycle n s = _
  unfold execInventoryCycle State.tryUnit
  rw [if_pos may, State.skipSteps_inventory plan stage]
  dsimp only
  rw [plan]
  dsimp only
  rw [if_pos (by rw [stage]; rfl), halted, free, State.inv?_of_plan plan, inv]
  rfl

/-- The invocation as a cycle of its INVENTORY step begins. -/
def Plan.cycleBegun (p : Plan) (i : InvRun) : Plan :=
  { (if i.cycles = 0 then { p with steps := p.steps + 1, lastStep := i.step, invAny := some false } else p) with
    credit := false, wantCarrier := false, inv := some { i.nextCycle with cycles := i.cycles + 1 } }

/-- A cycle begins, and its first frame is put in front of the rod. -/
theorem State.beginCycle_puts (plan : s.plan? n = some p) (i : InvRun) : ∃ t,
    s.beginCycle n i = t.putPlan n (firstFrame i.nextCycle) ∧ PlanStep s t n [F.ROD_PLAN_STAT_STEP.key n.val] (p.cycleBegun i) := by
  have noted : PlanStep s (if i.cycles = 0 then (s.noteStep n i.step).modPlan n (fun p => { p with invAny := some false })
      else s.wr F.ROD_PLAN_STAT_STEP n.val i.step) n [F.ROD_PLAN_STAT_STEP.key n.val]
      (if i.cycles = 0 then { p with steps := p.steps + 1, lastStep := i.step, invAny := some false } else p) := by
    split
    · exact (((PlanStep.start plan).modPlan (fun q => { q with steps := q.steps + 1, lastStep := i.step })).wr
        F.ROD_PLAN_STAT_STEP n.val i.step).modPlan (fun q => { q with invAny := some false })
    · exact (PlanStep.start plan).wr F.ROD_PLAN_STAT_STEP n.val i.step
  exact ⟨_, rfl, (noted.modPlan (fun q => { q with credit := false })).modPlan
    (fun q => { q with wantCarrier := false, inv := some { i.nextCycle with cycles := i.cycles + 1 } })⟩

theorem firstFrame_plan (i : InvRun) : (firstFrame i).txn = none := by
  unfold firstFrame
  dsimp only
  repeat' split
  all_goals rfl

/-- Its first frame stands in front of the rod. -/
structure CycleFront (s t : State) (n : Fin 24) (i : InvRun) : Prop where
  air : (t.rod n).air = some (firstFrame i.nextCycle)
  inv : t.inv? n = some { i.nextCycle with cycles := i.cycles + 1 }
  others : ∀ m, m ≠ n → t.rod m = s.rod m

theorem exec_inventoryCycle_begins (plan : s.plan? n = some p) (stage : p.stage = .inventory) (inv : p.inv = some i)
    (may : s.unitMay n = true) (halted : s.flag F.DBG_STAT_HALTED = false) (breaks : s.flag F.DBG_BP_EN = false)
    (room : (s.rod n).held.length < 4) (credit : s.planCredit n = true) (serves : CarrierServes s n p) :
    ∃ t, exec (.inventoryCycle n) s = .next t ∧ CycleFront s t n i := by
  obtain ⟨on, power, none'⟩ := serves
  have free := State.unitMay_may plan may
  have settles := s.settingsInForce_step n
  obtain ⟨t, puts, step⟩ := State.beginCycle_puts (settles.plan.trans plan) i
  have front := State.putPlan_front (firstFrame_plan i.nextCycle) t n
  have round : t.round.step = 0 := by
    rw [step.same, s.settingsInForce_frame]
    exact free.round
  refine ⟨t.putPlan n (firstFrame i.nextCycle), ?_, State.putPlan_air (firstFrame_plan _) round n, ?_, fun m ne => ?_⟩
  · rw [exec_inventoryCycle plan stage inv may halted breaks,
      State.startCycle_begins room credit free.busy plan on power none', puts]
  · rw [State.inv?_of_plan (front.plan.trans step.plan)]
    rfl
  · exact (front.others m ne).trans ((step.others m ne).trans (settles.others m ne))

theorem InvRun.nextCycle_pops {e : MaskEntry} {rest : List MaskEntry} (top : i.stack = e :: rest) :
    i.nextCycle.stack = rest ∧ i.nextCycle.cur = e := by
  unfold InvRun.nextCycle
  rw [top]
  exact ⟨rfl, rfl⟩

/-- The first frame of a cycle under ISO/IEC 15693 is the Inventory request of the mask on top of the stack (R224). -/
theorem firstFrame_15693 (proto : i.prof.proto = 0) {e : MaskEntry} {rest : List MaskEntry} (top : i.stack = e :: rest) :
    firstFrame i.nextCycle = inventory15 i.prof i.bytes e := by
  have proto' : i.nextCycle.prof.proto = 0 := proto
  unfold firstFrame
  dsimp only
  rw [if_pos proto', (InvRun.nextCycle_pops top).2]
  rfl

end Sys2Proof.Machine
end

section
/-! PROOFS. O24: the frames of the per-tag steps. -/

namespace Sys2Proof.Machine
open Sys2Proof

variable {s t u : State} {n : Fin 24} {p : Plan} {i : InvRun} {g : TagRun} {b uid data : List Byte} {prof : Profile} {op pos att blk : Nat}

/-! ### Frames (R232, R234) -/

/-- Whatever the step, its frame waits in front of the rod for the plan, with a CRC each way. -/
theorem tagFrame_plain (prof : Profile) (b uid data : List Byte) (pos att blk : Nat) :
    (tagFrame prof b uid data pos att blk).phase = .ready ∧ (tagFrame prof b uid data pos att blk).txn = none ∧
      (tagFrame prof b uid data pos att blk).purpose = .perTag pos att blk ∧
      (tagFrame prof b uid data pos att blk).txCrc = true ∧ (tagFrame prof b uid data pos att blk).rxCrc = true := by
  unfold tagFrame
  dsimp only
  repeat' split
  all_goals exact ⟨rfl, rfl, rfl, rfl, rfl⟩

theorem tagFrame_select (proto : prof.proto = 0) (op : stepOp b = 2) : (tagFrame prof b uid data pos att blk).bytes =
    leBytes 1 (flags15 prof + 0x20) ++ [0x25#8] ++ uid := by
  unfold tagFrame
  dsimp only
  rw [op, if_pos rfl, if_pos proto]
  rfl

section
variable (addressed : (byteAt b 5).testBit 1 = false)
include addressed

theorem tagFrame_readBlocks (proto : prof.proto = 0) (op : stepOp b = 3) : (tagFrame prof b uid data pos att blk).bytes =
    leBytes 1 (flags15 prof + 0x20 + (if (byteAt b 5).testBit 0 then 0x40 else 0)) ++ [0x23#8] ++ uid ++
      leBytes 1 (byteAt b 2) ++ leBytes 1 (byteAt b 4) := by
  unfold tagFrame bit
  dsimp only
  rw [op, addressed, if_neg (by decide), if_pos rfl, if_pos proto]
  rfl

theorem tagFrame_readBlocksExt (op : stepOp b = 4) : (tagFrame prof b uid data pos att blk).bytes =
    leBytes 1 (flags15 prof + 0x20 + (if (byteAt b 5).testBit 0 then 0x40 else 0)) ++ [0x33#8] ++ uid ++
      leBytes 2 (stepField b 2 2) ++ leBytes 2 (byteAt b 4) := by
  unfold tagFrame bit
  dsimp only
  rw [op, addressed, if_neg (by decide), if_neg (by decide), if_pos rfl]
  rfl

theorem tagFrame_getInfo (op : stepOp b = 5) : (tagFrame prof b uid data pos att blk).bytes =
    leBytes 1 (flags15 prof + 0x20 + (if (byteAt b 5).testBit 0 then 0x40 else 0)) ++ [0x2B#8] ++ uid := by
  unfold tagFrame bit
  dsimp only
  rw [op, addressed, if_neg (by decide), if_neg (by decide), if_neg (by decide), if_pos rfl]
  rfl

theorem tagFrame_writeBlocks (proto : prof.proto = 0) (op : stepOp b = 9) : (tagFrame prof b uid data pos att blk).bytes =
    leBytes 1 (flags15 prof + 0x20) ++ [0x21#8] ++ uid ++ leBytes 1 (byteAt b 2 + blk) ++ data := by
  unfold tagFrame bit
  dsimp only
  rw [op, addressed, if_neg (by decide), if_neg (by decide), if_neg (by decide), if_neg (by decide), if_pos rfl, if_pos proto]
  rfl

theorem tagFrame_lockBlock (op : stepOp b = 10) : (tagFrame prof b uid data pos att blk).bytes =
    leBytes 1 (flags15 prof + 0x20) ++ [0x22#8] ++ uid ++ leBytes 1 (byteAt b 2 + blk) := by
  unfold tagFrame bit
  dsimp only
  rw [op, addressed, if_neg (by decide), if_neg (by decide), if_neg (by decide), if_neg (by decide), if_neg (by decide)]
  rfl

end

/-! ### A step that comes next (R230, R232) -/

/-- The invocation, the step in progress and the tag of a per-tag step that comes next. -/
structure TagDue (s : State) (n : Fin 24) (p : Plan) (i : InvRun) (g : TagRun) : Prop where
  plan : s.plan? n = some p
  inv : s.inv? n = some i
  tag : s.tag? n = some g
  round : s.round.step = 0

theorem State.tagReady?_due (ready : s.tagReady? n = some (p, i, g, b)) : TagDue s n p i g := by
  unfold State.tagReady? at ready
  split at ready
  next p' i' g' plan inv tag =>
    split at ready
    next free =>
      obtain ⟨rfl, rfl, rfl, -⟩ : p' = p ∧ i' = i ∧ g' = g ∧ _ := by simpa using ready
      simp only [Bool.and_eq_true, beq_iff_eq] at free
      obtain ⟨⟨-, round⟩, -⟩ := free
      exact ⟨plan, inv, tag, round⟩
    next => exact absurd ready (by simp)
  next => exact absurd ready (by simp)

theorem State.tagDo_other (ready : s.tagReady? n = some (p, i, g, b)) (other : stepOp b ≠ op) : s.tagDo n op = s := by
  unfold State.tagDo
  rw [ready]
  exact if_neg other

/-- The frame of the step is put in front of the rod. -/
theorem State.tagDo_puts (ready : s.tagReady? n = some (p, i, g, b)) (kind : stepOp b = op)
    (framed : ¬(op = 2 ∧ (p.snap.prof (stepProfile b (i.profNo p))).proto = 1))
    (credit : op = 9 ∨ op = 10 → s.planCredit n = true) : s.tagDo n op =
      ((s.noteStep n (i.tagFirst + g.pos)).modTag n (fun t => { t with prep := false })).putPlan n
        { tagFrame (p.snap.prof (stepProfile b (i.profNo p))) b g.uid (if op = 9 then s.writeData p b 0 else []) g.pos 0 0 with
          prepared := g.prep } := by
  have sends : ((decide (op = 9) || decide (op = 10)) && !s.planCredit n) = false := by
    by_cases writes : op = 9 ∨ op = 10
    · rw [credit writes, Bool.not_true, Bool.and_false]
    · obtain ⟨nine, ten⟩ := not_or.mp writes
      rw [decide_eq_false nine, decide_eq_false ten]
      rfl
  unfold State.tagDo
  rw [ready]
  dsimp only
  rw [if_pos kind, if_neg (by simpa using framed), sends]
  rfl

/-- A write step without the credit of its record waits (R476). -/
theorem State.tagDo_noCredit (ready : s.tagReady? n = some (p, i, g, b)) (writes : op = 9 ∨ op = 10)
    (credit : s.planCredit n = false) : s.tagDo n op = s := by
  have waits : ((decide (op = 9) || decide (op = 10)) && !s.planCredit n) = true := by
    rw [credit]
    rcases writes with rfl | rfl <;> rfl
  have framed : ¬(op = 2 ∧ (p.snap.prof (stepProfile b (i.profNo p))).proto = 1) := by
    rintro ⟨rfl, -⟩
    rcases writes with two | two <;> exact absurd two (by decide)
  by_cases kind : stepOp b = op
  · unfold State.tagDo
    rw [ready]
    dsimp only
    rw [if_pos kind, if_neg (by simpa using framed), waits]
    rfl
  · exact State.tagDo_other ready kind

/-- The frame `x` of the step at list position `g.pos` stands in front of the rod, and the step is noted. -/
structure StepFront (s t : State) (n : Fin 24) (i : InvRun) (g : TagRun) (x : Exchange) : Prop where
  air : (t.rod n).air = some x
  step : t.rd F.ROD_PLAN_STAT_STEP n.val = (i.tagFirst + g.pos) % F.ROD_PLAN_STAT_STEP.size
  others : ∀ m, m ≠ n → t.rod m = s.rod m

theorem State.tagDo_front (ready : s.tagReady? n = some (p, i, g, b)) (kind : stepOp b = op)
    (framed : ¬(op = 2 ∧ (p.snap.prof (stepProfile b (i.profNo p))).proto = 1))
    (credit : op = 9 ∨ op = 10 → s.planCredit n = true) : StepFront s (s.tagDo n op) n i g
      { tagFrame (p.snap.prof (stepProfile b (i.profNo p))) b g.uid (if op = 9 then s.writeData p b 0 else []) g.pos 0 0 with
        prepared := g.prep } := by
  obtain ⟨plan, -, -, round⟩ := State.tagReady?_due ready
  obtain ⟨-, txn, -⟩ := tagFrame_plain (p.snap.prof (stepProfile b (i.profNo p))) b g.uid
    (if op = 9 then s.writeData p b 0 else []) g.pos 0 0
  have step := (((PlanStep.start plan).modPlan (fun q => { q with steps := q.steps + 1, lastStep := i.tagFirst + g.pos })).wr
    F.ROD_PLAN_STAT_STEP n.val (i.tagFirst + g.pos)).modPlan
      (fun q => { q with inv := q.inv.map (fun i => { i with tag := i.tag.map (fun t => { t with prep := false }) }) })
  have noted : ((s.noteStep n (i.tagFirst + g.pos)).modTag n (fun t => { t with prep := false })).rd F.ROD_PLAN_STAT_STEP n.val =
      (i.tagFirst + g.pos) % F.ROD_PLAN_STAT_STEP.size := State.rd_wr_self _ F.ROD_PLAN_STAT_STEP n.val _
  have round' : ((s.noteStep n (i.tagFirst + g.pos)).modTag n (fun t => { t with prep := false })).round.step = 0 := round
  have stands : ∀ x : Exchange, x.txn = none →
      StepFront s (((s.noteStep n (i.tagFirst + g.pos)).modTag n (fun t => { t with prep := false })).putPlan n x) n i g x :=
    fun x plans => by
      obtain ⟨others, -, -, quiet⟩ := State.putPlan_front plans
        ((s.noteStep n (i.tagFirst + g.pos)).modTag n (fun t => { t with prep := false })) n
      exact ⟨State.putPlan_air plans round' n, (quiet _ _ (planStatStep_aside n)).trans noted,
        fun m ne => (others m ne).trans (step.others m ne)⟩
  rw [State.tagDo_puts ready kind framed credit]
  exact stands _ txn

theorem State.writeData_first (s : State) (p : Plan) (b : List Byte) : s.writeData p b 0 =
    Memory.readBytes s.planMem (16384 * p.tile + 16 * (stepField b 6 2 % 1024)) (byteAt b 4) := by
  unfold State.writeData
  rw [Nat.zero_mul]
  rfl

end Sys2Proof.Machine
end

section
/-! PROOFS. O24: the end of a tag's list, and what follows it within the cycle. -/

namespace Sys2Proof.Machine
open Sys2Proof

variable {s t u : State} {n : Fin 24} {p : Plan} {i : InvRun} {g : TagRun}

/-! ### What follows a list leaves the held records (R214, R216, R224, R241) -/

/-- No failed tile is about to end the invocation of rod `n`, if one runs there. -/
def State.Undoomed (s : State) (n : Fin 24) : Prop := ∀ p, s.plan? n = some p → p.doom = none

theorem State.undoomed_of_plan (plan : s.plan? n = some p) (doom : p.doom = none) : s.Undoomed n := fun q plan' => by
  rw [← Option.some.inj (plan.symm.trans plan')]
  exact doom

/-- From `s` to `t` the other rods and rod `n`'s held records are as they were; no tile fails, and no list begins. -/
structure ListStep (n : Fin 24) (s t : State) : Prop where
  others : ∀ m, m ≠ n → t.rod m = s.rod m
  held : (t.rod n).held = (s.rod n).held
  undoomed : s.Undoomed n → t.Undoomed n
  tag : s.tag? n = none → t.tag? n = none

theorem ListStep.trans (h : ListStep n s t) (k : ListStep n t u) : ListStep n s u :=
  ⟨fun m ne => (k.others m ne).trans (h.others m ne), k.held.trans h.held, k.undoomed ∘ h.undoomed, k.tag ∘ h.tag⟩

theorem ListStep.ite {c : Prop} [Decidable c] (h : ListStep n s t) (k : ListStep n s u) : ListStep n s (if c then t else u) := by
  split
  exacts [h, k]

theorem State.tag?_eq (s : State) (n : Fin 24) : s.tag? n = (s.plan? n).bind (fun p => p.inv.bind (·.tag)) := by
  unfold State.tag? State.inv?
  exact Option.bind_assoc _ _ _

theorem State.tag?_congr (plan : t.plan? n = s.plan? n) : t.tag? n = s.tag? n := by rw [State.tag?_eq, plan, ← State.tag?_eq]

theorem FrontStep.list (h : FrontStep n s t) : ListStep n s t :=
  ⟨h.others, h.held, fun sound p plan => sound p (h.plan.symm.trans plan), fun none' => (State.tag?_congr h.plan).trans none'⟩

theorem CarrierStep.list (h : CarrierStep n s t) : ListStep n s t :=
  ⟨h.others, h.held, fun sound p plan => sound p (h.plan.symm.trans plan), fun none' => (State.tag?_congr h.plan).trans none'⟩

theorem ListStep.of_rods (h : t.rods = s.rods) : ListStep n s t := (CarrierStep.of_rods h).list

theorem ListStep.modPlan (s : State) {f : Plan → Plan} (doom : ∀ p, p.doom = none → (f p).doom = none)
    (tag : ∀ p, p.inv.bind (·.tag) = none → (f p).inv.bind (·.tag) = none) : ListStep n s (s.modPlan n f) := by
  have plan : (s.modPlan n f).plan? n = (s.plan? n).map f := congrArg Rod.plan (s.modPlan_rod n f)
  refine ⟨fun m ne => s.rod_modRod_ne ne.symm _, (congrArg Rod.held (s.modPlan_rod n f)).trans rfl, fun sound q plan' => ?_, fun none' => ?_⟩
  · rw [plan] at plan'
    obtain ⟨p, runs, rfl⟩ := Option.map_eq_some_iff.mp plan'
    exact doom p (sound p runs)
  · rw [State.tag?_eq] at none' ⊢
    rw [plan]
    cases runs : s.plan? n with
    | none => rfl
    | some p =>
      rw [runs] at none'
      exact tag p none'

theorem ListStep.modInv (s : State) {f : InvRun → InvRun} (tag : ∀ i, i.tag = none → (f i).tag = none) :
    ListStep n s (s.modInv n f) := by
  refine .modPlan s (fun _ doom => doom) fun p none' => ?_
  cases inv : p.inv with
  | none => rfl
  | some i =>
    rw [inv] at none'
    exact tag i none'

theorem ListStep.modTag (s : State) (f : TagRun → TagRun) : ListStep n s (s.modTag n f) :=
  .modInv s fun _ none' => congrArg (Option.map f) none'

theorem State.dropPrep_list (s : State) (n : Fin 24) : ListStep n s (s.dropPrep n) := by
  unfold State.dropPrep
  split
  · split
    · exact (ListStep.modTag s _).trans (.of_rods rfl)
    · exact .of_rods rfl
  · exact .of_rods rfl

theorem State.dropPlanFrame_list (s : State) (n : Fin 24) : ListStep n s (s.dropPlanFrame n) := by
  unfold State.dropPlanFrame
  split
  next x _ =>
    split
    · cases x.prepared
      exacts [(FrontStep.modAir s n none).list, (FrontStep.modAir s n none).list.trans (.of_rods rfl)]
    · exact .of_rods rfl
  next => exact .of_rods rfl

/-- An ended invocation of a rod that holds a record does not settle. -/
theorem State.settlePlan_holds (holds : (s.rod n).held ≠ []) : s.settlePlan n = s := by
  have full : (s.rod n).held.isEmpty = false := by simpa using holds
  unfold State.settlePlan
  repeat' split
  · rw [full] at *
    contradiction
  all_goals rfl

theorem State.endPlan_list (holds : (s.rod n).held ≠ []) : ListStep n s (s.endPlan n .stopped) := by
  have free := (((s.dropPrep_list n).trans (State.dropPlanFrame_list _ n)).trans (State.releaseGrant_step _ n).list).trans
    (.of_rods (t := (((s.dropPrep n).dropPlanFrame n).releaseGrant n).dequeueOf n.val none) rfl)
  have ends := free.trans (.modPlan _ (f := fun p =>
    { p with stage := .ending .stopped, inv := none, wantCarrier := false, stop := none, doom := none })
    (fun _ _ => rfl) (fun _ _ => rfl))
  have settles := State.settlePlan_holds (n := n) (by rw [ends.held]; exact holds)
  unfold State.endPlan
  dsimp only
  rw [if_neg (by decide), settles]
  exact ends

/-- At a boundary an invocation that no failed tile ends goes on, or ends as it was asked to. -/
theorem State.planBoundary_list (sound : s.Undoomed n) (holds : (s.rod n).held ≠ []) : ListStep n s (s.planBoundary n) := by
  unfold State.planBoundary
  split
  next p plan =>
    rw [sound p plan]
    dsimp only
    repeat' split
    exacts [State.endPlan_list holds, .of_rods rfl, .of_rods rfl]
  next => exact .of_rods rfl

theorem ListStep.unitEnd (h : ListStep n s t) (sound : s.Undoomed n) (holds : (s.rod n).held ≠ []) :
    ListStep n s (t.unitEnd n) := by
  have free := h.trans (t.releaseGrant_step n).list
  exact free.trans (State.planBoundary_list (free.undoomed sound) (by rw [free.held]; exact holds))

theorem State.cycleDone_list (sound : s.Undoomed n) (holds : (s.rod n).held ≠ []) : ListStep n s (s.cycleDone n) := by
  have counted : ∀ k, ListStep n s (s.modInv n (fun i => { i with fruitless := k })) := fun k => .modInv s fun _ none' => none'
  have endsStep : ∀ x : State, ListStep n s x → ListStep n s (x.endInventory n) := fun x step =>
    (step.trans (.modPlan x (f := fun p => { p with stage := .boundary, inv := none, pc := p.pc + 1 })
      (fun _ doom => doom) (fun _ _ => rfl))).unitEnd sound holds
  have endsCycle : ∀ x : State, ListStep n s x → ListStep n s (x.endCycle n) := fun x step =>
    (step.trans (.modInv x (f := fun i => { i with inCycle := false, tag := none }) (fun _ _ => rfl))).unitEnd sound holds
  unfold State.cycleDone
  split
  next i _ =>
    dsimp only
    generalize (if i.cycleHit then 0 else if i.cycleBad then i.fruitless + 1 else i.fruitless) = k
    exact .ite (endsStep _ (counted k)) (endsCycle _ (counted k))
  next => exact .of_rods rfl

theorem State.afterTag_list (sound : s.Undoomed n) (holds : (s.rod n).held ≠ []) : ListStep n s (s.afterTag n) := by
  unfold State.afterTag
  repeat' split
  · exact .modInv s fun _ none' => none'
  · exact (State.putPlan_front rfl s n).list
  · exact State.cycleDone_list sound holds
  · exact .of_rods rfl

/-! ### The list ends (R235, R267) -/

theorem quietFrame_plan (prof : Profile) (uid : List Byte) : (quietFrame prof uid).txn = none := by
  unfold quietFrame
  repeat' split
  all_goals rfl

theorem State.inv?_modInv (s : State) (n : Fin 24) (f : InvRun → InvRun) : (s.modInv n f).inv? n = (s.inv? n).map f := by
  have plan : (s.modInv n f).plan? n = (s.plan? n).map (fun p => { p with inv := p.inv.map f }) :=
    congrArg Rod.plan (s.modPlan_rod n _)
  unfold State.inv?
  rw [plan]
  cases s.plan? n <;> rfl

theorem State.tag?_modTag (s : State) (n : Fin 24) (f : TagRun → TagRun) : (s.modTag n f).tag? n = (s.tag? n).map f := by
  unfold State.tag? State.modTag
  rw [State.inv?_modInv]
  cases s.inv? n <;> rfl

theorem State.dropPrep_tag (tag : s.tag? n = some g) : (s.dropPrep n).tag? n = some { g with prep := false } := by
  unfold State.dropPrep
  rw [tag]
  dsimp only
  split
  · exact (s.tag?_modTag n (fun t => { t with prep := false })).trans (congrArg (Option.map _) tag)
  next unprepared =>
    have same : g.prep = false := by simpa using unprepared
    rw [tag, ← same]

/-- Nothing of the tag waits any more but its QUIET frame. -/
def TagRun.quieted (g : TagRun) : TagRun := { g with quieting := true, waiting := false, prep := false }

theorem State.afterList_quiet (plan : s.plan? n = some p) (inv : s.inv? n = some i) (tag : s.tag? n = some g)
    (quiet : i.quiet = true) (next : State → State) :
    ListStep n s (s.afterList n next) ∧ (s.afterList n next).tag? n = some g.quieted := by
  have noted : ListStep n s (s.wr F.ROD_PLAN_STAT_STEP n.val i.step) := .of_rods rfl
  have puts : ∀ (x : State) (f : Exchange) (h : TagRun), f.txn = none → ListStep n s x → x.tag? n = some h → h.quieted = g.quieted →
      ListStep n s ((x.modTag n TagRun.quieted).putPlan n f) ∧
        ((x.modTag n TagRun.quieted).putPlan n f).tag? n = some g.quieted := fun x f h plans step runs same => by
    have front := State.putPlan_front plans (x.modTag n TagRun.quieted) n
    refine ⟨(step.trans (.modTag x _)).trans front.list, ?_⟩
    rw [State.tag?_congr front.plan, State.tag?_modTag, runs, ← same]
    rfl
  unfold State.afterList
  dsimp only
  rw [inv, onSome_some, show (s.wr F.ROD_PLAN_STAT_STEP n.val i.step).plan? n = some p from plan,
    show (s.wr F.ROD_PLAN_STAT_STEP n.val i.step).inv? n = some i from inv,
    show (s.wr F.ROD_PLAN_STAT_STEP n.val i.step).tag? n = some g from tag]
  dsimp only
  rw [if_pos quiet]
  split
  · exact puts _ _ g (quietFrame_plan _ _) noted tag rfl
  · exact puts _ _ _ (quietFrame_plan _ _) (noted.trans (State.dropPrep_list _ n)) (State.dropPrep_tag tag) rfl

theorem State.afterList_goesOn (plan : s.plan? n = some p) (inv : s.inv? n = some i) (tag : s.tag? n = some g)
    (loud : i.quiet = false) (sound : s.Undoomed n) (holds : (s.rod n).held ≠ []) :
    ListStep n s (s.afterList n (fun s => s.afterTag n)) ∧ (s.afterList n (fun s => s.afterTag n)).tag? n = none := by
  have noted : ListStep n s (s.wr F.ROD_PLAN_STAT_STEP n.val i.step) := .of_rods rfl
  have ended : ListStep n s (((s.wr F.ROD_PLAN_STAT_STEP n.val i.step).dropPrep n).modInv n (fun i => { i with tag := none })) :=
    (noted.trans (State.dropPrep_list _ n)).trans (.modInv _ (f := fun i => { i with tag := none }) fun _ _ => rfl)
  have none' : (((s.wr F.ROD_PLAN_STAT_STEP n.val i.step).dropPrep n).modInv n (fun i => { i with tag := none })).tag? n = none := by
    unfold State.tag?
    rw [State.inv?_modInv]
    cases ((s.wr F.ROD_PLAN_STAT_STEP n.val i.step).dropPrep n).inv? n <;> rfl
  have goes := State.afterTag_list (ended.undoomed sound) (by rw [ended.held]; exact holds)
  unfold State.afterList
  dsimp only
  rw [inv, onSome_some, show (s.wr F.ROD_PLAN_STAT_STEP n.val i.step).plan? n = some p from plan,
    show (s.wr F.ROD_PLAN_STAT_STEP n.val i.step).inv? n = some i from inv,
    show (s.wr F.ROD_PLAN_STAT_STEP n.val i.step).tag? n = some g from tag]
  dsimp only
  rw [if_neg (by rw [loud]; exact Bool.false_ne_true)]
  exact ⟨ended.trans goes, goes.tag none'⟩

end Sys2Proof.Machine
end

section
/-! PROOFS. O24: SELECT of Type A, whose entry stays in the held record while the list goes on, and the wait for the carry. -/

namespace Sys2Proof.Machine
open Sys2Proof

variable {s t u : State} {n : Fin 24} {p : Plan} {i : InvRun} {g : TagRun} {h : Held} {k : Nat} {es : List Entry} {b uid : List Byte}

/-! ### Held records (R240) -/

theorem State.heldOf_some (found : s.heldOf n uid = some (k, h)) : (s.rod n).held[k]? = some h := by
  obtain ⟨⟨h', k'⟩, first, same⟩ := Option.map_eq_some_iff.mp found
  obtain ⟨rfl, rfl⟩ := Prod.mk.inj same
  exact List.mem_zipIdx_iff_getElem?.mp (List.mem_of_find?_eq_some first)

theorem State.modHeld_rod (s : State) (n : Fin 24) (j : Nat) (f : Held → Held) :
    (s.modHeld n j f).rod n = { s.rod n with held := (s.rod n).held.modify j f } := s.rod_modRod_self n _

theorem State.modHeld_plan (s : State) (n : Fin 24) (j : Nat) (f : Held → Held) : (s.modHeld n j f).plan? n = s.plan? n :=
  (congrArg Rod.plan (s.modHeld_rod n j f)).trans rfl

theorem State.modHeld_others (s : State) {m n : Fin 24} (ne : m ≠ n) (j : Nat) (f : Held → Held) : (s.modHeld n j f).rod m = s.rod m :=
  s.rod_modRod_ne ne.symm _

theorem State.modHeld_self (s : State) (n : Fin 24) (j : Nat) (f : Held → Held) :
    ((s.modHeld n j f).rod n).held[j]? = (s.rod n).held[j]?.map f := by
  rw [State.modHeld_rod]
  simp

theorem State.held_ne_nil (found : (s.rod n).held[k]? = some h) : (s.rod n).held ≠ [] := by
  intro empty
  rw [empty] at found
  exact absurd found (by simp)

/-- Held record `k` of rod `n` has the entries `es`, and no failed tile is about to end the invocation. -/
structure Notes (n : Fin 24) (k : Nat) (es : List Entry) (s : State) : Prop where
  entry : ∃ h, (s.rod n).held[k]? = some h ∧ h.entries = es
  undoomed : s.Undoomed n

theorem Notes.holds (notes : Notes n k es s) : (s.rod n).held ≠ [] := by
  obtain ⟨h, found, -⟩ := notes.entry
  exact State.held_ne_nil found

theorem Notes.list (notes : Notes n k es s) (step : ListStep n s t) : Notes n k es t :=
  ⟨by rw [step.held]; exact notes.entry, step.undoomed notes.undoomed⟩

theorem Notes.modHeld (notes : Notes n k es s) (j : Nat) {f : Held → Held} (keeps : ∀ h, (f h).entries = h.entries) :
    Notes n k es (s.modHeld n j f) := by
  obtain ⟨⟨h, found, entries⟩, sound⟩ := notes
  refine ⟨?_, fun p plan => sound p ((s.modHeld_plan n j f).symm.trans plan)⟩
  rw [State.modHeld_rod]
  by_cases e : j = k
  · exact ⟨f h, by simp [e, found], (keeps h).trans entries⟩
  · exact ⟨h, by simp [e, found], entries⟩

/-! ### The list goes on (R218, R230, R250, R251) -/

theorem State.afterList_list (sound : s.Undoomed n) (holds : (s.rod n).held ≠ []) :
    ListStep n s (s.afterList n (fun s => s.afterTag n)) := by
  cases tag : s.tag? n with
  | some g =>
    obtain ⟨i, inv, -⟩ := Option.bind_eq_some_iff.mp tag
    obtain ⟨p, plan, -⟩ := Option.bind_eq_some_iff.mp inv
    cases quiet : i.quiet with
    | true => exact (State.afterList_quiet plan inv tag quiet _).1
    | false => exact (State.afterList_goesOn plan inv tag quiet sound holds).1
  | none =>
    have noted : (onSome (s.inv? n) (fun (i : InvRun) (s : State) => s.wr F.ROD_PLAN_STAT_STEP n.val i.step) s).rods = s.rods := by
      cases s.inv? n <;> rfl
    unfold State.afterList
    dsimp only
    split
    next tag' =>
      rw [State.tag?_congr (congrArg Rod.plan (State.rod_congr noted n)), tag] at tag'
      exact absurd tag' (by simp)
    next => exact .of_rods noted

theorem Notes.afterList (notes : Notes n k es s) : Notes n k es (s.afterList n (fun s => s.afterTag n)) :=
  notes.list (State.afterList_list notes.undoomed notes.holds)

theorem Notes.dropWrites (notes : Notes n k es s) (p : Plan) (i : InvRun) (g : TagRun) : Notes n k es (s.dropWrites n p i g) := by
  unfold State.dropWrites
  split
  exacts [notes.modHeld _ fun _ => rfl, notes]

theorem Notes.tagComplete (notes : Notes n k es s) (g : TagRun) : Notes n k es (s.tagComplete n g) := by
  unfold State.tagComplete
  split
  exacts [notes.modHeld _ fun _ => rfl, notes]

theorem Notes.endWrites (notes : Notes n k es s) (p : Plan) (i : InvRun) (g : TagRun) (j : Nat) :
    Notes n k es (s.endWrites n p i g j) := notes.list (.of_rods (State.emit_rods _ _ _ _))

theorem Notes.modTag (notes : Notes n k es s) (f : TagRun → TagRun) : Notes n k es (s.modTag n f) := notes.list (.modTag s f)

theorem Notes.noteFault (notes : Notes n k es s) (step reason : Nat) (err : Bool) : Notes n k es (s.noteFault n step reason err) :=
  notes.list (.of_rods (by unfold State.noteFault; cases err <;> rfl))

theorem Notes.ite {c : Prop} [Decidable c] (h : Notes n k es s) (g : Notes n k es t) : Notes n k es (if c then s else t) := by
  split
  exacts [h, g]

theorem Notes.tagNext (fuel : Nat) (notes : Notes n k es s) : Notes n k es (State.tagNext n (fun s => s.afterTag n) fuel s) := by
  induction fuel generalizing s with
  | zero => exact notes
  | succ fuel ih =>
    have ends := fun p i g j => (notes.endWrites p i g j).afterList
    have drops := fun p i g => (notes.dropWrites p i g).afterList
    have completes := fun (c : Prop) [Decidable c] g => Notes.ite (c := c) (notes.tagComplete g) notes
    unfold State.tagNext
    split
    · refine notes.afterList.ite (((ends _ _ _ _).ite (drops _ _ _)).ite ?_)
      refine (ih (((completes _ _).noteFault _ _ _).modTag _)).ite ?_
      refine (Notes.ite (((ends _ _ _ _).ite (drops _ _ _)).ite (notes.ite ((notes.tagComplete _).modTag _))) ?_)
      split
      exacts [(ih (notes.modTag _)).ite notes, notes]
    · exact notes

/-- SELECT of Type A sends nothing: its entry, without data, joins the held record, and the list goes on (R232, R257). -/
theorem exec_selectStep_typeA (ready : s.tagReady? n = some (p, i, g, b)) (kind : stepOp b = 2)
    (proto : (p.snap.prof (stepProfile b (i.profNo p))).proto = 1) (doom : p.doom = none) (found : s.heldOf n g.uid = some (k, h)) :
    ∃ t, exec (.selectStep n) s = .next t ∧ Notes n k (addEntry h.entries ⟨i.tagFirst + g.pos, .ok, []⟩).1 t := by
  obtain ⟨plan, -⟩ := State.tagReady?_due ready
  have step := ((PlanStep.start plan).modPlan (fun q => { q with steps := q.steps + 1, lastStep := i.tagFirst + g.pos })).wr
    F.ROD_PLAN_STAT_STEP n.val (i.tagFirst + g.pos)
  have held : ((s.noteStep n (i.tagFirst + g.pos)).rod n).held = (s.rod n).held := step.held
  have found' : (s.noteStep n (i.tagFirst + g.pos)).heldOf n g.uid = some (k, h) := by
    unfold State.heldOf at found ⊢
    rw [held]
    exact found
  have goes : ∀ f : Held → Held, (f h).entries = (addEntry h.entries ⟨i.tagFirst + g.pos, .ok, []⟩).1 →
      Notes n k (addEntry h.entries ⟨i.tagFirst + g.pos, .ok, []⟩).1
        (((s.noteStep n (i.tagFirst + g.pos)).modHeld n k f).stepDone n) := fun f entries => by
    have entered : Notes n k (addEntry h.entries ⟨i.tagFirst + g.pos, .ok, []⟩).1 ((s.noteStep n (i.tagFirst + g.pos)).modHeld n k f) := by
      refine ⟨⟨f h, ?_, entries⟩, State.undoomed_of_plan ((State.modHeld_plan _ n k f).trans step.plan) doom⟩
      rw [State.modHeld_self, State.heldOf_some found']
      rfl
    have next := (entered.modTag (fun t => { t with pos := t.pos + 1 })).tagNext 9
    unfold State.stepDone
    rw [State.settlePlan_holds next.holds]
    exact next
  refine ⟨s.tagDo n 2, rfl, ?_⟩
  unfold State.tagDo
  rw [ready]
  dsimp only
  rw [if_pos kind, if_pos (by simpa using proto), found']
  exact goes _ rfl

/-! ### WRITE_WAIT_EXPIRY (R250, R251) -/

/-- The held record of a tag whose write steps are given up. -/
def givenUp (s : State) (p : Plan) (i : InvRun) (g : TagRun) (h : Held) : Held :=
  { h with complete := true, lateWrites := if s.writeBefore p i i.tagCount then some (s.writeSteps p i g.pos) else none }

/-- Before its list ends, the tag waits no more and its held record is complete. -/
structure GaveUp (s t : State) (n : Fin 24) (p : Plan) (i : InvRun) (g : TagRun) (k : Nat) (h : Held) : Prop where
  others : ∀ m, m ≠ n → t.rod m = s.rod m
  record : (t.rod n).held[k]? = some (givenUp s p i g h)
  plan : ∃ q, t.plan? n = some q ∧ q.doom = p.doom
  inv : ∃ j, t.inv? n = some j ∧ j.quiet = i.quiet
  tag : t.tag? n = some { g with waiting := false }

section
variable (plan : s.plan? n = some p) (inv : s.inv? n = some i) (tag : s.tag? n = some g) (waits : g.waiting = true)
  (found : s.heldOf n g.uid = some (k, h))
include plan inv tag waits found

theorem exec_writeWaitExpiry_givesUp (wait : p.snap.writeWait ≠ 0) : ∃ t,
    exec (.writeWaitExpiry n) s = .next (t.afterList n (fun s => s.afterTag n)) ∧ GaveUp s t n p i g k h := by
  have plan' : (s.modHeld n k (givenUp s p i g)).plan? n = s.plan? n := s.modHeld_plan n k _
  have inv' : (s.modHeld n k (givenUp s p i g)).inv? n = some i := by rw [State.inv?, plan', ← State.inv?, inv]
  have step := (PlanStep.start (plan'.trans plan)).modPlan
    (fun q => { q with inv := q.inv.map (fun i => { i with tag := i.tag.map (fun t => { t with waiting := false }) }) })
  refine ⟨(s.modHeld n k (givenUp s p i g)).modTag n (fun t => { t with waiting := false }), ?_,
    fun m ne => (step.others m ne).trans (s.modHeld_others ne k _), ?_, ⟨_, step.plan, rfl⟩,
    ⟨{ i with tag := i.tag.map (fun t => { t with waiting := false }) }, ?_, rfl⟩, ?_⟩
  · change execWriteWaitExpiry n s = _
    unfold execWriteWaitExpiry
    rw [plan]
    dsimp only
    rw [if_neg wait]
    unfold State.giveUpWrites
    rw [plan, inv, tag]
    dsimp only
    rw [waits, found]
    unfold State.dropWrites
    rw [found]
    rfl
  · rw [State.modTag, State.modInv, step.held, State.modHeld_self, State.heldOf_some found]
    rfl
  · rw [State.modTag, State.inv?_modInv, inv']
    rfl
  · rw [State.tag?_modTag, State.tag?_congr plan', tag]
    rfl

end

theorem exec_writeWaitExpiry_noTag (none' : ∀ g, s.tag? n = some g → g.waiting = false) : exec (.writeWaitExpiry n) s = .next s := by
  have keeps : s.giveUpWrites n = s := by
    unfold State.giveUpWrites
    split
    next g _ _ tag => rw [none' g tag, Bool.false_and, if_neg Bool.false_ne_true]
    next => rfl
  change execWriteWaitExpiry n s = _
  unfold execWriteWaitExpiry
  split
  · rw [keeps, ite_self]
  · rfl

theorem exec_writeWaitExpiry_noWait (plan : s.plan? n = some p) (none' : p.snap.writeWait = 0) :
    exec (.writeWaitExpiry n) s = .next s := by
  change execWriteWaitExpiry n s = _
  unfold execWriteWaitExpiry
  rw [plan]
  dsimp only
  rw [if_pos none']

end Sys2Proof.Machine
end

section
/-! PROOFS. O24. -/

open Sys2Proof Sys2Proof.Machine

/-- Settles O24: a cycle and a per-tag step put their frame in front of the rod, which leaves the other rods (`State.putPlan_front`);
the entry of a Type A SELECT and a held record whose writes are given up outlast whatever follows the list (`ListStep`). -/
theorem inventoryCyclesAndPerTagStepsSendTheirFrames : Obligations.InventoryCyclesAndPerTagStepsSendTheirFrames := by
  intro s n
  refine ⟨fun p i plan stage inv may halted breaks =>
      ⟨fun full => ?_, fun room credit serves => ?_, fun e rest room credit serves proto top => ?_⟩,
    fun p i g b ready => ?_, fun p i g k h plan inv tag waits quiet _ found wait => ?_,
    fun p i g k h plan inv tag waits loud doom found wait => ?_, exec_writeWaitExpiry_noTag, fun p => exec_writeWaitExpiry_noWait⟩
  · rw [exec_inventoryCycle plan stage inv may halted breaks, State.startCycle_waits (.inl full)]
  · obtain ⟨t, run, air, cycle, others⟩ :=
      exec_inventoryCycle_begins plan stage inv may halted breaks room credit serves
    exact ⟨t, run, air, cycle, others⟩
  · obtain ⟨t, run, air, cycle, others⟩ :=
      exec_inventoryCycle_begins plan stage inv may halted breaks room credit serves
    obtain ⟨pops, cur⟩ := InvRun.nextCycle_pops top
    rw [firstFrame_15693 proto top] at air
    exact ⟨t, _, _, run, air, rfl, rfl, rfl, rfl, rfl, (State.inv?_of_plan plan).trans inv, cycle, pops, cur, rfl, rfl, rfl, others⟩
  · intro prof fl fo Sends data
    have sends : ∀ (op : Nat) (bytes : List Byte), stepOp b = op → ¬(op = 2 ∧ prof.proto = 1) →
        (op = 9 ∨ op = 10 → s.planCredit n = true) → (prof.proto = 0 → (stepOp b = 2 ∨ (byteAt b 5).testBit 1 = false) →
          (tagFrame prof b g.uid (if op = 9 then s.writeData p b 0 else []) g.pos 0 0).bytes = bytes) →
        Sends (.next (s.tagDo n op)) (if op = 9 then s.writeData p b 0 else []) bytes :=
      fun op bytes kind framed credit spells => by
        obtain ⟨air, step, others⟩ := State.tagDo_front ready kind framed credit
        obtain ⟨phase, txn, purpose, txCrc, rxCrc⟩ :=
          tagFrame_plain prof b g.uid (if op = 9 then s.writeData p b 0 else []) g.pos 0 0
        exact ⟨_, _, rfl, air, rfl, phase, txn, purpose, txCrc, rxCrc, spells, step, others⟩
    have addressed : ∀ op, stepOp b = op → op ≠ 2 → (stepOp b = 2 ∨ (byteAt b 5).testBit 1 = false) →
        (byteAt b 5).testBit 1 = false := fun op kind other either => either.resolve_left (kind ▸ other)
    refine ⟨fun kind typeA => ?_, fun k h kind proto doom found => ?_, fun kind => ?_, fun kind => ?_, fun kind => ?_,
      fun kind credit => ?_, fun kind credit => ?_, fun none' => ⟨?_, ?_⟩⟩
    · exact sends 2 _ kind (fun both => typeA both.2) (by simp) fun proto _ => tagFrame_select proto kind
    · obtain ⟨t, run, ⟨h', found', entries⟩, -⟩ := exec_selectStep_typeA ready kind proto doom found
      exact ⟨t, h', run, found', entries⟩
    · exact sends 3 _ kind (by simp) (by simp) fun proto either => tagFrame_readBlocks (addressed 3 kind (by decide) either) proto kind
    · exact sends 4 _ kind (by simp) (by simp) fun _ either => tagFrame_readBlocksExt (addressed 4 kind (by decide) either) kind
    · exact sends 5 _ kind (by simp) (by simp) fun _ either => tagFrame_getInfo (addressed 5 kind (by decide) either) kind
    · have first : s.writeData p b 0 = data := s.writeData_first p b
      rw [← first]
      exact sends 9 _ kind (by simp) (fun _ => credit) fun proto either =>
        tagFrame_writeBlocks (addressed 9 kind (by decide) either) proto kind
    · exact sends 10 _ kind (by simp) (fun _ => credit) fun _ either => tagFrame_lockBlock (addressed 10 kind (by decide) either) kind
    · exact congrArg _ (State.tagDo_noCredit ready (.inl rfl) none')
    · exact congrArg _ (State.tagDo_noCredit ready (.inr rfl) none')
  · obtain ⟨t, run, others, record, ⟨q, plan', -⟩, ⟨j, inv', same⟩, tag'⟩ := exec_writeWaitExpiry_givesUp plan inv tag waits found wait
    obtain ⟨ends, quieted⟩ := State.afterList_quiet plan' inv' tag' (same.trans quiet) (fun s => s.afterTag n)
    exact ⟨_, _, run, quieted, rfl, rfl, ends.held ▸ record, fun m ne => (ends.others m ne).trans (others m ne)⟩
  · obtain ⟨t, run, others, record, ⟨q, plan', sound⟩, ⟨j, inv', same⟩, tag'⟩ :=
      exec_writeWaitExpiry_givesUp plan inv tag waits found wait
    obtain ⟨ends, none'⟩ := State.afterList_goesOn plan' inv' tag' (same.trans loud)
      (State.undoomed_of_plan plan' (sound.trans doom)) (State.held_ne_nil record)
    exact ⟨_, run, none', ends.held ▸ record, fun m ne => (ends.others m ne).trans (others m ne)⟩
end

section
/-! PROOFS. O25: what a discarded held record leaves, and what the tags and invocations that waited for it do. -/

namespace Sys2Proof.Machine
open Sys2Proof

variable {s t u : State} {n : Fin 24} {p : Plan} {h : Held} {j : Nat} {uid : List Byte}

/-! ### Fields beside those written on the side -/

theorem invErrOverlap_aside : Aside F.ROD_INV_ERR_OVERLAP 0 := by
  intro g mem k small
  simp only [Fld.key, fldKey]
  fin_cases mem <;> dsimp only <;> omega

theorem discardFilter_aside (n : Fin 24) : Aside F.ROD_SPEC_DISCARD_FILTER_COUNT n.val := rodField_aside rfl (by decide) (by decide) n

/-! ### Tags and invocations that waited (R235, R241, R255) -/

/-- No tag whose list runs has lost its held record. -/
def State.NoneGone (s : State) : Prop := ∀ m g, s.tag? m = some g → g.gone = false

/-- From `s` to `t` every rod's held records are as they were, and so are the fields that nothing writes on the side; no tag loses
its held record. -/
structure HeldStep (s t : State) : Prop where
  held : ∀ m, (t.rod m).held = (s.rod m).held
  kept : s.NoneGone → t.NoneGone
  quiet : Quiet s t

theorem HeldStep.trans (h : HeldStep s t) (g : HeldStep t u) : HeldStep s u :=
  ⟨fun m => (g.held m).trans (h.held m), g.kept ∘ h.kept, h.quiet.trans g.quiet⟩

theorem HeldStep.of_rods (rods : t.rods = s.rods) (quiet : Quiet s t) : HeldStep s t :=
  have same := State.rod_congr rods
  ⟨fun m => by rw [same], fun kept m g tag => kept m g ((State.tag?_congr (congrArg Rod.plan (same m))).symm.trans tag), quiet⟩

/-- A change of rod `n` alone. -/
theorem HeldStep.of_others (others : ∀ m, m ≠ n → t.rod m = s.rod m) (held : (t.rod n).held = (s.rod n).held)
    (tag : ∀ g, t.tag? n = some g → s.tag? n = some g) (quiet : Quiet s t) : HeldStep s t := by
  refine ⟨fun m => ?_, fun kept m g runs => ?_, quiet⟩
  · by_cases e : m = n
    · rw [e, held]
    · rw [others m e]
  · by_cases e : m = n
    · subst e
      exact kept m g (tag g runs)
    · exact kept m g ((State.tag?_congr (congrArg Rod.plan (others m e))).symm.trans runs)

theorem FrontStep.heldStep (h : FrontStep n s t) : HeldStep s t :=
  .of_others h.others h.held (fun _ tag => (State.tag?_congr h.plan).symm.trans tag) h.quiet

theorem State.resumeSlot_heldStep (s : State) (n : Fin 24) : HeldStep s (s.resumeSlot n) := by
  have slot : HeldStep s (s.modInv n (fun i => { i with slotWait := false })) := by
    refine .of_others (fun m ne => s.rod_modRod_ne ne.symm _) ((congrArg Rod.held (s.modPlan_rod n _)).trans rfl) (fun g tag => ?_)
      (.of_regs rfl)
    rw [← tag]
    unfold State.tag?
    rw [State.inv?_modInv]
    cases s.inv? n <;> rfl
  unfold State.resumeSlot
  split
  · split
    · exact slot.trans (State.putPlan_front rfl _ n).heldStep
    · exact .of_rods rfl (.refl s)
  · exact .of_rods rfl (.refl s)

/-- Rod `n`'s invocation is gone. -/
theorem HeldStep.leaves (s : State) (n : Fin 24) {f : Rod → Rod} (h : ∀ r, (f r).plan = none ∧ (f r).held = r.held) :
    HeldStep s (s.modRod n f) := by
  have self := s.rod_modRod_self n f
  obtain ⟨plan, held⟩ := h (s.rod n)
  refine .of_others (fun m ne => s.rod_modRod_ne ne.symm f) (by rw [self, held]) (fun g tag => ?_) (.of_regs rfl)
  rw [State.tag?_eq, State.plan?, self, plan] at tag
  exact absurd tag (by simp)

theorem State.settlePlan_heldStep (s : State) (n : Fin 24) : HeldStep s (s.settlePlan n) := by
  have numbered : HeldStep s { s with sys := { s.sys with nextId := s.sys.nextId + 1 } } := .of_rods rfl (.of_regs rfl)
  have finishes : ∀ (l : List Txn) (x : State), HeldStep x (forAll l (fun t s => s.finish t.id .ok) x) := fun l x =>
    forAll_inv (HeldStep x) (fun t y step => step.trans
      (.of_rods (by rw [State.finish_frame]) (.of_regs (by rw [State.finish_frame])))) l x (.of_rods rfl (.refl x))
  have emits : ∀ (x : State) (p : Plan) (st : Status) (c : List Byte) (id : Option Nat),
      HeldStep x (x.emitPlan n p .result st s.sys.timebase c id) := fun x p st c id =>
    .of_rods (x.emit_rods _ _ _) (x.emit_quiet _ _ _)
  unfold State.settlePlan
  repeat' split
  · refine HeldStep.trans (HeldStep.trans (numbered.trans (HeldStep.leaves _ n fun _ => ?_)) (emits _ _ _ _ _)) (finishes _ _)
    exact ⟨rfl, rfl⟩
  all_goals exact .of_rods rfl (.refl s)

/-- While no tag has lost its held record, what waited changes no held record. -/
theorem State.resumeTags_heldStep (kept : s.NoneGone) : HeldStep s s.resumeTags := by
  refine forAll_inv (HeldStep s) (fun n x step => step.trans (HeldStep.trans ?_ (State.settlePlan_heldStep _ n))) _ _
    (.of_rods rfl (.refl s))
  split
  next g tag =>
    rw [step.kept kept n g tag]
    exact x.resumeSlot_heldStep n
  next => exact x.resumeSlot_heldStep n

/-! ### A held record is discarded (R252, R268) -/

theorem State.flushProducer_rods (s : State) (f : Fin 25) : (s.flushProducer f).rods = s.rods := by
  have waiting : ∀ (k : Nat) (x : State), (State.startWaiting f k x).rods = x.rods := fun k x => by
    rw [(Drained.startWaiting k x).frame]
  have lost : ∀ g, (s.lostSoFar f g).1.rods = s.rods := fun g => by
    unfold State.lostSoFar
    dsimp only
    split <;> rfl
  unfold State.flushProducer
  refine (waiting _ _).trans ?_
  split
  next g _ =>
    dsimp only
    split <;> exact lost g
  next => rfl

/-- Held record `j` of rod `n` has been discarded by the filter. -/
structure Filtered (s t : State) (n : Fin 24) (j : Nat) : Prop where
  held : (t.rod n).held = (s.rod n).held.eraseIdx j
  others : ∀ m, m ≠ n → (t.rod m).held = (s.rod m).held
  counted : t.rd F.ROD_SPEC_DISCARD_FILTER_COUNT n.val = (s.rd F.ROD_SPEC_DISCARD_FILTER_COUNT n.val + 1) % 2 ^ 32
  overlap : t.rd F.ROD_INV_ERR_OVERLAP = s.rd F.ROD_INV_ERR_OVERLAP

theorem State.countDiscard_filter (s : State) (n : Fin 24) : (s.countDiscard n .filter).rd F.ROD_SPEC_DISCARD_FILTER_COUNT n.val =
    (s.rd F.ROD_SPEC_DISCARD_FILTER_COUNT n.val + 1) % 2 ^ 32 ∧
      (s.countDiscard n .filter).rd F.ROD_INV_ERR_OVERLAP = s.rd F.ROD_INV_ERR_OVERLAP := by
  have round : F.ROD_ROUND_DISC_COUNT.key 0 ≠ F.ROD_SPEC_DISCARD_FILTER_COUNT.key n.val := by
    simp only [Fld.key, fldKey]
    omega
  have overlap : F.ROD_SPEC_DISCARD_FILTER_COUNT.key n.val ≠ F.ROD_INV_ERR_OVERLAP.key 0 := by
    simp only [Fld.key, fldKey]
    omega
  unfold State.countDiscard DiscardWhy.counter
  dsimp only
  exact ⟨(State.count_rd_ne round _ 1).trans (State.rd_wr_self _ _ _ _),
    (State.count_rd_ne (by decide) _ 1).trans (State.count_rd_ne overlap s 1)⟩

theorem State.discard_filtered (found : (s.rod n).held[j]? = some h) (others : ∀ m g, s.tag? m = some g → g.gone = false ∧ g.uid ≠ h.uid) :
    Filtered s (s.discard n j .filter).resumeTags n j := by
  have self := s.rod_modRod_self n (fun r => { r with held := r.held.eraseIdx j })
  have tags : ∀ m, (s.modRod n (fun r => { r with held := r.held.eraseIdx j })).tag? m = s.tag? m := fun m => by
    refine State.tag?_congr ?_
    by_cases e : m = n
    · rw [e]
      exact (congrArg Rod.plan self).trans rfl
    · exact congrArg Rod.plan (s.rod_modRod_ne (Ne.symm e) _)
  have flushes : ∀ x : State, HeldStep x (when h.carrying (fun s => s.flushProducer (ix 24 n.val)) x) ∧
      (when h.carrying (fun s => s.flushProducer (ix 24 n.val)) x).rods = x.rods := fun x => by
    cases h.carrying
    exacts [⟨.of_rods rfl (.refl x), rfl⟩, ⟨.of_rods (x.flushProducer_rods _) (x.flushProducer_quiet _), x.flushProducer_rods _⟩]
  obtain ⟨flush, rods⟩ := flushes ((s.modRod n (fun r => { r with held := r.held.eraseIdx j })).countDiscard n .filter)
  have tags' := fun m => (State.tag?_congr (congrArg Rod.plan (State.rod_congr rods m))).trans (tags m)
  have discards : s.discard n j .filter = when h.carrying (fun s => s.flushProducer (ix 24 n.val))
      ((s.modRod n (fun r => { r with held := r.held.eraseIdx j })).countDiscard n .filter) := by
    unfold State.discard
    rw [found]
    unfold State.tagGone
    dsimp only
    rw [tags']
    split
    next g tag =>
      rw [beq_false_of_ne (others n g tag).2]
      rfl
    next => rfl
  have kept : (s.discard n j .filter).NoneGone := fun m g tag => by
    rw [discards, tags'] at tag
    exact (others m g tag).1
  have step := State.resumeTags_heldStep kept
  rw [discards] at step ⊢
  have all := flush.trans step
  obtain ⟨counted, overlap⟩ := State.countDiscard_filter (s.modRod n (fun r => { r with held := r.held.eraseIdx j })) n
  exact ⟨(all.held n).trans ((congrArg Rod.held self).trans rfl), fun m ne => (all.held m).trans (congrArg Rod.held (s.rod_modRod_ne ne.symm _)),
    (all.quiet _ _ (discardFilter_aside n)).trans counted, (all.quiet _ _ invErrOverlap_aside).trans overlap⟩

/-! ### The verdict (R236, R238, R239, R248) -/

theorem State.filterHas_iff (s : State) (f : Nat × Nat) (key : List Byte) : s.filterHas f key = true ↔ ∃ i < 8,
    Memory.readBytes s.planMem (16384 * f.1 + 64 * ((crc32c key).toNat % 2 ^ f.2) + 8 * i) 8 = key := by
  unfold State.filterHas
  simp only [List.any_eq_true, List.mem_range, beq_iff_eq]
  rfl

section
variable (found : (s.rod n).held[j]? = some h) (plan : s.plan? n = some p)
include found plan

theorem exec_filterVerdict_known (known : h.verdict ≠ none) : exec (.filterVerdict n j) s = .next s := by
  have known' : h.verdict.isNone = false :=
    Option.isNone_eq_false_iff.mpr (Option.isSome_iff_ne_none.mpr known)
  change execFilterVerdict n j s = _
  unfold execFilterVerdict State.verdict
  rw [found, plan]
  dsimp only
  rw [known']
  rfl

variable (pending : h.verdict = none)
include pending

theorem exec_filterVerdict_noFilter (none' : p.filter = none) : exec (.filterVerdict n j) s =
    .next (s.modHeld n j (fun h => { h with verdict := some true })) := by
  change execFilterVerdict n j s = _
  unfold execFilterVerdict State.verdict
  rw [found, plan]
  dsimp only
  rw [pending, none']
  rfl

theorem exec_filterVerdict_filter {f : Nat × Nat} (filter : p.filter = some f) : exec (.filterVerdict n j) s = .next
    (if !s.filterOverlap f && s.filterHas f (filterKey h.proto h.uid) then
      (when (s.filterOverlap f) (fun (s : State) => s.setF F.ROD_INV_ERR_OVERLAP) s).modHeld n j (fun h => { h with verdict := some true })
    else ((when (s.filterOverlap f) (fun (s : State) => s.setF F.ROD_INV_ERR_OVERLAP) s).discard n j .filter).resumeTags) := by
  change execFilterVerdict n j s = _
  unfold execFilterVerdict State.verdict
  rw [found, plan]
  dsimp only
  rw [pending, filter]
  rfl

end

end Sys2Proof.Machine
end

section
/-! PROOFS. O25: the start of a carry. -/

namespace Sys2Proof.Machine
open Sys2Proof

variable {s t u : State} {n : Fin 24} {p : Plan} {h : Held} {j : Nat}

/-- What R246 and R249 ask of a carry of `h`, with `words` for its packet. -/
structure Carries (s : State) (n : Fin 24) (h : Held) (words : Nat) : Prop where
  complete : h.complete = true
  passed : h.verdict = some true
  registered : h.registered = true
  idle : h.carrying = false
  fresh : s.isCarried h.uid = false
  best : ∀ (m : Fin 24), ∀ g ∈ (s.rod m).held, outranks g m.val h n.val = false
  takes : s.takesPacket n words = true

theorem State.outranked_iff (s : State) (n : Fin 24) (h : Held) :
    s.outranked n h = false ↔ ∀ (m : Fin 24), ∀ g ∈ (s.rod m).held, outranks g m.val h n.val = false := by
  unfold State.outranked allRods
  simp

theorem State.mayStart_iff (s : State) (n : Fin 24) (h : Held) (words : Nat) :
    (s.mayCarry n h && !h.carrying && s.takesPacket n words) = true ↔ Carries s n h words := by
  unfold State.mayCarry
  simp only [Bool.and_eq_true, beq_iff_eq, Bool.not_eq_true', State.outranked_iff]
  exact ⟨fun ⟨⟨⟨⟨⟨⟨complete, passed⟩, registered⟩, fresh⟩, best⟩, idle⟩, takes⟩ =>
      ⟨complete, passed, registered, idle, fresh, best, takes⟩,
    fun ⟨complete, passed, registered, idle, fresh, best, takes⟩ =>
      ⟨⟨⟨⟨⟨⟨complete, passed⟩, registered⟩, fresh⟩, best⟩, idle⟩, takes⟩⟩

theorem exec_heldRecordCarry_stays (found : (s.rod n).held[j]? = some h) (stays : ¬Carries s n h (packetWords (tagClen h.entries))) :
    exec (.heldRecordCarry n j) s = .next s := by
  change execHeldRecordCarry n j s = _
  unfold execHeldRecordCarry State.startCarry
  rw [found]
  dsimp only
  rw [if_neg (mt (s.mayStart_iff n h _).mp stays)]

theorem exec_heldRecordCarry_starts (found : (s.rod n).held[j]? = some h) (starts : Carries s n h (packetWords (tagClen h.entries))) :
    exec (.heldRecordCarry n j) s = .next ((s.startGroup (ix 24 n.val) none 1 (packetWords (tagClen h.entries))).modHeld n j
      (fun h => { h with carrying := true })) := by
  change execHeldRecordCarry n j s = _
  unfold execHeldRecordCarry State.startCarry
  rw [found]
  dsimp only
  rw [if_pos ((s.mayStart_iff n h _).mpr starts)]

/-- A FIFO that takes a whole packet opens its group with the packet's credit and loses nothing (R472, R474). -/
theorem State.startGroup_takes {k : Nat} (takes : s.takesPacket n (packetWords k) = true) :
    ((s.startGroup (ix 24 n.val) none 1 (packetWords k)).fifo (ix 24 n.val)).openGroup = some ⟨none, 1, packetWords k, false⟩ := by
  have fits : ¬bankWords (ix 24 n.val) - ((s.fifo (ix 24 n.val)).swapFor (bankWords (ix 24 n.val)) (packetWords k)).fillWords < 5 := by
    unfold State.takesPacket at takes
    simp only [Bool.and_eq_true, decide_eq_true_eq] at takes
    obtain ⟨⟨room, -⟩, -⟩ := takes
    unfold packetWords at room ⊢
    omega
  unfold State.startGroup
  rw [State.fifo_modFifo_self]
  dsimp only
  rw [decide_eq_false fits]
  rfl

end Sys2Proof.Machine
end

section
/-! PROOFS. O25: the length word of a carried packet. -/

namespace Sys2Proof.Machine
open Sys2Proof

variable {s t u : State} {n : Fin 24} {p : Plan} {h : Held} {j : Nat}

/-! ### The packet is written (R249, R465) -/

theorem State.fifo_congr (fifos : t.fifos = s.fifos) (f : Fin 25) : t.fifo f = s.fifo f := congrArg (vget · f) fifos

theorem State.modFifo_waiting (s : State) (f : Fin 25) {g : Fifo → Fifo} (keeps : ∀ q, (g q).waiting = q.waiting) :
    ((s.modFifo f g).fifo f).waiting = (s.fifo f).waiting := by rw [State.fifo_modFifo_self, keeps]

theorem State.fifoOverrun_waiting (s : State) (f : Fin 25) (k : Nat) : ((s.fifoOverrun f k).fifo f).waiting = (s.fifo f).waiting := by
  have fifos : ∀ (x : State) (c : EventCode) (a : Nat) (d : List Byte), (x.raise c a d).fifos = x.fifos := fun x c a d => by
    rw [x.raise_frame]
  unfold State.fifoOverrun
  rw [State.fifo_congr (fifos _ _ _ _)]
  exact State.modFifo_waiting _ f fun _ => rfl

/-- No group begins to wait while another is written. -/
theorem State.writeGroup_waiting (s : State) (f : Fin 25) (ps : List Packet) (o : Option Nat) :
    ((s.writeGroup f ps o).fifo f).waiting = (s.fifo f).waiting := by
  have mark : ∀ (g : Txn → Txn) (o : Option Nat) (x : State), (onSome o (fun id s => s.modTxn id g) x).fifos = x.fifos :=
    fun g o x => by cases o <;> rfl
  unfold State.writeGroup
  split
  next placed _ =>
    have records : ∀ x : State, (x.fifo f).waiting = (s.fifo f).waiting → ((forAll ps (fun p s =>
        onSome p.txn (fun id s => s.modTxn id (fun t => { t with hasRec := true })) s) x).fifo f).waiting = (s.fifo f).waiting :=
      fun x same => (congrArg Fifo.waiting (State.fifo_congr (forAll_keeps State.fifos (fun p y => mark _ p.txn y) ps x) f)).trans same
    have published := records _ (State.modFifo_waiting { s with sys := { s.sys with nextId := s.sys.nextId + 1 } } f
      (g := fun q => { q with
        fill := q.fill ++ placed.map (fun p => { p with pid := s.sys.nextId }), fillWords := q.fillWords + sumWords placed,
        openGroup := none }) fun _ => rfl)
    unfold State.publish
    dsimp only
    split
    exacts [published, (State.fifoOverrun_waiting _ f _).trans published]
  next =>
    have overruns : ((if droppedWords (bankWords f) (s.fifo f).fillWords ps = 0 then s
        else s.fifoOverrun f (droppedWords (bankWords f) (s.fifo f).fillWords ps)).fifo f).waiting = (s.fifo f).waiting := by
      split
      exacts [rfl, s.fifoOverrun_waiting f _]
    unfold State.discardGroup
    dsimp only
    rw [State.fifo_congr (mark _ _ _), State.fifo_congr (State.count_fifos _ _ _ _)]
    refine (State.modFifo_waiting _ f fun _ => ?_).trans overruns
    rfl

/-! ### The counts of its exchanges (R146) -/

/-- The fields that counting an exchange writes. -/
def exchangeFields : List Fld := [F.ROD_CNT_TX_COUNT, F.ROD_CNT_OK_COUNT, F.ROD_CNT_CRC_COUNT, F.ROD_CNT_NORESP_COUNT,
  F.ROD_CNT_COLL_COUNT, F.ROD_CNT_LATE_COUNT, F.ROD_STAT_GAIN_USED, F.ROD_ERR_CLIP, F.ROD_ERR_EARLY_SOF, F.ROD_ERR_LATE_SOF]

/-- What a write of any of them keeps, counting an exchange keeps. -/
theorem State.addCounts_parts {β : Type} (g : State → β) (k : Nat)
    (hw : ∀ f ∈ exchangeFields, ∀ (s : State) (v : Nat), g (s.wr f k v) = g s) (s : State) (c : ExCount) : g (s.addCounts k c) = g s := by
  have sets : ∀ f ∈ exchangeFields, ∀ (b : Bool) (x : State), g (when b (fun s => s.setF f k) x) = g x := fun f mem b x => by
    cases b
    exacts [rfl, hw f mem x 1]
  unfold State.addCounts
  dsimp only
  rw [sets _ (by simp [exchangeFields]), sets _ (by simp [exchangeFields]), sets _ (by simp [exchangeFields]),
    onSome_keeps g (fun v x => hw F.ROD_STAT_GAIN_USED (by simp [exchangeFields]) x v)]
  unfold State.count
  iterate 6 rw [hw _ (by simp [exchangeFields])]

theorem State.addCounts_carried (s : State) (n : Fin 24) (c : ExCount) :
    (s.addCounts n.val c).rd F.ROD_SPEC_CARRIED_COUNT n.val = s.rd F.ROD_SPEC_CARRIED_COUNT n.val := by
  refine State.addCounts_parts (fun x : State => x.rd F.ROD_SPEC_CARRIED_COUNT n.val) n.val (fun f mem x v => x.rd_wr_ne ?_ v) s c
  simp only [Fld.key, fldKey]
  fin_cases mem <;> dsimp only <;> omega

/-! ### The record is carried (R246, R249, R266) -/

/-- A carry is counted, with the exchanges of its record. -/
def State.countCarry (s : State) (n : Fin 24) (c : ExCount) : State :=
  ((s.addCounts n.val c).count F.ROD_SPEC_CARRIED_COUNT n.val).count F.ROD_ROUND_CARRIED_COUNT

/-- What no write of a field changes, counting a carry keeps. -/
theorem State.countCarry_parts {β : Type} (g : State → β) (hw : ∀ (f : Fld) (i v : Nat) (x : State), g (x.wr f i v) = g x)
    (s : State) (n : Fin 24) (c : ExCount) : g (s.countCarry n c) = g s :=
  ((hw _ _ _ _).trans (hw _ _ _ _)).trans (State.addCounts_parts g n.val (fun f _ x v => hw f _ v x) s c)

theorem State.countCarry_counted (s : State) (n : Fin 24) (c : ExCount) : (s.countCarry n c).rd F.ROD_SPEC_CARRIED_COUNT n.val =
    (s.rd F.ROD_SPEC_CARRIED_COUNT n.val + 1) % 2 ^ 32 := by
  have round : F.ROD_ROUND_CARRIED_COUNT.key 0 ≠ F.ROD_SPEC_CARRIED_COUNT.key n.val := by
    simp only [Fld.key, fldKey]
    omega
  rw [← s.addCounts_carried n c]
  exact (State.count_rd_ne round _ 1).trans (State.rd_wr_self _ _ _ _)

/-- Held record `j`, `h`, leaves rod `n`, and its UID is carried in the round. -/
def State.leaveHeld (s : State) (n : Fin 24) (j : Nat) (h : Held) : State :=
  (s.modRod n (fun r =>
    { r with held := r.held.eraseIdx j,
             closed := r.closed.map (fun c => if c.held = some h.uid then { c with held := none } else c) })).markCarried h.uid

theorem State.leaveHeld_rod (s : State) (n : Fin 24) (j : Nat) (h : Held) :
    ((s.leaveHeld n j h).rod n).held = (s.rod n).held.eraseIdx j ∧ (s.leaveHeld n j h).plan? n = s.plan? n ∧
      ∀ m, m ≠ n → (s.leaveHeld n j h).rod m = s.rod m := by
  have self := s.rod_modRod_self n (fun r =>
    { r with held := r.held.eraseIdx j,
             closed := r.closed.map (fun c => if c.held = some h.uid then { c with held := none } else c) })
  exact ⟨(congrArg Rod.held self).trans rfl, (congrArg Rod.plan self).trans rfl, fun m ne => s.rod_modRod_ne ne.symm _⟩

theorem State.leaveHeld_marked (s : State) (n : Fin 24) (j : Nat) (h : Held) :
    ∀ d ∈ (s.leaveHeld n j h).round.dedup, d.uid = h.uid → d.carried = true := by
  intro d mem uid
  obtain ⟨e, -, rfl⟩ := List.mem_map.mp mem
  split at uid
  next same => rw [if_pos same]
  next other => exact absurd uid other

/-- The packet of `h` is written, `h` leaves rod `n`, and the carry is counted. -/
def State.carried (s : State) (n : Fin 24) (j : Nat) (h : Held) (r : RecordData) : State :=
  (((((s.modFifo (ix 24 n.val) (fun q => { q with openGroup := none })).writeGroup (ix 24 n.val) (packetsOf r none) none).leaveHeld
    n j h).countCarry n h.cnt).modPlan n (fun p => { p with carried := p.carried + 1 }))

/-- What `State.carried` changes, as far as it is read again. -/
structure Carried (s t : State) (n : Fin 24) (j : Nat) (h : Held) (r : RecordData) : Prop where
  fifos : t.fifos = ((s.modFifo (ix 24 n.val) (fun q => { q with openGroup := none })).writeGroup (ix 24 n.val)
    (packetsOf r none) none).fifos
  others : ∀ m, m ≠ n → t.rod m = s.rod m
  held : (t.rod n).held = (s.rod n).held.eraseIdx j
  plan : t.plan? n = (s.plan? n).map (fun p => { p with carried := p.carried + 1 })
  marked : ∀ d ∈ t.round.dedup, d.uid = h.uid → d.carried = true
  counted : t.rd F.ROD_SPEC_CARRIED_COUNT n.val = (s.rd F.ROD_SPEC_CARRIED_COUNT n.val + 1) % 2 ^ 32

theorem State.carried_carried (s : State) (n : Fin 24) (j : Nat) (h : Held) (r : RecordData) : Carried s (s.carried n j h r) n j h r := by
  have write := Drained.writeGroup (f := ix 24 n.val) (s.modFifo (ix 24 n.val) (fun q => { q with openGroup := none }))
    (packetsOf r none) none
  have quiet := (Quiet.refl s).modFifo (ix 24 n.val) (fun q => { q with openGroup := none }) |>.trans
    (State.writeGroup_quiet _ (ix 24 n.val) (packetsOf r none) none)
  unfold State.carried
  generalize written : (s.modFifo (ix 24 n.val) (fun q => { q with openGroup := none })).writeGroup (ix 24 n.val) (packetsOf r none)
    none = w at write quiet ⊢
  have rods : w.rods = s.rods := by
    rw [write.frame]
    rfl
  have rod : ∀ m, ((w.leaveHeld n j h).countCarry n h.cnt).rod m = (w.leaveHeld n j h).rod m :=
    State.rod_congr (State.countCarry_parts State.rods (fun _ _ _ _ => rfl) _ n h.cnt)
  obtain ⟨held, plan, others⟩ := w.leaveHeld_rod n j h
  have counts := ((w.leaveHeld n j h).countCarry n h.cnt).modPlan_rod n (fun p => { p with carried := p.carried + 1 })
  have fifos : ((w.leaveHeld n j h).countCarry n h.cnt).fifos = w.fifos :=
    State.countCarry_parts State.fifos (fun _ _ _ _ => rfl) (w.leaveHeld n j h) n h.cnt
  refine ⟨fifos.trans (congrArg State.fifos written.symm), fun m ne => ?_, ?_, ?_, ?_, ?_⟩
  · exact (State.rod_modRod_ne _ ne.symm _).trans ((rod m).trans ((others m ne).trans (State.rod_congr rods m)))
  · rw [counts, rod n, held, State.rod_congr rods]
  · rw [State.plan?, counts, State.plan?, rod n, ← State.plan?, plan, State.plan?, State.rod_congr rods, ← State.plan?]
  · have round : ((w.leaveHeld n j h).countCarry n h.cnt).round = (w.leaveHeld n j h).round :=
      State.countCarry_parts State.round (fun _ _ _ _ => rfl) _ n h.cnt
    exact fun d mem => w.leaveHeld_marked n j h d (round ▸ mem)
  · exact ((w.leaveHeld n j h).countCarry_counted n h.cnt).trans
      (by rw [← quiet _ _ (rodField_aside rfl (by decide) (by decide) n)]; rfl)

/-! ### What waits for the carry (R235, R241, R246, R255) -/

section
variable (kept : s.NoneGone) (slots : ∀ m i, s.inv? m = some i → i.slotWait = false)
  (runs : ∀ m q c, s.plan? m = some q → q.stage ≠ .ending c)

include kept slots runs in
/-- With no tag, no slot and no ended invocation that waits, nothing follows. -/
theorem State.resumeTags_still : s.resumeTags = s := by
  have slot : ∀ m, s.resumeSlot m = s := fun m => by
    unfold State.resumeSlot
    split
    next i inv => rw [slots m i inv, Bool.false_and, Bool.false_and, if_neg Bool.false_ne_true]
    next => rfl
  have settles : ∀ m, s.settlePlan m = s := fun m => by
    unfold State.settlePlan
    split
    next q plan =>
      split
      next c stage => exact absurd stage (runs m q c plan)
      next => rfl
    next => rfl
  refine forAll_inv (· = s) (fun m x same => ?_) _ _ rfl
  subst same
  split
  next g tag =>
    rw [kept m g tag]
    exact (congrArg (State.settlePlan · m) (slot m)).trans (settles m)
  next => exact (congrArg (State.settlePlan · m) (slot m)).trans (settles m)

end

theorem State.discardDups_none {uid : List Byte} (none' : ∀ m, ∀ g ∈ (s.rod m).held, g.uid ≠ uid) : s.discardDups uid = s := by
  refine forAll_inv (· = s) (fun m x same => ?_) _ _ rfl
  subst same
  split
  next found =>
    obtain ⟨⟨g, k⟩, first, -⟩ := Option.map_eq_some_iff.mp found
    have uid' : g.uid = uid := by simpa using List.find?_some first
    have mem := List.mem_zipIdx_iff_getElem?.mp (List.mem_of_find?_eq_some first)
    exact absurd uid' (none' m g (List.mem_of_getElem? mem))
  next => rfl

theorem State.tagCarried_other {uid : List Byte} (other : ∀ g, s.tag? n = some g → g.uid ≠ uid) : s.tagCarried n uid = s := by
  unfold State.tagCarried
  split
  next g tag => rw [beq_false_of_ne (other g tag), Bool.false_and, if_neg Bool.false_ne_true]
  next => rfl

end Sys2Proof.Machine
end

section
/-! PROOFS. O25: the length word of a carried packet, with nothing that waits for the carry. -/

namespace Sys2Proof.Machine
open Sys2Proof

variable {s t : State} {n : Fin 24} {p : Plan} {h : Held} {j : Nat} {r : RecordData}

section
variable (c : Carried s t n j h r)
include c

/-- The invocations and tags that run are those from before the carry. -/
theorem Carried.inv (m : Fin 24) : t.inv? m = s.inv? m := by
  by_cases e : m = n
  · subst e
    rw [State.inv?, c.plan, State.inv?]
    cases s.plan? m <;> rfl
  · rw [State.inv?, State.plan?, c.others m e]
    rfl

theorem Carried.tag (m : Fin 24) : t.tag? m = s.tag? m := by
  rw [State.tag?, c.inv]
  rfl

theorem Carried.stage (runs : ∀ m q e, s.plan? m = some q → q.stage ≠ .ending e) (m : Fin 24) (q : Plan) (e : PlanCause)
    (plan : t.plan? m = some q) : q.stage ≠ .ending e := by
  by_cases e' : m = n
  · subst e'
    rw [c.plan] at plan
    obtain ⟨q', plan', rfl⟩ := Option.map_eq_some_iff.mp plan
    exact runs m q' e plan'
  · rw [State.plan?, c.others m e'] at plan
    exact runs m q e plan

theorem Carried.waiting : (t.fifo (ix 24 n.val)).waiting = (s.fifo (ix 24 n.val)).waiting := by
  rw [State.fifo_congr c.fifos, State.writeGroup_waiting]
  exact State.modFifo_waiting _ _ fun _ => rfl

end

/-- CARRY_LENGTH_WORD of the only held record: where no tag has its UID, no other rod holds it and nothing waits for the carry, the
carry is all that happens. -/
theorem exec_carryLengthWord_carried (held : (s.rod n).held = [h]) (carrying : h.carrying = true) (plan : s.plan? n = some p)
    (tags : ∀ m g, s.tag? m = some g → g.gone = false ∧ g.uid ≠ h.uid) (noWrites : h.lateWrites = none)
    (alone : ∀ m, m ≠ n → ∀ g ∈ (s.rod m).held, g.uid ≠ h.uid) (runs : ∀ m q e, s.plan? m = some q → q.stage ≠ .ending e)
    (none' : (s.fifo (ix 24 n.val)).waiting = []) (slots : ∀ m i, s.inv? m = some i → i.slotWait = false) :
    exec (.carryLengthWord n) s = .next (s.carried n 0 h ⟨.tag, .ok, n.val, p.no, 0xFE, h.stamp, s.heldContent n h, 0, false⟩) := by
  have c := s.carried_carried n 0 h ⟨.tag, .ok, n.val, p.no, 0xFE, h.stamp, s.heldContent n h, 0, false⟩
  have tagged := State.tagCarried_other (n := n) fun g tag => (tags n g ((c.tag n).symm.trans tag)).2
  have dups := State.discardDups_none (s := s.carried n 0 h ⟨.tag, .ok, n.val, p.no, 0xFE, h.stamp, s.heldContent n h, 0, false⟩)
    (uid := h.uid) fun m g mem => by
      by_cases e : m = n
      · subst e
        rw [c.held, held] at mem
        exact absurd mem (List.not_mem_nil)
      · exact alone m e g (c.others m e ▸ mem)
  have still := State.resumeTags_still (fun m g tag => (tags m g ((c.tag m).symm.trans tag)).1)
    (fun m i inv => slots m i ((c.inv m).symm.trans inv)) (c.stage runs)
  have first : (s.rod n).held.zipIdx.find? (fun x => x.1.carrying) = some (h, 0) := by
    rw [held]
    simp [carrying]
  have waits := c.waiting.trans none'
  change execCarryLengthWord n s = _
  unfold execCarryLengthWord
  rw [first, plan]
  dsimp only
  unfold State.carryDone
  dsimp only
  rw [noWrites]
  dsimp only
  refine congrArg _ ?_
  change ((State.startWaiting (ix 24 n.val) (((s.carried n 0 h _).tagCarried n h.uid).fifo (ix 24 n.val)).waiting.length
    ((s.carried n 0 h _).tagCarried n h.uid)).discardDups h.uid).resumeTags = _
  rw [tagged, waits]
  exact (congrArg State.resumeTags dups).trans still

/-! ### A verdict by the filter (R238, R239) -/

theorem exec_filterVerdict_hit {f : Nat × Nat} (found : (s.rod n).held[j]? = some h) (plan : s.plan? n = some p)
    (pending : h.verdict = none) (filter : p.filter = some f) (apart : s.filterOverlap f = false)
    (hit : s.filterHas f (filterKey h.proto h.uid) = true) :
    exec (.filterVerdict n j) s = .next (s.modHeld n j (fun h => { h with verdict := some true })) := by
  rw [exec_filterVerdict_filter found plan pending filter, apart, hit]
  rfl

/-- The filter discards a record that it does not pass. -/
theorem exec_filterVerdict_discards {f : Nat × Nat} (found : (s.rod n).held[j]? = some h) (plan : s.plan? n = some p)
    (pending : h.verdict = none) (filter : p.filter = some f)
    (others : ∀ m g, s.tag? m = some g → g.gone = false ∧ g.uid ≠ h.uid)
    (fails : (!s.filterOverlap f && s.filterHas f (filterKey h.proto h.uid)) = false) :
    ∃ t, exec (.filterVerdict n j) s = .next t ∧ Filtered (when (s.filterOverlap f) (fun s => s.setF F.ROD_INV_ERR_OVERLAP) s) t n j := by
  refine ⟨_, exec_filterVerdict_filter found plan pending filter, ?_⟩
  rw [fails, if_neg Bool.false_ne_true]
  cases s.filterOverlap f
  · exact State.discard_filtered found others
  · exact State.discard_filtered (s := s.setF F.ROD_INV_ERR_OVERLAP) found others

end Sys2Proof.Machine
end

section
/-! PROOFS. O25. -/

open Sys2Proof Sys2Proof.Machine

/-- Settles O25: a discarded record leaves its rod, and what waited for it changes no held record (`State.discard_filtered`); a carry
with nothing that waits for it is the carry alone (`exec_carryLengthWord_carried`), whose parts are read in `Carried`. -/
theorem heldRecordsAreJudgedCarriedAndCounted : Obligations.HeldRecordsAreJudgedCarriedAndCounted := by
  intro s n j h p found plan others
  refine ⟨exec_filterVerdict_known found plan, exec_filterVerdict_noFilter found plan, fun f pending filter apart => ?_,
    fun f pending filter overlaps => ?_, ⟨fun stays => ?_, fun goes => ?_⟩,
    fun held carrying noWrites alone runs none' slots => ?_⟩
  · intro hit
    by_cases hits : s.filterHas f (filterKey h.proto h.uid) = true
    · exact ⟨_, exec_filterVerdict_hit found plan pending filter apart hits, fun _ => rfl,
        fun misses => absurd ((s.filterHas_iff f _).mp hits) misses⟩
    · obtain ⟨t, run, gone⟩ := exec_filterVerdict_discards found plan pending filter others (by simp [hits])
      rw [apart] at gone
      exact ⟨t, run, fun has => absurd ((s.filterHas_iff f _).mpr has) hits, fun _ => ⟨gone.held, gone.counted, gone.others⟩⟩
  · obtain ⟨t, run, gone⟩ := exec_filterVerdict_discards found plan pending filter others (by rw [overlaps]; rfl)
    rw [overlaps] at gone
    have apart : F.ROD_INV_ERR_OVERLAP.key 0 ≠ F.ROD_SPEC_DISCARD_FILTER_COUNT.key n.val := by
      simp only [Fld.key, fldKey]
      omega
    refine ⟨t, run, gone.overlap.trans (State.rd_wr_self _ _ 0 1), gone.held, gone.counted.trans ?_, gone.others⟩
    exact congrArg (fun k => (k + 1) % 2 ^ 32) (s.rd_wr_ne apart 1)
  · refine exec_heldRecordCarry_stays found fun carries => stays ?_
    obtain ⟨complete, passed, registered, idle, fresh, best, takes⟩ := carries
    exact ⟨complete, passed, registered, idle, fresh, best, takes⟩
  · obtain ⟨complete, passed, registered, idle, fresh, best, takes⟩ := goes
    refine ⟨_, exec_heldRecordCarry_starts found ⟨complete, passed, registered, idle, fresh, best, takes⟩, ?_,
      State.startGroup_takes takes, fun m ne => State.modHeld_others _ ne j _, rfl⟩
    rw [State.modHeld_self]
    exact congrArg (Option.map _) found
  · have c := s.carried_carried n 0 h ⟨.tag, .ok, n.val, p.no, 0xFE, h.stamp, s.heldContent n h, 0, false⟩
    refine ⟨_, exec_carryLengthWord_carried held carrying plan others noWrites alone runs none' slots, ?_, c.fifos, c.marked, c.others,
      c.plan.trans (congrArg (Option.map _) plan), c.counted⟩
    rw [c.held, held]
    rfl
end

section
/-! PROOFS. What the tally engine's shared operations change: said once, for its writes, its scan instants and its samples. -/

namespace Sys2Proof.Machine
open Sys2Proof

/-! ### The tally engine and the register fields that a command of it touches -/

/-- `t` differs from `s` at most in the tally engine and in the register fields with the listed keys. -/
def TallyRegs (s t : State) (keys : List Nat) : Prop := RegsOnly { s with tally := t.tally } t keys

section
variable {s t u : State} {k l : List Nat}

theorem TallyRegs.refl (s : State) : TallyRegs s s [] := RegsOnly.refl s

theorem TallyRegs.trans (h : TallyRegs s t k) (g : TallyRegs t u l) : TallyRegs s u (k ++ l) := by
  obtain ⟨h1, h2⟩ := h
  obtain ⟨g1, g2⟩ := g
  refine ⟨by rw [g1, h1], fun f i hk => ?_⟩
  simp only [List.mem_append, not_or] at hk
  exact (g2 f i hk.2).trans (h2 f i hk.1)

theorem TallyRegs.mono (h : TallyRegs s t k) (g : k ⊆ l) : TallyRegs s t l := RegsOnly.mono h g

theorem TallyRegs.wr (h : TallyRegs s t k) (f : Fld) (i v : Nat) : TallyRegs s (t.wr f i v) (k ++ [f.key i]) := RegsOnly.then h f i v

theorem TallyRegs.modTally (h : TallyRegs s t k) (f : TallyPart → TallyPart) : TallyRegs s (t.modTally f) k := by
  obtain ⟨frame, rest⟩ := h
  exact ⟨by rw [frame]; rfl, rest⟩

theorem TallyRegs.rd (h : TallyRegs s t k) {f : Fld} {i : Nat} (other : f.key i ∉ k) : t.rd f i = s.rd f i := h.2 f i other

end

/-- Fields of different registers have different keys. -/
theorem Fld.key_ne_of_addr {f g : Fld} {i j : Nat} (lo : f.lo < 32 ∧ g.lo < 32)
    (addr : f.addr + f.stride * i ≠ g.addr + g.stride * j) : f.key i ≠ g.key j := by
  simp only [Fld.key, fldKey]
  omega

theorem State.rd_modTally (s : State) (h : TallyPart → TallyPart) (f : Fld) (i : Nat) : (s.modTally h).rd f i = s.rd f i := rfl

/-! ### Rearming a rod (R289) -/

variable (s : State)

/-- Rearming a rod clears its bit of TLY_DISARM and leaves the others. -/
theorem State.rearm_disarmed (n : Nat) (m : Fin 24) :
    ((s.rearm n).rd F.TLY_DISARM_DISARM).testBit m.val = ((s.rd F.TLY_DISARM_DISARM).testBit m.val && decide (n ≠ m.val)) := by
  have cleared : (if bit (s.rd F.TLY_DISARM_DISARM) n then s.rd F.TLY_DISARM_DISARM - 2 ^ n else s.rd F.TLY_DISARM_DISARM) =
      s.rd F.TLY_DISARM_DISARM - (s.rd F.TLY_DISARM_DISARM &&& 2 ^ n) := by
    rw [Nat.and_two_pow, bit]
    cases (s.rd F.TLY_DISARM_DISARM).testBit n <;> simp
  unfold State.rearm
  dsimp only
  rw [cleared, State.rd_wr_self, show F.TLY_DISARM_DISARM.size = 2 ^ 24 from rfl, Nat.testBit_mod_two_pow, testBit_sub_and,
    Nat.testBit_two_pow, decide_eq_true m.isLt]
  simp

/-! ### Writes of TLY_EN and TLY_BASE as they act (R282, R289, R290) -/

@[simp] theorem State.tallyDisable_tally (n : Nat) :
    (s.tallyDisable n).tally = { s.tally with counts := vset s.tally.counts (ix 23 n) 0 } := rfl

theorem State.tallyDisable_regs (n : Nat) : TallyRegs s (s.tallyDisable n) [F.TLY_DISARM_DISARM.key 0] :=
  ((TallyRegs.refl s).modTally _).trans (TallyRegs.wr (TallyRegs.refl _) _ _ _)

theorem State.tallyDisable_disarmed (n : Nat) (m : Fin 24) : ((s.tallyDisable n).rd F.TLY_DISARM_DISARM).testBit m.val =
    ((s.rd F.TLY_DISARM_DISARM).testBit m.val && decide (n ≠ m.val)) := State.rearm_disarmed _ n m

/-- The tally engine with the fractions of a rod's baseline zero. -/
def TallyPart.wholeBase (t : TallyPart) (n : Nat) : TallyPart :=
  { t with fracA := vset t.fracA (ix 23 n) 0, fracP := vset t.fracP (ix 23 n) 0 }

theorem TallyPart.wholeBase_fractions (t : TallyPart) (n : Fin 24) :
    vget (t.wholeBase n.val).fracA n = 0 ∧ vget (t.wholeBase n.val).fracP n = 0 := by
  simp [TallyPart.wholeBase, ix_fin]

/-- The fields of a rod's TLY_BASE. -/
def tallyBaseKeys (n : Nat) : List Nat := [F.TLY_BASE_AMP.key n, F.TLY_BASE_VALID.key n, F.TLY_BASE_PH.key n]

/-- A baseline as a write of TLY_BASE sets it. -/
def State.baseTaken (s : State) (n v : Nat) : State :=
  (((s.wr F.TLY_BASE_AMP n (bits v 11 0)).wr F.TLY_BASE_VALID n (bits v 15 15)).wr F.TLY_BASE_PH n (bits v 25 16)).modTally
    (·.wholeBase n)

theorem State.tallyBase_eq (n v : Nat) : s.tallyBase n v = if bit v 15 then s.baseTaken n v else (s.baseTaken n v).rearm n := rfl

theorem State.baseTaken_regs (n v : Nat) : TallyRegs s (s.baseTaken n v) (tallyBaseKeys n) :=
  ((((TallyRegs.refl s).wr _ n _).wr _ n _).wr _ n _).modTally _

theorem State.baseTaken_rd (n v : Nat) : (s.baseTaken n v).rd F.TLY_BASE_AMP n = v % 4096 ∧
    (s.baseTaken n v).rd F.TLY_BASE_VALID n = v / 2 ^ 15 % 2 ∧ (s.baseTaken n v).rd F.TLY_BASE_PH n = v / 2 ^ 16 % 1024 := by
  simp only [State.baseTaken, State.rd_modTally]
  refine ⟨?_, ?_, ?_⟩
  · rw [State.rd_wr_ne _ (Fld.key_ne_of_lo (by decide)), State.rd_wr_ne _ (Fld.key_ne_of_lo (by decide)), State.rd_wr_self]
    exact (bits_mod_size v 11 0 rfl).trans (bits_low v 11)
  · rw [State.rd_wr_ne _ (Fld.key_ne_of_lo (by decide)), State.rd_wr_self]
    exact (bits_mod_size v 15 15 rfl).trans (bits_eq v 15 15)
  · rw [State.rd_wr_self]
    exact (bits_mod_size v 25 16 rfl).trans (bits_eq v 25 16)

/-- The register of a rod's baseline is none of those before it. -/
theorem tallyBase_key_ne (n : Nat) {f g : Fld} {j : Nat} (base : f ∈ [F.TLY_BASE_AMP, F.TLY_BASE_VALID, F.TLY_BASE_PH])
    (before : g.addr + g.stride * j < 0x5F40) (lo : g.lo < 32) : f.key n ≠ g.key j := by
  simp only [List.mem_cons, List.not_mem_nil, or_false] at base
  rcases base with rfl | rfl | rfl <;> exact Fld.key_ne_of_addr ⟨by decide, lo⟩ (by dsimp only; omega)

theorem not_mem_tallyBaseKeys (n : Nat) {g : Fld} {j : Nat} (before : g.addr + g.stride * j < 0x5F40) (lo : g.lo < 32) :
    g.key j ∉ tallyBaseKeys n := by
  simp only [tallyBaseKeys, List.mem_cons, List.not_mem_nil, or_false, not_or]
  exact ⟨(tallyBase_key_ne n (by simp) before lo).symm, (tallyBase_key_ne n (by simp) before lo).symm,
    (tallyBase_key_ne n (by simp) before lo).symm⟩

@[simp] theorem State.tallyBase_tally (n v : Nat) : (s.tallyBase n v).tally = s.tally.wholeBase n := by
  rw [State.tallyBase_eq]
  split <;> rfl

theorem State.tallyBase_regs (n v : Nat) :
    TallyRegs s (s.tallyBase n v) (tallyBaseKeys n ++ [F.TLY_DISARM_DISARM.key 0]) := by
  rw [State.tallyBase_eq]
  split
  · exact (s.baseTaken_regs n v).mono (List.subset_append_left _ _)
  · exact (s.baseTaken_regs n v).wr _ _ _

theorem State.tallyBase_rd (n v : Nat) {f : Fld} (base : f ∈ [F.TLY_BASE_AMP, F.TLY_BASE_VALID, F.TLY_BASE_PH]) :
    (s.tallyBase n v).rd f n = (s.baseTaken n v).rd f n := by
  rw [State.tallyBase_eq]
  split
  · rfl
  · exact State.rd_wr_ne _ (tallyBase_key_ne n base (by decide) (by decide)).symm _

/-- A write of TLY_BASE with VALID 0 rearms its rod. -/
theorem State.tallyBase_rearms (n : Fin 24) {v : Nat} (invalid : bit v 15 = false) :
    ((s.tallyBase n.val v).rd F.TLY_DISARM_DISARM).testBit n.val = false := by
  rw [State.tallyBase_eq, if_neg (by simp [invalid]), State.rearm_disarmed]
  simp

/-! ### Writes that wait for the next scan instant (R279, R283) -/

theorem State.modTally_pend_nil {s : State} (none' : s.tally.pend = []) : s.modTally (fun t => { t with pend := [] }) = s := by
  have same : ({ s.tally with pend := [] } : TallyPart) = s.tally := by rw [← none']
  rw [State.modTally, same]

/-- With no waiting write nothing acts. -/
theorem State.tallyPending_nil {s : State} (none' : s.tally.pend = []) : s.tallyPending = s := by
  rw [State.tallyPending, State.modTally_pend_nil none', none']
  rfl

/-- What a waiting write leaves, as it acts: the sequence, and that no write waits. -/
theorem State.tallyPending_keeps_seq : s.tallyPending.tally.pend = [] ∧ s.tallyPending.tally.seq = s.tally.seq := by
  refine forAll_inv (fun t : State => t.tally.pend = [] ∧ t.tally.seq = s.tally.seq) (fun p t h => ?_) _ _ ⟨rfl, rfl⟩
  cases p.2 with
  | some b => simpa [TallyPart.wholeBase] using h
  | none => simpa using h

/-- The waiting writes leave the registers before TLY_BASE, except TLY_DISARM. -/
theorem State.tallyPending_rd {g : Fld} {j : Nat} (before : g.addr + g.stride * j < 0x5F40) (lo : g.lo < 32)
    (other : g.key j ≠ F.TLY_DISARM_DISARM.key 0) : s.tallyPending.rd g j = s.rd g j := by
  refine forAll_keeps (fun t : State => t.rd g j) (fun p t => ?_) _ _
  cases p.2 with
  | some b => exact (t.tallyBase_regs p.1 b).rd (by simp [not_mem_tallyBaseKeys p.1 before lo, other])
  | none => exact (t.tallyDisable_regs p.1).rd (by simpa using other)

/-- So does a write that comes, whether it waits or acts. -/
theorem State.tallyLater_rd (n : Nat) (v : Option Nat) {g : Fld} {j : Nat} (before : g.addr + g.stride * j < 0x5F40) (lo : g.lo < 32)
    (other : g.key j ≠ F.TLY_DISARM_DISARM.key 0) : (s.tallyLater n v).rd g j = s.rd g j := by
  unfold State.tallyLater
  split
  · rfl
  · exact State.tallyPending_rd _ before lo other

/-- During a sequence a write waits behind the others. -/
theorem State.tallyLater_waits {s : State} (scanning : s.tally.seq ≠ none) (n : Nat) (v : Option Nat) :
    s.tallyLater n v = s.modTally (fun t => { t with pend := t.pend ++ [(n, v)] }) :=
  if_pos (Option.isSome_iff_ne_none.mpr scanning)

/-- Without a sequence and with no waiting write it acts at once. -/
theorem State.tallyLater_acts {s : State} (idle : s.tally.seq = none) (none' : s.tally.pend = []) (n : Nat) :
    s.tallyLater n none = s.tallyDisable n ∧ ∀ v, s.tallyLater n (some v) = s.tallyBase n v := by
  have alone : ∀ v, (s.modTally (fun t => { t with pend := t.pend ++ [(n, v)] })).tally.pend = [(n, v)] := by simp [none']
  have emptied := State.modTally_pend_nil none'
  simp only [State.tallyLater, idle, Option.isSome_none, Bool.false_eq_true, if_false, State.tallyPending, alone]
  exact ⟨congrArg (State.tallyDisable · n) emptied, fun v => congrArg (State.tallyBase · n v) emptied⟩

/-! ### Several bits of TLY_EN cleared at once (R290) -/

/-- During a sequence the cleared bits wait. -/
theorem State.tallyLater_each_waits (l : List Nat) {s : State} (scanning : s.tally.seq ≠ none) :
    forAll l (fun (n : Nat) (s : State) => s.tallyLater n none) s =
      s.modTally (fun t => { t with pend := t.pend ++ l.map (fun n => (n, none)) }) := by
  induction l generalizing s with
  | nil => simp [State.modTally]
  | cons n l ih =>
    rw [forAll_cons, State.tallyLater_waits scanning, ih (by simpa using scanning)]
    simp [State.modTally]

/-- `t` is `s` after the rods of the list were disabled: counts zero, rearmed, and nothing else changed. -/
structure TallyDisabled (s t : State) (l : List Nat) : Prop where
  regs : TallyRegs s t [F.TLY_DISARM_DISARM.key 0]
  tally : t.tally = { s.tally with counts := t.tally.counts }
  counts : ∀ m : Fin 24, vget t.tally.counts m = if m.val ∈ l then 0 else vget s.tally.counts m
  disarmed : ∀ m : Fin 24, (t.rd F.TLY_DISARM_DISARM).testBit m.val =
    ((s.rd F.TLY_DISARM_DISARM).testBit m.val && !decide (m.val ∈ l))

/-- A disabled rod, and then the others of a list. -/
theorem TallyDisabled.cons {s t : State} {l : List Nat} {n : Nat} (rod : n < 24) (h : TallyDisabled (s.tallyDisable n) t l) :
    TallyDisabled s t (n :: l) where
  regs := ((s.tallyDisable_regs n).trans h.regs).mono (by simp)
  tally := h.tally
  counts m := by
    obtain ⟨k, rfl⟩ : ∃ k : Fin 24, k.val = n := ⟨⟨n, rod⟩, rfl⟩
    rw [h.counts, State.tallyDisable_tally, ix_fin]
    by_cases e : m = k
    · simp [e]
    · simp [vget_vset_ne _ _ (Ne.symm e), Fin.val_inj, e]
  disarmed m := by
    rw [h.disarmed, State.tallyDisable_disarmed, Bool.and_assoc]
    by_cases e : m.val = n
    · simp [e]
    · simp [e, Ne.symm e]

/-- Without a sequence and with no waiting write the cleared bits act at once. -/
theorem State.tallyLater_each_acts {l : List Nat} (rods : ∀ n ∈ l, n < 24) {s : State} (idle : s.tally.seq = none)
    (none' : s.tally.pend = []) : TallyDisabled s (forAll l (fun (n : Nat) (s : State) => s.tallyLater n none) s) l := by
  induction l generalizing s with
  | nil => exact ⟨(TallyRegs.refl s).mono (by simp), rfl, by simp, by simp⟩
  | cons n l ih =>
    rw [forAll_cons, (State.tallyLater_acts idle none' n).1]
    exact .cons (rods n (by simp)) (ih (fun m hm => rods m (by simp [hm])) idle none')

/-! ### TALLY_RUN_WRITE, TALLY_EN_WRITE and TALLY_BASE_WRITE while AON is ON -/

section
variable {s : State} (on : s.isOn .aon = true)
include on

theorem exec_tallyRunWrite (w : Word) : exec (.tallyRunWrite w) s = .next (s.writeTallyCtl w) :=
  congrArg Host.Outcome.next (State.hostWrite_on on)

theorem exec_tallyEnWrite (w : Word) : exec (.tallyEnWrite w) s = .next (s.writeTallyEn w) :=
  congrArg Host.Outcome.next (State.hostWrite_on on)

theorem exec_tallyBaseWrite (n : Fin 24) (w : Word) :
    exec (.tallyBaseWrite n w) s = .next (s.tallyLater n.val (some w.toNat)) := by
  have aon : domainOf (0x5F40 + 4 * n.val) = .aon := by decide +revert
  exact congrArg Host.Outcome.next (State.hostWrite_on (aon ▸ on))

end

theorem State.writeTallyCtl_rd (w : Word) : (s.writeTallyCtl w).rd F.TLY_CTL_RUN = w.toNat % 2 := by
  have run : (s.wr F.TLY_CTL_RUN 0 (bits w.toNat 0 0)).rd F.TLY_CTL_RUN = w.toNat % 2 :=
    (State.rd_wr_self _ _ _ _).trans ((bits_mod_size w.toNat 0 0 rfl).trans (bits_low w.toNat 0))
  unfold State.writeTallyCtl
  split <;> exact run

theorem State.writeTallyCtl_tally (w : Word) : (s.writeTallyCtl w).tally =
    if w.getLsbD 0 then s.tally else { s.tally with seq := s.tally.seq.map (fun q => { q with last := true }) } := by
  unfold State.writeTallyCtl
  rw [bit_toNat]
  split <;> rfl

theorem State.writeTallyCtl_regs (w : Word) : TallyRegs s (s.writeTallyCtl w) [F.TLY_CTL_RUN.key 0] := by
  unfold State.writeTallyCtl
  split
  · exact (TallyRegs.refl s).wr _ _ _
  · exact ((TallyRegs.refl s).wr _ _ _).modTally _

/-- The rods whose TLY_EN bit a write clears, in ascending order. -/
def State.enCleared (s : State) (w : Word) : List Nat :=
  (List.range 24).filter (fun n => (s.rd F.TLY_EN_EN).testBit n && !w.getLsbD n)

/-- TLY_EN as a write sets it. -/
def State.enTaken (s : State) (w : Word) : State := s.wr F.TLY_EN_EN 0 (bits w.toNat 23 0)

theorem State.writeTallyEn_eq (w : Word) :
    s.writeTallyEn w = forAll (s.enCleared w) (fun (n : Nat) (s : State) => s.tallyLater n none) (s.enTaken w) := rfl

theorem State.writeTallyEn_rd (w : Word) : (s.writeTallyEn w).rd F.TLY_EN_EN = w.toNat % 2 ^ 24 := by
  have taken : (s.enTaken w).rd F.TLY_EN_EN = w.toNat % 2 ^ 24 :=
    (State.rd_wr_self _ _ _ _).trans ((bits_mod_size w.toNat 23 0 rfl).trans (bits_low w.toNat 23))
  rw [State.writeTallyEn_eq, forAll_keeps (fun t : State => t.rd F.TLY_EN_EN)
    fun n t => t.tallyLater_rd n none (by decide) (by decide) (by decide)]
  exact taken

theorem State.enTaken_regs (w : Word) : TallyRegs s (s.enTaken w) [F.TLY_EN_EN.key 0] := (TallyRegs.refl s).wr _ _ _

theorem State.mem_enCleared (w : Word) (m : Fin 24) :
    m.val ∈ s.enCleared w ↔ (s.rd F.TLY_EN_EN).testBit m.val = true ∧ w.getLsbD m.val = false := by
  simp [State.enCleared]

/-- A write of TLY_EN during a sequence: the cleared bits wait. -/
theorem State.writeTallyEn_waits {s : State} (scanning : s.tally.seq ≠ none) (w : Word) : s.writeTallyEn w =
    (s.enTaken w).modTally (fun t => { t with pend := t.pend ++ (s.enCleared w).map (fun n => (n, none)) }) :=
  State.tallyLater_each_waits _ scanning

/-- A write of TLY_EN with no sequence and no waiting write: the cleared rods are disabled. -/
theorem State.writeTallyEn_acts {s : State} (idle : s.tally.seq = none) (none' : s.tally.pend = []) (w : Word) :
    TallyDisabled (s.enTaken w) (s.writeTallyEn w) (s.enCleared w) :=
  State.tallyLater_each_acts (fun _ mem => List.mem_range.mp (List.mem_filter.mp mem).1) idle none'


end Sys2Proof.Machine
end

section
/-! PROOFS. O31: tally writes, scan instants, bursts and the events of detections. -/

namespace Sys2Proof.Machine
open Sys2Proof
variable (s : State)

/-! ### SCAN_INSTANT (R275 to R279) -/

theorem State.scanSkipped_iff : s.scanSkipped = true ↔ s.field.shutdown = true ∨ (s.flag F.TLY_CFG_XGUARD = true ∧
    (s.surveyBusy = true ∨ ∃ n, (s.rod n).carrier = .on ∨ (s.rod n).carrier = .rampUp ∨ (s.rod n).carrier = .rampDown)) := by
  simp [State.scanSkipped, allRods, or_assoc]

/-- The enabled rods whose bank sleeps, in ascending order (R275). -/
def State.scanRods (s : State) : List Nat := (List.range 24).filter (fun n => (s.rd F.TLY_EN_EN).testBit n && s.bankAsleep n)

theorem State.scanRods_head : s.scanRods.headD 0x1F < 32 := by
  cases rods : s.scanRods with
  | nil => decide
  | cons n l =>
    have mem : n ∈ s.scanRods := rods ▸ List.mem_cons_self
    exact Nat.lt_trans (List.mem_range.mp (List.mem_filter.mp mem).1) (by decide)

/-- A sequence with the settings of its scan instant (R279). -/
def State.scanSeq (s : State) : TallySeq :=
  ⟨s.scanRods, false, false, s.rd F.TLY_CFG_CONFIRM, s.rd F.TLY_CFG_TRACK, s.flag F.TLY_CFG_REARM, s.rd F.TLY_TH_AMP_TH,
    s.rd F.TLY_TH_PH_TH, s.rd F.TLY_CFG_LEVEL⟩

/-- The sequence of the eligible rods begins. -/
def State.scanBegun (s : State) : State :=
  (((s.count F.TLY_CNT_SCAN_COUNT).modTally (fun t => { t with seq := some s.scanSeq })).setF F.TLY_STAT_SCANNING).wr
    F.TLY_STAT_SLOT_ROD 0 (s.scanRods.headD 0x1F)

/-- What an instant does once the waiting writes have acted. -/
def State.scanned (s : State) : State :=
  if s.scanSkipped then s.count F.TLY_CNT_SKIP_COUNT
  else if s.scanRods.isEmpty then s.count F.TLY_CNT_SCAN_COUNT
  else s.scanBegun

theorem exec_scanInstant_due {s : State} (run : s.flag F.TLY_CTL_RUN = true) (idle : s.tally.seq = none) :
    exec .scanInstant s = .next s.tallyPending.scanned := by
  have settings : ∀ (u : State) {g : Fld}, F.TLY_CNT_SCAN_COUNT.key 0 ≠ g.key 0 → (u.count F.TLY_CNT_SCAN_COUNT).rd g = u.rd g :=
    fun u _ other => u.rd_wr_ne other _
  have due : (s.flag F.TLY_CTL_RUN && s.tally.seq.isNone) = true := by simp [run, idle]
  refine congrArg Host.Outcome.next ((if_pos due).trans ?_)
  simp (disch := decide) only [State.flag, settings]
  rfl

theorem exec_scanInstant_undue {s : State} (undue : s.flag F.TLY_CTL_RUN = false ∨ s.tally.seq ≠ none) :
    exec .scanInstant s = .next s := by
  have off : (s.flag F.TLY_CTL_RUN && s.tally.seq.isNone) = false := by
    rcases undue with stopped | scanning
    · simp [stopped]
    · simpa using fun _ => Option.ne_none_iff_isSome.mp scanning
  exact congrArg Host.Outcome.next (if_neg (by simp [off]))

/-- The waiting writes leave an instant due, and none of them waits. -/
theorem State.tallyPending_due {s : State} (run : s.flag F.TLY_CTL_RUN = true) (idle : s.tally.seq = none) :
    exec .scanInstant s = exec .scanInstant s.tallyPending ∧ s.tallyPending.tally.pend = [] := by
  obtain ⟨none', seq⟩ := s.tallyPending_keeps_seq
  have run' : s.tallyPending.flag F.TLY_CTL_RUN = true := by
    rw [State.flag, s.tallyPending_rd (by decide) (by decide) (by decide)]
    exact run
  rw [exec_scanInstant_due run idle, exec_scanInstant_due run' (seq.trans idle), State.tallyPending_nil none']
  exact ⟨rfl, none'⟩

theorem State.scanned_skips {s : State} (skip : s.scanSkipped = true) : s.scanned = s.count F.TLY_CNT_SKIP_COUNT := if_pos skip

/-- An instant that is not skipped: it is counted, and the sequence of the eligible rods begins. -/
theorem State.scanned_counts {s : State} (goes : ¬ s.scanSkipped = true) :
    s.scanned.rd F.TLY_CNT_SCAN_COUNT = (s.rd F.TLY_CNT_SCAN_COUNT + 1) % F.TLY_CNT_SCAN_COUNT.size ∧
    (s.scanRods = [] → s.scanned.tally = s.tally) ∧
    (s.scanRods ≠ [] → s.scanned.tally = { s.tally with seq := some s.scanSeq } ∧
      s.scanned.rd F.TLY_STAT_SCANNING = 1 ∧ s.scanned.rd F.TLY_STAT_SLOT_ROD = s.scanRods.headD 0x1F) ∧
    TallyRegs s s.scanned [F.TLY_CNT_SCAN_COUNT.key 0, F.TLY_STAT_SCANNING.key 0, F.TLY_STAT_SLOT_ROD.key 0] := by
  have counted : (s.count F.TLY_CNT_SCAN_COUNT).rd F.TLY_CNT_SCAN_COUNT = (s.rd F.TLY_CNT_SCAN_COUNT + 1) % F.TLY_CNT_SCAN_COUNT.size :=
    State.rd_wr_self _ _ _ _
  have count : TallyRegs s (s.count F.TLY_CNT_SCAN_COUNT) [F.TLY_CNT_SCAN_COUNT.key 0] := (TallyRegs.refl s).wr _ _ _
  by_cases rods : s.scanRods = []
  · have none' : s.scanned = s.count F.TLY_CNT_SCAN_COUNT := (if_neg goes).trans (if_pos (by simp [rods]))
    rw [none']
    exact ⟨counted, fun _ => rfl, fun some' => absurd rods some', count.mono (by simp)⟩
  · have begun : s.scanned = s.scanBegun := (if_neg goes).trans (if_neg (by simpa using rods))
    rw [begun]
    refine ⟨?_, fun none' => absurd none' rods, fun _ => ⟨rfl, ?_, ?_⟩, ((count.modTally _).wr F.TLY_STAT_SCANNING 0 1).wr _ 0 _⟩
    · rw [State.scanBegun, State.rd_wr_ne _ (by decide), State.setF, State.rd_wr_ne _ (by decide), State.rd_modTally, counted]
    · rw [State.scanBegun, State.rd_wr_ne _ (by decide), State.setF, State.rd_wr_self]
      rfl
    · rw [State.scanBegun, State.rd_wr_self]
      exact Nat.mod_eq_of_lt s.scanRods_head

/-! ### TALLY_BURST (R274, R278, R279) -/

section
variable {s : State} {q : TallySeq} {n : Nat} {rest : List Nat}

theorem exec_tallyBurst_idle (idle : s.tally.seq = none) : exec .tallyBurst s = .next s := by
  change Host.Outcome.next _ = _
  rw [idle]

theorem exec_tallyBurst_slot (scanning : s.tally.seq = some q) (slot : q.rods = n :: rest) : exec .tallyBurst s = .next (
    if s.bankAsleep n then (s.modTally (fun t => { t with seq := some { q with burst := true } })).emitOut (.tallyBurst n q.level)
    else s) := by
  change Host.Outcome.next _ = _
  rw [scanning]
  dsimp only
  rw [slot]

end

/-! ### TALLY_WAKE_EVENT (R287) -/

/-- The event of a detection: what a sample differs by, and the count it was confirmed at. -/
def State.raiseHit (h : TallyHit) (s : State) : State :=
  s.raise .tallyWake h.rod (leBytes 2 (h.dA % 65536).toNat ++ leBytes 2 (h.dP % 65536).toNat ++ leBytes 1 h.count)

/-- The detections whose TLY_WAKE bit is set, in ascending rod number. -/
def State.hitsDue (s : State) : List TallyHit :=
  (s.tally.hits.filter (fun h => (s.rd F.TLY_WAKE_WAKE).testBit h.rod)).foldl (fun acc h => insHit h acc) []

theorem State.raiseHit_tally (h : TallyHit) : (s.raiseHit h).tally = s.tally := by
  rw [State.raiseHit, State.raise_frame]

theorem exec_tallyWakeEvent_on {s : State} (on : s.isOn .core = true) :
    exec .tallyWakeEvent s = .next (forAll s.hitsDue State.raiseHit { s with tally := { s.tally with hits := [] } }) :=
  congrArg Host.Outcome.next (if_pos on)

theorem exec_tallyWakeEvent_off {s : State} (off : s.isOn .core = false) : exec .tallyWakeEvent s = .next s :=
  congrArg Host.Outcome.next (if_neg (by simp [off]))

theorem State.hitsDue_single {s : State} {h : TallyHit} (single : s.tally.hits = [h]) :
    s.hitsDue = if (s.rd F.TLY_WAKE_WAKE).testBit h.rod then [h] else [] := by
  rw [State.hitsDue, single, List.filter_cons]
  split <;> rfl

end Sys2Proof.Machine

open Sys2Proof Sys2Proof.Machine

/-- Settles O31: a write of TLY_EN or TLY_BASE acts at once exactly when no sequence runs, an instant that is due runs the waiting
writes first, and bursts and events follow the slot and the detections that are held. -/
theorem tallyScansVisitTheSleepingEnabledRods : Obligations.TallyScansVisitTheSleepingEnabledRods := by
  intro s
  refine ⟨fun w on => ?_, fun w on => ?_, fun n w on => ?_, State.tallyPending_due, exec_scanInstant_undue, fun run idle none' => ?_,
    fun q n rest scanning slot => ?_, exec_tallyBurst_idle, fun on => ?_, fun h on single set => ?_, fun h on single clear => ?_,
    exec_tallyWakeEvent_off⟩
  · exact ⟨_, exec_tallyRunWrite on w, s.writeTallyCtl_rd w, s.writeTallyCtl_tally w, s.writeTallyCtl_regs w⟩
  · refine ⟨_, exec_tallyEnWrite on w, s.writeTallyEn_rd w, fun scanning => ?_, fun idle none' => ?_⟩
    · rw [State.writeTallyEn_waits scanning]
      exact ⟨(s.enTaken_regs w).modTally _, rfl⟩
    · have d := State.writeTallyEn_acts idle none' w
      refine ⟨(s.enTaken_regs w).trans d.regs, fun m => ⟨?_, ?_, by rw [d.tally]; rfl, by rw [d.tally]; rfl⟩⟩
      · rw [d.counts]
        simp only [s.mem_enCleared w m]
        rfl
      · rw [d.disarmed, (s.enTaken_regs w).rd (by decide)]
        simp only [s.mem_enCleared w m, Bool.decide_and]
        simp
  · refine ⟨fun scanning => ?_, fun idle none' => ⟨_, exec_tallyBaseWrite on n w, ?_⟩⟩
    · rw [exec_tallyBaseWrite on, State.tallyLater_waits scanning]
      rfl
    · obtain ⟨amp, valid, ph⟩ := s.baseTaken_rd n.val w.toNat
      obtain ⟨fracA, fracP⟩ := s.tally.wholeBase_fractions n
      rw [(State.tallyLater_acts idle none' n.val).2 w.toNat, s.tallyBase_rd _ _ (by simp), s.tallyBase_rd _ _ (by simp),
        s.tallyBase_rd _ _ (by simp), State.tallyBase_tally]
      exact ⟨amp, valid, ph, s.tallyBase_rearms n, fracA, fracP, rfl, s.tallyBase_tally n.val w.toNat ▸ s.tallyBase_regs n.val w.toNat⟩
  · have skips := s.scanSkipped_iff
    rw [exec_scanInstant_due run idle, State.tallyPending_nil none']
    refine ⟨fun skip => ⟨_, rfl, ?_⟩, fun goes => ⟨_, rfl, State.scanned_counts fun skip => goes (skips.mp skip)⟩⟩
    rw [State.scanned_skips (skips.mpr skip)]
    exact ⟨rfl, State.rd_wr_self _ _ _ _, RegsOnly.wr s _ _ _⟩
  · rw [exec_tallyBurst_slot scanning slot]
    refine ⟨fun asleep => ?_, fun awake => by simp [awake]⟩
    rw [if_pos asleep, State.emitOut_logged]
    rfl
  · exact ⟨_, exec_tallyWakeEvent_on on, forAll_keeps State.tally (fun h x => x.raiseHit_tally h) _ _⟩
  · rw [exec_tallyWakeEvent_on on, State.hitsDue_single single, if_pos set]
    rfl
  · rw [exec_tallyWakeEvent_on on, State.hitsDue_single single, if_neg (by simp [clear])]
    rfl
end

section
/-! PROOFS. O32: what a sample does to its rod's baseline, count, TLY_WAKE bit and detections. -/

namespace Sys2Proof.Machine
open Sys2Proof
variable (s : State) (q : TallySeq)

/-! ### The slot ends (R278) -/

/-- The next rod's slot begins, or the sequence ends. -/
def State.slotOver (s : State) (q : TallySeq) (rest : List Nat) : State :=
  if rest.isEmpty || q.last then s.tallyIdle
  else (s.modTally (fun t => { t with seq := some { q with rods := rest, burst := false } })).wr F.TLY_STAT_SLOT_ROD 0 (rest.headD 0x1F)

theorem State.slotOver_regs (rest : List Nat) :
    TallyRegs s (s.slotOver q rest) [F.TLY_STAT_SCANNING.key 0, F.TLY_STAT_SLOT_ROD.key 0] := by
  unfold State.slotOver
  split
  · exact (((TallyRegs.refl s).modTally _).wr _ _ _).wr _ _ _
  · exact (((TallyRegs.refl s).modTally _).wr _ _ _).mono (by simp)

theorem State.slotOver_tally (rest : List Nat) : (s.slotOver q rest).tally = { s.tally with seq := (s.slotOver q rest).tally.seq } := by
  unfold State.slotOver
  split <;> rfl

/-- The end of a slot leaves the registers after TLY_STAT. -/
theorem State.slotOver_rd (rest : List Nat) {g : Fld} {j : Nat} (after : 0x5F10 < g.addr + g.stride * j) (lo : g.lo < 32) :
    (s.slotOver q rest).rd g j = s.rd g j := by
  have other : ∀ f : Fld, f.addr = 0x5F10 → f.stride = 0 → f.lo < 32 → g.key j ≠ f.key 0 := fun f addr stride lo' =>
    Fld.key_ne_of_addr ⟨lo, lo'⟩ (by rw [addr, stride]; omega)
  refine (s.slotOver_regs q rest).rd ?_
  simp only [List.mem_cons, List.not_mem_nil, or_false, not_or]
  exact ⟨other _ rfl rfl (by decide), other _ rfl rfl (by decide)⟩

theorem State.slotOver_ends {q : TallySeq} {rest : List Nat} (last : rest = [] ∨ q.last = true) :
    (s.slotOver q rest).tally.seq = none ∧ (s.slotOver q rest).rd F.TLY_STAT_SCANNING = 0 := by
  have ends : (rest.isEmpty || q.last) = true := by simpa using last
  rw [State.slotOver, if_pos ends]
  refine ⟨rfl, ?_⟩
  rw [State.tallyIdle, State.rd_wr_ne _ (by decide), State.rd_wr_self]
  rfl

theorem State.slotOver_goes {q : TallySeq} {rest : List Nat} (more : rest ≠ []) (goes : q.last = false) :
    (s.slotOver q rest).tally.seq = some { q with rods := rest, burst := false } := by
  rw [State.slotOver, if_neg (by simp [more, goes])]
  rfl

theorem exec_tallyEvaluate {s : State} {q : TallySeq} {n : Nat} {rest : List Nat} (scanning : s.tally.seq = some q)
    (slot : q.rods = n :: rest) (amp ph : Nat) : exec (.tallyEvaluate amp ph) s =
      .next ((if q.burst then s.tallyEval q n (amp % 4096) (ph % 1024) else s).slotOver q rest) := by
  change Host.Outcome.next _ = _
  rw [scanning]
  dsimp only
  rw [slot]
  rfl

/-! ### TLY_LAST, the count and the baseline (R280, R282, R284, R292) -/

/-- A write of TLY_LAST leaves the registers before it. -/
theorem State.tallyLast_rd (n amp ph cnt : Nat) (above : Bool) {g : Fld} {j : Nat} (before : g.addr + g.stride * j < 0x5FA0)
    (lo : g.lo < 32) : (s.tallyLast n amp ph cnt above).rd g j = s.rd g j := by
  have other : ∀ f : Fld, f.addr = 0x5FA0 → f.lo < 32 → f.key n ≠ g.key j := fun f addr lo' =>
    Fld.key_ne_of_addr ⟨lo', lo⟩ (by omega)
  rw [State.tallyLast, State.rd_wr_ne _ (other _ rfl (by decide)), State.rd_wr_ne _ (other _ rfl (by decide)),
    State.rd_wr_ne _ (other _ rfl (by decide)), State.rd_wr_ne _ (other _ rfl (by decide))]

/-- `t` has a sample in TLY_LAST of rod `n`. -/
def SampleIn (t : State) (n amp ph : Nat) : Prop := t.rd F.TLY_LAST_AMP n = amp % 4096 ∧ t.rd F.TLY_LAST_PH n = ph % 1024

theorem State.tallyLast_sample (n amp ph cnt : Nat) (above : Bool) : SampleIn (s.tallyLast n amp ph cnt above) n amp ph := by
  refine ⟨?_, ?_⟩
  · rw [State.tallyLast, State.rd_wr_ne _ (Fld.key_ne_of_lo (by decide)), State.rd_wr_ne _ (Fld.key_ne_of_lo (by decide)),
      State.rd_wr_ne _ (Fld.key_ne_of_lo (by decide)), State.rd_wr_self]
    rfl
  · rw [State.tallyLast, State.rd_wr_ne _ (Fld.key_ne_of_lo (by decide)), State.rd_wr_ne _ (Fld.key_ne_of_lo (by decide)), State.rd_wr_self]
    rfl

theorem State.tallyLast_over (n amp ph cnt : Nat) (above : Bool) :
    (s.tallyLast n amp ph cnt above).rd F.TLY_LAST_OVER n = b2n above := by
  rw [State.tallyLast, State.rd_wr_self]
  cases above <;> rfl

/-- What writes no register from TLY_LAST on leaves the sample there. -/
theorem SampleIn.kept {t u : State} {n amp ph : Nat} (h : SampleIn t n amp ph)
    (keep : ∀ (g : Fld), 0x5FA0 ≤ g.addr + g.stride * n → g.lo < 32 → u.rd g n = t.rd g n) : SampleIn u n amp ph := by
  obtain ⟨amp', ph'⟩ := h
  exact ⟨(keep _ (by dsimp only; omega) (by decide)).trans amp', (keep _ (by dsimp only; omega) (by decide)).trans ph'⟩

theorem State.setTallyCount_count (n : Fin 24) (k : Nat) : vget (s.setTallyCount n.val k).tally.counts n = k := by
  simp [State.setTallyCount, ix_fin]

theorem State.setTallyCount_rd (n k : Nat) (g : Fld) (j : Nat) : (s.setTallyCount n k).rd g j = s.rd g j := rfl

/-- The moved baseline is in the register of its rod's baseline and in the fractions. -/
theorem State.trackBase_regs (n t amp ph : Nat) :
    TallyRegs s (s.trackBase n t amp ph) [F.TLY_BASE_AMP.key n, F.TLY_BASE_PH.key n] :=
  (((TallyRegs.refl s).wr _ _ _).wr _ _ _).modTally _

theorem State.trackBase_tally (n t amp ph : Nat) :
    (s.trackBase n t amp ph).tally.counts = s.tally.counts ∧ (s.trackBase n t amp ph).tally.hits = s.tally.hits := ⟨rfl, rfl⟩

theorem State.trackBase_rd (n : Fin 24) (t amp ph : Nat) {g : Fld} {j : Nat} (outside : g.addr + g.stride * j < 0x5F40 ∨
    0x5FA0 ≤ g.addr + g.stride * j) (lo : g.lo < 32) : (s.trackBase n.val t amp ph).rd g j = s.rd g j := by
  have other : ∀ f : Fld, f.addr = 0x5F40 → f.stride = 4 → f.lo < 32 → g.key j ≠ f.key n.val := fun f addr stride lo' =>
    Fld.key_ne_of_addr ⟨lo, lo'⟩ (by rw [addr, stride]; omega)
  refine (s.trackBase_regs n.val t amp ph).rd ?_
  simp only [List.mem_cons, List.not_mem_nil, or_false, not_or]
  exact ⟨other _ rfl rfl (by decide), other _ rfl rfl (by decide)⟩

/-! ### A confirmed detection (R286 to R289) -/

theorem State.fireWake_tally (src : Nat) (banks : List Domain) : (s.fireWake src banks).tally = s.tally := by
  unfold State.fireWake
  dsimp only
  repeat' split
  all_goals rfl

theorem State.fireWake_rd (src : Nat) (banks : List Domain) {g : Fld} {j : Nat} (other : F.PWR_WAKE_LATCH_LATCHED.key 0 ≠ g.key j) :
    (s.fireWake src banks).rd g j = s.rd g j := by
  unfold State.fireWake
  dsimp only
  repeat' split
  · exact s.rd_wr_ne other _
  · exact s.rd_wr_ne other _
  · rfl

/-- The detections once one of rod `n` is confirmed: a bit of TLY_WAKE whose event is still to come keeps its confirming sample. -/
def State.hitNoted (s : State) (q : TallySeq) (n : Nat) (dA dP : Int) : List TallyHit :=
  if (s.rd F.TLY_WAKE_WAKE).testBit n = true ∧ ∃ h ∈ s.tally.hits, h.rod = n then s.tally.hits
  else s.tally.hits.filter (fun h => h.rod ≠ n) ++ [⟨n, dA, dP, q.confirm + 1⟩]

/-- The bit of a detection, its count back at 0 and the detection noted. -/
def State.wakeNoted (s : State) (q : TallySeq) (n : Nat) (dA dP : Int) : State :=
  ((s.wr F.TLY_WAKE_WAKE 0 (s.rd F.TLY_WAKE_WAKE ||| 2 ^ n)).setTallyCount n 0).modTally (fun t =>
    { t with hits := s.hitNoted q n dA dP })

/-- A rod that is to rearm before it counts again. -/
def State.disarmedIf (s : State) (c : Bool) (n : Nat) : State :=
  if c then s.wr F.TLY_DISARM_DISARM 0 (s.rd F.TLY_DISARM_DISARM ||| 2 ^ n) else s

theorem State.tallyConfirm_eq (n : Nat) (dA dP : Int) :
    s.tallyConfirm q n dA dP = ((s.wakeNoted q n dA dP).disarmedIf q.rearm n).fireWake 1 [bankOf n] := by
  have others : (fun h : TallyHit => h.rod != n) = (fun h => decide (h.rod ≠ n)) := by
    funext h
    simp [bne, BEq.beq]
  have noted : (if bit (s.rd F.TLY_WAKE_WAKE) n && s.tally.hits.any (fun h => h.rod == n) then s.tally.hits
      else s.tally.hits.filter (fun h => h.rod != n) ++ [⟨n, dA, dP, q.confirm + 1⟩]) = s.hitNoted q n dA dP := by
    simp only [State.hitNoted, bit, Bool.and_eq_true, List.any_eq_true, beq_iff_eq, others]
  rw [State.wakeNoted, ← noted]
  rfl

theorem State.disarmedIf_tally (c : Bool) (n : Nat) : (s.disarmedIf c n).tally = s.tally := by
  cases c <;> rfl

theorem State.disarmedIf_rd (c : Bool) (n : Nat) {g : Fld} {j : Nat} (other : F.TLY_DISARM_DISARM.key 0 ≠ g.key j) :
    (s.disarmedIf c n).rd g j = s.rd g j := by
  cases c
  · rfl
  · exact s.rd_wr_ne other _

theorem State.tallyConfirm_tally (n : Nat) (dA dP : Int) : (s.tallyConfirm q n dA dP).tally =
    { s.tally with counts := vset s.tally.counts (ix 23 n) 0, hits := s.hitNoted q n dA dP } := by
  rw [State.tallyConfirm_eq, State.fireWake_tally, State.disarmedIf_tally]
  rfl

theorem State.tallyConfirm_rd (n : Nat) (dA dP : Int) {g : Fld} {j : Nat} (after : 0x5F40 ≤ g.addr + g.stride * j) (lo : g.lo < 32) :
    (s.tallyConfirm q n dA dP).rd g j = s.rd g j := by
  have other : ∀ f : Fld, f.addr < 0x5F40 → f.lo < 32 → f.stride = 0 → f.key 0 ≠ g.key j := fun f addr lo' stride =>
    Fld.key_ne_of_addr ⟨lo', lo⟩ (by rw [stride]; omega)
  rw [State.tallyConfirm_eq, State.fireWake_rd _ _ _ (other _ (by decide) (by decide) rfl),
    State.disarmedIf_rd _ _ _ (other _ (by decide) (by decide) rfl)]
  exact s.rd_wr_ne (other F.TLY_WAKE_WAKE (by decide) (by decide) rfl) _

theorem State.tallyConfirm_wake (n : Fin 24) (dA dP : Int) :
    ((s.tallyConfirm q n.val dA dP).rd F.TLY_WAKE_WAKE).testBit n.val = true := by
  have noted : ((s.wakeNoted q n.val dA dP).rd F.TLY_WAKE_WAKE) = (s.rd F.TLY_WAKE_WAKE ||| 2 ^ n.val) % 2 ^ 24 :=
    State.rd_wr_self _ _ _ _
  rw [State.tallyConfirm_eq, State.fireWake_rd _ _ _ (by decide), State.disarmedIf_rd _ _ _ (by decide), noted]
  exact testBit_or_pow _ n.isLt

theorem State.tallyConfirm_disarms {q : TallySeq} (rearm : q.rearm = true) (n : Fin 24) (dA dP : Int) :
    ((s.tallyConfirm q n.val dA dP).rd F.TLY_DISARM_DISARM).testBit n.val = true := by
  rw [State.tallyConfirm_eq, State.fireWake_rd _ _ _ (by decide), State.disarmedIf, if_pos rearm, State.rd_wr_self]
  exact testBit_or_pow _ n.isLt

/-! ### The judgement of a sample (R280 to R289) -/

/-- By how much a sample's amplitude differs from the baseline (R280). -/
def State.ampOff (s : State) (n amp : Nat) : Int := (amp : Int) - s.rd F.TLY_BASE_AMP n

/-- By how much a sample's phase differs from the baseline, in −512 to 511 (R280). -/
def State.phaseOff (s : State) (n ph : Nat) : Int := ((ph : Int) - s.rd F.TLY_BASE_PH n + 512) % 1024 - 512

/-- A difference is over a threshold that is not 0 (R281, R285). -/
def TallySeq.Over (q : TallySeq) (dA dP : Int) : Prop :=
  (q.ampTh ≠ 0 ∧ q.ampTh < dA.natAbs) ∨ (q.phTh ≠ 0 ∧ q.phTh < dP.natAbs)

/-- A sample that counts: the rod's count rises by 1. -/
def State.countRaised (s : State) (n : Fin 24) (amp ph : Nat) : State :=
  (s.setTallyCount n.val (vget s.tally.counts n + 1)).tallyLast n.val amp ph (vget s.tally.counts n + 1) true

/-- A baseline learned from a sample. -/
def State.learned (s : State) (n amp ph : Nat) : State :=
  ((((s.wr F.TLY_BASE_AMP n amp).wr F.TLY_BASE_PH n ph).setF F.TLY_BASE_VALID n).modTally (·.wholeBase n)).setTallyCount n 0

/-- A baseline that follows a sample (R284); TRACK 0 leaves it. -/
def State.tracked (s : State) (q : TallySeq) (n amp ph : Nat) : State :=
  if q.track = 0 then s else s.trackBase n q.track amp ph

/-- The rod of a sample that is not over: count 0 and rearmed, its TLY_LAST written. -/
def State.quiet (s : State) (n amp ph : Nat) : State := ((s.setTallyCount n 0).tallyLast n amp ph 0 false).rearm n

section
variable {s : State} {q : TallySeq} {n : Fin 24} {amp ph : Nat}

theorem State.tallyEval_learns (fresh : s.flag F.TLY_BASE_VALID n.val = false) :
    s.tallyEval q n.val amp ph = (s.learned n.val amp ph).tallyLast n.val amp ph 0 false := if_pos (by simp [fresh])

variable (valid : s.flag F.TLY_BASE_VALID n.val = true)
include valid

theorem State.tallyEval_above (above : q.Over (s.ampOff n.val amp) (s.phaseOff n.val ph)) : s.tallyEval q n.val amp ph =
    if (s.rd F.TLY_DISARM_DISARM).testBit n.val then (s.setTallyCount n.val 0).tallyLast n.val amp ph 0 true
    else if q.confirm + 1 ≤ vget s.tally.counts n + 1 then
      (s.countRaised n amp ph).tallyConfirm q n.val (s.ampOff n.val amp) (s.phaseOff n.val ph)
    else s.countRaised n amp ph := by
  have place : vget s.tally.counts (ix 23 n.val) = vget s.tally.counts n := by rw [ix_fin]
  rw [State.countRaised, ← place]
  exact (if_neg (by simp [valid])).trans
    (if_pos (by simpa [TallySeq.Over, State.ampOff, State.phaseOff, wrapPhase] using above))

theorem State.tallyEval_under (under : ¬ q.Over (s.ampOff n.val amp) (s.phaseOff n.val ph)) :
    s.tallyEval q n.val amp ph = (s.quiet n.val amp ph).tracked q n.val amp ph :=
  (if_neg (by simp [valid])).trans (if_neg (by simpa [TallySeq.Over, State.ampOff, State.phaseOff, wrapPhase] using under))

end

/-- A sample that confirms nothing: the rod's count is `k`, and the detections and TLY_WAKE are as they were. -/
structure Unconfirmed (s t : State) (n : Fin 24) (k : Nat) : Prop where
  count : vget t.tally.counts n = k
  hits : t.tally.hits = s.tally.hits
  wake : t.rd F.TLY_WAKE_WAKE = s.rd F.TLY_WAKE_WAKE

section
variable {s t u : State} {q : TallySeq} {n : Fin 24} {amp ph k : Nat}

theorem Unconfirmed.kept (h : Unconfirmed s t n k) (counts : u.tally.counts = t.tally.counts) (hits : u.tally.hits = t.tally.hits)
    (wake : u.rd F.TLY_WAKE_WAKE = t.rd F.TLY_WAKE_WAKE) : Unconfirmed s u n k :=
  ⟨counts ▸ h.count, hits.trans h.hits, wake.trans h.wake⟩

theorem Unconfirmed.slotOver (h : Unconfirmed s t n k) (rest : List Nat) : Unconfirmed s (t.slotOver q rest) n k :=
  h.kept (by rw [State.slotOver_tally]) (by rw [State.slotOver_tally]) (t.slotOver_rd q rest (by decide) (by decide))

theorem State.setTallyCount_unconfirmed (k c : Nat) (above : Bool) :
    Unconfirmed s ((s.setTallyCount n.val k).tallyLast n.val amp ph c above) n k :=
  ⟨s.setTallyCount_count n k, rfl, State.tallyLast_rd _ _ _ _ _ _ (by decide) (by decide)⟩

/-! A sample that confirms a detection. -/

theorem State.countRaised_hitNoted (dA dP : Int) : (s.countRaised n amp ph).hitNoted q n.val dA dP = s.hitNoted q n.val dA dP := by
  have wake : (s.countRaised n amp ph).rd F.TLY_WAKE_WAKE = s.rd F.TLY_WAKE_WAKE :=
    State.tallyLast_rd _ _ _ _ _ _ (by decide) (by decide)
  rw [State.hitNoted, wake]
  rfl

theorem State.countRaised_confirmed (dA dP : Int) : vget ((s.countRaised n amp ph).tallyConfirm q n.val dA dP).tally.counts n = 0 ∧
    ((s.countRaised n amp ph).tallyConfirm q n.val dA dP).tally.hits = s.hitNoted q n.val dA dP := by
  rw [State.tallyConfirm_tally, ix_fin, State.countRaised_hitNoted]
  exact ⟨vget_vset_self _ _ _, rfl⟩

/-! A rod without a valid baseline. -/

theorem State.learned_rd {g : Fld} {j : Nat} (before : g.addr + g.stride * j < 0x5F40) (lo : g.lo < 32) :
    (s.learned n.val amp ph).rd g j = s.rd g j := by
  rw [State.learned, State.setTallyCount_rd, State.rd_modTally, State.setF, State.rd_wr_ne _ (tallyBase_key_ne _ (by simp) before lo),
    State.rd_wr_ne _ (tallyBase_key_ne _ (by simp) before lo), State.rd_wr_ne _ (tallyBase_key_ne _ (by simp) before lo)]

theorem State.learned_unconfirmed : Unconfirmed s ((s.learned n.val amp ph).tallyLast n.val amp ph 0 false) n 0 :=
  ⟨State.setTallyCount_count _ n 0, rfl,
    (State.tallyLast_rd _ _ _ _ _ _ (by decide) (by decide)).trans (State.learned_rd (by decide) (by decide))⟩

theorem State.learned_base : (s.learned n.val amp ph).rd F.TLY_BASE_AMP n.val = amp % 4096 ∧
    (s.learned n.val amp ph).rd F.TLY_BASE_PH n.val = ph % 1024 ∧ (s.learned n.val amp ph).rd F.TLY_BASE_VALID n.val = 1 := by
  simp only [State.learned, State.setTallyCount_rd, State.rd_modTally, State.setF]
  refine ⟨?_, ?_, ?_⟩
  · rw [State.rd_wr_ne _ (Fld.key_ne_of_lo (by decide)), State.rd_wr_ne _ (Fld.key_ne_of_lo (by decide)), State.rd_wr_self]
    rfl
  · rw [State.rd_wr_ne _ (Fld.key_ne_of_lo (by decide)), State.rd_wr_self]
    rfl
  · rw [State.rd_wr_self]
    rfl

/-! A sample that is not over. -/

theorem State.tracked_tally : (s.tracked q n.val amp ph).tally.counts = s.tally.counts ∧
    (s.tracked q n.val amp ph).tally.hits = s.tally.hits := by
  unfold State.tracked
  split
  · exact ⟨rfl, rfl⟩
  · exact s.trackBase_tally _ _ _ _

theorem State.tracked_rd {g : Fld} {j : Nat} (outside : g.addr + g.stride * j < 0x5F40 ∨ 0x5FA0 ≤ g.addr + g.stride * j)
    (lo : g.lo < 32) : (s.tracked q n.val amp ph).rd g j = s.rd g j := by
  unfold State.tracked
  split
  · rfl
  · exact s.trackBase_rd n _ _ _ outside lo

theorem State.quiet_unconfirmed : Unconfirmed s ((s.quiet n.val amp ph).tracked q n.val amp ph) n 0 := by
  obtain ⟨counts, hits⟩ := (s.quiet n.val amp ph).tracked_tally (q := q) (n := n) (amp := amp) (ph := ph)
  refine (State.setTallyCount_unconfirmed (amp := amp) (ph := ph) 0 0 false).kept counts hits
    ((State.tracked_rd (.inl (by decide)) (by decide)).trans ?_)
  exact State.rd_wr_ne _ (by decide) _

theorem State.quiet_rearmed :
    (((s.quiet n.val amp ph).tracked q n.val amp ph).rd F.TLY_DISARM_DISARM).testBit n.val = false := by
  rw [State.tracked_rd (.inl (by decide)) (by decide), State.quiet, State.rearm_disarmed]
  simp

/-- With TRACK 0 the baseline stays. -/
theorem State.quiet_base (still : q.track = 0) {g : Fld} (base : g ∈ [F.TLY_BASE_AMP, F.TLY_BASE_VALID, F.TLY_BASE_PH]) :
    ((s.quiet n.val amp ph).tracked q n.val amp ph).rd g n.val = s.rd g n.val := by
  have place : g.addr + g.stride * n.val < 0x5FA0 ∧ g.lo < 32 := by
    simp only [List.mem_cons, List.not_mem_nil, or_false] at base
    rcases base with rfl | rfl | rfl <;> exact ⟨by dsimp only; omega, by decide⟩
  rw [State.tracked, if_pos still, State.quiet, State.rearm,
    State.rd_wr_ne _ (tallyBase_key_ne n.val base (by decide) (by decide)).symm, State.tallyLast_rd _ _ _ _ _ _ place.1 place.2,
    State.setTallyCount_rd]

/-! The sample itself. -/

theorem State.quiet_sample : SampleIn ((s.quiet n.val amp ph).tracked q n.val amp ph) n.val amp ph :=
  (State.tallyLast_sample _ n.val amp ph 0 false).kept fun g after lo =>
    (State.tracked_rd (.inr after) lo).trans
      (State.rd_wr_ne _ (Fld.key_ne_of_addr ⟨by decide, lo⟩ (by dsimp only; omega)) _)

/-- Whatever becomes of it, the sample is in TLY_LAST. -/
theorem State.tallyEval_sample : SampleIn (s.tallyEval q n.val amp ph) n.val amp ph := by
  cases valid : s.flag F.TLY_BASE_VALID n.val with
  | false =>
    rw [State.tallyEval_learns valid]
    exact State.tallyLast_sample _ _ _ _ _ _
  | true =>
    by_cases above : q.Over (s.ampOff n.val amp) (s.phaseOff n.val ph)
    · rw [State.tallyEval_above valid above]
      split
      · exact State.tallyLast_sample _ _ _ _ _ _
      · split
        · exact (State.tallyLast_sample _ _ _ _ _ _).kept fun g after lo => State.tallyConfirm_rd _ _ _ _ _ (by omega) lo
        · exact State.tallyLast_sample _ _ _ _ _ _
    · rw [State.tallyEval_under valid above]
      exact State.quiet_sample

end

end Sys2Proof.Machine

open Sys2Proof Sys2Proof.Machine

/-- Settles O32: each outcome of a sample is one state, and the slot's end after it leaves all of it but the sequence. -/
theorem tallySamplesAreJudgedAgainstTheirBaseline : Obligations.TallySamplesAreJudgedAgainstTheirBaseline := by
  intro s q n rest amp ph scanning slot dA dP above c armed
  refine ⟨_, exec_tallyEvaluate scanning slot amp ph, State.slotOver_ends _, fun m tl more goes => ?_, fun left => ?_,
    fun amp' ph' driven => ?_⟩
  · exact State.slotOver_goes _ (by simp [more]) goes
  · rw [if_neg (by simp [left])]
    exact ⟨s.slotOver_tally q rest, s.slotOver_regs q rest⟩
  rw [if_pos driven, Nat.mod_eq_of_lt amp', Nat.mod_eq_of_lt ph']
  have keep : ∀ (u : State) {g : Fld} {j : Nat}, 0x5F10 < g.addr + g.stride * j → g.lo < 32 → (u.slotOver q rest).rd g j = u.rd g j :=
    fun u _ _ => u.slotOver_rd q rest
  obtain ⟨lastAmp, lastPh⟩ : SampleIn ((s.tallyEval q n.val amp ph).slotOver q rest) n.val amp ph :=
    State.tallyEval_sample.kept fun g after lo => keep _ (by omega) lo
  rw [Nat.mod_eq_of_lt amp'] at lastAmp
  rw [Nat.mod_eq_of_lt ph'] at lastPh
  refine ⟨lastAmp, lastPh, fun fresh => ?_, fun valid above' arm few => ?_, fun valid above' arm enough => ?_,
    fun valid above' disarmed => ?_, fun valid under => ?_⟩
  · obtain ⟨count, hits, wake⟩ := (State.learned_unconfirmed (s := s) (n := n) (amp := amp) (ph := ph)).slotOver (q := q) rest
    obtain ⟨baseAmp, basePh, baseValid⟩ := s.learned_base (n := n) (amp := amp) (ph := ph)
    have base : ∀ {g : Fld}, g.addr = 0x5F40 → g.stride = 4 → g.lo < 32 →
        (((s.learned n.val amp ph).tallyLast n.val amp ph 0 false).slotOver q rest).rd g n.val = (s.learned n.val amp ph).rd g n.val :=
      fun addr stride lo => (keep _ (by omega) lo).trans (State.tallyLast_rd _ _ _ _ _ _ (by rw [addr, stride]; omega) lo)
    rw [State.tallyEval_learns fresh]
    exact ⟨(base rfl rfl (by decide)).trans (baseAmp.trans (Nat.mod_eq_of_lt amp')),
      (base rfl rfl (by decide)).trans (basePh.trans (Nat.mod_eq_of_lt ph')), (base rfl rfl (by decide)).trans baseValid, count, hits, wake⟩
  · obtain ⟨count, hits, wake⟩ :=
      (State.setTallyCount_unconfirmed (s := s) (n := n) (amp := amp) (ph := ph) c c true).slotOver (q := q) rest
    rw [State.tallyEval_above valid above', if_neg (by simpa using arm), if_neg (by omega)]
    exact ⟨count, hits, wake, (keep _ (by dsimp only; omega) (by decide)).trans (State.tallyLast_over _ _ _ _ _ _)⟩
  · obtain ⟨count, hits⟩ := s.countRaised_confirmed (q := q) (n := n) (amp := amp) (ph := ph) dA dP
    rw [State.tallyEval_above valid above', if_neg (by simpa using arm), if_pos enough, State.slotOver_tally,
      keep _ (by decide) (by decide), keep _ (by decide) (by decide)]
    exact ⟨count, hits, State.tallyConfirm_wake _ q n dA dP, fun rearm => State.tallyConfirm_disarms _ rearm n dA dP⟩
  · obtain ⟨count, hits, wake⟩ :=
      (State.setTallyCount_unconfirmed (s := s) (n := n) (amp := amp) (ph := ph) 0 0 true).slotOver (q := q) rest
    rw [State.tallyEval_above valid above', if_pos (by simpa [armed] using disarmed)]
    exact ⟨count, hits, wake⟩
  · obtain ⟨count, hits, wake⟩ := (State.quiet_unconfirmed (s := s) (q := q) (n := n) (amp := amp) (ph := ph)).slotOver (q := q) rest
    rw [State.tallyEval_under valid under]
    refine ⟨count, hits, wake, ?_, fun still => ⟨?_, ?_⟩⟩
    · rw [keep _ (by decide) (by decide)]
      exact State.quiet_rearmed
    · rw [keep _ (by dsimp only; omega) (by decide)]
      exact State.quiet_base still (by simp)
    · rw [keep _ (by dsimp only; omega) (by decide)]
      exact State.quiet_base still (by simp)
end

section
/-! PROOFS. Why the statement of the access requests fails: it speaks of every state, and in one where GPIO_IN holds a bit above its 16
pins and a lock names the pin that this bit would be, a change of another pin triggers that lock too. -/

namespace Sys2Proof.Machine
open Sys2Proof

/-- CORE is ON, and lock 0 waits for edges of pin 1. Bit 16 of GPIO_IN is set and lock 1 names a pin 16, which is beyond the 4 bits of
ACC_LOCK_TRIG.GPIO as that bit is beyond the 16 of GPIO_IN. -/
def widePins : State := { coreOnly with
  regs := [(F.ACC_LOCK_TRIG_GPIO.key 0, 1), (F.ACC_LOCK_TRIG_EDGE.key 0, 3), (F.ACC_LOCK_TRIG_GPIO.key 1, 16),
    (F.ACC_LOCK_TRIG_EDGE.key 1, 3), (F.GPIO_IN_PINS.key 0, 2 ^ 16)] }

/-- The level of pin 1 rises. The new levels are cut to 16 pins, so that bit 16 changes as well, and with it the level that lock 1
waits for: its trigger is dropped and counted, since no lock is enabled (R338, R340, R576). -/
theorem widePins_gpioTrigger : ∃ t, exec (.accGpioTrigger 1 true) widePins = .next t ∧ t.rd F.ACC_LOCK_CNT_SKIP_COUNT 1 = 1 :=
  ⟨_, rfl, by decide +kernel⟩

/-- What the statement leaves of it: the level of pin 1 and the dropped trigger of lock 0. -/
theorem widePins_counted (g : GpioPart) (v : Nat) :
    (({ widePins.wr F.GPIO_IN_PINS 0 v with gpio := g } : State).count F.ACC_LOCK_CNT_SKIP_COUNT 0).rd F.ACC_LOCK_CNT_SKIP_COUNT 1 = 0 :=
  (State.rd_wr_ne _ (by decide) _).trans ((widePins.rd_wr_ne (by decide) v).trans (by decide))

end Sys2Proof.Machine

open Sys2Proof Sys2Proof.Machine

/-- Refutes O36: in `widePins` a rising pin 1, which lock 0 alone names among the pins, also counts a dropped trigger of lock 1, where
the statement has nothing but GPIO_IN, the window of the pins and the counter of lock 0 change. The statement lacks the hypothesis
that GPIO_IN and ACC_LOCK_TRIG.GPIO hold values of their widths. -/
theorem not_accessRequestsWaitTheirTurnAndStart : ¬ Obligations.AccessRequestsWaitTheirTurnAndStart := by
  unfold Obligations.AccessRequestsWaitTheirTurnAndStart
  intro h
  obtain ⟨-, -, locks, -⟩ := h widePins
  obtain ⟨-, -, -, pin⟩ := locks 0
  obtain ⟨u, -, -, -, -, -, -, noTimer, dropped, -⟩ :=
    pin 1 true (by decide) (by decide) (by decide) (by decide) (by decide) (by decide)
  obtain ⟨g, rfl⟩ := noTimer (by decide)
  obtain ⟨t, run, skipped⟩ := widePins_gpioTrigger
  obtain rfl := Host.Outcome.next.inj (run.symm.trans (dropped (.inl (by decide))))
  exact absurd ((widePins_counted g _).symm.trans skipped) (by decide)
end

section
/-! PROOFS. O33: what a downlink frame opens, and what the end of its driven span leaves. -/

namespace Sys2Proof.Machine
open Sys2Proof

variable {s t : State} {x : DownFrame} {sp : LfSpan}

/-! ### What follows a frame (R316, R320, R321, R325, R420) -/

theorem DownFrame.after_poll (tp : x.tp = false) (kind : x.kind = .poll) :
    x.listenAfter = .slots 8 0 none ∧ x.needAfter = .slots x.tok.ulChan := by
  simp [DownFrame.listenAfter, DownFrame.needAfter, DownFrame.slots, tp, kind]

theorem DownFrame.after_targeted (tp : x.tp = false)
    (kind : (∃ i, x.kind = .repoll i ∨ x.kind = .resync i) ∨ x.kind = .challenge) :
    x.listenAfter = .slots 1 0 none ∧ x.needAfter = .slots x.tok.ulChan := by
  rcases kind with ⟨i, kind | kind⟩ | kind <;>
    simp [DownFrame.listenAfter, DownFrame.needAfter, DownFrame.slots, tp, kind]

theorem DownFrame.after_range (kind : x.kind = .range) :
    x.listenAfter = .train false false ∧ x.needAfter = .train x.tok.dbChan := by
  simp [DownFrame.listenAfter, DownFrame.needAfter, DownFrame.slots, kind]

theorem DownFrame.after_sentOnly (kind : x.kind = .confirm ∨ x.kind = .finish) : x.listenAfter = .none ∧ x.needAfter = .none := by
  rcases kind with kind | kind <;> simp [DownFrame.listenAfter, DownFrame.needAfter, DownFrame.slots, kind]

theorem DownFrame.after_transponder (tp : x.tp = true) (kind : x.kind = .poll ∨ x.kind = .challenge) :
    x.listenAfter = .transponder x.chan ∧ x.needAfter = .none := by
  rcases kind with kind | kind <;> simp [DownFrame.listenAfter, DownFrame.needAfter, DownFrame.slots, tp, kind]

/-- The channel of a transponder frame that awaits an answer listens. -/
theorem DownFrame.stateAfter_listens (tp : x.tp = true) (kind : x.kind = .poll ∨ x.kind = .challenge) : x.stateAfter = 2 := by
  have listen := (DownFrame.after_transponder tp kind).1
  rcases kind with kind | kind <;> simp [DownFrame.stateAfter, kind, listen]

theorem DownFrame.stateAfter_finish (kind : x.kind = .finish) : x.stateAfter = 0 := by simp [DownFrame.stateAfter, kind]

theorem DownFrame.stateAfter_lt (x : DownFrame) : x.stateAfter < 4 := by
  unfold DownFrame.stateAfter
  split <;> decide

/-! ### The end of a driven span (R296 to R301, R336) -/

/-- From `s` to `t` a driven span of channel `n` has ended: its drive has gone out, and W, the open count and LF_MEAS are
written. -/
structure SpanEnded (s t : State) (n : Nat) (tp frozen : Bool) (sp : LfSpan) : Prop where
  out : t.out = s.logged [.lfDrive n (vget s.link.drives (ix 7 n)).damp (s.lfWalk n tp frozen sp).runs.reverse]
  link : t.link = { s.link with opens := t.link.opens }
  sys : t.sys = { s.sys with fresh := t.sys.fresh }
  regs : RegsOnly { s with out := t.out, link := t.link, sys := t.sys } t
    [F.LF_STAT_W.key n, F.LF_MEAS_PHASE.key n, F.LF_MEAS_IPK_MEAS.key n]

theorem State.lfSpan_ended (s : State) (n : Nat) (tp frozen : Bool) (sp : LfSpan) :
    SpanEnded s (s.lfSpan n tp frozen sp) n tp frozen sp where
  out := by
    rw [show (s.lfSpan n tp frozen sp).out = (s.emitOut _).out from rfl, s.emitOut_logged]
  link := rfl
  sys := rfl
  regs := ((RegsOnly.wr _ F.LF_STAT_W n _).then F.LF_MEAS_PHASE n _).then F.LF_MEAS_IPK_MEAS n _

theorem State.lfSpan_lfFault (s : State) (n : Nat) (tp frozen : Bool) (sp : LfSpan) :
    (s.lfSpan n tp frozen sp).lfFault n = s.lfFault n := by
  have kept := s.lfSpan_faultKept n n tp frozen sp
  simp only [State.lfFault, State.flag, kept.overcurrent, kept.opens]

/-- A channel that is not in FAULT goes off. -/
theorem State.lfStop_off {n : Nat} (calm : s.lfFault n = false) : s.lfStop n = s.wr F.LF_STAT_STATE n 0 :=
  if_neg (by simp [calm])

/-- The register fields that the end of a span of channel `n` writes. -/
def spanKeys (n : Nat) : List Nat :=
  [F.LF_STAT_STATE.key n, F.LF_STAT_W.key n, F.LF_MEAS_PHASE.key n, F.LF_MEAS_IPK_MEAS.key n]

/-- A span of channel `n` ends and the channel goes off, unless it is in FAULT. -/
theorem State.lfSpan_lfStop_regsOnly (s : State) (n : Nat) (tp frozen : Bool) (sp : LfSpan) :
    let t := (s.lfSpan n tp frozen sp).lfStop n
    t.link = { s.link with opens := t.link.opens } ∧
      RegsOnly { s with out := t.out, link := t.link, sys := t.sys } t (spanKeys n) := by
  have ended := s.lfSpan_ended n tp frozen sp
  dsimp only
  unfold State.lfStop
  split
  · exact ⟨ended.link, ended.regs.mono (by simp [spanKeys])⟩
  · exact ⟨ended.link, (ended.regs.then F.LF_STAT_STATE n 0).mono (by simp [spanKeys])⟩

/-- Whether a channel can carry a segment hangs on no field that the end of a span writes. -/
theorem RegsOnly.segUsable {n : Nat} (only : RegsOnly { s with out := t.out, link := t.link, sys := t.sys } t (spanKeys n)) (c : Nat) :
    t.segUsable x c = s.segUsable x c := by
  obtain ⟨frame, reads⟩ := only
  have pwr : t.pwr = s.pwr := by rw [frame]
  have field : t.field = s.field := by rw [frame]
  have same : ∀ {f : Fld} {i : Nat}, f.key i ∉ spanKeys n → t.rd f i = s.rd f i := fun other => reads _ _ other
  simp only [State.segUsable, State.lfUsable, State.padsHeld, State.lfFault, State.flag, State.isOn, pwr, field]
  rw [same (f := F.PWR_PAD_RELEASE_HELD), same (f := F.LF_CFG_EN), same (f := F.LF_CFG_TP_EN), same (f := F.LF_ERR_OVERCURRENT),
    same (f := F.LF_ERR_OPEN)]
  all_goals
    simp only [spanKeys, Fld.key, fldKey, List.mem_cons, List.not_mem_nil, or_false]
    omega

/-! ### A span that ends with the command (R300 to R302) -/

/-- The span of a frame's own channel is that of the frame. -/
theorem State.lfTp_own (frame : s.link.frame = some x) : s.lfTp x.chan = x.tp := by simp [State.lfTp, frame]

/-- While a frame is sent no regulation is frozen. -/
theorem State.lfFrozen_sending (frame : s.link.frame = some x) (n : Nat) : s.lfFrozen n = false := by simp [State.lfFrozen, frame]

theorem State.withSpan_faulted {n : Nat} {oc : Bool} (fault : (s.lfWalk n (s.lfTp n) (s.lfFrozen n) sp).fault = some oc)
    (busy : s.lfBusy n = true) (go : State → State) : s.withSpan n sp go = s.channelFault n sp oc := by
  simp [State.withSpan, fault, busy]

theorem State.withSpan_calm {n : Nat} (calm : (s.lfWalk n (s.lfTp n) (s.lfFrozen n) sp).fault = none) (go : State → State) :
    s.withSpan n sp go = go s := by
  simp [State.withSpan, calm]

end Sys2Proof.Machine
end

section
/-! PROOFS. O33: DOWNLINK_END, TP_CHARGE_END and BURST_SEGMENT. -/

namespace Sys2Proof.Machine
open Sys2Proof

variable {s t : State} {x : DownFrame} {sp : LfSpan}

/-! ### The end of a frame (R307, R325) -/

/-- The frame has been sent, and the link goes on with what follows it. -/
def State.listens (s : State) (x : DownFrame) (now : DWord) : State :=
  (s.modLink (fun l => { l with frame := none, last := some x, listen := x.listenAfter, ended := now })).modUhf (fun u =>
    { u with need := x.needAfter })

/-- A burst has ended its own channel's span before. -/
theorem State.frameOver_burst (tp : x.tp = false) (burst : x.burst = true) :
    s.frameOver x sp = (s.emitOut (.lfFrame x.chan false x.tok.cw x.bytes)).listens x s.sys.timebase := by
  simp only [State.frameOver, tp, burst, if_true]
  rfl

/-- STATE of a frame's channel after t_E. -/
def DownFrame.channelAfter (x : DownFrame) : Nat := if x.tp then x.stateAfter else 0

/-- Without a burst the driven span ends with the frame. -/
theorem State.frameOver_driven (burst : x.burst = false) (calm : s.lfFault x.chan = false) :
    s.frameOver x sp = ((((s.emitOut (.lfFrame x.chan x.tp (if x.tp then x.tok.charge else x.tok.cw) x.bytes)).lfSpan x.chan x.tp false
      sp).wr F.LF_STAT_STATE x.chan x.channelAfter).listens x s.sys.timebase) := by
  cases tp : x.tp with
  | true => simp only [State.frameOver, DownFrame.channelAfter, tp, if_true]; rfl
  | false =>
    have calm' := (State.lfSpan_lfFault (s.emitOut (.lfFrame x.chan false x.tok.cw x.bytes)) x.chan false false sp).trans calm
    simp only [State.frameOver, DownFrame.channelAfter, tp, burst, Bool.false_eq_true, if_false, State.lfStop_off calm']
    rfl

/-- From `s` to `t` frame `x`, which had no burst, has reached t_E. -/
structure FrameEnded (s t : State) (x : DownFrame) (sp : LfSpan) : Prop where
  link : t.link.frame = none ∧ t.link.last = some x ∧ t.link.listen = x.listenAfter ∧ t.link.ended = s.sys.timebase
  need : t.uhf.need = x.needAfter
  out : t.out = s.logged [.lfDrive x.chan (vget s.link.drives (ix 7 x.chan)).damp (s.lfWalk x.chan x.tp false sp).runs.reverse,
    .lfFrame x.chan x.tp (if x.tp then x.tok.charge else x.tok.cw) x.bytes]
  state : t.rd F.LF_STAT_STATE x.chan = x.channelAfter
  acc : t.acc = s.acc
  sys : t.sys = { s.sys with fresh := t.sys.fresh }
  regs : RegsOnly { s with out := t.out, link := t.link, uhf := t.uhf, sys := t.sys } t (spanKeys x.chan)

theorem State.frameOver_ended (burst : x.burst = false) (calm : s.lfFault x.chan = false) : FrameEnded s (s.frameOver x sp) x sp := by
  rw [State.frameOver_driven burst calm, s.emitOut_logged]
  have span := State.lfSpan_ended { s with out := s.logged [.lfFrame x.chan x.tp (if x.tp then x.tok.charge else x.tok.cw) x.bytes] }
    x.chan x.tp false sp
  have small : x.channelAfter < 4 := by
    unfold DownFrame.channelAfter
    split
    exacts [x.stateAfter_lt, by decide]
  obtain ⟨frame, reads⟩ := (span.regs.then F.LF_STAT_STATE x.chan x.channelAfter).mono (l := spanKeys x.chan) (by simp [spanKeys])
  refine ⟨⟨rfl, rfl, rfl, rfl⟩, rfl, ?_, (State.rd_wr_self _ _ _ _).trans (Nat.mod_eq_of_lt small), ?_, span.sys, ?_, reads⟩
  · exact span.out.trans (s.logged_logged _ _)
  · exact (congrArg State.acc frame :)
  · exact congrArg (fun t => t.listens x s.sys.timebase) frame

/-- A frame that is no CONFIRM or END of a running exchange calls for nothing more. -/
theorem State.sentOnly_lone (lone : s.acc.run = none ∨ (x.kind ≠ .confirm ∧ x.kind ≠ .finish)) : s.sentOnly x = s := by
  unfold State.sentOnly
  split
  · rfl
  · rename_i r run
    obtain run' | ⟨confirm, finish⟩ := lone
    · cases run.symm.trans run'
    · split
      exacts [absurd ‹_› confirm, absurd ‹_› finish, rfl]

/-! ### DOWNLINK_END and TP_CHARGE_END -/

theorem exec_downlinkEnd_none (frame : s.link.frame = none) : exec (.downlinkEnd sp) s = .next s := by
  change execDownlinkEnd sp s = _
  simp only [execDownlinkEnd, frame]

/-- The charge or the burst is not over. -/
theorem exec_downlinkEnd_early (frame : s.link.frame = some x) (early : x.charging = true ∨ (x.burst = true ∧ x.segPos < 6)) :
    exec (.downlinkEnd sp) s = .next s := by
  change execDownlinkEnd sp s = _
  simp only [execDownlinkEnd, frame]
  rw [if_pos (by simpa using early)]

theorem exec_downlinkEnd_burst (frame : s.link.frame = some x) (charge : x.charging = false) (burst : x.burst = true)
    (sent : 6 ≤ x.segPos) : exec (.downlinkEnd sp) s = .next ((s.frameOver x sp).sentOnly x) := by
  change execDownlinkEnd sp s = _
  simp only [execDownlinkEnd, frame]
  rw [if_neg (by simp [charge, sent]), if_pos burst]

theorem exec_downlinkEnd_driven (frame : s.link.frame = some x) (charge : x.charging = false) (burst : x.burst = false) :
    exec (.downlinkEnd sp) s = .next (s.withSpan x.chan sp (fun s => (s.frameOver x sp).sentOnly x)) := by
  change execDownlinkEnd sp s = _
  simp only [execDownlinkEnd, frame]
  rw [if_neg (by simp [charge, burst]), if_neg (by simp [burst])]

theorem exec_tpChargeEnd (s : State) : exec .tpChargeEnd s =
    .next { s with link := { s.link with frame := s.link.frame.map (fun x => { x with charging := false }) } } := rfl

/-! ### BURST_SEGMENT (R311) -/

theorem exec_burstSegment_none (frame : s.link.frame = none) : exec (.burstSegment sp) s = .next s := by
  change execBurstSegment sp s = _
  simp [execBurstSegment, State.segStep, frame]

theorem exec_burstSegment_faulted {c : Nat} {oc : Bool} (frame : s.link.frame = some x) (chan : x.spanChan = some c)
    (fault : (s.lfWalk c (s.lfTp c) (s.lfFrozen c) sp).fault = some oc) (busy : s.lfBusy c = true) :
    exec (.burstSegment sp) s = .next (s.channelFault c sp oc) := by
  change execBurstSegment sp s = _
  simp only [execBurstSegment, frame, Option.bind_some, chan, State.withSpan_faulted fault busy]

theorem exec_burstSegment_calm (frame : s.link.frame = some x)
    (calm : ∀ c, x.spanChan = some c → (s.lfWalk c (s.lfTp c) (s.lfFrozen c) sp).fault = none) :
    exec (.burstSegment sp) s = .next (s.segStep sp) := by
  change execBurstSegment sp s = _
  simp only [execBurstSegment, frame, Option.bind_some]
  split
  · rw [State.withSpan_calm (calm _ ‹_›)]
  · rfl

theorem State.segStep_idle (frame : s.link.frame = some x) (idle : x.burst = false ∨ 6 ≤ x.segPos) : s.segStep sp = s := by
  simp only [State.segStep, frame]
  exact if_neg (by rcases idle with idle | idle <;> simp [idle])

theorem State.segStep_start (frame : s.link.frame = some x) (burst : x.burst = true) (pos : x.segPos = 0 ∨ x.segPos = 2 ∨ x.segPos = 4) :
    s.segStep sp = s.segStart x sp := by
  simp only [State.segStep, frame]
  rw [if_pos (by simp [burst]; omega), if_pos (by omega)]

theorem State.segStep_end (frame : s.link.frame = some x) (burst : x.burst = true) (pos : x.segPos = 1 ∨ x.segPos = 3 ∨ x.segPos = 5) :
    s.segStep sp = s.segEnd x sp := by
  simp only [State.segStep, frame]
  rw [if_pos (by simp [burst]; omega), if_neg (by omega)]

/-- The state in which the next segment starts: at the first one the frame's own channel has ended its span. -/
def State.segReady (s : State) (x : DownFrame) (sp : LfSpan) : State :=
  if x.segPos / 2 = 0 then (s.lfSpan x.chan false false sp).lfStop x.chan else s

theorem State.segReady_kept (s : State) (x : DownFrame) (sp : LfSpan) :
    (s.segReady x sp).link.frame = s.link.frame ∧ ∀ c, (s.segReady x sp).segUsable x c = s.segUsable x c := by
  unfold State.segReady
  split
  · obtain ⟨link, only⟩ := s.lfSpan_lfStop_regsOnly x.chan false false sp
    exact ⟨by rw [link], only.segUsable⟩
  · exact ⟨rfl, fun _ => rfl⟩

/-- The frame as its next segment starts, on a channel or as silence. -/
def DownFrame.segBegun (x : DownFrame) (c : Option Nat) : DownFrame :=
  { x with segPos := x.segPos + 1, sent := x.sent ++ [c.isSome], segChan := c }

theorem State.segStart_eq {c : Nat} (named : x.segs[x.segPos / 2]? = some c) : s.segStart x sp =
    if decide (c < 8) && s.segUsable x c then ((s.segReady x sp).lfStart c).modFrame (·.segBegun (some c))
    else (s.segReady x sp).modFrame (·.segBegun none) := by
  have chan : x.segs.getD (x.segPos / 2) 15 = c := by rw [List.getD_eq_getElem?_getD, named, Option.getD_some]
  rw [← (s.segReady_kept x sp).2 c, ← chan]
  rfl

/-- A segment starts on its channel. -/
theorem State.segStart_driven {c : Nat} (frame : s.link.frame = some x) (named : x.segs[x.segPos / 2]? = some c) (real : c < 8)
    (usable : s.segUsable x c = true) :
    (s.segStart x sp).link.frame = some (x.segBegun (some c)) ∧ (s.segStart x sp).rd F.LF_STAT_STATE c = 1 := by
  rw [State.segStart_eq named, if_pos (by simp [real, usable])]
  exact ⟨congrArg (Option.map _) ((s.segReady_kept x sp).1.trans frame), State.rd_wr_self _ F.LF_STAT_STATE c 1⟩

/-- A segment without a channel that can carry it is silence. -/
theorem State.segStart_silent {c : Nat} (frame : s.link.frame = some x) (named : x.segs[x.segPos / 2]? = some c)
    (silent : 8 ≤ c ∨ s.segUsable x c = false) : (s.segStart x sp).link.frame = some (x.segBegun none) := by
  have unused : ¬(decide (c < 8) && s.segUsable x c) = true := by rcases silent with silent | silent <;> simp [silent]
  rw [State.segStart_eq named, if_neg unused]
  exact congrArg (Option.map _) ((s.segReady_kept x sp).1.trans frame)

/-- A segment ends, and the channel that carried it goes off. -/
theorem State.segEnd_ended (frame : s.link.frame = some x) :
    (s.segEnd x sp).link.frame = some { x with segPos := x.segPos + 1, segChan := none } ∧
      ∀ c, x.segChan = some c → s.lfFault c = false → (s.segEnd x sp).rd F.LF_STAT_STATE c = 0 := by
  unfold State.segEnd
  cases x.segChan with
  | none => exact ⟨congrArg (Option.map _) frame, fun c silent => absurd silent (by simp)⟩
  | some d =>
    obtain ⟨link, -⟩ := s.lfSpan_lfStop_regsOnly d false false sp
    refine ⟨congrArg (Option.map _) ((congrArg LinkPart.frame link).trans frame), fun c same calm => ?_⟩
    obtain rfl : d = c := Option.some.inj same
    dsimp only
    rw [State.lfStop_off ((s.lfSpan_lfFault d false false sp).trans calm)]
    exact State.rd_wr_self _ F.LF_STAT_STATE d 0

end Sys2Proof.Machine

open Sys2Proof Sys2Proof.Machine

/-- Settles O33: each report of a frame in progress by what is over of it, and each segment by its place in the burst. -/
theorem downlinkFramesEndInTheirListening : Obligations.DownlinkFramesEndInTheirListening := by
  intro s sp
  refine ⟨fun idle => ⟨exec_downlinkEnd_none idle, exec_burstSegment_none idle, ?_⟩, fun x frame => ?_⟩
  · rw [exec_tpChargeEnd, idle, Option.map_none, ← idle]
  refine ⟨exec_downlinkEnd_early frame, ?_, fun oc charge burst fault busy => ?_, fun charge burst sent tp lone => ?_,
    fun charge burst lone calm span => ?_, DownFrame.after_poll, DownFrame.after_targeted, DownFrame.after_range,
    DownFrame.after_sentOnly, DownFrame.after_transponder, fun c oc chan fault busy => exec_burstSegment_faulted frame chan fault busy,
    fun calm idle => ?_, fun c calm burst pos named => ?_, fun calm burst pos => ?_⟩
  · rw [exec_tpChargeEnd, frame, Option.map_some]
  · rw [exec_downlinkEnd_driven frame charge burst, State.withSpan_faulted (by rwa [State.lfTp_own frame, State.lfFrozen_sending frame]) busy]
  · have acc : (s.frameOver x sp).acc = s.acc := by rw [State.frameOver_burst tp burst]; rfl
    rw [exec_downlinkEnd_burst frame charge burst sent, State.sentOnly_lone (by rwa [acc]), State.frameOver_burst tp burst,
      s.emitOut_logged]
    rfl
  · have ended := State.frameOver_ended (sp := sp) burst calm
    obtain ⟨noFrame, last, listen, now⟩ := ended.link
    refine ⟨s.frameOver x sp, ?_, noFrame, last, listen, ended.need, ended.out, fun tp kind => ?_, fun off => ?_, now, ended.acc, ended.sys,
      ended.regs⟩
    · rw [exec_downlinkEnd_driven frame charge burst,
        State.withSpan_calm (by rwa [State.lfTp_own frame, State.lfFrozen_sending frame]),
        State.sentOnly_lone (by rwa [ended.acc])]
    · rw [ended.state, DownFrame.channelAfter, if_pos tp, DownFrame.stateAfter_listens tp kind]
    · rw [ended.state, DownFrame.channelAfter]
      rcases off with tp | kind
      · rw [if_neg (by simp [tp])]
      · rw [DownFrame.stateAfter_finish kind, ite_self]
  · rw [exec_burstSegment_calm frame calm, State.segStep_idle frame idle]
  · rw [exec_burstSegment_calm frame calm, State.segStep_start frame burst pos]
    exact ⟨fun real usable => ⟨_, rfl, State.segStart_driven frame named real usable⟩,
      fun silent => ⟨_, rfl, State.segStart_silent frame named silent⟩⟩
  · rw [exec_burstSegment_calm frame calm, State.segStep_end frame burst pos]
    exact ⟨_, rfl, State.segEnd_ended frame⟩
end

section
/-! PROOFS. O35: the outcome of a slot or a transponder answer as it is shown, counted and recorded. -/

namespace Sys2Proof.Machine
open Sys2Proof

variable {s t u : State} {x : DownFrame} {o : LinkOutcome} {c : SlotRun} {k : Nat}

/-! ### What a record leaves alone -/

theorem State.emit_link (s : State) (f : Fin 25) (rs : List RecordData) (i : Option Nat) : (s.emit f rs i).link = s.link :=
  State.emit_parts State.link (fun _ _ _ => rfl) (fun _ _ _ => rfl) (fun _ _ => rfl) (fun _ _ => rfl) (fun _ _ _ => rfl)
    (fun x c k d => by rw [x.raise_frame]) s f rs i

theorem State.emit_uhf (s : State) (f : Fin 25) (rs : List RecordData) (i : Option Nat) : (s.emit f rs i).uhf = s.uhf :=
  State.emit_parts State.uhf (fun _ _ _ => rfl) (fun _ _ _ => rfl) (fun _ _ => rfl) (fun _ _ => rfl) (fun _ _ _ => rfl)
    (fun x c k d => by rw [x.raise_frame]) s f rs i

theorem State.emit_acc (s : State) (f : Fin 25) (rs : List RecordData) (i : Option Nat) : (s.emit f rs i).acc = s.acc :=
  State.emit_parts State.acc (fun _ _ _ => rfl) (fun _ _ _ => rfl) (fun _ _ => rfl) (fun _ _ => rfl) (fun _ _ _ => rfl)
    (fun x c k d => by rw [x.raise_frame]) s f rs i

/-- The single registers of the token link stand between the rods and the FIFOs. -/
theorem tokField_aside {f : Fld} (addr : 0x8400 ≤ f.addr ∧ f.addr < 0x8800) (lo : f.lo < 32) : Aside f 0 := by
  intro g mem k small
  simp only [Fld.key, fldKey]
  fin_cases mem <;> dsimp only <;> omega

/-- LF_STAT lies elsewhere in its block of 32 bytes than the counters of a FIFO do in theirs. -/
theorem lfStat_aside (n : Nat) : Aside F.LF_STAT_STATE n := by
  intro g mem k small
  simp only [Fld.key, fldKey]
  fin_cases mem <;> dsimp only <;> omega

/-! ### An outcome is noted (R320, R332 to R335) -/

/-- From `s` to `t` outcome `o` has been shown with its slot and counted; the link, the radio's need, the sequencer, the count of
missed slots and the states of the LF channels are as they were. -/
structure OutcomeNoted (s t : State) (o : LinkOutcome) (slot : Nat) : Prop where
  link : t.link = s.link
  uhf : t.uhf = s.uhf
  acc : t.acc = s.acc
  slot : t.rd F.TOK_STAT_SLOT = slot % 8
  outcome : t.rd F.TOK_STAT_OUTCOME = o.code
  missed : t.rd F.TOK_CNT_MISSED_COUNT = s.rd F.TOK_CNT_MISSED_COUNT
  collision : o = .collision → t.rd F.TOK_CNT_COLL_COUNT = (s.rd F.TOK_CNT_COLL_COUNT + 1) % 2 ^ 32
  stray : o = .stray → t.rd F.TOK_CNT_STRAY_COUNT = (s.rd F.TOK_CNT_STRAY_COUNT + 1) % 2 ^ 32
  frame : o = .frame → t.rd F.TOK_CNT_FRAME_COUNT = (s.rd F.TOK_CNT_FRAME_COUNT + 1) % 2 ^ 32
  lfState : ∀ n, t.rd F.LF_STAT_STATE n = s.rd F.LF_STAT_STATE n

/-- The outcome in TOK_STAT and in its counter. -/
def State.outcomeShown (s : State) (o : LinkOutcome) (slot : Nat) : State :=
  ((s.countOutcome o).wr F.TOK_STAT_SLOT 0 slot).wr F.TOK_STAT_OUTCOME 0 o.code

/-- An outcome that is counted adds to its own counter only. -/
theorem State.countOutcome_rd {f : Fld} {i : Nat} (other : ∀ g ∈ [F.TOK_CNT_COLL_COUNT, F.TOK_CNT_STRAY_COUNT, F.TOK_CNT_FRAME_COUNT],
    g.key 0 ≠ f.key i) : (s.countOutcome o).rd f i = s.rd f i := by
  cases o with
  | empty => rfl
  | collision => exact s.rd_wr_ne (other _ (by simp)) _
  | stray => exact s.rd_wr_ne (other _ (by simp)) _
  | frame => exact s.rd_wr_ne (other _ (by simp)) _

/-- TOK_STAT shows the outcome beside the counters. -/
theorem State.outcomeShown_rd {f : Fld} {i : Nat} (slot : Nat) (other : F.TOK_STAT_SLOT.key 0 ≠ f.key i ∧ F.TOK_STAT_OUTCOME.key 0 ≠ f.key i) :
    (s.outcomeShown o slot).rd f i = (s.countOutcome o).rd f i :=
  (State.rd_wr_ne _ other.2 _).trans (State.rd_wr_ne _ other.1 _)

theorem State.outcomeShown_noted (s : State) (o : LinkOutcome) (slot : Nat) : OutcomeNoted s (s.outcomeShown o slot) o slot where
  link := by cases o <;> rfl
  uhf := by cases o <;> rfl
  acc := by cases o <;> rfl
  slot := (State.rd_wr_ne _ (by decide) _).trans (State.rd_wr_self _ _ _ _)
  outcome := (State.rd_wr_self _ _ _ _).trans (by cases o <;> rfl)
  missed := (State.outcomeShown_rd slot (by decide)).trans (State.countOutcome_rd (by decide))
  collision := by
    rintro rfl
    exact (State.outcomeShown_rd slot (by decide)).trans (s.rd_wr_self F.TOK_CNT_COLL_COUNT 0 _)
  stray := by
    rintro rfl
    exact (State.outcomeShown_rd slot (by decide)).trans (s.rd_wr_self F.TOK_CNT_STRAY_COUNT 0 _)
  frame := by
    rintro rfl
    exact (State.outcomeShown_rd slot (by decide)).trans (s.rd_wr_self F.TOK_CNT_FRAME_COUNT 0 _)
  lfState n := by
    have far : ∀ g : Fld, g.addr < 0x8800 → g.lo < 32 → g.key 0 ≠ F.LF_STAT_STATE.key n := by
      intro g addr lo
      simp only [Fld.key, fldKey]
      omega
    refine (State.outcomeShown_rd slot ⟨far _ (by decide) (by decide), far _ (by decide) (by decide)⟩).trans
      (State.countOutcome_rd fun g mem => ?_)
    fin_cases mem <;> exact far _ (by decide) (by decide)

/-- What keeps the link, the radio's need and the sequencer and is quiet keeps an outcome noted. -/
theorem OutcomeNoted.then {slot : Nat} (h : OutcomeNoted s t o slot) (quiet : Quiet t u) (link : u.link = t.link) (uhf : u.uhf = t.uhf)
    (acc : u.acc = t.acc) : OutcomeNoted s u o slot where
  link := link.trans h.link
  uhf := uhf.trans h.uhf
  acc := acc.trans h.acc
  slot := (quiet _ _ (tokField_aside (by decide) (by decide))).trans h.slot
  outcome := (quiet _ _ (tokField_aside (by decide) (by decide))).trans h.outcome
  missed := (quiet _ _ (tokField_aside (by decide) (by decide))).trans h.missed
  collision e := (quiet _ _ (tokField_aside (by decide) (by decide))).trans (h.collision e)
  stray e := (quiet _ _ (tokField_aside (by decide) (by decide))).trans (h.stray e)
  frame e := (quiet _ _ (tokField_aside (by decide) (by decide))).trans (h.frame e)
  lfState n := (quiet _ _ (lfStat_aside n)).trans (h.lfState n)

theorem State.noteOutcome_noted (s : State) (x : DownFrame) (o : LinkOutcome) (path slot ch rssiA rssiB ferr : Nat) (body : List Byte)
    (stamp : DWord) : OutcomeNoted s (s.noteOutcome x o path slot ch rssiA rssiB ferr body stamp) o slot := by
  have shown := s.outcomeShown_noted o slot
  unfold State.noteOutcome
  dsimp only
  split
  · exact shown.then (State.emit_quiet _ _ _ _) (State.emit_link _ _ _ _) (State.emit_uhf _ _ _ _) (State.emit_acc _ _ _ _)
  · exact shown

/-- With no exchange running nobody waits for an answer. -/
theorem State.answerIn_idle (idle : s.acc.run = none) (x : DownFrame) (slot : Nat) (o : Option LinkOutcome) (body : List Byte)
    (last : Bool) : s.answerIn x slot o body last = s := by
  simp only [State.answerIn, idle]

/-! ### The outcome of a slot (R320) -/

theorem slotOutcome_empty {energy : Nat} (syncs : c.syncs = 0) (calm : energy < 1667) : slotOutcome x k energy c = .empty := by
  simp [slotOutcome, syncs, calm]

theorem slotOutcome_collision {energy : Nat} (bad : 2 ≤ c.syncs ∨ (∃ f ∈ c.frames, f.good = false) ∨ c.frames = [])
    (heard : 0 < c.syncs ∨ 1667 ≤ energy) : slotOutcome x k energy c = .collision := by
  have loud : ¬(decide (c.syncs = 0) && decide (energy < 1667)) = true := by
    simp only [Bool.and_eq_true, decide_eq_true_eq]
    omega
  have clash : (decide (2 ≤ c.syncs) || c.frames.any (fun f => !f.good) || !c.frames.any (·.good)) = true := by
    rcases bad with many | ⟨f, mem, bad⟩ | none
    · simp [many]
    · have any : c.frames.any (fun f => !f.good) = true := List.any_eq_true.mpr ⟨f, mem, by simp [bad]⟩
      simp [any]
    · simp [none]
  simp only [slotOutcome]
  rw [if_neg loud, if_pos clash]

theorem slotOutcome_single {energy : Nat} {f : UplinkFrame} (syncs : c.syncs = 1) (frames : c.frames = [f]) (good : f.good = true) :
    slotOutcome x k energy c = if bodyFits x f.body && tidxFits x k f.body then .frame else .stray := by
  simp [slotOutcome, syncs, frames, good]

/-- With no exchange running a decided slot is noted and nothing else. -/
theorem State.slotDecided_noted (idle : s.acc.run = none) (x : DownFrame) (k energy : Nat) (c : SlotRun) (last : Bool) :
    OutcomeNoted s (s.slotDecided x k energy c last) (slotOutcome x k energy c) k := by
  unfold State.slotDecided
  dsimp only
  split
  · rename_i f _
    have noted := s.noteOutcome_noted x (slotOutcome x k energy c) 0 k f.aerial f.rssiA f.rssiB f.ferr f.body f.stamp
    rwa [State.answerIn_idle (by rw [noted.acc, idle])]
  · have noted := fun ch a b ferr stamp => s.drawFree.1.noteOutcome_noted x (slotOutcome x k energy c) 0 k ch a b ferr [] stamp
    rw [State.answerIn_idle (by rw [(noted _ _ _ _ _).acc]; exact idle)]
    exact { noted _ _ _ _ _ with }

end Sys2Proof.Machine
end

section
/-! PROOFS. O35: slots. -/

namespace Sys2Proof.Machine
open Sys2Proof

variable {s t : State} {x : DownFrame} {c : SlotRun} {n k : Nat}

/-! ### SLOT_OPEN and SYNC_DETECT (R317 to R319) -/

theorem exec_slotOpen (listen : s.link.listen = .slots n k none) (more : k < n) : exec .slotOpen s = .next { s with
    link := { s.link with
      listen := .slots n k (some ⟨0, [], s.isOn .uhf && s.radio == 3, s.isOn .uhf && s.radio == 3, none, s.sys.timebase⟩) },
    uhf := { s.uhf with divA := none } } := by
  change execSlotOpen s = _
  simp only [execSlotOpen, listen, if_pos more]
  rfl

/-- A sync word counts in RX and in the window, with few enough errors. -/
def SlotRun.takesSync (c : SlotRun) (x : DownFrame) (t : Nat) (w : Word) : Bool :=
  c.rx && decide (352000 ≤ t) && decide (t ≤ 448000) && decide (syncErrors x.tok.sync w ≤ x.tok.syncErr)

theorem exec_syncDetect (listen : s.link.listen = .slots n k (some c)) (last : s.link.last = some x) (t : Nat) (w : Word) :
    exec (.syncDetect t w) s = .next (if c.takesSync x t w then s.setListen (.slots n k (some { c with syncs := c.syncs + 1 }))
      else s) := by
  change execSyncDetect t w s = _
  simp only [execSyncDetect, listen, last]
  rfl

/-! ### UPLINK_FRAME_END (R314) -/

/-- A good body has 40 bytes, of which the last two are the CRC of the others (R310, R314). -/
theorem bodyGood_take (l : List Byte) : bodyGood (l.take 40) = true ↔
    (l.take 40).length = 40 ∧ leNat ((l.take 40).drop 38) = (crc16B (l.take 38)).toNat := by
  simp [bodyGood, List.take_take]

/-- The bytes of a received frame pass the CRC units, and diversity notes its aerial: the link stays. -/
theorem State.crcFeed_noteDiv_link (s : State) (stream : Nat) (l : List Byte) : (s.crcFeed stream l).noteDiv.link = s.link := by
  have fed : (s.crcFeed stream l).link = s.link := by rw [s.crcFeed_crcOnly stream l]
  unfold State.noteDiv
  split
  · exact fed
  · simp only [State.wr_link, fed]

/-- The frame as the slot keeps it, with the strengths and the aerial that diversity has chosen (R422). -/
def State.received (s : State) (c : SlotRun) (rx : UhfRx) : UplinkFrame :=
  let s1 := (s.crcFeed 0x40 rx.bytes).noteDiv
  let ch := c.chosen.getD (s1.rd F.UHF_DIV_RSSI_RSSI_A, s1.rd F.UHF_DIV_RSSI_RSSI_B, s1.rd F.UHF_DIV_STAT_LAST)
  ⟨rx.bytes.take 40, bodyGood (rx.bytes.take 40), ch.1, ch.2.1, ch.2.2, rx.ferr % 65536, s.sys.timebase⟩

theorem exec_uplinkFrameEnd_taken (listen : s.link.listen = .slots n k (some c)) (accepted : c.frames.length < c.syncs) (rx : UhfRx) :
    exec (.uplinkFrameEnd rx) s = .next ((s.crcFeed 0x40 rx.bytes).noteDiv.setListen
      (.slots n k (some { c with frames := c.frames ++ [s.received c rx] }))) := by
  change execUplinkFrameEnd rx s = _
  simp only [execUplinkFrameEnd, listen, if_pos accepted]
  rfl

theorem exec_uplinkFrameEnd_ignored (listen : s.link.listen = .slots n k (some c)) (none : c.syncs ≤ c.frames.length) (rx : UhfRx) :
    exec (.uplinkFrameEnd rx) s = .next s := by
  change execUplinkFrameEnd rx s = _
  simp only [execUplinkFrameEnd, listen, if_neg (Nat.not_lt.mpr none)]

/-! ### SLOT_END (R319, R320) -/

/-- Slot `k` of `n` is over: the next one follows, or with the last the radio is needed no more. -/
def State.slotPast (s : State) (n k : Nat) : State :=
  if n ≤ k + 1 then (s.setListen .none).modUhf (fun u => { u with need := .none }) else s.setListen (.slots n (k + 1) none)

theorem State.slotPast_frame (s : State) (n k : Nat) :
    s.slotPast n k = { s with link := (s.slotPast n k).link, uhf := (s.slotPast n k).uhf } := by
  unfold State.slotPast
  split <;> rfl

theorem State.slotPast_rd (s : State) (n k : Nat) (f : Fld) (i : Nat) : (s.slotPast n k).rd f i = s.rd f i := by
  rw [s.slotPast_frame n k]
  rfl

theorem State.slotPast_idle (idle : s.acc.run = none) (n k : Nat) : (s.slotPast n k).acc.run = none := by
  rw [s.slotPast_frame n k]
  exact idle

/-- `t` has the link and the radio's need of a slot that is over. -/
def SlotPast (s t : State) (n k : Nat) : Prop :=
  (n ≤ k + 1 → t.link.listen = .none ∧ t.uhf.need = .none) ∧ (k + 1 < n → t.link.listen = .slots n (k + 1) none) ∧
    t.link = { s.link with listen := t.link.listen }

theorem State.slotPast_past (link : t.link = (s.slotPast n k).link) (uhf : t.uhf = (s.slotPast n k).uhf) : SlotPast s t n k := by
  unfold SlotPast
  rw [link, uhf]
  unfold State.slotPast
  split
  · exact ⟨fun _ => ⟨rfl, rfl⟩, fun more => absurd more (by omega), rfl⟩
  · exact ⟨fun last => absurd last ‹_›, fun _ => rfl, rfl⟩

theorem exec_slotEnd (listen : s.link.listen = .slots n k (some c)) (last : s.link.last = some x) (energy : List (Int × Nat))
    (early : Bool) : exec (.slotEnd energy early) s = .next (if c.rxAtStart || (c.rx && early) then
      (s.slotPast n k).slotDecided x k (energyTime x.tok.energyTh energy) c (decide (n ≤ k + 1))
    else ((s.slotPast n k).count F.TOK_CNT_MISSED_COUNT).answerIn x k none [] (decide (n ≤ k + 1))) := by
  change execSlotEnd energy early s = _
  simp only [execSlotEnd, listen, last, State.slotPast, decide_eq_true_eq]

/-- A slot whose window opened before RX was reached counts as missed, and nothing else becomes of it. -/
theorem State.slotMissed_effect (s : State) (n k : Nat) :
    let t := (s.slotPast n k).count F.TOK_CNT_MISSED_COUNT
    SlotPast s t n k ∧ t.rd F.TOK_CNT_MISSED_COUNT = (s.rd F.TOK_CNT_MISSED_COUNT + 1) % 2 ^ 32 ∧
      RegsOnly { s with link := t.link, uhf := t.uhf } t [F.TOK_CNT_MISSED_COUNT.key 0] := by
  refine ⟨State.slotPast_past rfl rfl, ?_, ?_⟩
  · rw [← s.slotPast_rd n k]
    exact (s.slotPast n k).rd_wr_self F.TOK_CNT_MISSED_COUNT 0 _
  · rw [s.slotPast_frame n k]
    exact RegsOnly.wr _ F.TOK_CNT_MISSED_COUNT 0 _

/-- A slot that was received is noted with its outcome. -/
theorem State.slotReceived_effect (idle : s.acc.run = none) (x : DownFrame) (n k energy : Nat) (c : SlotRun) (last : Bool) :
    let t := (s.slotPast n k).slotDecided x k energy c last
    SlotPast s t n k ∧ t.rd F.TOK_STAT_SLOT = k % 8 ∧ t.rd F.TOK_CNT_MISSED_COUNT = s.rd F.TOK_CNT_MISSED_COUNT ∧
      (c.syncs = 0 → energy < 1667 → t.rd F.TOK_STAT_OUTCOME = 0) ∧
      (2 ≤ c.syncs ∨ (∃ f ∈ c.frames, f.good = false) ∨ c.frames = [] → 0 < c.syncs ∨ 1667 ≤ energy →
        t.rd F.TOK_STAT_OUTCOME = 1 ∧ t.rd F.TOK_CNT_COLL_COUNT = (s.rd F.TOK_CNT_COLL_COUNT + 1) % 2 ^ 32) ∧
      (∀ f, c.syncs = 1 → c.frames = [f] → f.good = true →
        (bodyFits x f.body = true → tidxFits x k f.body = true → t.rd F.TOK_STAT_OUTCOME = 3 ∧
          t.rd F.TOK_CNT_FRAME_COUNT = (s.rd F.TOK_CNT_FRAME_COUNT + 1) % 2 ^ 32) ∧
        (bodyFits x f.body = false ∨ tidxFits x k f.body = false → t.rd F.TOK_STAT_OUTCOME = 2 ∧
          t.rd F.TOK_CNT_STRAY_COUNT = (s.rd F.TOK_CNT_STRAY_COUNT + 1) % 2 ^ 32)) := by
  have noted := State.slotDecided_noted (s.slotPast_idle idle n k) x k energy c last
  have shows : ∀ {o : LinkOutcome}, slotOutcome x k energy c = o → OutcomeNoted (s.slotPast n k)
      ((s.slotPast n k).slotDecided x k energy c last) o k := fun e => e ▸ noted
  simp only [← s.slotPast_rd n k]
  refine ⟨State.slotPast_past noted.link noted.uhf, noted.slot, noted.missed, fun syncs calm => (shows (slotOutcome_empty syncs calm)).outcome,
    fun bad heard => ?_, fun f syncs frames good => ⟨fun fits tidx => ?_, fun stray => ?_⟩⟩
  · have collision := shows (slotOutcome_collision bad heard)
    exact ⟨collision.outcome, collision.collision rfl⟩
  · have frame := shows ((slotOutcome_single syncs frames good).trans (if_pos (by simp [fits, tidx])))
    exact ⟨frame.outcome, frame.frame rfl⟩
  · have stray := shows ((slotOutcome_single syncs frames good).trans (if_neg (by rcases stray with h | h <;> simp [h])))
    exact ⟨stray.outcome, stray.stray rfl⟩

end Sys2Proof.Machine
end

section
/-! PROOFS. O35: ranging trains and transponder windows, and the statement. -/

namespace Sys2Proof.Machine
open Sys2Proof

variable {s : State} {x : DownFrame}

/-! ### TRAIN_START and TRAIN_END (R321, R324, R369, R414) -/

/-- A train goes out from aerial A to be received at B, with no more power than its sub-band allows. -/
def State.trainSent (s : State) (x : DownFrame) : State :=
  let top := s.sbPower (s.subBand x.tok.dbChan)
  ((if top < s.trainPower then s.setF F.UHF_ERR_DB_CLAMP else s).emitOut
    (.rangingTrain x.tok.dbChan (min s.trainPower top) 0 1 x.tok.spacing s.challengeBits)).setListen (.train true true)

theorem State.trainSent_effect (s : State) (x : DownFrame) :
    (s.trainSent x).out = s.logged [.rangingTrain x.tok.dbChan (min s.trainPower (s.sbPower (s.subBand x.tok.dbChan))) 0 1 x.tok.spacing
      s.challengeBits] ∧ (s.trainSent x).link = { s.link with listen := .train true true } := by
  unfold State.trainSent
  dsimp only
  rw [State.emitOut_logged]
  split
  · exact ⟨rfl, rfl⟩
  · exact ⟨rfl, rfl⟩

theorem exec_trainStart_sent {b : Bool} (listen : s.link.listen = .train false b) (last : s.link.last = some x)
    (on : s.isOn .uhf = true) (tx : s.rd F.UHF_STAT_STATE = 4) : exec .trainStart s = .next (s.trainSent x) := by
  have radio : s.radio = 4 := tx
  change execTrainStart s = _
  simp only [execTrainStart, listen, last, on, radio, decide_true, Bool.and_self, if_true]
  rfl

theorem State.dropTrain_frame (s : State) : s.dropTrain = { s with uhf := s.dropTrain.uhf } := by
  unfold State.dropTrain State.correctCharge
  repeat' split
  all_goals rfl

/-- A train whose radio has not reached TX is not sent. -/
theorem exec_trainStart_unsent {b : Bool} (listen : s.link.listen = .train false b) (last : s.link.last = some x)
    (tx : s.rd F.UHF_STAT_STATE ≠ 4) : exec .trainStart s =
      .next ((s.dropTrain.setListen (.train true false)).modUhf (fun u => { u with need := .none })) := by
  have radio : s.radio ≠ 4 := tx
  change execTrainStart s = _
  simp only [execTrainStart, listen, last, radio, decide_false, Bool.and_false, Bool.false_eq_true, if_false]

/-- Cells of a train without a response that counts (R324). -/
def missingCells (cells : List (Option (Nat × Bool))) : Nat := (List.range 32).countP (fun i => (present (cells.getD i none)).isNone)

theorem missingCells_nil : missingCells [] = 32 := by decide

/-- With no exchange running a measured train counts its missing cells and nothing else. -/
theorem State.trainMeasured_idle (idle : s.acc.run = none) (cells : List (Option (Nat × Bool))) :
    s.trainMeasured cells = s.count F.TOK_CNT_DB_MISS_COUNT 0 (missingCells cells) := by
  simp only [State.trainMeasured, State.count_acc, idle, missingCells]

theorem exec_trainEnd {b : Bool} (listen : s.link.listen = .train true b) (idle : s.acc.run = none) (cells : List (Option TrainCell)) :
    exec (.trainEnd cells) s = .next (({ s with link := { s.link with listen := .none }, uhf := { s.uhf with need := .none } } : State).count
      F.TOK_CNT_DB_MISS_COUNT 0 (missingCells (if b then cells.map (·.bind trainTime) else []))) := by
  change execTrainEnd cells s = _
  simp only [execTrainEnd, listen]
  rw [State.trainMeasured_idle (by exact idle)]
  rfl

/-! ### TP_ANSWER_END and TP_WINDOW_END (R325 to R328) -/

/-- With no exchange running the window ends with its outcome, and its channel drives on. -/
theorem State.tpDone_noted (idle : s.acc.run = none) (x : DownFrame) (o : LinkOutcome) (body : List Byte) :
    OutcomeNoted ((s.setListen .none).wr F.LF_STAT_STATE x.chan 1) (s.tpDone x o body) o 0 := by
  have noted := ((s.setListen .none).wr F.LF_STAT_STATE x.chan 1).noteOutcome_noted x o 1 0 x.chan 0 0 0 body
    (if body.length = 40 then s.sys.timebase else later s.link.ended 2560)
  unfold State.tpDone
  dsimp only
  rwa [State.answerIn_idle (by rw [noted.acc]; exact idle)]

theorem State.tpDone_ended (idle : s.acc.run = none) (x : DownFrame) (o : LinkOutcome) (body : List Byte) :
    (s.tpDone x o body).link = { s.link with listen := .none } ∧ (s.tpDone x o body).rd F.LF_STAT_STATE x.chan = 1 ∧
      (s.tpDone x o body).rd F.TOK_STAT_OUTCOME = o.code := by
  have noted := State.tpDone_noted idle x o body
  exact ⟨noted.link, (noted.lfState x.chan).trans (State.rd_wr_self _ F.LF_STAT_STATE x.chan 1), noted.outcome⟩

/-- The outcome of an answer, EMPTY without a header (R328). -/
def tpResult (x : DownFrame) (answer : Option (List Byte)) : LinkOutcome := (answer.map (tpOutcome x)).getD .empty

theorem tpResult_collision {body : List Byte} (bad : bodyGood body = false) : tpResult x (some body) = .collision := by
  simp [tpResult, tpOutcome, bad]

theorem tpResult_code {body : List Byte} (good : bodyGood body = true) :
    (tpResult x (some body)).code = if bodyFits x body = true ∧ tidxFits x 0 body = true then 3 else 2 := by
  simp only [tpResult, tpOutcome, good, Option.map_some, Option.getD_some, Bool.not_true, Bool.false_eq_true, if_false, Bool.and_eq_true]
  split <;> rfl

theorem exec_tpWindowEnd {c : Nat} (listen : s.link.listen = .transponder c) (last : s.link.last = some x) :
    exec .tpWindowEnd s = .next (s.tpDone x .empty []) := by
  change execTpWindowEnd s = _
  simp only [execTpWindowEnd, listen, last]

theorem exec_tpAnswerEnd {c : Nat} (listen : s.link.listen = .transponder c) (last : s.link.last = some x) (head : TpHead)
    (halves : List (Nat × Nat)) : exec (.tpAnswerEnd head halves) s = .next (s.tpDone x
      (tpResult x (tpAnswer (vget s.link.drives (ix 7 x.chan)).lmTh head halves))
      ((tpAnswer (vget s.link.drives (ix 7 x.chan)).lmTh head halves).getD [])) := by
  change execTpAnswerEnd head halves s = _
  simp only [execTpAnswerEnd, listen, last]
  split
  · rename_i body answer
    rw [answer]
    rfl
  · rename_i answer
    rw [answer]
    rfl

end Sys2Proof.Machine

open Sys2Proof Sys2Proof.Machine

/-- Settles O35: each report of a slot, a train or a transponder window by what the link listens to. -/
theorem slotsTrainsAndWindowsHaveOneOutcome : Obligations.SlotsTrainsAndWindowsHaveOneOutcome := by
  intro s
  refine ⟨fun n k listen more => exec_slotOpen listen more, fun n k c x listen last => ⟨fun t w rx after before few => ?_,
    fun t w out => ?_, fun rx accepted => ?_, fun rx none => exec_uplinkFrameEnd_ignored listen none rx, fun energy early idle => ?_⟩,
    fun b x listen last => ⟨fun on tx => ?_, fun tx => ?_⟩, fun b cells listen idle => ?_, fun c x head halves listen last idle => ⟨?_, ?_⟩⟩
  · rw [exec_syncDetect listen last, if_pos (by simp [SlotRun.takesSync, rx, after, before, few])]
    rfl
  · rw [exec_syncDetect listen last, if_neg]
    unfold SlotRun.takesSync
    rcases out with h | h | h | h <;> simp [h]
  · exact ⟨_, s.received c rx, exec_uplinkFrameEnd_taken listen accepted rx,
      congrArg (fun l : LinkPart => { l with listen := .slots n k (some { c with frames := c.frames ++ [s.received c rx] }) })
        (s.crcFeed_noteDiv_link 0x40 rx.bytes), rfl, bodyGood_take rx.bytes, rfl⟩
  · rw [exec_slotEnd listen last]
    by_cases heard : (c.rxAtStart || (c.rx && early)) = true
    · obtain ⟨⟨last', next, link⟩, received⟩ := State.slotReceived_effect idle x n k (energyTime x.tok.energyTh energy) c (decide (n ≤ k + 1))
      rw [if_pos heard]
      refine ⟨_, rfl, last', next, link, fun late lost => ?_, fun _ => received⟩
      rcases lost with lost | lost <;> simp [late, lost] at heard
    · obtain ⟨⟨last', next, link⟩, missed⟩ := s.slotMissed_effect n k
      rw [if_neg heard, State.answerIn_idle (by exact s.slotPast_idle idle n k)]
      exact ⟨_, rfl, last', next, link, fun _ _ => missed, fun early => absurd (by simpa using early) heard⟩
  · obtain ⟨out, link⟩ := s.trainSent_effect x
    exact ⟨_, _, exec_trainStart_sent listen last on tx, out, Nat.min_le_left _ _, Nat.min_le_right _ _, link⟩
  · rw [exec_trainStart_unsent listen last tx, s.dropTrain_frame]
    exact ⟨_, rfl, rfl, rfl, rfl⟩
  · rw [exec_trainEnd listen idle]
    refine ⟨_, rfl, rfl, rfl, fun unsent => ?_, RegsOnly.wr _ F.TOK_CNT_DB_MISS_COUNT 0 _⟩
    rw [unsent, if_neg Bool.false_ne_true, missingCells_nil]
    exact State.rd_wr_self _ F.TOK_CNT_DB_MISS_COUNT 0 _
  · rw [exec_tpWindowEnd listen last]
    exact ⟨_, rfl, State.tpDone_ended idle x .empty []⟩
  · rw [exec_tpAnswerEnd listen last]
    obtain ⟨link, state, outcome⟩ := State.tpDone_ended idle x _ _
    refine ⟨_, rfl, link, state, fun none => ?_, fun body some bad => ?_, fun body some good => ?_⟩
    · rw [outcome, none]
      rfl
    · rw [outcome, some, tpResult_collision bad]
      rfl
    · rw [outcome, some, tpResult_code good]
end

section
/-! PROOFS. O37: what a refusal and a grant leave, and the feedback and pulse of a lock. -/

namespace Sys2Proof.Machine
open Sys2Proof

variable {s t u : State} {r : AccRun} {p : PathRun} {l : Nat}

/-! ### CANDIDATE_JUDGE without a cipher request (R347, R360) -/

/-- Where the judgement needs no cipher request it is made at once. -/
theorem exec_candidateJudge_now {at_ : JudgeAt} (run : s.acc.run = some r) (stage : r.stage = .judge at_) (job : s.jobFor r = none)
    (core : s.isOn .core = true) : exec .candidateJudge s = .next (s.judge { r with cipher := .idle } at_ []) := by
  change execCandidateJudge s = _
  unfold execCandidateJudge State.judgeNext
  rw [run]
  dsimp only
  rw [stage]
  dsimp only
  rw [if_pos core, job]

theorem exec_candidateJudge_idle (run : s.acc.run = none) : exec .candidateJudge s = .next s := by
  change execCandidateJudge s = _
  unfold execCandidateJudge
  rw [run]

/-- The first candidate's path starts. -/
theorem exec_candidateJudge_start {c : Candidate} {rest : List Candidate} (run : s.acc.run = some r)
    (stage : r.stage = .judge .start) (core : s.isOn .core = true) (crypto : s.isOn .crypto = true) (keys : s.isOn .keys = true)
    (cands : r.cands = c :: rest) : exec .candidateJudge s = .next (s.judgeStart { r with cipher := .idle } c rest) := by
  rw [exec_candidateJudge_now run stage (by rw [State.jobFor, stage]) core]
  unfold State.judge
  rw [crypto, keys, if_neg (by decide)]
  dsimp only
  rw [cands]

/-- A train that has passed brings the path to its last step. -/
theorem exec_candidateJudge_ranged (run : s.acc.run = some r) (stage : r.stage = .judge .ranged) (core : s.isOn .core = true)
    (crypto : s.isOn .crypto = true) (keys : s.isOn .keys = true) (path : r.path = some p) (passed : p.verdict = none) :
    exec .candidateJudge s = .next (s.releaseTest { r with cipher := .idle } { p with dbOk := true }) := by
  rw [exec_candidateJudge_now run stage (by rw [State.jobFor, stage]) core]
  unfold State.judge
  rw [crypto, keys, if_neg (by decide), path]
  dsimp only
  rw [State.judgeRanged, passed]

/-- An EMPTY entry is the first reason of all to refuse a candidate (R360). -/
theorem State.earlyRefusal_empty {c : Candidate} (empty : (s.entry c.tidx).st = 0) (r : AccRun) :
    s.earlyRefusal r c = some .unknownToken := if_pos empty

/-- The run once it has taken candidate `c`, with `rest` left. -/
def AccRun.taking (r : AccRun) (c : Candidate) (rest : List Candidate) : AccRun :=
  { r with cands := rest, taken := true, retries := 0, answered := c.tidx :: r.answered }

theorem State.judgeStart_refused {c : Candidate} {k : Reason} (early : s.earlyRefusal r c = some k) (rest : List Candidate) :
    s.judgeStart r c rest = s.refuse (r.taking c rest) (PathRun.start c) k := by
  unfold State.judgeStart
  dsimp only
  rw [early]
  rfl

/-! ### ACCESS records (R389, R391) -/

theorem State.emit_out (s : State) (f : Fin 25) (rs : List RecordData) (i : Option Nat) : (s.emit f rs i).out = s.out :=
  State.emit_parts State.out (fun _ _ _ => rfl) (fun _ _ _ => rfl) (fun _ _ => rfl) (fun _ _ => rfl) (fun _ _ _ => rfl)
    (fun x c k d => by rw [x.raise_frame]) s f rs i

theorem State.emit_keys (s : State) (f : Fin 25) (rs : List RecordData) (i : Option Nat) : (s.emit f rs i).keys = s.keys :=
  State.emit_parts State.keys (fun _ _ _ => rfl) (fun _ _ _ => rfl) (fun _ _ => rfl) (fun _ _ => rfl) (fun _ _ _ => rfl)
    (fun x c k d => by rw [x.raise_frame]) s f rs i

/-- The counters of a lock stand between the rods and the FIFOs. -/
theorem lockCnt_aside {f : Fld} (counter : f = F.ACC_LOCK_CNT_GRANT_COUNT ∨ f = F.ACC_LOCK_CNT_REFUSE_COUNT) (small : l < 4) :
    Aside f l := by
  intro g mem k few
  simp only [Fld.key, fldKey]
  rcases counter with rfl | rfl <;> fin_cases mem <;> dsimp only <;> omega

theorem State.accessRecord_acc (s : State) (r : AccRun) (k : Reason) (p : Option PathRun) (e : Bool) :
    (s.accessRecord r k p e).acc = s.acc := by
  unfold State.accessRecord
  dsimp only
  rw [State.emit_acc]
  split <;> rfl

theorem State.accessRecord_kept (s : State) (r : AccRun) (k : Reason) (p : Option PathRun) (e : Bool) :
    (s.accessRecord r k p e).keys = s.keys ∧ (s.accessRecord r k p e).out = s.out := by
  unfold State.accessRecord
  dsimp only
  rw [State.emit_keys, State.emit_out]
  split <;> exact ⟨rfl, rfl⟩

/-- A refusal adds one to its counter. -/
theorem State.accessRecord_refuses (small : r.lock < 4) {k : Reason} (refused : k ≠ .granted) (p : Option PathRun) (e : Bool) :
    (s.accessRecord r k p e).rd F.ACC_LOCK_CNT_REFUSE_COUNT r.lock = (s.rd F.ACC_LOCK_CNT_REFUSE_COUNT r.lock + 1) % 2 ^ 32 := by
  unfold State.accessRecord
  dsimp only
  rw [if_neg refused, State.emit_quiet _ _ _ _ _ _ (lockCnt_aside (.inr rfl) small)]
  exact s.rd_wr_self F.ACC_LOCK_CNT_REFUSE_COUNT r.lock _

/-- A grant adds one to its counter. -/
theorem State.accessRecord_grants (small : r.lock < 4) (p : Option PathRun) (e : Bool) :
    (s.accessRecord r .granted p e).rd F.ACC_LOCK_CNT_GRANT_COUNT r.lock = (s.rd F.ACC_LOCK_CNT_GRANT_COUNT r.lock + 1) % 2 ^ 32 := by
  unfold State.accessRecord
  dsimp only
  rw [if_pos rfl, State.emit_quiet _ _ _ _ _ _ (lockCnt_aside (.inl rfl) small)]
  exact s.rd_wr_self F.ACC_LOCK_CNT_GRANT_COUNT r.lock _

/-! ### Refusals (R347, R388) -/

theorem State.refusal_other (p : PathRun) {k : Reason} (other : (s.entry p.cand.tidx).st ≠ 2) : s.refusal p k = k := if_neg other

/-- A refusal of the running exchange with a candidate left: its record, and the next candidate is judged. -/
theorem State.refuse_next {d : Candidate} {rest : List Candidate} {k : Reason} (op : r.op = 1) (more : r.cands = d :: rest)
    (plain : s.refusal p k ≠ .resyncPending) : s.refuse r p k = (s.accessRecord r (s.refusal p k) (some p) false).setRun
      { r with path := none, lastReason := some (s.refusal p k), stage := .judge .start } := by
  unfold State.refuse
  rw [if_neg (by rw [op]; decide)]
  dsimp only
  rw [if_neg plain, State.afterPath, more]

/-- What such a refusal leaves: the sequencer but for its run, and the counter of refusals one higher. -/
theorem State.refuse_next_effect {d : Candidate} {rest : List Candidate} {k : Reason} (op : r.op = 1) (small : r.lock < 4)
    (more : r.cands = d :: rest) (plain : s.refusal p k ≠ .resyncPending) (refused : s.refusal p k ≠ .granted) :
    (s.refuse r p k).acc = { s.acc with
      run := some { r with path := none, lastReason := some (s.refusal p k), stage := .judge .start } } ∧
    (s.refuse r p k).rd F.ACC_LOCK_CNT_REFUSE_COUNT r.lock = (s.rd F.ACC_LOCK_CNT_REFUSE_COUNT r.lock + 1) % 2 ^ 32 := by
  rw [State.refuse_next op more plain]
  refine ⟨?_, State.accessRecord_refuses small refused _ _⟩
  rw [State.setRun, State.modAcc, State.accessRecord_acc]

/-! ### What a grant and the end of its exchange keep (R383, R376) -/

/-- From `s` to `t` the keys, the pulses, what has left the device and the grants counted of lock `l` stay, and so does each failure
count that is 0. -/
structure GrantKept (l : Nat) (s t : State) : Prop where
  keys : t.keys = s.keys
  pulse : t.acc.pulse = s.acc.pulse
  out : ∀ o ∈ s.out, o ∈ t.out
  count : t.rd F.ACC_LOCK_CNT_GRANT_COUNT l = s.rd F.ACC_LOCK_CNT_GRANT_COUNT l
  lock : ∀ k, s.lockFails k = 0 → t.lockFails k = 0
  token : ∀ i, s.tokFails i = 0 → t.tokFails i = 0

theorem GrantKept.refl (l : Nat) (s : State) : GrantKept l s s := ⟨rfl, rfl, fun _ h => h, rfl, fun _ h => h, fun _ h => h⟩

theorem GrantKept.trans (h : GrantKept l s t) (g : GrantKept l t u) : GrantKept l s u :=
  ⟨g.keys.trans h.keys, g.pulse.trans h.pulse, fun o mem => g.out o (h.out o mem), g.count.trans h.count,
    fun k z => g.lock k (h.lock k z), fun i z => g.token i (h.token i z)⟩

/-- A step that leaves the sequencer. -/
theorem GrantKept.of_acc (acc : t.acc = s.acc) (keys : t.keys = s.keys) (out : ∀ o ∈ s.out, o ∈ t.out)
    (count : t.rd F.ACC_LOCK_CNT_GRANT_COUNT l = s.rd F.ACC_LOCK_CNT_GRANT_COUNT l) : GrantKept l s t :=
  ⟨keys, by rw [acc], out, count, fun _ z => by rw [State.lockFails, acc]; exact z, fun _ z => by rw [State.tokFails, acc]; exact z⟩

theorem GrantKept.wr (h : GrantKept l s t) {f : Fld} {i : Nat} (ne : f.key i ≠ F.ACC_LOCK_CNT_GRANT_COUNT.key l) (v : Nat) :
    GrantKept l s (t.wr f i v) := h.trans (.of_acc rfl rfl (fun _ mem => mem) (t.rd_wr_ne ne v))

theorem GrantKept.ite {c : Prop} [Decidable c] (h : GrantKept l s t) (g : GrantKept l s u) : GrantKept l s (if c then t else u) := by
  split
  exacts [h, g]

/-- An output goes in front of those that have left. -/
theorem State.mem_emitOut {o : Output} (mem : o ∈ s.out) (x : Output) : o ∈ (s.emitOut x).out := by
  rw [State.emitOut_logged]
  exact List.mem_append_right _ mem

theorem State.retryOut_out {o : Output} (mem : o ∈ s.out) : o ∈ s.retryOut.out := by
  unfold State.retryOut
  split
  · rename_i r _
    split
    · exact mem
    · cases s.txn? r.txn with
      | none => exact mem
      | some t => exact State.mem_emitOut mem _
  · exact mem

/-- The serial master takes its next frame and nothing that has left is taken back. -/
theorem State.serialNext_out {o : Output} (mem : o ∈ s.out) : o ∈ s.serialNext.out := by
  unfold State.serialNext
  split
  · exact mem
  split
  · exact State.retryOut_out mem
  split
  · exact State.mem_emitOut mem _
  · split
    · refine State.mem_emitOut ?_ _
      split <;> exact mem
    · exact State.retryOut_out mem
  · exact State.retryOut_out mem

theorem State.serialNext_grantKept (small : l < 4) (s : State) : GrantKept l s s.serialNext := by
  have only := s.serialNext_serialOnly
  refine .of_acc only.acc (by rw [only.frame]) (fun _ => State.serialNext_out) (only.rd ?_)
  simp only [Fld.key, fldKey]
  omega

/-- A change of what of the sequencer is neither a count nor a pulse. -/
theorem State.modAcc_grantKept {f : AccPart → AccPart} (pulse : (f s.acc).pulse = s.acc.pulse)
    (lock : (f s.acc).lockFails = s.acc.lockFails) (token : (f s.acc).tokFails = s.acc.tokFails) : GrantKept l s (s.modAcc f) :=
  ⟨rfl, pulse, fun _ mem => mem, rfl, fun k z => (congrArg (fun v => vget v (ix 3 k)) lock).trans z,
    fun i z => (congrArg (fun v => tabGet 0 v i) token).trans z⟩

theorem State.mirrorChange_grantKept (small : l < 4) (s : State) : GrantKept l s s.mirrorChange := by
  have queued : ∀ (x : State) (cs : Nat) (fs : List SerialFrame), GrantKept l x (x.queueFrames cs fs) := fun x cs fs =>
    GrantKept.trans (t := x.modSerial (fun y => { y with frames := y.frames ++ fs, cs := cs }))
      (.of_acc rfl rfl (fun _ mem => mem) rfl) (State.serialNext_grantKept small _)
  unfold State.mirrorChange State.mirrorStart
  exact .ite (.refl l s) (.ite (State.modAcc_grantKept rfl rfl rfl) ((State.modAcc_grantKept rfl rfl rfl).trans (queued _ _ _)))

theorem State.endWait_grantKept (s : State) (b : Bool) (i : Nat) : GrantKept l s (s.endWait b i) :=
  State.modAcc_grantKept rfl rfl rfl

/-- The count of lock `k` is 0. -/
def State.zeroLock (s : State) (k : Nat) : State := s.modAcc (fun a => { a with lockFails := vset a.lockFails (ix 3 k) 0 })

/-- The count of token entry `i` is 0. -/
def State.zeroToken (s : State) (i : Nat) : State := s.modAcc (fun a => { a with tokFails := tabSet 0 a.tokFails i 0 })

theorem State.zeroLock_lockFails (s : State) (k : Nat) : (s.zeroLock k).lockFails k = 0 := vget_vset_self s.acc.lockFails (ix 3 k) 0

theorem State.zeroToken_tokFails (s : State) (i : Nat) : (s.zeroToken i).tokFails i = 0 := tabGet_tabSet_self 0 0 s.acc.tokFails i

theorem State.zeroLock_grantKept (s : State) (k : Nat) : GrantKept l s (s.zeroLock k) := by
  refine ⟨rfl, rfl, fun _ mem => mem, rfl, fun j z => ?_, fun _ z => z⟩
  by_cases same : ix 3 k = ix 3 j
  · exact (congrArg (vget (s.zeroLock k).acc.lockFails) same.symm).trans (s.zeroLock_lockFails k)
  · exact (vget_vset_ne s.acc.lockFails 0 same).trans z

theorem State.zeroToken_grantKept (s : State) (i : Nat) : GrantKept l s (s.zeroToken i) := by
  refine ⟨rfl, rfl, fun _ mem => mem, rfl, fun _ z => z, fun j z => ?_⟩
  by_cases same : i = j
  · exact same ▸ s.zeroToken_tokFails i
  · exact (tabGet_tabSet_ne 0 0 0 s.acc.tokFails same).trans z

/-- The count of a lock goes to 0 and its wait ends (R376). -/
theorem State.clearLock_kept (small : l < 4) (s : State) (k : Nat) : GrantKept l s (s.clearLock k) ∧ (s.clearLock k).lockFails k = 0 := by
  have cleared : GrantKept l s (s.setLockFails k 0) ∧ (s.setLockFails k 0).lockFails k = 0 := by
    unfold State.setLockFails
    split
    next already => exact ⟨.refl l s, already⟩
    next =>
      have mirrored := (s.zeroLock k).mirrorChange_grantKept small
      exact ⟨(s.zeroLock_grantKept k).trans mirrored, mirrored.lock k (s.zeroLock_lockFails k)⟩
  have waited := (s.setLockFails k 0).endWait_grantKept (l := l) false k
  exact ⟨cleared.1.trans waited, waited.lock k cleared.2⟩

/-- The count of a token goes to 0 and its wait ends (R376). -/
theorem State.clearToken_kept (small : l < 4) (s : State) (i : Nat) : GrantKept l s (s.clearToken i) ∧ (s.clearToken i).tokFails i = 0 := by
  have cleared : GrantKept l s (s.setTokFails i 0) ∧ (s.setTokFails i 0).tokFails i = 0 := by
    unfold State.setTokFails
    split
    next already => exact ⟨.refl l s, already⟩
    next =>
      have mirrored := (s.zeroToken i).mirrorChange_grantKept small
      exact ⟨(s.zeroToken_grantKept i).trans mirrored, mirrored.token i (s.zeroToken_tokFails i)⟩
  have waited := (s.setTokFails i 0).endWait_grantKept (l := l) true i
  exact ⟨cleared.1.trans waited, waited.token i cleared.2⟩

theorem State.lfCut_grantKept (s : State) (n : Nat) : GrantKept l s (s.lfCut n) := by
  have drawn : ∀ x : State, GrantKept l x x.drawFree.1 := fun _ => .of_acc rfl rfl (fun _ mem => mem) rfl
  have opens : ∀ f : LinkPart → LinkPart, GrantKept l s (s.drawFree.1.drawFree.1.modLink f) := fun _ =>
    .of_acc rfl rfl (fun _ mem => mem) rfl
  have ne : ∀ f ∈ [F.LF_STAT_W, F.LF_STAT_STATE, F.LF_MEAS_PHASE, F.LF_MEAS_IPK_MEAS],
      f.key n ≠ F.ACC_LOCK_CNT_GRANT_COUNT.key l := by
    intro f mem
    simp only [Fld.key, fldKey]
    fin_cases mem <;> dsimp only <;> omega
  have meas : ∀ (x : State) (a b : Nat), GrantKept l x (x.lfMeas n a b []) := fun x a b =>
    ((drawn x).wr (ne F.LF_MEAS_PHASE (by simp)) _).wr (ne F.LF_MEAS_IPK_MEAS (by simp)) _
  unfold State.lfCut
  refine .ite (GrantKept.trans ?_ (meas _ _ _)) (.ite ((GrantKept.refl l s).wr (ne F.LF_STAT_STATE (by simp)) _) (.refl l s))
  exact ((opens _).wr (ne F.LF_STAT_W (by simp)) _).wr (ne F.LF_STAT_STATE (by simp)) _

/-- The link stops (R351). -/
theorem State.linkStop_grantKept (s : State) : GrantKept l s s.linkStop := by
  have idle : ∀ x : State, GrantKept l x
      ((x.modLink (fun l => { l with frame := none, last := none, listen := .none })).modUhf (fun u => { u with need := .none })) :=
    fun _ => .of_acc rfl rfl (fun _ mem => mem) rfl
  have listened : ∀ x : State, GrantKept l x (match x.link.last with | some y => if y.tp then x.lfCut y.chan else x | none => x) := by
    intro x
    split
    exacts [.ite (x.lfCut_grantKept _) (.refl l x), .refl l x]
  unfold State.linkStop
  refine GrantKept.trans (GrantKept.trans ?_ (listened _)) (idle _)
  split
  next x _ =>
    have cut := s.lfCut_grantKept (l := l) x.chan
    dsimp only
    split
    exacts [cut.trans (State.lfCut_grantKept _ _), cut]
  next => exact .refl l s

/-- An edge of the TOKEN signal makes captures (R555). -/
theorem State.tokenEdge_acc (s : State) (was now : Bool) : (s.tokenEdge was now).acc = s.acc := by
  unfold State.tokenEdge
  split
  · rfl
  · rw [s.signalEdge_captureOnly]

theorem State.tokenEdge_grantKept (small : l < 4) (s : State) (was now : Bool) : GrantKept l s (s.tokenEdge was now) := by
  have edge : Quiet s (s.signalEdge 0x38 now) := by
    unfold State.signalEdge
    exact Quiet.ite (Quiet.eachOf (fun k x => Quiet.ite (x.capture_quiet k) (.refl x)) _ s) (.refl s)
  have only := s.signalEdge_captureOnly 0x38 now
  unfold State.tokenEdge
  refine .ite (.refl l s) (.of_acc ?_ ?_ (fun o mem => ?_) (edge _ _ (lockCnt_aside (.inl rfl) small)))
  · rw [only]
  · rw [only]
  · rw [only]
    exact mem

/-- A request completes (R393, R397). -/
theorem State.endReq_acc (s : State) (q : AccReq) (st : Status) : (s.endReq q st).acc = s.acc := by
  unfold State.endReq
  split
  · rw [s.finish_frame]
  all_goals rfl

theorem State.endReq_grantKept (small : l < 4) (s : State) (q : AccReq) (st : Status) : GrantKept l s (s.endReq q st) := by
  unfold State.endReq
  split
  next id _ =>
    rw [s.finish_frame]
    exact .of_acc rfl rfl (fun _ mem => mem) rfl
  next =>
    have done : F.ACC_CMD_STAT_DONE.key 0 ≠ F.ACC_LOCK_CNT_GRANT_COUNT.key l ∧
        F.ACC_CMD_STAT_STATUS.key 0 ≠ F.ACC_LOCK_CNT_GRANT_COUNT.key l := by
      simp only [Fld.key, fldKey]
      omega
    exact ((GrantKept.refl l s).wr done.1 1).wr done.2 _
  next => exact .refl l s

/-- Waits that start leave the counts. -/
theorem State.startWaits_grantKept (s : State) (r : AccRun) : GrantKept l s (s.startWaits r) := by
  have started : ∀ (x : State) (b : Bool) (i k : Nat), GrantKept l x (x.startWait b i k) := fun x b i k => by
    unfold State.startWait
    exact .ite (x.endWait_grantKept b i) ((x.endWait_grantKept b i).trans (State.modAcc_grantKept rfl rfl rfl))
  unfold State.startWaits
  dsimp only
  refine forAll_inv (GrantKept l s) (fun i x h => h.trans (started x _ _ _)) _ _ ?_
  exact .ite (started _ _ _ _) (.refl l s)

/-- The transaction of the sequencer is over, with no cipher request of it under way (R342, R375, R394). -/
theorem State.closeRun_kept (small : l < 4) (s : State) (idle : r.cipher = .idle) (st : Status) :
    GrantKept l s (s.closeRun r st) ∧ (s.closeRun r st).acc.run = none := by
  have train : GrantKept l (s.startWaits r) (s.startWaits r).dropTrain := by
    rw [State.dropTrain_frame]
    exact .of_acc rfl rfl (fun _ mem => mem) rfl
  have stopped := ((s.startWaits_grantKept r).trans train).trans (State.linkStop_grantKept _)
  unfold State.closeRun
  rw [idle]
  refine ⟨((stopped.trans (State.modAcc_grantKept rfl rfl rfl)).trans (State.tokenEdge_grantKept small _ _ _)).trans
    (State.endReq_grantKept small _ _ _), ?_⟩
  rw [State.endReq_acc, State.tokenEdge_acc]
  rfl

/-! ### The grant (R376, R382, R383, R389) -/

/-- Step 12 of R360 without a wait, for an ENROLLED entry and with the lock closed. -/
theorem State.releaseTest_grants (lock : s.waiting false r.lock = false) (token : s.waiting true p.cand.tidx = false)
    (enrolled : (s.entry p.cand.tidx).st = 1) (closed : s.interlockAgrees r = true) : s.releaseTest r p = s.grantLock r p := by
  unfold State.releaseTest
  rw [lock, token, enrolled, closed]
  rfl

/-- Without END the exchange ends at once, with the status of its last decision. -/
theorem State.endPhase_silent {k : Reason} (silent : r.cfg.endEn = false) (op : r.op = 1) (last : r.lastReason = some k) (s : State) :
    s.endPhase r = s.closeRun r k.status := by
  have close : s.closeEnd r = s.closeRun r k.status := by
    unfold State.closeEnd
    rw [op, if_neg (by decide), last]
  unfold State.endPhase
  rw [silent, close]
  split <;> rfl

/-- The pulse of a grant starts: the release output takes its active level (R383). -/
def State.pulseStarts (s : State) (r : AccRun) : State :=
  (s.modAcc (fun a => { a with
    pulse := vset a.pulse (ix 3 r.lock) true, pulsePol := vset a.pulsePol (ix 3 r.lock) r.cfg.pol,
    moveWait := vset a.moveWait (ix 3 r.lock) (r.cfg.fbTime != 0) })).emitOut (.release r.lock !r.cfg.pol)

/-- The run once it has released its lock for token `i`: neither count has risen in it. -/
def AccRun.released (r : AccRun) (i : Nat) : AccRun :=
  { r with
    lockRose := false, tokRose := r.tokRose.filter (· != i), path := none, cands := [], granted := true,
    lastReason := some .granted }

/-- The counts of the lock and of the token are 0 with the pulse started, and its record is written. -/
theorem State.grantLock_eq (s : State) (r : AccRun) (p : PathRun) : s.grantLock r p =
    ((((s.pulseStarts r).clearLock r.lock).clearToken p.cand.tidx).accessRecord r .granted (some p)
      (vget s.acc.pulse (ix 3 r.lock))).endPhase (r.released p.cand.tidx) := rfl

theorem State.pulseStarts_out (s : State) (r : AccRun) : .release r.lock (!r.cfg.pol) ∈ (s.pulseStarts r).out := by
  rw [State.pulseStarts, State.emitOut_logged]
  exact List.mem_append_left _ (List.mem_filter.mpr ⟨List.mem_singleton_self _, by simp [Output.atBalls]⟩)

/-- What a grant without END leaves. -/
theorem State.grantLock_effect (small : r.lock < 4) (idle : r.cipher = .idle) (op : r.op = 1) (silent : r.cfg.endEn = false) (s : State)
    (p : PathRun) :
    (s.grantLock r p).acc.run = none ∧ vget (s.grantLock r p).acc.pulse (ix 3 r.lock) = true ∧
    .release r.lock (!r.cfg.pol) ∈ (s.grantLock r p).out ∧ (s.grantLock r p).lockFails r.lock = 0 ∧
    (s.grantLock r p).tokFails p.cand.tidx = 0 ∧
    (s.grantLock r p).rd F.ACC_LOCK_CNT_GRANT_COUNT r.lock = (s.rd F.ACC_LOCK_CNT_GRANT_COUNT r.lock + 1) % 2 ^ 32 ∧
    (s.grantLock r p).keys = s.keys := by
  obtain ⟨lockKept, lock⟩ := (s.pulseStarts r).clearLock_kept small r.lock
  obtain ⟨tokenKept, token⟩ := State.clearToken_kept small ((s.pulseStarts r).clearLock r.lock) p.cand.tidx
  have cleared := lockKept.trans tokenKept
  rw [State.grantLock_eq, State.endPhase_silent (r := r.released p.cand.tidx) silent op rfl]
  generalize ((s.pulseStarts r).clearLock r.lock).clearToken p.cand.tidx = u at *
  obtain ⟨keys, out⟩ := u.accessRecord_kept r .granted (some p) (vget s.acc.pulse (ix 3 r.lock))
  have acc := u.accessRecord_acc r .granted (some p) (vget s.acc.pulse (ix 3 r.lock))
  have counted := State.accessRecord_grants (s := u) small (some p) (vget s.acc.pulse (ix 3 r.lock))
  generalize u.accessRecord r .granted (some p) (vget s.acc.pulse (ix 3 r.lock)) = w at *
  obtain ⟨ended, gone⟩ := w.closeRun_kept (r := r.released p.cand.tidx) small idle Reason.granted.status
  refine ⟨gone, ?_, ended.out _ (out ▸ cleared.out _ (s.pulseStarts_out r)), ended.lock _ ?_, ended.token _ ?_, ?_, ?_⟩
  · rw [ended.pulse, acc, cleared.pulse]
    exact vget_vset_self s.acc.pulse (ix 3 r.lock) true
  · rw [State.lockFails, acc]
    exact tokenKept.lock _ lock
  · rw [State.tokFails, acc]
    exact token
  · rw [ended.count, counted, cleared.count]
    rfl
  · rw [ended.keys, keys, cleared.keys]
    rfl

/-! ### The interlock (R382) -/

theorem exec_interlockWaitExpiry_waits (run : s.acc.run = some r) (stage : r.stage = .interlock) (path : r.path = some p) :
    exec .interlockWaitExpiry s = .next (s.refuse r p .interlock) := by
  change execInterlockWaitExpiry s = _
  unfold execInterlockWaitExpiry
  rw [run]
  dsimp only
  rw [stage, path]

theorem exec_interlockWaitExpiry_idle (run : s.acc.run = none) : exec .interlockWaitExpiry s = .next s := by
  change execInterlockWaitExpiry s = _
  unfold execInterlockWaitExpiry
  rw [run]

theorem State.retestInterlock_idle (run : s.acc.run = none) (l : Nat) : s.retestInterlock l = s := by
  unfold State.retestInterlock
  rw [run]

/-! ### Feedback and pulse of a lock (R383, R384) -/

section
variable {l : Fin 4} {b : Bool}

/-- The debounced level of a lock is taken. -/
def State.feedbackTaken (s : State) (l : Fin 4) (b : Bool) : State :=
  s.modAcc (fun a => { a with fb := vset a.fb l b, fbKnown := vset a.fbKnown l true })

theorem State.raise_acc (s : State) (c : EventCode) (k : Nat) (d : List Byte) : (s.raise c k d).acc = s.acc := by rw [s.raise_frame]

theorem exec_relFbDebounce_none (none : s.isOn .core = false ∨ (vget s.acc.fb l = b ∧ vget s.acc.fbKnown l = true)) :
    exec (.relFbDebounce l b) s = .next s := by
  change execRelFbDebounce l b s = _
  unfold execRelFbDebounce
  rcases none with off | ⟨same, known⟩
  · rw [off, Bool.false_and, if_neg Bool.false_ne_true]
  · rw [same, known, bne_self_eq_false, Bool.not_true, Bool.or_self, Bool.and_false, if_neg Bool.false_ne_true]

/-- The first debounced level is the reset value: it is known from now on. -/
theorem exec_relFbDebounce_first (core : s.isOn .core = true) (run : s.acc.run = none) (same : vget s.acc.fb l = b)
    (unknown : vget s.acc.fbKnown l = false) : exec (.relFbDebounce l b) s = .next (s.feedbackTaken l b) := by
  change execRelFbDebounce l b s = _
  unfold execRelFbDebounce
  rw [core, same, unknown, bne_self_eq_false, if_pos (by rfl)]
  exact congrArg Host.Outcome.next (State.retestInterlock_idle (s := s.feedbackTaken l b) run l.val)

/-- A new level with no exchange: INTERLOCK, and RELEASE_FAULT when the lock opens with no pulse. -/
theorem exec_relFbDebounce_changed (changed : vget s.acc.fb l ≠ b) (core : s.isOn .core = true) (run : s.acc.run = none) :
    let u := (s.feedbackTaken l b).raise .interlock unitAcc (leBytes 1 l.val ++ leBytes 1 (b2n b))
    exec (.relFbDebounce l b) s = .next (if b ≠ s.flag F.ACC_REL_CFG_FB_POL l.val ∧ vget s.acc.pulse l = false then
      u.raise .releaseFault unitAcc (leBytes 1 l.val ++ leBytes 1 2) else u) := by
  have differs : (vget s.acc.fb l != b) = true := bne_iff_ne.mpr changed
  change execRelFbDebounce l b s = _
  unfold execRelFbDebounce
  rw [differs, core, if_pos (by simp)]
  refine congrArg Host.Outcome.next ?_
  dsimp only
  rw [State.retestInterlock_idle]
  · simp only [Bool.true_and, Bool.and_eq_true, bne_iff_ne, Bool.not_eq_true', when_true]
    rfl
  · split
    · rw [State.raise_acc, when_true, State.raise_acc]
      exact run
    · rw [when_true, State.raise_acc]
      exact run

theorem exec_releaseNoMove_none (none : vget s.acc.moveWait l = false) : exec (.releaseNoMove l) s = .next s := by
  change execReleaseNoMove l s = _
  rw [execReleaseNoMove, none, if_neg Bool.false_ne_true]

theorem exec_releaseNoMove_waits (waits : vget s.acc.moveWait l = true) :
    let u := s.modAcc (fun a => { a with moveWait := vset a.moveWait l false })
    exec (.releaseNoMove l) s = .next (if vget s.acc.fb l = s.flag F.ACC_REL_CFG_FB_POL l.val then
      u.raise .releaseFault unitAcc (leBytes 1 l.val ++ leBytes 1 1) else u) := by
  change execReleaseNoMove l s = _
  rw [execReleaseNoMove, waits, if_pos rfl]
  simp only [beq_iff_eq]

theorem exec_releasePulseEnd_none (none : vget s.acc.pulse l = false) : exec (.releasePulseEnd l) s = .next s := by
  change execReleasePulseEnd l s = _
  rw [execReleasePulseEnd, none, if_neg Bool.false_ne_true]

theorem exec_releasePulseEnd_active (active : vget s.acc.pulse l = true) : exec (.releasePulseEnd l) s = .next { s with
    out := s.logged [.release l.val (s.flag F.ACC_REL_CFG_POL l.val)], acc := { s.acc with pulse := vset s.acc.pulse l false } } := by
  have level : (s.modAcc (fun a => { a with pulse := vset a.pulse l false })).relLevel l = s.flag F.ACC_REL_CFG_POL l.val := by
    unfold State.relLevel
    rw [show vget (s.modAcc (fun a => { a with pulse := vset a.pulse l false })).acc.pulse l = false from vget_vset_self s.acc.pulse l false]
    rfl
  change execReleasePulseEnd l s = _
  rw [execReleasePulseEnd, active, if_pos rfl]
  dsimp only
  rw [level, State.emitOut_logged]
  rfl

end

end Sys2Proof.Machine

open Sys2Proof Sys2Proof.Machine

/-- Settles O37: a refusal goes on to the next candidate, a grant ends the exchange and keeps what it has set, and each report of
a lock's feedback or pulse does what its state says. -/
theorem candidatesAreJudgedAndLocksReleased : Obligations.CandidatesAreJudgedAndLocksReleased := by
  unfold Obligations.CandidatesAreJudgedAndLocksReleased
  intro s
  refine ⟨fun r c d rest run op small cands core crypto keys stage empty => ?_,
    fun r p run op small core crypto keys stage path passed lock token enrolled closed silent _ => ?_,
    fun r p d rest run op small stage path cands => ?_,
    fun run => ⟨exec_interlockWaitExpiry_idle run, exec_candidateJudge_idle run⟩,
    fun l b => ⟨fun same known => exec_relFbDebounce_none (.inr ⟨same, known⟩), fun off => exec_relFbDebounce_none (.inl off),
      exec_relFbDebounce_first, fun changed _ core run => exec_relFbDebounce_changed changed core run, exec_releaseNoMove_none,
      exec_releaseNoMove_waits, exec_releasePulseEnd_active, exec_releasePulseEnd_none⟩⟩
  · have reason : s.refusal (PathRun.start c) .unknownToken = .unknownToken := State.refusal_other _ (by
      change (s.entry c.tidx).st ≠ 2
      omega)
    obtain ⟨acc, counted⟩ := State.refuse_next_effect (s := s) (p := PathRun.start c) (k := .unknownToken)
      (r := AccRun.taking { r with cipher := .idle } c (d :: rest)) op small rfl (by rw [reason]; decide) (by rw [reason]; decide)
    rw [reason] at acc
    refine ⟨_, ?_, by rw [acc], by rw [acc]; rfl, counted⟩
    rw [exec_candidateJudge_start run stage core crypto keys cands, State.judgeStart_refused (State.earlyRefusal_empty empty _)]
  · have granted : s.releaseTest { r with cipher := .idle } { p with dbOk := true } = _ :=
      State.releaseTest_grants lock token enrolled closed
    exact ⟨_, (exec_candidateJudge_ranged run stage core crypto keys path passed).trans (congrArg Host.Outcome.next granted),
      State.grantLock_effect (r := { r with cipher := .idle }) small rfl op silent s { p with dbOk := true }⟩
  · have reason : s.refusal p .interlock = if (s.entry p.cand.tidx).st = 2 then .revoked else .interlock := rfl
    have decided : s.refusal p .interlock ≠ .resyncPending ∧ s.refusal p .interlock ≠ .granted := by
      rw [reason]
      split <;> decide
    exact ⟨_, exec_interlockWaitExpiry_waits run stage path, State.refuse_next_effect op small cands decided.1 decided.2⟩
end

section
/-! PROOFS. Why the statement of enrolment, revocation and ABORT fails: it speaks of every state, and in one whose running
VERIFY_DECRYPT bears the identity that the next fetch gives away, an ABORT ends itself as that VERIFY_DECRYPT (R395). -/

namespace Sys2Proof.Machine
open Sys2Proof

/-- Every domain is ON, ring 24 has one descriptor to fetch, and a VERIFY_DECRYPT runs whose transaction is none of the list: it
bears the identity that the next transaction gets. -/
def strayDecrypt : State :=
  (({ State.reset with
    pwr := { PwrPart.reset with st := Vector.replicate 12 .on, step := 0 },
    host := { HostPart.reset with bme := true },
    acc := { AccPart.reset with vd := some ⟨State.reset.sys.nextId, [], false, false, .idle⟩ } } : State).wr
      F.HOST_SQ_CFG_EN 24 1).wr F.DOORBELL_SQ_COUNT 24 1

/-- The fetch finds the ABORT, and no transaction, request or exchange knows the identity that it gives away. -/
theorem strayDecrypt_carriedOut : CarriedOut strayDecrypt 24 0x0F abortDesc := by
  have imports : strayDecrypt.keys.imports = [] := rfl
  have run : strayDecrypt.acc.run = none := rfl
  refine ⟨by decide, by decide, by decide, by decide, by decide, by decide, fun i named => ?_, by decide, fun r i c runs => ?_⟩
  · rw [imports] at named
    exact absurd named List.not_mem_nil
  · rw [run] at runs
    exact absurd runs (by simp)

/-- The ABORT ends the VERIFY_DECRYPT, and so its own transaction, ABORTED; its OK then finds a transaction that has ended. -/
theorem strayDecrypt_abort : ∃ t, exec (.accAbort abortDesc) strayDecrypt = .next t ∧
    (t.txn? strayDecrypt.sys.nextId).map Txn.phase = some (.done .aborted) :=
  ⟨_, rfl, by decide⟩

end Sys2Proof.Machine

open Sys2Proof Sys2Proof.Machine

/-- Refutes O38: in `strayDecrypt` an ABORT completes ABORTED, where the statement has it complete OK. Its transaction gets the
identity of the VERIFY_DECRYPT that runs, which it ends ABORTED before it ends itself. The statement lacks the hypothesis that
the identity of the next transaction is not that of the running VERIFY_DECRYPT either; `FreshId` leaves it out. -/
theorem not_tokensAreEnrolledRevokedAndTheirCountsCleared : ¬ Obligations.TokensAreEnrolledRevokedAndTheirCountsCleared := by
  unfold Obligations.TokensAreEnrolledRevokedAndTheirCountsCleared
  intro h
  obtain ⟨-, -, -, -, -, -, -, abort⟩ := h strayDecrypt
  obtain ⟨t, run, ⟨v, found, ok⟩, -⟩ := abort abortDesc strayDecrypt_carriedOut
  obtain ⟨u, run', aborted⟩ := strayDecrypt_abort
  obtain rfl := Host.Outcome.next.inj (run'.symm.trans run)
  rw [found, Option.map_some, ok] at aborted
  exact absurd aborted (by decide)
end
